-- ==== Sys2Proof/Word.lean ====
section
/-! DEFINITION. The word types of the part (R23, R430): 32-bit registers and memory bytes. -/

namespace Sys2Proof

/-- A 32-bit register word (R23). -/
abbrev Word := BitVec 32

/-- One byte of DRAM or of a packet. -/
abbrev Byte := BitVec 8

end Sys2Proof
end

