-- ==== Sys2Proof/Syntax.lean ====
section
/-! DEFINITION. The commands the part takes, and the names they use: blocks, pages and origins. -/

namespace Sys2Proof

/-- The block types of R16 and R40. TIMEL is kept apart from TIME0-TIME3, whose registers differ (R409). -/
inductive Block where
  | glb | sup | thm | pace | evt | svc | sec | host | dma | camp | cams | cctl | shut | bench | svb | lutm | strm
  | zraw | enc | dec | bpool | head | layer | dpo | chk | net | pkt | time | timel | aud | amclk | ddrc | memx | session
deriving DecidableEq, Repr

/-- The origins of R27: the port an access came through. `ap` is an application processor, which carries code 5
through the gate of R473. -/
inductive Origin where
  | hostA | hostB | svc | net | keeper | debug | ap
deriving DecidableEq, Repr

/-- The origin codes of R27. -/
def Origin.code : Origin → Nat
  | .hostA => 1
  | .hostB => 2
  | .svc => 3
  | .net => 4
  | .keeper => 5
  | .debug => 6
  | .ap => 5

/-- A page of an instance: `pg` is the page within the instance's window (0 is the primary page, R22). -/
structure Page where
  blk : Block
  inst : Nat
  pg : Nat
deriving DecidableEq, Repr

/-- What a decoder reads of a slice in its header and in the parameter sets and SEI that go with it; the codec's standard
gives each value (R272, R276-R288). -/
structure SliceHdr where
  /-- NAL units before it that failed to parse (R279). -/
  broken : Nat
  /-- 0 = good, 1 = fails to parse or exceeds a limit of its profile, 2 = names an absent parameter set. -/
  parse : Fin 3
  /-- First slice of a picture other than the one in progress (R278). -/
  first : Bool
  irap : Bool
  /-- Every coding tool lies in the context's PROFILE (R272). -/
  tools : Bool
  width : Nat
  height : Nat
  /-- Visible rectangle: x, y, width, height (R286). -/
  window : Nat × Nat × Nat × Nat
  /-- 0 = monochrome, 1 = 4:2:0, 2 = 4:2:2. -/
  chroma : Fin 3
  /-- Bit depth 10, else 8. -/
  ten : Bool
  /-- Side of a CTU or macroblock: 16, 32 or 64. -/
  ctu : Nat
  /-- Pictures the sequence needs (R281), and its reorder limit (R286). -/
  need : Nat
  reorder : Nat
  /-- What becomes of earlier pictures at a picture that starts a coded sequence: 0 = nothing, 1 = output, 2 = discarded. -/
  prior : Fin 3
  poc : Int
  /-- frame_num and its modulus (H.264), or the POC and 0 (HEVC). -/
  num : Int
  numMod : Nat
  /-- recovery_frame_cnt or recovery_poc_cnt of a recovery point SEI of the picture. -/
  recovery : Option Int
  /-- No later picture may reference it (R288). -/
  nonRef : Bool
  /-- Marked as not for output. -/
  noOutput : Bool
  /-- Address of the first CTU or macroblock. -/
  addr : Nat
  /-- POCs that its reference picture lists name. -/
  refs : List Int
  /-- POCs marked for reference after the standard's marking process at the end of the picture; long-term ones are true. -/
  marks : List (Int × Bool)
deriving DecidableEq, Repr

/-- A read of the reference pool that predicts an area of a slice: DPB entry, bytes of its buffer, and the area (R283). -/
structure RefRead where
  entry : Nat
  off : Nat
  bytes : Nat
  x : Nat
  y : Nat
  w : Nat
  h : Nat
deriving DecidableEq, Repr


/-- The commands of the block: one constructor for each row of spec/opcode_table.json. -/
inductive Instr where
  /-- REGISTER_WRITE (R28). A write by any origin to a register that has no row of its own; it passes the checks for rights, lease, LAPSED, state and range, then takes effect or is staged. -/
  | registerWrite (o : Origin) (a : Nat) (data : List Byte) (be : List Bool) (demand t : Nat)
  /-- ERROR_CODE_CLEAR (R25). An RW1C write of ERROR_CODE clears it only if the value written equals the error held. -/
  | errorCodeClear (o : Origin) (p : Page) (code : Fin 256) (t : Nat)
  /-- EVENT_PENDING_CLEAR (R37). A W1C write of EVENT_PENDING clears RAW bits, and sends a new notification if pending events remain. -/
  | eventPendingClear (o : Origin) (p : Page) (bits : Word) (t : Nat)
  /-- EVENT_ENABLE_WRITE (R37). A write of EVENT_ENABLE changes which events are reported, and notifies if EVENT_PENDING becomes non-zero. -/
  | eventEnableWrite (o : Origin) (p : Page) (bits : Word) (t : Nat)
  /-- MSIX_UNMASK (R38). Unmasking a vector in a port's MSI-X table sends the message that is pending on it. -/
  | msixUnmask (p : Fin 2) (vec : Fin 1024) (t : Nat)
  /-- LEASE_WRITE (R31). A write of LEASE.OWNER acquires, keeps or releases a page lease, or fails with error 0x01 or 0x02. -/
  | leaseWrite (o : Origin) (p : Page) (owner : Fin 8) (hold : Fin 65536) (t : Nat)
  /-- LEASE_LAPSED (R32). HOLD_MS after a host port is lost, its leases expire: OWNER becomes 0, LAPSED is set and event 28 is raised. -/
  | leaseLapsed (b : Block) (n t : Nat)
  /-- COMMIT (R34). A write of COMMIT[0] increments SEQUENCE, sets OUTCOME to pending and starts the staged check. -/
  | commit (o : Origin) (p : Page) (t : Nat)
  /-- ABORT (R35). A write of COMMIT.ABORT ends a pending commit unapplied and replaces the staged values with the active ones. -/
  | abort (o : Origin) (p : Page) (t : Nat)
  /-- STAGED_CHECK (R34). Within 10 µs of a commit request, the staged values are checked; a commit that fails is rejected with REASON set. -/
  | stagedCheck (b : Block) (n t : Nat)
  /-- SOFT_RESET (R537). A write of PAGE_CTRL.SOFT_RESET resets the page's instance as its block's entry specifies, or is refused. -/
  | softReset (o : Origin) (p : Page) (enable freeze : Bool) (t : Nat)
  /-- PAGE_ENABLE_WRITE (R536). A write of PAGE_CTRL.ENABLE is staged with the commit group, or takes effect at once on a page that has no RWS fields. -/
  | pageEnableWrite (o : Origin) (p : Page) (enable freeze : Bool) (t : Nat)
  /-- PAGE_FREEZE (R24). A write of PAGE_CTRL.FREEZE holds or releases a consistent snapshot of the block's status and counter registers. -/
  | pageFreeze (o : Origin) (p : Page) (freeze enable : Bool) (t : Nat)
  /-- RIGHTS_WRITE (R456). KEEPER writes a page's RIGHTS; a write that would make the HOST_A and HOST_B fields differ is refused with error 0x01. -/
  | rightsWrite (o : Origin) (p : Page) (rights : Word) (t : Nat)
  /-- MODE_REQUEST (R48). A write of PACE.MODE.REQ starts a voltage ramp, or is refused with error 0x10 under the admission checks. -/
  | modeRequest (o : Origin) (mode : Fin 4) (t : Nat)
  /-- RAMP_DONE (R46). RAMP_US after a ramp starts, the mode takes effect, STATE returns to STEADY and the minimum-pace windows restart. -/
  | rampDone (t : Nat)
  /-- PACE_INTERVAL_END (R56). At the end of each 64 µs interval, the monitors report pace and the Shuttle checks the pool and each bench for shedding. -/
  | paceIntervalEnd (paces loads : List Nat) (t : Nat)
  /-- RESTORE_STEP (R59). Once pace has held the restore margin for RESTORE_MS, the most recent shed step is undone and RESTORE is raised. -/
  | restoreStep (t : Nat)
  /-- FRAME_START (R71). A frame start arrives at an assembler: FRAME_NO advances, the capture is timestamped and the ticket is opened. -/
  | frameStart (p : Fin 48) (e : Fin 16) (csi : Nat) (cut : Bool) (t : Nat)
  /-- LINE_RECEIVED (R74). A line or long packet ends; it is accepted, or discarded and replaced by a substitute row, then staged or sent to the bench. -/
  | lineReceived (p : Fin 48) (e : Fin 16) (data : List Nat) (bad : Bool) (minPs t0 : Nat) (toDram : Bool) (queued : List Nat) (t : Nat)
  /-- PCLK_GLITCH (R75). A PCLK period shorter than MIN_PERIOD_PS outside a line sets CLOCK_FAULT on the open frame. -/
  | pclkGlitch (p : Fin 40) (ps t : Nat)
  /-- FRAME_END (R72). A frame end arrives, and the frame enters CLOSE, normally or TRUNCATED. -/
  | frameEnd (p : Fin 48) (e : Fin 16) (cut : Bool) (t : Nat)
  /-- LINE_TIMEOUT (R73). No line starts within TIMEOUT_LINES line references, so the frame closes. -/
  | lineTimeout (p : Fin 48) (e : Fin 16) (cut : Bool) (t : Nat)
  /-- FRAME_CLOSE (R71). Within 1 µs of CLOSE, the stamp and flags settle, the ticket becomes final and FRAME_END or TRUNCATED is raised. -/
  | frameClose (p : Fin 48) (e : Fin 16) (t : Nat)
  /-- NO_FRAME (R79). No frame start arrives within FRAME_TIMEOUT_MS, so NO_FRAME is raised once. -/
  | noFrame (p : Fin 48) (e : Fin 16) (t : Nat)
  /-- HDR_MISSING (R70). No frame start of exposure k joins within the HDR window, so that exposure is missing from the frame. -/
  | hdrMissing (p : Fin 48) (e : Fin 16) (t : Nat)
  /-- EMBEDDED_DATA (R67). An embedded-data or user-defined packet is received, used as the stamp source and appended to the metadata capture. -/
  | embeddedData (n : Fin 8) (vc dt : Nat) (payload : List Byte) (t : Nat)
  /-- PACKET_ERROR (R68). A CSI-2 packet whose header cannot be corrected, or that no entry maps, is discarded and counted. -/
  | packetError (n : Fin 8) (kind : Fin 4) (t : Nat)
  /-- PHY_ERROR (R66). A start-of-transmission error or deskew failure on a serial port is counted and reported. -/
  | phyError (n : Fin 8) (sot : Bool) (t : Nat)
  /-- CCTL_ENABLE (R97). ENABLE is written 1 on a control port with a valid profile, and the START sequence runs. -/
  | cctlEnable (o : Origin) (n : Fin 48) (t : Nat)
  /-- INIT_DONE (R97). The START sequence completes, the port enters STREAMING and the echo takes the start values. -/
  | initDone (n : Fin 48) (t : Nat)
  /-- CCTL_DISABLE (R97). ENABLE is written 0: queued commands are cancelled and the STOP sequence runs, or the port goes from FAULT to OFF. -/
  | cctlDisable (o : Origin) (n : Fin 48) (t : Nat)
  /-- STOP_SEQUENCE_DONE (R97). The STOP sequence completes or fails, the port enters OFF and TRIG goes low. -/
  | stopSequenceDone (n : Fin 48) (t : Nat)
  /-- BUS_TRANSACTION_END (R94). An I2C or I3C transaction ends; a NACK or overlong stretch is retried once. -/
  | busTransactionEnd (n : Fin 48) (result : Nat) (data : List Byte) (t : Nat)
  /-- CMD_PUSH (R98). A write of CMD_PUSH queues a frame-targeted command, or fails on a full queue, a bad tag or mask, or the wrong state. -/
  | cmdPush (o : Origin) (n : Fin 48) (tag : Fin 65536) (mask : Fin 32) (t : Nat)
  /-- WRITE_WINDOW (R99). SAFE_START_US after frame start, due gain writes are issued and due commands are merged and selected. -/
  | writeWindow (n : Fin 48) (t : Nat)
  /-- SAFE_END (R101). A write still running at SAFE_END_US is an overrun of its set; a deferred raw transfer may then start. -/
  | safeEnd (n : Fin 48) (t : Nat)
  /-- RESULT_POP (R102). A write of RESULT_POP removes the oldest result. -/
  | resultPop (o : Origin) (n : Fin 48) (t : Nat)
  /-- XFER_START (R111). A write of XFER_CTRL.START requests one raw bus transaction, or is refused with error 0x10. -/
  | xferStart (o : Origin) (n : Fin 48) (len : Fin 16) (sub : Fin 4) (dir : Bool) (t : Nat)
  /-- XFER_DONE (R111). A raw transfer ends, and XFER_STATUS takes its result. -/
  | xferDone (n : Fin 48) (bytes : Nat) (t : Nat)
  /-- TRIG_FIRE (R109). A write of TRIG_FIRE in MODE 2 gives one TRIG pulse. -/
  | trigFire (o : Origin) (n : Fin 48) (t : Nat)
  /-- FSYNC_EDGE (R108). A frame-sync generator reaches an instant of its period and phase, and drives its pin high. -/
  | fsyncEdge (k : Fin 4) (t : Nat)
  /-- FSYNC_PULSE_END (R108). WIDTH_US after an edge, the generator's pin returns low. -/
  | fsyncPulseEnd (k : Fin 4) (t : Nat)
  /-- TRIG_RISE (R109). DELAY_US after a generator edge, a following control port raises TRIG. -/
  | trigRise (n : Fin 48) (t : Nat)
  /-- TRIG_PULSE_END (R109). WIDTH_US after it rose, TRIG returns low. -/
  | trigPulseEnd (n : Fin 48) (t : Nat)
  /-- STROBE_PULSE (R107). A STRB pulse ends, and its midpoint is recorded for the capture time. -/
  | strobePulse (n : Fin 48) (t0 t : Nat)
  /-- SWAP_DONE (R119). A context load completes and the chosen stripe starts; the swap counts as exposed if it was not hidden. -/
  | swapDone (b : Fin 6) (t : Nat)
  /-- BENCH_ROW_DONE (R138). A bench finishes one row through the raw and colour stages, and feeds taps, statistics, rules and encoders. -/
  | benchRowDone (b : Fin 6) (backlog t : Nat)
  /-- CLASS0_ROW_TAKE (R129). A row in a class 0 FIFO takes its bench at the next row boundary, and the running stripe pauses. -/
  | class0RowTake (b : Fin 6) (t : Nat)
  /-- STRIPE_COMPLETE (R126). A stripe's last row leaves the colour stages; lateness is judged and the end of a frame is handled. -/
  | stripeComplete (b : Fin 6) (fill work t : Nat)
  /-- DEADLINE_EXPIRED (R126). A stripe that has not completed by D + SLACK_US causes its frame to be dropped at the next stripe boundary. -/
  | deadlineExpired (n : Fin 48) (t : Nat)
  /-- STAGED_ROW_READ (R156). A row read back from a staging ring completes, decoded by a raw codec engine if it was compressed. -/
  | stagedRowRead (b : Fin 6) (k : Fin 3) (r t : Nat)
  /-- GRID_READY (R174). An auto grid built from a frame is written out and becomes ready for the next frame. -/
  | gridReady (n : Fin 48) (t : Nat)
  /-- LUT_LOAD (R182). A write of LUTM.LOAD_CTRL.START begins a 3D LUT load into a slot, or is refused. -/
  | lutLoad (o : Origin) (slot : Fin 64) (t : Nat)
  /-- LUT_LOAD_END (R182). A slot load ends; the slot becomes valid, or it stays invalid if the load failed. -/
  | lutLoadEnd (t : Nat)
  /-- PARTITION_WRITE (R182). A write of LUTM.PARTITION changes the slot layout, or is refused while a group holds a valid or named slot. -/
  | partitionWrite (o : Origin) (large : Fin 256) (t : Nat)
  /-- TAP_BUFFER_COMPLETE (R199). A tap's last row is visible in DRAM; the buffer completes with its ticket and passes to its list's consumer. -/
  | tapBufferComplete (n : Fin 48) (k : Fin 4) (t : Nat)
  /-- PIN_FAILSAFE (R215). No mapped rule has been evaluated for TIMEOUT_MS, so the EVT pin takes its failsafe level. -/
  | pinFailsafe (p : Fin 8) (t : Nat)
  /-- STATS_READY (R218). A statistics record is written and RING_WR advances. -/
  | statsReady (n : Fin 48) (t : Nat)
  /-- SEG_READY (R230). A stripe's raw segment is coded and written, and SEG_WR advances. -/
  | segReady (k : Fin 4) (t : Nat)
  /-- JOB_SUBMIT (R237). A write of JOB_TAIL submits raw codec jobs. -/
  | jobSubmit (o : Origin) (k : Fin 4) (index : Fin 4096) (t : Nat)
  /-- PIXEL_ENCODE_JOB (R238). A pixel encode job ends with its STATUS and its completion fields. -/
  | pixelEncodeJob (k : Fin 4) (t : Nat)
  /-- PIXEL_DECODE_JOB (R238). A pixel decode job ends with its STATUS and its completion fields. -/
  | pixelDecodeJob (k : Fin 4) (t : Nat)
  /-- BYTE_COMPRESS_JOB (R238). A byte compress job ends with its STATUS and its completion fields. -/
  | byteCompressJob (k : Fin 4) (t : Nat)
  /-- BYTE_DECOMPRESS_JOB (R238). A byte decompress job ends with its STATUS and its completion fields. -/
  | byteDecompressJob (k : Fin 4) (t : Nat)
  /-- CTU_ROW_DONE (R264). An encoder finishes coding a CTU row; QP is updated and the next ready row is chosen. -/
  | ctuRowDone (c : Fin 128) (side : Fin 2) (ctus : List Nat) (data : List Byte) (t : Nat)
  /-- ENC_OUT_RD_WRITE (R251). A write of CTX_OUT_RD frees ring space, and a STALLED context resumes coding. -/
  | encOutRdWrite (o : Origin) (c : Fin 128) (off : BitVec 24) (t : Nat)
  /-- STALL_TIMEOUT (R266). A context STALLED for longer than one picture period abandons its picture. -/
  | stallTimeout (c : Fin 128) (t : Nat)
  /-- GANG_WRITE (R247). A write of ENGINE_CFG.GANG joins or separates an engine pair, or is refused. -/
  | gangWrite (o : Origin) (e : Fin 4) (gang : Bool) (t : Nat)
  /-- DEC_CTX_ENABLE (R276). EN is written 1 on a decode context, which enters SEEK with an empty DPB. -/
  | decCtxEnable (o : Origin) (c : Fin 64) (t : Nat)
  /-- DEC_CTX_DISABLE (R276). EN is written 0: the context goes OFF, its picture is discarded and IN_RD is set to IN_WR. -/
  | decCtxDisable (o : Origin) (c : Fin 64) (t : Nat)
  /-- DEC_IN_WR_WRITE (R275). A host write of IN_WR adds records to a context's input ring, or is refused while SRC is 1. -/
  | decInWrWrite (o : Origin) (c : Fin 64) (off : BitVec 24) (t : Nat)
  /-- DEC_SLICE_START (R273). A decoder takes a slice whose NAL unit lies wholly in its ring, starting a picture and taking a buffer where needed. -/
  | decSliceStart (c : Fin 64) (h : SliceHdr) (t : Nat)
  /-- DEC_SLICE_DONE (R278). A slice is decoded; the picture ends where the rules say, missing CTUs are concealed and the picture is output when due. -/
  | decSliceDone (c : Fin 64) (n : Nat) (bad : Bool) (ctus : List (Nat × List Nat)) (reads : List RefRead) (t : Nat)
  /-- PLI_RETRY (R285). PLI_RETRY_MS passes with PLI_WANTED still 1, so PLI_REQUEST is raised again. -/
  | pliRetry (c : Fin 64) (t : Nat)
  /-- VBLANK (R305). At a head's vblank instant, commits are evaluated, feeds are taken, claims move, freshness is judged and the stamp SDP is sent. -/
  | vblank (h : Fin 4) (t : Nat)
  /-- RASTER_LINE_START (R301). A raster line starts: direct rows are checked, fetches are composed and pixels are sent. -/
  | rasterLineStart (h : Fin 4) (line : Nat) (late : Option Nat) (fill : List Nat) (t : Nat)
  /-- BPOOL_ALLOC (R314). The ALLOC command takes the head of a list as a host-owned PRODUCING buffer. -/
  | bpoolAlloc (o : Origin) (list : Fin 64) (t : Nat)
  /-- BPOOL_COMPLETE (R314). The COMPLETE command makes a host-owned buffer COMPLETE, and a stopped head may then apply its commit. -/
  | bpoolComplete (o : Origin) (desc : Fin 4096) (t : Nat)
  /-- BPOOL_RELEASE (R314). The RELEASE command ends host ownership of a buffer. -/
  | bpoolRelease (o : Origin) (desc : Fin 4096) (t : Nat)
  /-- BPOOL_WRITE (R314). The WRITE command writes the origin's DESC copy into a FREE descriptor. -/
  | bpoolWrite (o : Origin) (desc : Fin 4096) (t : Nat)
  /-- BPOOL_READ (R314). The READ command copies a descriptor into the origin's DESC registers. -/
  | bpoolRead (o : Origin) (desc : Fin 4096) (t : Nat)
  /-- HEAD_FRAME_START (R328). A head frame starts: FS_TIME and FRAME_COUNT are recorded, and waiting ports become ACTIVE. -/
  | headFrameStart (h : Fin 4) (t : Nat)
  /-- REF_TARGET (R325). A reference target instant arrives, and the head measures its phase error and corrects it. -/
  | refTarget (h : Fin 4) (t : Nat)
  /-- REF_LOST (R327). The reference is lost, and the head enters HOLDOVER. -/
  | refLost (h : Fin 4) (t : Nat)
  /-- DPO_ENABLE (R330). ENABLE is written 1 on a display port, which powers its PHY and waits for HPD, or is refused on port fit. -/
  | dpoEnable (o : Origin) (p : Fin 8) (t : Nat)
  /-- DPO_DISABLE (R334). ENABLE is written 0, and the link and PHY power down. -/
  | dpoDisable (o : Origin) (p : Fin 8) (t : Nat)
  /-- HPD_PLUG (R333). HPD has stood high for 2 ms, and the port starts the capability read and training. -/
  | hpdPlug (p : Fin 8) (t : Nat)
  /-- HPD_UNPLUG (R333). HPD has stood low for more than 2 ms, and the port returns to WAIT_HPD. -/
  | hpdUnplug (p : Fin 8) (t : Nat)
  /-- HPD_IRQ (R333). A low pulse of 250 µs to 2 ms ends; a lost lock or equalisation restarts training. -/
  | hpdIrq (p : Fin 8) (lost : Bool) (t : Nat)
  /-- CAP_READ_DONE (R334). The sink capability read over AUX ends, and the first training attempt starts. -/
  | capReadDone (p : Fin 8) (ok : Bool) (rate : Fin 11) (lanes : Fin 5) (t : Nat)
  /-- TRAIN_ATTEMPT_END (R335). A training attempt succeeds, or fails after 6 ms, and the next pair is tried. -/
  | trainAttemptEnd (p : Fin 8) (ok : Bool) (t : Nat)
  /-- IDLE_PATTERN_END (R336). The 2 ms of idle pattern ends, and training begins. -/
  | idlePatternEnd (p : Fin 8) (t : Nat)
  /-- LINK_RETRY (R334). RETRY_MS passes in LINK_DOWN, and the ladder restarts from the top. -/
  | linkRetry (p : Fin 8) (t : Nat)
  /-- AUX_START (R339). A write of AUX_CMD.START requests an AUX transaction, or is refused while BUSY. -/
  | auxStart (o : Origin) (p : Fin 8) (op : Fin 8) (len : Fin 16) (addr : BitVec 20) (t : Nat)
  /-- AUX_RUN (R339). A host AUX transaction starts once the port's own AUX reads have ended. -/
  | auxRun (p : Fin 8) (t : Nat)
  /-- AUX_DONE (R339). An AUX transaction ends with its result in AUX_STATUS. -/
  | auxDone (p : Fin 8) (result : Fin 4) (data : List Byte) (t : Nat)
  /-- CHK_CFG_WRITE (R349). A write of CHKu_CFG enables or configures a check unit, or is refused. -/
  | chkCfgWrite (o : Origin) (u : Fin 128) (cfg : Word) (t : Nat)
  /-- NET_LINK_DOWN (R363). An Ethernet port loses link; its session packets are dropped and its flows resynchronise. -/
  | netLinkDown (n : Fin 4) (t : Nat)
  /-- NET_LINK_UP (R363). An Ethernet link returns, and sending resumes. -/
  | netLinkUp (n : Fin 4) (t : Nat)
  /-- PKT_RECORD_INGEST (R371). The packet engine reads a released record or segment into its buffer and queues references to the subscribed sessions. -/
  | pktRecordIngest (raw : Bool) (k : Fin 128) (t : Nat)
  /-- PKT_SEND (R373). A port finishes a packet and picks the next by PTP priority and deficit round robin. -/
  | pktSend (n : Fin 4) (t : Nat)
  /-- FLOW_PACKET (R379). A datagram that matches a flow enters its jitter buffer and leaves in sequence to the decoder, audio port or ring. -/
  | flowPacket (n : Fin 4) (fcs : Bool) (frame : List Byte) (t : Nat)
  /-- FLOW_LOSS (R379). DELAY_US passes without the expected packet, so the missing numbers are declared lost. -/
  | flowLoss (f : Fin 128) (t : Nat)
  /-- EXCEPTION_RX (R376). An unmatched frame is written to the exception receive ring, or dropped when the ring is full. -/
  | exceptionRx (n : Fin 4) (fcs : Bool) (frame : List Byte) (t : Nat)
  /-- EXC_TX_SUBMIT (R376). A write of EXC_TX_IDX.WR submits firmware frames for transmission. -/
  | excTxSubmit (o : Origin) (index : Fin 4096) (t : Nat)
  /-- SENDER_REPORT (R377). Every SR_MS, each enabled session sends an RTCP sender report. -/
  | senderReport (t : Nat)
  /-- SESSION_ENABLE (R370). EN is written on a session page, which subscribes it to its source with a full bucket, or unsubscribes it. -/
  | sessionEnable (o : Origin) (n : Fin 4096) (cfg : Word) (t : Nat)
  /-- CMD_ECHO (R381). A panel echo request is answered. -/
  | cmdEcho (n : Fin 4) (fcs : Bool) (frame : List Byte) (t : Nat)
  /-- CMD_READ (R382). A panel read request reads words with origin NET and replies with them. -/
  | cmdRead (n : Fin 4) (fcs : Bool) (frame : List Byte) (t : Nat)
  /-- CMD_WRITE (R382). A panel write request writes words with origin NET until the first failure, or replays a kept reply. -/
  | cmdWrite (n : Fin 4) (fcs : Bool) (frame : List Byte) (demand t : Nat)
  /-- CMD_REFUSED (R382). A malformed, out-of-prefix or rate-limited panel request is discarded without reply. -/
  | cmdRefused (n : Fin 4) (fcs : Bool) (frame : List Byte) (t : Nat)
  /-- MEASUREMENT_INTERVAL (R400). At a domain's interval boundary, TIME commits apply, path delay and offset are averaged, and path change or loss is judged. -/
  | measurementInterval (d : Fin 4) (t : Nat)
  /-- HOLD_END (R402). HOLD_S ends; the new offset is absorbed by a slew, or the domain enters HOLDOVER. -/
  | holdEnd (d : Fin 4) (t : Nat)
  /-- SLEW_DONE (R391). The remaining slew reaches zero. -/
  | slewDone (d : Fin 4) (t : Nat)
  /-- TIME_STEP (R392). CMD.STEP adds the offset to a FREE clock, which moves it to TRACKING. -/
  | timeStep (o : Origin) (d : Fin 5) (t : Nat)
  /-- TIME_ACCEPT (R403). CMD.ACCEPT accepts the new path and clears the asymmetry alarm. -/
  | timeAccept (o : Origin) (d : Fin 5) (t : Nat)
  /-- TIME_SNAP (R407). CMD.SNAP captures all five clocks at one oscillator edge. -/
  | timeSnap (o : Origin) (d : Fin 5) (t : Nat)
  /-- PTP_RX (R396). A received PTP message is timestamped and delivered to each matching domain's ring. -/
  | ptpRx (n : Fin 4) (fcs : Bool) (frame : List Byte) (t : Nat)
  /-- PTP_TX_SUBMIT (R398). A write of TX_IDX.WR submits PTP frames for transmission. -/
  | ptpTxSubmit (o : Origin) (d : Fin 4) (index : Fin 4096) (t : Nat)
  /-- PTP_TX_DEPART (R399). A PTP frame departs with its one-step fields filled in, and DEPART and STATUS are written back. -/
  | ptpTxDepart (d : Fin 4) (t : Nat)
  /-- PPS_IN (R405). A TIME_PPS_IN edge is timestamped in all five clocks. -/
  | ppsIn (t : Nat)
  /-- PPS_OUT_EDGE (R406). TIME_PPS_OUT rises at a whole second of its domain. -/
  | ppsOutEdge (t : Nat)
  /-- PPS_OUT_END (R406). PPS_WIDTH_MS after its edge, TIME_PPS_OUT falls. -/
  | ppsOutEnd (t : Nat)
  /-- AUD_ENABLE (R414). ENABLE is written 1 on an audio port, which enters STOPPED with its pins set. -/
  | audEnable (o : Origin) (n : Fin 16) (t : Nat)
  /-- AUD_DISABLE (R414). ENABLE is written 0, and the port goes OFF with its pins high-impedance. -/
  | audDisable (o : Origin) (n : Fin 16) (t : Nat)
  /-- AUD_ARM (R412). CTRL.ARM checks the clock configuration and puts the port in ARMED. -/
  | audArm (o : Origin) (n : Fin 16) (t : Nat)
  /-- AUD_STOP (R414). CTRL.STOP moves a running port to STOPPING, or an armed one to STOPPED. -/
  | audStop (o : Origin) (n : Fin 16) (t : Nat)
  /-- START_GO (R415). A write of START_CTRL.GO sets a trigger instant for the masked ports, or is refused. -/
  | startGo (o : Origin) (dom : Fin 8) (mask : Fin 65536) (t : Nat)
  /-- SILENT_START (R415). SILENT_FRAMES before the trigger, master ports start their clocks. -/
  | silentStart (n : Fin 16) (t : Nat)
  /-- START_FIRED (R415). The trigger instant fires, and ports reach position 0 and run. -/
  | startFired (port : Option (Fin 16)) (t : Nat)
  /-- STOP_COMPLETE (R414). SILENT_FRAMES after STOPPING began, the clocks stop and the port is STOPPED. -/
  | stopComplete (n : Fin 16) (t : Nat)
  /-- BLOCK_READY (R418). An input block completes, and is written to the ring and offered to AES67 sessions. -/
  | blockReady (n : Fin 16) (start : Nat) (frames : List (Option (List Nat))) (t : Nat)
  /-- OUTPUT_BLOCK (R418). At a block boundary, an output port takes its next block in ring order, discarding late ones. -/
  | outputBlock (n : Fin 16) (pos t : Nat)
  /-- HOLD_LIMIT (R419). After HOLD_MS of repeated frames, the port sends zero. -/
  | holdLimit (n : Fin 16) (t : Nat)
  /-- CLOCK_LOST (R421). Four frame periods pass without a frame start, so a slave port keeps its position running from TIMEL. -/
  | clockLost (n : Fin 16) (pos t : Nat)
  /-- CLOCK_BACK (R421). The first frame start after the clocks return takes the next position. -/
  | clockBack (n : Fin 16) (t : Nat)
  /-- AUD_RATE_MEASURE (R422). Every 250 ms the port measures its frame rate against TIMEL. -/
  | audRateMeasure (n : Fin 16) (rate t : Nat)
  /-- DDRC_TRAINING_DONE (R440). A subchannel ends training at all three set points, or fails. -/
  | ddrcTrainingDone (sub : Fin 8) (ok : Bool) (t : Nat)
  /-- TRACK_TICK (R441). Every TRACK_MS the DQS oscillators run and the delays are adjusted. -/
  | trackTick (sub : Fin 8) (beyond : Bool) (demand t : Nat)
  /-- MR4_POLL (R434). Every 32 ms, MR4 is read and the refresh interval is set. -/
  | mr4Poll (sub : Fin 8) (hot : Bool) (t : Nat)
  /-- REFRESH (R434). A same-bank refresh falls due at tREFI. -/
  | refresh (sub : Fin 8) (t : Nat)
  /-- SCRUB_LINE (R435). A patrol scrub read completes; the line is written back corrected or poisoned. -/
  | scrubLine (spare : Option (Fin 16)) (line : Nat) (flips : List (Nat × Nat)) (t : Nat)
  /-- DRAM_READ_DONE (R437). A DRAM read decodes into one of the classes clean, corrected, uncorrectable, address mismatch or poisoned. -/
  | dramReadDone (who : Fin 5) (line src : Nat) (flips : List (Nat × Nat)) (t : Nat)
  /-- DIAGNOSIS_DONE (R438). A device diagnosis ends, and the burst is delivered corrected or as poison. -/
  | diagnosisDone (sub : Fin 8) (wrong : List (Fin 5)) (t : Nat)
  /-- FREQ_GO (R443). A write of FREQ_CTRL.GO requests a frequency change, which may fail on demand. -/
  | freqGo (o : Origin) (target : Fin 4) (demand t : Nat)
  /-- FREQ_MARGIN_MET (R444). Every head's margin stands at the threshold; requests are held and the change proceeds. -/
  | freqMarginMet (t : Nat)
  /-- FREQ_TIMEOUT (R443). TIMEOUT_MS passes without the margins being met, and the change fails. -/
  | freqTimeout (t : Nat)
  /-- FREQ_ABORT (R444). An urgent request before self-refresh entry aborts the change, which restarts from the margin test. -/
  | freqAbort (t : Nat)
  /-- FREQ_CHANGE_DONE (R445). After self-refresh exit and the centring pass, the change completes or returns. -/
  | freqChangeDone (ok : Bool) (failed : List (Fin 8)) (demand t : Nat)
  /-- RELINE_GO (R446). A write of RELINE_CTRL.GO retires the rank SRC. -/
  | relineGo (o : Origin) (src : Fin 16) (t : Nat)
  /-- RELINE_SEGMENT_DONE (R448). A 1 MiB segment is copied to the spare and the watermark advances. -/
  | relineSegmentDone (bad : List Nat) (t : Nat)
  /-- HOST_LINK_DOWN (R458). A host link goes down or PERST_N is asserted; rings stop and lease timers start. -/
  | hostLinkDown (p : Fin 2) (t : Nat)
  /-- HOST_LINK_UP (R458). A host link trains again. -/
  | hostLinkUp (p : Fin 2) (gen : Fin 7) (width : Fin 9) (flit : Bool) (t : Nat)
  /-- FLR (R459). A Function Level Reset resets the function's configuration, stops its rings and starts lease timers. -/
  | flr (p : Fin 2) (t : Nat)
  /-- MSIX_ENABLE (R460). Setting MSI-X Enable re-sends a message on each vector with pending events. -/
  | msixEnable (p : Fin 2) (t : Nat)
  /-- BAR2_READ (R455). A BAR2 read reaches DRAM through the aperture, poisoned or Unsupported Request where the rules say. -/
  | bar2Read (p : Fin 2) (o n t : Nat)
  /-- BAR2_WRITE (R455). A BAR2 write reaches DRAM, merged or poisoned where the rules say. -/
  | bar2Write (p : Fin 2) (o : Nat) (data : List Byte) (ep : Bool) (t : Nat)
  /-- THIMBLE_ACQUIRE (R461). A write of THMnnn.ACQUIRE takes, keeps or contends for a Thimble. -/
  | thimbleAcquire (o : Origin) (k : Fin 256) (hold : Fin 65536) (t : Nat)
  /-- THIMBLE_RELEASE (R461). A write of THMnnn.RELEASE frees a Thimble held by the writer or by KEEPER. -/
  | thimbleRelease (o : Origin) (k : Fin 256) (t : Nat)
  /-- THIMBLE_LAPSED (R462). A host-held Thimble expires after its owner's port was lost. -/
  | thimbleLapsed (k : Fin 256) (t : Nat)
  /-- DMA_RING_ENABLE (R467). CFG.EN is written 1, and the ring starts running from HEAD. -/
  | dmaRingEnable (o : Origin) (p : Fin 2) (r : Fin 16) (t : Nat)
  /-- DMA_RING_DISABLE (R467). CFG.EN is written 0, and the ring goes OFF after its current descriptor. -/
  | dmaRingDisable (o : Origin) (p : Fin 2) (r : Fin 16) (t : Nat)
  /-- DMA_SUBMIT (R464). A write of RINGr_TAIL submits descriptors. -/
  | dmaSubmit (o : Origin) (p : Fin 2) (r : Fin 16) (index : Fin 4096) (t : Nat)
  /-- DMA_HOST_TO_DRAM (R464). A host-to-DRAM copy descriptor ends with its STATUS, and HEAD advances. -/
  | dmaHostToDram (p : Fin 2) (r : Fin 16) (desc data : List Byte) (lost t : Nat)
  /-- DMA_DRAM_TO_HOST (R464). A DRAM-to-host copy descriptor ends with its STATUS. -/
  | dmaDramToHost (p : Fin 2) (r : Fin 16) (desc : List Byte) (t : Nat)
  /-- DMA_DRAM_TO_DRAM (R464). A DRAM-to-DRAM copy descriptor ends with its STATUS. -/
  | dmaDramToDram (p : Fin 2) (r : Fin 16) (desc : List Byte) (t : Nat)
  /-- DMA_REGISTER_WRITE (R465). A register-write descriptor writes WVALUE to BAR0 under the checks of R28. -/
  | dmaRegisterWrite (p : Fin 2) (r : Fin 16) (desc : List Byte) (demand t : Nat)
  /-- DMA_RESUME (R467). CTRL.RESUME re-executes the failed descriptor. -/
  | dmaResume (o : Origin) (p : Fin 2) (r : Fin 16) (t : Nat)
  /-- DMA_SKIP (R467). CTRL.SKIP moves HEAD past the failed descriptor. -/
  | dmaSkip (o : Origin) (p : Fin 2) (r : Fin 16) (t : Nat)
  /-- LOAD (R486). The LOAD command checks a class 2, 3 or 5 image and loads it without storing it. -/
  | load (t : Nat)
  /-- UPDATE (R486). The UPDATE command checks an image and writes it to the inactive slot or store slot. -/
  | update (t : Nat)
  /-- ACTIVATE (R486). The ACTIVATE command starts a live handover for class 1, or makes the inactive slot preferred on trial. -/
  | activate (t : Nat)
  /-- CONFIRM (R486). The CONFIRM command takes the running slot of a class off trial. -/
  | confirm (t : Nat)
  /-- ADVANCE (R483). The ADVANCE command blows rollback fuse bits up to the running SVN. -/
  | advance (t : Nat)
  /-- ATTEST (R485). The ATTEST command writes a signed attestation report for the caller's nonce. -/
  | attest (t : Nat)
  /-- IDENTITY (R486). The IDENTITY command writes the identity public key, the serial and the Mehrec signature. -/
  | identity (t : Nat)
  /-- DEBUG_CHALLENGE (R489). The DEBUG_CHALLENGE command writes a fresh 128-byte challenge. -/
  | debugChallenge (t : Nat)
  /-- DEBUG_UNLOCK (R489). The DEBUG_UNLOCK command checks a signed token and sets the DEBUG rights by its SCOPE. -/
  | debugUnlock (t : Nat)
  /-- ENROLL (R486). The ENROLL command fuses the owner key hash from a bound class 6 image. -/
  | enroll (t : Nat)
  /-- HANDOVER_QUIESCED (R488). The old firmware writes QUIESCED, and the monitor halts it and starts the new image. -/
  | handoverQuiesced (o : Origin) (t : Nat)
  /-- QUIESCE_TIMEOUT (R488). 5 ms after the save request, the monitor starts the new image without waiting further. -/
  | quiesceTimeout (t : Nat)
  /-- HANDOVER_DONE (R488). The new firmware writes DONE, and the encoder hold ends. -/
  | handoverDone (o : Origin) (t : Nat)
  /-- ENCODER_HOLD_END (R488). 50 ms after it began, the encoder hold ends. -/
  | encoderHoldEnd (t : Nat)
  /-- HANDOVER_TIMEOUT (R488). TIMEOUT_MS passes without DONE, so the old image is restarted and the new slot marked invalid. -/
  | handoverTimeout (t : Nat)
  /-- RECOVERY_IMAGE (R481). In recovery the ROM accepts a class 0 image over SVC_MGMT, writes it to slot A and resets cold. -/
  | recoveryImage (image : List Byte) (t : Nat)
  /-- POWER_ON_RESET (R492). VDD_AON crosses its threshold, and everything resets. -/
  | powerOnReset (t : Nat)
  /-- RESET_N_ASSERT (R492). RESET_N is asserted for at least 10 µs, and a cold reset begins. -/
  | resetNAssert (t : Nat)
  /-- RESET_N_RELEASE (R497). RESET_N is released; VID_CORE is driven, boot begins and the heartbeat window opens. -/
  | resetNRelease (t : Nat)
  /-- WARM (R492). KEEPER writes SUP.CTRL.WARM, and the management complex is warm-reset. -/
  | warm (o : Origin) (t : Nat)
  /-- MGMT_RESET_END (R495). 1 ms after a warm reset the keeper restarts at the boot ROM and re-attaches. -/
  | mgmtResetEnd (t : Nat)
  /-- HEARTBEAT (R496). KEEPER writes SUP.HEARTBEAT.SEQ; the next value is accepted, any other counts as a miss. -/
  | heartbeat (o : Origin) (seq : Fin 256) (t : Nat)
  /-- HB_MISS (R498). INTERVAL_MS passes without a heartbeat: the Selvedge path engages and the complex is warm-reset or held. -/
  | hbMiss (t : Nat)
  /-- FIRST_HEARTBEAT_TIMEOUT (R497). 3,000 ms after a reset without an accepted heartbeat, a miss is counted. -/
  | firstHeartbeatTimeout (t : Nat)
  /-- RELEASE (R500). KEEPER writes SUP.CTRL.RELEASE, clearing the HEARTBEAT cause and possibly the DRAM cause. -/
  | release (o : Origin) (t : Nat)
  /-- SAFEVIEW_REQUEST (R498). SAFEVIEW_REQ_N has been low for 1 ms, and the path engages with cause REQUEST. -/
  | safeviewRequest (t : Nat)
  /-- SAFEVIEW_REQ_RELEASE (R500). SAFEVIEW_REQ_N goes high, and the REQUEST cause clears. -/
  | safeviewReqRelease (t : Nat)
  /-- THERMAL_SAMPLE (R508). Every 100 µs the sensors are sampled, and warning and trip are judged. -/
  | thermalSample (temps : List Int) (t : Nat)
  /-- SVB_IDLE_END (R505). After 2 ms of idle pattern at engagement, the SVB starts training. -/
  | svbIdleEnd (rate : Fin 11) (lanes : Fin 5) (t : Nat)
  /-- SVB_TRAIN_ATTEMPT_END (R505). A Selvedge training attempt succeeds and starts the raster, or fails after 6 ms. -/
  | svbTrainAttemptEnd (ok : Bool) (t : Nat)
  /-- SVB_RETRY (R505). 1,000 ms after the ladder is exhausted or HPD was low, the SVB tries again. -/
  | svbRetry (rate : Fin 11) (lanes : Fin 5) (t : Nat)
  /-- SVB_SOURCE_ROW (R506). The SVB writes a quadrant's output row into its line memories. -/
  | svbSourceRow (q : Fin 4) (y : Nat) (rows : List (List Nat)) (first : Bool) (t : Nat)
  /-- QUAD_STALE (R506). MAX_AGE_MS passes without a source row, and the quadrant is drawn hatched. -/
  | quadStale (q : Fin 4) (t : Nat)
  /-- ULPS_ENTRY_EXIT (R66). A serial camera port's lanes or trios enter or leave ULPS, which changes PHY_STATUS.ULPS and moves PAGE_STATUS.STATE to or from 3. -/
  | ulpsEntryExit (n : Fin 8) (ulps hs stop t : Nat)
  /-- DESKEW_SEQUENCE (R66). A D-PHY initial or periodic deskew sequence completes on a serial port and sets PHY_STATUS.DESKEWED. -/
  | deskewSequence (n : Fin 8) (t : Nat)
  /-- SEQUENCE_DELAY_END (R95). The delay that a profile attaches to a START or STOP register write runs out, and the next write of the sequence is issued. -/
  | sequenceDelayEnd (n : Fin 48) (t : Nat)
  /-- PACKET_ELIGIBLE (R372). A session's token bucket refills until it holds the datagram length of its head packet, which becomes eligible and may start sending on an idle port. -/
  | packetEligible (n : Fin 4096) (t : Nat)
  /-- FLR_END (R469). A Function Level Reset completes, and the HOST page leaves STATE 3 (in FLR) for link up. -/
  | flrEnd (p : Fin 2) (t : Nat)
  /-- RESIZABLE_BAR_WRITE (R454). A host writes the Resizable BAR control of a port, which changes the size of BAR2, APERTURE_HI.SIZE_LOG2 and the rounding of the aperture base B. -/
  | resizableBarWrite (p : Fin 2) (k : Fin 7) (t : Nat)
deriving DecidableEq, Repr

end Sys2Proof
end

