-- ==== Sys2Proof/Config.lean ====
section
/-! DEFINITION. What an implementation fixes and what the spec leaves open: constants without a body, so that no proof
can rest on a value of theirs (assumption log rows name each). -/

namespace Sys2Proof.Config

/-- GLB.SILICON_REV as the stepping has it (R3: "per stepping"). -/
opaque siliconRev : Nat

/-- BT.2100 PQ encoding of R185 (its constants are not in the spec): from the scaled value in units of 2^-86 to 0.16. -/
opaque pqEncode : Int → Nat

/-- BT.2100 HLG encoding of R185 (its constants are not in the spec): from the scaled value in units of 2^-86 to 0.16. -/
opaque hlgEncode : Int → Nat

/-- The time domain of a stream: the spec gives it one (R84, R106) and names no register that selects it. -/
opaque streamDomain : Nat → Nat

/-- The time domain of a decode context (R274), likewise. -/
opaque decoderDomain : Nat → Nat

/-- Capture time, in units of 2^-16 ns, of a frame that no control port in STREAMING serves (R106 gives none), by the number
of the free value. -/
opaque unboundCapture : Nat → Int

/-- Settings echo of such a frame (R104 gives none). -/
opaque unboundEcho : Nat → Nat → Byte

/-- `bus_time` of R99 in ns: from BUS, KHZ and the numbers of exposure and gain writes. -/
opaque busTime : Nat → Nat → Nat → Nat → Nat

/-- Bytes that a job leaves without a stated value in its destination (R238), by the number of the free value. -/
opaque openByte : Nat → Nat → Byte

/-- Codes of a row that is missing from the exposure a FORMAT 11 tap names (R198 states none), by the number of the free value. -/
opaque openCode : Nat → Nat → Nat

/-- GEOM of a decoded picture's ticket (R344 describes it by an assembler, and a decoded picture has none). -/
opaque decodedGeom : Nat → Nat

/-- The pixel clock's change at a correction by steering, in units of 1/65,536 Hz, before the bounds of R325 (R325 states only
the bounds), by the number of the free value. -/
opaque steer : Nat → Int

/-- The time at an instant of TIMEL in a domain whose id names no clock of the part (R355, R345). -/
opaque openClock : Nat → Nat → Int

/-- Fields of sent headers that the spec gives no value (R362, R381): IPv4 identification and don't-fragment bit (0), IPv6 flow
label (1), TTL or hop limit and DSCP of a command reply (2, 3), by the number of the free value. -/
opaque ipField : Nat → Nat → Nat

/-- The domain of a session's source before its first record (R377 names the source's domain, and no register of an encode
context or a ZRAW engine selects one), by SRC_TYPE and SRC. -/
opaque sourceDomain : Nat → Nat → Nat

/-- How a burst with more than 12 wrong symbols decodes when it is no codeword (R436 bounds only the chance that it passes
undetected): a class of R437, by the number of the free value. -/
opaque decodeBeyond : Nat → Nat

/-- SHAKE256 with 64 bytes of output (R474; a published standard, not in the spec). -/
opaque shake256 : List Byte → List Byte

/-- Whether an ML-DSA-65 signature is good: public key, message, signature (R477). -/
opaque mldsaVerify : List Byte → List Byte → List Byte → Bool

/-- The ML-DSA-65 public key of a seed, and a signature over a message by that key (R476). -/
opaque mldsaPublic : List Byte → List Byte
opaque mldsaSign : List Byte → List Byte → List Byte

/-- The public key whose SHAKE256 a fuse holds (R475, R489: a token carries no key). -/
opaque keyOf : List Byte → List Byte

/-- The fuses written at manufacture (R474), and the serial number and Mehrec's signature in the identity region (R476, R486). -/
opaque rootHash : List Byte
opaque idSeed : List Byte
opaque serial : List Byte
opaque mehrecSignature : List Byte

/-- Bytes of a retirement record: its layout is not in the spec (R484), from RANK_ROLE and BOOT_COUNT. -/
opaque retirementImage : Nat → Nat → List Byte

/-- The roles of the populated ranks in a configuration image, whose layout for them is not in the spec (R484), and the population
of a DDRC as the monitor finds it at boot (R429): words of RANK_ROLE and DDRCn.POP. -/
opaque configRoles : List Byte → Nat
opaque population : Nat → Nat

end Sys2Proof.Config
end

