-- ==== Sys2Proof/Machine/RegMap.lean ====
section
/-! DEFINITION. The register map, row by row from the register tables of the spec's chapters (R3, R24, R60, R89-R91,
R110-R112, R135, R136, R159, R160, R187-R189, R219-R221, R242, R269, R270, R289, R290, R316, R317, R319, R340, R342,
R358, R360, R383-R386, R408, R409, R425, R426, R451, R452, R469-R471, R490, R509-R511): every register at 0x040 and above,
with its fields, their access types, reset values and ranges. -/

namespace Sys2Proof.Machine

/-- The access types of R25. -/
inductive Access where
  | ro | rw | rws | w1c | w1s | wo | rw1c
deriving DecidableEq, Repr

/-- The range the spec states for a written field; outside it the write has error 0x01 (R28). -/
inductive Range where
  | any
  | between (lo hi : Nat)
  | multiple (m lo hi : Nat)
  | signed (w : Nat) (lo hi : Int)
  | oneOf (l : List Nat)
  | permutation4
deriving DecidableEq, Repr

/-- One field of a register: its bits, access type, reset values (by the last index of the register) and range. -/
structure RegField where
  name : String
  hi : Nat
  lo : Nat
  acc : Access
  resets : List Nat
  range : Range
deriving DecidableEq, Repr

/-- One register, or an array of registers: `dims` are the strides and counts, the widest stride first. -/
structure RegRow where
  name : String
  off : Nat
  dims : List (Nat × Nat)
  fields : List RegField
deriving DecidableEq, Repr

def rows_glb_0 : List RegRow := [
  ⟨"CHIP_ID", 0x40, [], [⟨"FAMILY", 15, 8, .ro, [90], .any⟩, ⟨"PART", 31, 16, .ro, [18528], .any⟩]⟩,
  ⟨"SILICON_REV", 0x44, [], [⟨"MINOR", 3, 0, .ro, [0], .any⟩, ⟨"STEPPING", 7, 4, .ro, [0], .any⟩]⟩,
  ⟨"FSYNC_CFG", 0x100, [(0x10, 4)], [⟨"ENABLE", 0, 0, .rw, [0], .any⟩, ⟨"DOMAIN", 3, 1, .rw, [4], .between 0 4⟩, ⟨"WIDTH_US", 15, 8, .rw, [10], .between 1 255⟩]⟩,
  ⟨"FSYNC_PERIOD", 0x104, [(0x10, 4)], [⟨"NS", 31, 0, .rw, [16666667], .between 1000000 4294967295⟩]⟩,
  ⟨"FSYNC_PHASE", 0x108, [(0x10, 4)], [⟨"NS", 31, 0, .rw, [0], .any⟩]⟩,
  ⟨"TEMP", 0x200, [(0x4, 16)], [⟨"TEMP", 15, 0, .ro, [0], .any⟩, ⟨"VALID", 31, 31, .ro, [0], .any⟩]⟩]
/-- The registers of a glb page or window. -/
def rows_glb : List RegRow := rows_glb_0

def rows_sup_0 : List RegRow := [
  ⟨"HB_CFG", 0x40, [], [⟨"INTERVAL_MS", 7, 0, .rw, [10], .between 1 100⟩]⟩,
  ⟨"HEARTBEAT", 0x44, [], [⟨"SEQ", 7, 0, .rw, [0], .any⟩]⟩,
  ⟨"CTRL", 0x48, [], [⟨"RELEASE", 0, 0, .w1s, [0], .any⟩, ⟨"WARM", 1, 1, .w1s, [0], .any⟩]⟩,
  ⟨"STATUS", 0x4C, [], [⟨"FAULT", 0, 0, .ro, [1], .any⟩, ⟨"SAFEVIEW", 1, 1, .ro, [0], .any⟩, ⟨"REQ_PIN", 2, 2, .ro, [0], .any⟩, ⟨"RECOVERY", 3, 3, .ro, [0], .any⟩, ⟨"MISSES", 5, 4, .ro, [0], .any⟩]⟩,
  ⟨"SV_CAUSE", 0x50, [], [⟨"HEARTBEAT", 0, 0, .ro, [0], .any⟩, ⟨"HELD", 1, 1, .ro, [0], .any⟩, ⟨"DRAM", 2, 2, .ro, [0], .any⟩, ⟨"REQUEST", 3, 3, .ro, [0], .any⟩, ⟨"THERMAL", 4, 4, .ro, [0], .any⟩]⟩,
  ⟨"RESET_CAUSE", 0x54, [], [⟨"LAST", 2, 0, .ro, [0], .any⟩, ⟨"WAS_HELD", 8, 8, .ro, [0], .any⟩]⟩,
  ⟨"COUNTS", 0x58, [], [⟨"TRIPS", 7, 0, .ro, [0], .any⟩, ⟨"SV_ENGAGES", 15, 8, .ro, [0], .any⟩, ⟨"WARM_RESETS", 23, 16, .ro, [0], .any⟩, ⟨"MISSES", 31, 24, .ro, [0], .any⟩]⟩,
  ⟨"THERMAL", 0x5C, [], [⟨"MAX", 15, 0, .ro, [0], .any⟩, ⟨"WARN", 16, 16, .ro, [0], .any⟩, ⟨"HOTTEST", 23, 20, .ro, [0], .any⟩, ⟨"PEAK", 31, 24, .ro, [128], .any⟩]⟩]
/-- The registers of a sup page or window. -/
def rows_sup : List RegRow := rows_sup_0

def rows_thm_0 : List RegRow := [
  ⟨"STATUS", 0x40, [], [⟨"HELD", 8, 0, .ro, [0], .any⟩, ⟨"CONTENDED", 31, 16, .ro, [0], .any⟩]⟩,
  ⟨"EVENT_SRC", 0x44, [], [⟨"THIMBLE", 7, 0, .ro, [0], .any⟩]⟩,
  ⟨"THM", 0x100, [(0x4, 256)], [⟨"OWNER", 2, 0, .ro, [0], .any⟩, ⟨"LAPSED", 5, 3, .ro, [0], .any⟩, ⟨"ACQUIRE", 6, 6, .w1s, [0], .any⟩, ⟨"RELEASE", 7, 7, .w1s, [0], .any⟩, ⟨"GEN", 15, 8, .ro, [0], .any⟩, ⟨"HOLD_MS", 31, 16, .rw, [0], .any⟩]⟩]
/-- The registers of a thm page or window. -/
def rows_thm : List RegRow := rows_thm_0

def rows_pace_0 : List RegRow := [
  ⟨"MODE", 0x40, [], [⟨"REQ", 1, 0, .rw, [1], .between 0 2⟩, ⟨"CURRENT", 5, 4, .ro, [1], .any⟩, ⟨"VID", 15, 12, .ro, [11], .any⟩]⟩,
  ⟨"RAMP_CFG", 0x44, [], [⟨"RAMP_US", 15, 0, .rw, [200], .between 10 10000⟩]⟩,
  ⟨"ADMIT_CFG", 0x48, [], [⟨"POLICY", 0, 0, .rw, [0], .any⟩, ⟨"GUARD", 12, 8, .rw, [10], .between 5 25⟩, ⟨"WINDOW_MS", 31, 16, .rw, [100], .between 1 1000⟩]⟩,
  ⟨"SHED_CFG", 0x4C, [], [⟨"SHED_DELAY", 7, 0, .rw, [4], .between 1 255⟩, ⟨"RESTORE_MS", 23, 8, .rw, [1000], .between 10 60000⟩, ⟨"RESTORE_MARGIN", 28, 24, .rw, [5], .between 0 20⟩]⟩,
  ⟨"SHED_STATUS", 0x50, [], [⟨"ACTIVE", 0, 0, .ro, [0], .any⟩, ⟨"LOWEST", 2, 1, .ro, [0], .any⟩, ⟨"LAST_STREAM", 15, 8, .ro, [0], .any⟩, ⟨"STEPS", 31, 16, .ro, [0], .any⟩]⟩,
  ⟨"EVENT_SRC", 0x54, [], [⟨"MONITOR", 4, 0, .ro, [0], .any⟩]⟩,
  ⟨"BENCH_CAP", 0x58, [], [⟨"CAP", 19, 0, .ro, [0], .any⟩]⟩,
  ⟨"BENCH_DEMAND", 0x5C, [], [⟨"DEMAND", 19, 0, .ro, [0], .any⟩]⟩,
  ⟨"SHED_MAP", 0x60, [(0x4, 3)], [⟨"STATE_0", 1, 0, .ro, [0], .any⟩, ⟨"STATE_1", 3, 2, .ro, [0], .any⟩, ⟨"STATE_2", 5, 4, .ro, [0], .any⟩, ⟨"STATE_3", 7, 6, .ro, [0], .any⟩, ⟨"STATE_4", 9, 8, .ro, [0], .any⟩, ⟨"STATE_5", 11, 10, .ro, [0], .any⟩, ⟨"STATE_6", 13, 12, .ro, [0], .any⟩, ⟨"STATE_7", 15, 14, .ro, [0], .any⟩, ⟨"STATE_8", 17, 16, .ro, [0], .any⟩, ⟨"STATE_9", 19, 18, .ro, [0], .any⟩, ⟨"STATE_10", 21, 20, .ro, [0], .any⟩, ⟨"STATE_11", 23, 22, .ro, [0], .any⟩, ⟨"STATE_12", 25, 24, .ro, [0], .any⟩, ⟨"STATE_13", 27, 26, .ro, [0], .any⟩, ⟨"STATE_14", 29, 28, .ro, [0], .any⟩, ⟨"STATE_15", 31, 30, .ro, [0], .any⟩]⟩,
  ⟨"SHED_RANK", 0x70, [(0x4, 6)], [⟨"RANK_0", 3, 0, .rw, [0], .any⟩, ⟨"RANK_1", 7, 4, .rw, [0], .any⟩, ⟨"RANK_2", 11, 8, .rw, [0], .any⟩, ⟨"RANK_3", 15, 12, .rw, [0], .any⟩, ⟨"RANK_4", 19, 16, .rw, [0], .any⟩, ⟨"RANK_5", 23, 20, .rw, [0], .any⟩, ⟨"RANK_6", 27, 24, .rw, [0], .any⟩, ⟨"RANK_7", 31, 28, .rw, [0], .any⟩]⟩,
  ⟨"MON_NOW", 0x100, [(0x20, 20)], [⟨"PACE", 15, 0, .ro, [0], .any⟩]⟩,
  ⟨"MON_MIN", 0x104, [(0x20, 20)], [⟨"PACE", 15, 0, .ro, [0], .any⟩]⟩]
def rows_pace_1 : List RegRow := [
  ⟨"MON_DEMAND", 0x108, [(0x20, 20)], [⟨"DEMAND", 15, 0, .ro, [0], .any⟩]⟩,
  ⟨"MON_MARGIN", 0x10C, [(0x20, 20)], [⟨"MARGIN", 15, 0, .ro, [0], .any⟩]⟩,
  ⟨"MON_LOAD", 0x110, [(0x20, 20)], [⟨"LOAD", 15, 0, .ro, [0], .any⟩]⟩]
/-- The registers of a pace page or window. -/
def rows_pace : List RegRow := rows_pace_0 ++ rows_pace_1

def rows_evt_0 : List RegRow := [
  ⟨"PIN_CFG", 0x40, [(0x4, 8)], [⟨"ENABLE", 0, 0, .rw, [0], .any⟩, ⟨"POLARITY", 1, 1, .rw, [0], .any⟩, ⟨"FAILSAFE", 3, 2, .rw, [0], .between 0 2⟩, ⟨"TIMEOUT_MS", 31, 16, .rw, [0], .any⟩]⟩,
  ⟨"PIN_STATE", 0x60, [], [⟨"ASSERTED", 7, 0, .ro, [0], .any⟩, ⟨"FAILSAFE", 15, 8, .ro, [0], .any⟩]⟩,
  ⟨"EVENT_SRC", 0x64, [], [⟨"STREAM", 5, 0, .ro, [0], .any⟩, ⟨"INDEX", 15, 12, .ro, [0], .any⟩]⟩]
/-- The registers of a evt page or window. -/
def rows_evt : List RegRow := rows_evt_0

/-- The registers of a svc page or window. -/
def rows_svc : List RegRow := []

def rows_sec_0 : List RegRow := [
  ⟨"BOOT_INFO", 0x40, [], [⟨"MON_SLOT", 0, 0, .ro, [0], .any⟩, ⟨"APP_SLOT", 1, 1, .ro, [0], .any⟩, ⟨"SV_SLOT", 2, 2, .ro, [0], .any⟩, ⟨"CFG_SLOT", 3, 3, .ro, [0], .any⟩, ⟨"TRIAL", 4, 4, .ro, [0], .any⟩, ⟨"SV_DEFAULTS", 5, 5, .ro, [0], .any⟩, ⟨"OWNER_ENROLLED", 6, 6, .ro, [0], .any⟩, ⟨"DEBUG_LOCKED", 7, 7, .ro, [0], .any⟩, ⟨"DEBUG_SCOPE", 11, 8, .ro, [0], .any⟩]⟩,
  ⟨"BOOT_COUNT", 0x44, [], [⟨"COUNT", 31, 0, .ro, [0], .any⟩]⟩,
  ⟨"ROLLBACK0", 0x48, [], [⟨"COUNT_0", 7, 0, .ro, [0], .any⟩, ⟨"COUNT_1", 15, 8, .ro, [0], .any⟩, ⟨"COUNT_2", 23, 16, .ro, [0], .any⟩, ⟨"COUNT_3", 31, 24, .ro, [0], .any⟩]⟩,
  ⟨"ROLLBACK1", 0x4C, [], [⟨"COUNT_0", 7, 0, .ro, [0], .any⟩, ⟨"COUNT_1", 15, 8, .ro, [0], .any⟩, ⟨"COUNT_2", 23, 16, .ro, [0], .any⟩, ⟨"COUNT_3", 31, 24, .ro, [0], .any⟩]⟩,
  ⟨"CMD", 0x50, [], [⟨"CLASS", 27, 24, .wo, [0], .any⟩, ⟨"OP", 31, 28, .wo, [0], .between 1 10⟩]⟩,
  ⟨"CMD_ADDR_LO", 0x54, [], [⟨"ADDR", 31, 6, .rw, [0], .any⟩]⟩,
  ⟨"CMD_ADDR_HI", 0x58, [], [⟨"ADDR", 7, 0, .rw, [0], .any⟩]⟩,
  ⟨"CMD_LEN", 0x5C, [], [⟨"BYTES", 31, 0, .rw, [0], .any⟩]⟩,
  ⟨"CMD_RESULT", 0x60, [], [⟨"CODE", 7, 0, .ro, [0], .any⟩, ⟨"OP", 23, 20, .ro, [0], .any⟩, ⟨"BUSY", 30, 30, .ro, [0], .any⟩, ⟨"VALID", 31, 31, .ro, [0], .any⟩]⟩,
  ⟨"HANDOVER", 0x64, [], [⟨"PHASE", 1, 0, .ro, [0], .any⟩, ⟨"QUIESCED", 2, 2, .w1s, [0], .any⟩, ⟨"DONE", 3, 3, .w1s, [0], .any⟩, ⟨"TIMEOUT_MS", 31, 16, .rw, [2000], .between 100 65535⟩]⟩,
  ⟨"PROFILE_VALID", 0x68, [], [⟨"PROFILE", 15, 0, .ro, [0], .any⟩, ⟨"LUT_BUNDLE", 23, 16, .ro, [0], .any⟩]⟩,
  ⟨"IMAGE", 0x70, [(0x4, 6)], [⟨"STATE_A", 1, 0, .ro, [0], .any⟩, ⟨"STATE_B", 3, 2, .ro, [0], .any⟩, ⟨"PREFERRED", 4, 4, .ro, [0], .any⟩, ⟨"SVN_A", 23, 16, .ro, [0], .any⟩, ⟨"SVN_B", 31, 24, .ro, [0], .any⟩]⟩]
def rows_sec_1 : List RegRow := [
  ⟨"EVENT_SRC", 0x88, [], [⟨"ORIGIN", 3, 0, .ro, [0], .any⟩, ⟨"CLASS", 7, 4, .ro, [0], .any⟩]⟩]
/-- The registers of a sec page or window. -/
def rows_sec : List RegRow := rows_sec_0 ++ rows_sec_1

def rows_host_0 : List RegRow := [
  ⟨"CFG", 0x40, [], [⟨"LEASE_MS", 15, 0, .rw, [100], .between 1 65535⟩, ⟨"APERTURE_EN", 19, 19, .rw, [1], .any⟩, ⟨"MAX_GEN", 23, 20, .rw, [6], .between 1 6⟩]⟩,
  ⟨"LINK_STATUS", 0x44, [], [⟨"UP", 0, 0, .ro, [0], .any⟩, ⟨"GEN", 7, 4, .ro, [0], .any⟩, ⟨"WIDTH", 11, 8, .ro, [0], .any⟩, ⟨"FLIT", 12, 12, .ro, [0], .any⟩]⟩,
  ⟨"APERTURE_LO", 0x48, [], [⟨"ADDR", 31, 30, .rw, [0], .any⟩]⟩,
  ⟨"APERTURE_HI", 0x4C, [], [⟨"ADDR", 7, 0, .rw, [0], .any⟩, ⟨"SIZE_LOG2", 31, 24, .ro, [30], .any⟩]⟩,
  ⟨"COUNTS", 0x50, [], [⟨"UR", 7, 0, .ro, [0], .any⟩, ⟨"POISON_TLPS", 15, 8, .ro, [0], .any⟩, ⟨"FLRS", 23, 16, .ro, [0], .any⟩, ⟨"LINK_DOWNS", 31, 24, .ro, [0], .any⟩]⟩]
/-- The registers of a host page or window. -/
def rows_host : List RegRow := rows_host_0

def rows_dma_0 : List RegRow := [
  ⟨"EVENT_SRC", 0x40, [], [⟨"RING", 3, 0, .ro, [0], .any⟩]⟩,
  ⟨"RING_CFG", 0x100, [(0x20, 16)], [⟨"SIZE_LOG2", 3, 0, .rw, [8], .between 4 12⟩, ⟨"LOC", 8, 8, .rw, [0], .any⟩, ⟨"WEIGHT", 23, 16, .rw, [1], .between 1 255⟩, ⟨"EN", 31, 31, .rw, [0], .any⟩]⟩,
  ⟨"RING_BASE_LO", 0x104, [(0x20, 16)], [⟨"ADDR", 31, 6, .rw, [0], .any⟩]⟩,
  ⟨"RING_BASE_HI", 0x108, [(0x20, 16)], [⟨"ADDR", 31, 0, .rw, [0], .any⟩]⟩,
  ⟨"RING_HEAD", 0x10C, [(0x20, 16)], [⟨"INDEX", 11, 0, .ro, [0], .any⟩]⟩,
  ⟨"RING_TAIL", 0x110, [(0x20, 16)], [⟨"INDEX", 11, 0, .rw, [0], .any⟩]⟩,
  ⟨"RING_STATUS", 0x114, [(0x20, 16)], [⟨"STATE", 1, 0, .ro, [0], .any⟩, ⟨"LAST_CODE", 31, 24, .ro, [0], .any⟩]⟩,
  ⟨"RING_COUNT", 0x118, [(0x20, 16)], [⟨"DONE", 31, 0, .ro, [0], .any⟩]⟩,
  ⟨"RING_CTRL", 0x11C, [(0x20, 16)], [⟨"RESUME", 0, 0, .wo, [0], .any⟩, ⟨"SKIP", 1, 1, .wo, [0], .any⟩]⟩]
/-- The registers of a dma page or window. -/
def rows_dma : List RegRow := rows_dma_0

def rows_camp_0 : List RegRow := [
  ⟨"BUS_CFG", 0x40, [], [⟨"BITS", 1, 0, .rws, [2], .between 0 2⟩, ⟨"DDR", 2, 2, .rws, [0], .any⟩, ⟨"EDGE", 3, 3, .rws, [0], .any⟩, ⟨"LV_POL", 4, 4, .rws, [0], .any⟩, ⟨"FV_POL", 5, 5, .rws, [0], .any⟩, ⟨"SYNC", 7, 6, .rws, [0], .between 0 2⟩, ⟨"FORMAT", 9, 8, .rws, [0], .between 0 2⟩]⟩,
  ⟨"PCLK_CFG", 0x44, [], [⟨"MIN_PERIOD_PS", 15, 0, .rws, [4000], .any⟩]⟩,
  ⟨"PCLK_MEAS", 0x48, [], [⟨"KHZ", 17, 0, .ro, [0], .any⟩]⟩,
  ⟨"ENT_MAP", 0x100, [(0x40, 1)], [⟨"KEEP_PARTIAL", 1, 1, .rws, [0], .any⟩, ⟨"STAMP_MODE", 2, 2, .rws, [0], .any⟩, ⟨"STAMP_LINE", 3, 3, .rws, [0], .any⟩, ⟨"EXP", 21, 20, .rws, [0], .between 0 2⟩, ⟨"STREAM", 29, 24, .rws, [0], .between 0 47⟩, ⟨"VALID", 31, 31, .rws, [0], .any⟩]⟩,
  ⟨"ENT_SIZE", 0x104, [(0x40, 1)], [⟨"WIDTH", 15, 0, .rws, [1920], .multiple 2 16 16384⟩, ⟨"HEIGHT", 31, 16, .rws, [1080], .between 16 8192⟩]⟩,
  ⟨"ENT_TIMING", 0x108, [(0x40, 1)], [⟨"LINE_NS", 19, 0, .rws, [14815], .between 100 1000000⟩, ⟨"TIMEOUT_LINES", 23, 20, .rws, [4], .between 1 15⟩, ⟨"MAX_BAD", 31, 24, .rws, [8], .any⟩]⟩,
  ⟨"ENT_STAMP", 0x10C, [(0x40, 1)], [⟨"POLY", 1, 0, .rws, [0], .any⟩, ⟨"BIG_ENDIAN", 2, 2, .rws, [0], .any⟩, ⟨"ALIVE_OFF", 13, 4, .rws, [0], .any⟩, ⟨"CRC_OFF", 25, 16, .rws, [0], .any⟩]⟩,
  ⟨"ENT_WATCH", 0x110, [(0x40, 1)], [⟨"FRAME_TIMEOUT_MS", 15, 0, .rws, [100], .any⟩]⟩,
  ⟨"ENT_FRAME_NO", 0x114, [(0x40, 1)], [⟨"FRAME_NO", 31, 0, .ro, [0], .any⟩]⟩,
  ⟨"ENT_RATE", 0x118, [(0x40, 1)], [⟨"MEAS", 19, 0, .ro, [0], .any⟩]⟩,
  ⟨"ENT_FS_INTERVAL", 0x11C, [(0x40, 1)], [⟨"NS", 31, 0, .ro, [0], .any⟩]⟩,
  ⟨"ENT_STAMP_STATUS", 0x120, [(0x40, 1)], [⟨"ALIVE", 15, 0, .ro, [0], .any⟩, ⟨"STATUS", 17, 16, .ro, [0], .any⟩, ⟨"SKIPS", 31, 24, .ro, [0], .any⟩]⟩]
def rows_camp_1 : List RegRow := [
  ⟨"ENT_COUNTS", 0x124, [(0x40, 1)], [⟨"STAMP_FAIL", 7, 0, .ro, [0], .any⟩, ⟨"DISCARDED", 15, 8, .ro, [0], .any⟩, ⟨"TRUNCATED", 23, 16, .ro, [0], .any⟩, ⟨"MISSED_FS", 31, 24, .ro, [0], .any⟩]⟩]
/-- The registers of a camp page or window. -/
def rows_camp : List RegRow := rows_camp_0 ++ rows_camp_1

def rows_cams_0 : List RegRow := [
  ⟨"PHY_CFG", 0x40, [], [⟨"MODE", 1, 0, .rws, [0], .between 0 2⟩, ⟨"LANES", 4, 2, .rws, [4], .between 1 4⟩, ⟨"DESKEW", 6, 6, .rws, [1], .any⟩, ⟨"LANE_MAP", 23, 16, .rws, [228], .permutation4⟩]⟩,
  ⟨"PHY_RATE", 0x44, [], [⟨"RATE", 12, 0, .rws, [1500], .between 80 6000⟩]⟩,
  ⟨"PHY_STATUS", 0x48, [], [⟨"STOP", 3, 0, .ro, [0], .any⟩, ⟨"HS", 7, 4, .ro, [0], .any⟩, ⟨"ULPS", 11, 8, .ro, [0], .any⟩, ⟨"DESKEWED", 12, 12, .ro, [0], .any⟩, ⟨"SOT_ERR", 31, 24, .ro, [0], .any⟩]⟩,
  ⟨"PKT_COUNTS", 0x4C, [], [⟨"HDR_CORR", 7, 0, .ro, [0], .any⟩, ⟨"HDR_BAD", 15, 8, .ro, [0], .any⟩, ⟨"CRC_BAD", 23, 16, .ro, [0], .any⟩, ⟨"UNMAPPED", 31, 24, .ro, [0], .any⟩]⟩,
  ⟨"ASM_STATE", 0x50, [], [⟨"STATE_0", 1, 0, .ro, [0], .any⟩, ⟨"STATE_1", 3, 2, .ro, [0], .any⟩, ⟨"STATE_2", 5, 4, .ro, [0], .any⟩, ⟨"STATE_3", 7, 6, .ro, [0], .any⟩, ⟨"STATE_4", 9, 8, .ro, [0], .any⟩, ⟨"STATE_5", 11, 10, .ro, [0], .any⟩, ⟨"STATE_6", 13, 12, .ro, [0], .any⟩, ⟨"STATE_7", 15, 14, .ro, [0], .any⟩, ⟨"STATE_8", 17, 16, .ro, [0], .any⟩, ⟨"STATE_9", 19, 18, .ro, [0], .any⟩, ⟨"STATE_10", 21, 20, .ro, [0], .any⟩, ⟨"STATE_11", 23, 22, .ro, [0], .any⟩, ⟨"STATE_12", 25, 24, .ro, [0], .any⟩, ⟨"STATE_13", 27, 26, .ro, [0], .any⟩, ⟨"STATE_14", 29, 28, .ro, [0], .any⟩, ⟨"STATE_15", 31, 30, .ro, [0], .any⟩]⟩,
  ⟨"EVENT_SRC", 0x54, [], [⟨"ENTRY", 3, 0, .ro, [0], .any⟩]⟩,
  ⟨"HDR_CFG", 0x58, [], [⟨"WINDOW", 11, 0, .rws, [64], .between 1 4095⟩]⟩,
  ⟨"ENT_MAP", 0x100, [(0x40, 16)], [⟨"KEEP_PARTIAL", 1, 1, .rws, [0], .any⟩, ⟨"STAMP_MODE", 2, 2, .rws, [0], .any⟩, ⟨"STAMP_LINE", 3, 3, .rws, [0], .any⟩, ⟨"DT", 13, 8, .rws, [44], .oneOf [30, 31, 42, 43, 44, 45, 46, 47]⟩, ⟨"VC", 19, 16, .rws, [0], .any⟩, ⟨"EXP", 21, 20, .rws, [0], .between 0 2⟩, ⟨"STREAM", 29, 24, .rws, [0], .between 0 47⟩, ⟨"VALID", 31, 31, .rws, [0], .any⟩]⟩,
  ⟨"ENT_SIZE", 0x104, [(0x40, 16)], [⟨"WIDTH", 15, 0, .rws, [1920], .multiple 2 16 16384⟩, ⟨"HEIGHT", 31, 16, .rws, [1080], .between 16 8192⟩]⟩,
  ⟨"ENT_TIMING", 0x108, [(0x40, 16)], [⟨"LINE_NS", 19, 0, .rws, [14815], .between 100 1000000⟩, ⟨"TIMEOUT_LINES", 23, 20, .rws, [4], .between 1 15⟩, ⟨"MAX_BAD", 31, 24, .rws, [8], .any⟩]⟩,
  ⟨"ENT_STAMP", 0x10C, [(0x40, 16)], [⟨"POLY", 1, 0, .rws, [0], .any⟩, ⟨"BIG_ENDIAN", 2, 2, .rws, [0], .any⟩, ⟨"ALIVE_OFF", 13, 4, .rws, [0], .any⟩, ⟨"CRC_OFF", 25, 16, .rws, [0], .any⟩]⟩,
  ⟨"ENT_WATCH", 0x110, [(0x40, 16)], [⟨"FRAME_TIMEOUT_MS", 15, 0, .rws, [100], .any⟩]⟩]
def rows_cams_1 : List RegRow := [
  ⟨"ENT_FRAME_NO", 0x114, [(0x40, 16)], [⟨"FRAME_NO", 31, 0, .ro, [0], .any⟩]⟩,
  ⟨"ENT_RATE", 0x118, [(0x40, 16)], [⟨"MEAS", 19, 0, .ro, [0], .any⟩]⟩,
  ⟨"ENT_FS_INTERVAL", 0x11C, [(0x40, 16)], [⟨"NS", 31, 0, .ro, [0], .any⟩]⟩,
  ⟨"ENT_STAMP_STATUS", 0x120, [(0x40, 16)], [⟨"ALIVE", 15, 0, .ro, [0], .any⟩, ⟨"STATUS", 17, 16, .ro, [0], .any⟩, ⟨"SKIPS", 31, 24, .ro, [0], .any⟩]⟩,
  ⟨"ENT_COUNTS", 0x124, [(0x40, 16)], [⟨"STAMP_FAIL", 7, 0, .ro, [0], .any⟩, ⟨"DISCARDED", 15, 8, .ro, [0], .any⟩, ⟨"TRUNCATED", 23, 16, .ro, [0], .any⟩, ⟨"MISSED_FS", 31, 24, .ro, [0], .any⟩]⟩]
/-- The registers of a cams page or window. -/
def rows_cams : List RegRow := rows_cams_0 ++ rows_cams_1

def rows_cctl_0 : List RegRow := [
  ⟨"CFG", 0x40, [], [⟨"BUS", 1, 0, .rw, [0], .between 0 1⟩, ⟨"CAPTURE_SRC", 2, 2, .rw, [0], .any⟩, ⟨"STREAM", 13, 8, .rw, [0], .between 0 47⟩, ⟨"PROFILE", 19, 16, .rw, [0], .any⟩]⟩,
  ⟨"BUS_CFG", 0x44, [], [⟨"KHZ", 13, 0, .rw, [400], .any⟩, ⟨"ADDR", 22, 16, .rw, [16], .any⟩]⟩,
  ⟨"CMD_TARGET", 0x48, [], [⟨"FRAME", 31, 0, .rw, [0], .any⟩]⟩,
  ⟨"CMD_EXP", 0x4C, [(0x4, 3)], [⟨"NS", 31, 0, .rw, [0], .any⟩]⟩,
  ⟨"CMD_GAIN", 0x58, [], [⟨"AGAIN", 15, 0, .rw, [256], .any⟩, ⟨"DGAIN", 31, 16, .rw, [256], .any⟩]⟩,
  ⟨"CMD_WB_RG", 0x5C, [], [⟨"WB_R", 15, 0, .rw, [4096], .any⟩, ⟨"WB_G", 31, 16, .rw, [4096], .any⟩]⟩,
  ⟨"CMD_WB_B", 0x60, [], [⟨"WB_B", 15, 0, .rw, [4096], .any⟩]⟩,
  ⟨"CMD_PUSH", 0x64, [], [⟨"MASK", 4, 0, .wo, [0], .any⟩, ⟨"TAG", 31, 16, .wo, [0], .any⟩]⟩,
  ⟨"CMD_STATUS", 0x68, [], [⟨"QUEUED", 3, 0, .ro, [0], .any⟩, ⟨"RESULTS", 12, 8, .ro, [0], .any⟩]⟩,
  ⟨"RESULT", 0x70, [], [⟨"CODE", 2, 0, .ro, [0], .any⟩, ⟨"TAG", 31, 16, .ro, [0], .any⟩]⟩,
  ⟨"RESULT_FRAME", 0x74, [], [⟨"FRAME", 31, 0, .ro, [0], .any⟩]⟩,
  ⟨"RESULT_POP", 0x78, [], [⟨"POP", 0, 0, .wo, [0], .any⟩]⟩]
def rows_cctl_1 : List RegRow := [
  ⟨"TRIG_CFG", 0x7C, [], [⟨"MODE", 1, 0, .rw, [0], .between 0 2⟩, ⟨"FSYNC", 3, 2, .rw, [0], .any⟩, ⟨"WIDTH_US", 15, 8, .rw, [10], .between 1 255⟩, ⟨"DELAY_US", 31, 16, .rw, [0], .any⟩]⟩,
  ⟨"TRIG_FIRE", 0x80, [], [⟨"FIRE", 0, 0, .wo, [0], .any⟩]⟩,
  ⟨"STRB_MID", 0x84, [], [⟨"NS", 31, 0, .ro, [0], .any⟩]⟩,
  ⟨"COUNTS", 0x88, [], [⟨"RESULT_LOST", 7, 0, .ro, [0], .any⟩, ⟨"MISMATCH", 15, 8, .ro, [0], .any⟩, ⟨"FAILED", 23, 16, .ro, [0], .any⟩, ⟨"LATE", 31, 24, .ro, [0], .any⟩]⟩,
  ⟨"XFER_CTRL", 0x90, [], [⟨"LEN", 3, 0, .wo, [0], .any⟩, ⟨"SUB_LEN", 9, 8, .wo, [0], .between 0 2⟩, ⟨"DIR", 16, 16, .wo, [0], .any⟩, ⟨"START", 31, 31, .wo, [0], .any⟩]⟩,
  ⟨"XFER_SUB", 0x94, [], [⟨"SUB", 15, 0, .rw, [0], .any⟩]⟩,
  ⟨"XFER_DATA", 0x98, [(0x4, 4)], [⟨"DATA", 31, 0, .rw, [0], .any⟩]⟩,
  ⟨"XFER_STATUS", 0xA8, [], [⟨"BYTES", 4, 0, .ro, [0], .any⟩, ⟨"RESULT", 10, 8, .ro, [0], .any⟩, ⟨"BUSY", 31, 31, .ro, [0], .any⟩]⟩]
/-- The registers of a cctl page or window. -/
def rows_cctl : List RegRow := rows_cctl_0 ++ rows_cctl_1

def rows_shut_0 : List RegRow := [
  ⟨"SPILL_BASE_LO", 0x40, [], [⟨"ADDR", 31, 12, .rw, [0], .any⟩]⟩,
  ⟨"SPILL_BASE_HI", 0x44, [], [⟨"ADDR", 7, 0, .rw, [0], .any⟩]⟩,
  ⟨"SPILL_SIZE", 0x48, [], [⟨"KIB", 15, 0, .rw, [0], .any⟩]⟩,
  ⟨"STORE", 0x4C, [], [⟨"USED_KIB", 12, 0, .ro, [0], .any⟩, ⟨"SPILLED", 21, 16, .ro, [0], .any⟩]⟩,
  ⟨"BENCH_STATUS", 0x50, [(0x4, 6)], [⟨"RUN_STREAM", 5, 0, .ro, [0], .any⟩, ⟨"RUN_VALID", 7, 7, .ro, [0], .any⟩, ⟨"NEXT_STREAM", 13, 8, .ro, [0], .any⟩, ⟨"NEXT_VALID", 15, 15, .ro, [0], .any⟩, ⟨"PIN_STREAM", 21, 16, .ro, [0], .any⟩, ⟨"PIN_VALID", 23, 23, .ro, [0], .any⟩, ⟨"STATE", 25, 24, .ro, [0], .any⟩]⟩,
  ⟨"EVENT_SRC", 0x68, [], [⟨"STREAM", 5, 0, .ro, [0], .any⟩]⟩,
  ⟨"STAGE_STATUS", 0x6C, [], [⟨"ONCHIP_KIB", 11, 0, .ro, [0], .any⟩]⟩]
/-- The registers of a shut page or window. -/
def rows_shut : List RegRow := rows_shut_0

def rows_bench_0 : List RegRow := [
  ⟨"RAW_COUNTS", 0x40, [], [⟨"CLAMPED", 15, 0, .ro, [0], .any⟩, ⟨"PARTIAL", 31, 16, .ro, [0], .any⟩]⟩,
  ⟨"TRANSIT", 0x44, [], [⟨"MAX_NS", 15, 0, .ro, [0], .any⟩]⟩,
  ⟨"STRIPES", 0x48, [], [⟨"COUNT", 31, 0, .ro, [0], .any⟩]⟩,
  ⟨"EVENT_SRC", 0x4C, [], [⟨"STREAM", 5, 0, .ro, [0], .any⟩]⟩]
/-- The registers of a bench page or window. -/
def rows_bench : List RegRow := rows_bench_0

def rows_svb_0 : List RegRow := [
  ⟨"STATUS", 0x40, [], [⟨"RECORD_SRC", 1, 0, .ro, [0], .any⟩, ⟨"LANES", 10, 8, .ro, [0], .any⟩, ⟨"RATE", 15, 12, .ro, [0], .any⟩, ⟨"PORT", 18, 16, .ro, [0], .any⟩, ⟨"QUAD_ACTIVE", 27, 24, .ro, [0], .any⟩, ⟨"QUAD_STALE", 31, 28, .ro, [0], .any⟩]⟩,
  ⟨"QUAD_AGE", 0x44, [(0x4, 4)], [⟨"AGE_MS", 15, 0, .ro, [0], .any⟩, ⟨"FRAMES", 31, 16, .ro, [0], .any⟩]⟩,
  ⟨"COUNTS", 0x54, [], [⟨"ENGAGES", 7, 0, .ro, [0], .any⟩, ⟨"STALE_ENTRIES", 15, 8, .ro, [0], .any⟩, ⟨"LINK_LOSS", 23, 16, .ro, [0], .any⟩, ⟨"TRAIN_FAIL", 31, 24, .ro, [0], .any⟩]⟩]
/-- The registers of a svb page or window. -/
def rows_svb : List RegRow := rows_svb_0

def rows_lutm_0 : List RegRow := [
  ⟨"PARTITION", 0x40, [], [⟨"LARGE", 7, 0, .rw, [0], .any⟩]⟩,
  ⟨"LOAD_SRC_LO", 0x44, [], [⟨"ADDR", 31, 6, .rw, [0], .any⟩]⟩,
  ⟨"LOAD_SRC_HI", 0x48, [], [⟨"ADDR", 7, 0, .rw, [0], .any⟩]⟩,
  ⟨"LOAD_CTRL", 0x4C, [], [⟨"SLOT", 5, 0, .wo, [0], .any⟩, ⟨"START", 31, 31, .wo, [0], .any⟩]⟩,
  ⟨"LOAD_STATUS", 0x50, [], [⟨"SLOT", 5, 0, .ro, [0], .any⟩, ⟨"FAILED", 8, 8, .ro, [0], .any⟩, ⟨"BUSY", 31, 31, .ro, [0], .any⟩]⟩,
  ⟨"VALID_LO", 0x54, [], [⟨"VALID", 31, 0, .ro, [0], .any⟩]⟩,
  ⟨"VALID_HI", 0x58, [], [⟨"VALID", 31, 0, .ro, [0], .any⟩]⟩,
  ⟨"EVENT_SRC", 0x5C, [], [⟨"STREAM", 5, 0, .ro, [0], .any⟩, ⟨"SLOT", 21, 16, .ro, [0], .any⟩]⟩]
/-- The registers of a lutm page or window. -/
def rows_lutm : List RegRow := rows_lutm_0

def rows_strm_0 : List RegRow := [
  ⟨"SCHED", 0x40, [], [⟨"CLASS", 1, 0, .rws, [1], .any⟩, ⟨"AFFINITY", 2, 2, .rws, [0], .any⟩, ⟨"BENCH", 6, 4, .rws, [0], .between 0 5⟩, ⟨"STRIPE_ROWS", 15, 8, .rws, [4], .between 1 32⟩, ⟨"OVH_MIN", 20, 16, .rws, [3], .between 0 25⟩, ⟨"STAGE_ZRAW", 24, 24, .rws, [0], .any⟩]⟩,
  ⟨"ADMIT_GEOM", 0x44, [], [⟨"WIDTH", 15, 0, .rws, [1920], .multiple 2 16 16384⟩, ⟨"HEIGHT", 31, 16, .rws, [1080], .between 16 8192⟩]⟩,
  ⟨"ADMIT_RATE", 0x48, [], [⟨"FPS_MHZ", 19, 0, .rws, [60000], .between 1000 1000000⟩, ⟨"EXPOSURES", 25, 24, .rws, [1], .between 1 3⟩]⟩,
  ⟨"SLACK", 0x4C, [], [⟨"SLACK_US", 19, 0, .rws, [1000], .between 0 1000000⟩]⟩,
  ⟨"STAGE_ADDR_LO", 0x50, [], [⟨"ADDR", 31, 12, .rws, [0], .any⟩]⟩,
  ⟨"STAGE_ADDR_HI", 0x54, [], [⟨"ADDR", 7, 0, .rws, [0], .any⟩]⟩,
  ⟨"STAGE_ROWS", 0x58, [], [⟨"ROWS", 13, 0, .rws, [128], .any⟩]⟩,
  ⟨"CTX_STATUS", 0x5C, [], [⟨"KIB", 11, 0, .ro, [0], .any⟩, ⟨"PLACE", 15, 14, .ro, [0], .any⟩, ⟨"OVH", 20, 16, .ro, [0], .any⟩, ⟨"OVH_MEAS", 31, 22, .ro, [0], .any⟩]⟩,
  ⟨"DEMAND", 0x60, [], [⟨"DEMAND", 19, 0, .ro, [0], .any⟩]⟩,
  ⟨"FRAME_NO", 0x64, [], [⟨"FRAME_NO", 31, 0, .ro, [0], .any⟩]⟩,
  ⟨"SCHED_COUNTS", 0x68, [], [⟨"EXPOSED", 7, 0, .ro, [0], .any⟩, ⟨"OVERFLOW", 15, 8, .ro, [0], .any⟩, ⟨"DROPPED", 23, 16, .ro, [0], .any⟩, ⟨"LATE", 31, 24, .ro, [0], .any⟩]⟩,
  ⟨"RAW_CFG", 0x1040, [], [⟨"CFA", 2, 0, .rws, [0], .between 0 4⟩, ⟨"STATIC_EN", 3, 3, .rws, [1], .any⟩, ⟨"DYN_EN", 4, 4, .rws, [1], .any⟩, ⟨"NR_EN", 5, 5, .rws, [1], .any⟩, ⟨"SHADE_EN", 6, 6, .rws, [0], .any⟩, ⟨"MOTION_EN", 7, 7, .rws, [1], .any⟩, ⟨"DCG", 8, 8, .rws, [0], .any⟩, ⟨"PROFILE", 31, 28, .rws, [0], .any⟩]⟩]
def rows_strm_1 : List RegRow := [
  ⟨"BLACK", 0x1044, [(0x10, 3), (0x4, 4)], [⟨"LEVEL", 19, 0, .rws, [0], .any⟩]⟩,
  ⟨"WHITE", 0x1074, [(0x4, 3)], [⟨"LEVEL", 19, 0, .rws, [1048575], .any⟩]⟩,
  ⟨"HDR_MERGE", 0x1080, [], [⟨"MOTION_THR", 15, 0, .rws, [1024], .any⟩, ⟨"KNEE", 31, 16, .rws, [49152], .between 32768 64881⟩]⟩,
  ⟨"HDR_FLOOR", 0x1084, [], [⟨"FLOOR", 19, 0, .rws, [188416], .between 0 524287⟩]⟩,
  ⟨"DCG_RATIO", 0x1088, [], [⟨"RATIO", 31, 0, .rws, [262144], .between 65536 268435456⟩]⟩,
  ⟨"DEFECT_DYN", 0x108C, [], [⟨"OFFSET", 19, 0, .rws, [172032], .between 0 524287⟩, ⟨"T", 31, 24, .rws, [64], .any⟩]⟩,
  ⟨"NOISE_A", 0x1090, [], [⟨"A", 19, 0, .rws, [172032], .between 0 524287⟩]⟩,
  ⟨"NOISE_B", 0x1094, [], [⟨"B", 19, 0, .rws, [114688], .between 0 524287⟩]⟩,
  ⟨"NR_CTRL", 0x1098, [], [⟨"STRENGTH", 8, 0, .rws, [128], .between 0 256⟩, ⟨"K", 23, 16, .rws, [48], .between 16 255⟩]⟩,
  ⟨"DEMOSAIC", 0x109C, [], [⟨"EDGE_T", 7, 0, .rws, [32], .any⟩]⟩,
  ⟨"SHADE_ADDR_LO", 0x10A0, [], [⟨"ADDR", 31, 6, .rws, [0], .any⟩]⟩,
  ⟨"SHADE_ADDR_HI", 0x10A4, [], [⟨"ADDR", 7, 0, .rws, [0], .any⟩]⟩]
def rows_strm_2 : List RegRow := [
  ⟨"RAW_STATUS", 0x10A8, [], [⟨"MISSING_ROWS", 15, 0, .ro, [0], .any⟩, ⟨"DYN_COUNT", 31, 16, .ro, [0], .any⟩]⟩,
  ⟨"RAW_STATUS2", 0x10AC, [], [⟨"HDR_PARTIAL", 0, 0, .ro, [0], .any⟩, ⟨"RATIO_CLAMPED", 1, 1, .ro, [0], .any⟩, ⟨"SHADE_VALID", 2, 2, .ro, [0], .any⟩, ⟨"UNRESOLVED", 31, 16, .ro, [0], .any⟩]⟩,
  ⟨"COLOUR_CFG", 0x2040, [], [⟨"GRID_MODE", 1, 0, .rws, [0], .between 0 2⟩, ⟨"HILITE", 2, 2, .rws, [1], .any⟩, ⟨"TONE_EN", 3, 3, .rws, [0], .any⟩, ⟨"LOCAL_EN", 4, 4, .rws, [0], .any⟩, ⟨"LUT_EN", 5, 5, .rws, [0], .any⟩, ⟨"LUT_SHAPER", 6, 6, .rws, [0], .any⟩, ⟨"TNR_EN", 7, 7, .rws, [0], .any⟩, ⟨"INPUT_EOTF", 9, 8, .rws, [0], .between 0 2⟩, ⟨"LUT_SLOT", 29, 24, .rws, [0], .any⟩]⟩,
  ⟨"GRID_FIXED", 0x2044, [], [⟨"BLEND", 12, 0, .rws, [0], .between 0 4096⟩]⟩,
  ⟨"AUTO_GRID", 0x2048, [], [⟨"TAU", 7, 0, .rws, [8], .between 1 255⟩, ⟨"EDGE_TOL", 15, 8, .rws, [16], .any⟩, ⟨"MIN_VALID", 23, 16, .rws, [25], .between 1 100⟩, ⟨"DEFAULT_CLASS", 31, 28, .rws, [0], .any⟩]⟩,
  ⟨"AUTO_DARK", 0x204C, [], [⟨"DARK", 19, 0, .rws, [155648], .between 0 524287⟩]⟩,
  ⟨"TBL_ADDR_LO", 0x2050, [(0x8, 5)], [⟨"ADDR", 31, 6, .rws, [0], .any⟩]⟩,
  ⟨"TBL_ADDR_HI", 0x2054, [(0x8, 5)], [⟨"ADDR", 7, 0, .rws, [0], .any⟩]⟩,
  ⟨"CAM_M", 0x2078, [(0x4, 4)], [⟨"LO", 15, 0, .rws, [4096, 0, 4096, 0, 4096], .any⟩, ⟨"HI", 31, 16, .rws, [0], .any⟩]⟩,
  ⟨"CAM_M4", 0x2088, [], [⟨"LO", 15, 0, .rws, [4096], .any⟩]⟩,
  ⟨"CAM_OFF", 0x208C, [(0x4, 3)], [⟨"OFFSET", 19, 0, .rws, [0], .any⟩]⟩,
  ⟨"TNR_CFG", 0x2098, [], [⟨"DEPTH", 0, 0, .rws, [0], .any⟩, ⟨"THR", 15, 8, .rws, [16], .between 1 255⟩, ⟨"STRENGTH", 24, 16, .rws, [192], .between 0 256⟩]⟩]
def rows_strm_3 : List RegRow := [
  ⟨"COLOUR_STATUS", 0x209C, [], [⟨"GRID_ACTIVE", 1, 0, .ro, [0], .any⟩, ⟨"TNR_VALID", 2, 2, .ro, [0], .any⟩, ⟨"STALE", 31, 16, .ro, [0], .any⟩]⟩,
  ⟨"GRID_FROM", 0x20A0, [], [⟨"FRAME_NO", 31, 0, .ro, [0], .any⟩]⟩,
  ⟨"TAP_M", 0x2100, [(0x40, 4), (0x4, 4)], [⟨"LO", 15, 0, .rws, [4096, 0, 4096, 0, 4096], .any⟩, ⟨"HI", 31, 16, .rws, [0], .any⟩]⟩,
  ⟨"TAP_M4", 0x2110, [(0x40, 4)], [⟨"LO", 15, 0, .rws, [4096], .any⟩]⟩,
  ⟨"TAP_ENC", 0x2114, [(0x40, 4)], [⟨"ENCODING", 2, 0, .rws, [0], .between 0 5⟩, ⟨"LUT1D_EN", 8, 8, .rws, [0], .any⟩]⟩,
  ⟨"TAP_SCALE", 0x2118, [(0x40, 4)], [⟨"ENC_SCALE", 19, 0, .rws, [253952], .between 1 524287⟩]⟩,
  ⟨"TAP_LUT_LO", 0x211C, [(0x40, 4)], [⟨"ADDR", 31, 6, .rws, [0], .any⟩]⟩,
  ⟨"TAP_LUT_HI", 0x2120, [(0x40, 4)], [⟨"ADDR", 7, 0, .rws, [0], .any⟩]⟩,
  ⟨"TAP_CTRL", 0x3040, [(0x20, 4)], [⟨"EN", 0, 0, .rws, [0], .any⟩, ⟨"COEF_SRC", 1, 1, .rws, [0], .any⟩, ⟨"DEST", 5, 4, .rws, [0], .any⟩, ⟨"EXP", 9, 8, .rws, [0], .between 0 2⟩, ⟨"REC", 10, 10, .rws, [0], .any⟩, ⟨"RANGE", 11, 11, .rws, [0], .any⟩, ⟨"FORMAT", 15, 12, .rws, [2], .any⟩, ⟨"PHASE", 19, 16, .rws, [0], .any⟩, ⟨"DECIM", 23, 20, .rws, [0], .any⟩, ⟨"TARGET", 30, 24, .rws, [0], .any⟩]⟩,
  ⟨"TAP_CROP_POS", 0x3044, [(0x20, 4)], [⟨"X0", 15, 0, .rws, [0], .any⟩, ⟨"Y0", 31, 16, .rws, [0], .any⟩]⟩,
  ⟨"TAP_CROP_SIZE", 0x3048, [(0x20, 4)], [⟨"W", 15, 0, .rws, [0], .any⟩, ⟨"H", 31, 16, .rws, [0], .any⟩]⟩,
  ⟨"TAP_OUT_SIZE", 0x304C, [(0x20, 4)], [⟨"WOUT", 15, 0, .rws, [0], .any⟩, ⟨"HOUT", 31, 16, .rws, [0], .any⟩]⟩]
def rows_strm_4 : List RegRow := [
  ⟨"TAP_COEF_LO", 0x3050, [(0x20, 4)], [⟨"ADDR", 31, 6, .rws, [0], .any⟩]⟩,
  ⟨"TAP_COEF_HI", 0x3054, [(0x20, 4)], [⟨"ADDR", 7, 0, .rws, [0], .any⟩]⟩,
  ⟨"TAP_MISC", 0x3058, [(0x20, 4)], [⟨"ALPHA", 7, 0, .rws, [255], .any⟩]⟩,
  ⟨"TAP_STATUS", 0x305C, [(0x20, 4)], [⟨"MISMATCH", 7, 0, .ro, [0], .any⟩, ⟨"NO_BUFFER", 15, 8, .ro, [0], .any⟩, ⟨"FRAMES", 31, 16, .ro, [0], .any⟩]⟩,
  ⟨"STAT_CFG", 0x4040, [], [⟨"EN", 0, 0, .rws, [1], .any⟩, ⟨"ROW_GROUP", 2, 1, .rws, [0], .any⟩, ⟨"LOG_MIN", 23, 16, .rws, [244], .signed 8 (-24) (8)⟩, ⟨"META_KIB", 28, 24, .rws, [0], .between 0 16⟩]⟩,
  ⟨"STAT_WIN_POS", 0x4044, [], [⟨"X0", 15, 0, .rws, [0], .any⟩, ⟨"Y0", 31, 16, .rws, [0], .any⟩]⟩,
  ⟨"STAT_WIN_SIZE", 0x4048, [], [⟨"W", 15, 0, .rws, [0], .any⟩, ⟨"H", 31, 16, .rws, [0], .any⟩]⟩,
  ⟨"STAT_RING_LO", 0x404C, [], [⟨"ADDR", 31, 12, .rws, [0], .any⟩]⟩,
  ⟨"STAT_RING_HI", 0x4050, [], [⟨"ADDR", 7, 0, .rws, [0], .any⟩]⟩,
  ⟨"STAT_RING_SLOTS", 0x4054, [], [⟨"SLOTS", 10, 0, .rws, [8], .between 2 1024⟩, ⟨"SLOT_KIB", 27, 16, .ro, [0], .any⟩]⟩,
  ⟨"STAT_RING_WR", 0x4058, [], [⟨"INDEX", 9, 0, .ro, [0], .any⟩]⟩,
  ⟨"STAT_RING_RD", 0x405C, [], [⟨"INDEX", 9, 0, .rw, [0], .any⟩]⟩]
def rows_strm_5 : List RegRow := [
  ⟨"STAT_COUNTS", 0x4060, [], [⟨"LOST", 15, 0, .ro, [0], .any⟩, ⟨"META_TRUNC", 31, 24, .ro, [0], .any⟩]⟩,
  ⟨"RULE_STATE", 0x4064, [], [⟨"STATE", 15, 0, .ro, [0], .any⟩, ⟨"CHANGED", 31, 16, .ro, [0], .any⟩]⟩,
  ⟨"RULE_CFG", 0x4100, [(0x10, 16)], [⟨"METRIC", 25, 24, .rws, [0], .between 0 2⟩, ⟨"DIR", 26, 26, .rws, [0], .any⟩, ⟨"PIN_EN", 27, 27, .rws, [0], .any⟩, ⟨"PIN", 30, 28, .rws, [0], .any⟩, ⟨"EN", 31, 31, .rws, [0], .any⟩]⟩,
  ⟨"RULE_REGION", 0x4104, [(0x10, 16)], [⟨"I0", 5, 0, .rws, [0], .any⟩, ⟨"I1", 13, 8, .rws, [63], .any⟩, ⟨"J0", 21, 16, .rws, [0], .any⟩, ⟨"J1", 29, 24, .rws, [35], .any⟩]⟩,
  ⟨"RULE_LEVEL", 0x4108, [(0x10, 16)], [⟨"THRESH", 15, 0, .rws, [0], .any⟩, ⟨"HYST", 31, 16, .rws, [0], .any⟩]⟩]
/-- The registers of a strm page or window. -/
def rows_strm : List RegRow := rows_strm_0 ++ rows_strm_1 ++ rows_strm_2 ++ rows_strm_3 ++ rows_strm_4 ++ rows_strm_5

def rows_zraw_0 : List RegRow := [
  ⟨"CFG", 0x40, [], [⟨"STAGE", 0, 0, .rw, [0], .any⟩, ⟨"JOB_EN", 1, 1, .rw, [0], .any⟩, ⟨"NEAR", 3, 2, .rw, [0], .any⟩]⟩,
  ⟨"SEG_BASE_LO", 0x44, [], [⟨"ADDR", 31, 12, .rw, [0], .any⟩]⟩,
  ⟨"SEG_BASE_HI", 0x48, [], [⟨"ADDR", 7, 0, .rw, [0], .any⟩]⟩,
  ⟨"SEG_SIZE", 0x4C, [], [⟨"KIB", 15, 0, .rw, [0], .any⟩]⟩,
  ⟨"SEG_WR", 0x50, [], [⟨"OFFSET", 25, 0, .ro, [0], .any⟩]⟩,
  ⟨"SEG_RD", 0x54, [], [⟨"OFFSET", 25, 0, .rw, [0], .any⟩]⟩,
  ⟨"JOB_BASE_LO", 0x58, [], [⟨"ADDR", 31, 6, .rw, [0], .any⟩]⟩,
  ⟨"JOB_BASE_HI", 0x5C, [], [⟨"ADDR", 7, 0, .rw, [0], .any⟩]⟩,
  ⟨"JOB_RING", 0x60, [], [⟨"SLOTS", 11, 0, .rw, [16], .between 2 4095⟩]⟩,
  ⟨"JOB_TAIL", 0x64, [], [⟨"INDEX", 11, 0, .rw, [0], .any⟩]⟩,
  ⟨"JOB_HEAD", 0x68, [], [⟨"INDEX", 11, 0, .ro, [0], .any⟩]⟩,
  ⟨"COUNTS", 0x6C, [], [⟨"STAGE_RAW", 7, 0, .ro, [0], .any⟩, ⟨"NO_GAIN", 15, 8, .ro, [0], .any⟩, ⟨"DECODE_ERR", 23, 16, .ro, [0], .any⟩, ⟨"SEG_LOST", 31, 24, .ro, [0], .any⟩]⟩]
def rows_zraw_1 : List RegRow := [
  ⟨"BYTES_IN", 0x70, [], [⟨"KIB", 31, 0, .ro, [0], .any⟩]⟩,
  ⟨"BYTES_OUT", 0x74, [], [⟨"KIB", 31, 0, .ro, [0], .any⟩]⟩]
/-- The registers of a zraw page or window. -/
def rows_zraw : List RegRow := rows_zraw_0 ++ rows_zraw_1

def rows_enc_0 : List RegRow := [
  ⟨"ENGINE_CFG", 0x40, [], [⟨"GANG", 0, 0, .rw, [0], .any⟩]⟩,
  ⟨"ENGINE_STATUS", 0x44, [], [⟨"GANGED", 0, 0, .ro, [0], .any⟩, ⟨"ACTIVE", 6, 1, .ro, [0], .any⟩, ⟨"SRC_USED_KIB", 31, 16, .ro, [0], .any⟩]⟩,
  ⟨"EVENT_SRC", 0x48, [], [⟨"CONTEXT", 6, 0, .ro, [0], .any⟩]⟩,
  ⟨"COUNTS", 0x4C, [], [⟨"FLOORED_PICS", 7, 0, .ro, [0], .any⟩, ⟨"HRD_VIOL", 15, 8, .ro, [0], .any⟩, ⟨"SLICE_LATE", 23, 16, .ro, [0], .any⟩, ⟨"ABANDONED", 31, 24, .ro, [0], .any⟩]⟩,
  ⟨"CTX_CFG", 0x1100, [(0x1000, 4), (0x100, 8)], [⟨"EN", 0, 0, .rws, [0], .any⟩, ⟨"CODEC", 9, 9, .rws, [0], .any⟩, ⟨"PROFILE", 11, 10, .rws, [0], .any⟩, ⟨"CTU", 12, 12, .rws, [1], .any⟩, ⟨"WPP", 13, 13, .rws, [0], .any⟩, ⟨"B_FRAMES", 15, 14, .rws, [0], .between 0 2⟩, ⟨"REFRESH", 16, 16, .rws, [0], .any⟩, ⟨"RC_MODE", 19, 17, .rws, [0], .between 0 3⟩, ⟨"SLICE_CTU_ROWS", 25, 20, .rws, [1], .between 1 32⟩, ⟨"SRC_STRIPES", 31, 28, .rws, [2], .between 2 8⟩]⟩,
  ⟨"CTX_CFG2", 0x1104, [(0x1000, 4), (0x100, 8)], [⟨"INIT_QP", 5, 0, .rws, [26], .between 0 51⟩, ⟨"POC_BITS", 13, 9, .rws, [8], .between 4 16⟩, ⟨"FRAME_NUM_BITS", 18, 14, .rws, [8], .between 4 16⟩, ⟨"RECON_SLOTS", 23, 19, .rws, [2], .between 2 16⟩, ⟨"REFRESH_PICS", 31, 24, .rws, [30], .between 2 255⟩]⟩,
  ⟨"CTX_GEOM", 0x1108, [(0x1000, 4), (0x100, 8)], [⟨"WIDTH", 15, 0, .rws, [1920], .any⟩, ⟨"HEIGHT", 31, 16, .rws, [1080], .any⟩]⟩,
  ⟨"CTX_RC_RATE", 0x110C, [(0x1000, 4), (0x100, 8)], [⟨"KBPS", 31, 0, .rws, [8000], .any⟩]⟩,
  ⟨"CTX_RC_CPB", 0x1110, [(0x1000, 4), (0x100, 8)], [⟨"KBIT", 31, 0, .rws, [0], .any⟩]⟩,
  ⟨"CTX_HDR_LO", 0x1114, [(0x1000, 4), (0x100, 8)], [⟨"ADDR", 31, 6, .rws, [0], .any⟩]⟩,
  ⟨"CTX_HDR_HI", 0x1118, [(0x1000, 4), (0x100, 8)], [⟨"ADDR", 7, 0, .rws, [0], .any⟩]⟩,
  ⟨"CTX_OUT_LO", 0x111C, [(0x1000, 4), (0x100, 8)], [⟨"ADDR", 31, 6, .rws, [0], .multiple 64 0 67108863⟩]⟩]
def rows_enc_1 : List RegRow := [
  ⟨"CTX_OUT_HI", 0x1120, [(0x1000, 4), (0x100, 8)], [⟨"ADDR", 7, 0, .rws, [0], .any⟩]⟩,
  ⟨"CTX_OUT_SIZE", 0x1124, [(0x1000, 4), (0x100, 8)], [⟨"KIB", 15, 0, .rws, [1024], .multiple 4 64 65532⟩]⟩,
  ⟨"CTX_RECON_LO", 0x1128, [(0x1000, 4), (0x100, 8)], [⟨"ADDR", 31, 6, .rws, [0], .any⟩]⟩,
  ⟨"CTX_RECON_HI", 0x112C, [(0x1000, 4), (0x100, 8)], [⟨"ADDR", 7, 0, .rws, [0], .any⟩]⟩,
  ⟨"CTX_OUT_WR", 0x1130, [(0x1000, 4), (0x100, 8)], [⟨"OFFSET", 23, 0, .ro, [0], .any⟩]⟩,
  ⟨"CTX_OUT_RD", 0x1134, [(0x1000, 4), (0x100, 8)], [⟨"OFFSET", 23, 0, .rw, [0], .any⟩]⟩,
  ⟨"CTX_STATUS", 0x1138, [(0x1000, 4), (0x100, 8)], [⟨"STATE", 2, 0, .ro, [0], .any⟩, ⟨"GOOD", 5, 5, .ro, [0], .any⟩, ⟨"SLOT_NEXT", 7, 6, .ro, [0], .any⟩, ⟨"RECOVERY", 8, 8, .ro, [0], .any⟩, ⟨"ABANDON_WHY", 11, 9, .ro, [0], .any⟩, ⟨"LAST_GOOD", 15, 12, .ro, [0], .any⟩, ⟨"FLOORED", 31, 16, .ro, [0], .any⟩]⟩,
  ⟨"CTX_COUNTS", 0x113C, [(0x1000, 4), (0x100, 8)], [⟨"PICTURES", 7, 0, .ro, [0], .any⟩, ⟨"HDR_FAULTS", 15, 8, .ro, [0], .any⟩, ⟨"STALLS", 23, 16, .ro, [0], .any⟩, ⟨"EPOCH", 31, 28, .ro, [0], .any⟩]⟩,
  ⟨"CTX_LAST_BITS", 0x1140, [(0x1000, 4), (0x100, 8)], [⟨"BITS", 31, 0, .ro, [0], .any⟩]⟩,
  ⟨"CTX_CPB_LEVEL", 0x1144, [(0x1000, 4), (0x100, 8)], [⟨"BITS", 31, 0, .ro, [0], .any⟩]⟩]
/-- The registers of a enc page or window. -/
def rows_enc : List RegRow := rows_enc_0 ++ rows_enc_1

def rows_dec_0 : List RegRow := [
  ⟨"ENGINE_STATUS", 0x40, [], [⟨"ACTIVE", 5, 0, .ro, [0], .any⟩, ⟨"QUEUED", 31, 16, .ro, [0], .any⟩]⟩,
  ⟨"EVENT_SRC", 0x44, [], [⟨"CONTEXT", 5, 0, .ro, [0], .any⟩]⟩,
  ⟨"COUNTS", 0x48, [], [⟨"POISON", 7, 0, .ro, [0], .any⟩, ⟨"UNSUPPORTED", 15, 8, .ro, [0], .any⟩, ⟨"NO_BUFFER", 23, 16, .ro, [0], .any⟩, ⟨"REF_MISSING", 31, 24, .ro, [0], .any⟩]⟩,
  ⟨"CTX_CFG", 0x1100, [(0x1000, 4), (0x100, 8)], [⟨"EN", 0, 0, .rw, [0], .any⟩, ⟨"CODEC", 1, 1, .rw, [0], .any⟩, ⟨"PROFILE", 4, 3, .rw, [0], .any⟩, ⟨"SRC", 5, 5, .rw, [1], .any⟩, ⟨"START_ANY", 6, 6, .rw, [0], .any⟩, ⟨"NEED_STAMP", 7, 7, .rw, [0], .any⟩, ⟨"DPB_SLOTS", 20, 16, .rw, [6], .between 2 16⟩, ⟨"OUT_LIST", 29, 24, .rw, [0], .any⟩]⟩,
  ⟨"CTX_MAX_GEOM", 0x1104, [(0x1000, 4), (0x100, 8)], [⟨"WIDTH", 15, 0, .rw, [1920], .any⟩, ⟨"HEIGHT", 31, 16, .rw, [1080], .any⟩]⟩,
  ⟨"CTX_IN_LO", 0x1108, [(0x1000, 4), (0x100, 8)], [⟨"ADDR", 31, 12, .rw, [0], .any⟩]⟩,
  ⟨"CTX_IN_HI", 0x110C, [(0x1000, 4), (0x100, 8)], [⟨"ADDR", 7, 0, .rw, [0], .any⟩]⟩,
  ⟨"CTX_IN_SIZE", 0x1110, [(0x1000, 4), (0x100, 8)], [⟨"KIB", 15, 0, .rw, [1024], .multiple 4 64 65532⟩]⟩,
  ⟨"CTX_IN_WR", 0x1114, [(0x1000, 4), (0x100, 8)], [⟨"OFFSET", 23, 0, .rw, [0], .any⟩]⟩,
  ⟨"CTX_IN_RD", 0x1118, [(0x1000, 4), (0x100, 8)], [⟨"OFFSET", 23, 0, .ro, [0], .any⟩]⟩,
  ⟨"CTX_TIMING", 0x111C, [(0x1000, 4), (0x100, 8)], [⟨"MAX_LAG_MS", 15, 0, .rw, [0], .any⟩, ⟨"PLI_RETRY_MS", 31, 16, .rw, [200], .between 10 65535⟩]⟩,
  ⟨"CTX_STATUS", 0x1120, [(0x1000, 4), (0x100, 8)], [⟨"STATE", 2, 0, .ro, [0], .any⟩, ⟨"PLI_WANTED", 8, 8, .ro, [0], .any⟩, ⟨"CHAIN", 9, 9, .ro, [0], .any⟩, ⟨"DPB_USED", 31, 24, .ro, [0], .any⟩]⟩]
def rows_dec_1 : List RegRow := [
  ⟨"CTX_COUNTS", 0x1124, [(0x1000, 4), (0x100, 8)], [⟨"OUTPUT", 7, 0, .ro, [0], .any⟩, ⟨"CONCEALED", 15, 8, .ro, [0], .any⟩, ⟨"SYNTAX", 23, 16, .ro, [0], .any⟩, ⟨"LATE_DROPS", 31, 24, .ro, [0], .any⟩]⟩,
  ⟨"CTX_CONCEAL_CTUS", 0x1128, [(0x1000, 4), (0x100, 8)], [⟨"COUNT", 19, 0, .ro, [0], .any⟩]⟩,
  ⟨"CTX_LAST_POC", 0x112C, [(0x1000, 4), (0x100, 8)], [⟨"POC", 31, 0, .ro, [0], .any⟩]⟩,
  ⟨"CTX_DPB", 0x1140, [(0x1000, 4), (0x100, 8), (0x4, 16)], [⟨"DESC", 11, 0, .ro, [0], .any⟩, ⟨"CONCEALED", 27, 27, .ro, [0], .any⟩, ⟨"OUT_PENDING", 28, 28, .ro, [0], .any⟩, ⟨"LONG", 29, 29, .ro, [0], .any⟩, ⟨"SHORT", 30, 30, .ro, [0], .any⟩, ⟨"VALID", 31, 31, .ro, [0], .any⟩]⟩]
/-- The registers of a dec page or window. -/
def rows_dec : List RegRow := rows_dec_0 ++ rows_dec_1

def rows_bpool_0 : List RegRow := [
  ⟨"CMD", 0x40, [], [⟨"DESC", 11, 0, .wo, [0], .any⟩, ⟨"LIST", 21, 16, .wo, [0], .any⟩, ⟨"OP", 31, 28, .wo, [0], .between 1 5⟩]⟩,
  ⟨"CMD_RESULT", 0x44, [], [⟨"DESC", 11, 0, .ro, [0], .any⟩, ⟨"CODE", 23, 16, .ro, [0], .any⟩, ⟨"VALID", 31, 31, .ro, [0], .any⟩]⟩,
  ⟨"DESC_ADDR_LO", 0x48, [], [⟨"ADDR", 31, 6, .rw, [0], .any⟩]⟩,
  ⟨"DESC_ADDR_HI", 0x4C, [], [⟨"ADDR", 7, 0, .rw, [0], .any⟩]⟩,
  ⟨"DESC_GEOM", 0x50, [], [⟨"WIDTH", 15, 0, .rw, [0], .between 2 8192⟩, ⟨"HEIGHT", 31, 16, .rw, [0], .between 2 8192⟩]⟩,
  ⟨"DESC_FMT", 0x54, [], [⟨"FORMAT", 3, 0, .rw, [0], .between 0 11⟩, ⟨"PITCH", 21, 8, .rw, [0], .any⟩, ⟨"HOME", 29, 24, .rw, [0], .any⟩]⟩,
  ⟨"DESC_VIS_POS", 0x58, [], [⟨"X", 15, 0, .rw, [0], .any⟩, ⟨"Y", 31, 16, .rw, [0], .any⟩]⟩,
  ⟨"DESC_VIS_SIZE", 0x5C, [], [⟨"W", 15, 0, .rw, [0], .any⟩, ⟨"H", 31, 16, .rw, [0], .any⟩]⟩,
  ⟨"DESC_STATE", 0x60, [], [⟨"STATE", 1, 0, .ro, [0], .any⟩, ⟨"OWNER", 7, 4, .ro, [0], .any⟩, ⟨"CLAIMS", 31, 16, .ro, [0], .any⟩]⟩,
  ⟨"TICKET_BASE_LO", 0x64, [], [⟨"ADDR", 31, 12, .rw, [0], .any⟩]⟩,
  ⟨"TICKET_BASE_HI", 0x68, [], [⟨"ADDR", 7, 0, .rw, [0], .any⟩]⟩,
  ⟨"CQ_BASE_LO", 0x6C, [], [⟨"ADDR", 31, 12, .rw, [0], .any⟩]⟩]
def rows_bpool_1 : List RegRow := [
  ⟨"CQ_BASE_HI", 0x70, [], [⟨"ADDR", 7, 0, .rw, [0], .any⟩]⟩,
  ⟨"CQ_CTRL", 0x74, [], [⟨"SLOTS_LOG2", 7, 0, .rw, [8], .between 4 12⟩, ⟨"WR", 19, 8, .ro, [0], .any⟩, ⟨"RD", 31, 20, .rw, [0], .any⟩]⟩,
  ⟨"EVENT_SRC", 0x78, [], [⟨"DESC", 11, 0, .ro, [0], .any⟩, ⟨"LIST", 21, 16, .ro, [0], .any⟩]⟩,
  ⟨"LIST_CFG", 0x100, [(0x4, 64)], [⟨"DEST", 0, 0, .rw, [0], .any⟩, ⟨"FREE", 31, 16, .ro, [0], .any⟩]⟩]
/-- The registers of a bpool page or window. -/
def rows_bpool : List RegRow := rows_bpool_0 ++ rows_bpool_1

def rows_head_0 : List RegRow := [
  ⟨"BG", 0x40, [], [⟨"RGB", 29, 0, .rws, [0], .any⟩]⟩,
  ⟨"OUT_M", 0x44, [(0x4, 4)], [⟨"LO", 11, 0, .rws, [512, 0, 512, 0, 512], .any⟩, ⟨"HI", 27, 16, .rws, [0], .any⟩]⟩,
  ⟨"OUT_M4", 0x54, [], [⟨"LO", 11, 0, .rws, [512], .any⟩]⟩,
  ⟨"OUT_OFF", 0x58, [(0x4, 3)], [⟨"OFFSET", 13, 0, .rws, [0], .any⟩]⟩,
  ⟨"COMMIT_CFG", 0x64, [], [⟨"DEADLINE", 7, 0, .rw, [0], .any⟩]⟩,
  ⟨"COMMIT_WAIT", 0x68, [], [⟨"NOT_READY", 15, 0, .ro, [0], .any⟩, ⟨"DEFERRALS", 31, 24, .ro, [0], .any⟩]⟩,
  ⟨"FETCH_MARGIN", 0x6C, [], [⟨"NOW_NS", 15, 0, .ro, [65535], .any⟩, ⟨"MIN_NS", 31, 16, .ro, [65535], .any⟩]⟩,
  ⟨"EVENT_SRC", 0x70, [], [⟨"LAYER", 5, 0, .ro, [0], .any⟩]⟩,
  ⟨"COUNTS", 0x74, [], [⟨"EXPIRED", 7, 0, .ro, [0], .any⟩, ⟨"FETCH_POISON", 15, 8, .ro, [0], .any⟩, ⟨"DIRECT_MISS", 23, 16, .ro, [0], .any⟩, ⟨"LATE_COMMITS", 31, 24, .ro, [0], .any⟩]⟩,
  ⟨"H_TIMING", 0x100, [], [⟨"H_ACTIVE", 15, 0, .rws, [3840], .between 64 16383⟩, ⟨"H_TOTAL", 31, 16, .rws, [4400], .between 0 16383⟩]⟩,
  ⟨"H_SYNC", 0x104, [], [⟨"H_FP", 11, 0, .rws, [176], .between 1 4095⟩, ⟨"H_SYNC", 27, 16, .rws, [88], .between 1 4095⟩, ⟨"HS_POL", 31, 31, .rws, [0], .any⟩]⟩,
  ⟨"V_TIMING", 0x108, [], [⟨"V_ACTIVE", 15, 0, .rws, [2160], .between 64 16383⟩, ⟨"V_TOTAL", 31, 16, .rws, [2250], .between 0 16383⟩]⟩]
def rows_head_1 : List RegRow := [
  ⟨"V_SYNC", 0x10C, [], [⟨"V_FP", 11, 0, .rws, [8], .between 1 4095⟩, ⟨"V_SYNC", 27, 16, .rws, [10], .between 1 4095⟩, ⟨"VS_POL", 31, 31, .rws, [0], .any⟩]⟩,
  ⟨"PCLK_HZ", 0x110, [], [⟨"HZ", 31, 0, .rws, [594000000], .any⟩]⟩,
  ⟨"PCLK_FRAC", 0x114, [], [⟨"FRAC", 15, 0, .rws, [0], .any⟩]⟩,
  ⟨"REF_CFG", 0x118, [], [⟨"MODE", 1, 0, .rws, [0], .any⟩, ⟨"DOMAIN", 6, 4, .rws, [4], .between 0 4⟩, ⟨"STREAM", 13, 8, .rws, [0], .between 0 47⟩, ⟨"DIV", 19, 16, .rws, [1], .between 1 8⟩, ⟨"STAMP_DOMAIN", 22, 20, .rws, [4], .between 0 4⟩, ⟨"V_ADJ", 31, 24, .rws, [16], .any⟩]⟩,
  ⟨"REF_PHASE", 0x11C, [], [⟨"NS", 31, 0, .rws, [0], .any⟩]⟩,
  ⟨"REF_PERIOD", 0x120, [], [⟨"NS", 31, 0, .rws, [16666667], .between 1000000 4294967295⟩]⟩,
  ⟨"REF_LOCK", 0x124, [], [⟨"ROW_OFFSET", 15, 0, .rws, [5], .any⟩, ⟨"PULL_PPM", 31, 16, .rws, [500], .between 1 2000⟩]⟩,
  ⟨"LOCK_STATUS", 0x140, [], [⟨"PHASE_ERR_NS", 31, 0, .ro, [0], .any⟩]⟩,
  ⟨"PCLK_NOW", 0x144, [], [⟨"HZ", 31, 0, .ro, [0], .any⟩]⟩,
  ⟨"FS_TIME_SEC", 0x148, [], [⟨"SEC", 31, 0, .ro, [0], .any⟩]⟩,
  ⟨"FS_TIME_NS", 0x14C, [], [⟨"NS", 31, 0, .ro, [0], .any⟩]⟩,
  ⟨"FRAME_COUNT", 0x150, [], [⟨"COUNT", 31, 0, .ro, [0], .any⟩]⟩]
def rows_head_2 : List RegRow := [
  ⟨"UNDERRUN", 0x154, [], [⟨"REF_IGNORED", 7, 0, .ro, [0], .any⟩, ⟨"FRAMES", 15, 8, .ro, [0], .any⟩, ⟨"LINES", 31, 16, .ro, [0], .any⟩]⟩]
/-- The registers of a head page or window. -/
def rows_head : List RegRow := rows_head_0 ++ rows_head_1 ++ rows_head_2

def rows_layer_0 : List RegRow := [
  ⟨"CFG", 0x40, [], [⟨"EN", 0, 0, .rws, [0], .any⟩, ⟨"MODE", 2, 1, .rws, [0], .between 0 2⟩, ⟨"ALPHA_MODE", 5, 4, .rws, [0], .between 0 2⟩, ⟨"COEF_SRC", 6, 6, .rws, [0], .any⟩, ⟨"GLOBAL_ALPHA", 15, 8, .rws, [255], .any⟩, ⟨"FORMAT", 19, 16, .rws, [8], .any⟩, ⟨"SRC", 31, 20, .rws, [0], .any⟩]⟩,
  ⟨"SRC_POS", 0x44, [], [⟨"X", 15, 0, .rws, [0], .any⟩, ⟨"Y", 31, 16, .rws, [0], .any⟩]⟩,
  ⟨"SRC_SIZE", 0x48, [], [⟨"W", 15, 0, .rws, [0], .any⟩, ⟨"H", 31, 16, .rws, [0], .any⟩]⟩,
  ⟨"DST_POS", 0x4C, [], [⟨"X", 15, 0, .rws, [0], .any⟩, ⟨"Y", 31, 16, .rws, [0], .any⟩]⟩,
  ⟨"DST_SIZE", 0x50, [], [⟨"W", 15, 0, .rws, [0], .any⟩, ⟨"H", 31, 16, .rws, [0], .any⟩]⟩,
  ⟨"M", 0x54, [(0x4, 4)], [⟨"LO", 11, 0, .rws, [512, 0, 512, 0, 512], .any⟩, ⟨"HI", 27, 16, .rws, [0], .any⟩]⟩,
  ⟨"M4", 0x64, [], [⟨"LO", 11, 0, .rws, [512], .any⟩]⟩,
  ⟨"OFF", 0x68, [(0x4, 3)], [⟨"OFFSET", 13, 0, .rws, [0], .any⟩]⟩,
  ⟨"FILL", 0x74, [], [⟨"RGB", 29, 0, .rws, [0], .any⟩]⟩,
  ⟨"COEF_LO", 0x78, [], [⟨"ADDR", 31, 6, .rws, [0], .any⟩]⟩,
  ⟨"COEF_HI", 0x7C, [], [⟨"ADDR", 7, 0, .rws, [0], .any⟩]⟩,
  ⟨"FRAY_CFG", 0x80, [], [⟨"PIN_EN", 1, 1, .rws, [0], .any⟩, ⟨"AGE_BASE", 2, 2, .rws, [0], .any⟩, ⟨"POLICY", 5, 4, .rws, [0], .between 0 2⟩, ⟨"MAX_AGE_MS", 31, 16, .rws, [0], .any⟩]⟩]
def rows_layer_1 : List RegRow := [
  ⟨"FRAY_COLOUR", 0x84, [], [⟨"RGB", 29, 0, .rws, [1072693248], .any⟩]⟩,
  ⟨"FRAY_AGE", 0x88, [], [⟨"US", 31, 0, .ro, [0], .any⟩]⟩,
  ⟨"FRAY_COUNTS", 0x8C, [], [⟨"REPEATED", 7, 0, .ro, [0], .any⟩, ⟨"HELD", 15, 8, .ro, [0], .any⟩, ⟨"UNVERIFIED", 23, 16, .ro, [0], .any⟩, ⟨"STALE_ENTRIES", 31, 24, .ro, [0], .any⟩]⟩,
  ⟨"FRAY_STATUS", 0x90, [], [⟨"STALE", 0, 0, .ro, [0], .any⟩, ⟨"BADGE", 1, 1, .ro, [0], .any⟩, ⟨"HOLDING", 2, 2, .ro, [0], .any⟩]⟩,
  ⟨"STATUS", 0xA0, [], [⟨"VSCALE", 1, 0, .ro, [0], .any⟩, ⟨"OCCLUDED", 2, 2, .ro, [0], .any⟩, ⟨"CUR_DESC", 31, 20, .ro, [0], .any⟩]⟩,
  ⟨"CUR_FRAME_NO", 0xA4, [], [⟨"FRAME_NO", 31, 0, .ro, [0], .any⟩]⟩,
  ⟨"COUNTS", 0xA8, [], [⟨"POISON", 7, 0, .ro, [0], .any⟩, ⟨"DIRECT_MISS", 15, 8, .ro, [0], .any⟩, ⟨"FEED_MISMATCH", 23, 16, .ro, [0], .any⟩, ⟨"FEED_SKIPPED", 31, 24, .ro, [0], .any⟩]⟩]
/-- The registers of a layer page or window. -/
def rows_layer : List RegRow := rows_layer_0 ++ rows_layer_1

def rows_dpo_0 : List RegRow := [
  ⟨"CFG", 0x40, [], [⟨"HEAD", 1, 0, .rw, [0], .any⟩, ⟨"MAX_LANES", 5, 4, .rw, [2], .between 0 2⟩, ⟨"MAX_RATE", 11, 8, .rw, [6], .between 0 10⟩, ⟨"BPC", 13, 12, .rw, [2], .any⟩, ⟨"COLORIMETRY", 17, 16, .rw, [0], .any⟩, ⟨"CTA_RANGE", 18, 18, .rw, [0], .any⟩, ⟨"EDP", 19, 19, .rw, [0], .any⟩, ⟨"SSC", 20, 20, .rw, [1], .any⟩, ⟨"SDP_EN", 21, 21, .rw, [0], .any⟩]⟩,
  ⟨"TRAIN", 0x44, [], [⟨"RETRY_MS", 15, 0, .rw, [1000], .between 10 65535⟩]⟩,
  ⟨"LINK_STATUS", 0x48, [], [⟨"LANES", 6, 4, .ro, [0], .any⟩, ⟨"RATE", 11, 8, .ro, [0], .any⟩, ⟨"HPD", 16, 16, .ro, [0], .any⟩, ⟨"SINK_LANES", 26, 24, .ro, [0], .any⟩, ⟨"SINK_RATE", 31, 28, .ro, [0], .any⟩]⟩,
  ⟨"AUX_CMD", 0x4C, [], [⟨"ADDR", 19, 0, .wo, [0], .any⟩, ⟨"LEN", 27, 24, .wo, [0], .any⟩, ⟨"OP", 30, 28, .wo, [0], .between 0 4⟩, ⟨"START", 31, 31, .wo, [0], .any⟩]⟩,
  ⟨"AUX_STATUS", 0x50, [], [⟨"BYTES", 4, 0, .ro, [0], .any⟩, ⟨"RESULT", 10, 8, .ro, [0], .any⟩, ⟨"BUSY", 31, 31, .ro, [0], .any⟩]⟩,
  ⟨"AUX_DATA", 0x54, [(0x4, 4)], [⟨"DATA", 31, 0, .rw, [0], .any⟩]⟩,
  ⟨"COUNTS", 0x64, [], [⟨"HPD_IRQ", 7, 0, .ro, [0], .any⟩, ⟨"LINK_LOSS", 15, 8, .ro, [0], .any⟩, ⟨"FALLBACK", 23, 16, .ro, [0], .any⟩, ⟨"TRAIN_FAIL", 31, 24, .ro, [0], .any⟩]⟩,
  ⟨"SDP_HDR", 0x68, [], [⟨"HB", 31, 0, .rw, [0], .any⟩]⟩,
  ⟨"SDP_DATA", 0x6C, [(0x4, 8)], [⟨"DB", 31, 0, .rw, [0], .any⟩]⟩]
/-- The registers of a dpo page or window. -/
def rows_dpo : List RegRow := rows_dpo_0

def rows_chk_0 : List RegRow := [
  ⟨"STATUS", 0x40, [], [⟨"ENABLED", 7, 0, .ro, [0], .any⟩]⟩,
  ⟨"EVENT_SRC", 0x44, [], [⟨"INDEX", 6, 0, .ro, [0], .any⟩]⟩,
  ⟨"FRAY_STALE_LO", 0x48, [], [⟨"STALE", 31, 0, .ro, [0], .any⟩]⟩,
  ⟨"FRAY_STALE_HI", 0x4C, [], [⟨"STALE", 31, 0, .ro, [0], .any⟩]⟩,
  ⟨"SDP_TYPE", 0x50, [], [⟨"HB1", 7, 0, .rw, [126], .any⟩]⟩,
  ⟨"CHKU_CFG", 0x1040, [(0x10, 128)], [⟨"TARGET", 6, 0, .rw, [0], .any⟩, ⟨"STAMP_LAYER", 19, 16, .rw, [0], .any⟩, ⟨"POLY", 25, 24, .rw, [0], .any⟩, ⟨"USE", 29, 28, .rw, [0], .between 0 2⟩, ⟨"EN", 31, 31, .rw, [0], .any⟩]⟩,
  ⟨"CHKU_ALIVE", 0x1044, [(0x10, 128)], [⟨"ALIVE", 15, 0, .ro, [0], .any⟩]⟩,
  ⟨"CHKU_COUNTS", 0x1048, [(0x10, 128)], [⟨"DONE", 15, 0, .ro, [0], .any⟩, ⟨"FAIL", 31, 16, .ro, [0], .any⟩]⟩,
  ⟨"CHKU_LAST", 0x104C, [(0x10, 128)], [⟨"CRC", 31, 0, .ro, [0], .any⟩]⟩]
/-- The registers of a chk page or window. -/
def rows_chk : List RegRow := rows_chk_0

def rows_net_0 : List RegRow := [
  ⟨"CFG", 0x40, [], [⟨"SPEED", 0, 0, .rw, [0], .any⟩, ⟨"FEC", 1, 1, .rw, [1], .any⟩, ⟨"MTU", 31, 16, .rw, [1500], .between 576 9216⟩]⟩,
  ⟨"MAC_LO", 0x44, [], [⟨"ADDR", 31, 0, .rw, [0], .any⟩]⟩,
  ⟨"MAC_HI", 0x48, [], [⟨"ADDR", 15, 0, .rw, [0], .any⟩]⟩,
  ⟨"IPV4", 0x4C, [], [⟨"ADDR", 31, 0, .rw, [0], .any⟩]⟩,
  ⟨"IPV6", 0x50, [(0x4, 4)], [⟨"ADDR", 31, 0, .rw, [0], .any⟩]⟩,
  ⟨"STATUS", 0x60, [], [⟨"LINK", 0, 0, .ro, [0], .any⟩, ⟨"FEC_LOCK", 1, 1, .ro, [0], .any⟩, ⟨"LINK_DOWNS", 15, 8, .ro, [0], .any⟩]⟩,
  ⟨"COUNTS", 0x64, [], [⟨"TX_DROP_LINK", 15, 0, .ro, [0], .any⟩, ⟨"RX_BAD", 31, 16, .ro, [0], .any⟩]⟩]
/-- The registers of a net page or window. -/
def rows_net : List RegRow := rows_net_0

def rows_pkt_0 : List RegRow := [
  ⟨"BUF_STATUS", 0x40, [], [⟨"ONCHIP_KIB", 13, 0, .ro, [0], .any⟩, ⟨"SPILL_MIB", 31, 16, .ro, [0], .any⟩]⟩,
  ⟨"SPILL_BASE_LO", 0x44, [], [⟨"ADDR", 31, 12, .rw, [0], .any⟩]⟩,
  ⟨"SPILL_BASE_HI", 0x48, [], [⟨"ADDR", 7, 0, .rw, [0], .any⟩]⟩,
  ⟨"SPILL_SIZE", 0x4C, [], [⟨"MIB", 15, 0, .rw, [0], .any⟩, ⟨"MARK", 31, 24, .rw, [75], .between 50 100⟩]⟩,
  ⟨"CLASS_CFG", 0x50, [(0x4, 8)], [⟨"DROP_MODE", 0, 0, .rw, [0], .any⟩, ⟨"WEIGHT", 15, 8, .rw, [16], .between 1 255⟩]⟩,
  ⟨"RTCP_CFG", 0x70, [], [⟨"SR_MS", 15, 0, .rw, [1000], .any⟩]⟩,
  ⟨"CMD_CFG", 0x74, [], [⟨"PORTS", 3, 0, .rw, [0], .any⟩, ⟨"MAX_PER_MS", 15, 8, .rw, [16], .between 1 255⟩, ⟨"UDP_PORT", 31, 16, .rw, [50370], .any⟩]⟩,
  ⟨"CMD_PREFIX", 0x78, [], [⟨"ADDR", 31, 0, .rw, [0], .any⟩]⟩,
  ⟨"CMD_PREFIX_LEN", 0x7C, [], [⟨"LEN", 5, 0, .rw, [32], .between 0 32⟩]⟩,
  ⟨"EXC_RX_LO", 0x80, [], [⟨"ADDR", 31, 12, .rw, [0], .any⟩]⟩,
  ⟨"EXC_RX_HI", 0x84, [], [⟨"ADDR", 7, 0, .rw, [0], .any⟩]⟩,
  ⟨"EXC_TX_LO", 0x88, [], [⟨"ADDR", 31, 12, .rw, [0], .any⟩]⟩]
def rows_pkt_1 : List RegRow := [
  ⟨"EXC_TX_HI", 0x8C, [], [⟨"ADDR", 7, 0, .rw, [0], .any⟩]⟩,
  ⟨"EXC_SLOTS", 0x90, [], [⟨"RX", 11, 0, .rw, [64], .between 2 4095⟩, ⟨"TX", 27, 16, .rw, [64], .between 2 4095⟩]⟩,
  ⟨"EXC_RX_IDX", 0x94, [], [⟨"RD", 11, 0, .rw, [0], .any⟩, ⟨"WR", 27, 16, .ro, [0], .any⟩]⟩,
  ⟨"EXC_TX_IDX", 0x98, [], [⟨"WR", 11, 0, .rw, [0], .any⟩, ⟨"RD", 27, 16, .ro, [0], .any⟩]⟩,
  ⟨"COUNTS", 0x9C, [], [⟨"BUF_FULL", 7, 0, .ro, [0], .any⟩, ⟨"EXC_LOST", 15, 8, .ro, [0], .any⟩, ⟨"CMD_LIMITED", 23, 16, .ro, [0], .any⟩, ⟨"CMD_BAD", 31, 24, .ro, [0], .any⟩]⟩,
  ⟨"EVENT_SRC", 0xA0, [], [⟨"FLOW", 6, 0, .ro, [0], .any⟩, ⟨"SESSION", 27, 16, .ro, [0], .any⟩]⟩,
  ⟨"F_CFG", 0x1040, [(0x1000, 4), (0x40, 32)], [⟨"TARGET", 6, 0, .rw, [0], .any⟩, ⟨"DOMAIN", 10, 8, .rw, [4], .between 0 4⟩, ⟨"PORT", 25, 24, .rw, [0], .any⟩, ⟨"TARGET_TYPE", 27, 26, .rw, [0], .between 0 2⟩, ⟨"IPV6", 28, 28, .rw, [0], .any⟩, ⟨"SRC_EN", 29, 29, .rw, [0], .any⟩, ⟨"SSRC_EN", 30, 30, .rw, [0], .any⟩, ⟨"EN", 31, 31, .rw, [0], .any⟩]⟩,
  ⟨"F_UDP", 0x1044, [(0x1000, 4), (0x40, 32)], [⟨"DST_PORT", 15, 0, .rw, [5004], .any⟩]⟩,
  ⟨"F_GROUP", 0x1048, [(0x1000, 4), (0x40, 32)], [⟨"VALUE", 31, 0, .rw, [0], .any⟩]⟩,
  ⟨"F_SRC", 0x104C, [(0x1000, 4), (0x40, 32)], [⟨"VALUE", 31, 0, .rw, [0], .any⟩]⟩,
  ⟨"F_SSRC", 0x1050, [(0x1000, 4), (0x40, 32)], [⟨"VALUE", 31, 0, .rw, [0], .any⟩]⟩,
  ⟨"F_JB_LO", 0x1054, [(0x1000, 4), (0x40, 32)], [⟨"ADDR", 31, 12, .rw, [0], .any⟩]⟩]
def rows_pkt_2 : List RegRow := [
  ⟨"F_JB_HI", 0x1058, [(0x1000, 4), (0x40, 32)], [⟨"ADDR", 7, 0, .rw, [0], .any⟩]⟩,
  ⟨"F_JB_CFG", 0x105C, [(0x1000, 4), (0x40, 32)], [⟨"SIZE_KIB", 15, 0, .rw, [1024], .between 64 65535⟩, ⟨"DELAY_US", 31, 16, .rw, [2000], .any⟩]⟩,
  ⟨"F_STATUS", 0x1060, [(0x1000, 4), (0x40, 32)], [⟨"QUEUED", 15, 0, .ro, [0], .any⟩, ⟨"NEXT_SEQ", 31, 16, .ro, [0], .any⟩]⟩,
  ⟨"F_COUNTS", 0x1064, [(0x1000, 4), (0x40, 32)], [⟨"RESYNC", 7, 0, .ro, [0], .any⟩, ⟨"OVERFLOW", 15, 8, .ro, [0], .any⟩, ⟨"LATE_DUP", 23, 16, .ro, [0], .any⟩, ⟨"LOST", 31, 24, .ro, [0], .any⟩]⟩]
/-- The registers of a pkt page or window. -/
def rows_pkt : List RegRow := rows_pkt_0 ++ rows_pkt_1 ++ rows_pkt_2

def rows_time_0 : List RegRow := [
  ⟨"CFG", 0x40, [], [⟨"ROLE", 2, 2, .rw, [0], .any⟩, ⟨"DELAY_MECH", 3, 3, .rw, [0], .any⟩, ⟨"TRANSPORT", 5, 4, .rw, [1], .between 0 2⟩, ⟨"PORT", 7, 6, .rw, [0], .any⟩, ⟨"PTP_DOMAIN", 15, 8, .rw, [0], .any⟩, ⟨"LOG_INTERVAL", 23, 20, .rw, [13], .signed 4 (-7) (4)⟩, ⟨"XC_EN", 27, 27, .rw, [0], .any⟩, ⟨"XCHECK", 30, 28, .rw, [0], .between 0 3⟩]⟩,
  ⟨"PATH_CFG", 0x44, [], [⟨"PATH_THR_NS", 15, 0, .rw, [200], .between 1 65535⟩, ⟨"HOLD_S", 23, 16, .rw, [8], .between 1 255⟩, ⟨"LOSS_INTERVALS", 31, 24, .rw, [3], .between 1 255⟩]⟩,
  ⟨"RATE_LO", 0x48, [], [⟨"RATE", 31, 0, .rws, [0], .any⟩]⟩,
  ⟨"RATE_HI", 0x4C, [], [⟨"RATE", 7, 0, .rws, [0], .any⟩]⟩,
  ⟨"SLEW", 0x50, [], [⟨"NS", 31, 0, .rws, [0], .any⟩]⟩,
  ⟨"SLEW_RATE", 0x54, [], [⟨"NS_PER_S", 13, 0, .rws, [10000], .between 1 10000⟩]⟩,
  ⟨"STEP_SEC_LO", 0x58, [], [⟨"SEC", 31, 0, .rw, [0], .any⟩]⟩,
  ⟨"STEP_SEC_HI", 0x5C, [], [⟨"SEC", 15, 0, .rw, [0], .any⟩]⟩,
  ⟨"STEP_NS", 0x60, [], [⟨"NS", 31, 0, .rw, [0], .signed 32 (-999999999) (999999999)⟩]⟩,
  ⟨"CMD", 0x64, [], [⟨"STEP", 0, 0, .wo, [0], .any⟩, ⟨"ACCEPT", 1, 1, .wo, [0], .any⟩, ⟨"SNAP", 2, 2, .wo, [0], .any⟩]⟩,
  ⟨"SNAP_SEC_LO", 0x68, [], [⟨"VALUE", 31, 0, .ro, [0], .any⟩]⟩,
  ⟨"SNAP_SEC_HI", 0x6C, [], [⟨"VALUE", 15, 0, .ro, [0], .any⟩]⟩]
def rows_time_1 : List RegRow := [
  ⟨"SNAP_NS", 0x70, [], [⟨"VALUE", 31, 0, .ro, [0], .any⟩]⟩,
  ⟨"SNAP_FRAC", 0x74, [], [⟨"VALUE", 15, 0, .ro, [0], .any⟩]⟩,
  ⟨"STATUS", 0x78, [], [⟨"ASYM", 0, 0, .ro, [0], .any⟩, ⟨"SLEWING", 1, 1, .ro, [0], .any⟩, ⟨"STEPPED", 2, 2, .ro, [0], .any⟩, ⟨"HOLD_LEFT_S", 31, 24, .ro, [0], .any⟩]⟩,
  ⟨"SLEW_LEFT", 0x7C, [], [⟨"NS", 31, 0, .ro, [0], .any⟩]⟩,
  ⟨"MEAS_MPD", 0x80, [], [⟨"NS", 31, 0, .ro, [0], .any⟩]⟩,
  ⟨"MEAS_OFFSET", 0x84, [], [⟨"NS", 31, 0, .ro, [0], .any⟩]⟩,
  ⟨"XCHECK_DIFF", 0x88, [], [⟨"NS", 31, 0, .ro, [0], .any⟩]⟩,
  ⟨"PPS_IN_SEC", 0x8C, [], [⟨"VALUE", 31, 0, .ro, [0], .any⟩]⟩,
  ⟨"PPS_IN_NS", 0x90, [], [⟨"VALUE", 31, 0, .ro, [0], .any⟩]⟩,
  ⟨"RING_LO", 0x94, [], [⟨"ADDR", 31, 12, .rw, [0], .any⟩]⟩,
  ⟨"RING_HI", 0x98, [], [⟨"ADDR", 7, 0, .rw, [0], .any⟩]⟩,
  ⟨"RING_SLOTS", 0x9C, [], [⟨"RX", 11, 0, .rw, [64], .between 2 4095⟩, ⟨"TX", 27, 16, .rw, [64], .between 2 4095⟩]⟩]
def rows_time_2 : List RegRow := [
  ⟨"RX_IDX", 0xA0, [], [⟨"RD", 11, 0, .rw, [0], .any⟩, ⟨"WR", 27, 16, .ro, [0], .any⟩]⟩,
  ⟨"TX_IDX", 0xA4, [], [⟨"WR", 11, 0, .rw, [0], .any⟩, ⟨"RD", 27, 16, .ro, [0], .any⟩]⟩,
  ⟨"COUNTS", 0xA8, [], [⟨"LOSS_HOLDOVERS", 7, 0, .ro, [0], .any⟩, ⟨"PATH_HOLDS", 15, 8, .ro, [0], .any⟩, ⟨"TX_BAD", 23, 16, .ro, [0], .any⟩, ⟨"RX_LOST", 31, 24, .ro, [0], .any⟩]⟩]
/-- The registers of a time page or window. -/
def rows_time : List RegRow := rows_time_0 ++ rows_time_1 ++ rows_time_2

def rows_timel_0 : List RegRow := [
  ⟨"CMD", 0x64, [], [⟨"STEP", 0, 0, .wo, [0], .any⟩, ⟨"ACCEPT", 1, 1, .wo, [0], .any⟩, ⟨"SNAP", 2, 2, .wo, [0], .any⟩]⟩,
  ⟨"SNAP_SEC_LO", 0x68, [], [⟨"VALUE", 31, 0, .ro, [0], .any⟩]⟩,
  ⟨"SNAP_SEC_HI", 0x6C, [], [⟨"VALUE", 15, 0, .ro, [0], .any⟩]⟩,
  ⟨"SNAP_NS", 0x70, [], [⟨"VALUE", 31, 0, .ro, [0], .any⟩]⟩,
  ⟨"SNAP_FRAC", 0x74, [], [⟨"VALUE", 15, 0, .ro, [0], .any⟩]⟩,
  ⟨"PPS_IN_SEC", 0x8C, [], [⟨"VALUE", 31, 0, .ro, [0], .any⟩]⟩,
  ⟨"PPS_IN_NS", 0x90, [], [⟨"VALUE", 31, 0, .ro, [0], .any⟩]⟩,
  ⟨"IO_CFG", 0xB0, [], [⟨"PPS_DOMAIN", 2, 0, .rw, [4], .between 0 4⟩, ⟨"PPS_EN", 7, 7, .rw, [0], .any⟩, ⟨"CLK_EN", 8, 8, .rw, [0], .any⟩, ⟨"CLK_DOMAIN", 14, 12, .rw, [4], .between 0 4⟩, ⟨"PPS_WIDTH_MS", 31, 24, .rw, [100], .between 1 255⟩]⟩,
  ⟨"UNMATCHED", 0xB4, [], [⟨"COUNT", 15, 0, .ro, [0], .any⟩]⟩]
/-- The registers of a timel page or window. -/
def rows_timel : List RegRow := rows_timel_0

def rows_aud_0 : List RegRow := [
  ⟨"CFG", 0x40, [], [⟨"FORMAT", 2, 1, .rw, [0], .between 0 2⟩, ⟨"SAMPLE_BITS", 4, 3, .rw, [1], .between 0 2⟩, ⟨"SLOT_BITS", 5, 5, .rw, [1], .any⟩, ⟨"SLOTS", 9, 6, .rw, [1], .between 1 15⟩, ⟨"MCLK_SRC", 11, 10, .rw, [0], .any⟩]⟩,
  ⟨"RATE", 0x44, [], [⟨"DIR", 0, 0, .rw, [0], .any⟩, ⟨"MASTER", 1, 1, .rw, [0], .any⟩, ⟨"RATE_HZ", 19, 2, .rw, [48000], .between 8000 192000⟩]⟩,
  ⟨"TIMING", 0x48, [], [⟨"SILENT_FRAMES", 15, 0, .rw, [64], .any⟩, ⟨"HOLD_MS", 23, 16, .rw, [4], .any⟩, ⟨"DOMAIN", 26, 24, .rw, [4], .between 0 4⟩]⟩,
  ⟨"BLOCK", 0x4C, [], [⟨"FRAMES", 9, 0, .rw, [48], .between 1 1023⟩, ⟨"SLOTS", 27, 16, .rw, [16], .between 2 4095⟩]⟩,
  ⟨"RING_LO", 0x50, [], [⟨"ADDR", 31, 12, .rw, [0], .any⟩]⟩,
  ⟨"RING_HI", 0x54, [], [⟨"ADDR", 7, 0, .rw, [0], .any⟩]⟩,
  ⟨"RING_IDX", 0x58, [], [⟨"SW_IDX", 11, 0, .rw, [0], .any⟩, ⟨"DEV_IDX", 27, 16, .ro, [0], .any⟩]⟩,
  ⟨"OUT_SRC", 0x5C, [], [⟨"SRC", 0, 0, .rw, [0], .any⟩, ⟨"PLAYOUT_FRAMES", 31, 16, .rw, [96], .any⟩]⟩,
  ⟨"RTP_OFFSET", 0x60, [], [⟨"VALUE", 31, 0, .rw, [0], .any⟩]⟩,
  ⟨"CTRL", 0x64, [], [⟨"ARM", 0, 0, .wo, [0], .any⟩, ⟨"STOP", 1, 1, .wo, [0], .any⟩]⟩,
  ⟨"POS", 0x68, [], [⟨"POS", 31, 0, .ro, [0], .any⟩]⟩,
  ⟨"RATE_MEAS", 0x6C, [], [⟨"RATE", 31, 0, .ro, [0], .any⟩]⟩]
def rows_aud_1 : List RegRow := [
  ⟨"START_SEC", 0x70, [], [⟨"VALUE", 31, 0, .ro, [0], .any⟩]⟩,
  ⟨"START_NS", 0x74, [], [⟨"VALUE", 31, 0, .ro, [0], .any⟩]⟩,
  ⟨"STATUS", 0x78, [], [⟨"CLOCK_LOST", 0, 0, .ro, [0], .any⟩, ⟨"HOLDING", 1, 1, .ro, [0], .any⟩]⟩,
  ⟨"COUNTS", 0x7C, [], [⟨"CLOCK_LOST", 7, 0, .ro, [0], .any⟩, ⟨"LATE", 15, 8, .ro, [0], .any⟩, ⟨"OVERRUN", 23, 16, .ro, [0], .any⟩, ⟨"UNDERRUN", 31, 24, .ro, [0], .any⟩]⟩]
/-- The registers of a aud page or window. -/
def rows_aud : List RegRow := rows_aud_0 ++ rows_aud_1

def rows_amclk_0 : List RegRow := [
  ⟨"MCLK_CFG", 0x40, [(0x8, 4)], [⟨"EN", 0, 0, .rw, [0], .any⟩, ⟨"DOMAIN", 3, 1, .rw, [4], .between 0 4⟩]⟩,
  ⟨"MCLK_HZ", 0x44, [(0x8, 4)], [⟨"HZ", 31, 0, .rw, [12288000], .between 1000000 50000000⟩]⟩,
  ⟨"START_SEC_LO", 0x80, [], [⟨"VALUE", 31, 0, .rw, [0], .any⟩]⟩,
  ⟨"START_SEC_HI", 0x84, [], [⟨"VALUE", 15, 0, .rw, [0], .any⟩]⟩,
  ⟨"START_NS", 0x88, [], [⟨"VALUE", 31, 0, .rw, [0], .any⟩]⟩,
  ⟨"START_CTRL", 0x8C, [], [⟨"GO", 0, 0, .w1s, [0], .any⟩, ⟨"DOMAIN", 3, 1, .rw, [4], .between 0 4⟩, ⟨"PENDING", 4, 4, .ro, [0], .any⟩, ⟨"MASK", 31, 16, .rw, [0], .any⟩]⟩]
/-- The registers of a amclk page or window. -/
def rows_amclk : List RegRow := rows_amclk_0

def rows_ddrc_0 : List RegRow := [
  ⟨"POP", 0x40, [], [⟨"RANKS_0", 1, 0, .rw, [0], .between 0 2⟩, ⟨"WIDTH_0", 2, 2, .rw, [0], .any⟩, ⟨"DENSITY_0", 3, 3, .rw, [0], .any⟩, ⟨"RANKS_1", 9, 8, .rw, [0], .between 0 2⟩, ⟨"WIDTH_1", 10, 10, .rw, [0], .any⟩, ⟨"DENSITY_1", 11, 11, .rw, [0], .any⟩]⟩,
  ⟨"SUB_STATUS", 0x44, [], [⟨"STATE_0", 2, 0, .ro, [0], .any⟩, ⟨"HOT_0", 3, 3, .ro, [0], .any⟩, ⟨"STATE_1", 10, 8, .ro, [0], .any⟩, ⟨"HOT_1", 11, 11, .ro, [0], .any⟩, ⟨"FSP", 17, 16, .ro, [0], .any⟩]⟩,
  ⟨"TRACK", 0x48, [], [⟨"TRACK_MS", 15, 0, .rw, [16], .between 1 1000⟩, ⟨"LIMIT_PCT", 23, 16, .rw, [10], .between 1 50⟩]⟩,
  ⟨"ECC_COUNTS", 0x4C, [], [⟨"CE", 15, 0, .ro, [0], .any⟩, ⟨"UE", 23, 16, .ro, [0], .any⟩, ⟨"AE", 31, 24, .ro, [0], .any⟩]⟩,
  ⟨"MARK", 0x50, [], [⟨"DEVICE_0", 2, 0, .ro, [0], .any⟩, ⟨"MARKED_0", 3, 3, .ro, [0], .any⟩, ⟨"DEVICE_1", 6, 4, .ro, [0], .any⟩, ⟨"MARKED_1", 7, 7, .ro, [0], .any⟩, ⟨"DEVICE_2", 10, 8, .ro, [0], .any⟩, ⟨"MARKED_2", 11, 11, .ro, [0], .any⟩, ⟨"DEVICE_3", 14, 12, .ro, [0], .any⟩, ⟨"MARKED_3", 15, 15, .ro, [0], .any⟩, ⟨"DEVICE_4", 18, 16, .ro, [0], .any⟩, ⟨"MARKED_4", 19, 19, .ro, [0], .any⟩, ⟨"DEVICE_5", 22, 20, .ro, [0], .any⟩, ⟨"MARKED_5", 23, 23, .ro, [0], .any⟩, ⟨"DEVICE_6", 26, 24, .ro, [0], .any⟩, ⟨"MARKED_6", 27, 27, .ro, [0], .any⟩, ⟨"DEVICE_7", 30, 28, .ro, [0], .any⟩, ⟨"MARKED_7", 31, 31, .ro, [0], .any⟩]⟩,
  ⟨"POISON_READS", 0x54, [], [⟨"COUNT", 31, 0, .ro, [0], .any⟩]⟩,
  ⟨"TS_CORE", 0x1040, [(0x1000, 3)], [⟨"CL", 7, 0, .rws, [58, 46, 26], .any⟩, ⟨"RCD", 15, 8, .rws, [58, 46, 26], .any⟩, ⟨"RP", 23, 16, .rws, [58, 46, 26], .any⟩, ⟨"CWL", 31, 24, .rws, [56, 44, 24], .any⟩]⟩,
  ⟨"TS_REFRESH", 0x1044, [(0x1000, 3)], [⟨"REFI_NS", 15, 0, .rws, [3900], .between 1950 3900⟩, ⟨"RFCSB_NS", 31, 16, .rws, [190], .any⟩]⟩]
/-- The registers of a ddrc page or window. -/
def rows_ddrc : List RegRow := rows_ddrc_0

def rows_memx_0 : List RegRow := [
  ⟨"MAP", 0x40, [], [⟨"MASK", 7, 0, .rw, [0], .any⟩, ⟨"LOG2_N", 9, 8, .ro, [0], .any⟩]⟩,
  ⟨"RANK_ROLE", 0x44, [], [⟨"ROLE_0", 1, 0, .rw, [0], .any⟩, ⟨"ROLE_1", 3, 2, .rw, [0], .any⟩, ⟨"ROLE_2", 5, 4, .rw, [0], .any⟩, ⟨"ROLE_3", 7, 6, .rw, [0], .any⟩, ⟨"ROLE_4", 9, 8, .rw, [0], .any⟩, ⟨"ROLE_5", 11, 10, .rw, [0], .any⟩, ⟨"ROLE_6", 13, 12, .rw, [0], .any⟩, ⟨"ROLE_7", 15, 14, .rw, [0], .any⟩, ⟨"ROLE_8", 17, 16, .rw, [0], .any⟩, ⟨"ROLE_9", 19, 18, .rw, [0], .any⟩, ⟨"ROLE_10", 21, 20, .rw, [0], .any⟩, ⟨"ROLE_11", 23, 22, .rw, [0], .any⟩, ⟨"ROLE_12", 25, 24, .rw, [0], .any⟩, ⟨"ROLE_13", 27, 26, .rw, [0], .any⟩, ⟨"ROLE_14", 29, 28, .rw, [0], .any⟩, ⟨"ROLE_15", 31, 30, .rw, [0], .any⟩]⟩,
  ⟨"FREQ_CTRL", 0x48, [], [⟨"TIMEOUT_MS", 15, 0, .rw, [50], .between 1 65535⟩, ⟨"GUARD_US", 23, 16, .rw, [2], .between 0 50⟩, ⟨"TARGET", 25, 24, .rw, [0], .between 0 2⟩, ⟨"GO", 31, 31, .w1s, [0], .any⟩]⟩,
  ⟨"FREQ_STATUS", 0x4C, [], [⟨"CURRENT", 1, 0, .ro, [0], .any⟩, ⟨"BUSY", 4, 4, .ro, [0], .any⟩, ⟨"RESULT", 7, 5, .ro, [0], .any⟩, ⟨"ABORTS", 31, 16, .ro, [0], .any⟩]⟩,
  ⟨"SCHED", 0x50, [], [⟨"AGE_CAP_NS", 15, 0, .rw, [2000], .between 200 20000⟩, ⟨"STARVE_US", 31, 16, .rw, [20], .between 5 1000⟩]⟩,
  ⟨"SCRUB", 0x54, [], [⟨"HOURS", 7, 0, .rw, [24], .between 1 255⟩, ⟨"CE_LIMIT", 15, 8, .rw, [64], .between 1 255⟩, ⟨"EN", 16, 16, .rw, [1], .any⟩]⟩,
  ⟨"RELINE_CTRL", 0x58, [], [⟨"RATE", 2, 0, .rw, [4], .between 1 4⟩, ⟨"AUTO", 4, 4, .rw, [1], .any⟩, ⟨"SRC", 11, 8, .rw, [0], .any⟩, ⟨"GO", 31, 31, .w1s, [0], .any⟩]⟩,
  ⟨"RELINE_STATUS", 0x5C, [], [⟨"WATERMARK", 14, 0, .ro, [0], .any⟩, ⟨"SRC", 25, 22, .ro, [0], .any⟩, ⟨"DST", 29, 26, .ro, [0], .any⟩, ⟨"STATE", 31, 30, .ro, [0], .any⟩]⟩,
  ⟨"ERR_ADDR_LO", 0x60, [], [⟨"ADDR", 31, 0, .ro, [0], .any⟩]⟩,
  ⟨"ERR_ADDR_HI", 0x64, [], [⟨"ADDR", 31, 0, .ro, [0], .any⟩]⟩,
  ⟨"ERR_INFO", 0x68, [], [⟨"ORIGIN", 3, 0, .ro, [0], .any⟩, ⟨"RANK", 7, 4, .ro, [0], .any⟩, ⟨"CLASS", 11, 8, .ro, [0], .any⟩]⟩,
  ⟨"COUNTS", 0x6C, [], [⟨"LINES_POISONED", 23, 0, .ro, [0], .any⟩, ⟨"RELINES", 31, 24, .ro, [0], .any⟩]⟩]
/-- The registers of a memx page or window. -/
def rows_memx : List RegRow := rows_memx_0

def rows_session_0 : List RegRow := [
  ⟨"S_CFG", 0x40, [], [⟨"EN", 0, 0, .rw, [0], .any⟩, ⟨"IPV6", 1, 1, .rw, [0], .any⟩, ⟨"VLAN", 2, 2, .rw, [0], .any⟩, ⟨"WAIT_KEY", 3, 3, .rw, [1], .any⟩, ⟨"STAMP", 4, 4, .rw, [0], .any⟩, ⟨"CLASS", 7, 5, .rw, [0], .any⟩, ⟨"PORT", 9, 8, .rw, [0], .any⟩, ⟨"SRC_TYPE", 11, 10, .rw, [0], .between 0 2⟩, ⟨"SRC", 18, 12, .rw, [0], .any⟩]⟩,
  ⟨"S_DST_MAC_LO", 0x44, [], [⟨"ADDR", 31, 0, .rw, [0], .any⟩]⟩,
  ⟨"S_DST_MAC_HI", 0x48, [], [⟨"ADDR", 15, 0, .rw, [0], .any⟩, ⟨"VID", 27, 16, .rw, [0], .any⟩, ⟨"PCP", 30, 28, .rw, [0], .any⟩]⟩,
  ⟨"S_DST_IP", 0x4C, [(0x4, 4)], [⟨"ADDR", 31, 0, .rw, [0], .any⟩]⟩,
  ⟨"S_UDP", 0x5C, [], [⟨"SRC_PORT", 15, 0, .rw, [5004], .any⟩, ⟨"DST_PORT", 31, 16, .rw, [5004], .any⟩]⟩,
  ⟨"S_RTP", 0x60, [], [⟨"TTL", 7, 0, .rw, [64], .any⟩, ⟨"EXT_ID", 15, 8, .rw, [1], .between 1 255⟩, ⟨"PT", 22, 16, .rw, [96], .any⟩, ⟨"DSCP", 29, 24, .rw, [0], .any⟩]⟩,
  ⟨"S_SSRC", 0x64, [], [⟨"VALUE", 31, 0, .rw, [0], .any⟩]⟩,
  ⟨"S_TS_OFFSET", 0x68, [], [⟨"VALUE", 31, 0, .rw, [0], .any⟩]⟩,
  ⟨"S_RATE", 0x6C, [], [⟨"KBPS", 31, 0, .rw, [0], .any⟩]⟩,
  ⟨"S_BUCKET", 0x70, [], [⟨"BYTES", 15, 0, .rw, [4000], .any⟩, ⟨"QUEUE_KIB", 31, 16, .rw, [256], .between 16 65535⟩]⟩,
  ⟨"S_STATUS", 0x74, [], [⟨"SEQ", 15, 0, .ro, [0], .any⟩, ⟨"SEQ_INIT", 31, 16, .rw, [0], .any⟩]⟩,
  ⟨"S_COUNTS", 0x78, [], [⟨"DROP_QUEUE", 7, 0, .ro, [0], .any⟩, ⟨"DROP_BUF", 15, 8, .ro, [0], .any⟩, ⟨"SENT", 31, 16, .ro, [0], .any⟩]⟩]
/-- The registers of a session page or window. -/
def rows_session : List RegRow := rows_session_0

/-- The registers of a block at 0x040 and above of its window. -/
def regRows : Block → List RegRow
  | .glb => rows_glb
  | .sup => rows_sup
  | .thm => rows_thm
  | .pace => rows_pace
  | .evt => rows_evt
  | .svc => rows_svc
  | .sec => rows_sec
  | .host => rows_host
  | .dma => rows_dma
  | .camp => rows_camp
  | .cams => rows_cams
  | .cctl => rows_cctl
  | .shut => rows_shut
  | .bench => rows_bench
  | .svb => rows_svb
  | .lutm => rows_lutm
  | .strm => rows_strm
  | .zraw => rows_zraw
  | .enc => rows_enc
  | .dec => rows_dec
  | .bpool => rows_bpool
  | .head => rows_head
  | .layer => rows_layer
  | .dpo => rows_dpo
  | .chk => rows_chk
  | .net => rows_net
  | .pkt => rows_pkt
  | .time => rows_time
  | .timel => rows_timel
  | .aud => rows_aud
  | .amclk => rows_amclk
  | .ddrc => rows_ddrc
  | .memx => rows_memx
  | .session => rows_session

end Sys2Proof.Machine
end

