-- ==== Sys2Proof/Machine/RegRefs.lean ====
section
/-! DEFINITION. Names for the register fields the meanings use: each is the window offset, low bit and width that the
register tables of the spec give (the same numbers as in RegMap.lean). Array registers are reached with `Fld.at`. -/

namespace Sys2Proof.Machine

/-- A field of a register of a block: window offset, low bit, width. -/
structure Fld where
  blk : Block
  off : Nat
  lo : Nat
  w : Nat
deriving DecidableEq, Repr

/-- The same field of a later element of a register array, `d` bytes further on. -/
def Fld.at (f : Fld) (d : Nat) : Fld := ⟨f.blk, f.off + d, f.lo, f.w⟩

/-- The field `d` bits higher in the same register. -/
def Fld.up (f : Fld) (d : Nat) : Fld := ⟨f.blk, f.off, f.lo + d, f.w⟩

def Reg.amclk_MCLK_HZ_HZ : Fld := ⟨.amclk, 0x44, 0, 32⟩
def Reg.amclk_START_CTRL_DOMAIN : Fld := ⟨.amclk, 0x8C, 1, 3⟩
def Reg.amclk_START_CTRL_MASK : Fld := ⟨.amclk, 0x8C, 16, 16⟩
def Reg.amclk_START_CTRL_PENDING : Fld := ⟨.amclk, 0x8C, 4, 1⟩
def Reg.amclk_START_NS_VALUE : Fld := ⟨.amclk, 0x88, 0, 32⟩
def Reg.amclk_START_SEC_HI_VALUE : Fld := ⟨.amclk, 0x84, 0, 16⟩
def Reg.amclk_START_SEC_LO_VALUE : Fld := ⟨.amclk, 0x80, 0, 32⟩
def Reg.aud_BLOCK_FRAMES : Fld := ⟨.aud, 0x4C, 0, 10⟩
def Reg.aud_BLOCK_SLOTS : Fld := ⟨.aud, 0x4C, 16, 12⟩
def Reg.aud_CFG_FORMAT : Fld := ⟨.aud, 0x40, 1, 2⟩
def Reg.aud_CFG_MCLK_SRC : Fld := ⟨.aud, 0x40, 10, 2⟩
def Reg.aud_CFG_SAMPLE_BITS : Fld := ⟨.aud, 0x40, 3, 2⟩
def Reg.aud_CFG_SLOTS : Fld := ⟨.aud, 0x40, 6, 4⟩
def Reg.aud_CFG_SLOT_BITS : Fld := ⟨.aud, 0x40, 5, 1⟩
def Reg.aud_COUNTS_CLOCK_LOST : Fld := ⟨.aud, 0x7C, 0, 8⟩
def Reg.aud_COUNTS_LATE : Fld := ⟨.aud, 0x7C, 8, 8⟩
def Reg.aud_COUNTS_OVERRUN : Fld := ⟨.aud, 0x7C, 16, 8⟩
def Reg.aud_COUNTS_UNDERRUN : Fld := ⟨.aud, 0x7C, 24, 8⟩
def Reg.aud_OUT_SRC_PLAYOUT_FRAMES : Fld := ⟨.aud, 0x5C, 16, 16⟩
def Reg.aud_OUT_SRC_SRC : Fld := ⟨.aud, 0x5C, 0, 1⟩
def Reg.aud_POS_POS : Fld := ⟨.aud, 0x68, 0, 32⟩
def Reg.aud_RATE_DIR : Fld := ⟨.aud, 0x44, 0, 1⟩
def Reg.aud_RATE_MASTER : Fld := ⟨.aud, 0x44, 1, 1⟩
def Reg.aud_RATE_MEAS_RATE : Fld := ⟨.aud, 0x6C, 0, 32⟩
def Reg.aud_RATE_RATE_HZ : Fld := ⟨.aud, 0x44, 2, 18⟩
def Reg.aud_RING_HI_ADDR : Fld := ⟨.aud, 0x54, 0, 8⟩
def Reg.aud_RING_IDX_DEV_IDX : Fld := ⟨.aud, 0x58, 16, 12⟩
def Reg.aud_RING_IDX_SW_IDX : Fld := ⟨.aud, 0x58, 0, 12⟩
def Reg.aud_RING_LO_ADDR : Fld := ⟨.aud, 0x50, 12, 20⟩
def Reg.aud_RTP_OFFSET_VALUE : Fld := ⟨.aud, 0x60, 0, 32⟩
def Reg.aud_START_NS_VALUE : Fld := ⟨.aud, 0x74, 0, 32⟩
def Reg.aud_START_SEC_VALUE : Fld := ⟨.aud, 0x70, 0, 32⟩
def Reg.aud_STATUS_CLOCK_LOST : Fld := ⟨.aud, 0x78, 0, 1⟩
def Reg.aud_STATUS_HOLDING : Fld := ⟨.aud, 0x78, 1, 1⟩
def Reg.aud_TIMING_DOMAIN : Fld := ⟨.aud, 0x48, 24, 3⟩
def Reg.aud_TIMING_HOLD_MS : Fld := ⟨.aud, 0x48, 16, 8⟩
def Reg.aud_TIMING_SILENT_FRAMES : Fld := ⟨.aud, 0x48, 0, 16⟩
def Reg.bench_EVENT_SRC_STREAM : Fld := ⟨.bench, 0x4C, 0, 6⟩
def Reg.bench_RAW_COUNTS_CLAMPED : Fld := ⟨.bench, 0x40, 0, 16⟩
def Reg.bench_RAW_COUNTS_PARTIAL : Fld := ⟨.bench, 0x40, 16, 16⟩
def Reg.bench_STRIPES_COUNT : Fld := ⟨.bench, 0x48, 0, 32⟩
def Reg.bpool_CQ_BASE_HI_ADDR : Fld := ⟨.bpool, 0x70, 0, 8⟩
def Reg.bpool_CQ_BASE_LO_ADDR : Fld := ⟨.bpool, 0x6C, 12, 20⟩
def Reg.bpool_CQ_CTRL_RD : Fld := ⟨.bpool, 0x74, 20, 12⟩
def Reg.bpool_CQ_CTRL_SLOTS_LOG2 : Fld := ⟨.bpool, 0x74, 0, 8⟩
def Reg.bpool_CQ_CTRL_WR : Fld := ⟨.bpool, 0x74, 8, 12⟩
def Reg.bpool_EVENT_SRC_DESC : Fld := ⟨.bpool, 0x78, 0, 12⟩
def Reg.bpool_EVENT_SRC_LIST : Fld := ⟨.bpool, 0x78, 16, 6⟩
def Reg.bpool_LIST_CFG_DEST : Fld := ⟨.bpool, 0x100, 0, 1⟩
def Reg.bpool_LIST_CFG_FREE : Fld := ⟨.bpool, 0x100, 16, 16⟩
def Reg.bpool_TICKET_BASE_HI_ADDR : Fld := ⟨.bpool, 0x68, 0, 8⟩
def Reg.bpool_TICKET_BASE_LO_ADDR : Fld := ⟨.bpool, 0x64, 12, 20⟩
def Reg.camp_BUS_CFG_BITS : Fld := ⟨.camp, 0x40, 0, 2⟩
def Reg.camp_BUS_CFG_FORMAT : Fld := ⟨.camp, 0x40, 8, 2⟩
def Reg.camp_BUS_CFG_SYNC : Fld := ⟨.camp, 0x40, 6, 2⟩
def Reg.camp_ENT_COUNTS_DISCARDED : Fld := ⟨.camp, 0x124, 8, 8⟩
def Reg.camp_ENT_COUNTS_MISSED_FS : Fld := ⟨.camp, 0x124, 24, 8⟩
def Reg.camp_ENT_COUNTS_STAMP_FAIL : Fld := ⟨.camp, 0x124, 0, 8⟩
def Reg.camp_ENT_COUNTS_TRUNCATED : Fld := ⟨.camp, 0x124, 16, 8⟩
def Reg.camp_ENT_FRAME_NO_FRAME_NO : Fld := ⟨.camp, 0x114, 0, 32⟩
def Reg.camp_ENT_FS_INTERVAL_NS : Fld := ⟨.camp, 0x11C, 0, 32⟩
def Reg.camp_ENT_MAP_EXP : Fld := ⟨.camp, 0x100, 20, 2⟩
def Reg.camp_ENT_MAP_KEEP_PARTIAL : Fld := ⟨.camp, 0x100, 1, 1⟩
def Reg.camp_ENT_MAP_STAMP_LINE : Fld := ⟨.camp, 0x100, 3, 1⟩
def Reg.camp_ENT_MAP_STAMP_MODE : Fld := ⟨.camp, 0x100, 2, 1⟩
def Reg.camp_ENT_MAP_STREAM : Fld := ⟨.camp, 0x100, 24, 6⟩
def Reg.camp_ENT_MAP_VALID : Fld := ⟨.camp, 0x100, 31, 1⟩
def Reg.camp_ENT_RATE_MEAS : Fld := ⟨.camp, 0x118, 0, 20⟩
def Reg.camp_ENT_SIZE_HEIGHT : Fld := ⟨.camp, 0x104, 16, 16⟩
def Reg.camp_ENT_SIZE_WIDTH : Fld := ⟨.camp, 0x104, 0, 16⟩
def Reg.camp_ENT_STAMP_ALIVE_OFF : Fld := ⟨.camp, 0x10C, 4, 10⟩
def Reg.camp_ENT_STAMP_BIG_ENDIAN : Fld := ⟨.camp, 0x10C, 2, 1⟩
def Reg.camp_ENT_STAMP_CRC_OFF : Fld := ⟨.camp, 0x10C, 16, 10⟩
def Reg.camp_ENT_STAMP_POLY : Fld := ⟨.camp, 0x10C, 0, 2⟩
def Reg.camp_ENT_STAMP_STATUS_ALIVE : Fld := ⟨.camp, 0x120, 0, 16⟩
def Reg.camp_ENT_STAMP_STATUS_SKIPS : Fld := ⟨.camp, 0x120, 24, 8⟩
def Reg.camp_ENT_STAMP_STATUS_STATUS : Fld := ⟨.camp, 0x120, 16, 2⟩
def Reg.camp_ENT_TIMING_LINE_NS : Fld := ⟨.camp, 0x108, 0, 20⟩
def Reg.camp_ENT_TIMING_MAX_BAD : Fld := ⟨.camp, 0x108, 24, 8⟩
def Reg.camp_ENT_TIMING_TIMEOUT_LINES : Fld := ⟨.camp, 0x108, 20, 4⟩
def Reg.camp_ENT_WATCH_FRAME_TIMEOUT_MS : Fld := ⟨.camp, 0x110, 0, 16⟩
def Reg.camp_PCLK_CFG_MIN_PERIOD_PS : Fld := ⟨.camp, 0x44, 0, 16⟩
def Reg.cams_ASM_STATE_STATE_0 : Fld := ⟨.cams, 0x50, 0, 2⟩
def Reg.cams_ENT_COUNTS_DISCARDED : Fld := ⟨.cams, 0x124, 8, 8⟩
def Reg.cams_ENT_COUNTS_MISSED_FS : Fld := ⟨.cams, 0x124, 24, 8⟩
def Reg.cams_ENT_COUNTS_STAMP_FAIL : Fld := ⟨.cams, 0x124, 0, 8⟩
def Reg.cams_ENT_COUNTS_TRUNCATED : Fld := ⟨.cams, 0x124, 16, 8⟩
def Reg.cams_ENT_FRAME_NO_FRAME_NO : Fld := ⟨.cams, 0x114, 0, 32⟩
def Reg.cams_ENT_FS_INTERVAL_NS : Fld := ⟨.cams, 0x11C, 0, 32⟩
def Reg.cams_ENT_MAP_DT : Fld := ⟨.cams, 0x100, 8, 6⟩
def Reg.cams_ENT_MAP_EXP : Fld := ⟨.cams, 0x100, 20, 2⟩
def Reg.cams_ENT_MAP_KEEP_PARTIAL : Fld := ⟨.cams, 0x100, 1, 1⟩
def Reg.cams_ENT_MAP_STAMP_MODE : Fld := ⟨.cams, 0x100, 2, 1⟩
def Reg.cams_ENT_MAP_STREAM : Fld := ⟨.cams, 0x100, 24, 6⟩
def Reg.cams_ENT_MAP_VALID : Fld := ⟨.cams, 0x100, 31, 1⟩
def Reg.cams_ENT_MAP_VC : Fld := ⟨.cams, 0x100, 16, 4⟩
def Reg.cams_ENT_RATE_MEAS : Fld := ⟨.cams, 0x118, 0, 20⟩
def Reg.cams_ENT_SIZE_HEIGHT : Fld := ⟨.cams, 0x104, 16, 16⟩
def Reg.cams_ENT_SIZE_WIDTH : Fld := ⟨.cams, 0x104, 0, 16⟩
def Reg.cams_ENT_STAMP_ALIVE_OFF : Fld := ⟨.cams, 0x10C, 4, 10⟩
def Reg.cams_ENT_STAMP_BIG_ENDIAN : Fld := ⟨.cams, 0x10C, 2, 1⟩
def Reg.cams_ENT_STAMP_CRC_OFF : Fld := ⟨.cams, 0x10C, 16, 10⟩
def Reg.cams_ENT_STAMP_POLY : Fld := ⟨.cams, 0x10C, 0, 2⟩
def Reg.cams_ENT_STAMP_STATUS_ALIVE : Fld := ⟨.cams, 0x120, 0, 16⟩
def Reg.cams_ENT_STAMP_STATUS_SKIPS : Fld := ⟨.cams, 0x120, 24, 8⟩
def Reg.cams_ENT_STAMP_STATUS_STATUS : Fld := ⟨.cams, 0x120, 16, 2⟩
def Reg.cams_ENT_TIMING_LINE_NS : Fld := ⟨.cams, 0x108, 0, 20⟩
def Reg.cams_ENT_TIMING_MAX_BAD : Fld := ⟨.cams, 0x108, 24, 8⟩
def Reg.cams_ENT_TIMING_TIMEOUT_LINES : Fld := ⟨.cams, 0x108, 20, 4⟩
def Reg.cams_ENT_WATCH_FRAME_TIMEOUT_MS : Fld := ⟨.cams, 0x110, 0, 16⟩
def Reg.cams_EVENT_SRC_ENTRY : Fld := ⟨.cams, 0x54, 0, 4⟩
def Reg.cams_HDR_CFG_WINDOW : Fld := ⟨.cams, 0x58, 0, 12⟩
def Reg.cams_PHY_CFG_DESKEW : Fld := ⟨.cams, 0x40, 6, 1⟩
def Reg.cams_PHY_CFG_LANES : Fld := ⟨.cams, 0x40, 2, 3⟩
def Reg.cams_PHY_CFG_MODE : Fld := ⟨.cams, 0x40, 0, 2⟩
def Reg.cams_PHY_RATE_RATE : Fld := ⟨.cams, 0x44, 0, 13⟩
def Reg.cams_PHY_STATUS_DESKEWED : Fld := ⟨.cams, 0x48, 12, 1⟩
def Reg.cams_PHY_STATUS_HS : Fld := ⟨.cams, 0x48, 4, 4⟩
def Reg.cams_PHY_STATUS_SOT_ERR : Fld := ⟨.cams, 0x48, 24, 8⟩
def Reg.cams_PHY_STATUS_STOP : Fld := ⟨.cams, 0x48, 0, 4⟩
def Reg.cams_PHY_STATUS_ULPS : Fld := ⟨.cams, 0x48, 8, 4⟩
def Reg.cams_PKT_COUNTS_CRC_BAD : Fld := ⟨.cams, 0x4C, 16, 8⟩
def Reg.cams_PKT_COUNTS_HDR_BAD : Fld := ⟨.cams, 0x4C, 8, 8⟩
def Reg.cams_PKT_COUNTS_HDR_CORR : Fld := ⟨.cams, 0x4C, 0, 8⟩
def Reg.cams_PKT_COUNTS_UNMAPPED : Fld := ⟨.cams, 0x4C, 24, 8⟩
def Reg.cctl_BUS_CFG_KHZ : Fld := ⟨.cctl, 0x44, 0, 14⟩
def Reg.cctl_CFG_BUS : Fld := ⟨.cctl, 0x40, 0, 2⟩
def Reg.cctl_CFG_CAPTURE_SRC : Fld := ⟨.cctl, 0x40, 2, 1⟩
def Reg.cctl_CFG_PROFILE : Fld := ⟨.cctl, 0x40, 16, 4⟩
def Reg.cctl_CFG_STREAM : Fld := ⟨.cctl, 0x40, 8, 6⟩
def Reg.cctl_CMD_EXP_NS : Fld := ⟨.cctl, 0x4C, 0, 32⟩
def Reg.cctl_CMD_GAIN_AGAIN : Fld := ⟨.cctl, 0x58, 0, 16⟩
def Reg.cctl_CMD_GAIN_DGAIN : Fld := ⟨.cctl, 0x58, 16, 16⟩
def Reg.cctl_CMD_STATUS_QUEUED : Fld := ⟨.cctl, 0x68, 0, 4⟩
def Reg.cctl_CMD_STATUS_RESULTS : Fld := ⟨.cctl, 0x68, 8, 5⟩
def Reg.cctl_CMD_TARGET_FRAME : Fld := ⟨.cctl, 0x48, 0, 32⟩
def Reg.cctl_CMD_WB_B_WB_B : Fld := ⟨.cctl, 0x60, 0, 16⟩
def Reg.cctl_CMD_WB_RG_WB_G : Fld := ⟨.cctl, 0x5C, 16, 16⟩
def Reg.cctl_CMD_WB_RG_WB_R : Fld := ⟨.cctl, 0x5C, 0, 16⟩
def Reg.cctl_COUNTS_FAILED : Fld := ⟨.cctl, 0x88, 16, 8⟩
def Reg.cctl_COUNTS_LATE : Fld := ⟨.cctl, 0x88, 24, 8⟩
def Reg.cctl_COUNTS_MISMATCH : Fld := ⟨.cctl, 0x88, 8, 8⟩
def Reg.cctl_COUNTS_RESULT_LOST : Fld := ⟨.cctl, 0x88, 0, 8⟩
def Reg.cctl_RESULT_CODE : Fld := ⟨.cctl, 0x70, 0, 3⟩
def Reg.cctl_RESULT_FRAME_FRAME : Fld := ⟨.cctl, 0x74, 0, 32⟩
def Reg.cctl_RESULT_TAG : Fld := ⟨.cctl, 0x70, 16, 16⟩
def Reg.cctl_STRB_MID_NS : Fld := ⟨.cctl, 0x84, 0, 32⟩
def Reg.cctl_TRIG_CFG_MODE : Fld := ⟨.cctl, 0x7C, 0, 2⟩
def Reg.cctl_XFER_DATA_DATA : Fld := ⟨.cctl, 0x98, 0, 32⟩
def Reg.cctl_XFER_STATUS_BUSY : Fld := ⟨.cctl, 0xA8, 31, 1⟩
def Reg.cctl_XFER_STATUS_BYTES : Fld := ⟨.cctl, 0xA8, 0, 5⟩
def Reg.cctl_XFER_STATUS_RESULT : Fld := ⟨.cctl, 0xA8, 8, 3⟩
def Reg.chk_CHKU_ALIVE_ALIVE : Fld := ⟨.chk, 0x1044, 0, 16⟩
def Reg.chk_CHKU_CFG : Fld := ⟨.chk, 0x1040, 0, 32⟩
def Reg.chk_CHKU_CFG_EN : Fld := ⟨.chk, 0x1040, 31, 1⟩
def Reg.chk_CHKU_CFG_POLY : Fld := ⟨.chk, 0x1040, 24, 2⟩
def Reg.chk_CHKU_CFG_STAMP_LAYER : Fld := ⟨.chk, 0x1040, 16, 4⟩
def Reg.chk_CHKU_CFG_TARGET : Fld := ⟨.chk, 0x1040, 0, 7⟩
def Reg.chk_CHKU_CFG_USE : Fld := ⟨.chk, 0x1040, 28, 2⟩
def Reg.chk_CHKU_COUNTS_DONE : Fld := ⟨.chk, 0x1048, 0, 16⟩
def Reg.chk_CHKU_COUNTS_FAIL : Fld := ⟨.chk, 0x1048, 16, 16⟩
def Reg.chk_CHKU_LAST_CRC : Fld := ⟨.chk, 0x104C, 0, 32⟩
def Reg.chk_EVENT_SRC_INDEX : Fld := ⟨.chk, 0x44, 0, 7⟩
def Reg.chk_FRAY_STALE_HI_STALE : Fld := ⟨.chk, 0x4C, 0, 32⟩
def Reg.chk_FRAY_STALE_LO_STALE : Fld := ⟨.chk, 0x48, 0, 32⟩
def Reg.chk_SDP_TYPE_HB1 : Fld := ⟨.chk, 0x50, 0, 8⟩
def Reg.chk_STATUS_ENABLED : Fld := ⟨.chk, 0x40, 0, 8⟩
def Reg.ddrc_ECC_COUNTS_AE : Fld := ⟨.ddrc, 0x4C, 24, 8⟩
def Reg.ddrc_ECC_COUNTS_CE : Fld := ⟨.ddrc, 0x4C, 0, 16⟩
def Reg.ddrc_ECC_COUNTS_UE : Fld := ⟨.ddrc, 0x4C, 16, 8⟩
def Reg.ddrc_MARK_DEVICE_0 : Fld := ⟨.ddrc, 0x50, 0, 3⟩
def Reg.ddrc_MARK_MARKED_0 : Fld := ⟨.ddrc, 0x50, 3, 1⟩
def Reg.ddrc_POISON_READS_COUNT : Fld := ⟨.ddrc, 0x54, 0, 32⟩
def Reg.ddrc_POP : Fld := ⟨.ddrc, 0x40, 0, 32⟩
def Reg.ddrc_POP_DENSITY_0 : Fld := ⟨.ddrc, 0x40, 3, 1⟩
def Reg.ddrc_POP_RANKS_0 : Fld := ⟨.ddrc, 0x40, 0, 2⟩
def Reg.ddrc_POP_WIDTH_0 : Fld := ⟨.ddrc, 0x40, 2, 1⟩
def Reg.ddrc_SUB_STATUS_FSP : Fld := ⟨.ddrc, 0x44, 16, 2⟩
def Reg.ddrc_SUB_STATUS_HOT_0 : Fld := ⟨.ddrc, 0x44, 3, 1⟩
def Reg.ddrc_SUB_STATUS_STATE_0 : Fld := ⟨.ddrc, 0x44, 0, 3⟩
def Reg.dec_COUNTS_NO_BUFFER : Fld := ⟨.dec, 0x48, 16, 8⟩
def Reg.dec_COUNTS_POISON : Fld := ⟨.dec, 0x48, 0, 8⟩
def Reg.dec_COUNTS_REF_MISSING : Fld := ⟨.dec, 0x48, 24, 8⟩
def Reg.dec_COUNTS_UNSUPPORTED : Fld := ⟨.dec, 0x48, 8, 8⟩
def Reg.dec_CTX_CFG : Fld := ⟨.dec, 0x1100, 0, 32⟩
def Reg.dec_CTX_CFG_CODEC : Fld := ⟨.dec, 0x1100, 1, 1⟩
def Reg.dec_CTX_CFG_DPB_SLOTS : Fld := ⟨.dec, 0x1100, 16, 5⟩
def Reg.dec_CTX_CFG_EN : Fld := ⟨.dec, 0x1100, 0, 1⟩
def Reg.dec_CTX_CFG_NEED_STAMP : Fld := ⟨.dec, 0x1100, 7, 1⟩
def Reg.dec_CTX_CFG_OUT_LIST : Fld := ⟨.dec, 0x1100, 24, 6⟩
def Reg.dec_CTX_CFG_PROFILE : Fld := ⟨.dec, 0x1100, 3, 2⟩
def Reg.dec_CTX_CFG_SRC : Fld := ⟨.dec, 0x1100, 5, 1⟩
def Reg.dec_CTX_CFG_START_ANY : Fld := ⟨.dec, 0x1100, 6, 1⟩
def Reg.dec_CTX_CONCEAL_CTUS_COUNT : Fld := ⟨.dec, 0x1128, 0, 20⟩
def Reg.dec_CTX_COUNTS_CONCEALED : Fld := ⟨.dec, 0x1124, 8, 8⟩
def Reg.dec_CTX_COUNTS_LATE_DROPS : Fld := ⟨.dec, 0x1124, 24, 8⟩
def Reg.dec_CTX_COUNTS_OUTPUT : Fld := ⟨.dec, 0x1124, 0, 8⟩
def Reg.dec_CTX_COUNTS_SYNTAX : Fld := ⟨.dec, 0x1124, 16, 8⟩
def Reg.dec_CTX_DPB_CONCEALED : Fld := ⟨.dec, 0x1140, 27, 1⟩
def Reg.dec_CTX_DPB_DESC : Fld := ⟨.dec, 0x1140, 0, 12⟩
def Reg.dec_CTX_DPB_LONG : Fld := ⟨.dec, 0x1140, 29, 1⟩
def Reg.dec_CTX_DPB_OUT_PENDING : Fld := ⟨.dec, 0x1140, 28, 1⟩
def Reg.dec_CTX_DPB_SHORT : Fld := ⟨.dec, 0x1140, 30, 1⟩
def Reg.dec_CTX_DPB_VALID : Fld := ⟨.dec, 0x1140, 31, 1⟩
def Reg.dec_CTX_IN_HI_ADDR : Fld := ⟨.dec, 0x110C, 0, 8⟩
def Reg.dec_CTX_IN_LO_ADDR : Fld := ⟨.dec, 0x1108, 12, 20⟩
def Reg.dec_CTX_IN_RD_OFFSET : Fld := ⟨.dec, 0x1118, 0, 24⟩
def Reg.dec_CTX_IN_SIZE_KIB : Fld := ⟨.dec, 0x1110, 0, 16⟩
def Reg.dec_CTX_IN_WR_OFFSET : Fld := ⟨.dec, 0x1114, 0, 24⟩
def Reg.dec_CTX_LAST_POC_POC : Fld := ⟨.dec, 0x112C, 0, 32⟩
def Reg.dec_CTX_MAX_GEOM_HEIGHT : Fld := ⟨.dec, 0x1104, 16, 16⟩
def Reg.dec_CTX_MAX_GEOM_WIDTH : Fld := ⟨.dec, 0x1104, 0, 16⟩
def Reg.dec_CTX_STATUS_CHAIN : Fld := ⟨.dec, 0x1120, 9, 1⟩
def Reg.dec_CTX_STATUS_DPB_USED : Fld := ⟨.dec, 0x1120, 24, 8⟩
def Reg.dec_CTX_STATUS_PLI_WANTED : Fld := ⟨.dec, 0x1120, 8, 1⟩
def Reg.dec_CTX_STATUS_STATE : Fld := ⟨.dec, 0x1120, 0, 3⟩
def Reg.dec_CTX_TIMING_MAX_LAG_MS : Fld := ⟨.dec, 0x111C, 0, 16⟩
def Reg.dec_CTX_TIMING_PLI_RETRY_MS : Fld := ⟨.dec, 0x111C, 16, 16⟩
def Reg.dec_ENGINE_STATUS_ACTIVE : Fld := ⟨.dec, 0x40, 0, 6⟩
def Reg.dec_ENGINE_STATUS_QUEUED : Fld := ⟨.dec, 0x40, 16, 16⟩
def Reg.dec_EVENT_SRC_CONTEXT : Fld := ⟨.dec, 0x44, 0, 6⟩
def Reg.dma_EVENT_SRC_RING : Fld := ⟨.dma, 0x40, 0, 4⟩
def Reg.dma_RING_BASE_HI_ADDR : Fld := ⟨.dma, 0x108, 0, 32⟩
def Reg.dma_RING_BASE_LO_ADDR : Fld := ⟨.dma, 0x104, 6, 26⟩
def Reg.dma_RING_CFG : Fld := ⟨.dma, 0x100, 0, 32⟩
def Reg.dma_RING_CFG_EN : Fld := ⟨.dma, 0x100, 31, 1⟩
def Reg.dma_RING_CFG_LOC : Fld := ⟨.dma, 0x100, 8, 1⟩
def Reg.dma_RING_CFG_SIZE_LOG2 : Fld := ⟨.dma, 0x100, 0, 4⟩
def Reg.dma_RING_COUNT_DONE : Fld := ⟨.dma, 0x118, 0, 32⟩
def Reg.dma_RING_HEAD_INDEX : Fld := ⟨.dma, 0x10C, 0, 12⟩
def Reg.dma_RING_STATUS_LAST_CODE : Fld := ⟨.dma, 0x114, 24, 8⟩
def Reg.dma_RING_STATUS_STATE : Fld := ⟨.dma, 0x114, 0, 2⟩
def Reg.dma_RING_TAIL_INDEX : Fld := ⟨.dma, 0x110, 0, 12⟩
def Reg.dpo_AUX_DATA_DATA : Fld := ⟨.dpo, 0x54, 0, 32⟩
def Reg.dpo_AUX_STATUS_BUSY : Fld := ⟨.dpo, 0x50, 31, 1⟩
def Reg.dpo_AUX_STATUS_BYTES : Fld := ⟨.dpo, 0x50, 0, 5⟩
def Reg.dpo_AUX_STATUS_RESULT : Fld := ⟨.dpo, 0x50, 8, 3⟩
def Reg.dpo_CFG_BPC : Fld := ⟨.dpo, 0x40, 12, 2⟩
def Reg.dpo_CFG_COLORIMETRY : Fld := ⟨.dpo, 0x40, 16, 2⟩
def Reg.dpo_CFG_CTA_RANGE : Fld := ⟨.dpo, 0x40, 18, 1⟩
def Reg.dpo_CFG_EDP : Fld := ⟨.dpo, 0x40, 19, 1⟩
def Reg.dpo_CFG_HEAD : Fld := ⟨.dpo, 0x40, 0, 2⟩
def Reg.dpo_CFG_MAX_LANES : Fld := ⟨.dpo, 0x40, 4, 2⟩
def Reg.dpo_CFG_MAX_RATE : Fld := ⟨.dpo, 0x40, 8, 4⟩
def Reg.dpo_CFG_SDP_EN : Fld := ⟨.dpo, 0x40, 21, 1⟩
def Reg.dpo_COUNTS_FALLBACK : Fld := ⟨.dpo, 0x64, 16, 8⟩
def Reg.dpo_COUNTS_HPD_IRQ : Fld := ⟨.dpo, 0x64, 0, 8⟩
def Reg.dpo_COUNTS_LINK_LOSS : Fld := ⟨.dpo, 0x64, 8, 8⟩
def Reg.dpo_COUNTS_TRAIN_FAIL : Fld := ⟨.dpo, 0x64, 24, 8⟩
def Reg.dpo_LINK_STATUS_HPD : Fld := ⟨.dpo, 0x48, 16, 1⟩
def Reg.dpo_LINK_STATUS_LANES : Fld := ⟨.dpo, 0x48, 4, 3⟩
def Reg.dpo_LINK_STATUS_RATE : Fld := ⟨.dpo, 0x48, 8, 4⟩
def Reg.dpo_LINK_STATUS_SINK_LANES : Fld := ⟨.dpo, 0x48, 24, 3⟩
def Reg.dpo_LINK_STATUS_SINK_RATE : Fld := ⟨.dpo, 0x48, 28, 4⟩
def Reg.dpo_SDP_DATA_DB : Fld := ⟨.dpo, 0x6C, 0, 32⟩
def Reg.dpo_SDP_HDR_HB : Fld := ⟨.dpo, 0x68, 0, 32⟩
def Reg.dpo_TRAIN_RETRY_MS : Fld := ⟨.dpo, 0x44, 0, 16⟩
def Reg.enc_COUNTS_ABANDONED : Fld := ⟨.enc, 0x4C, 24, 8⟩
def Reg.enc_COUNTS_FLOORED_PICS : Fld := ⟨.enc, 0x4C, 0, 8⟩
def Reg.enc_COUNTS_HRD_VIOL : Fld := ⟨.enc, 0x4C, 8, 8⟩
def Reg.enc_COUNTS_SLICE_LATE : Fld := ⟨.enc, 0x4C, 16, 8⟩
def Reg.enc_CTX_CFG2_FRAME_NUM_BITS : Fld := ⟨.enc, 0x1104, 14, 5⟩
def Reg.enc_CTX_CFG2_INIT_QP : Fld := ⟨.enc, 0x1104, 0, 6⟩
def Reg.enc_CTX_CFG2_POC_BITS : Fld := ⟨.enc, 0x1104, 9, 5⟩
def Reg.enc_CTX_CFG2_RECON_SLOTS : Fld := ⟨.enc, 0x1104, 19, 5⟩
def Reg.enc_CTX_CFG2_REFRESH_PICS : Fld := ⟨.enc, 0x1104, 24, 8⟩
def Reg.enc_CTX_CFG_B_FRAMES : Fld := ⟨.enc, 0x1100, 14, 2⟩
def Reg.enc_CTX_CFG_CODEC : Fld := ⟨.enc, 0x1100, 9, 1⟩
def Reg.enc_CTX_CFG_CTU : Fld := ⟨.enc, 0x1100, 12, 1⟩
def Reg.enc_CTX_CFG_EN : Fld := ⟨.enc, 0x1100, 0, 1⟩
def Reg.enc_CTX_CFG_PROFILE : Fld := ⟨.enc, 0x1100, 10, 2⟩
def Reg.enc_CTX_CFG_RC_MODE : Fld := ⟨.enc, 0x1100, 17, 3⟩
def Reg.enc_CTX_CFG_REFRESH : Fld := ⟨.enc, 0x1100, 16, 1⟩
def Reg.enc_CTX_CFG_SLICE_CTU_ROWS : Fld := ⟨.enc, 0x1100, 20, 6⟩
def Reg.enc_CTX_CFG_SRC_STRIPES : Fld := ⟨.enc, 0x1100, 28, 4⟩
def Reg.enc_CTX_CFG_WPP : Fld := ⟨.enc, 0x1100, 13, 1⟩
def Reg.enc_CTX_COUNTS_EPOCH : Fld := ⟨.enc, 0x113C, 28, 4⟩
def Reg.enc_CTX_COUNTS_HDR_FAULTS : Fld := ⟨.enc, 0x113C, 8, 8⟩
def Reg.enc_CTX_COUNTS_PICTURES : Fld := ⟨.enc, 0x113C, 0, 8⟩
def Reg.enc_CTX_COUNTS_STALLS : Fld := ⟨.enc, 0x113C, 16, 8⟩
def Reg.enc_CTX_CPB_LEVEL_BITS : Fld := ⟨.enc, 0x1144, 0, 32⟩
def Reg.enc_CTX_GEOM : Fld := ⟨.enc, 0x1108, 0, 32⟩
def Reg.enc_CTX_GEOM_HEIGHT : Fld := ⟨.enc, 0x1108, 16, 16⟩
def Reg.enc_CTX_GEOM_WIDTH : Fld := ⟨.enc, 0x1108, 0, 16⟩
def Reg.enc_CTX_HDR_HI_ADDR : Fld := ⟨.enc, 0x1118, 0, 8⟩
def Reg.enc_CTX_HDR_LO_ADDR : Fld := ⟨.enc, 0x1114, 6, 26⟩
def Reg.enc_CTX_LAST_BITS_BITS : Fld := ⟨.enc, 0x1140, 0, 32⟩
def Reg.enc_CTX_OUT_HI_ADDR : Fld := ⟨.enc, 0x1120, 0, 8⟩
def Reg.enc_CTX_OUT_LO_ADDR : Fld := ⟨.enc, 0x111C, 6, 26⟩
def Reg.enc_CTX_OUT_RD_OFFSET : Fld := ⟨.enc, 0x1134, 0, 24⟩
def Reg.enc_CTX_OUT_SIZE_KIB : Fld := ⟨.enc, 0x1124, 0, 16⟩
def Reg.enc_CTX_OUT_WR_OFFSET : Fld := ⟨.enc, 0x1130, 0, 24⟩
def Reg.enc_CTX_RC_CPB_KBIT : Fld := ⟨.enc, 0x1110, 0, 32⟩
def Reg.enc_CTX_RC_RATE_KBPS : Fld := ⟨.enc, 0x110C, 0, 32⟩
def Reg.enc_CTX_RECON_HI : Fld := ⟨.enc, 0x112C, 0, 32⟩
def Reg.enc_CTX_RECON_LO : Fld := ⟨.enc, 0x1128, 0, 32⟩
def Reg.enc_CTX_STATUS_ABANDON_WHY : Fld := ⟨.enc, 0x1138, 9, 3⟩
def Reg.enc_CTX_STATUS_FLOORED : Fld := ⟨.enc, 0x1138, 16, 16⟩
def Reg.enc_CTX_STATUS_GOOD : Fld := ⟨.enc, 0x1138, 5, 1⟩
def Reg.enc_CTX_STATUS_LAST_GOOD : Fld := ⟨.enc, 0x1138, 12, 4⟩
def Reg.enc_CTX_STATUS_RECOVERY : Fld := ⟨.enc, 0x1138, 8, 1⟩
def Reg.enc_CTX_STATUS_SLOT_NEXT : Fld := ⟨.enc, 0x1138, 6, 2⟩
def Reg.enc_CTX_STATUS_STATE : Fld := ⟨.enc, 0x1138, 0, 3⟩
def Reg.enc_ENGINE_CFG_GANG : Fld := ⟨.enc, 0x40, 0, 1⟩
def Reg.enc_ENGINE_STATUS_ACTIVE : Fld := ⟨.enc, 0x44, 1, 6⟩
def Reg.enc_ENGINE_STATUS_GANGED : Fld := ⟨.enc, 0x44, 0, 1⟩
def Reg.enc_ENGINE_STATUS_SRC_USED_KIB : Fld := ⟨.enc, 0x44, 16, 16⟩
def Reg.enc_EVENT_SRC_CONTEXT : Fld := ⟨.enc, 0x48, 0, 7⟩
def Reg.evt_EVENT_SRC_INDEX : Fld := ⟨.evt, 0x64, 12, 4⟩
def Reg.evt_EVENT_SRC_STREAM : Fld := ⟨.evt, 0x64, 0, 6⟩
def Reg.evt_PIN_CFG_ENABLE : Fld := ⟨.evt, 0x40, 0, 1⟩
def Reg.evt_PIN_CFG_FAILSAFE : Fld := ⟨.evt, 0x40, 2, 2⟩
def Reg.evt_PIN_CFG_TIMEOUT_MS : Fld := ⟨.evt, 0x40, 16, 16⟩
def Reg.evt_PIN_STATE_ASSERTED : Fld := ⟨.evt, 0x60, 0, 8⟩
def Reg.evt_PIN_STATE_FAILSAFE : Fld := ⟨.evt, 0x60, 8, 8⟩
def Reg.glb_FSYNC_CFG_ENABLE : Fld := ⟨.glb, 0x100, 0, 1⟩
def Reg.glb_FSYNC_PERIOD_NS : Fld := ⟨.glb, 0x104, 0, 32⟩
def Reg.glb_FSYNC_PHASE_NS : Fld := ⟨.glb, 0x108, 0, 32⟩
def Reg.glb_TEMP_TEMP : Fld := ⟨.glb, 0x200, 0, 16⟩
def Reg.glb_TEMP_VALID : Fld := ⟨.glb, 0x200, 31, 1⟩
def Reg.head_BG_RGB : Fld := ⟨.head, 0x40, 0, 30⟩
def Reg.head_COMMIT_CFG_DEADLINE : Fld := ⟨.head, 0x64, 0, 8⟩
def Reg.head_COMMIT_WAIT_DEFERRALS : Fld := ⟨.head, 0x68, 24, 8⟩
def Reg.head_COMMIT_WAIT_NOT_READY : Fld := ⟨.head, 0x68, 0, 16⟩
def Reg.head_COUNTS_DIRECT_MISS : Fld := ⟨.head, 0x74, 16, 8⟩
def Reg.head_COUNTS_EXPIRED : Fld := ⟨.head, 0x74, 0, 8⟩
def Reg.head_COUNTS_FETCH_POISON : Fld := ⟨.head, 0x74, 8, 8⟩
def Reg.head_COUNTS_LATE_COMMITS : Fld := ⟨.head, 0x74, 24, 8⟩
def Reg.head_EVENT_SRC_LAYER : Fld := ⟨.head, 0x70, 0, 6⟩
def Reg.head_FETCH_MARGIN_MIN_NS : Fld := ⟨.head, 0x6C, 16, 16⟩
def Reg.head_FETCH_MARGIN_NOW_NS : Fld := ⟨.head, 0x6C, 0, 16⟩
def Reg.head_FRAME_COUNT_COUNT : Fld := ⟨.head, 0x150, 0, 32⟩
def Reg.head_FS_TIME_NS_NS : Fld := ⟨.head, 0x14C, 0, 32⟩
def Reg.head_FS_TIME_SEC_SEC : Fld := ⟨.head, 0x148, 0, 32⟩
def Reg.head_H_SYNC_HS_POL : Fld := ⟨.head, 0x104, 31, 1⟩
def Reg.head_H_SYNC_H_FP : Fld := ⟨.head, 0x104, 0, 12⟩
def Reg.head_H_SYNC_H_SYNC : Fld := ⟨.head, 0x104, 16, 12⟩
def Reg.head_H_TIMING_H_ACTIVE : Fld := ⟨.head, 0x100, 0, 16⟩
def Reg.head_H_TIMING_H_TOTAL : Fld := ⟨.head, 0x100, 16, 16⟩
def Reg.head_LOCK_STATUS_PHASE_ERR_NS : Fld := ⟨.head, 0x140, 0, 32⟩
def Reg.head_OUT_M_HI : Fld := ⟨.head, 0x44, 16, 12⟩
def Reg.head_OUT_M_LO : Fld := ⟨.head, 0x44, 0, 12⟩
def Reg.head_OUT_OFF_OFFSET : Fld := ⟨.head, 0x58, 0, 14⟩
def Reg.head_PCLK_FRAC_FRAC : Fld := ⟨.head, 0x114, 0, 16⟩
def Reg.head_PCLK_HZ_HZ : Fld := ⟨.head, 0x110, 0, 32⟩
def Reg.head_PCLK_NOW_HZ : Fld := ⟨.head, 0x144, 0, 32⟩
def Reg.head_REF_CFG_DIV : Fld := ⟨.head, 0x118, 16, 4⟩
def Reg.head_REF_CFG_DOMAIN : Fld := ⟨.head, 0x118, 4, 3⟩
def Reg.head_REF_CFG_MODE : Fld := ⟨.head, 0x118, 0, 2⟩
def Reg.head_REF_CFG_STAMP_DOMAIN : Fld := ⟨.head, 0x118, 20, 3⟩
def Reg.head_REF_CFG_STREAM : Fld := ⟨.head, 0x118, 8, 6⟩
def Reg.head_REF_CFG_V_ADJ : Fld := ⟨.head, 0x118, 24, 8⟩
def Reg.head_REF_LOCK_PULL_PPM : Fld := ⟨.head, 0x124, 16, 16⟩
def Reg.head_REF_LOCK_ROW_OFFSET : Fld := ⟨.head, 0x124, 0, 16⟩
def Reg.head_REF_PERIOD_NS : Fld := ⟨.head, 0x120, 0, 32⟩
def Reg.head_REF_PHASE_NS : Fld := ⟨.head, 0x11C, 0, 32⟩
def Reg.head_UNDERRUN_FRAMES : Fld := ⟨.head, 0x154, 8, 8⟩
def Reg.head_UNDERRUN_LINES : Fld := ⟨.head, 0x154, 16, 16⟩
def Reg.head_UNDERRUN_REF_IGNORED : Fld := ⟨.head, 0x154, 0, 8⟩
def Reg.head_V_SYNC_VS_POL : Fld := ⟨.head, 0x10C, 31, 1⟩
def Reg.head_V_SYNC_V_FP : Fld := ⟨.head, 0x10C, 0, 12⟩
def Reg.head_V_SYNC_V_SYNC : Fld := ⟨.head, 0x10C, 16, 12⟩
def Reg.head_V_TIMING_V_ACTIVE : Fld := ⟨.head, 0x108, 0, 16⟩
def Reg.head_V_TIMING_V_TOTAL : Fld := ⟨.head, 0x108, 16, 16⟩
def Reg.host_APERTURE_HI_ADDR : Fld := ⟨.host, 0x4C, 0, 8⟩
def Reg.host_APERTURE_HI_SIZE_LOG2 : Fld := ⟨.host, 0x4C, 24, 8⟩
def Reg.host_APERTURE_LO_ADDR : Fld := ⟨.host, 0x48, 30, 2⟩
def Reg.host_CFG_APERTURE_EN : Fld := ⟨.host, 0x40, 19, 1⟩
def Reg.host_CFG_MAX_GEN : Fld := ⟨.host, 0x40, 20, 4⟩
def Reg.host_COUNTS_FLRS : Fld := ⟨.host, 0x50, 16, 8⟩
def Reg.host_COUNTS_LINK_DOWNS : Fld := ⟨.host, 0x50, 24, 8⟩
def Reg.host_COUNTS_POISON_TLPS : Fld := ⟨.host, 0x50, 8, 8⟩
def Reg.host_COUNTS_UR : Fld := ⟨.host, 0x50, 0, 8⟩
def Reg.host_LINK_STATUS_FLIT : Fld := ⟨.host, 0x44, 12, 1⟩
def Reg.host_LINK_STATUS_GEN : Fld := ⟨.host, 0x44, 4, 4⟩
def Reg.host_LINK_STATUS_UP : Fld := ⟨.host, 0x44, 0, 1⟩
def Reg.host_LINK_STATUS_WIDTH : Fld := ⟨.host, 0x44, 8, 4⟩
def Reg.layer_CFG_ALPHA_MODE : Fld := ⟨.layer, 0x40, 4, 2⟩
def Reg.layer_CFG_COEF_SRC : Fld := ⟨.layer, 0x40, 6, 1⟩
def Reg.layer_CFG_EN : Fld := ⟨.layer, 0x40, 0, 1⟩
def Reg.layer_CFG_FORMAT : Fld := ⟨.layer, 0x40, 16, 4⟩
def Reg.layer_CFG_GLOBAL_ALPHA : Fld := ⟨.layer, 0x40, 8, 8⟩
def Reg.layer_CFG_MODE : Fld := ⟨.layer, 0x40, 1, 2⟩
def Reg.layer_CFG_SRC : Fld := ⟨.layer, 0x40, 20, 12⟩
def Reg.layer_COEF_HI_ADDR : Fld := ⟨.layer, 0x7C, 0, 8⟩
def Reg.layer_COEF_LO_ADDR : Fld := ⟨.layer, 0x78, 6, 26⟩
def Reg.layer_COUNTS_DIRECT_MISS : Fld := ⟨.layer, 0xA8, 8, 8⟩
def Reg.layer_COUNTS_FEED_MISMATCH : Fld := ⟨.layer, 0xA8, 16, 8⟩
def Reg.layer_COUNTS_FEED_SKIPPED : Fld := ⟨.layer, 0xA8, 24, 8⟩
def Reg.layer_COUNTS_POISON : Fld := ⟨.layer, 0xA8, 0, 8⟩
def Reg.layer_CUR_FRAME_NO_FRAME_NO : Fld := ⟨.layer, 0xA4, 0, 32⟩
def Reg.layer_DST_POS_X : Fld := ⟨.layer, 0x4C, 0, 16⟩
def Reg.layer_DST_POS_Y : Fld := ⟨.layer, 0x4C, 16, 16⟩
def Reg.layer_DST_SIZE_H : Fld := ⟨.layer, 0x50, 16, 16⟩
def Reg.layer_DST_SIZE_W : Fld := ⟨.layer, 0x50, 0, 16⟩
def Reg.layer_FILL_RGB : Fld := ⟨.layer, 0x74, 0, 30⟩
def Reg.layer_FRAY_AGE_US : Fld := ⟨.layer, 0x88, 0, 32⟩
def Reg.layer_FRAY_CFG_AGE_BASE : Fld := ⟨.layer, 0x80, 2, 1⟩
def Reg.layer_FRAY_CFG_MAX_AGE_MS : Fld := ⟨.layer, 0x80, 16, 16⟩
def Reg.layer_FRAY_CFG_PIN_EN : Fld := ⟨.layer, 0x80, 1, 1⟩
def Reg.layer_FRAY_CFG_POLICY : Fld := ⟨.layer, 0x80, 4, 2⟩
def Reg.layer_FRAY_COLOUR_RGB : Fld := ⟨.layer, 0x84, 0, 30⟩
def Reg.layer_FRAY_COUNTS_HELD : Fld := ⟨.layer, 0x8C, 8, 8⟩
def Reg.layer_FRAY_COUNTS_REPEATED : Fld := ⟨.layer, 0x8C, 0, 8⟩
def Reg.layer_FRAY_COUNTS_STALE_ENTRIES : Fld := ⟨.layer, 0x8C, 24, 8⟩
def Reg.layer_FRAY_COUNTS_UNVERIFIED : Fld := ⟨.layer, 0x8C, 16, 8⟩
def Reg.layer_FRAY_STATUS_BADGE : Fld := ⟨.layer, 0x90, 1, 1⟩
def Reg.layer_FRAY_STATUS_HOLDING : Fld := ⟨.layer, 0x90, 2, 1⟩
def Reg.layer_FRAY_STATUS_STALE : Fld := ⟨.layer, 0x90, 0, 1⟩
def Reg.layer_M_HI : Fld := ⟨.layer, 0x54, 16, 12⟩
def Reg.layer_M_LO : Fld := ⟨.layer, 0x54, 0, 12⟩
def Reg.layer_OFF_OFFSET : Fld := ⟨.layer, 0x68, 0, 14⟩
def Reg.layer_SRC_POS_X : Fld := ⟨.layer, 0x44, 0, 16⟩
def Reg.layer_SRC_POS_Y : Fld := ⟨.layer, 0x44, 16, 16⟩
def Reg.layer_SRC_SIZE_H : Fld := ⟨.layer, 0x48, 16, 16⟩
def Reg.layer_SRC_SIZE_W : Fld := ⟨.layer, 0x48, 0, 16⟩
def Reg.layer_STATUS_CUR_DESC : Fld := ⟨.layer, 0xA0, 20, 12⟩
def Reg.layer_STATUS_OCCLUDED : Fld := ⟨.layer, 0xA0, 2, 1⟩
def Reg.layer_STATUS_VSCALE : Fld := ⟨.layer, 0xA0, 0, 2⟩
def Reg.lutm_EVENT_SRC_SLOT : Fld := ⟨.lutm, 0x5C, 16, 6⟩
def Reg.lutm_EVENT_SRC_STREAM : Fld := ⟨.lutm, 0x5C, 0, 6⟩
def Reg.lutm_LOAD_SRC_HI_ADDR : Fld := ⟨.lutm, 0x48, 0, 8⟩
def Reg.lutm_LOAD_SRC_LO_ADDR : Fld := ⟨.lutm, 0x44, 6, 26⟩
def Reg.lutm_LOAD_STATUS_BUSY : Fld := ⟨.lutm, 0x50, 31, 1⟩
def Reg.lutm_LOAD_STATUS_FAILED : Fld := ⟨.lutm, 0x50, 8, 1⟩
def Reg.lutm_LOAD_STATUS_SLOT : Fld := ⟨.lutm, 0x50, 0, 6⟩
def Reg.lutm_PARTITION_LARGE : Fld := ⟨.lutm, 0x40, 0, 8⟩
def Reg.lutm_VALID_HI_VALID : Fld := ⟨.lutm, 0x58, 0, 32⟩
def Reg.lutm_VALID_LO_VALID : Fld := ⟨.lutm, 0x54, 0, 32⟩
def Reg.memx_COUNTS_LINES_POISONED : Fld := ⟨.memx, 0x6C, 0, 24⟩
def Reg.memx_COUNTS_RELINES : Fld := ⟨.memx, 0x6C, 24, 8⟩
def Reg.memx_ERR_ADDR_HI_ADDR : Fld := ⟨.memx, 0x64, 0, 32⟩
def Reg.memx_ERR_ADDR_LO_ADDR : Fld := ⟨.memx, 0x60, 0, 32⟩
def Reg.memx_ERR_INFO_CLASS : Fld := ⟨.memx, 0x68, 8, 4⟩
def Reg.memx_ERR_INFO_ORIGIN : Fld := ⟨.memx, 0x68, 0, 4⟩
def Reg.memx_ERR_INFO_RANK : Fld := ⟨.memx, 0x68, 4, 4⟩
def Reg.memx_FREQ_CTRL : Fld := ⟨.memx, 0x48, 0, 32⟩
def Reg.memx_FREQ_CTRL_GUARD_US : Fld := ⟨.memx, 0x48, 16, 8⟩
def Reg.memx_FREQ_STATUS_ABORTS : Fld := ⟨.memx, 0x4C, 16, 16⟩
def Reg.memx_FREQ_STATUS_BUSY : Fld := ⟨.memx, 0x4C, 4, 1⟩
def Reg.memx_FREQ_STATUS_CURRENT : Fld := ⟨.memx, 0x4C, 0, 2⟩
def Reg.memx_FREQ_STATUS_RESULT : Fld := ⟨.memx, 0x4C, 5, 3⟩
def Reg.memx_MAP_LOG2_N : Fld := ⟨.memx, 0x40, 8, 2⟩
def Reg.memx_MAP_MASK : Fld := ⟨.memx, 0x40, 0, 8⟩
def Reg.memx_RANK_ROLE : Fld := ⟨.memx, 0x44, 0, 32⟩
def Reg.memx_RANK_ROLE_ROLE_0 : Fld := ⟨.memx, 0x44, 0, 2⟩
def Reg.memx_RELINE_CTRL : Fld := ⟨.memx, 0x58, 0, 32⟩
def Reg.memx_RELINE_CTRL_AUTO : Fld := ⟨.memx, 0x58, 4, 1⟩
def Reg.memx_RELINE_STATUS_DST : Fld := ⟨.memx, 0x5C, 26, 4⟩
def Reg.memx_RELINE_STATUS_SRC : Fld := ⟨.memx, 0x5C, 22, 4⟩
def Reg.memx_RELINE_STATUS_STATE : Fld := ⟨.memx, 0x5C, 30, 2⟩
def Reg.memx_RELINE_STATUS_WATERMARK : Fld := ⟨.memx, 0x5C, 0, 15⟩
def Reg.memx_SCRUB_CE_LIMIT : Fld := ⟨.memx, 0x54, 8, 8⟩
def Reg.memx_SCRUB_EN : Fld := ⟨.memx, 0x54, 16, 1⟩
def Reg.net_CFG_FEC : Fld := ⟨.net, 0x40, 1, 1⟩
def Reg.net_CFG_MTU : Fld := ⟨.net, 0x40, 16, 16⟩
def Reg.net_CFG_SPEED : Fld := ⟨.net, 0x40, 0, 1⟩
def Reg.net_COUNTS_RX_BAD : Fld := ⟨.net, 0x64, 16, 16⟩
def Reg.net_COUNTS_TX_DROP_LINK : Fld := ⟨.net, 0x64, 0, 16⟩
def Reg.net_IPV4_ADDR : Fld := ⟨.net, 0x4C, 0, 32⟩
def Reg.net_IPV6_ADDR : Fld := ⟨.net, 0x50, 0, 32⟩
def Reg.net_MAC_HI_ADDR : Fld := ⟨.net, 0x48, 0, 16⟩
def Reg.net_MAC_LO_ADDR : Fld := ⟨.net, 0x44, 0, 32⟩
def Reg.net_STATUS_FEC_LOCK : Fld := ⟨.net, 0x60, 1, 1⟩
def Reg.net_STATUS_LINK : Fld := ⟨.net, 0x60, 0, 1⟩
def Reg.net_STATUS_LINK_DOWNS : Fld := ⟨.net, 0x60, 8, 8⟩
def Reg.pace_ADMIT_CFG_GUARD : Fld := ⟨.pace, 0x48, 8, 5⟩
def Reg.pace_ADMIT_CFG_POLICY : Fld := ⟨.pace, 0x48, 0, 1⟩
def Reg.pace_ADMIT_CFG_WINDOW_MS : Fld := ⟨.pace, 0x48, 16, 16⟩
def Reg.pace_BENCH_CAP_CAP : Fld := ⟨.pace, 0x58, 0, 20⟩
def Reg.pace_BENCH_DEMAND_DEMAND : Fld := ⟨.pace, 0x5C, 0, 20⟩
def Reg.pace_EVENT_SRC_MONITOR : Fld := ⟨.pace, 0x54, 0, 5⟩
def Reg.pace_MODE_CURRENT : Fld := ⟨.pace, 0x40, 4, 2⟩
def Reg.pace_MODE_REQ : Fld := ⟨.pace, 0x40, 0, 2⟩
def Reg.pace_MODE_VID : Fld := ⟨.pace, 0x40, 12, 4⟩
def Reg.pace_MON_DEMAND_DEMAND : Fld := ⟨.pace, 0x108, 0, 16⟩
def Reg.pace_MON_LOAD_LOAD : Fld := ⟨.pace, 0x110, 0, 16⟩
def Reg.pace_MON_MARGIN_MARGIN : Fld := ⟨.pace, 0x10C, 0, 16⟩
def Reg.pace_MON_MIN_PACE : Fld := ⟨.pace, 0x104, 0, 16⟩
def Reg.pace_MON_NOW_PACE : Fld := ⟨.pace, 0x100, 0, 16⟩
def Reg.pace_SHED_CFG_RESTORE_MARGIN : Fld := ⟨.pace, 0x4C, 24, 5⟩
def Reg.pace_SHED_CFG_RESTORE_MS : Fld := ⟨.pace, 0x4C, 8, 16⟩
def Reg.pace_SHED_CFG_SHED_DELAY : Fld := ⟨.pace, 0x4C, 0, 8⟩
def Reg.pace_SHED_MAP_STATE_0 : Fld := ⟨.pace, 0x60, 0, 2⟩
def Reg.pace_SHED_RANK_RANK_0 : Fld := ⟨.pace, 0x70, 0, 4⟩
def Reg.pace_SHED_STATUS_ACTIVE : Fld := ⟨.pace, 0x50, 0, 1⟩
def Reg.pace_SHED_STATUS_LAST_STREAM : Fld := ⟨.pace, 0x50, 8, 8⟩
def Reg.pace_SHED_STATUS_LOWEST : Fld := ⟨.pace, 0x50, 1, 2⟩
def Reg.pace_SHED_STATUS_STEPS : Fld := ⟨.pace, 0x50, 16, 16⟩
def Reg.pkt_BUF_STATUS_ONCHIP_KIB : Fld := ⟨.pkt, 0x40, 0, 14⟩
def Reg.pkt_BUF_STATUS_SPILL_MIB : Fld := ⟨.pkt, 0x40, 16, 16⟩
def Reg.pkt_CLASS_CFG_DROP_MODE : Fld := ⟨.pkt, 0x50, 0, 1⟩
def Reg.pkt_CLASS_CFG_WEIGHT : Fld := ⟨.pkt, 0x50, 8, 8⟩
def Reg.pkt_CMD_CFG_MAX_PER_MS : Fld := ⟨.pkt, 0x74, 8, 8⟩
def Reg.pkt_CMD_CFG_PORTS : Fld := ⟨.pkt, 0x74, 0, 4⟩
def Reg.pkt_CMD_CFG_UDP_PORT : Fld := ⟨.pkt, 0x74, 16, 16⟩
def Reg.pkt_CMD_PREFIX_ADDR : Fld := ⟨.pkt, 0x78, 0, 32⟩
def Reg.pkt_CMD_PREFIX_LEN_LEN : Fld := ⟨.pkt, 0x7C, 0, 6⟩
def Reg.pkt_COUNTS_BUF_FULL : Fld := ⟨.pkt, 0x9C, 0, 8⟩
def Reg.pkt_COUNTS_CMD_BAD : Fld := ⟨.pkt, 0x9C, 24, 8⟩
def Reg.pkt_COUNTS_CMD_LIMITED : Fld := ⟨.pkt, 0x9C, 16, 8⟩
def Reg.pkt_COUNTS_EXC_LOST : Fld := ⟨.pkt, 0x9C, 8, 8⟩
def Reg.pkt_EVENT_SRC_FLOW : Fld := ⟨.pkt, 0xA0, 0, 7⟩
def Reg.pkt_EVENT_SRC_SESSION : Fld := ⟨.pkt, 0xA0, 16, 12⟩
def Reg.pkt_EXC_RX_HI_ADDR : Fld := ⟨.pkt, 0x84, 0, 8⟩
def Reg.pkt_EXC_RX_IDX_RD : Fld := ⟨.pkt, 0x94, 0, 12⟩
def Reg.pkt_EXC_RX_IDX_WR : Fld := ⟨.pkt, 0x94, 16, 12⟩
def Reg.pkt_EXC_RX_LO_ADDR : Fld := ⟨.pkt, 0x80, 12, 20⟩
def Reg.pkt_EXC_SLOTS_RX : Fld := ⟨.pkt, 0x90, 0, 12⟩
def Reg.pkt_EXC_SLOTS_TX : Fld := ⟨.pkt, 0x90, 16, 12⟩
def Reg.pkt_EXC_TX_HI_ADDR : Fld := ⟨.pkt, 0x8C, 0, 8⟩
def Reg.pkt_EXC_TX_IDX_RD : Fld := ⟨.pkt, 0x98, 16, 12⟩
def Reg.pkt_EXC_TX_IDX_WR : Fld := ⟨.pkt, 0x98, 0, 12⟩
def Reg.pkt_EXC_TX_LO_ADDR : Fld := ⟨.pkt, 0x88, 12, 20⟩
def Reg.pkt_F_CFG : Fld := ⟨.pkt, 0x1040, 0, 32⟩
def Reg.pkt_F_CFG_DOMAIN : Fld := ⟨.pkt, 0x1040, 8, 3⟩
def Reg.pkt_F_CFG_EN : Fld := ⟨.pkt, 0x1040, 31, 1⟩
def Reg.pkt_F_CFG_IPV6 : Fld := ⟨.pkt, 0x1040, 28, 1⟩
def Reg.pkt_F_CFG_PORT : Fld := ⟨.pkt, 0x1040, 24, 2⟩
def Reg.pkt_F_CFG_SRC_EN : Fld := ⟨.pkt, 0x1040, 29, 1⟩
def Reg.pkt_F_CFG_SSRC_EN : Fld := ⟨.pkt, 0x1040, 30, 1⟩
def Reg.pkt_F_CFG_TARGET : Fld := ⟨.pkt, 0x1040, 0, 7⟩
def Reg.pkt_F_CFG_TARGET_TYPE : Fld := ⟨.pkt, 0x1040, 26, 2⟩
def Reg.pkt_F_COUNTS_LATE_DUP : Fld := ⟨.pkt, 0x1064, 16, 8⟩
def Reg.pkt_F_COUNTS_LOST : Fld := ⟨.pkt, 0x1064, 24, 8⟩
def Reg.pkt_F_COUNTS_OVERFLOW : Fld := ⟨.pkt, 0x1064, 8, 8⟩
def Reg.pkt_F_COUNTS_RESYNC : Fld := ⟨.pkt, 0x1064, 0, 8⟩
def Reg.pkt_F_GROUP_VALUE : Fld := ⟨.pkt, 0x1048, 0, 32⟩
def Reg.pkt_F_JB_CFG_DELAY_US : Fld := ⟨.pkt, 0x105C, 16, 16⟩
def Reg.pkt_F_JB_CFG_SIZE_KIB : Fld := ⟨.pkt, 0x105C, 0, 16⟩
def Reg.pkt_F_SRC_VALUE : Fld := ⟨.pkt, 0x104C, 0, 32⟩
def Reg.pkt_F_SSRC_VALUE : Fld := ⟨.pkt, 0x1050, 0, 32⟩
def Reg.pkt_F_STATUS_NEXT_SEQ : Fld := ⟨.pkt, 0x1060, 16, 16⟩
def Reg.pkt_F_STATUS_QUEUED : Fld := ⟨.pkt, 0x1060, 0, 16⟩
def Reg.pkt_F_UDP_DST_PORT : Fld := ⟨.pkt, 0x1044, 0, 16⟩
def Reg.pkt_RTCP_CFG_SR_MS : Fld := ⟨.pkt, 0x70, 0, 16⟩
def Reg.pkt_SPILL_SIZE_MARK : Fld := ⟨.pkt, 0x4C, 24, 8⟩
def Reg.pkt_SPILL_SIZE_MIB : Fld := ⟨.pkt, 0x4C, 0, 16⟩
def Reg.sec_BOOT_COUNT_COUNT : Fld := ⟨.sec, 0x44, 0, 32⟩
def Reg.sec_BOOT_INFO_APP_SLOT : Fld := ⟨.sec, 0x40, 1, 1⟩
def Reg.sec_BOOT_INFO_CFG_SLOT : Fld := ⟨.sec, 0x40, 3, 1⟩
def Reg.sec_BOOT_INFO_DEBUG_LOCKED : Fld := ⟨.sec, 0x40, 7, 1⟩
def Reg.sec_BOOT_INFO_DEBUG_SCOPE : Fld := ⟨.sec, 0x40, 8, 4⟩
def Reg.sec_BOOT_INFO_MON_SLOT : Fld := ⟨.sec, 0x40, 0, 1⟩
def Reg.sec_BOOT_INFO_OWNER_ENROLLED : Fld := ⟨.sec, 0x40, 6, 1⟩
def Reg.sec_BOOT_INFO_SV_DEFAULTS : Fld := ⟨.sec, 0x40, 5, 1⟩
def Reg.sec_BOOT_INFO_SV_SLOT : Fld := ⟨.sec, 0x40, 2, 1⟩
def Reg.sec_BOOT_INFO_TRIAL : Fld := ⟨.sec, 0x40, 4, 1⟩
def Reg.sec_EVENT_SRC_CLASS : Fld := ⟨.sec, 0x88, 4, 4⟩
def Reg.sec_EVENT_SRC_ORIGIN : Fld := ⟨.sec, 0x88, 0, 4⟩
def Reg.sec_HANDOVER_PHASE : Fld := ⟨.sec, 0x64, 0, 2⟩
def Reg.sec_HANDOVER_TIMEOUT_MS : Fld := ⟨.sec, 0x64, 16, 16⟩
def Reg.sec_IMAGE_PREFERRED : Fld := ⟨.sec, 0x70, 4, 1⟩
def Reg.sec_IMAGE_STATE_A : Fld := ⟨.sec, 0x70, 0, 2⟩
def Reg.sec_IMAGE_STATE_B : Fld := ⟨.sec, 0x70, 2, 2⟩
def Reg.sec_IMAGE_SVN_A : Fld := ⟨.sec, 0x70, 16, 8⟩
def Reg.sec_IMAGE_SVN_B : Fld := ⟨.sec, 0x70, 24, 8⟩
def Reg.sec_PROFILE_VALID_LUT_BUNDLE : Fld := ⟨.sec, 0x68, 16, 8⟩
def Reg.sec_PROFILE_VALID_PROFILE : Fld := ⟨.sec, 0x68, 0, 16⟩
def Reg.sec_ROLLBACK0_COUNT_0 : Fld := ⟨.sec, 0x48, 0, 8⟩
def Reg.sec_ROLLBACK1_COUNT_0 : Fld := ⟨.sec, 0x4C, 0, 8⟩
def Reg.session_S_BUCKET : Fld := ⟨.session, 0x70, 0, 32⟩
def Reg.session_S_BUCKET_BYTES : Fld := ⟨.session, 0x70, 0, 16⟩
def Reg.session_S_BUCKET_QUEUE_KIB : Fld := ⟨.session, 0x70, 16, 16⟩
def Reg.session_S_CFG : Fld := ⟨.session, 0x40, 0, 32⟩
def Reg.session_S_CFG_CLASS : Fld := ⟨.session, 0x40, 5, 3⟩
def Reg.session_S_CFG_EN : Fld := ⟨.session, 0x40, 0, 1⟩
def Reg.session_S_CFG_IPV6 : Fld := ⟨.session, 0x40, 1, 1⟩
def Reg.session_S_CFG_PORT : Fld := ⟨.session, 0x40, 8, 2⟩
def Reg.session_S_CFG_SRC : Fld := ⟨.session, 0x40, 12, 7⟩
def Reg.session_S_CFG_SRC_TYPE : Fld := ⟨.session, 0x40, 10, 2⟩
def Reg.session_S_CFG_STAMP : Fld := ⟨.session, 0x40, 4, 1⟩
def Reg.session_S_CFG_VLAN : Fld := ⟨.session, 0x40, 2, 1⟩
def Reg.session_S_CFG_WAIT_KEY : Fld := ⟨.session, 0x40, 3, 1⟩
def Reg.session_S_COUNTS_DROP_BUF : Fld := ⟨.session, 0x78, 8, 8⟩
def Reg.session_S_COUNTS_DROP_QUEUE : Fld := ⟨.session, 0x78, 0, 8⟩
def Reg.session_S_COUNTS_SENT : Fld := ⟨.session, 0x78, 16, 16⟩
def Reg.session_S_DST_IP_ADDR : Fld := ⟨.session, 0x4C, 0, 32⟩
def Reg.session_S_DST_MAC_HI : Fld := ⟨.session, 0x48, 0, 32⟩
def Reg.session_S_DST_MAC_HI_PCP : Fld := ⟨.session, 0x48, 28, 3⟩
def Reg.session_S_DST_MAC_HI_VID : Fld := ⟨.session, 0x48, 16, 12⟩
def Reg.session_S_DST_MAC_LO_ADDR : Fld := ⟨.session, 0x44, 0, 32⟩
def Reg.session_S_RATE_KBPS : Fld := ⟨.session, 0x6C, 0, 32⟩
def Reg.session_S_RTP_DSCP : Fld := ⟨.session, 0x60, 24, 6⟩
def Reg.session_S_RTP_EXT_ID : Fld := ⟨.session, 0x60, 8, 8⟩
def Reg.session_S_RTP_PT : Fld := ⟨.session, 0x60, 16, 7⟩
def Reg.session_S_RTP_TTL : Fld := ⟨.session, 0x60, 0, 8⟩
def Reg.session_S_SSRC_VALUE : Fld := ⟨.session, 0x64, 0, 32⟩
def Reg.session_S_STATUS_SEQ : Fld := ⟨.session, 0x74, 0, 16⟩
def Reg.session_S_STATUS_SEQ_INIT : Fld := ⟨.session, 0x74, 16, 16⟩
def Reg.session_S_TS_OFFSET_VALUE : Fld := ⟨.session, 0x68, 0, 32⟩
def Reg.session_S_UDP_DST_PORT : Fld := ⟨.session, 0x5C, 16, 16⟩
def Reg.session_S_UDP_SRC_PORT : Fld := ⟨.session, 0x5C, 0, 16⟩
def Reg.shut_BENCH_STATUS_NEXT_STREAM : Fld := ⟨.shut, 0x50, 8, 6⟩
def Reg.shut_BENCH_STATUS_NEXT_VALID : Fld := ⟨.shut, 0x50, 15, 1⟩
def Reg.shut_BENCH_STATUS_PIN_STREAM : Fld := ⟨.shut, 0x50, 16, 6⟩
def Reg.shut_BENCH_STATUS_PIN_VALID : Fld := ⟨.shut, 0x50, 23, 1⟩
def Reg.shut_BENCH_STATUS_RUN_STREAM : Fld := ⟨.shut, 0x50, 0, 6⟩
def Reg.shut_BENCH_STATUS_RUN_VALID : Fld := ⟨.shut, 0x50, 7, 1⟩
def Reg.shut_BENCH_STATUS_STATE : Fld := ⟨.shut, 0x50, 24, 2⟩
def Reg.shut_EVENT_SRC_STREAM : Fld := ⟨.shut, 0x68, 0, 6⟩
def Reg.shut_SPILL_SIZE_KIB : Fld := ⟨.shut, 0x48, 0, 16⟩
def Reg.shut_STAGE_STATUS_ONCHIP_KIB : Fld := ⟨.shut, 0x6C, 0, 12⟩
def Reg.shut_STORE_SPILLED : Fld := ⟨.shut, 0x4C, 16, 6⟩
def Reg.shut_STORE_USED_KIB : Fld := ⟨.shut, 0x4C, 0, 13⟩
def Reg.strm_ADMIT_GEOM_HEIGHT : Fld := ⟨.strm, 0x44, 16, 16⟩
def Reg.strm_ADMIT_GEOM_WIDTH : Fld := ⟨.strm, 0x44, 0, 16⟩
def Reg.strm_ADMIT_RATE_EXPOSURES : Fld := ⟨.strm, 0x48, 24, 2⟩
def Reg.strm_ADMIT_RATE_FPS_MHZ : Fld := ⟨.strm, 0x48, 0, 20⟩
def Reg.strm_AUTO_DARK_DARK : Fld := ⟨.strm, 0x204C, 0, 20⟩
def Reg.strm_AUTO_GRID_DEFAULT_CLASS : Fld := ⟨.strm, 0x2048, 28, 4⟩
def Reg.strm_AUTO_GRID_EDGE_TOL : Fld := ⟨.strm, 0x2048, 8, 8⟩
def Reg.strm_AUTO_GRID_MIN_VALID : Fld := ⟨.strm, 0x2048, 16, 8⟩
def Reg.strm_AUTO_GRID_TAU : Fld := ⟨.strm, 0x2048, 0, 8⟩
def Reg.strm_BLACK_LEVEL : Fld := ⟨.strm, 0x1044, 0, 20⟩
def Reg.strm_CAM_M4_LO : Fld := ⟨.strm, 0x2088, 0, 16⟩
def Reg.strm_CAM_M_HI : Fld := ⟨.strm, 0x2078, 16, 16⟩
def Reg.strm_CAM_M_LO : Fld := ⟨.strm, 0x2078, 0, 16⟩
def Reg.strm_CAM_OFF_OFFSET : Fld := ⟨.strm, 0x208C, 0, 20⟩
def Reg.strm_COLOUR_CFG_GRID_MODE : Fld := ⟨.strm, 0x2040, 0, 2⟩
def Reg.strm_COLOUR_CFG_HILITE : Fld := ⟨.strm, 0x2040, 2, 1⟩
def Reg.strm_COLOUR_CFG_INPUT_EOTF : Fld := ⟨.strm, 0x2040, 8, 2⟩
def Reg.strm_COLOUR_CFG_LOCAL_EN : Fld := ⟨.strm, 0x2040, 4, 1⟩
def Reg.strm_COLOUR_CFG_LUT_EN : Fld := ⟨.strm, 0x2040, 5, 1⟩
def Reg.strm_COLOUR_CFG_LUT_SHAPER : Fld := ⟨.strm, 0x2040, 6, 1⟩
def Reg.strm_COLOUR_CFG_LUT_SLOT : Fld := ⟨.strm, 0x2040, 24, 6⟩
def Reg.strm_COLOUR_CFG_TNR_EN : Fld := ⟨.strm, 0x2040, 7, 1⟩
def Reg.strm_COLOUR_CFG_TONE_EN : Fld := ⟨.strm, 0x2040, 3, 1⟩
def Reg.strm_COLOUR_STATUS_GRID_ACTIVE : Fld := ⟨.strm, 0x209C, 0, 2⟩
def Reg.strm_COLOUR_STATUS_STALE : Fld := ⟨.strm, 0x209C, 16, 16⟩
def Reg.strm_COLOUR_STATUS_TNR_VALID : Fld := ⟨.strm, 0x209C, 2, 1⟩
def Reg.strm_CTX_STATUS_KIB : Fld := ⟨.strm, 0x5C, 0, 12⟩
def Reg.strm_CTX_STATUS_OVH : Fld := ⟨.strm, 0x5C, 16, 5⟩
def Reg.strm_CTX_STATUS_OVH_MEAS : Fld := ⟨.strm, 0x5C, 22, 10⟩
def Reg.strm_CTX_STATUS_PLACE : Fld := ⟨.strm, 0x5C, 14, 2⟩
def Reg.strm_DCG_RATIO_RATIO : Fld := ⟨.strm, 0x1088, 0, 32⟩
def Reg.strm_DEFECT_DYN_OFFSET : Fld := ⟨.strm, 0x108C, 0, 20⟩
def Reg.strm_DEFECT_DYN_T : Fld := ⟨.strm, 0x108C, 24, 8⟩
def Reg.strm_DEMAND_DEMAND : Fld := ⟨.strm, 0x60, 0, 20⟩
def Reg.strm_DEMOSAIC_EDGE_T : Fld := ⟨.strm, 0x109C, 0, 8⟩
def Reg.strm_FRAME_NO_FRAME_NO : Fld := ⟨.strm, 0x64, 0, 32⟩
def Reg.strm_GRID_FIXED_BLEND : Fld := ⟨.strm, 0x2044, 0, 13⟩
def Reg.strm_GRID_FROM_FRAME_NO : Fld := ⟨.strm, 0x20A0, 0, 32⟩
def Reg.strm_HDR_FLOOR_FLOOR : Fld := ⟨.strm, 0x1084, 0, 20⟩
def Reg.strm_HDR_MERGE_KNEE : Fld := ⟨.strm, 0x1080, 16, 16⟩
def Reg.strm_HDR_MERGE_MOTION_THR : Fld := ⟨.strm, 0x1080, 0, 16⟩
def Reg.strm_NOISE_A_A : Fld := ⟨.strm, 0x1090, 0, 20⟩
def Reg.strm_NOISE_B_B : Fld := ⟨.strm, 0x1094, 0, 20⟩
def Reg.strm_NR_CTRL_K : Fld := ⟨.strm, 0x1098, 16, 8⟩
def Reg.strm_NR_CTRL_STRENGTH : Fld := ⟨.strm, 0x1098, 0, 9⟩
def Reg.strm_RAW_CFG_CFA : Fld := ⟨.strm, 0x1040, 0, 3⟩
def Reg.strm_RAW_CFG_DCG : Fld := ⟨.strm, 0x1040, 8, 1⟩
def Reg.strm_RAW_CFG_DYN_EN : Fld := ⟨.strm, 0x1040, 4, 1⟩
def Reg.strm_RAW_CFG_MOTION_EN : Fld := ⟨.strm, 0x1040, 7, 1⟩
def Reg.strm_RAW_CFG_NR_EN : Fld := ⟨.strm, 0x1040, 5, 1⟩
def Reg.strm_RAW_CFG_PROFILE : Fld := ⟨.strm, 0x1040, 28, 4⟩
def Reg.strm_RAW_CFG_SHADE_EN : Fld := ⟨.strm, 0x1040, 6, 1⟩
def Reg.strm_RAW_CFG_STATIC_EN : Fld := ⟨.strm, 0x1040, 3, 1⟩
def Reg.strm_RAW_STATUS2_HDR_PARTIAL : Fld := ⟨.strm, 0x10AC, 0, 1⟩
def Reg.strm_RAW_STATUS2_RATIO_CLAMPED : Fld := ⟨.strm, 0x10AC, 1, 1⟩
def Reg.strm_RAW_STATUS2_SHADE_VALID : Fld := ⟨.strm, 0x10AC, 2, 1⟩
def Reg.strm_RAW_STATUS2_UNRESOLVED : Fld := ⟨.strm, 0x10AC, 16, 16⟩
def Reg.strm_RAW_STATUS_DYN_COUNT : Fld := ⟨.strm, 0x10A8, 16, 16⟩
def Reg.strm_RAW_STATUS_MISSING_ROWS : Fld := ⟨.strm, 0x10A8, 0, 16⟩
def Reg.strm_RULE_CFG_DIR : Fld := ⟨.strm, 0x4100, 26, 1⟩
def Reg.strm_RULE_CFG_EN : Fld := ⟨.strm, 0x4100, 31, 1⟩
def Reg.strm_RULE_CFG_METRIC : Fld := ⟨.strm, 0x4100, 24, 2⟩
def Reg.strm_RULE_CFG_PIN : Fld := ⟨.strm, 0x4100, 28, 3⟩
def Reg.strm_RULE_CFG_PIN_EN : Fld := ⟨.strm, 0x4100, 27, 1⟩
def Reg.strm_RULE_LEVEL_HYST : Fld := ⟨.strm, 0x4108, 16, 16⟩
def Reg.strm_RULE_LEVEL_THRESH : Fld := ⟨.strm, 0x4108, 0, 16⟩
def Reg.strm_RULE_REGION_I0 : Fld := ⟨.strm, 0x4104, 0, 6⟩
def Reg.strm_RULE_REGION_I1 : Fld := ⟨.strm, 0x4104, 8, 6⟩
def Reg.strm_RULE_REGION_J0 : Fld := ⟨.strm, 0x4104, 16, 6⟩
def Reg.strm_RULE_REGION_J1 : Fld := ⟨.strm, 0x4104, 24, 6⟩
def Reg.strm_RULE_STATE_CHANGED : Fld := ⟨.strm, 0x4064, 16, 16⟩
def Reg.strm_RULE_STATE_STATE : Fld := ⟨.strm, 0x4064, 0, 16⟩
def Reg.strm_SCHED_AFFINITY : Fld := ⟨.strm, 0x40, 2, 1⟩
def Reg.strm_SCHED_BENCH : Fld := ⟨.strm, 0x40, 4, 3⟩
def Reg.strm_SCHED_CLASS : Fld := ⟨.strm, 0x40, 0, 2⟩
def Reg.strm_SCHED_COUNTS_DROPPED : Fld := ⟨.strm, 0x68, 16, 8⟩
def Reg.strm_SCHED_COUNTS_EXPOSED : Fld := ⟨.strm, 0x68, 0, 8⟩
def Reg.strm_SCHED_COUNTS_LATE : Fld := ⟨.strm, 0x68, 24, 8⟩
def Reg.strm_SCHED_COUNTS_OVERFLOW : Fld := ⟨.strm, 0x68, 8, 8⟩
def Reg.strm_SCHED_OVH_MIN : Fld := ⟨.strm, 0x40, 16, 5⟩
def Reg.strm_SCHED_STAGE_ZRAW : Fld := ⟨.strm, 0x40, 24, 1⟩
def Reg.strm_SCHED_STRIPE_ROWS : Fld := ⟨.strm, 0x40, 8, 8⟩
def Reg.strm_SHADE_ADDR_HI_ADDR : Fld := ⟨.strm, 0x10A4, 0, 8⟩
def Reg.strm_SHADE_ADDR_LO_ADDR : Fld := ⟨.strm, 0x10A0, 6, 26⟩
def Reg.strm_SLACK_SLACK_US : Fld := ⟨.strm, 0x4C, 0, 20⟩
def Reg.strm_STAGE_ADDR_HI_ADDR : Fld := ⟨.strm, 0x54, 0, 8⟩
def Reg.strm_STAGE_ADDR_LO_ADDR : Fld := ⟨.strm, 0x50, 12, 20⟩
def Reg.strm_STAGE_ROWS_ROWS : Fld := ⟨.strm, 0x58, 0, 14⟩
def Reg.strm_STAT_CFG_EN : Fld := ⟨.strm, 0x4040, 0, 1⟩
def Reg.strm_STAT_CFG_LOG_MIN : Fld := ⟨.strm, 0x4040, 16, 8⟩
def Reg.strm_STAT_CFG_META_KIB : Fld := ⟨.strm, 0x4040, 24, 5⟩
def Reg.strm_STAT_CFG_ROW_GROUP : Fld := ⟨.strm, 0x4040, 1, 2⟩
def Reg.strm_STAT_COUNTS_LOST : Fld := ⟨.strm, 0x4060, 0, 16⟩
def Reg.strm_STAT_COUNTS_META_TRUNC : Fld := ⟨.strm, 0x4060, 24, 8⟩
def Reg.strm_STAT_RING_HI_ADDR : Fld := ⟨.strm, 0x4050, 0, 8⟩
def Reg.strm_STAT_RING_LO_ADDR : Fld := ⟨.strm, 0x404C, 12, 20⟩
def Reg.strm_STAT_RING_RD_INDEX : Fld := ⟨.strm, 0x405C, 0, 10⟩
def Reg.strm_STAT_RING_SLOTS_SLOTS : Fld := ⟨.strm, 0x4054, 0, 11⟩
def Reg.strm_STAT_RING_SLOTS_SLOT_KIB : Fld := ⟨.strm, 0x4054, 16, 12⟩
def Reg.strm_STAT_RING_WR_INDEX : Fld := ⟨.strm, 0x4058, 0, 10⟩
def Reg.strm_STAT_WIN_POS_X0 : Fld := ⟨.strm, 0x4044, 0, 16⟩
def Reg.strm_STAT_WIN_POS_Y0 : Fld := ⟨.strm, 0x4044, 16, 16⟩
def Reg.strm_STAT_WIN_SIZE_H : Fld := ⟨.strm, 0x4048, 16, 16⟩
def Reg.strm_STAT_WIN_SIZE_W : Fld := ⟨.strm, 0x4048, 0, 16⟩
def Reg.strm_TAP_COEF_HI_ADDR : Fld := ⟨.strm, 0x3054, 0, 8⟩
def Reg.strm_TAP_COEF_LO_ADDR : Fld := ⟨.strm, 0x3050, 6, 26⟩
def Reg.strm_TAP_CROP_POS_X0 : Fld := ⟨.strm, 0x3044, 0, 16⟩
def Reg.strm_TAP_CROP_POS_Y0 : Fld := ⟨.strm, 0x3044, 16, 16⟩
def Reg.strm_TAP_CROP_SIZE_H : Fld := ⟨.strm, 0x3048, 16, 16⟩
def Reg.strm_TAP_CROP_SIZE_W : Fld := ⟨.strm, 0x3048, 0, 16⟩
def Reg.strm_TAP_CTRL_COEF_SRC : Fld := ⟨.strm, 0x3040, 1, 1⟩
def Reg.strm_TAP_CTRL_DECIM : Fld := ⟨.strm, 0x3040, 20, 4⟩
def Reg.strm_TAP_CTRL_DEST : Fld := ⟨.strm, 0x3040, 4, 2⟩
def Reg.strm_TAP_CTRL_EN : Fld := ⟨.strm, 0x3040, 0, 1⟩
def Reg.strm_TAP_CTRL_EXP : Fld := ⟨.strm, 0x3040, 8, 2⟩
def Reg.strm_TAP_CTRL_FORMAT : Fld := ⟨.strm, 0x3040, 12, 4⟩
def Reg.strm_TAP_CTRL_PHASE : Fld := ⟨.strm, 0x3040, 16, 4⟩
def Reg.strm_TAP_CTRL_RANGE : Fld := ⟨.strm, 0x3040, 11, 1⟩
def Reg.strm_TAP_CTRL_REC : Fld := ⟨.strm, 0x3040, 10, 1⟩
def Reg.strm_TAP_CTRL_TARGET : Fld := ⟨.strm, 0x3040, 24, 7⟩
def Reg.strm_TAP_ENC_ENCODING : Fld := ⟨.strm, 0x2114, 0, 3⟩
def Reg.strm_TAP_ENC_LUT1D_EN : Fld := ⟨.strm, 0x2114, 8, 1⟩
def Reg.strm_TAP_LUT_HI_ADDR : Fld := ⟨.strm, 0x2120, 0, 8⟩
def Reg.strm_TAP_LUT_LO_ADDR : Fld := ⟨.strm, 0x211C, 6, 26⟩
def Reg.strm_TAP_M4_LO : Fld := ⟨.strm, 0x2110, 0, 16⟩
def Reg.strm_TAP_MISC_ALPHA : Fld := ⟨.strm, 0x3058, 0, 8⟩
def Reg.strm_TAP_M_HI : Fld := ⟨.strm, 0x2100, 16, 16⟩
def Reg.strm_TAP_M_LO : Fld := ⟨.strm, 0x2100, 0, 16⟩
def Reg.strm_TAP_OUT_SIZE_HOUT : Fld := ⟨.strm, 0x304C, 16, 16⟩
def Reg.strm_TAP_OUT_SIZE_WOUT : Fld := ⟨.strm, 0x304C, 0, 16⟩
def Reg.strm_TAP_SCALE_ENC_SCALE : Fld := ⟨.strm, 0x2118, 0, 20⟩
def Reg.strm_TAP_STATUS_FRAMES : Fld := ⟨.strm, 0x305C, 16, 16⟩
def Reg.strm_TAP_STATUS_MISMATCH : Fld := ⟨.strm, 0x305C, 0, 8⟩
def Reg.strm_TAP_STATUS_NO_BUFFER : Fld := ⟨.strm, 0x305C, 8, 8⟩
def Reg.strm_TBL_ADDR_HI_ADDR : Fld := ⟨.strm, 0x2054, 0, 8⟩
def Reg.strm_TBL_ADDR_LO_ADDR : Fld := ⟨.strm, 0x2050, 6, 26⟩
def Reg.strm_TNR_CFG_DEPTH : Fld := ⟨.strm, 0x2098, 0, 1⟩
def Reg.strm_TNR_CFG_STRENGTH : Fld := ⟨.strm, 0x2098, 16, 9⟩
def Reg.strm_TNR_CFG_THR : Fld := ⟨.strm, 0x2098, 8, 8⟩
def Reg.strm_WHITE_LEVEL : Fld := ⟨.strm, 0x1074, 0, 20⟩
def Reg.sup_COUNTS_MISSES : Fld := ⟨.sup, 0x58, 24, 8⟩
def Reg.sup_COUNTS_SV_ENGAGES : Fld := ⟨.sup, 0x58, 8, 8⟩
def Reg.sup_COUNTS_TRIPS : Fld := ⟨.sup, 0x58, 0, 8⟩
def Reg.sup_COUNTS_WARM_RESETS : Fld := ⟨.sup, 0x58, 16, 8⟩
def Reg.sup_HB_CFG_INTERVAL_MS : Fld := ⟨.sup, 0x40, 0, 8⟩
def Reg.sup_HEARTBEAT_SEQ : Fld := ⟨.sup, 0x44, 0, 8⟩
def Reg.sup_RESET_CAUSE_LAST : Fld := ⟨.sup, 0x54, 0, 3⟩
def Reg.sup_RESET_CAUSE_WAS_HELD : Fld := ⟨.sup, 0x54, 8, 1⟩
def Reg.sup_STATUS : Fld := ⟨.sup, 0x4C, 0, 32⟩
def Reg.sup_STATUS_FAULT : Fld := ⟨.sup, 0x4C, 0, 1⟩
def Reg.sup_STATUS_MISSES : Fld := ⟨.sup, 0x4C, 4, 2⟩
def Reg.sup_STATUS_RECOVERY : Fld := ⟨.sup, 0x4C, 3, 1⟩
def Reg.sup_STATUS_REQ_PIN : Fld := ⟨.sup, 0x4C, 2, 1⟩
def Reg.sup_STATUS_SAFEVIEW : Fld := ⟨.sup, 0x4C, 1, 1⟩
def Reg.sup_SV_CAUSE : Fld := ⟨.sup, 0x50, 0, 32⟩
def Reg.sup_SV_CAUSE_DRAM : Fld := ⟨.sup, 0x50, 2, 1⟩
def Reg.sup_SV_CAUSE_HEARTBEAT : Fld := ⟨.sup, 0x50, 0, 1⟩
def Reg.sup_SV_CAUSE_HELD : Fld := ⟨.sup, 0x50, 1, 1⟩
def Reg.sup_SV_CAUSE_REQUEST : Fld := ⟨.sup, 0x50, 3, 1⟩
def Reg.sup_SV_CAUSE_THERMAL : Fld := ⟨.sup, 0x50, 4, 1⟩
def Reg.sup_THERMAL_HOTTEST : Fld := ⟨.sup, 0x5C, 20, 4⟩
def Reg.sup_THERMAL_MAX : Fld := ⟨.sup, 0x5C, 0, 16⟩
def Reg.sup_THERMAL_PEAK : Fld := ⟨.sup, 0x5C, 24, 8⟩
def Reg.sup_THERMAL_WARN : Fld := ⟨.sup, 0x5C, 16, 1⟩
def Reg.svb_COUNTS_ENGAGES : Fld := ⟨.svb, 0x54, 0, 8⟩
def Reg.svb_COUNTS_LINK_LOSS : Fld := ⟨.svb, 0x54, 16, 8⟩
def Reg.svb_COUNTS_STALE_ENTRIES : Fld := ⟨.svb, 0x54, 8, 8⟩
def Reg.svb_COUNTS_TRAIN_FAIL : Fld := ⟨.svb, 0x54, 24, 8⟩
def Reg.svb_QUAD_AGE_AGE_MS : Fld := ⟨.svb, 0x44, 0, 16⟩
def Reg.svb_QUAD_AGE_FRAMES : Fld := ⟨.svb, 0x44, 16, 16⟩
def Reg.svb_STATUS_LANES : Fld := ⟨.svb, 0x40, 8, 3⟩
def Reg.svb_STATUS_PORT : Fld := ⟨.svb, 0x40, 16, 3⟩
def Reg.svb_STATUS_QUAD_ACTIVE : Fld := ⟨.svb, 0x40, 24, 4⟩
def Reg.svb_STATUS_QUAD_STALE : Fld := ⟨.svb, 0x40, 28, 4⟩
def Reg.svb_STATUS_RATE : Fld := ⟨.svb, 0x40, 12, 4⟩
def Reg.svb_STATUS_RECORD_SRC : Fld := ⟨.svb, 0x40, 0, 2⟩
def Reg.thm_EVENT_SRC_THIMBLE : Fld := ⟨.thm, 0x44, 0, 8⟩
def Reg.thm_STATUS_CONTENDED : Fld := ⟨.thm, 0x40, 16, 16⟩
def Reg.thm_STATUS_HELD : Fld := ⟨.thm, 0x40, 0, 9⟩
def Reg.thm_THM_GEN : Fld := ⟨.thm, 0x100, 8, 8⟩
def Reg.thm_THM_HOLD_MS : Fld := ⟨.thm, 0x100, 16, 16⟩
def Reg.thm_THM_LAPSED : Fld := ⟨.thm, 0x100, 3, 3⟩
def Reg.thm_THM_OWNER : Fld := ⟨.thm, 0x100, 0, 3⟩
def Reg.time_CFG_DELAY_MECH : Fld := ⟨.time, 0x40, 3, 1⟩
def Reg.time_CFG_PORT : Fld := ⟨.time, 0x40, 6, 2⟩
def Reg.time_CFG_PTP_DOMAIN : Fld := ⟨.time, 0x40, 8, 8⟩
def Reg.time_CFG_ROLE : Fld := ⟨.time, 0x40, 2, 1⟩
def Reg.time_CFG_TRANSPORT : Fld := ⟨.time, 0x40, 4, 2⟩
def Reg.time_CFG_XCHECK : Fld := ⟨.time, 0x40, 28, 3⟩
def Reg.time_CFG_XC_EN : Fld := ⟨.time, 0x40, 27, 1⟩
def Reg.time_COUNTS_LOSS_HOLDOVERS : Fld := ⟨.time, 0xA8, 0, 8⟩
def Reg.time_COUNTS_PATH_HOLDS : Fld := ⟨.time, 0xA8, 8, 8⟩
def Reg.time_COUNTS_RX_LOST : Fld := ⟨.time, 0xA8, 24, 8⟩
def Reg.time_COUNTS_TX_BAD : Fld := ⟨.time, 0xA8, 16, 8⟩
def Reg.time_MEAS_MPD_NS : Fld := ⟨.time, 0x80, 0, 32⟩
def Reg.time_MEAS_OFFSET_NS : Fld := ⟨.time, 0x84, 0, 32⟩
def Reg.time_PATH_CFG_HOLD_S : Fld := ⟨.time, 0x44, 16, 8⟩
def Reg.time_PATH_CFG_LOSS_INTERVALS : Fld := ⟨.time, 0x44, 24, 8⟩
def Reg.time_PATH_CFG_PATH_THR_NS : Fld := ⟨.time, 0x44, 0, 16⟩
def Reg.time_PPS_IN_NS_VALUE : Fld := ⟨.time, 0x90, 0, 32⟩
def Reg.time_PPS_IN_SEC_VALUE : Fld := ⟨.time, 0x8C, 0, 32⟩
def Reg.time_RATE_HI_RATE : Fld := ⟨.time, 0x4C, 0, 8⟩
def Reg.time_RATE_LO_RATE : Fld := ⟨.time, 0x48, 0, 32⟩
def Reg.time_RING_HI_ADDR : Fld := ⟨.time, 0x98, 0, 8⟩
def Reg.time_RING_LO_ADDR : Fld := ⟨.time, 0x94, 12, 20⟩
def Reg.time_RING_SLOTS_RX : Fld := ⟨.time, 0x9C, 0, 12⟩
def Reg.time_RING_SLOTS_TX : Fld := ⟨.time, 0x9C, 16, 12⟩
def Reg.time_RX_IDX_RD : Fld := ⟨.time, 0xA0, 0, 12⟩
def Reg.time_RX_IDX_WR : Fld := ⟨.time, 0xA0, 16, 12⟩
def Reg.time_SLEW_LEFT_NS : Fld := ⟨.time, 0x7C, 0, 32⟩
def Reg.time_SLEW_NS : Fld := ⟨.time, 0x50, 0, 32⟩
def Reg.time_SLEW_RATE_NS_PER_S : Fld := ⟨.time, 0x54, 0, 14⟩
def Reg.time_SNAP_FRAC_VALUE : Fld := ⟨.time, 0x74, 0, 16⟩
def Reg.time_SNAP_NS_VALUE : Fld := ⟨.time, 0x70, 0, 32⟩
def Reg.time_SNAP_SEC_HI_VALUE : Fld := ⟨.time, 0x6C, 0, 16⟩
def Reg.time_SNAP_SEC_LO_VALUE : Fld := ⟨.time, 0x68, 0, 32⟩
def Reg.time_STATUS_ASYM : Fld := ⟨.time, 0x78, 0, 1⟩
def Reg.time_STATUS_HOLD_LEFT_S : Fld := ⟨.time, 0x78, 24, 8⟩
def Reg.time_STATUS_SLEWING : Fld := ⟨.time, 0x78, 1, 1⟩
def Reg.time_STATUS_STEPPED : Fld := ⟨.time, 0x78, 2, 1⟩
def Reg.time_STEP_NS_NS : Fld := ⟨.time, 0x60, 0, 32⟩
def Reg.time_STEP_SEC_HI_SEC : Fld := ⟨.time, 0x5C, 0, 16⟩
def Reg.time_STEP_SEC_LO_SEC : Fld := ⟨.time, 0x58, 0, 32⟩
def Reg.time_TX_IDX_RD : Fld := ⟨.time, 0xA4, 16, 12⟩
def Reg.time_TX_IDX_WR : Fld := ⟨.time, 0xA4, 0, 12⟩
def Reg.time_XCHECK_DIFF_NS : Fld := ⟨.time, 0x88, 0, 32⟩
def Reg.timel_IO_CFG_PPS_EN : Fld := ⟨.timel, 0xB0, 7, 1⟩
def Reg.timel_IO_CFG_PPS_WIDTH_MS : Fld := ⟨.timel, 0xB0, 24, 8⟩
def Reg.timel_PPS_IN_NS_VALUE : Fld := ⟨.timel, 0x90, 0, 32⟩
def Reg.timel_PPS_IN_SEC_VALUE : Fld := ⟨.timel, 0x8C, 0, 32⟩
def Reg.timel_SNAP_FRAC_VALUE : Fld := ⟨.timel, 0x74, 0, 16⟩
def Reg.timel_SNAP_NS_VALUE : Fld := ⟨.timel, 0x70, 0, 32⟩
def Reg.timel_SNAP_SEC_HI_VALUE : Fld := ⟨.timel, 0x6C, 0, 16⟩
def Reg.timel_SNAP_SEC_LO_VALUE : Fld := ⟨.timel, 0x68, 0, 32⟩
def Reg.timel_UNMATCHED_COUNT : Fld := ⟨.timel, 0xB4, 0, 16⟩
def Reg.zraw_BYTES_IN_KIB : Fld := ⟨.zraw, 0x70, 0, 32⟩
def Reg.zraw_BYTES_OUT_KIB : Fld := ⟨.zraw, 0x74, 0, 32⟩
def Reg.zraw_CFG_JOB_EN : Fld := ⟨.zraw, 0x40, 1, 1⟩
def Reg.zraw_CFG_NEAR : Fld := ⟨.zraw, 0x40, 2, 2⟩
def Reg.zraw_CFG_STAGE : Fld := ⟨.zraw, 0x40, 0, 1⟩
def Reg.zraw_COUNTS_DECODE_ERR : Fld := ⟨.zraw, 0x6C, 16, 8⟩
def Reg.zraw_COUNTS_NO_GAIN : Fld := ⟨.zraw, 0x6C, 8, 8⟩
def Reg.zraw_COUNTS_SEG_LOST : Fld := ⟨.zraw, 0x6C, 24, 8⟩
def Reg.zraw_COUNTS_STAGE_RAW : Fld := ⟨.zraw, 0x6C, 0, 8⟩
def Reg.zraw_JOB_BASE_HI_ADDR : Fld := ⟨.zraw, 0x5C, 0, 8⟩
def Reg.zraw_JOB_BASE_LO_ADDR : Fld := ⟨.zraw, 0x58, 6, 26⟩
def Reg.zraw_JOB_HEAD_INDEX : Fld := ⟨.zraw, 0x68, 0, 12⟩
def Reg.zraw_JOB_RING_SLOTS : Fld := ⟨.zraw, 0x60, 0, 12⟩
def Reg.zraw_JOB_TAIL_INDEX : Fld := ⟨.zraw, 0x64, 0, 12⟩
def Reg.zraw_SEG_BASE_HI_ADDR : Fld := ⟨.zraw, 0x48, 0, 8⟩
def Reg.zraw_SEG_BASE_LO_ADDR : Fld := ⟨.zraw, 0x44, 12, 20⟩
def Reg.zraw_SEG_RD_OFFSET : Fld := ⟨.zraw, 0x54, 0, 26⟩
def Reg.zraw_SEG_SIZE_KIB : Fld := ⟨.zraw, 0x4C, 0, 16⟩
def Reg.zraw_SEG_WR_OFFSET : Fld := ⟨.zraw, 0x50, 0, 26⟩

end Sys2Proof.Machine
end

