-- ==== Sys2Proof/Machine/Table.lean ====
section
/-! DEFINITION. Sparse tables in one canonical form: keys strictly rising, no entry equal to the value an unlisted
key reads as. Registers, headers and every numbered piece of state are held in such tables. -/

namespace Sys2Proof.Machine

/-- A sparse table: pairs of a key and a value. -/
abbrev Tbl (α : Type) := List (Nat × α)

/-- The value at a key; an unlisted key reads as `d`. -/
def Tbl.get {α : Type} (d : α) : Tbl α → Nat → α
  | [], _ => d
  | (k, v) :: t, a => if a = k then v else Tbl.get d t a

/-- Write one key; writing `d` removes the entry, so that equal tables are equal data. -/
def Tbl.put {α : Type} [DecidableEq α] (d : α) (a : Nat) (v : α) : Tbl α → Tbl α
  | [] => if v = d then [] else [(a, v)]
  | (k, w) :: t =>
    if a < k then (if v = d then (k, w) :: t else (a, v) :: (k, w) :: t)
    else if a = k then (if v = d then t else (a, v) :: t)
    else (k, w) :: Tbl.put d a v t

/-- Keys strictly rising. -/
def Tbl.sorted {α : Type} : Tbl α → Bool
  | [] => true
  | [_] => true
  | (a, _) :: (b, w) :: t => decide (a < b) && Tbl.sorted ((b, w) :: t)

/-- The canonical form: keys strictly rising, and no entry equal to what an unlisted key reads as. -/
def Tbl.wf {α : Type} [DecidableEq α] (d : α) (t : Tbl α) : Bool :=
  Tbl.sorted t && t.all (fun e => decide (e.2 ≠ d))

/-- Drop every entry whose key satisfies `p`. -/
def Tbl.dropIf {α : Type} (p : Nat → Bool) (t : Tbl α) : Tbl α := t.filter (fun e => !p e.1)

/-- A list with element `i` replaced. -/
def listSet {α : Type} (l : List α) (i : Nat) (v : α) : List α := l.set i v

/-- Insert into a rising list of numbers, once. -/
def insertNat (a : Nat) : List Nat → List Nat
  | [] => [a]
  | b :: t => if a < b then a :: b :: t else if a = b then b :: t else b :: insertNat a t

/-- Repeat an action on a state for each element of a list, from the first to the last. -/
def forEach {α σ : Type} (l : List α) (f : α → σ → σ) (s : σ) : σ := l.foldl (fun t a => f a t) s

/-- Little-endian bytes of a number: `n` of them. -/
def bytesLE : Nat → Nat → List Byte
  | 0, _ => []
  | n + 1, v => BitVec.ofNat 8 v :: bytesLE n (v / 256)

/-- The number that little-endian bytes spell. -/
def natLE : List Byte → Nat
  | [] => 0
  | b :: t => b.toNat + 256 * natLE t

/-- Big-endian bytes of a number: `n` of them. -/
def bytesBE (n v : Nat) : List Byte := (bytesLE n v).reverse

/-- The number that big-endian bytes spell. -/
def natBE (l : List Byte) : Nat := natLE l.reverse

/-- Ceiling division. -/
def ceilDiv (a b : Nat) : Nat := if b = 0 then 0 else (a + b - 1) / b

/-- Read `w` bits as two's complement. -/
def toSigned (w v : Nat) : Int := if v < 2 ^ (w - 1) then (v : Int) else (v : Int) - (2 ^ w : Nat)

/-- Encode an integer in `w` bits of two's complement, wrapping. -/
def ofSigned (w : Nat) (i : Int) : Nat := (i % ((2 ^ w : Nat) : Int)).toNat

/-- Encode an integer in `w` bits of two's complement, saturating. -/
def satSigned (w : Nat) (i : Int) : Nat :=
  if i < -((2 ^ (w - 1) : Nat) : Int) then 2 ^ (w - 1)
  else if i ≥ ((2 ^ (w - 1) : Nat) : Int) then 2 ^ (w - 1) - 1
  else ofSigned w i

end Sys2Proof.Machine
end

