-- ==== Sys2Proof/Machine/Lf20.lean ====
section
/-! DEFINITION. The lf20 number format (R140, R141), and the exact real functions the colour stages round once (R165).
A value is an integer number of units of 2^-43, the smallest lf20 step, so sums and products of samples are exact. -/

namespace Sys2Proof.Machine

/-- One in units of 2^-43. -/
def lfOne : Int := 8796093022208

/-- The magnitude of an lf20 code in units of 2^-43 (R140). -/
def lfMag (c : Nat) : Nat :=
  let e := c / 8192 % 64
  let m := c % 8192
  if e = 0 then m else (8192 + m) * 2 ^ (e - 1)

/-- The value of an lf20 code in units of 2^-43 (R140). -/
def lfVal (c : Nat) : Int := if c / 524288 % 2 = 1 then -(lfMag c : Int) else (lfMag c : Int)

/-- Round `n / d` to an integer, ties to even. -/
def roundEven (n d : Nat) : Nat :=
  let q := n / d
  let r := 2 * (n % d)
  if r < d then q else if d < r then q + 1 else if q % 2 = 0 then q else q + 1

/-- The lf20 code of the magnitude `n / d` units of 2^-43: nearest, ties to the even mantissa, saturating (R141). -/
def lfMagRound (n d : Nat) : Nat :=
  let q := n / d
  let sh := if q < 16384 then 0 else Nat.log2 q - 13
  let r := roundEven n (d * 2 ^ sh)
  let (r, sh) := if r ≥ 16384 then (8192, sh + 1) else (r, sh)
  if r < 8192 then r
  else if sh > 62 then 0x7FFFF
  else (sh + 1) * 8192 + (r - 8192)

/-- The lf20 code of `n / d` units of 2^-43; a zero result is 0x0_0000 (R141). -/
def lfRound (n : Int) (d : Nat) : Nat :=
  let m := lfMagRound n.natAbs (if d = 0 then 1 else d)
  if m = 0 then 0 else if n < 0 then m + 524288 else m

/-- The lf20 code of an exact value in units of 2^-43. -/
def lfOf (n : Int) : Nat := lfRound n 1

/-- The lf20 code of the rational `n / d`. -/
def lfRat (n : Int) (d : Nat) : Nat := lfRound (n * lfOne) d

/-- Round `n / d` to the nearest integer, ties upwards. -/
def roundUp (n : Int) (d : Nat) : Int := if d = 0 then 0 else (2 * n + d) / (2 * d)

/-- Clamp an integer. -/
def clampI (lo hi x : Int) : Int := if x < lo then lo else if hi < x then hi else x

/-! ### log2, powers and roots -/

/-- `floor (k · log2 (n / d))` for positive `n` and `d`: exact, by integer powers. -/
def floorLog2 (k n d : Nat) : Int :=
  let p := n ^ k * 2 ^ (128 * k)
  (Nat.log2 (p / d ^ k) : Int) - ((128 * k : Nat) : Int)

/-- `log2 (n / d)` in units of 1/k, rounded to nearest. -/
def roundLog2 (k n d : Nat) : Int := (floorLog2 (2 * k) n d + 1) / 2

/-- Bits of a root, from the highest. -/
def rootBits (k v : Nat) : Nat → Nat → Nat
  | 0, acc => acc
  | i + 1, acc => if (acc + 2 ^ i) ^ k ≤ v then rootBits k v i (acc + 2 ^ i) else rootBits k v i acc

/-- `floor (v ^ (1 / k))`, `k ≥ 1`. -/
def nthRoot (k v : Nat) : Nat := rootBits k v (Nat.log2 v / k + 1) 0

/-- `floor (2 ^ (p / q) · 2 ^ s)`: a power of two with a rational exponent. -/
def floorExp2 (p : Int) (q s : Nat) : Nat :=
  let e := p + ((q * s : Nat) : Int)
  if e < 0 then 0 else nthRoot q (2 ^ e.toNat)

/-- lf20 code of `2 ^ (p / q)`: rounded once. The magnitude is formed with 16 bits beyond the mantissa and a sticky bit,
so that the rounding is that of the exact value. -/
def lfExp2 (p : Int) (q : Nat) : Nat :=
  let whole := p / (q : Int)
  let part := (p - whole * q).toNat
  let m := 2 * nthRoot q (2 ^ (part + 30 * q)) + (if part = 0 then 0 else 1)
  let e := whole + 43
  if e < -31 then 0
  else if e > 90 then 0x7FFFF
  else lfMagRound (m * 2 ^ (e + 32).toNat) (2 ^ 63)

/-- `x ^ (a / b)` for the positive rational `n / d`, in units of `1 / u`, rounded to nearest. -/
def roundPow (a b u n d : Nat) : Nat :=
  (nthRoot b ((2 * u) ^ b * n ^ a / d ^ a) + 1) / 2

/-- lf20 code of `x ^ (a / b)` for the rational `n / d ≥ 0`. -/
def lfPow (a b n d : Nat) : Nat :=
  if n = 0 then 0
  else
    let v := (2 ^ 60) ^ b * n ^ a
    let r := nthRoot b (v / d ^ a)
    lfMagRound (2 * r + (if r ^ b * d ^ a = v then 0 else 1)) (2 ^ 18)

/-- `sqrt` of a value in units of 2^-43, with 64 further fractional bits: wider than lf20 (R141). -/
def sqrtWide (x : Nat) : Nat := nthRoot 2 (x * 2 ^ 171)

end Sys2Proof.Machine
end

