-- ==== Sys2Proof/Machine/RawStages.lean ====
section
/-! DEFINITION. The raw stages of a bench as functions on rows (chapter 7: R138-R154): unpack, black level, defects, HDR
merge, lens shading, raw noise reduction and demosaic, and the YUV path of R139. -/

namespace Sys2Proof.Machine

/-- A sample: an lf20 code and its saturation mark (R143). -/
structure Samp where
  v : Nat
  sat : Bool
deriving DecidableEq, Repr

/-- A pixel: three lf20 codes and the saturation mark (R153). For a YUV frame the components are Y′, Cb, Cr (R139). -/
structure Pix where
  r : Nat
  g : Nat
  b : Nat
  sat : Bool
deriving DecidableEq, Repr

/-- Sample 0. -/
def Samp.zero : Samp := ⟨0, false⟩
/-- Pixel 0. -/
def Pix.zero : Pix := ⟨0, 0, 0, false⟩

/-- The raw parameters in force for a frame. -/
structure RawParams where
  bits : Nat
  yuv : Bool
  /-- 1 = Cb Y Cr Y, 2 = Y Cb Y Cr. -/
  yuvOrder : Nat
  width : Nat
  height : Nat
  cfa : Nat
  dcg : Bool
  motion : Bool
  shadeEn : Bool
  nrEn : Bool
  dynEn : Bool
  staticEn : Bool
  /-- Black level of exposure k at position p: element 4 k + p. -/
  black : List Nat
  white : List Nat
  knee : Nat
  motionThr : Nat
  floor : Nat
  /-- Merge ratio of each exposure, as numerator and denominator (R147). -/
  ratios : List (Nat × Nat)
  dynT : Nat
  dynOff : Nat
  noiseA : Nat
  noiseB : Nat
  nrK : Nat
  nrS : Nat
  edgeT : Nat
  /-- Static defect list (R144): entries as stored. -/
  defects : List Nat
  /-- Shading gains in table order (R151). -/
  shade : List Nat
deriving DecidableEq, Repr

/-! ### Unpack (R142) -/

/-- Split a list into pieces of `n`. -/
def chunk {α : Type} (n : Nat) : Nat → List α → List (List α)
  | 0, _ => []
  | k + 1, l => if l.length < n ∨ n = 0 then [] else l.take n :: chunk n k (l.drop n)

/-- Bits of a sample of a CSI-2 data type (R67, R142). -/
def dtBits (dt : Nat) : Nat :=
  if dt = 0x1E ∨ dt = 0x2A then 8 else if dt = 0x1F ∨ dt = 0x2B then 10 else if dt = 0x2C then 12
  else if dt = 0x2D then 14 else if dt = 0x2E then 16 else 20

/-- Whether a data type is YUV. -/
def dtYuv (dt : Nat) : Bool := dt == 0x1E || dt == 0x1F

/-- Codes of one packing group of CSI-2 bytes (PRESUMED: the layouts are those of CSI-2, assumption log 21). -/
def unpackGroup (bits : Nat) (g : List Nat) : List Nat :=
  let b := fun i => g.getD i 0
  if bits = 8 then [b 0]
  else if bits = 10 then
    (List.range 4).map (fun i => b i * 4 + b 4 / 4 ^ i % 4)
  else if bits = 12 then [b 0 * 16 + b 2 % 16, b 1 * 16 + b 2 / 16]
  else if bits = 14 then
    let low := b 4 + 256 * b 5 + 65536 * b 6
    (List.range 4).map (fun i => b i * 64 + low / 64 ^ i % 64)
  else if bits = 16 then [b 0 * 256 + b 1]
  else [b 0 * 4096 + b 1 * 16 + b 4 % 16, b 2 * 4096 + b 3 * 16 + b 4 / 16]

/-- Bytes of a packing group. -/
def groupBytes (bits : Nat) : Nat :=
  if bits = 8 then 1 else if bits = 10 then 5 else if bits = 12 then 3 else if bits = 14 then 7 else if bits = 16 then 2 else 5

/-- Codes of a CSI-2 payload (R142). -/
def unpackCsi (bits : Nat) (l : List Nat) : List Nat :=
  (chunk (groupBytes bits) l.length l).flatMap (unpackGroup bits)

/-! ### Black level (R143) -/

/-- CFA position of a site. -/
def cfaPos (x y : Nat) : Nat := 2 * (y % 2) + x % 2

/-- One row of exposure `k` after the black-level stage. -/
def blackRow (p : RawParams) (k y : Nat) (codes : List Nat) : List Samp :=
  codes.mapIdx (fun (x c : Nat) =>
    ⟨lfRat ((c : Int) - (p.black.getD (4 * k + cfaPos x y) 0 : Int)) (2 ^ p.bits), decide (p.white.getD k 0xFFFFF ≤ c)⟩)

/-! ### Defects (R144-R146) -/

/-- Whether a site is on the static list. -/
def onList (p : RawParams) (x y : Nat) : Bool := p.defects.contains (y * 16384 + x)

/-- Insert into a rising list of integers. -/
def insertInt (a : Int) : List Int → List Int
  | [] => [a]
  | b :: t => if a ≤ b then a :: b :: t else b :: insertInt a t

/-- Twice the median of a list of integers: the mean of the two middle values for an even count (R145). -/
def median2 (l : List Int) : Int :=
  let s := l.foldl (fun a x => insertInt x a) []
  let n := s.length
  if n % 2 = 1 then 2 * s.getD (n / 2) 0 else s.getD (n / 2 - 1) 0 + s.getD (n / 2) 0

/-- The neighbour set of a site (R145): samples of the same position in row y − 2 (corrected) and row y, where the left
neighbour is corrected and the right one is not. -/
def neighbours (p : RawParams) (up : Option (Array Samp)) (done row : Array Samp) (x y : Nat) : List Samp :=
  let n := row.size
  let above := match up with
    | none => []
    | some u => [(x : Int) - 2, x, x + 2].filterMap (fun (i : Int) =>
        if i < 0 ∨ (n : Int) ≤ i ∨ onList p i.toNat (y - 2) then none else some (u.getD i.toNat Samp.zero))
  let left := if x < 2 ∨ onList p (x - 2) y then [] else [done.getD (x - 2) Samp.zero]
  let right := if n ≤ x + 2 ∨ onList p (x + 2) y then [] else [row.getD (x + 2) Samp.zero]
  above ++ left ++ right

/-- Counts of a defect pass: dynamic corrections and unresolved sites. -/
structure DefectCounts where
  dyn : Nat
  unresolved : Nat
deriving DecidableEq, Repr

/-- The corrected sample of a site, and what it counts (R145, R146). -/
def correct (p : RawParams) (nb : List Samp) (c : Samp) (onL : Bool) : Samp × Nat × Nat :=
  let vals := nb.map (fun s => lfVal s.v)
  let fix : Samp := ⟨lfRound (median2 vals) 2,
    c.sat && decide (nb.length ≤ 2 * (nb.filter (·.sat)).length)⟩
  if onL then
    if !p.staticEn then (c, 0, 0) else if nb.isEmpty then (c, 0, 1) else (fix, 0, 0)
  else if p.dynEn ∧ 2 ≤ nb.length then
    let v := lfVal c.v
    let hi := vals.foldl max (vals.headD 0)
    let lo := vals.foldl min (vals.headD 0)
    let off := 256 * lfVal p.dynOff
    if 256 * v > hi * (256 + p.dynT) + off ∨ 256 * v < lo * (256 - (p.dynT : Int)) - off then (fix, 1, 0) else (c, 0, 0)
  else (c, 0, 0)

/-- One row after the defect stage (R145, R146). -/
def defectRow (p : RawParams) (y : Nat) (up : Option (List Samp)) (row : List Samp) : List Samp × DefectCounts :=
  let arr := row.toArray
  let upA := up.map List.toArray
  let r := row.foldl (fun (a : Array Samp × Nat × Nat) c =>
    let x := a.1.size
    let q := correct p (neighbours p upA a.1 arr x y) c (onList p x y)
    (a.1.push q.1, a.2.1 + q.2.1, a.2.2 + q.2.2)) (#[], 0, 0)
  (r.1.toList, ⟨r.2.1, r.2.2⟩)

/-! ### HDR merge (R147-R149) -/

/-- Merge weight of exposure k at a site, in 1/4096, rounded down (R148). -/
def mergeWeight (p : RawParams) (k pos : Nat) (s : Samp) : Nat :=
  if s.sat then 0
  else
    let qn := lfVal s.v * (2 ^ p.bits : Nat)
    let qd := lfOne * ((p.white.getD k 0 : Int) - (p.black.getD (4 * k + pos) 0 : Int))
    if qn * 65536 ≤ qd * p.knee then 4096
    else if qd ≤ qn then 0
    else (4096 * (qd - qn) * 65536 / (qd * (65536 - (p.knee : Int)))).toNat

/-- One step of the merge: the estimate as a rational and its saturation mark (R148). -/
def mergeStep (p : RawParams) (pos : Nat) (a : (Int × Nat) × Bool) (e : Nat × Samp) : (Int × Nat) × Bool :=
  let (k, s) := e
  let (rn, rd) := p.ratios.getD k (1, 1)
  let yn := lfVal s.v * (rn : Int)
  let (on, od) := a.1
  let w := mergeWeight p k pos s
  let diff := yn * od - on * rd
  let floorV := lfVal p.floor
  let big := max on (floorV * od)
  let w := if p.motion ∧ !p.dcg ∧ 0 < w ∧ diff.natAbs * 4096 > (p.motionThr : Int) * big * rd then 0 else w
  if w = 0 then a
  else ((lfVal (lfRound (on * rd * 4096 + (w : Int) * diff) (od * rd * 4096)), 1), false)

/-- One site of the merge: the exposures present, highest index first (R148). -/
def mergeSite (p : RawParams) (pos : Nat) : List (Nat × Samp) → Samp
  | [] => Samp.zero
  | (k, s) :: rest =>
    let (rn, rd) := p.ratios.getD k (1, 1)
    let r := rest.foldl (mergeStep p pos) ((lfVal s.v * (rn : Int), rd), s.sat)
    ⟨lfRound r.1.1 r.1.2, r.2⟩

/-- One merged row: the rows present, as pairs of exposure and samples, highest exposure first (R148, R149). -/
def mergeRow (p : RawParams) (y : Nat) (rows : List (Nat × List Samp)) : List Samp :=
  match rows with
  | [(0, r)] => if p.ratios.length ≤ 1 then r else r.mapIdx (fun x s => mergeSite p (cfaPos x y) [(0, s)])
  | _ =>
    let arrs := rows.map (fun (k, r) => (k, r.toArray))
    (List.range p.width).map (fun x => mergeSite p (cfaPos x y) (arrs.map (fun (k, a) => (k, a.getD x Samp.zero))))

/-! ### Lens shading (R150) -/

/-- Grid coordinate and fraction of a column or row. -/
def shadeCoord (x n : Nat) : Nat × Nat :=
  let g := if n ≤ 1 then 0 else x * 32 * 4096 / (n - 1)
  if g / 4096 ≥ 32 then (31, 4096) else (g / 4096, g % 4096)

/-- The shading gain at a site, unsigned 4.12. -/
def shadeGain (p : RawParams) (grid : Array Nat) (x y : Nat) : Nat :=
  let (i, fx) := shadeCoord x p.width
  let (j, fy) := shadeCoord y p.height
  let g := fun jj ii => grid.getD (cfaPos x y * 1089 + jj * 33 + ii) 4096
  let sum := (4096 - fx) * (4096 - fy) * g j i + fx * (4096 - fy) * g j (i + 1)
    + (4096 - fx) * fy * g (j + 1) i + fx * fy * g (j + 1) (i + 1)
  (sum + 8388608) / 16777216

/-- One row after shading. -/
def shadeRow (p : RawParams) (y : Nat) (row : List Samp) : List Samp :=
  if !p.shadeEn then row
  else
    let grid := p.shade.toArray
    row.mapIdx (fun x s => ⟨lfRound (lfVal s.v * (shadeGain p grid x y : Int)) 4096, s.sat⟩)

/-! ### Edges (R154) -/

/-- Reflection about the edges: index −k takes k, and n − 1 + k takes n − 1 − k. -/
def reflect (n : Nat) (i : Int) : Nat :=
  if i < 0 then (-i).toNat
  else if (n : Int) ≤ i then (2 * ((n : Int) - 1) - i).toNat
  else i.toNat

/-! ### Raw noise reduction (R152) -/

/-- One sample: rows y − 2, y, y + 2 (after reflection). -/
def nrSample (p : RawParams) (up mid dn : Array Samp) (x : Nat) : Samp :=
  let n := mid.size
  let s := mid.getD x Samp.zero
  if s.sat then s
  else
    let c := lfVal s.v
    let at' := fun (a : Array Samp) (dx : Int) => a.getD (reflect n ((x : Int) + dx)) Samp.zero
    let nb := [at' up (-2), at' up 0, at' up 2, at' mid (-2), at' mid 2, at' dn (-2), at' dn 0, at' dn 2]
    let b := lfVal p.noiseB * lfOne
    let var := max (lfVal p.noiseA * c + b) b
    let sigma := nthRoot 2 (var.toNat * 2 ^ 128)
    let d : Int := (p.nrK * sigma : Nat)
    if d = 0 then s
    else
      let ws := nb.map (fun q =>
        if q.sat then (0 : Int) else max 0 (d - (((lfVal q.v - c).natAbs * 2 ^ 68 : Nat) : Int)))
      let sw := ws.foldl (· + ·) 0
      let swn := (List.zipWith (fun w q => w * (lfVal q.v - c)) ws nb).foldl (· + ·) 0
      ⟨lfRound (c * (d + sw) * 256 + (p.nrS : Int) * swn) ((d + sw).toNat * 256), false⟩

/-- One row after raw noise reduction. -/
def nrRow (p : RawParams) (up mid dn : List Samp) : List Samp :=
  if !p.nrEn then mid
  else
    let u := up.toArray
    let m := mid.toArray
    let d := dn.toArray
    (List.range mid.length).map (nrSample p u m d)

/-! ### Demosaic (R153) -/

/-- Colour of a site: 0 red, 1 green, 2 blue. -/
def cfaColour (cfa x y : Nat) : Nat :=
  let p := cfaPos x y
  let row := if cfa = 0 then [0, 1, 1, 2] else if cfa = 1 then [1, 0, 2, 1] else if cfa = 2 then [1, 2, 0, 1] else [2, 1, 1, 0]
  row.getD p 1

/-- One pixel: `f dx dy` is the sample at an offset (after reflection), in units of 2^-43. -/
def demosaicPixel (p : RawParams) (f : Int → Int → Samp) (x y : Nat) : Pix :=
  let v := fun dx dy => lfVal (f dx dy).v
  let sat := [-1, 0, 1].any (fun dy => [-1, 0, 1].any (fun dx => (f dx dy).sat))
  let c := v 0 0
  -- four times the bilinear green estimate of a red or blue neighbour
  let g4 := fun dx dy => v (dx - 1) dy + v (dx + 1) dy + v dx (dy - 1) + v dx (dy + 1)
  let col := cfaColour p.cfa x y
  if col = 1 then
    let hor := 8 * c + (4 * v (-1) 0 - g4 (-1) 0) + (4 * v 1 0 - g4 1 0)
    let ver := 8 * c + (4 * v 0 (-1) - g4 0 (-1)) + (4 * v 0 1 - g4 0 1)
    let h := lfRound hor 8
    let w := lfRound ver 8
    if cfaColour p.cfa (x + 1) y = 0 then ⟨h, lfOf c, w, sat⟩ else ⟨w, lfOf c, h, sat⟩
  else
    let lh := 2 * c - v (-2) 0 - v 2 0
    let lv := 2 * c - v 0 (-2) - v 0 2
    let dH := (v (-1) 0 - v 1 0).natAbs + lh.natAbs
    let dV := (v 0 (-1) - v 0 1).natAbs + lv.natAbs
    let gH := 2 * (v (-1) 0 + v 1 0) + lh
    let gV := 2 * (v 0 (-1) + v 0 1) + lv
    -- eight times the green
    let g8 := if dH * 256 < dV * (256 - p.edgeT) then 2 * gH else if dV * 256 < dH * (256 - p.edgeT) then 2 * gV else gH + gV
    let diag := [(-1, -1), (1, -1), (-1, 1), (1, 1)].foldl
      (fun (a : Int) (d : Int × Int) => a + (4 * v d.1 d.2 - g4 d.1 d.2)) 0
    let other := lfRound (2 * g8 + diag) 16
    let g := lfRound g8 8
    if col = 0 then ⟨lfOf c, g, other, sat⟩ else ⟨other, g, lfOf c, sat⟩

/-- One row after demosaic: rows y − 2 to y + 2 (after reflection). -/
def demosaicRow (p : RawParams) (y : Nat) (rows : List (List Samp)) : List Pix :=
  let arrs := (rows.map List.toArray).toArray
  let mid := rows.getD 2 []
  let n := mid.length
  if p.cfa = 4 then mid.map (fun s => ⟨s.v, s.v, s.v, s.sat⟩)
  else (List.range n).map (fun (x : Nat) =>
    demosaicPixel p (fun dx dy => (arrs.getD (dy + 2).toNat #[]).getD (reflect n ((x : Int) + dx)) Samp.zero) x y)

/-! ### The YUV path (R139) -/

/-- One row of a YUV frame, expanded to 4:4:4: components Y′, Cb, Cr as code × 2^-BITS. -/
def yuvRow (p : RawParams) (codes : List Nat) : List Pix :=
  let a := codes.toArray
  let n := codes.length / 2
  let yAt := fun x => a.getD (if p.yuvOrder = 2 then 2 * x else 2 * x + 1) 0
  let cAt := fun (x k : Nat) => a.getD (4 * (x / 2) + (if p.yuvOrder = 2 then 2 * k + 1 else 2 * k)) 0
  (List.range n).map (fun x =>
    let ch := fun k =>
      if x % 2 = 0 ∨ n ≤ x + 1 then lfRat (cAt x k) (2 ^ p.bits)
      else lfRat (cAt x k + cAt (x + 1) k : Nat) (2 * 2 ^ p.bits)
    ⟨lfRat (yAt x) (2 ^ p.bits), ch 0, ch 1, false⟩)

end Sys2Proof.Machine
end

