-- ==== Sys2Proof/Machine/Colour.lean ====
section
/-! DEFINITION. The colour stages C1-C7 and the tap transforms T1-T4 as functions on pixels and rows (chapter 8: R162-R186),
and the auto grid's classification (R170-R173). -/

namespace Sys2Proof.Machine

/-- Signed 16-bit value. -/
def s16 (v : Nat) : Int := toSigned 16 (v % 65536)

/-- Bilinear sum of R166 over four nodes, rounded to the nearest unit with ties upwards. -/
def bilinear (fx fy : Nat) (a b c d : Int) : Int :=
  roundUp (((4096 - fx) * (4096 - fy) : Nat) * a + (fx * (4096 - fy) : Nat) * b
    + ((4096 - fx) * fy : Nat) * c + (fx * fy : Nat) * d) 16777216

/-- Grid coordinate and fraction of R166. -/
def gridCoord (x w n : Nat) : Nat × Nat :=
  let g : Int := (((2 * x + 1) * n * 4096 / (2 * (if w = 0 then 1 else w)) : Nat) : Int) - 2048
  let g := (clampI 0 (((n - 1) * 4096 : Nat) : Int) g).toNat
  if g / 4096 = n - 1 then (n - 2, 4096) else (g / 4096, g % 4096)

/-- Interpolate a field of a grid of NX × NY nodes at a pixel (R166). -/
def gridAt (nx ny w h : Nat) (node : Nat → Int) (x y : Nat) : Int :=
  let (i, fx) := gridCoord x w nx
  let (j, fy) := gridCoord y h ny
  bilinear fx fy (node (j * nx + i)) (node (j * nx + i + 1)) (node ((j + 1) * nx + i)) (node ((j + 1) * nx + i + 1))

/-- An illuminant class of a profile (R171). -/
structure IllumClass where
  kind : Nat
  cct : Nat
  u : Int
  v : Int
  radius : Nat
  gains : List Nat
  blend : Nat
deriving DecidableEq, Repr

/-- The colour parameters in force for a frame. -/
structure ColourParams where
  yuv : Bool
  width : Nat
  height : Nat
  /-- WB gains of the echo, unsigned 4.12 (R104). -/
  echo : List Nat
  gridMode : Nat
  /-- Grid nodes, four fields each: WB_R, WB_G, WB_B, BLEND (R169). -/
  grid : List Nat
  blendFixed : Nat
  hilite : Bool
  /-- M_LO and M_HI of the profile, signed 3.12, row by row (R175). -/
  mLo : List Int
  mHi : List Int
  camM : List Int
  camOff : List Nat
  eotf : Nat
  toneEn : Bool
  /-- 4,096 entries, signed 5.10 (R177). -/
  tone : List Int
  localEn : Bool
  /-- 576 cells of anchor, contrast, gain (R178), three numbers each. -/
  cells : List Int
  lutEn : Bool
  lutShaper : Bool
  lutN : Nat
  /-- Entries of the 3D LUT: red + green × 2^16 + blue × 2^32 (R182). -/
  lut : List Nat
  tnrEn : Bool
  tnrStrength : Nat
  tnrThr : Nat
  tnrDepth : Nat
deriving DecidableEq, Repr

/-! ### C1-C3 (R167-R176) -/

/-- The grid's four fields at a pixel. -/
def gridFields (p : ColourParams) (grid : Array Nat) (x y : Nat) : List Int :=
  if p.gridMode = 0 then [4096, 4096, 4096, (p.blendFixed : Int)]
  else (List.range 4).map (fun k => gridAt 64 36 p.width p.height (fun n => (grid.getD (4 * n + k) 0 : Int)) x y)

/-- Effective gain of C1, unsigned 8.12 (R167). -/
def effGain (echo : Nat) (g : Int) : Int := min (roundUp ((echo : Int) * g) 4096) 1048575

/-- C1 on a pixel (R167, R168). -/
def stageC1 (p : ColourParams) (gf : List Int) (q : Pix) : Pix :=
  let m := fun (c k : Nat) => lfRound (lfVal c * effGain (p.echo.getD k 4096) (gf.getD k 4096)) 4096
  let q' : Pix := ⟨m q.r 0, m q.g 1, m q.b 2, q.sat⟩
  if p.hilite ∧ q.sat then
    let top := max (lfVal q'.r) (max (lfVal q'.g) (lfVal q'.b))
    ⟨lfOf top, lfOf top, lfOf top, q.sat⟩
  else q'

/-- A 3 × 3 matrix of 3.12 coefficients with lf20 offsets on a pixel, rounded once. -/
def matrixPix (m : List Int) (off : List Nat) (q : Pix) : Pix :=
  let row := fun i => lfRound (m.getD (3 * i) 0 * lfVal q.r + m.getD (3 * i + 1) 0 * lfVal q.g + m.getD (3 * i + 2) 0 * lfVal q.b
    + 4096 * lfVal (off.getD i 0)) 4096
  ⟨row 0, row 1, row 2, q.sat⟩

/-- The blended calibration matrix of C2 (R175). -/
def blendMatrix (p : ColourParams) (w : Int) : List Int :=
  List.zipWith (fun lo hi => lo + roundUp (w * (hi - lo)) 4096) p.mLo p.mHi

/-- lf20 code of an sRGB-coded or power-coded component (R176). -/
def inputEotf (e : Nat) (c : Nat) : Nat :=
  let v := lfVal c
  if e = 0 then c
  else if v ≤ 0 then 0
  else if e = 1 then lfPow 12 5 v.toNat lfOne.toNat
  else if 100000 * v ≤ 4045 * lfOne then lfRound (v * 100) 1292
  else lfPow 12 5 (1000 * v + 55 * lfOne).toNat (1055 * lfOne).toNat

/-- C3 on a pixel (R176). -/
def stageC3 (p : ColourParams) (q : Pix) : Pix :=
  let o := matrixPix p.camM p.camOff q
  if p.yuv then ⟨inputEotf p.eotf o.r, inputEotf p.eotf o.g, inputEotf p.eotf o.b, o.sat⟩ else o

/-! ### Tone (R177, R178) -/

/-- Luminance of a pixel in units of 2^-55 (R177). -/
def lumaNum (q : Pix) : Int := 1076 * lfVal q.r + 2777 * lfVal q.g + 243 * lfVal q.b

/-- Luminance, lf20. -/
def luma (q : Pix) : Nat := lfRound (lumaNum q) 4096

/-- `floor (k · log2)` of a positive lf20 code. -/
def lfLog2Floor (k c : Nat) : Int :=
  let e := c / 8192 % 64
  let m := c % 8192
  let n := if e = 0 then m else 8192 + m
  (Nat.log2 (n ^ k) : Int) + (k : Int) * ((max e 1 : Nat) - 44)

/-- log2 of a positive lf20 code in units of 1/k, rounded to nearest. -/
def lfLog2 (k c : Nat) : Int := (lfLog2Floor (2 * k) c + 1) / 2

/-- The log luminance in units of 2^-16 (R177). -/
def logLuma (y : Nat) : Int := if lfVal y ≤ 0 then -1048576 else lfLog2 65536 y

/-- The tone curve: log luminance in 2^-16 to t in 2^-10 (R177). -/
def toneCurve (tone : Array Int) (y : Nat) (l : Int) : Int :=
  if lfVal y ≤ 0 then tone.getD 0 0
  else
    let p := l + 1048576
    if p ≤ 0 then tone.getD 0 0 + roundUp p 64
    else if p ≥ 4095 * 512 then tone.getD 4095 0 + roundUp (l - 1048064) 64
    else
      let k := (p / 512).toNat
      let f := p % 512
      roundUp (512 * tone.getD k 0 + f * (tone.getD (k + 1) 0 - tone.getD k 0)) 512

/-- C4 and C5 on a pixel (R177, R178). -/
def stageTone (p : ColourParams) (tone cells : Array Int) (x y : Nat) (q : Pix) : Pix :=
  if !p.toneEn ∧ !p.localEn then q
  else
    let lum := luma q
    let l := logLuma lum
    -- t in units of 2^-16
    let t := if p.toneEn then 64 * toneCurve tone lum l else l
    let l2 :=
      if p.localEn then
        let f := fun k => gridAt 32 18 p.width p.height (fun n => cells.getD (3 * n + k) 0) x y
        64 * roundUp (4096 * 64 * (f 0 + f 2) + f 1 * (t - 64 * f 0)) (4096 * 64)
      else t
    let g := lfExp2 (l2 - l) 65536
    let m := fun c => lfRound (lfVal c * lfVal g) lfOne.toNat
    ⟨m q.r, m q.g, m q.b, q.sat⟩

/-! ### The 3D LUT (R179, R180) -/

/-- The shapers: a component to s in units of 2^-16 (R179). -/
def shape (one : Bool) (c : Nat) : Nat :=
  let v := lfVal c
  if one then
    if v ≤ 536870912 then 0   -- 2^-14 and below
    else (clampI 0 65536 (lfLog2 4096 c + 57344)).toNat
  else (clampI 0 65536 (roundUp (v * 65536) lfOne.toNat)).toNat

/-- The inverse shapers on a 14-bit code (R179). -/
def unshape (one : Bool) (code : Nat) : Nat :=
  if one then (if code = 0 then 0 else lfExp2 (16 * (code : Int) - 14 * 16383) 16383) else lfRat code 16383

/-- Index and fraction of a shaped component. -/
def lutCoord (n s : Nat) : Nat × Nat :=
  let c := s * (n - 1)
  if c / 65536 ≥ n - 1 then (n - 2, 65536) else (c / 65536, c % 65536)

/-- C6 on a pixel (R180). -/
def stageLut (p : ColourParams) (lut : Array Nat) (q : Pix) : Pix :=
  if !p.lutEn then q
  else
    let n := p.lutN
    let (ir, fr) := lutCoord n (shape p.lutShaper q.r)
    let (ig, fg) := lutCoord n (shape p.lutShaper q.g)
    let (ib, fb) := lutCoord n (shape p.lutShaper q.b)
    let pt := fun (a b c : Nat) => lut.getD ((ir + a) + n * (ig + b) + n * n * (ib + c)) 0
    let (k0, k1, k2, k3, f1, f2, f3) :=
      if fr ≥ fg ∧ fg ≥ fb then (pt 0 0 0, pt 1 0 0, pt 1 1 0, pt 1 1 1, fr, fg, fb)
      else if fr ≥ fb ∧ fb ≥ fg then (pt 0 0 0, pt 1 0 0, pt 1 0 1, pt 1 1 1, fr, fb, fg)
      else if fb ≥ fr ∧ fr ≥ fg then (pt 0 0 0, pt 0 0 1, pt 1 0 1, pt 1 1 1, fb, fr, fg)
      else if fg ≥ fr ∧ fr ≥ fb then (pt 0 0 0, pt 0 1 0, pt 1 1 0, pt 1 1 1, fg, fr, fb)
      else if fg ≥ fb ∧ fb ≥ fr then (pt 0 0 0, pt 0 1 0, pt 0 1 1, pt 1 1 1, fg, fb, fr)
      else (pt 0 0 0, pt 0 0 1, pt 0 1 1, pt 1 1 1, fb, fg, fr)
    let ch := fun (k : Nat) =>
      let e := fun w => w / 2 ^ (16 * k) % 16384
      let sum := (65536 - f1) * e k0 + (f1 - f2) * e k1 + (f2 - f3) * e k2 + f3 * e k3
      unshape p.lutShaper ((sum + 32768) / 65536)
    ⟨ch 0, ch 1, ch 2, q.sat⟩

/-! ### Temporal noise reduction (R183) -/

/-- A pixel in the shaped Y″CbCr domain, in units of 2^-16 (R183). -/
structure Ycc where
  y : Int
  cb : Int
  cr : Int
deriving DecidableEq, Repr

/-- Steps 1 and 2 of R183. -/
def toYcc (q : Pix) : Ycc :=
  let r : Int := shape true q.r
  let g : Int := shape true q.g
  let b : Int := shape true q.b
  let n := 1076 * r + 2777 * g + 243 * b
  let y := roundUp n 4096
  ⟨y, roundUp ((b - y) * 10000) 18814, roundUp ((r - y) * 10000) 14746⟩

/-- Step 4 of R183 on one pixel: the history as codes of `n` bits (`hb` and `hr` carry the offset of one half). -/
def tnrMix (p : ColourParams) (n hy hb hr : Nat) (c : Ycc) : Ycc :=
  let m : Int := 2 ^ n - 1
  let py := (hy : Int) * 65536
  let diff := (c.y * m - py).natAbs
  let k := (p.tnrStrength * 16 * (p.tnrThr * 64 * m.toNat - min (diff) (p.tnrThr * 64 * m.toNat))) / (p.tnrThr * 64 * m.toNat)
  let mix := fun (x prev : Int) => roundUp (4096 * m * x + (k : Int) * (prev - m * x)) (4096 * m.toNat)
  ⟨mix c.y py, mix c.cb ((hb : Int) * 65536 - 32768 * m), mix c.cr ((hr : Int) * 65536 - 32768 * m)⟩

/-- Step 5 of R183: back to lf20 RGB, clamped to 0 to 4.0; s is kept at 2^-16 (assumption log 22). -/
def fromYcc (c : Ycc) (sat : Bool) : Pix :=
  let r := c.y + roundUp (c.cr * 14746) 10000
  let b := c.y + roundUp (c.cb * 18814) 10000
  let g := roundUp (4096 * c.y - 1076 * r - 243 * b) 2777
  let un := fun (s : Int) => if s ≤ 0 then 0 else lfExp2 (16 * min s 65536 - 14 * 65536) 65536
  ⟨un r, un g, un b, sat⟩

/-- Step 6 of R183: a luma code and a chroma code of `n` bits. -/
def tnrCode (n : Nat) (v : Int) : Nat :=
  (clampI 0 (2 ^ n - 1) (roundUp (v * (2 ^ n - 1)) 65536)).toNat

/-- C7 on a row: the history codes of Y per pixel and of Cb and Cr per pair (none: k = 0), giving the row and the new
history codes. -/
def stageTnr (p : ColourParams) (hist : Option (List Nat × List (Nat × Nat))) (row : List Pix) :
    List Pix × List Nat × List (Nat × Nat) :=
  let n := if p.tnrDepth = 0 then 8 else 10
  let ycc := row.map toYcc
  let out := match hist with
    | none => ycc
    | some (hy, hc) =>
      let ya := hy.toArray
      let ca := hc.toArray
      ycc.mapIdx (fun x c => let h := ca.getD (x / 2) (0, 0); tnrMix p n (ya.getD x 0) h.1 h.2 c)
  let oa := out.toArray
  let z : Ycc := ⟨0, 0, 0⟩
  let pairs := (List.range (row.length / 2)).map (fun i =>
    let a := oa.getD (2 * i) z
    let b := oa.getD (2 * i + 1) z
    (tnrCode n (roundUp (a.cb + b.cb) 2 + 32768), tnrCode n (roundUp (a.cr + b.cr) 2 + 32768)))
  (List.zipWith (fun c (q : Pix) => fromYcc c q.sat) out row, out.map (fun c => tnrCode n c.y), pairs)

/-! ### The stages on a row -/

/-- C1 to C3 on a row (R162). -/
def rowC3 (p : ColourParams) (y : Nat) (row : List Pix) : List Pix :=
  let grid := p.grid.toArray
  row.mapIdx (fun x q =>
    if p.yuv then stageC3 p q
    else
      let gf := gridFields p grid x y
      stageC3 p (matrixPix (blendMatrix p (gf.getD 3 0)) [] (stageC1 p gf q)))

/-- C4 to C6 on a row (R162). -/
def rowC6 (p : ColourParams) (y : Nat) (row : List Pix) : List Pix :=
  let tone := p.tone.toArray
  let cells := p.cells.toArray
  let lut := p.lut.toArray
  row.mapIdx (fun x q => stageLut p lut (stageTone p tone cells x y q))

/-! ### The auto grid (R170-R173) -/

/-- What a zone has summed over its valid pixels before C1, in units of 2^-43, with its pixel counts (R170). -/
structure ZoneAcc where
  /-- Sums over every pixel (R209). -/
  all : List Int
  /-- Sums over valid pixels. -/
  good : List Int
  pixels : Nat
  valid : Nat
  clipped : Nat
  dark : Nat
deriving DecidableEq, Repr

/-- An empty zone. -/
def ZoneAcc.zero : ZoneAcc := { all := [0, 0, 0], good := [0, 0, 0], pixels := 0, valid := 0, clipped := 0, dark := 0 }

/-- Chromaticity of a zone in units of 1/4096; none if it is unclassified by R170. -/
def zoneUV (minValid : Nat) (z : ZoneAcc) : Option (Int × Int) :=
  let r := z.good.getD 0 0
  let g := z.good.getD 1 0
  let b := z.good.getD 2 0
  if z.valid * 100 < minValid * z.pixels ∨ z.pixels = 0 ∨ r ≤ 0 ∨ b ≤ 0 ∨ g ≤ 0 then none
  else some (roundLog2 4096 r.toNat g.toNat, roundLog2 4096 b.toNat g.toNat)

/-- Squared distance in units of 2^-24. -/
def dist2 (a b : Int × Int) : Int := (a.1 - b.1) * (a.1 - b.1) + (a.2 - b.2) * (a.2 - b.2)

/-- Target of a special class: the least d ≤ 1, lower class number on a tie (R172). -/
def specialClass (l : List IllumClass) (uv : Int × Int) : Option IllumClass :=
  let best := l.foldl (fun (a : Option IllumClass) c =>
    if c.kind ≠ 2 ∨ c.radius = 0 then a
    else match a with
      | none => some c
      | some k =>
        if dist2 uv (c.u, c.v) * ((k.radius * k.radius : Nat) : Int) < dist2 uv (k.u, k.v) * ((c.radius * c.radius : Nat) : Int)
        then some c else a) none
  match best with
  | some c => if dist2 uv (c.u, c.v) ≤ ((c.radius * c.radius : Nat) : Int) then some c else none
  | none => none

/-- Insert a class by CCT ascending, after its equals. -/
def insertCct (c : IllumClass) : List IllumClass → List IllumClass
  | [] => [c]
  | d :: t => if c.cct < d.cct then c :: d :: t else d :: insertCct c t

/-- Nearest point on a segment: position t as a rational (0 to 1), and the squared distance as a rational in 2^-24. -/
def onSegment (uv : Int × Int) (a b : IllumClass) : (Int × Nat) × (Int × Nat) :=
  let dx := b.u - a.u
  let dy := b.v - a.v
  let len := dx * dx + dy * dy
  let dot := (uv.1 - a.u) * dx + (uv.2 - a.v) * dy
  if len = 0 ∨ dot ≤ 0 then ((0, 1), (dist2 uv (a.u, a.v), 1))
  else if len ≤ dot then ((1, 1), (dist2 uv (b.u, b.v), 1))
  else ((dot, len.toNat), (dist2 uv (a.u, a.v) * len - dot * dot, len.toNat))

/-- Interpolated field of two classes. -/
def mixField (t : Int × Nat) (a b : Nat) : Nat := ((a : Int) + roundUp (t.1 * ((b : Int) - a)) t.2).toNat

/-- Target of a zone: three gains and w; none if unclassified (R172). -/
def zoneTarget (classes : List IllumClass) (tol : Int) (uv : Int × Int) : Option (List Nat) :=
  match specialClass classes uv with
  | some c => some (c.gains ++ [c.blend])
  | none =>
    let pl := (classes.filter (fun c => c.kind == 1)).foldl (fun a c => insertCct c a) []
    let segs := match pl with
      | [a] => [(a, a)]
      | _ => List.zip pl (pl.drop 1)
    let best := segs.foldl (fun (acc : Option ((Int × Nat) × (Int × Nat) × IllumClass × IllumClass)) (ab : IllumClass × IllumClass) =>
      let (t, d) := onSegment uv ab.1 ab.2
      match acc with
      | none => some (t, d, ab.1, ab.2)
      | some (_, d0, _, _) => if d.1 * d0.2 < d0.1 * d.2 then some (t, d, ab.1, ab.2) else acc) none
    match best with
    | none => none
    | some (t, d, a, b) =>
      if d.1 ≤ tol * tol * d.2 then
        some ((List.range 3).map (fun k => mixField t (a.gains.getD k 0) (b.gains.getD k 0)) ++ [mixField t a.blend b.blend])
      else none

/-- The new field of a node: one step towards S (R173). -/
def gridStep (tau : Nat) (s g : Int) : Int :=
  let d := s - g
  let n := ((d.natAbs + tau - 1) / (if tau = 0 then 1 else tau) : Nat)
  if d < 0 then g - n else g + n

/-- The new grid: old nodes (four fields each), zone chromaticities and targets (R173). -/
def nextGrid (edgeTol tau : Nat) (old : Array Nat) (zones : Array (Option ((Int × Int) × List Nat))) : List Nat :=
  (List.range 2304).flatMap (fun z =>
    let i : Nat := z % 64
    let j : Nat := z / 64
    let around := ([-1, 0, 1] : List Int).flatMap (fun dj => ([-1, 0, 1] : List Int).filterMap (fun di =>
      let ii := (i : Int) + di
      let jj := (j : Int) + dj
      if (di = 0 ∧ dj = 0) ∨ ii < 0 ∨ 64 ≤ ii ∨ jj < 0 ∨ 36 ≤ jj then none
      else (zones.getD (jj * 64 + ii).toNat none)))
    let terms : List (Nat × List Nat) := match zones.getD z none with
      | some (uv, t) =>
        (2, t) :: (around.filter (fun a => dist2 a.1 uv ≤ ((edgeTol * 64) * (edgeTol * 64) : Nat))).map (fun a => (1, a.2))
      | none => around.map (fun a => (1, a.2))
    let wsum := terms.foldl (fun a t => a + t.1) 0
    (List.range 4).map (fun k =>
      let g : Int := old.getD (4 * z + k) 0
      if wsum = 0 then g.toNat
      else
        let s := roundUp ((terms.foldl (fun a t => a + t.1 * t.2.getD k 0) 0 : Nat) : Int) wsum
        (gridStep tau s g).toNat))

/-! ### Tap transforms (R185, R186) -/

/-- binary16 of a value in units of 2^-86: nearest even, saturating, subnormals kept (R185). -/
def halfFloat (n : Int) : Nat :=
  let a := n.natAbs
  -- units of 2^-24, the smallest binary16 step
  let q := a / 2 ^ 62
  let sh := if q < 2048 then 0 else Nat.log2 q - 10
  let r := roundEven a (2 ^ (62 + sh))
  let (r, sh) := if r ≥ 2048 then (1024, sh + 1) else (r, sh)
  let mag := if r < 1024 then r else if sh > 29 then 0x7BFF else (sh + 1) * 1024 + (r - 1024)
  if n < 0 ∧ mag ≠ 0 then 32768 + mag else mag

/-- T2: a component (lf20) scaled and encoded (R185): 0.16 for encodings 0-3, an lf20 code for 4, binary16 for 5. -/
def encode185 (enc scale c : Nat) : Nat :=
  let l := lfVal c * lfVal scale            -- units of 2^-86
  let one : Int := lfOne * lfOne
  let cl := clampI 0 one l
  if enc = 0 then
    if cl * 1000 < 18 * one then (roundUp (cl * 9 * 65536) (2 * one).toNat).toNat
    else
      let z := nthRoot 20 ((131072 * 1099) ^ 20 * cl.toNat ^ 9 / one.toNat ^ 9)
      (((((z : Int) - 12976128) / 1000) + 1) / 2).toNat
  else if enc = 1 then
    if cl * 10000000 ≤ 31308 * one then (roundUp (cl * 1292 * 65536) (100 * one).toNat).toNat
    else
      let z := nthRoot 12 ((131072 * 1055) ^ 12 * cl.toNat ^ 5 / one.toNat ^ 5)
      (((((z : Int) - 7208960) / 1000) + 1) / 2).toNat
  else if enc = 2 then Config.pqEncode l
  else if enc = 3 then Config.hlgEncode l
  else if enc = 4 then lfRound l lfOne.toNat
  else halfFloat l

/-- T3 on a component: a table of 1,024 entries (R185). -/
def lut1d (table : Array Nat) (base v : Nat) : Nat :=
  let p := v * 1023
  let i := p / 65536
  let f := p % 65536
  let a := table.getD (base + i) 0
  let b := table.getD (base + min (i + 1) 1023) 0
  ((a * (65536 - f) + b * f) * 2 + 65535) / (2 * 65535)

/-- T4: the coefficients KR and KB in units of 2^-16 (R186). -/
def lumaCoefs (enc : Nat) : Int × Int := if enc ≤ 1 then (13933, 4732) else (17216, 3886)

/-- T4 on a pixel of 0.16 components: Y′ unsigned, Cb and Cr signed (R186). -/
def toYcbcr (enc : Nat) (r g b : Nat) : Int × Int × Int :=
  let (kr, kb) := lumaCoefs enc
  let y := kr * r + (65536 - kr - kb) * g + kb * b       -- units of 2^-32
  (roundUp y 65536, roundUp ((b : Int) * 65536 - y) (2 * (65536 - kb)).toNat,
    roundUp ((r : Int) * 65536 - y) (2 * (65536 - kr)).toNat)

end Sys2Proof.Machine
end

