-- ==== Sys2Proof/Machine/Taps.lean ====
section
/-! DEFINITION. Taps and statistics as functions on rows (chapter 9: R191-R217): scaling, chroma subsampling, quantisation and
packing, and the accumulators and metrics of the statistics unit. -/

namespace Sys2Proof.Machine

/-- The parameters of a tap in force for a frame. -/
structure TapParams where
  fmt : Nat
  full : Bool
  enc : Nat
  scale : Nat
  m : List Int
  lut1d : Option (List Nat)
  x0 : Nat
  y0 : Nat
  w : Nat
  h : Nat
  wout : Nat
  hout : Nat
  alpha : Nat
  /-- 512 horizontal coefficients, then 256 vertical ones, signed 3.12 (R194). -/
  coef : List Int
deriving DecidableEq, Repr

/-- The bilinear coefficients of R194. -/
def bilinearCoef : List Int :=
  (List.range 64).flatMap (fun (ph : Nat) => (List.range 8).map (fun k =>
    if k = 3 then 4096 - 64 * (ph : Int) else if k = 4 then 64 * (ph : Int) else 0)) ++
  (List.range 64).flatMap (fun (ph : Nat) => (List.range 4).map (fun k =>
    if k = 1 then 4096 - 64 * (ph : Int) else if k = 2 then 64 * (ph : Int) else 0))

/-! ### Scaling (R193) -/

/-- Source index and phase of an output index: `r` is the ratio in 16.16 (R193). -/
def scalePos (r o : Nat) : Int × Nat :=
  let pos : Int := (((2 * o + 1) * r : Nat) - (65536 : Int)) / 2
  (pos / 65536, (pos % 65536).toNat / 1024)

/-- A weighted sum of pixels, rounded once to lf20. -/
def weigh (l : List (Int × Pix)) : Pix :=
  let ch := fun (f : Pix → Nat) => lfRound (l.foldl (fun a e => a + e.1 * lfVal (f e.2)) 0) 4096
  ⟨ch Pix.r, ch Pix.g, ch Pix.b, false⟩

/-- The crop and horizontal scaler on a row (R192, R193). The clamp counts from the crop's left edge (assumption log 23). -/
def hscale (p : TapParams) (row : List Pix) : List Pix :=
  let a := row.toArray
  if p.wout = p.w then (row.drop p.x0).take p.w
  else
    let c := p.coef.toArray
    let r := p.w * 65536 / p.wout
    (List.range p.wout).map (fun o =>
      let (i, ph) := scalePos r o
      weigh ((List.range 8).map (fun (k : Nat) =>
        (c.getD (8 * ph + k) 0, a.getD (p.x0 + (clampI 0 ((p.w : Int) - 1) (i - 3 + k)).toNat) Pix.zero))))

/-- The last crop row that an output row needs (R193, R195). -/
def lastRowFor (p : TapParams) (o : Nat) : Nat :=
  if p.hout = p.h then o
  else (clampI 0 ((p.h : Int) - 1) ((scalePos (p.h * 65536 / p.hout) o).1 + 2)).toNat

/-- The vertical scaler for an output row: `rows` gives the scaled rows by crop row (R193). -/
def vscale (p : TapParams) (rows : Tbl (List Pix)) (o : Nat) : List Pix :=
  if p.hout = p.h then Tbl.get [] rows o
  else
    let c := p.coef.toArray
    let (i, ph) := scalePos (p.h * 65536 / p.hout) o
    let rs := (List.range 4).map (fun (k : Nat) =>
      (c.getD (512 + 4 * ph + k) 0, (Tbl.get [] rows (clampI 0 ((p.h : Int) - 1) (i - 1 + k)).toNat).toArray))
    (List.range p.wout).map (fun x => weigh (rs.map (fun (w, a) => (w, a.getD x Pix.zero))))

/-! ### T1-T4, subsampling and quantisation -/

/-- Whether a format is YUV (R196). -/
def fmtYuv (f : Nat) : Bool := f ≤ 5

/-- Bits of a component of a format: 8 or 10. -/
def fmtBits (f : Nat) : Nat := if f = 1 ∨ f = 3 ∨ f = 5 ∨ f = 7 then 10 else 8

/-- T1 to T3 on a pixel: three encoded components (R185). -/
def encodePix (p : TapParams) (lut : Array Nat) (q : Pix) : Nat × Nat × Nat :=
  let t := matrixPix p.m [] q
  let e := fun c => encode185 p.enc p.scale c
  let f := fun (k c : Nat) => if p.lut1d.isSome ∧ p.enc ≤ 3 then lut1d lut (1024 * k) c else c
  (f 0 (e t.r), f 1 (e t.g), f 2 (e t.b))

/-- Quantise luma or RGB, 0.16, to n bits (R197). -/
def quantY (full : Bool) (n : Nat) (v : Int) : Nat :=
  let q := if full then roundUp (v * (2 ^ n - 1)) 65536 else roundUp ((219 * v + 16 * 65536) * 2 ^ (n - 8)) 65536
  (clampI 0 (2 ^ n - 1) q).toNat

/-- Quantise chroma, signed 0.16, to n bits (R197). -/
def quantC (full : Bool) (n : Nat) (c : Int) : Nat :=
  let q := if full then roundUp (c * (2 ^ n - 1) + 2 ^ (n - 1) * 65536) 65536
    else roundUp ((224 * c + 128 * 65536) * 2 ^ (n - 8)) 65536
  (clampI 0 (2 ^ n - 1) q).toNat

/-- A component sample as stored: a byte, or a 10-bit code MSB-aligned in a little-endian word (R196). -/
def storeCode (n v : Nat) : List Byte := if n = 8 then bytesLE 1 v else bytesLE 2 (v * 64)

/-- Horizontal chroma filter at the even columns (R197). -/
def chromaH (c : List Int) : List Int :=
  let a := c.toArray
  let n := c.length
  (List.range (n / 2)).map (fun i =>
    let x := 2 * i
    let l := a.getD (if x = 0 then 0 else x - 1) 0
    let r := a.getD (if x + 1 < n then x + 1 else x) 0
    roundUp (l + 2 * a.getD x 0 + r) 4)

/-- One output row before packing: Y′, Cb and Cr at 0.16 with chroma filtered horizontally (YUV formats). -/
structure YuvRow where
  y : List Int
  cb : List Int
  cr : List Int
deriving DecidableEq, Repr

/-- T1-T4 and horizontal subsampling on a row of a YUV format. -/
def yuvOut (p : TapParams) (row : List Pix) : YuvRow :=
  let lut := (p.lut1d.getD []).toArray
  let ycc := row.map (fun q => let (r, g, b) := encodePix p lut q; toYcbcr p.enc r g b)
  let cb := ycc.map (fun t => t.2.1)
  let cr := ycc.map (fun t => t.2.2)
  ⟨ycc.map (fun t => t.1), if p.fmt ≤ 3 then chromaH cb else cb, if p.fmt ≤ 3 then chromaH cr else cr⟩

/-- Bytes of a Y row. -/
def packY (p : TapParams) (r : YuvRow) : List Byte :=
  r.y.flatMap (fun v => storeCode (fmtBits p.fmt) (quantY p.full (fmtBits p.fmt) v))

/-- Bytes of a CbCr row. -/
def packC (p : TapParams) (cb cr : List Int) : List Byte :=
  let n := fmtBits p.fmt
  (List.zip cb cr).flatMap (fun (b, r) => storeCode n (quantC p.full n b) ++ storeCode n (quantC p.full n r))

/-- Mean of two chroma rows (R197). -/
def meanC (a b : List Int) : List Int := List.zipWith (fun x y => roundUp (x + y) 2) a b

/-- Bytes of a row of a format with one plane: RGB formats (R196). -/
def packRgb (p : TapParams) (row : List Pix) : List Byte :=
  let lut := (p.lut1d.getD []).toArray
  row.flatMap (fun q =>
    let (r, g, b) := encodePix p lut q
    let qz := fun n v => quantY p.full n ((v : Nat) : Int)
    if p.fmt = 6 then bytesLE 1 (qz 8 r) ++ bytesLE 1 (qz 8 g) ++ bytesLE 1 (qz 8 b)
    else if p.fmt = 7 then bytesLE 4 (qz 10 r * 2 ^ 20 + qz 10 g * 2 ^ 10 + qz 10 b)
    else if p.fmt = 8 then bytesLE 1 (qz 8 r) ++ bytesLE 1 (qz 8 g) ++ bytesLE 1 (qz 8 b) ++ bytesLE 1 p.alpha
    else if p.fmt = 9 then bytesLE 8 (r + g * 2 ^ 20 + b * 2 ^ 40)
    else bytesLE 8 (r + g * 2 ^ 16 + b * 2 ^ 32 + 0x3C00 * 2 ^ 48))

/-- Bytes of a row of FORMAT 11 (R196, R198). -/
def packCfa (p : TapParams) (codes : List Nat) : List Byte :=
  ((codes.drop p.x0).take p.w).flatMap (fun c => bytesLE 2 c)

/-! ### Statistics (R207-R217) -/

/-- What the statistics unit has accumulated of a frame. -/
structure StatAcc where
  /-- Counts: bin + 256 × (0 Y, 1 R, 2 G, 3 B). -/
  hist : Tbl Nat
  /-- Zones, by 64 × row + column. -/
  zones : Tbl ZoneAcc
  pixels : Nat
  clipped : Nat
  dark : Nat
  /-- Sum of Y over the window, in units of 2^-43. -/
  sumY : Int
  /-- Row groups of the window: sum of Y and pixels. -/
  rows : Tbl (Int × Nat)
deriving DecidableEq, Repr

/-- Empty accumulators. -/
def StatAcc.zero : StatAcc := { hist := [], zones := [], pixels := 0, clipped := 0, dark := 0, sumY := 0, rows := [] }

/-- The statistics parameters in force for a frame. -/
structure StatParams where
  en : Bool
  width : Nat
  height : Nat
  x0 : Nat
  y0 : Nat
  w : Nat
  h : Nat
  logMin : Int
  rowGroup : Nat
  dark : Nat
deriving DecidableEq, Repr

/-- Histogram bin of an lf20 value (R208). -/
def histBin (logMin : Int) (c : Nat) : Nat :=
  if lfVal c ≤ 0 then 0
  else (clampI 0 255 (lfLog2Floor 16 c - 16 * logMin)).toNat

/-- Zone column or row of a pixel: zone i covers floor(i W / n) to floor((i + 1) W / n) - 1 (R170). -/
def zoneOf (x w n : Nat) : Nat := if w = 0 then 0 else ((x + 1) * n - 1) / w

/-- Add one pixel to a zone. -/
def ZoneAcc.add (dark : Nat) (z : ZoneAcc) (q : Pix) : ZoneAcc :=
  let v := [lfVal q.r, lfVal q.g, lfVal q.b]
  let isDark := decide (lfVal q.g < lfVal dark)
  let ok := !q.sat && !isDark
  { all := List.zipWith (· + ·) z.all v,
    good := if ok then List.zipWith (· + ·) z.good v else z.good,
    pixels := z.pixels + 1,
    valid := z.valid + (if ok then 1 else 0),
    clipped := z.clipped + (if q.sat then 1 else 0),
    dark := z.dark + (if isDark then 1 else 0) }

/-- Add one row of pixels (R207-R210). -/
def StatAcc.addRow (p : StatParams) (y : Nat) (row : List Pix) (a : StatAcc) : StatAcc :=
  let j := zoneOf y p.height 36
  (row.zipIdx).foldl (fun (a : StatAcc) (qx : Pix × Nat) =>
    let (q, x) := qx
    let z := j * 64 + zoneOf x p.width 64
    let zones := Tbl.put ZoneAcc.zero z ((Tbl.get ZoneAcc.zero a.zones z).add p.dark q) a.zones
    if p.x0 ≤ x ∧ x < p.x0 + p.w ∧ p.y0 ≤ y ∧ y < p.y0 + p.h then
      let lum := luma q
      let bump := fun (h : Tbl Nat) (k c : Nat) =>
        let i := 256 * k + histBin p.logMin c
        Tbl.put 0 i (min (Tbl.get 0 h i + 1) 4294967295) h
      let g := (y - p.y0) / p.rowGroup
      let (s, n) := Tbl.get ((0 : Int), 0) a.rows g
      { hist := bump (bump (bump (bump a.hist 0 lum) 1 q.r) 2 q.g) 3 q.b,
        zones := zones, pixels := a.pixels + 1,
        clipped := a.clipped + (if q.sat then 1 else 0),
        dark := a.dark + (if lfVal q.g < lfVal p.dark then 1 else 0),
        sumY := a.sumY + lfVal lum,
        rows := Tbl.put (0, 0) g (s + lfVal lum, n + 1) a.rows }
    else { a with zones := zones }) a

/-- lf20 mean of a sum. -/
def meanOf (s : Int) (n : Nat) : Nat := if n = 0 then 0 else lfRound s n

/-- Bytes of the zones of a record (R216). -/
def zoneBytes (a : StatAcc) : List Byte :=
  (List.range 2304).flatMap (fun z =>
    let q := Tbl.get ZoneAcc.zero a.zones z
    (List.range 3).flatMap (fun k => bytesLE 4 (meanOf (q.all.getD k 0) q.pixels)) ++ bytesLE 2 q.clipped ++ bytesLE 2 q.dark)

/-- Bytes of the histograms of a record. -/
def histBytes (a : StatAcc) : List Byte := (List.range 1024).flatMap (fun i => bytesLE 4 (Tbl.get 0 a.hist i))

/-- Round up to a multiple. -/
def roundTo (m n : Nat) : Nat := ceilDiv n m * m

/-- A statistics record (R216). -/
def recordBytes (p : StatParams) (a : StatAcc) (ticket : List Byte) (stream ruleState ruleChanged : Nat)
    (metaArea : List Byte) (metaTrunc : Bool) (yuv : Bool) : List Byte :=
  let rows := ceilDiv p.h p.rowGroup
  let size := 41152 + roundTo 64 (4 * rows) + metaArea.length
  let size := if metaArea.isEmpty then 41152 + 4 * rows else size
  let means := (List.range rows).flatMap (fun g => let (s, n) := Tbl.get ((0 : Int), 0) a.rows g; bytesLE 4 (meanOf s n))
  ticket ++ bytesLE 2 1 ++ bytesLE 2 stream ++ bytesLE 4 size ++ bytesLE 4 a.pixels ++ bytesLE 4 a.clipped
    ++ bytesLE 4 a.dark ++ bytesLE 4 (meanOf a.sumY a.pixels) ++ bytesLE 2 ruleState ++ bytesLE 2 ruleChanged
    ++ bytesLE 2 rows ++ bytesLE 2 metaArea.length ++ bytesLE 1 (ofSigned 8 p.logMin)
    ++ bytesLE 1 ((if metaTrunc then 1 else 0) + (if yuv then 2 else 0)) ++ bytesLE 2 0
    ++ bytesLE 2 p.x0 ++ bytesLE 2 p.y0 ++ bytesLE 2 p.w ++ bytesLE 2 p.h ++ bytesLE 20 0
    ++ histBytes a ++ zoneBytes a ++ means
    ++ (if metaArea.isEmpty then [] else List.replicate (roundTo 64 (4 * rows) - 4 * rows) 0 ++ metaArea)

/-- Sums over a region of zones (R212). -/
def regionOf (a : StatAcc) (i0 i1 j0 j1 : Nat) : ZoneAcc :=
  a.zones.foldl (fun (r : ZoneAcc) e =>
    let i := e.1 % 64
    let j := e.1 / 64
    if i0 ≤ i ∧ i ≤ i1 ∧ j0 ≤ j ∧ j ≤ j1 then
      { all := List.zipWith (· + ·) r.all e.2.all, good := r.good, pixels := r.pixels + e.2.pixels,
        valid := 0, clipped := r.clipped + e.2.clipped, dark := 0 }
    else r) ZoneAcc.zero

/-- METRIC 0: log2 of the region's mean Y in signed 5.10, rounded down (R212). -/
def metricLog (z : ZoneAcc) : Int :=
  let n := 1076 * z.all.getD 0 0 + 2777 * z.all.getD 1 0 + 243 * z.all.getD 2 0
  if n ≤ 0 ∨ z.pixels = 0 then -32768
  else clampI (-32768) 32767 (floorLog2 1024 n.toNat (z.pixels * 2 ^ 55))

/-- METRIC 1: the clipped fraction in unsigned 0.16, rounded down (R212). -/
def metricClip (z : ZoneAcc) : Int := if z.pixels = 0 then 0 else ((min (65536 * z.clipped / z.pixels) 65535 : Nat) : Int)

/-- New state of a rule (R212). -/
def ruleNext (below : Bool) (thresh hyst metric : Int) (old : Bool) : Bool :=
  if below then (if metric < thresh then true else if thresh + hyst ≤ metric then false else old)
  else (if thresh < metric then true else if metric ≤ thresh - hyst then false else old)

end Sys2Proof.Machine
end

