-- ==== Sys2Proof/Machine/Ticket.lean ====
section
/-! DEFINITION. Time (R345, R388, R389), check values (R348) and the ticket (R344-R347), as plain values. -/

namespace Sys2Proof.Machine

/-! ### Time -/

/-- An instant of TIMEL: units of 2^-16 ns since reset (R388). -/
abbrev Time := Nat

/-- `n` ns. -/
def nsT (n : Nat) : Time := 65536 * n
/-- `n` µs. -/
def usT (n : Nat) : Time := 65536000 * n
/-- `n` ms. -/
def msT (n : Nat) : Time := 65536000000 * n
/-- `n` s. -/
def secT (n : Nat) : Time := 65536000000000 * n
/-- The units of 2^-16 ns in a second. -/
def secUnits : Int := 65536000000000

/-- A reading of a clock: the domain (0-3 = TIME0-TIME3, 4 = TIMEL) and the time in units of 2^-16 ns (R345). -/
structure Instant where
  dom : Nat
  val : Int
deriving DecidableEq, Repr

/-- The zero time of domain 0. -/
def Instant.zero : Instant := ⟨0, 0⟩

/-- Seconds of a time, rounded toward minus infinity (R345). -/
def Instant.sec (x : Instant) : Int := x.val / secUnits
/-- Nanoseconds of a time, 0-999,999,999 (R345). -/
def Instant.ns (x : Instant) : Nat := ((x.val % secUnits) / 65536).toNat
/-- Fraction of a time in units of 2^-16 ns (R345). -/
def Instant.frac (x : Instant) : Nat := (x.val % 65536).toNat

/-- A time field of 16 bytes (R345). -/
def Instant.encode (x : Instant) : List Byte :=
  bytesLE 6 (ofSigned 48 x.sec) ++ bytesLE 4 x.ns ++ bytesLE 2 x.frac ++ bytesLE 1 (x.dom % 16) ++ bytesLE 3 0

/-- Read a time field (R345). -/
def Instant.decode (l : List Byte) : Instant :=
  ⟨natLE ((l.drop 12).take 1) % 16,
   toSigned 48 (natLE (l.take 6)) * secUnits + (natLE ((l.drop 6).take 4) * 65536 + natLE ((l.drop 10).take 2) : Nat)⟩

/-- The state of a disciplined clock: its value at an instant of TIMEL in units of 2^-64 ns, the rate in force in units of
2^-48 ns per ns (R389), and the slew in progress: what remains at that instant in units of 2^-64 ns, and its speed in ns per
second (R391). -/
structure Clock where
  t0 : Time
  v0 : Int
  rate : Int
  slewLeft : Int
  slewRate : Nat
  slewFrozen : Bool
deriving DecidableEq, Repr

/-- A clock after a power-on or cold reset: zero (R388). -/
def Clock.reset : Clock := { t0 := 0, v0 := 0, rate := 0, slewLeft := 0, slewRate := 10000, slewFrozen := false }

/-- 2^64. -/
def two64 : Int := 18446744073709551616

/-- The phase that the slew has added by `t`, towards what remained at `t0` (R391). -/
def Clock.slewed (c : Clock) (t : Time) : Int :=
  if c.slewFrozen then 0
  else
    let dt : Int := ((t - c.t0 : Nat) : Int)
    let gone := 281474976710656 * (dt * c.slewRate) / 1000000000
    if c.slewLeft ≥ 0 then min c.slewLeft gone else max c.slewLeft (-gone)

/-- The clock's value at `t` in units of 2^-64 ns (R389). -/
def Clock.raw (c : Clock) (t : Time) : Int :=
  c.v0 + ((t - c.t0 : Nat) : Int) * (281474976710656 + c.rate) + c.slewed t

/-- The clock's value at `t` in units of 2^-16 ns. -/
def Clock.at (c : Clock) (t : Time) : Int := c.raw t / 281474976710656

/-- What remains of the slew at `t`, in units of 2^-64 ns. -/
def Clock.left (c : Clock) (t : Time) : Int := c.slewLeft - c.slewed t

/-- The same clock, described from `t` on. -/
def Clock.rebase (c : Clock) (t : Time) : Clock := { c with t0 := t, v0 := c.raw t, slewLeft := c.left t }

/-! ### Check values (R348) -/

/-- One bit of a reflected CRC. -/
def crcStepR (poly c : Nat) : Nat := if c % 2 = 1 then (c / 2) ^^^ poly else c / 2

/-- One bit of a CRC of `w` bits that is not reflected. -/
def crcStepN (w poly c : Nat) : Nat :=
  if c / 2 ^ (w - 1) % 2 = 1 then (c * 2 % 2 ^ w) ^^^ poly else c * 2 % 2 ^ w

/-- Eight bits. -/
def iter8 (f : Nat → Nat) (c : Nat) : Nat := f (f (f (f (f (f (f (f c)))))))

/-- Run a reflected CRC over bytes. -/
def crcR (poly : Nat) (c : Nat) (l : List Byte) : Nat := l.foldl (fun c b => iter8 (crcStepR poly) (c ^^^ b.toNat)) c

/-- Run a CRC that is not reflected over bytes. -/
def crcN (w poly : Nat) (c : Nat) (l : List Byte) : Nat :=
  l.foldl (fun c b => iter8 (crcStepN w poly) (c ^^^ (b.toNat * 2 ^ (w - 8)))) c

/-- CRC-32C (POLY 0): polynomial 0x1EDC6F41, reflected. -/
def crc32c (l : List Byte) : Nat := crcR 0x82F63B78 0xFFFFFFFF l ^^^ 0xFFFFFFFF
/-- CRC-32 (POLY 1): polynomial 0x04C11DB7, reflected. -/
def crc32 (l : List Byte) : Nat := crcR 0xEDB88320 0xFFFFFFFF l ^^^ 0xFFFFFFFF
/-- CRC-16/CCITT (POLY 2). -/
def crc16 (l : List Byte) : Nat := crcN 16 0x1021 0xFFFF l
/-- CRC-8 (POLY 3). -/
def crc8 (l : List Byte) : Nat := crcN 8 0x2F 0xFF l ^^^ 0xFF

/-- The check value of a POLY code (R348). -/
def checkValue (poly : Nat) (l : List Byte) : Nat :=
  match poly with
  | 0 => crc32c l
  | 1 => crc32 l
  | 2 => crc16 l
  | _ => crc8 l

/-- The width in bytes of a POLY code's check value. -/
def checkBytes (poly : Nat) : Nat :=
  match poly with
  | 0 => 4
  | 1 => 4
  | 2 => 2
  | _ => 1

/-! ### The ticket -/

/-- Bit numbers of FLAGS (R347). -/
def flagTruncated : Nat := 0
def flagUnverified : Nat := 1
def flagRepeated : Nat := 2
def flagConcealed : Nat := 3
def flagLate : Nat := 4
def flagHdrPartial : Nat := 5
def flagPoisoned : Nat := 6
def flagMismatch : Nat := 7
def flagClockFault : Nat := 8
def flagShed : Nat := 9

/-- A ticket (R344). -/
structure Ticket where
  source : Nat
  stamp : Nat
  frameNo : Nat
  alive : Nat
  flags : Nat
  /-- In 1/256 ns. -/
  rowPeriod : Nat
  capture : Instant
  fsTime : Instant
  fsTimel : Instant
  echo : List Byte
  stampCrc : Nat
  lines : Nat
  samples : Nat
deriving DecidableEq, Repr

/-- A ticket with every field zero. -/
def Ticket.zero : Ticket :=
  { source := 0, stamp := 0, frameNo := 0, alive := 0, flags := 0, rowPeriod := 0, capture := Instant.zero,
    fsTime := Instant.zero, fsTimel := Instant.zero, echo := [], stampCrc := 0, lines := 0, samples := 0 }

/-- `n` bytes of a list, padded with zeros. -/
def padTo (n : Nat) (l : List Byte) : List Byte := (l ++ List.replicate n 0).take n

/-- Bytes `a` to `a + n - 1` of a list, as a little-endian number. -/
def leAt (l : List Byte) (a n : Nat) : Nat := natLE ((l.drop a).take n)

/-- Bytes `a` to `a + n - 1` of a list, as a big-endian number. -/
def beAt (l : List Byte) (a n : Nat) : Nat := natBE ((l.drop a).take n)

/-- A list with its bytes from `a` replaced by `x`. -/
def splice (l : List Byte) (a : Nat) (x : List Byte) : List Byte := l.take a ++ x ++ l.drop (a + x.length)

/-- The 124 bytes that TICKET_CRC covers (R344). -/
def Ticket.body (k : Ticket) : List Byte :=
  bytesLE 2 1 ++ bytesLE 1 k.source ++ bytesLE 1 (k.stamp % 4) ++ bytesLE 4 k.frameNo ++ bytesLE 2 k.alive
    ++ bytesLE 2 (k.flags % 1024) ++ bytesLE 4 k.rowPeriod ++ k.capture.encode ++ k.fsTime.encode
    ++ k.fsTimel.encode ++ padTo 32 k.echo ++ bytesLE 4 k.stampCrc ++ bytesLE 2 k.lines ++ bytesLE 2 k.samples
    ++ bytesLE 20 0

/-- A copy of a ticket: 128 bytes, the last four the CRC-32C of the rest (R344, R346). -/
def Ticket.encode (k : Ticket) : List Byte := k.body ++ bytesLE 4 (crc32c k.body)

/-- The fields of a copy, as they stand. -/
def Ticket.fields (l : List Byte) : Ticket :=
  { source := leAt l 2 1, stamp := leAt l 3 1 % 4, frameNo := leAt l 4 4, alive := leAt l 8 2, flags := leAt l 10 2 % 1024,
    rowPeriod := leAt l 12 4, capture := Instant.decode ((l.drop 16).take 16),
    fsTime := Instant.decode ((l.drop 32).take 16), fsTimel := Instant.decode ((l.drop 48).take 16),
    echo := (l.drop 64).take 32, stampCrc := leAt l 96 4, lines := leAt l 100 2, samples := leAt l 102 2 }

/-- Set a FLAGS bit. -/
def Ticket.flagged (k : Ticket) (b : Nat) : Ticket := { k with flags := setBit' k.flags b }
where
  /-- Set bit `b` of a number. -/
  setBit' (v b : Nat) : Nat := if v / 2 ^ b % 2 = 1 then v else v + 2 ^ b

/-- Set a FLAGS bit when a condition holds. -/
def Ticket.flagIf (c : Bool) (b : Nat) (k : Ticket) : Ticket := if c then k.flagged b else k

/-- Whether a FLAGS bit is set. -/
def Ticket.has (k : Ticket) (b : Nat) : Bool := k.flags / 2 ^ b % 2 == 1

/-- Read a copy as the device's own readers do: a wrong TICKET_CRC makes it carry UNVERIFIED (R346). -/
def Ticket.decode (l : List Byte) : Ticket :=
  let k := Ticket.fields l
  if crc32c (l.take 124) = leAt l 124 4 then k else k.flagged flagUnverified

end Sys2Proof.Machine
end

