-- ==== Sys2Proof/Machine/State.lean ====
section
/-! DEFINITION. The state of the part as plain data: every register (both copies of RWS fields), every page header,
DRAM with its poisoned lines, and everything the spec's chapters keep beside the registers; and the state after reset. -/

namespace Sys2Proof.Machine

/-- Reasons a step could stop with a fault. The spec names no condition that stops the part: every error is an ERROR_CODE
on a page, so no meaning raises one. -/
inductive Fault where
  /-- Raised by no command; safe, because it never occurs. -/
  | noCondition
deriving DecidableEq, Repr

/-- Reasons a command is refused. -/
inductive Refusal where
  /-- A row of the table that has no meaning yet, raised only by its arm of `exec`; safe: nothing is claimed of it. -/
  | notModelled (mnemonic : String)
deriving DecidableEq, Repr

/-- The header of an instance (R24, one per window by R22). -/
structure Header where
  raw : Word
  evEnable : Word
  route : Word
  enable : Bool
  enableStaged : Bool
  frozen : Bool
  snapshot : Tbl Word
  state : Nat
  busy : Bool
  pendingCommit : Bool
  checked : Bool
  deferredOnce : Bool
  seq : Nat
  reason : Nat
  outcome : Nat
  owner : Nat
  hold : Nat
  lapsed : Nat
  leaseTimer : Bool
  errCode : Nat
  errOrigin : Nat
  errOff : Nat
  errDetail : Nat
  errPage : Nat
  errLost : Bool
  rights : Word
deriving DecidableEq, Repr

/-- A header after reset: EVENT_ROUTE.KEEPER 1 and RIGHTS 0x0070_0000, all else 0 (R24). -/
def Header.reset : Header :=
  { raw := 0, evEnable := 0, route := 4, enable := false, enableStaged := false, frozen := false, snapshot := [],
    state := 0, busy := false, pendingCommit := false, checked := false, deferredOnce := false, seq := 0, reason := 0,
    outcome := 0, owner := 0, hold := 0, lapsed := 0, leaseTimer := false, errCode := 0, errOrigin := 0, errOff := 0,
    errDetail := 0, errPage := 0, errLost := false, rights := 0x00700000 }

/-- What the part sends out, in the order it sends it. -/
inductive Emit where
  /-- An MSI-X message of a host port (R37). -/
  | msix (port vector : Nat)
  /-- A notice to the keeper from the page with this key (R37). -/
  | keeperNotice (page : Nat)
  /-- A raster line that a display port sends: port, line, and the codes of its pixels in the order R, G, B. -/
  | video (port line : Nat) (pixels : List (Nat × Nat × Nat))
  /-- The colorimetry and range that a display port reports in a vertical blanking (R332). -/
  | msa (port colorimetry range : Nat)
  /-- A secondary data packet of a display port: header and data bytes (R332, R350). -/
  | sdp (port : Nat) (header data : List Byte)
  /-- An AUX transaction of a display port: operation, address and bytes written (R339). -/
  | aux (port op addr : Nat) (data : List Byte)
  /-- An Ethernet frame without its FCS: port and bytes. -/
  | frame (port : Nat) (bytes : List Byte)
  /-- Frames that an audio output sends from a position on: port, position, samples of every slot. -/
  | audio (port pos : Nat) (frames : List (List Nat))
  /-- From a position on, an audio output sends this frame until the next block: port, position, samples. -/
  | audioFill (port pos : Nat) (frame : List Nat)
  /-- A write into host memory by a DMA ring: port, bus address, bytes, and whether it goes as poisoned TLPs (R466). -/
  | hostWrite (port addr : Nat) (data : List Byte) (poisoned : Bool)
  /-- The completion of a BAR2 read: port, bytes, EP bit (R455). -/
  | hostRead (port : Nat) (data : List Byte) (poisoned : Bool)
  /-- A request completed as Unsupported Request (R455). -/
  | unsupported (port : Nat)
deriving DecidableEq, Repr

/-- What the Shuttle keeps for pace and shedding beside the PACE page (R46-R59). -/
structure Pace where
  /-- The mode a ramp left (R47). -/
  rampFrom : Nat
  /-- Short paces of completed intervals since the last ramp, newest first (R50). -/
  hist : List (Time × List Nat)
  /-- Consecutive failing intervals of the pool check (key 6) and of each bench's check (keys 0-5) (R56). -/
  short : Tbl Nat
  /-- Monitors in the BELOW_GUARANTEE condition, rising (R61). -/
  below : List Nat
  /-- Monitors in the OVERLOAD condition, rising (R61). -/
  overl : List Nat
  /-- Streams of the shed steps not yet undone, newest first (R59). -/
  steps : List Nat
  /-- Since when the restore margin has been met without a break (R59). -/
  since : Option Time
deriving DecidableEq, Repr

/-- The on-chip tables of a stream (R151, R164, R194). -/
structure Tables where
  shade : List Nat
  grid : List Nat
  tone : List Int
  cells : List Int
  /-- Coefficients and 1D tables of TAP0-TAP3. -/
  coef : List (List Int)
  lut1d : List (List Nat)
deriving DecidableEq, Repr

/-- Empty tables. -/
def Tables.zero : Tables := { shade := [], grid := [], tone := [], cells := [], coef := [], lut1d := [] }

/-- What a tap does with a frame: where it delivers, and how far it is. -/
structure FrameTap where
  tap : Nat
  /-- 0 = buffer pool, 1 = layer, 2 = encode context, 3 = raw codec engine. -/
  dest : Nat
  /-- Descriptor, layer, context or engine. -/
  target : Nat
  /-- Next output row. -/
  next : Nat
deriving DecidableEq, Repr

/-- A measured frame whose record has yet to become visible (R218). -/
structure StatOut where
  slot : Nat
  /-- Where the slot lies. -/
  addr : Nat
  par : StatParams
  acc : StatAcc
  ruleState : Nat
  ruleChanged : Nat
deriving DecidableEq, Repr

/-- A frame of a stream, from its frame start until its outputs are done. -/
structure Frame where
  no : Nat
  tk : Ticket
  /-- CSI-2 frame number of exposure 0. -/
  csi : Nat
  /-- 0 = open, 1 = closed normally, 2 = closed TRUNCATED. -/
  closed : Nat
  bits : Nat
  yuv : Bool
  /-- Codes of rows not yet taken by a bench: row r of exposure k at key 16384 k + r. -/
  rows : Tbl (List Nat)
  /-- Rows that went to the staging ring, with their row slots, by the same keys. -/
  inDram : Tbl Nat
  /-- Rows lost in an exposure above 0, by the same keys, rising. -/
  missing : List Nat
  /-- Exposures above 0 whose frame start has joined. -/
  joined : List Nat
  /-- Rows arrived of each exposure, and whether more can come. -/
  arrived : List Nat
  done : List Bool
  /-- Metadata area, packets so far, and META_TRUNC (R211). -/
  metaArea : List Byte
  metaOrder : Nat
  metaTrunc : Bool
  /-- Rows are not staged, or no longer: HALVED, SUSPENDED, dropped, or cut short (R123, R126, R127, R132). -/
  discard : Bool
  /-- Ends at the stream's next stripe boundary: 0 = no, 1 = dropped by deadline, 2 = without a count (R123, R124, R126). -/
  doomed : Nat
  /-- Rows of a class 0 stream given to the bench's FIFO. -/
  queued : Nat
  /-- Arrival of each stripe that is ready. -/
  arrivals : List Time
  /-- Stripes processed. -/
  stripe : Nat
  /-- The first stripe's context load has started. -/
  started : Bool
  /-- Every stripe is processed, or none will be any more. -/
  processed : Bool
  taps : List FrameTap
  /-- Taps whose buffers are complete but not yet signalled: tap and descriptor. -/
  tapsDone : List (Nat × Nat)
  /-- Slot of the statistics ring claimed (R218). -/
  slot : Option Nat
  stat : Option StatOut
  /-- The auto grid built from the frame, until GRID_READY (R174). -/
  grid : Option (List Nat)
deriving DecidableEq, Repr

/-- The history a stream's context carries across rows and stripes (R115, R138, R195). -/
structure Ctx where
  /-- Input rows of the frame that have entered the bench. -/
  row : Nat
  /-- The rows held at the end of the frame have been flushed (R154). -/
  flushed : Bool
  /-- The bench that took the last row. -/
  bench : Nat
  ratios : List (Nat × Nat)
  /-- Corrected rows: row r of exposure k at key 16384 k + r. -/
  corr : Tbl (List Samp)
  shaded : Tbl (List Samp)
  nr : Tbl (List Samp)
  /-- Rows of a YUV frame. -/
  yuvRows : Tbl (List Pix)
  /-- Horizontally scaled rows of tap t at key 16384 t + row. -/
  tapRows : Tbl (List Pix)
  /-- Chroma of the even row of a 4:2:0 tap, by tap. -/
  chroma : Tbl (List Int × List Int)
  acc : StatAcc
  ruleChanged : Nat
  /-- Codes of the last row taken, by exposure (R156). -/
  prev : Tbl (List Nat)
  /-- Dynamic corrections, unresolved sites and missing rows of the frame (R145, R146, R149). -/
  dyn : Nat
  unresolved : Nat
  missing : Nat
  /-- Measured time on fill and exposed swaps, and on samples, in ns (R121). -/
  fillNs : Nat
  workNs : Nat
deriving DecidableEq, Repr

/-- A context at the start of a frame. -/
def Ctx.zero : Ctx :=
  { row := 0, flushed := false, bench := 0, ratios := [], corr := [], shaded := [], nr := [], yuvRows := [], tapRows := [], chroma := [],
    acc := StatAcc.zero, ruleChanged := 0, prev := [], dyn := 0, unresolved := 0, missing := 0, fillNs := 0, workNs := 0 }

/-- A stream beside its registers. -/
structure Strm where
  /-- Oldest first. -/
  frames : List Frame
  ctx : Ctx
  /-- OVH in full (R120). -/
  ovh : Nat
  /-- A HALVED stream keeps the next frame (R55). -/
  keepNext : Bool
  /-- The stream was SUSPENDED at its latest frame start (R58). -/
  suspended : Bool
  tables : Tables
  staged : Tables
  /-- The newest auto grid, and the one that waits for the next frame (R174). -/
  gridBuilt : List Nat
  gridWaits : Option (List Nat)
  /-- The TNR history buffer that is read: 0 or 1; TNR_VALID says whether it holds a history (R184). -/
  tnrRead : Nat
  /-- l of METRIC 2 at each rule's previous evaluation (R212). -/
  rulePrev : Tbl Int
  /-- The row slot of the staging ring that the next row of each exposure takes (R122). -/
  ring : Tbl Nat
deriving DecidableEq, Repr

/-- A stream after reset. -/
def Strm.reset : Strm :=
  { frames := [], ctx := Ctx.zero, ovh := 3, keepNext := false, suspended := false, tables := Tables.zero, staged := Tables.zero, gridBuilt := [],
    gridWaits := none, tnrRead := 0, rulePrev := [], ring := [] }

/-- A bench beside its registers. -/
structure Bench where
  /-- Stream of the stripe that runs. -/
  run : Option Nat
  /-- Rows of it that have yet to enter. -/
  left : Nat
  /-- Stream chosen next, and whether its context is loaded. -/
  next : Option (Nat × Bool)
  /-- Rows of the class 0 stream that wait: frame number and row, oldest first. -/
  fifo : List (Nat × Nat)
  /-- The class 0 row that holds the bench. -/
  row0 : Option (Nat × Nat)
deriving DecidableEq, Repr

/-- A bench after reset. -/
def Bench.reset : Bench := { run := none, left := 0, next := none, fifo := [], row0 := none }

/-- A frame assembler (R71), by entry: CAMPnn at nn, ENTn of CAMSnn at 40 + 16 nn + n. -/
structure Asm where
  /-- 0 = IDLE, 1 = WAIT_SOF, 2 = ACTIVE, 3 = CLOSE. -/
  st : Nat
  /-- Interval checks are armed (R77). -/
  armed : Bool
  /-- The most recent frame start since IDLE was left. -/
  lastFs : Option Time
  /-- From when NO_FRAME counts (R79), and whether it has been raised since. -/
  watch : Time
  noFrame : Bool
  /-- References after a RATE_CHANGE (R73, R78): interval and line period. -/
  refT : Option Nat
  refLine : Option Nat
  /-- Take the interval measured and the line period as references at the next frame start. -/
  takeRef : Option Nat
  /-- A frame start held in CLOSE: CSI-2 frame number and time. -/
  held : Option (Nat × Time)
  frameNo : Nat
  lines : Nat
  /-- Lines discarded that count towards MAX_BAD. -/
  bad : Nat
  /-- Any line discarded, or a line cut by the close. -/
  anyBad : Bool
  /-- The measured interval while its rate, above the admitted one, counts as effective demand (R78). -/
  fast : Option Nat
  /-- The frame closes TRUNCATED. -/
  short : Bool
  /-- Start of line 0 and of line 15; start of the frame or of the last line begun. -/
  line0 : Time
  line15 : Option Time
  lastLine : Time
  /-- Running check value over the frame (R81, R82). -/
  crc : Nat
  /-- Stamp line or packet. -/
  stamp : Option (List Byte)
  /-- Embedded data of the frame. -/
  embedded : Option (List Byte)
  /-- Last alive counter created, and that of the most recent frame that had one. -/
  created : Nat
  lastAlive : Option Nat
  /-- Previous row delivered, for the substitute of R74. -/
  prevRow : Option (List Nat)
deriving DecidableEq, Repr

/-- An assembler after reset. -/
def Asm.reset : Asm :=
  { st := 0, armed := false, lastFs := none, watch := 0, noFrame := false, refT := none, refLine := none, takeRef := none,
    held := none, frameNo := 0, lines := 0, bad := 0, anyBad := false, fast := none, short := false, line0 := 0, line15 := none,
    lastLine := 0, crc := 0, stamp := none, embedded := none, created := 0, lastAlive := none, prevRow := none }

/-- A register write of a START or STOP sequence, with the delay in ms that follows it (R95). -/
structure SeqWrite where
  addr : Nat
  data : List Byte
  delayMs : Nat
deriving DecidableEq, Repr

/-- A field of the embedded data that carries the sensor's own codes (R95, R105): `what` is 0-2 for the integration lines of
an exposure, 3 for the analogue and 4 for the digital gain code. -/
structure EchoField where
  what : Nat
  off : Nat
  bytes : Nat
  big : Bool
deriving DecidableEq, Repr

/-- A verified sensor profile (R95, R144, R171). -/
structure Profile where
  start : List SeqWrite
  stop : List SeqWrite
  /-- Limits of the integration lines. -/
  linesMin : Nat
  linesMax : Nat
  /-- Start values: integration lines per exposure (0 = absent), gain codes, WB gains. -/
  startLines : List Nat
  startA : Nat
  startD : Nat
  startWb : List Nat
  /-- Gain maps: pairs of realised gain (8.8) and sensor code, gains rising. -/
  gainA : List (Nat × Nat)
  gainD : List (Nat × Nat)
  latL : Nat
  latG : Nat
  safeStartUs : Nat
  safeEndUs : Nat
  lineNs : Nat
  globalShutter : Bool
  fsLeadNs : Int
  echoFields : List EchoField
  /-- Static defect list, as stored (R144). -/
  defects : List Nat
  mLo : List Int
  mHi : List Int
  locusTol : Int
  classes : List IllumClass
deriving DecidableEq, Repr

/-- A profile with nothing in it; no valid slot holds it. -/
def Profile.empty : Profile :=
  { start := [], stop := [], linesMin := 0, linesMax := 0, startLines := [], startA := 0, startD := 0, startWb := [],
    gainA := [], gainD := [], latL := 1, latG := 1, safeStartUs := 0, safeEndUs := 0, lineNs := 0, globalShutter := false,
    fsLeadNs := 0, echoFields := [], defects := [], mLo := [], mHi := [], locusTol := 0, classes := [] }

/-- A frame-targeted command (R98). -/
structure CtlCmd where
  tag : Nat
  mask : Nat
  target : Nat
  exps : List Nat
  again : Nat
  dgain : Nat
  wb : List Nat
deriving DecidableEq, Repr

/-- An entry of the result queue (R102), with the set it belongs to. -/
structure CtlResult where
  tag : Nat
  code : Nat
  frame : Nat
  set : Nat
deriving DecidableEq, Repr

/-- A set of merged commands that was selected (R99). -/
structure CtlSet where
  id : Nat
  land : Nat
  tags : List Nat
  late : Bool
  lines : List (Option Nat)
  gains : Option (Nat × Nat)
  wb : Option (List Nat)
  /-- The frame in whose window the gain writes still fall due. -/
  gainAt : Option Nat
  /-- 0 = sound, 3 = failed or dropped, 4 = overrun (R101). -/
  bad : Nat
deriving DecidableEq, Repr

/-- Settings in effect (R103): codes as the sensor holds them. -/
structure CtlSettings where
  tag : Nat
  late : Bool
  uncertain : Bool
  lines : List Nat
  again : Nat
  dgain : Nat
  wb : List Nat
  landed : Nat
deriving DecidableEq, Repr

/-- What a bus operation is for. -/
inductive BusKind where
  | seqStart | seqStop | exposure | gain | xfer
deriving DecidableEq, Repr

/-- A bus operation of a control port, in issue order. -/
structure BusOp where
  kind : BusKind
  set : Nat
  delayMs : Nat
  retried : Bool
deriving DecidableEq, Repr

/-- A camera control port beside its registers (R97-R111). -/
structure Ctl where
  queue : List CtlCmd
  base : CtlSettings
  /-- Sets selected, oldest first. -/
  sets : List CtlSet
  nextSet : Nat
  results : List CtlResult
  /-- Bus operations; the first is on the bus unless a delay runs. -/
  ops : List BusOp
  delaying : Bool
  /-- A write window is open (R100). -/
  window : Bool
  /-- The frame whose window is next or open. -/
  frame : Nat
  xferWaiting : Bool
  /-- Direction, sub-address bytes, data bytes of the transfer requested. -/
  xfer : Bool × Nat × Nat
  /-- Result and data of a transfer that has ended. -/
  xferEnd : Option (Nat × List Byte)
  /-- Strobe pulses: midpoint and end, in TIMEL, newest first. -/
  strobes : List (Time × Time)
deriving DecidableEq, Repr

/-- No settings. -/
def CtlSettings.zero : CtlSettings :=
  { tag := 0, late := false, uncertain := false, lines := [], again := 0, dgain := 0, wb := [], landed := 0 }

/-- A control port after reset. -/
def Ctl.reset : Ctl :=
  { queue := [], base := CtlSettings.zero, sets := [], nextSet := 1, results := [], ops := [], delaying := false,
    window := false, frame := 0, xferWaiting := false, xfer := (false, 0, 0), xferEnd := none, strobes := [] }

/-- A frame that a direct layer may compose (R301), from its frame start on. -/
structure DirectFrame where
  stream : Nat
  no : Nat
  fs : Time
  /-- Rows of the first plane and of the CbCr plane as the tap packs them, by tap row. -/
  rows : Tbl (List Byte)
  chroma : Tbl (List Byte)
  /-- Rows of it are discarded from here on: the frame was cut short, or the layer missed a row. -/
  cut : Bool
deriving DecidableEq, Repr

/-- A segment of a tap stream that an engine has reserved space for (R229, R230). -/
structure ZSeg where
  stream : Nat
  stripe : Nat
  frameNo : Nat
  firstRow : Nat
  rowCount : Nat
  exp : Nat
  mode : Nat
  bits : Nat
  width : Nat
  /-- Worst case reserved, in bytes. -/
  reserve : Nat
  /-- The reservation starts at offset 0 because it would have passed the end of the ring. -/
  wrapped : Bool
  /-- The rows given so far, newest first. -/
  rows : List (List Nat)
  /-- The last segment of its frame. -/
  last : Bool
deriving DecidableEq, Repr

/-- A raw codec engine beside its registers. -/
structure Zraw where
  /-- Segments reserved and not yet written, oldest first. -/
  segs : List ZSeg
  /-- Stream and frame number whose segments are lost from here on (R231). -/
  lost : Option (Nat × Nat)
  /-- Bytes behind BYTES_IN and BYTES_OUT. -/
  inBytes : Nat
  outBytes : Nat
  /-- CAPTURE of the frame of the segment written at a ring offset (R366). -/
  captures : Tbl Instant
deriving DecidableEq, Repr

/-- A raw codec engine after reset. -/
def Zraw.reset : Zraw := { segs := [], lost := none, inBytes := 0, outBytes := 0, captures := [] }

/-- A header slot as the hardware reads it (R253). -/
structure EncSlot where
  /-- 0 = I, 1 = P, 2 = B. -/
  ptype : Nat
  idr : Bool
  refreshStart : Bool
  recon : Nat
  tag : Nat
  l0 : List Nat
  l1 : List Nat
  /-- Soft target in bits; 0 = from RC_RATE. -/
  target : Nat
  qpBase : Nat
  qpMin : Nat
  qpMax : Nat
  dqpMax : Nat
  ps : List Byte
  shBits : Nat
  template : List Byte
  /-- Bit position and field. -/
  patches : List (Nat × Nat)
deriving DecidableEq, Repr

/-- A slot with nothing in it. -/
def EncSlot.zero : EncSlot :=
  { ptype := 0, idr := false, refreshStart := false, recon := 0, tag := 0, l0 := [], l1 := [], target := 0, qpBase := 0,
    qpMin := 0, qpMax := 0, dqpMax := 0, ps := [], shBits := 16, template := [], patches := [] }

/-- A slice in progress: its coded rows (bytes of each), first and last QP, and whether a CTU of it was floored. -/
structure EncSlice where
  rows : List (List Byte)
  qpFirst : Nat
  qpLast : Nat
  floored : Bool
deriving DecidableEq, Repr

/-- A picture of an encode context. -/
structure EncPic where
  stream : Nat
  frameNo : Nat
  /-- P of R254. -/
  poc : Nat
  /-- Slot number 0-4, and its content. -/
  slotNo : Nat
  slot : EncSlot
  recovery : Bool
  idr : Bool
  /-- Index in a refresh cycle (R260). -/
  cycle : Option Nat
  /-- A B-picture whose source waits for its anchor (R259). -/
  stored : Bool
  rowsIn : Nat
  /-- CTU rows coded, and the QP of the next one. -/
  coded : Nat
  qp : Nat
  /-- The QP_MAX rule of R264 has engaged; every CTU is floored from here on (R265). -/
  capped : Bool
  flooring : Bool
  floored : Nat
  spent : Nat
  /-- Slices by index; slices released; bits released. -/
  slices : Tbl EncSlice
  released : Nat
  bits : Nat
  /-- Hard budget H (R263); none while the model is off. -/
  hard : Option Nat
  /-- When the last row of each slice left the tap, plus 1. -/
  readyAt : Tbl Nat
deriving DecidableEq, Repr

/-- An encode context beside its registers. -/
structure EncCtx where
  /-- In coding order; the first not stored is being coded. -/
  pics : List EncPic
  /-- P of the next picture; pictures coded in the refresh cycle; IDRs since EN; reference pictures since the IDR. -/
  poc : Nat
  cycle : Option Nat
  idrs : Nat
  refs : Nat
  /-- Reconstruction slots that hold a picture, rising. -/
  recon : List Nat
  /-- Pictures abandoned since the last record (R266). -/
  gaps : Nat
  /-- Bits of the last picture, for R263. -/
  lastBits : Nat
  /-- The window's commit waits for this context's picture start (R252). -/
  commit : Bool
deriving DecidableEq, Repr

/-- An encode context after reset. -/
def EncCtx.reset : EncCtx :=
  { pics := [], poc := 0, cycle := none, idrs := 0, refs := 0, recon := [], gaps := 0, lastBits := 0,
    commit := false }

/-- An entry of a DPB (R281). -/
structure DecEntry where
  desc : Nat
  poc : Int
  short : Bool
  long : Bool
  pending : Bool
  concealed : Bool
  /-- Not yet completed to the pool. -/
  owned : Bool
  /-- Its picture is complete: every CTU is decoded or concealed. -/
  whole : Bool
  tk : Ticket
  window : Nat × Nat × Nat × Nat
deriving DecidableEq, Repr

/-- A picture in progress of a decode context (R278). -/
structure DecPic where
  hdr : SliceHdr
  /-- Its DPB entry; none: skipped whole or without a buffer (R282, R288). -/
  entry : Option Nat
  tk : Ticket
  /-- The CTU after the last one decoded or concealed, and CTUs concealed. -/
  next : Nat
  count : Nat
  /-- Decoded with concealment or substitution; with poisoned references. -/
  damaged : Bool
  poisoned : Bool
  /-- POCs found missing (R283). -/
  missed : List Int
deriving DecidableEq, Repr

/-- A decode context beside its registers. -/
structure DecCtx where
  /-- Bytes taken of the payload of the record at IN_RD, and whether the record has been entered. -/
  off : Nat
  entered : Bool
  /-- A poisoned record was discarded: the next counts as one with LOSS (R275). -/
  lost : Bool
  pic : Option DecPic
  /-- The slice that the engine decodes. -/
  slice : Option SliceHdr
  dpb : Tbl (Option DecEntry)
  /-- Pictures output since EN. -/
  outputs : Nat
  /-- Numbers of the pictures that end a recovery period (R284). -/
  recover : List Int
  /-- When PLI_REQUEST was last raised (R285). -/
  pliAt : Time
deriving DecidableEq, Repr

/-- A context that is OFF. -/
def DecCtx.reset : DecCtx :=
  { off := 0, entered := false, lost := false, pic := none, slice := none, dpb := [], outputs := 0, recover := [], pliAt := 0 }

/-- A buffer-pool descriptor (R308) with its owner and claims (R311). -/
structure Buf where
  /-- DRAM address. -/
  addr : Nat
  /-- In 64-byte units. -/
  pitch : Nat
  width : Nat
  height : Nat
  fmt : Nat
  visX : Nat
  visY : Nat
  /-- 0 = the whole buffer. -/
  visW : Nat
  visH : Nat
  home : Nat
  /-- 0 = FREE, 1 = PRODUCING, 2 = COMPLETE. -/
  st : Nat
  /-- 0 = none, 1 = tap, 2 = decoder, 3 = host, 4 = feed layer. -/
  owner : Nat
  /-- Layers that hold a fetch claim, rising. -/
  fetchers : List Nat
  /-- Claims of decoders. -/
  decClaims : Nat
  /-- Completion number, and whether a feed layer has yet to look at it. -/
  doneNo : Nat
  fresh : Bool
deriving DecidableEq, Repr

/-- A descriptor that nothing has written: FREE, on no list. -/
def Buf.reset : Buf :=
  { addr := 0, pitch := 0, width := 0, height := 0, fmt := 0, visX := 0, visY := 0, visW := 0, visH := 0, home := 0,
    st := 0, owner := 0, fetchers := [], decClaims := 0, doneNo := 0, fresh := false }

/-- The buffer pool beside its registers. -/
structure Bpool where
  /-- Descriptors 0-4095. -/
  bufs : Tbl Buf
  /-- Free lists 0-63, head first. -/
  lists : Tbl (List Nat)
  /-- Each origin's copy of DESC_* and CMD_RESULT: the word at window offset `off` of origin `o` at key 4096 o + off (R319). -/
  copies : Tbl Nat
  /-- Completion-ring entries lost (R309). -/
  cqLost : Nat
  /-- Completions so far. -/
  doneNo : Nat
deriving DecidableEq, Repr

/-- A layer beside its registers. -/
structure Lay where
  /-- Buffer on screen (MODE 0 and 1), feed buffer owned, buffer with a fetch claim. -/
  cur : Option Nat
  fed : Option Nat
  claim : Option Nat
  /-- Ticket of the current frame. -/
  tk : Option Ticket
  /-- The current frame is one the Fray monitor has not seen yet. -/
  isNew : Bool
  /-- Content time of the last current frame without REPEATED: its CAPTURE and FS_TIME (R355). -/
  content : Option (Instant × Instant)
  enabledAt : Time
  /-- Hidden under opaque layers (R303). -/
  skipped : Bool
  /-- A frame has started since it was enabled in MODE 2 (R301). -/
  seen : Bool
  /-- The frame that a direct layer composes in this refresh: stream and number; the layer has missed a row; the last row is composed. -/
  comp : Option (Nat × Nat)
  miss : Bool
  full : Bool
  /-- The coefficient table in force, 192 phases; empty: bilinear. -/
  coef : List Int
deriving DecidableEq, Repr

/-- A layer after reset. -/
def Lay.reset : Lay :=
  { cur := none, fed := none, claim := none, tk := none, isNew := false, content := none, enabledAt := 0, skipped := false,
    seen := false, comp := none, miss := false, full := false, coef := [] }

/-- A head beside its registers. -/
structure Head where
  /-- In vertical blanking; the raster line that starts next. -/
  blank : Bool
  line : Nat
  /-- Deferrals of the pending commit. -/
  defers : Nat
  /-- An underrun, and poisoned data read, on the frame in progress (R350). -/
  under : Bool
  poison : Bool
  /-- Lines added to this blanking and to the next (R325). -/
  adj : Int
  adjNext : Int
  /-- Pixel clock in use in units of 1/65,536 Hz. -/
  clk : Nat
  /-- The last frame start; the instant from which the next one is counted, and the lines between. -/
  lastFs : Option Time
  base : Time
  lines : Nat
  /-- Consecutive target instants with a small error; the last target instant; a relock (R325-R327). -/
  good : Nat
  lastTarget : Option Time
  relock : Bool
  steerAt : Time
  /-- Least fetch margin of the frame in progress (R315). -/
  margin : Nat
deriving DecidableEq, Repr

/-- A head that is stopped. -/
def Head.reset : Head :=
  { blank := true, line := 0, defers := 0, under := false, poison := false, adj := 0, adjNext := 0, clk := 0, lastFs := none,
    base := 0, lines := 0, good := 0, lastTarget := none, relock := false, steerAt := 0, margin := 0xFFFF }

/-- A display port beside its registers. -/
structure Dpo where
  /-- The Selvedge path holds the pins (R505). -/
  sv : Bool
  /-- In TRAINING: 0 = attempts, 1 = idle pattern, 2 = capability read (R334, R336). -/
  phase : Nat
  /-- The pair the ladder starts from; none: its top. -/
  start : Option (Nat × Nat)
  /-- Pairs left, the one being tried first; an attempt of this ladder has failed. -/
  pairs : List (Nat × Nat)
  failed : Bool
  /-- Trained; video starts at the head's next frame start, which ends a blanked transition. -/
  waits : Bool
  resume : Bool
  downAt : Time
  /-- A host AUX transaction: its command word, and whether it runs (R339). -/
  aux : Option (Nat × Bool)
deriving DecidableEq, Repr

/-- A display port that is OFF. -/
def Dpo.reset : Dpo :=
  { sv := false, phase := 0, start := none, pairs := [], failed := false, waits := false, resume := false, downAt := 0, aux := none }

/-- A check unit beside its registers (R349, R350). -/
structure ChkUnit where
  /-- Has started with a frame, picture or record, and the running check value of the frame in progress. -/
  on : Bool
  acc : Nat
  /-- An ingress unit has checked a slice 0: its ALIVE is in CHKu_ALIVE (R352). -/
  had : Bool
deriving DecidableEq, Repr

/-- A check unit that has not started. -/
def ChkUnit.reset : ChkUnit := { on := false, acc := 0, had := false }

/-- A payload that the packet engine stores once (R374). -/
structure Payload where
  /-- 0 = RTP payload, 1 = a fragment of a raw segment without its header, 2 = an RTCP sender report. -/
  kind : Fin 3
  bytes : List Byte
  /-- In the spill area, else on chip. -/
  spilled : Bool
  /-- References that wait or are being sent. -/
  refs : Nat
  /-- The record, segment or block that it belongs to. -/
  part : Nat
  marker : Bool
  /-- Data of the stamp element (R367). -/
  stamp : Option (List Byte)
  /-- T of R366 in units of 2^-16 ns, and the RTP clock. -/
  time : Int
  clock : Nat
  /-- Raw: PFLAGS and OFFSET (R368). -/
  pflags : Nat
  offset : Nat
deriving DecidableEq, Repr

/-- A key that holds no payload. -/
def Payload.none : Payload :=
  { kind := 0, bytes := [], spilled := false, refs := 0, part := 0, marker := false, stamp := .none, time := 0, clock := 0,
    pflags := 0, offset := 0 }

/-- A session's reference to a payload (R374). -/
structure PktRef where
  pay : Nat
  seq : Nat
  /-- SEG_SEQ of a raw fragment. -/
  seg : Nat
  /-- Place in the order of arrival. -/
  age : Nat
  spilled : Bool
deriving DecidableEq, Repr

/-- An egress session beside its registers. -/
structure Sess where
  /-- Oldest first. -/
  queue : List PktRef
  /-- Tokens at `levelAt`, in units of 1/524,288,000,000 byte (R372). -/
  level : Nat
  levelAt : Time
  /-- The record, segment or block whose rest is dropped (R375). -/
  dropPart : Option Nat
  /-- Segments queued. -/
  segs : Nat
  /-- RTP packets and payload octets sent (R377). -/
  packets : Nat
  octets : Nat
  /-- Domain of the source's last record. -/
  dom : Option Nat
deriving DecidableEq, Repr

/-- A session that has never been enabled. -/
def Sess.reset : Sess :=
  { queue := [], level := 0, levelAt := 0, dropPart := none, segs := 0, packets := 0, octets := 0, dom := none }

/-- What an Ethernet port sends. -/
inductive Sending where
  | idle
  /-- A PTP frame of a domain. -/
  | ptp (d : Nat)
  /-- A command reply or an exception-ring frame. -/
  | frame
  /-- A session's packet: session and payload. -/
  | packet (sid pay : Nat)
deriving DecidableEq, Repr

/-- An Ethernet port beside its registers. -/
structure NetPort where
  sending : Sending
  /-- Command replies that wait, oldest first. -/
  replies : List (List Byte)
  /-- Deficit round robin (R373): the class being served, and the deficits. -/
  cls : Nat
  deficits : Tbl Nat
  /-- The session served last, by class, plus one. -/
  turns : Tbl Nat
deriving DecidableEq, Repr

/-- A port that sends nothing. -/
def NetPort.reset : NetPort := { sending := .idle, replies := [], cls := 0, deficits := [], turns := [] }

/-- A datagram in a jitter buffer (R379). -/
structure FlowPkt where
  seq : Nat
  /-- TIMEL at its arrival. -/
  arrived : Time
  /-- ARRIVAL in the flow's domain (R378). -/
  arrival : Instant
  port : Nat
  frame : List Byte
  /-- The UDP payload. -/
  data : List Byte
deriving DecidableEq, Repr

/-- A decoder record in the making (R380). -/
structure FlowRec where
  loss : Bool
  ts : Nat
  arrival : Instant
  bytes : List Byte
  marker : Bool
  stampOk : Bool
  stampBad : Bool
  /-- Data of the stamp that the record carries. -/
  stamp : List Byte
  repeated : Bool
deriving DecidableEq, Repr

/-- An ingress flow beside its registers. -/
structure Flow where
  expect : Option Nat
  /-- Held packets in the order of their sequence numbers. -/
  held : List FlowPkt
  /-- Fragmented NAL unit in progress. -/
  frag : Option (List Byte)
  /-- Arrival of its first fragment. -/
  fragAt : Instant
  record : Option FlowRec
  /-- The next record carries LOSS. -/
  loss : Bool
  /-- Stamp of the slice being reassembled, and its NAL bytes so far. -/
  stamp : Option (List Byte)
  slice : List Byte
deriving DecidableEq, Repr

/-- A flow that has received nothing. -/
def Flow.reset : Flow :=
  { expect := none, held := [], frag := none, fragAt := Instant.zero, record := none, loss := false, stamp := none, slice := [] }

/-- A kept reply of the command protocol (R382). -/
structure CmdReply where
  addr : Nat
  port : Nat
  seq : Nat
  reply : List Byte
deriving DecidableEq, Repr

/-- The packet engine beside its registers. -/
structure Pkt where
  pays : Tbl Payload
  nextPay : Nat
  nextPart : Nat
  nextAge : Nat
  /-- Bytes in use on chip and in the spill area. -/
  onchip : Nat
  spill : Nat
  /-- Kept replies, newest first. -/
  replies : List CmdReply
  /-- The millisecond of TIMEL of the last request, and the requests in it. -/
  cmdMs : Nat
  cmdCount : Nat
deriving DecidableEq, Repr

/-- A PTP message that waits for its counterpart: Sync, Delay_Req departures and Pdelay messages (R400). -/
structure PtpWait where
  /-- 0 = a two-step Sync, 1 = a Delay_Req that departed, 2 = a Pdelay_Req that departed, 3 = a two-step Pdelay_Resp. -/
  kind : Fin 4
  seq : Nat
  /-- Local time: arrival of a Sync, departure of a request; for kind 3, t4 - t1. -/
  time : Int
  /-- Correction and t2 received so far. -/
  corr : Int
  t2 : Int
deriving DecidableEq, Repr

/-- A time domain beside its registers and clock (R393-R404). Times in units of 2^-16 ns. -/
structure TimeDom where
  /-- Newest first. -/
  waits : List PtpWait
  /-- t2 - t1 - cS of the latest Sync. -/
  sync : Option Int
  /-- Twice the latest mpd. -/
  mpd2 : Int
  /-- Twice the sums of the interval's mpds and offsets, and their counts. -/
  mpdSum : Int
  mpdCount : Nat
  offSum : Int
  offCount : Nat
  /-- Sync messages received in the interval. -/
  syncs : Nat
  /-- The last interval had a completed delay exchange; it had a Sync. -/
  hadMpd : Bool
  hadSync : Bool
  /-- Consecutive intervals without a Sync. -/
  silent : Nat
  /-- TIMEL-independent end of the hold: the domain's time. -/
  holdEnd : Int
  /-- HOLDOVER was entered for lack of Sync in TRACKING (R404). -/
  lossHold : Bool
deriving DecidableEq, Repr

/-- A domain in OFF. -/
def TimeDom.reset : TimeDom :=
  { waits := [], sync := none, mpd2 := 0, mpdSum := 0, mpdCount := 0, offSum := 0, offCount := 0, syncs := 0, hadMpd := false,
    hadSync := false, silent := 0, holdEnd := 0, lossHold := false }

/-- An audio port beside its registers (R414-R424). -/
structure Aud where
  /-- Position of the next frame. -/
  pos : Nat
  /-- t0: frame-start time of position 0, in TIMEL and in the port's domain. -/
  t0 : Time
  t0Dom : Int
  /-- The last sample of every slot that was captured or sent. -/
  last : List Nat
  /-- Output: consecutive frames are being repeated from this position on (R419). -/
  hold : Option Nat
  /-- Output: sends zero since the hold limit. -/
  zero : Bool
  /-- Input: capture ends at the next block boundary (R414). -/
  stopping : Bool
  /-- Input: the clock was lost during the block in progress. -/
  lostInBlock : Bool
  /-- Output from a flow: position of the block being filled, and its frames. -/
  fillPos : Nat
  fill : List (List Nat)
  /-- Reference of the rate measurement in 1/256 Hz (R422). -/
  ref : Option Nat
deriving DecidableEq, Repr

/-- A port in OFF. -/
def Aud.reset : Aud :=
  { pos := 0, t0 := 0, t0Dom := 0, last := [], hold := none, zero := false, stopping := false,
    lostInBlock := false, fillPos := 0, fill := [], ref := none }

/-- A pending start trigger (R415): domain, instant in it, and the ports of MASK. -/
structure Trigger where
  dom : Nat
  val : Int
  mask : Nat
deriving DecidableEq, Repr

/-- A class 2 read that waits for its device diagnosis (R438). -/
structure Diagnosis where
  rank : Nat
  who : Nat
  /-- The line read: a DRAM line; none on a spare rank. -/
  line : Option Nat
deriving DecidableEq, Repr

/-- The relining journal (R448-R450). -/
structure Reline where
  src : Nat
  dst : Nat
  watermark : Nat
  /-- The source is on a failed subchannel: segments are written poisoned. -/
  blank : Bool
deriving DecidableEq, Repr

/-- MEMX and the subchannels beside their registers. -/
structure Mem where
  /-- Ranks whose addresses the map holds (R430): bit r, as RANK_ROLE was last written. -/
  ranks : Nat
  /-- The rank that serves rank r's addresses since r was relined, plus one. -/
  served : Tbl Nat
  /-- Retired ranks that wait to be relined, in order, and those for which no spare was left. -/
  queue : List Nat
  stuck : List Nat
  reline : Option Reline
  diags : List Diagnosis
  /-- 0 = no frequency change, 1 = waits for margins, 2 = requests held or changing. -/
  freq : Fin 3
  /-- Set point that the change goes to. -/
  target : Nat
  /-- Subchannels that request a retraining change (R441). -/
  track : Bool
  /-- Class 1 reads of each rank in the current second, and that second (R446). -/
  ceCount : Tbl Nat
  ceSecond : Nat
deriving DecidableEq, Repr

/-- The memory system after a power-on or cold reset. -/
def Mem.reset : Mem :=
  { ranks := 0, served := [], queue := [], stuck := [], reline := none, diags := [], freq := 0, target := 0, track := false,
    ceCount := [], ceSecond := 0 }

/-- A host port beside its registers: its MSI-X function (R37, R38, R460) and BAR2. -/
structure HostPort where
  /-- MSI-X Enable in configuration space. -/
  msixOn : Bool
  /-- Vectors whose mask bit is 0, rising. -/
  unmasked : List Nat
  /-- Vectors whose pending bit is set, rising. -/
  msixPending : List Nat
deriving DecidableEq, Repr

/-- A host port after reset: MSI-X disabled, every vector masked. -/
def HostPort.reset : HostPort := { msixOn := false, unmasked := [], msixPending := [] }

/-- An image or bundle in a region of boot flash (R479). -/
structure FlashSlot where
  /-- Header and payload; empty: nothing is stored. -/
  bytes : List Byte
  /-- Marked invalid, as after a handover that failed (R488). -/
  bad : Bool
deriving DecidableEq, Repr

/-- A region with nothing in it. -/
def FlashSlot.empty : FlashSlot := { bytes := [], bad := false }

/-- An entry of the attestation report (R485). -/
structure SecEntry where
  cls : Nat
  slot : Nat
  svn : Nat
  keySel : Nat
  /-- 0 = slot A, 1 = slot B, 2 = store, 3 = LOAD. -/
  source : Nat
  digest : List Byte
deriving DecidableEq, Repr

/-- A command that waits for the monitor (R486). -/
structure SecCmd where
  origin : Nat
  op : Nat
  cls : Nat
  addr : Nat
  len : Nat
deriving DecidableEq, Repr

/-- Fuses, boot flash and the monitor's own state beside the SEC page (R472-R491). -/
structure Sec where
  /-- OWNER_HASH; empty: not enrolled (R474). -/
  owner : List Byte
  /-- ROLLBACK_c (R474). -/
  rollback : Tbl Nat
  debugLock : Bool
  /-- Slots A and B of class c at keys 2c and 2c + 1 (R478, R479). -/
  slots : Tbl FlashSlot
  /-- Profile store slots 0-15, and LUT bundle store slots at 16-23. -/
  store : Tbl FlashSlot
  /-- The two copies of the retirement record: RANK_ROLE and BOOT_COUNT (R484). -/
  retired : List (Nat × Nat)
  /-- Boot state: bit c = slot B of class c is preferred; trial flags: 0 = none, 1 = preferred on trial, 2 = running on trial
  (R482). -/
  pref : Nat
  trial : Tbl Nat
  bootCount : Nat
  /-- Running slot of each class, plus one; 0 = none. -/
  running : Tbl Nat
  /-- Commands that wait, in the order in which they reached the page. -/
  queue : List SecCmd
  /-- The copies of CMD_ADDR_LO, CMD_ADDR_HI, CMD_LEN and CMD_RESULT of each origin: word at key 4096 origin + offset. -/
  copies : Tbl Nat
  /-- Origins whose CMD_DONE waits until the keeper has re-attached (R495). -/
  ended : List Nat
  entries : List SecEntry
  bootEntries : Nat
  /-- BOOT_DIGEST of this boot, which AK_CERT signs. -/
  digest : List Byte
  loads : Nat
  akErased : Bool
  /-- The challenge that a token may name (R489). -/
  challenge : Option (List Byte)
  /-- The encoder hold of a handover, and the slot that it leaves (R488). -/
  hold : Bool
  oldSlot : Nat
deriving DecidableEq, Repr

/-- A part as it leaves manufacture: not enrolled, nothing in boot flash (assumption log 80). -/
def Sec.reset : Sec :=
  { owner := [], rollback := [], debugLock := false, slots := [], store := [], retired := [], pref := 0, trial := [],
    bootCount := 0, running := [], queue := [], copies := [], ended := [], entries := [], bootEntries := 0, digest := [],
    loads := 0, akErased := false, challenge := none, hold := false, oldSlot := 0 }

/-- The pins on VDD_AON and the pins the chapters drive one by one. -/
structure Pins where
  /-- FAULT_N high (R499). -/
  faultN : Bool
  /-- FRAY_N high (R357). -/
  frayN : Bool
  /-- SAFEVIEW_N high (R500). -/
  safeviewN : Bool
  /-- SAFEVIEW_REQ_N high (input). -/
  safeviewReqN : Bool
  /-- FSYNC_OUT_0-3 high: bit k. -/
  fsync : Nat
  /-- CCTL_nn_TRIG high: bit nn. -/
  trig : Nat
  /-- TIME_PPS_OUT high. -/
  ppsOut : Bool
  /-- VID_CORE[3:0] driven (else high-impedance, R45). -/
  vidDriven : Bool
  /-- RESET_N high (input). -/
  resetN : Bool
  /-- Pins of R493 in their reset state. -/
  held : Bool
deriving DecidableEq, Repr

/-- The supervisor and the Selvedge path beside their registers (R496-R507). -/
structure Sup where
  /-- The management complex is in reset. -/
  mgmtReset : Bool
  /-- The supervisor's own time at which TIMEL last started: it runs on through a cold reset (R492). -/
  base : Nat
  /-- The times of the misses of the last 60 s, newest first, in the supervisor's own time. -/
  missTimes : List Nat
  /-- HB_CFG.INTERVAL_MS in force (a change applies from the next accepted heartbeat). -/
  interval : Nat
  /-- When the last heartbeat was accepted, and when the window of R497 began, in TIMEL. -/
  beatAt : Nat
  windowAt : Nat
  /-- A first heartbeat has been accepted since the last reset. -/
  firstSeen : Bool
  /-- Consecutive samples at or above the trip point (R508). -/
  hot : Nat
  /-- The latched Selvedge record (R501, R502), whether this boot has latched one, and whether the path is engaged. -/
  record : List Byte
  latched : Bool
  engaged : Bool
  /-- The Selvedge link: 0 = no attempt runs, 1 = idle pattern, 2 = attempts, 3 = waits to retry; the sink's pairs left, the one
  being tried first (R505). -/
  svbPhase : Nat
  svbPairs : List (Nat × Nat)
  /-- Line memories: output row r of quadrant q at key 540 q + r (R506). -/
  svbLines : Tbl (List Nat)
  /-- Time of each quadrant's last source row, plus one. -/
  quadTimes : Tbl Nat
deriving DecidableEq, Repr

structure State where
  /-- Registers in effect, by BAR0 address of the primary window; unlisted: reset value. -/
  regs : Tbl Word
  /-- Staged copies of RWS fields, likewise. -/
  stag : Tbl Word
  /-- Page headers by primary page number. -/
  hdrs : Tbl Header
  /-- DRAM, by address; unlisted: the byte that reset leaves. -/
  dram : List Host.Cell
  /-- Poisoned 64-byte lines of DRAM, rising (R439). -/
  poison : List Nat
  /-- TIMEL in units of 2^-16 ns at the latest stamped command (R388). -/
  now : Nat
  /-- Counter that numbers the free values (the model's own field). -/
  free : Nat
  /-- What the part has sent out, newest first. -/
  sent : List Emit
  pace : Pace
  /-- Frame assemblers. -/
  asms : Tbl Asm
  /-- Streams. -/
  strms : Tbl Strm
  /-- Benches 0-5. -/
  benches : Tbl Bench
  /-- On-chip 3D LUT slots: entries of slot k (R182). -/
  lutSlots : Tbl (List Nat)
  /-- Profile slots 0-15 (R95); PROFILE_VALID says which hold a valid profile. -/
  profiles : Tbl Profile
  /-- Camera control ports. -/
  ctls : Tbl Ctl
  /-- Frames of direct layers, oldest first, by layer. -/
  directs : Tbl (List DirectFrame)
  /-- Raw codec engines. -/
  zraws : Tbl Zraw
  /-- The on-chip index of R233: coded length of a ring slot in 64-byte units, by the slot's address. -/
  stageIdx : Tbl Nat
  /-- Encode contexts 0-127. -/
  encs : Tbl EncCtx
  /-- Decode contexts 0-63. -/
  decs : Tbl DecCtx
  /-- The buffer pool. -/
  pool : Bpool
  /-- Layers 0-63, heads 0-3, display ports 0-7 and check units 0-127. -/
  lays : Tbl Lay
  heads : Tbl Head
  dpos : Tbl Dpo
  chks : Tbl ChkUnit
  nets : Tbl NetPort
  sess : Tbl Sess
  flows : Tbl Flow
  pkt : Pkt
  /-- The clocks of TIME0-TIME3. -/
  clocks : Tbl Clock
  doms : Tbl TimeDom
  /-- TIMEL at the last TIME_PPS_IN edge, and the domain-independent time of the last TIME_PPS_OUT rise, each plus one. -/
  ppsIn : Nat
  ppsRise : Nat
  auds : Tbl Aud
  trigger : Option Trigger
  mem : Mem
  /-- HOSTA and HOSTB. -/
  ports : Tbl HostPort
  /-- Thimbles whose hold timer runs since their owner's port was lost (R462), rising. -/
  thmTimers : List Nat
  sec : Sec
  pins : Pins
  sup : Sup
  /-- The commands that wait, first in, first out. -/
  pending : List Instr
deriving DecidableEq, Repr

/-- What an unlisted byte of DRAM reads as (assumption log 2). -/
def Memory.blank : Byte := 0

/-- The canonical form of DRAM: addresses strictly rising, no entry equal to what an unlisted address reads as. -/
abbrev Memory.wf (m : List Host.Cell) : Bool := Tbl.wf Memory.blank m

/-- The machine right after reset. -/
def State.reset : State :=
  { regs := [], stag := [], hdrs := [], dram := [], poison := [], now := 0, free := 0, sent := [],
    pace := { rampFrom := 1, hist := [], short := [], below := [], overl := [], steps := [], since := none },
    asms := [], strms := [], benches := [], lutSlots := [],
    profiles := [], ctls := [],
    directs := [],
    zraws := [], stageIdx := [],
    encs := [],
    decs := [],
    pool := { bufs := [], lists := [], copies := [], cqLost := 0, doneNo := 0 },
    lays := [], heads := [], dpos := [], chks := [],
    nets := [], sess := [], flows := [],
    pkt := { pays := [], nextPay := 0, nextPart := 0, nextAge := 0, onchip := 0, spill := 0, replies := [], cmdMs := 0,
             cmdCount := 0 },
    clocks := [], doms := [], ppsIn := 0, ppsRise := 0,
    auds := [], trigger := none,
    mem := Mem.reset,
    ports := [], thmTimers := [],
    sec := Sec.reset,
    pins := { faultN := false, frayN := false, safeviewN := true, safeviewReqN := true, fsync := 0, trig := 0,
              ppsOut := false, vidDriven := false, resetN := false, held := true },
    sup := { mgmtReset := true, base := 0, missTimes := [], interval := 10, beatAt := 0, windowAt := 0, firstSeen := false,
             hot := 0, record := [], latched := false, engaged := false, svbPhase := 0, svbPairs := [], svbLines := [],
             quadTimes := [] },
    pending := [] }

end Sys2Proof.Machine
end

