-- ==== Sys2Proof/Machine/Regs.lean ====
section
/-! DEFINITION. The BAR0 map (R21, R22, R41), the reset value of every register, and the one place where registers are
read and written inside the part: `State.get`/`State.set` for the copy in effect, `State.getS`/`State.setS` for the
staged copy of RWS fields (R25). -/

namespace Sys2Proof.Machine

/-- Base address of a block's first instance (R41). -/
def blkBase : Block → Nat
  | .glb => 0x0000000 | .sup => 0x0001000 | .thm => 0x0002000 | .pace => 0x0003000 | .evt => 0x0004000
  | .svc => 0x0005000 | .sec => 0x0006000 | .host => 0x0010000 | .dma => 0x0012000 | .camp => 0x0020000
  | .cams => 0x0048000 | .cctl => 0x0050000 | .shut => 0x0080000 | .bench => 0x0090000 | .svb => 0x009C000
  | .lutm => 0x00A0000 | .strm => 0x0100000 | .zraw => 0x0400000 | .enc => 0x0410000 | .dec => 0x0450000
  | .bpool => 0x0470000 | .head => 0x0480000 | .layer => 0x0490000 | .dpo => 0x04D0000 | .chk => 0x04E0000
  | .net => 0x0500000 | .pkt => 0x0510000 | .time => 0x0520000 | .timel => 0x0524000 | .aud => 0x0530000
  | .amclk => 0x0540000 | .ddrc => 0x0580000 | .memx => 0x05C0000 | .session => 0x1000000

/-- Instances of a block (R16, R41). -/
def blkCount : Block → Nat
  | .host => 2 | .dma => 2 | .camp => 40 | .cams => 8 | .cctl => 48 | .bench => 6 | .strm => 48 | .zraw => 4
  | .enc => 4 | .dec => 2 | .head => 4 | .layer => 64 | .dpo => 8 | .net => 4 | .time => 4 | .aud => 16 | .ddrc => 4
  | .session => 4096 | _ => 1

/-- Pages of one instance's window (R21, R41). -/
def blkPages : Block → Nat
  | .bench => 2 | .svb => 2 | .strm => 16 | .enc => 16 | .dec => 16 | .ddrc => 16 | .shut => 16 | .lutm => 16
  | .bpool => 16 | .pkt => 16 | .memx => 16 | .chk => 32 | _ => 1

/-- Every block, in the order of the BAR0 map. -/
def allBlocks : List Block :=
  [.glb, .sup, .thm, .pace, .evt, .svc, .sec, .host, .dma, .camp, .cams, .cctl, .shut, .bench, .svb, .lutm, .strm,
   .zraw, .enc, .dec, .bpool, .head, .layer, .dpo, .chk, .net, .pkt, .time, .timel, .aud, .amclk, .ddrc, .memx, .session]

/-- PAGE_ID.BLOCK (R40). -/
def blkCode (b : Block) (n : Nat) : Nat :=
  match b with
  | .glb => 0x0001 | .sup => 0x0002 | .thm => 0x0003 | .pace => 0x0004 | .camp => 0x0010 | .cams => 0x0011
  | .cctl => 0x0012 | .shut => 0x0020 | .bench => 0x0021 | .svb => 0x0022 | .strm => 0x0023 | .lutm => 0x0024
  | .zraw => 0x0028 | .enc => 0x0030 | .dec => 0x0031 | .bpool => 0x0038 | .head => 0x0040 | .layer => 0x0041
  | .dpo => 0x0042 | .chk => 0x0048 | .net => 0x0050 | .pkt => 0x0051 | .time => 0x0052 | .timel => 0x0052
  | .aud => 0x0058 | .amclk => 0x0058 | .ddrc => 0x0060 | .memx => 0x0061 | .host => 0x0068 | .dma => 0x0069
  | .sec => 0x0070 | .svc => 0x0071 | .evt => 0x0072 | .session => 0x1000 + n

/-- PAGE_ID.INSTANCE (R24, R40). -/
def blkInst (b : Block) (n : Nat) : Nat :=
  match b with
  | .timel => 4 | .svb => 6 | .amclk => 0x10 | _ => n % 256

/-- PAGE_ID: block code, instance and version 0x01 (R24). -/
def pageIdWord (b : Block) (n : Nat) : Word :=
  BitVec.ofNat 32 (0x10000 * blkCode b n + 0x100 * blkInst b n + 0x01)

/-- First address of an instance's window. -/
def winBase (b : Block) (n : Nat) : Nat := (blkBase b) + n * ((blkPages b) * 0x1000)

/-- Address of a window offset of an instance. -/
def addrOf (b : Block) (n off : Nat) : Nat := winBase b n + off

/-- The key of an instance's header: the number of its primary page. -/
def pageKey (b : Block) (n : Nat) : Nat := winBase b n / 0x1000

/-- Where an address lies: block, instance and window offset; none for a reserved range (R41). -/
def locateIn (a : Nat) : List Block → Option (Block × Nat × Nat)
  | [] => none
  | b :: t =>
    if (blkBase b) ≤ a ∧ a < (blkBase b) + (blkCount b) * ((blkPages b) * 0x1000) then
      some (b, (a - (blkBase b)) / ((blkPages b) * 0x1000), (a - (blkBase b)) % ((blkPages b) * 0x1000))
    else locateIn a t

/-- Where a BAR0 address lies. -/
def locate (a : Nat) : Option (Block × Nat × Nat) := locateIn a allBlocks

/-- The indices of an offset within an array of registers: none if it is no element. -/
def arrayIndex (r : Nat) : List (Nat × Nat) → Option (List Nat)
  | [] => if r = 0 then some [] else none
  | (stride, count) :: t =>
    if stride = 0 then none
    else if r / stride < count then (arrayIndex (r % stride) t).map (fun l => (r / stride) :: l)
    else none

/-- The indices at which a window offset lies in a register row. -/
def RegRow.at? (row : RegRow) (off : Nat) : Option (List Nat) :=
  if off < row.off then none else arrayIndex (off - row.off) row.dims

/-- The register row that holds a window offset, with its indices. -/
def findRow (off : Nat) : List RegRow → Option (RegRow × List Nat)
  | [] => none
  | r :: t =>
    match r.at? off with
    | some ix => some (r, ix)
    | none => findRow off t

/-- Width of a field in bits. -/
def RegField.width (f : RegField) : Nat := f.hi + 1 - f.lo

/-- The bits of a field, as a mask of the register word. -/
def RegField.mask (f : RegField) : Nat := (2 ^ f.width - 1) * 2 ^ f.lo

/-- The reset value of a field of the array element with the given indices. -/
def RegField.resetAt (f : RegField) (ix : List Nat) : Nat :=
  match f.resets with
  | [v] => v
  | l => l.getD (ix.getLastD 0) 0

/-- The reset word of a register. -/
def rowReset (row : RegRow) (ix : List Nat) : Nat :=
  row.fields.foldl (fun a f => a + (f.resetAt ix % 2 ^ f.width) * 2 ^ f.lo) 0

/-- The reset value of the register at a window offset of an instance: the tables' values, with CCTLnn.CFG.STREAM = nn
(R110) and GLB.SILICON_REV as the stepping has it (R3). -/
def resetWord (b : Block) (n off : Nat) : Word :=
  match findRow off (regRows b) with
  | none => 0
  | some (row, ix) =>
    if b = .cctl ∧ off = 0x40 then BitVec.ofNat 32 (rowReset row ix + n * 256)
    else if b = .glb ∧ off = 0x44 then BitVec.ofNat 32 (Config.siliconRev % 256)
    else BitVec.ofNat 32 (rowReset row ix)

/-- The reset value of the register at a BAR0 address. -/
def resetAt (a : Nat) : Word :=
  match locate a with
  | none => 0
  | some (b, n, off) => resetWord b n off

/-- Bits of a register whose fields have one of the given access types. -/
def rowMask (row : RegRow) (p : Access → Bool) : Nat :=
  row.fields.foldl (fun a f => if p f.acc then a + f.mask else a) 0

/-- The RWS bits of the register at an address. -/
def rwsMaskAt (a : Nat) : Nat :=
  match locate a with
  | none => 0
  | some (b, _, off) =>
    match findRow off (regRows b) with
    | none => 0
    | some (row, _) => rowMask row (fun x => x == .rws)

/-- The word in effect of a register. -/
def State.word (s : State) (b : Block) (n off : Nat) : Word :=
  Tbl.get (resetWord b n off) s.regs (addrOf b n off)

/-- The staged word of a register. -/
def State.wordS (s : State) (b : Block) (n off : Nat) : Word :=
  Tbl.get (resetWord b n off) s.stag (addrOf b n off)

/-- Write the word in effect of a register; only an instance that exists has one. -/
def State.setWord (s : State) (b : Block) (n off : Nat) (v : Word) : State :=
  if n < blkCount b ∧ off < blkPages b * 0x1000 then
    { s with regs := Tbl.put (resetWord b n off) (addrOf b n off) v s.regs }
  else s

/-- Write the staged word of a register; only an instance that exists has one. -/
def State.setWordS (s : State) (b : Block) (n off : Nat) (v : Word) : State :=
  if n < blkCount b ∧ off < blkPages b * 0x1000 then
    { s with stag := Tbl.put (resetWord b n off) (addrOf b n off) v s.stag }
  else s

/-- The field of a word: `w` bits from bit `lo`. -/
def bitsOf (v : Word) (lo w : Nat) : Nat := v.toNat / 2 ^ lo % 2 ^ w

/-- A word with `w` bits from bit `lo` replaced (the new value modulo 2^w). -/
def withBits (v : Word) (lo w x : Nat) : Word :=
  BitVec.ofNat 32 (v.toNat - bitsOf v lo w * 2 ^ lo + (x % 2 ^ w) * 2 ^ lo)

/-- The field in effect of instance `n`. -/
def State.get (s : State) (n : Nat) (f : Fld) : Nat := bitsOf (s.word f.blk n f.off) f.lo f.w

/-- The staged field of instance `n`. -/
def State.getS (s : State) (n : Nat) (f : Fld) : Nat := bitsOf (s.wordS f.blk n f.off) f.lo f.w

/-- Write the field in effect of instance `n`, modulo its width. -/
def State.set (s : State) (n : Nat) (f : Fld) (x : Nat) : State :=
  s.setWord f.blk n f.off (withBits (s.word f.blk n f.off) f.lo f.w x)

/-- Write the staged field of instance `n`, modulo its width. -/
def State.setS (s : State) (n : Nat) (f : Fld) (x : Nat) : State :=
  s.setWordS f.blk n f.off (withBits (s.wordS f.blk n f.off) f.lo f.w x)

/-- One bit of a register as a truth value. -/
def State.flag (s : State) (n : Nat) (f : Fld) : Bool := s.get n f == 1

/-- Count up in a field: the field wraps at its width (the spec's "modulo 2^w"). -/
def State.inc (s : State) (n : Nat) (f : Fld) : State := s.set n f (s.get n f + 1)

/-- Count up in a field by `k`, wrapping. -/
def State.incBy (s : State) (n : Nat) (f : Fld) (k : Nat) : State := s.set n f (s.get n f + k)

/-- Count up in a field by `k`, saturating. -/
def State.incSat (s : State) (n : Nat) (f : Fld) (k : Nat) : State :=
  s.set n f (min (s.get n f + k) (2 ^ f.w - 1))

/-- Write a field, saturating at its width. -/
def State.setSat (s : State) (n : Nat) (f : Fld) (x : Nat) : State := s.set n f (min x (2 ^ f.w - 1))

/-- A Bool as a bit. -/
def bit (p : Bool) : Nat := if p then 1 else 0

/-- Set or clear bit `i` of a number. -/
def setBit (v i : Nat) (p : Bool) : Nat := v - (v / 2 ^ i % 2) * 2 ^ i + bit p * 2 ^ i

/-- Bit `i` of a number. -/
def getBit (v i : Nat) : Bool := v / 2 ^ i % 2 == 1

/-- Header of an instance (one for its whole window, R22). -/
def State.hdr (s : State) (b : Block) (n : Nat) : Header := Tbl.get Header.reset s.hdrs (pageKey b n)

/-- Write the header of an instance that exists. -/
def State.setHdr (s : State) (b : Block) (n : Nat) (h : Header) : State :=
  if n < blkCount b then { s with hdrs := Tbl.put Header.reset (pageKey b n) h s.hdrs } else s

/-- PAGE_STATUS.STATE of an instance. -/
def State.stateOf (s : State) (b : Block) (n : Nat) : Nat := (s.hdr b n).state

/-- Write PAGE_STATUS.STATE. -/
def State.setState (s : State) (b : Block) (n : Nat) (v : Nat) : State :=
  s.setHdr b n { s.hdr b n with state := v }

/-- PAGE_CTRL.ENABLE in effect (R536). -/
def State.enabled (s : State) (b : Block) (n : Nat) : Bool := (s.hdr b n).enable

/-- Put every register of a window, both copies, back to reset. -/
def State.clearWindow (s : State) (b : Block) (n : Nat) : State :=
  let lo := winBase b n
  let hi := lo + (if n < blkCount b then blkPages b * 0x1000 else 0)
  { s with regs := Tbl.dropIf (fun a => lo ≤ a && a < hi) s.regs,
           stag := Tbl.dropIf (fun a => lo ≤ a && a < hi) s.stag }

/-- The addresses of a window that either copy lists. -/
def State.windowKeys (s : State) (b : Block) (n : Nat) : List Nat :=
  let lo := winBase b n
  let hi := lo + (if n < blkCount b then blkPages b * 0x1000 else 0)
  (s.regs ++ s.stag).map (·.1) |>.filter (fun a => lo ≤ a && a < hi)

/-- The active copy of one register takes the staged value of its RWS fields (R25, R34). -/
def applyAt (a : Nat) (s : State) : State :=
  let m := rwsMaskAt a
  if m = 0 then s
  else
    let act := (Tbl.get (resetAt a) s.regs a).toNat
    let stg := (Tbl.get (resetAt a) s.stag a).toNat
    { s with regs := Tbl.put (resetAt a) a (BitVec.ofNat 32 ((act &&& (0xFFFFFFFF - m)) ||| (stg &&& m))) s.regs }

/-- The staged copy of one register takes the active value (R35). -/
def discardAt (a : Nat) (s : State) : State :=
  { s with stag := Tbl.put (resetAt a) a (Tbl.get (resetAt a) s.regs a) s.stag }

/-- Apply the staged values of one window, PAGE_CTRL.ENABLE with them (R34, R536). -/
def State.applyStaged (s : State) (b : Block) (n : Nat) : State :=
  let s := forEach (s.windowKeys b n) applyAt s
  s.setHdr b n { s.hdr b n with enable := (s.hdr b n).enableStaged }

/-- Replace the staged values of one window by the active ones, PAGE_CTRL.ENABLE with them (R35, R536). -/
def State.discardStaged (s : State) (b : Block) (n : Nat) : State :=
  let s := forEach (s.windowKeys b n) discardAt s
  s.setHdr b n { s.hdr b n with enableStaged := (s.hdr b n).enable }

/-- Blocks whose pages hold RWS fields and commit (R33): a LAYER page commits through its head. -/
def blkCommits : Block → Bool
  | .camp | .cams | .strm | .head | .enc | .ddrc | .time => true
  | _ => false

/-- Pages whose ENABLE and RWS fields are staged: the committing blocks and LAYER. -/
def blkStaged (b : Block) : Bool := (blkCommits b) || b == .layer

/-- The instance through whose page an instance commits (R33): a layer's head, else itself. -/
def commitOwner (b : Block) (n : Nat) : Block × Nat :=
  match b with
  | .layer => (.head, n / 16)
  | _ => (b, n)

/-- The layers of a head. -/
def headLayers (h : Nat) : List Nat := (List.range 16).map (fun i => 16 * h + i)

end Sys2Proof.Machine
end

