-- ==== Sys2Proof/Machine/Ops.lean ====
section
/-! DEFINITION. The operations every block shares: events and their notification (R36-R38), error recording (R30),
register writes into both copies (R25), commits (R34, R35), and DRAM with poison (R430, R437, R439). -/

namespace Sys2Proof.Machine

/-- Send something out. -/
def State.emit (s : State) (e : Emit) : State := { s with sent := e :: s.sent }

/-- TIMEL has reached `t` ns. -/
def State.at (s : State) (t : Nat) : State := { s with now := max s.now t }

/-! ### Events -/

/-- EVENT_PENDING reads RAW AND ENABLE (R24). -/
def Header.evPending (h : Header) : Word := h.raw &&& h.evEnable

/-- A host port. -/
def State.port (s : State) (p : Nat) : HostPort := Tbl.get HostPort.reset s.ports p

/-- Write a host port. -/
def State.setPort (s : State) (p : Nat) (x : HostPort) : State :=
  { s with ports := Tbl.put HostPort.reset p x s.ports }

/-- Send one MSI-X message: discarded while the link is down or MSI-X is disabled, held pending while the vector is
masked (R38, R458, R460). -/
def sendMsix (p vec : Nat) (s : State) : State :=
  let h := s.port p
  if s.get p Reg.host_LINK_STATUS_UP = 0 ∨ !h.msixOn then s
  else if h.unmasked.contains vec then s.emit (.msix p vec)
  else s.setPort p { h with msixPending := insertNat vec h.msixPending }

/-- The notification of a page (R37): one message for each host port that EVENT_ROUTE names, and one notice to the
keeper if KEEPER is set; while the management complex is in reset the notice waits in EVENT_PENDING (R495). -/
def notify (b : Block) (n : Nat) (s : State) : State :=
  let r := (s.hdr b n).route
  let vec := bitsOf r 16 10
  let s := if getBit r.toNat 0 then sendMsix 0 vec s else s
  let s := if getBit r.toNat 1 then sendMsix 1 vec s else s
  if getBit r.toNat 2 ∧ !s.sup.mgmtReset then s.emit (.keeperNotice (pageKey b n)) else s

/-- Raise event `e` of a page: its RAW bit is set, and the page notifies when EVENT_PENDING leaves zero (R24, R37). -/
def raise (b : Block) (n e : Nat) (s : State) : State :=
  let h := s.hdr b n
  let h' := { h with raw := h.raw ||| BitVec.ofNat 32 (2 ^ e) }
  let s := s.setHdr b n h'
  if h.evPending = 0 ∧ h'.evPending ≠ 0 then notify b n s else s

/-- Raise an event when a condition holds. -/
def raiseIf (c : Bool) (b : Block) (n e : Nat) (s : State) : State := if c then raise b n e s else s

/-! ### Errors -/

/-- Record an error of an access: the first one stays until it is cleared, a later one sets ERR_LOST (R30). -/
def logAccess (b : Block) (n code origin off detail : Nat) (s : State) : State :=
  let h := s.hdr b n
  if h.errCode ≠ 0 then s.setHdr b n { h with errLost := true }
  else
    raise b n 29 (s.setHdr b n { h with errCode := code, errOrigin := origin, errOff := off % 0x1000,
                                        errDetail := detail, errPage := off / 0x1000 % 16 })

/-- Record an error that the block raises itself: ORIGIN, OFFSET and ERR_PAGE read 0 (R24). -/
def logError (b : Block) (n code detail : Nat) (s : State) : State := logAccess b n code 0 0 detail s

/-! ### Register words -/

/-- Store the RW fields of a written word in the copy in effect, and the RWS fields in the staged copy (R25). -/
def storeFields (b : Block) (n off : Nat) (row : RegRow) (v : Word) (s : State) : State :=
  let rw := rowMask row (fun x => x == .rw)
  let rws := rowMask row (fun x => x == .rws)
  let s := if rw = 0 then s
    else s.setWord b n off (BitVec.ofNat 32 (((s.word b n off).toNat &&& (0xFFFFFFFF - rw)) ||| (v.toNat &&& rw)))
  if rws = 0 then s
  else s.setWordS b n off (BitVec.ofNat 32 (((s.wordS b n off).toNat &&& (0xFFFFFFFF - rws)) ||| (v.toNat &&& rws)))

/-- Whether a value lies in a stated range. -/
def Range.ok (r : Range) (v : Nat) : Bool :=
  match r with
  | .any => true
  | .between lo hi => lo ≤ v && v ≤ hi
  | .multiple m lo hi => lo ≤ v && v ≤ hi && v % m == 0
  | .signed w lo hi => decide (lo ≤ toSigned w v) && decide (toSigned w v ≤ hi)
  | .oneOf l => l.contains v
  | .permutation4 => [0, 1, 2, 3].all (fun x => [0, 1, 2, 3].any (fun i => v / 4 ^ i % 4 == x))

/-- Whether every written field of a register lies in its range (R28). -/
def rowInRange (row : RegRow) (v : Word) : Bool :=
  row.fields.all (fun f => f.acc == .ro || f.range.ok (bitsOf v f.lo f.width))

/-! ### Commits -/

/-- The instances of a commit group (R33, the table of commit boundaries). -/
def commitGroup (b : Block) (n : Nat) : List (Block × Nat) :=
  match b with
  | .head => (Block.head, n) :: (headLayers n).map (fun l => (Block.layer, l))
  | _ => [(b, n)]

/-- The group's staged values become the values in effect. -/
def applyGroup (b : Block) (n : Nat) (s : State) : State :=
  forEach (commitGroup b n) (fun x s => s.applyStaged x.1 x.2) s

/-- The group's staged values become the values in effect again (R35). -/
def discardGroup (b : Block) (n : Nat) (s : State) : State :=
  forEach (commitGroup b n) (fun x s => s.discardStaged x.1 x.2) s

/-- A commit request accepted: SEQUENCE counts, OUTCOME is pending and the staged check begins (R34). -/
def commitRequest (b : Block) (n : Nat) (s : State) : State :=
  let h := s.hdr b n
  s.setHdr b n { h with seq := (h.seq + 1) % 65536, outcome := 1, reason := 0, pendingCommit := true,
                        checked := false, deferredOnce := false, busy := true }

/-- The end of a commit that is rejected (R34): OUTCOME 4, REASON, COMMIT_DONE; staged values stay staged. -/
def commitReject (b : Block) (n code detail : Nat) (s : State) : State :=
  let h := s.hdr b n
  let s := s.setHdr b n { h with outcome := 4, reason := code, pendingCommit := false, checked := false, busy := false }
  let s := logError b n code detail s
  raise b n 31 s

/-- The end of a commit that is applied (R34): OUTCOME 2, COMMIT_DONE. -/
def commitDone (b : Block) (n : Nat) (s : State) : State :=
  let h := s.hdr b n
  let s := s.setHdr b n { h with outcome := 2, reason := 0, pendingCommit := false, checked := false, busy := false }
  raise b n 31 s

/-- A commit deferred to the next boundary (R34): OUTCOME 3 and REASON; COMMIT_DEFERRED the first time (R36). -/
def commitDefer (b : Block) (n code : Nat) (s : State) : State :=
  let h := s.hdr b n
  let s := s.setHdr b n { h with outcome := 3, reason := code, deferredOnce := true }
  raiseIf (!h.deferredOnce) b n 30 s

/-- ABORT (R35): a pending commit ends unapplied, OUTCOME returns to 0, staged values return to those in effect. -/
def commitAbort (b : Block) (n : Nat) (s : State) : State :=
  let h := s.hdr b n
  let s := if h.pendingCommit then
      s.setHdr b n { h with outcome := 0, reason := 0, pendingCommit := false, checked := false, busy := false }
    else s
  discardGroup b n s

/-! ### DRAM -/

/-- One byte of DRAM as stored. -/
def memGet (m : List Host.Cell) (a : Nat) : Byte := Tbl.get Memory.blank m a

/-- DRAM with one byte written. -/
def memPut (m : List Host.Cell) (a : Nat) (v : Byte) : List Host.Cell := Tbl.put Memory.blank a v m

/-- `n` bytes from address `a`. -/
def memBytes (m : List Host.Cell) (a : Nat) : Nat → List Byte
  | 0 => []
  | n + 1 => memGet m a :: memBytes m (a + 1) n

/-- DRAM with bytes written from address `a`. -/
def memWrite (m : List Host.Cell) (a : Nat) : List Byte → List Host.Cell
  | [] => m
  | b :: t => memWrite (memPut m a b) (a + 1) t

/-- The rank capacity of a subchannel's ranks in bytes (R428). -/
def rankBytes (s : State) (sub : Nat) : Nat :=
  let c := sub / 2
  let k := sub % 2
  let wide := s.get c (Reg.ddrc_POP_WIDTH_0.up (8 * k))
  let dens := s.get c (Reg.ddrc_POP_DENSITY_0.up (8 * k))
  2 ^ 30 * ((if wide = 1 then 4 else 8) * 2 ^ dens)

/-- The role of a rank: 0 absent, 1 in service, 2 spare, 3 retired (R429). -/
def rankRole (s : State) (r : Nat) : Nat := s.get 0 (Reg.memx_RANK_ROLE_ROLE_0.up (2 * r))

/-- The in-service subchannels, ascending (R430). -/
def inService (s : State) : List Nat :=
  (List.range 8).filter (fun sub => getBit (s.get 0 Reg.memx_MAP_MASK) sub)

/-- Ranks of a subchannel that the address map holds (R430); a relined one is served by its spare at the same addresses. -/
def subRanks (s : State) (sub : Nat) : List Nat :=
  [2 * sub, 2 * sub + 1].filter (fun r => getBit s.mem.ranks r)

/-- The in-service capacity in bytes (R429, R430). -/
def dramCapacity (s : State) : Nat :=
  (inService s).foldl (fun a sub => a + (subRanks s sub).length * rankBytes s sub) 0

/-- The rank that serves an address, and its local address in it (R430). -/
def rankOf (s : State) (a : Nat) : Nat × Nat :=
  let subs := inService s
  let n := subs.length
  let sub := subs.getD (a / 256 % n) 0
  let l := a / (256 * n) * 256 + a % 256
  let c := rankBytes s sub
  let slot := if l ≥ c then 1 else 0
  ((subRanks s sub).getD slot (2 * sub), l - slot * c)

/-- Requester of a DRAM access (MEMX.ERR_INFO.ORIGIN): 0 block, 1 HOST_A, 2 HOST_B, 3 scrub, 4 relining. -/
abbrev Requester := Nat

/-- Log the last bad access in MEMX.ERR_* (R430, R437). -/
def logMem (a cls rank : Nat) (who : Requester) (s : State) : State :=
  let s := s.set 0 Reg.memx_ERR_ADDR_LO_ADDR (a % 2 ^ 32)
  let s := s.set 0 Reg.memx_ERR_ADDR_HI_ADDR (a / 2 ^ 32 % 256)
  let s := s.set 0 Reg.memx_ERR_INFO_CLASS cls
  let s := s.set 0 Reg.memx_ERR_INFO_RANK rank
  s.set 0 Reg.memx_ERR_INFO_ORIGIN who

/-- The rank that serves a rank's local address: its spare once it is relined, and during relining below the watermark
(R430, R448). -/
def servingRank (s : State) (r loc : Nat) : Nat :=
  let p := match Tbl.get 0 s.mem.served r with
    | 0 => r
    | k + 1 => k
  match s.mem.reline with
  | some j => if j.src = p ∧ loc / 1048576 < j.watermark then j.dst else p
  | none => p

/-- Whether a rank's subchannel has failed. -/
def rankFailed (s : State) (r : Nat) : Bool :=
  s.get (r / 4) (Reg.ddrc_SUB_STATUS_STATE_0.up (8 * (r / 2 % 2))) == 3

/-- Whether an address lies on a subchannel that failed: its accesses complete as poisoned (R450). -/
def addrFailed (s : State) (a : Nat) : Bool :=
  let (r, loc) := rankOf s a
  rankFailed s (servingRank s r loc)

/-- Whether any line of a range is poisoned or out of reach. -/
def rangePoisoned (s : State) (a n : Nat) : Bool :=
  n ≠ 0 && (a + n > dramCapacity s || s.poison.any (fun l => a / 64 ≤ l && l ≤ (a + n - 1) / 64)
    || (addrFailed s a))

/-- Read `n` bytes: the data, whether it reads as poisoned, and the log of an access beyond the capacity (R430, R439). -/
def dramRead (who : Requester) (a n : Nat) (s : State) : List Byte × Bool × State :=
  let p := rangePoisoned s a n
  let s' := if n ≠ 0 ∧ a + n > dramCapacity s then logMem (max a (dramCapacity s)) 5 0 who s else s
  (memBytes s.dram a n, p, s')

/-- Lines that a range covers whole. -/
def fullLines (a n : Nat) : List Nat :=
  let lo := ceilDiv a 64
  let hi := (a + n) / 64
  (List.range (hi - lo)).map (· + lo)

/-- The bytes of a range that lie on no poisoned line. -/
def memWriteAround (bad : List Nat) (m : List Host.Cell) (a : Nat) : List Byte → List Host.Cell
  | [] => m
  | b :: t => memWriteAround bad (if bad.contains (a / 64) then m else memPut m a b) (a + 1) t

/-- Write bytes: a full line replaces poison, a partial write to a poisoned line leaves it poisoned, and an access beyond
the capacity writes nothing and is logged with class 5 (R430, R439). -/
def dramWrite (who : Requester) (a : Nat) (data : List Byte) (s : State) : State :=
  if data = [] then s
  else if a + data.length > dramCapacity s then logMem (max a (dramCapacity s)) 5 0 who s
  else
    let full := fullLines a data.length
    let poison := s.poison.filter (fun l => !full.contains l)
    { s with dram := memWriteAround poison s.dram a data, poison := poison }

/-- Write the lines that a range touches as poisoned (R439, R455, R466). -/
def dramPoison (who : Requester) (a n : Nat) (s : State) : State :=
  if n = 0 then s
  else if a + n > dramCapacity s then logMem (max a (dramCapacity s)) 5 0 who s
  else
    let lines := (List.range ((a + n - 1) / 64 + 1 - a / 64)).map (· + a / 64)
    { s with poison := forEach lines insertNat s.poison }

/-- The 40-bit DRAM address in a pair of LO and HI registers: LO holds the low bits in place. -/
def addrReg (s : State) (n : Nat) (lo hi : Fld) : Nat :=
  2 ^ lo.lo * s.get n lo + 2 ^ 32 * s.get n hi

/-- The staged 40-bit DRAM address in a pair of LO and HI registers. -/
def addrRegS (s : State) (n : Nat) (lo hi : Fld) : Nat :=
  2 ^ lo.lo * s.getS n lo + 2 ^ 32 * s.getS n hi

/-- The next free value's number (assumption log 3). -/
def State.fresh (s : State) : State := { s with free := s.free + 1 }

end Sys2Proof.Machine
end

