-- ==== Sys2Proof/Machine/Pace.lean ====
section
/-! DEFINITION. Voltage modes, pace monitors, admission and shedding (chapter 3: R44-R61). Pace figures are in units of
1/16 MTok/s (R50); demands are compared in half units, because a HALVED stream counts half its demand (R56). -/

namespace Sys2Proof.Machine

/-- VID code of a mode (R44). -/
def modeVid (m : Nat) : Nat := if m = 0 then 6 else if m = 1 then 11 else 15

/-- The mode that admission and capacity figures use: the lower one during a ramp (R47). -/
def modeNow (s : State) : Nat :=
  let cur := s.get 0 Reg.pace_MODE_CURRENT
  if s.stateOf .pace 0 = 1 then min s.pace.rampFrom (s.get 0 Reg.pace_MODE_REQ) else cur

/-- The guaranteed figure of R49 of a monitor's block in a mode. -/
def guaranteed (mm mode : Nat) : Nat :=
  let nominal := if mm < 6 ∨ 16 ≤ mm then 12800 else if mm < 12 then 4000 else 8800
  if mode = 0 then nominal * 70 / 100 else if mode = 1 then nominal else nominal * 125 / 100

/-- Guaranteed bench rate of a mode in Msample/s (R49). -/
def benchRate (mode : Nat) : Nat := if mode = 0 then 2240 else if mode = 1 then 3200 else 4000

/-- Minimum pace of a monitor over WINDOW_MS before `t`; none while the window holds no completed interval (R50). -/
def minPace (s : State) (mm : Nat) (t : Time) : Option Nat :=
  let w := msT (s.get 0 Reg.pace_ADMIT_CFG_WINDOW_MS)
  (s.pace.hist.filter (fun e => t < e.1 + w)).foldl
    (fun a e => let p := e.2.getD mm 0; some (match a with | none => p | some q => min p q)) none

/-- Admission capacity of a monitor's block in a mode, in 1/100 of a unit (R52, R48). -/
def capacity100 (s : State) (mm mode : Nat) : Nat :=
  let g := s.get 0 Reg.pace_ADMIT_CFG_GUARD
  let benchLike := mm < 6 ∨ 16 ≤ mm
  if benchLike then
    let assured := guaranteed mm mode * (100 - g)
    if s.get 0 Reg.pace_ADMIT_CFG_POLICY = 0 then assured
    else match minPace s mm s.now with
      | none => assured
      | some p => p * (100 - g) * guaranteed mm mode / guaranteed mm (modeNow s)
  else guaranteed mm mode * 100

/-- Capacity of the bench pool, in 1/100 of a unit (R52). -/
def poolCapacity100 (s : State) (mode : Nat) : Nat :=
  (List.range 6).foldl (fun a b => a + capacity100 s b mode) 0

/-! ### Demand (R51) -/

/-- Streams in service. -/
def liveStreams (s : State) : List Nat := (List.range 48).filter (fun n => s.enabled .strm n)

/-- Whether a stream is bound to bench `b`: static affinity. -/
def boundTo (s : State) (n b : Nat) : Bool :=
  s.get n Reg.strm_SCHED_AFFINITY == 1 && s.get n Reg.strm_SCHED_BENCH == b

/-- Demand of a stream: width × height × exposures × rate × (1 + overhead), in 1/16 MTok/s, rounded up (R51). -/
def streamDemand (w h e mhz ovh : Nat) : Nat := ceilDiv (w * h * e * mhz * (100 + ovh) * 16) 400000000000

/-- Admitted demand of a stream in service. -/
def admitted (s : State) (n : Nat) : Nat := if s.enabled .strm n then s.get n Reg.strm_DEMAND_DEMAND else 0

/-- Demand of the bench pool, streams counted as FULL. -/
def poolDemand (s : State) : Nat := (liveStreams s).foldl (fun a n => a + admitted s n) 0

/-- Demand bound to a bench. -/
def benchDemand (s : State) (b : Nat) : Nat :=
  ((liveStreams s).filter (fun n => boundTo s n b)).foldl (fun a n => a + admitted s n) 0

/-- Every frame assembler: (block, port, entry). -/
def allEntries : List (Block × Nat × Nat) :=
  (List.range 40).map (fun p => (Block.camp, p, 0)) ++
  (List.range 8).flatMap (fun p => (List.range 16).map (fun e => (Block.cams, p, e)))

/-- A field of an entry: CAMP ports have one entry, CAMS ports have 16 (R91). -/
def entFld (b : Block) (camp cams : Fld) (e : Nat) : Fld := if b = .cams then cams.at (0x40 * e) else camp

/-- The valid entry that binds exposure `x` of a stream, in the values in effect. -/
def entryOf (s : State) (n x : Nat) : Option (Block × Nat × Nat) :=
  (allEntries).find? (fun (b, p, e) =>
    s.get p (entFld b Reg.camp_ENT_MAP_VALID Reg.cams_ENT_MAP_VALID e) == 1 &&
    s.get p (entFld b Reg.camp_ENT_MAP_STREAM Reg.cams_ENT_MAP_STREAM e) == n &&
    s.get p (entFld b Reg.camp_ENT_MAP_EXP Reg.cams_ENT_MAP_EXP e) == x)

/-- Whether a stream's source has a YUV format (R70), in the values in effect. -/
def streamYuv (s : State) (n : Nat) : Bool :=
  match entryOf s n 0 with
  | some (.cams, p, e) =>
    let dt := s.get p (Reg.cams_ENT_MAP_DT.at (0x40 * e))
    dt == 0x1E || dt == 0x1F
  | some (_, p, _) => s.get p Reg.camp_BUS_CFG_FORMAT != 0
  | none => false

/-- Frame width of a stream in pixels (R192). -/
def pixelWidth (s : State) (n : Nat) : Nat :=
  let w := s.get n Reg.strm_ADMIT_GEOM_WIDTH
  if streamYuv s n then w / 2 else w

/-- Crop and output size of a tap, with its zeros resolved (R192): X0, Y0, W, H, WOUT, HOUT. -/
structure TapGeom where
  x0 : Nat
  y0 : Nat
  w : Nat
  h : Nat
  wout : Nat
  hout : Nat
deriving DecidableEq, Repr

/-- The geometry of tap `k` of stream `n`. -/
def tapGeom (s : State) (n k : Nat) : TapGeom :=
  let d := 0x20 * k
  let x0 := s.get n (Reg.strm_TAP_CROP_POS_X0.at d)
  let y0 := s.get n (Reg.strm_TAP_CROP_POS_Y0.at d)
  let w := s.get n (Reg.strm_TAP_CROP_SIZE_W.at d)
  let h := s.get n (Reg.strm_TAP_CROP_SIZE_H.at d)
  let w := if w = 0 then pixelWidth s n - x0 else w
  let h := if h = 0 then s.get n Reg.strm_ADMIT_GEOM_HEIGHT - y0 else h
  let wo := s.get n (Reg.strm_TAP_OUT_SIZE_WOUT.at d)
  let ho := s.get n (Reg.strm_TAP_OUT_SIZE_HOUT.at d)
  ⟨x0, y0, w, h, if wo = 0 then w else wo, if ho = 0 then h else ho⟩

/-- The tap of an enabled stream that feeds an encode context, as (stream, tap) (R246). -/
def feedingTap (s : State) (c : Nat) : Option (Nat × Nat) :=
  (liveStreams s).findSome? (fun n => (List.range 4).findSome? (fun k =>
    let d := 0x20 * k
    if s.get n (Reg.strm_TAP_CTRL_EN.at d) = 1 ∧ s.get n (Reg.strm_TAP_CTRL_DEST.at d) = 2
      ∧ s.get n (Reg.strm_TAP_CTRL_TARGET.at d) = c then some (n, k) else none))

/-- Picture rate of an encode context in 0.001 Hz as numerator and denominator (R246). -/
def contextRate (s : State) (c : Nat) : Nat × Nat :=
  match feedingTap s c with
  | none => (0, 1)
  | some (n, k) => (s.get n Reg.strm_ADMIT_RATE_FPS_MHZ, s.get n (Reg.strm_TAP_CTRL_DECIM.at (0x20 * k)) + 1)

/-- Demand of an encode context in 10^-3 pixels per second × 720720, which every DECIM + 1 divides (R246). -/
def contextDemand (s : State) (c : Nat) : Nat :=
  match feedingTap s c with
  | none => 0
  | some (n, k) =>
    let g := tapGeom s n k
    let (r, d) := contextRate s c
    g.wout * g.hout * r * (720720 / d)

/-- Offset of context `i` (0-31) in an encoder's or decoder's window (R270, R290). -/
def ctxOff (i : Nat) : Nat := 0x1000 * (i / 8) + 0x100 * (i % 8)

/-- Whether an encode context is enabled. -/
def contextOn (s : State) (c : Nat) : Bool :=
  s.get (c / 32) (Reg.enc_CTX_CFG_EN.at (ctxOff (c % 32))) == 1

/-- Demand of an encoder over its enabled contexts (R51, R246), in 10^-3 pixels per second × 720720. -/
def encDemand (s : State) (e : Nat) : Nat :=
  ((List.range 32).filter (fun i => contextOn s (32 * e + i))).foldl (fun a i => a + contextDemand s (32 * e + i)) 0

/-- Units of 1/16 MTok/s (four pixels to a token) in 10^-3 pixels per second × 720720, rounded up. -/
def encUnits (d : Nat) : Nat := ceilDiv d (720720 * 250000000)

/-- Whether the engines of a pair are ganged (R247). -/
def ganged (s : State) (e : Nat) : Bool := s.get (e / 2 * 2) Reg.enc_ENGINE_CFG_GANG == 1

/-- Demand of a head: active width × active height × refresh rate (R51), in pixels per second, rounded up. -/
def headDemandPix (s : State) (h : Nat) : Nat :=
  if s.enabled .head h then
    let tot := s.get h Reg.head_H_TIMING_H_TOTAL * s.get h Reg.head_V_TIMING_V_TOTAL
    let px := s.get h Reg.head_H_TIMING_H_ACTIVE * s.get h Reg.head_V_TIMING_V_ACTIVE
    if tot = 0 then 0
    else ceilDiv (px * (65536 * s.get h Reg.head_PCLK_HZ_HZ + s.get h Reg.head_PCLK_FRAC_FRAC)) (65536 * tot)
  else 0

/-- Demand of a head in 1/16 MTok/s, rounded up. -/
def headUnits (s : State) (h : Nat) : Nat := ceilDiv (headDemandPix s h) 250000

/-- DEMAND of a monitor (R60). -/
def monDemand (s : State) (mm : Nat) : Nat :=
  if mm < 6 then benchDemand s mm
  else if mm < 10 then encUnits (encDemand s (mm - 6))
  else if 12 ≤ mm ∧ mm < 16 then headUnits s (mm - 12)
  else 0

/-- Monitor of an encoder, head check: whether the block's demand exceeds its capacity in a mode. A ganged pair counts as
one block with the sum of both capacities (R52). -/
def monOverCap (s : State) (mm mode : Nat) : Bool :=
  if mm < 6 then decide (benchDemand s mm * 100 > capacity100 s mm mode)
  else if mm < 10 then
    let e := mm - 6
    if ganged s e then
      decide (encDemand s (e / 2 * 2) + encDemand s (e / 2 * 2 + 1) > 180180000000000 * (2 * guaranteed mm mode))
    else decide (encDemand s e > 180180000000000 * guaranteed mm mode)
  else if 12 ≤ mm ∧ mm < 16 then decide (headDemandPix s (mm - 12) > 250000 * guaranteed mm mode)
  else false

/-! ### R131: who may share a bench with a line-locked stream -/

/-- Enabled class 0 stream bound to a bench. -/
def pinnedStream (s : State) (b : Nat) : Option Nat :=
  (liveStreams s).find? (fun n => s.get n Reg.strm_SCHED_CLASS == 0 && boundTo s n b)

/-- Whether stream `n` may run on a bench that carries class 0 stream `p`: its row time is at most the row period of `p`
in the mode (R131). -/
def mayShare (s : State) (n p mode : Nat) : Bool :=
  let samples := s.get n Reg.strm_ADMIT_GEOM_WIDTH * s.get n Reg.strm_ADMIT_RATE_EXPOSURES
  match entryOf s p 0 with
  | some (b, q, e) =>
    decide (1000 * samples ≤ s.get q (entFld b Reg.camp_ENT_TIMING_LINE_NS Reg.cams_ENT_TIMING_LINE_NS e) * benchRate mode)
  | none =>
    decide (1000 * samples * s.get p Reg.strm_ADMIT_RATE_FPS_MHZ * s.get p Reg.strm_ADMIT_GEOM_HEIGHT
      ≤ 1000000000000 * benchRate mode)

/-- Whether a stream is allowed on a bench by R131 in a mode. -/
def allowedOn (s : State) (n b mode : Nat) : Bool :=
  match pinnedStream s b with
  | none => true
  | some p => p == n || mayShare s n p mode

/-- The static streams that R131 turns away in a mode, ascending, with their benches. -/
def staticMisfits (s : State) (mode : Nat) : List (Nat × Nat) :=
  ((liveStreams s).filter (fun n => s.get n Reg.strm_SCHED_AFFINITY == 1 && s.get n Reg.strm_SCHED_CLASS != 0)).filterMap
    (fun n => let b := s.get n Reg.strm_SCHED_BENCH; if allowedOn s n b mode then none else some (n, b))

/-! ### The PACE page's reports -/

/-- Shed state of a stream: 0 FULL, 1 HALVED, 2 SUSPENDED (R55). -/
def shedState (s : State) (n : Nat) : Nat := s.get 0 ((Reg.pace_SHED_MAP_STATE_0.at (4 * (n / 16))).up (2 * (n % 16)))

/-- Write the shed state of a stream. -/
def setShed (n v : Nat) (s : State) : State := s.set 0 ((Reg.pace_SHED_MAP_STATE_0.at (4 * (n / 16))).up (2 * (n % 16))) v

/-- Shed rank of a stream. -/
def shedRank (s : State) (n : Nat) : Nat := s.get 0 ((Reg.pace_SHED_RANK_RANK_0.at (4 * (n / 8))).up (4 * (n % 8)))

/-- What a stream asks of the benches: its admitted demand, or the demand of its measured rate while that is above the admitted
one (R78). -/
def working (s : State) (n : Nat) : Nat :=
  match entryOf s n 0 with
  | none => admitted s n
  | some (b, p, e) =>
    match (Tbl.get Asm.reset s.asms (if b = .cams then 40 + 16 * p + e else p)).fast with
    | none => admitted s n
    | some period =>
      let size := s.get p (entFld b Reg.camp_ENT_SIZE_WIDTH Reg.cams_ENT_SIZE_WIDTH e)
        * s.get p (entFld b Reg.camp_ENT_SIZE_HEIGHT Reg.cams_ENT_SIZE_HEIGHT e) * s.get n Reg.strm_ADMIT_RATE_EXPOSURES
      let ovh := (Tbl.get Strm.reset s.strms n).ovh
      if s.enabled .strm n then max (admitted s n) (ceilDiv (1048576000000000000 * (size * (100 + ovh))) (400000000000 * period))
      else 0

/-- Effective demand of a stream in half units (R55). -/
def effective2 (s : State) (n : Nat) : Nat := working s n * (2 - shedState s n)

/-- Effective demand of a list of streams in half units. -/
def effectiveOf (s : State) (l : List Nat) : Nat := l.foldl (fun a n => a + effective2 s n) 0

/-- Recompute ACTIVE and LOWEST of SHED_STATUS. -/
def refreshShed (s : State) : State :=
  let shed := (liveStreams s).filter (fun n => shedState s n ≠ 0)
  let s := s.set 0 Reg.pace_SHED_STATUS_ACTIVE (bit (!shed.isEmpty))
  if shed.isEmpty then s
  else s.set 0 Reg.pace_SHED_STATUS_LOWEST (shed.foldl (fun a n => max a (s.get n Reg.strm_SCHED_CLASS)) 0)

/-- Recompute the capacity, demand, minimum and margin registers (R60). -/
def refreshPace (s : State) : State :=
  let mode := modeNow s
  let s := s.setSat 0 Reg.pace_BENCH_CAP_CAP (poolCapacity100 s mode / 100)
  let s := s.setSat 0 Reg.pace_BENCH_DEMAND_DEMAND (poolDemand s)
  forEach (List.range 20) (fun mm s =>
    let d := monDemand s mm
    let s := s.set 0 (Reg.pace_MON_MIN_PACE.at (0x20 * mm)) (((minPace s mm s.now).getD 0) % 65536)
    let s := s.setSat 0 (Reg.pace_MON_DEMAND_DEMAND.at (0x20 * mm)) d
    let m : Int := ((capacity100 s mm mode / 100 : Nat) : Int) - (d : Int)
    s.set 0 (Reg.pace_MON_MARGIN_MARGIN.at (0x20 * mm)) (satSigned 16 m)) s

/-! ### Admission (R53, R54) -/

/-- Whether a change from configuration `s` to `s'` raises a figure beyond its limit: a commit that lowers or keeps a
demand never fails that check (R54). -/
def raised (d d' : Nat) (ov : Bool) : Bool := decide (d < d') && ov

/-- The R53 checks on benches and encoders for a change of configuration: true if it is refused. -/
def refusesWork (s s' : State) : Bool :=
  let mode := modeNow s
  raised (poolDemand s) (poolDemand s') (decide (poolDemand s' * 100 > poolCapacity100 s mode))
  || (List.range 6).any (fun b => raised (benchDemand s b) (benchDemand s' b) (monOverCap s' b mode))
  || (List.range 6).any (fun b => decide (((liveStreams s').filter
      (fun n => s'.get n Reg.strm_SCHED_CLASS == 0 && boundTo s' n b)).length > 1))
  || (List.range 4).any (fun e => raised (encDemand s e) (encDemand s' e) (monOverCap s' (6 + e) mode))
  || raised (poolDemand s) (poolDemand s') ((liveStreams s).any (fun n => shedState s n ≠ 0))

/-- The R53 check on a head: true if the change is refused. -/
def refusesHead (s s' : State) (h : Nat) : Bool :=
  raised (headDemandPix s h) (headDemandPix s' h) (monOverCap s' (12 + h) (modeNow s))

/-! ### Mode ramps -/

/-- The check of R48 that refuses a lower mode, with its DETAIL. -/
def modeRefusal (s : State) (mode : Nat) : Option Nat :=
  if s.get 0 Reg.pace_MODE_CURRENT ≤ mode then none
  else if poolDemand s * 100 > poolCapacity100 s mode then some 0xFF
  else match (List.range 16).find? (fun mm => monOverCap s mm mode) with
    | some mm => some mm
    | none => (staticMisfits s mode).head?.map (·.2)

/-- A write of MODE.REQ past the write checks (R46-R48): the new state. -/
def writeMode (origin : Nat) (v : Word) (s : State) : State :=
  let m := bitsOf v 0 2
  if s.stateOf .pace 0 = 1 then logAccess .pace 0 0x10 origin 0x40 0 s
  else if m = s.get 0 Reg.pace_MODE_CURRENT then s.set 0 Reg.pace_MODE_REQ m
  else match modeRefusal s m with
    | some d => logAccess .pace 0 0x10 origin 0x40 d s
    | none =>
      let s := { s with pace := { s.pace with rampFrom := s.get 0 Reg.pace_MODE_CURRENT, since := s.pace.since } }
      let s := s.set 0 Reg.pace_MODE_REQ m
      let s := s.set 0 Reg.pace_MODE_VID (modeVid m)
      refreshPace (s.setState .pace 0 1)

/-- The end of a ramp (R46, R50): no effect without one. -/
def rampDone (t : Time) (s : State) : State :=
  let s := s.at t
  if s.stateOf .pace 0 ≠ 1 then s
  else
    let s := s.setState .pace 0 0
    let s := s.set 0 Reg.pace_MODE_CURRENT (s.get 0 Reg.pace_MODE_REQ)
    let s := { s with pace := { s.pace with hist := [] } }
    raise .pace 0 0 (refreshPace s)

/-! ### Shedding -/

/-- Take a step: SHED or RESTORE (R58). -/
def countStep (n e : Nat) (s : State) : State :=
  let s := s.inc 0 Reg.pace_SHED_STATUS_STEPS
  let s := s.set 0 Reg.pace_SHED_STATUS_LAST_STREAM n
  raise .pace 0 e (refreshShed s)

/-- One shed step on a stream (R55, R56). -/
def shedStep (n : Nat) (s : State) : State :=
  let s := setShed n (shedState s n + 1) s
  let s := { s with pace := { s.pace with steps := n :: s.pace.steps, since := none } }
  countStep n 1 s

/-- Insert a stream by rank high to low, then stream number high to low (R56). -/
def insertShed (s : State) (n : Nat) : List Nat → List Nat
  | [] => [n]
  | m :: l =>
    if shedRank s m < shedRank s n ∨ (shedRank s m = shedRank s n ∧ m < n) then n :: m :: l
    else m :: insertShed s n l

/-- The streams of a class in shedding order. -/
def shedOrder (s : State) (l : List Nat) (cls : Nat) : List Nat :=
  (l.filter (fun n => s.get n Reg.strm_SCHED_CLASS == cls)).foldl (fun a n => insertShed s n a) []

/-- One pass of R56 over a list of streams: those in state `st` step until the deficit (half units) is covered. -/
def shedPass (st : Nat) (l : List Nat) (d : Int) (s : State) : Int × State :=
  l.foldl (fun (a : Int × State) n =>
    if a.1 ≤ 0 ∨ shedState a.2 n ≠ st then a else (a.1 - (admitted a.2 n : Int), shedStep n a.2)) (d, s)

/-- The shed steps of one failing check (R56): the deficit is in half units. -/
def shed (cands : List Nat) (deficit : Int) (s : State) : State :=
  ([3, 2, 1, 0].foldl (fun (a : Int × State) cls =>
    let order := shedOrder a.2 cands cls
    let b := shedPass 0 order a.1 a.2
    shedPass 1 order b.1 b.2) (deficit, s)).2

/-- One check at an interval's end: key 6 is the pool, keys 0-5 the benches (R56). -/
def shedCheck (key : Nat) (cands : List Nat) (pace : Nat) (s : State) : State :=
  let eff := effectiveOf s cands
  if eff ≤ 2 * pace then { s with pace := { s.pace with short := Tbl.put 0 key 0 s.pace.short } }
  else
    let n := Tbl.get 0 s.pace.short key + 1
    if n < s.get 0 Reg.pace_SHED_CFG_SHED_DELAY then { s with pace := { s.pace with short := Tbl.put 0 key n s.pace.short } }
    else
      let s := { s with pace := { s.pace with short := Tbl.put 0 key 0 s.pace.short } }
      shed cands ((eff : Int) - (2 * pace : Nat)) s

/-- The paces of the benches, summed. -/
def poolPace (paces : List Nat) : Nat := (List.range 6).foldl (fun a b => a + paces.getD b 0) 0

/-- Whether the short paces leave room for the demand that the next restore step brings back (R59). -/
def restoreRoom (s : State) (paces : List Nat) : Bool :=
  match s.pace.steps with
  | [] => false
  | n :: _ =>
    let k := 100 + s.get 0 Reg.pace_SHED_CFG_RESTORE_MARGIN
    let pool := decide ((effectiveOf s (liveStreams s) + admitted s n) * k ≤ 200 * poolPace paces)
    let bench :=
      if s.get n Reg.strm_SCHED_AFFINITY = 1 then
        let b := s.get n Reg.strm_SCHED_BENCH
        decide ((effectiveOf s ((liveStreams s).filter (fun m => boundTo s m b)) + admitted s n) * k ≤ 200 * paces.getD b 0)
      else true
    pool && bench

/-- Raise an event for the monitors that enter a condition; EVENT_SRC takes the lowest of them (R60, R61). -/
def enterCondition (e : Nat) (old new : List Nat) (s : State) : State :=
  match new.filter (fun m => !old.contains m) with
  | [] => s
  | m :: _ => raise .pace 0 e (s.set 0 Reg.pace_EVENT_SRC_MONITOR m)

/-- Judge the BELOW_GUARANTEE and OVERLOAD conditions of every monitor (R61). -/
def judgePace (paces : List Nat) (s : State) : State :=
  let ramp := s.stateOf .pace 0 = 1
  let cur := s.get 0 Reg.pace_MODE_CURRENT
  let below := (List.range 20).filter (fun m => !ramp && decide (paces.getD m 0 < guaranteed m cur))
  let overl := (List.range 20).filter (fun m =>
    ((6 ≤ m && m < 10) || (12 ≤ m && m < 16)) && decide (paces.getD m 0 < monDemand s m))
  let ob := s.pace.below
  let oo := s.pace.overl
  let s := { s with pace := { s.pace with below := below, overl := overl } }
  enterCondition 4 oo overl (enterCondition 3 ob below s)

/-- The end of a 64 µs interval (R50, R56, R59, R61): the twenty measured paces and loads. -/
def intervalEnd (paces loads : List Nat) (t : Time) (s : State) : State :=
  let s := s.at t
  let w := msT (s.get 0 Reg.pace_ADMIT_CFG_WINDOW_MS)
  let s := { s with pace := { s.pace with hist := (t, paces) :: s.pace.hist.filter (fun e => decide (t < e.1 + w)) } }
  let s := forEach (List.range 20) (fun mm s =>
    let s := s.setSat 0 (Reg.pace_MON_NOW_PACE.at (0x20 * mm)) (paces.getD mm 0)
    s.setSat 0 (Reg.pace_MON_LOAD_LOAD.at (0x20 * mm)) (loads.getD mm 0)) s
  let s := shedCheck 6 (liveStreams s) (poolPace paces) s
  let s := forEach (List.range 6) (fun b s =>
    let l := (liveStreams s).filter (fun n => boundTo s n b)
    if l.isEmpty then s else shedCheck b l (paces.getD b 0) s) s
  let s :=
    if restoreRoom s paces then
      match s.pace.since with
      | some _ => s
      | none => { s with pace := { s.pace with since := some t } }
    else { s with pace := { s.pace with since := none } }
  refreshPace (judgePace paces s)

/-- A restore step, once the margin has held for RESTORE_MS (R59). -/
def restoreStep (t : Time) (s : State) : State :=
  let s := s.at t
  match s.pace.since, s.pace.steps with
  | some t0, n :: rest =>
    if t < t0 + msT (s.get 0 Reg.pace_SHED_CFG_RESTORE_MS) then s
    else
      let s := setShed n (shedState s n - 1) s
      let s := { s with pace := { s.pace with steps := rest, since := some t } }
      refreshPace (countStep n 2 s)
  | _, _ => s

/-- A stream disabled or reconfigured by a commit is FULL, and its shed history is cleared (R55). -/
def clearShed (n : Nat) (s : State) : State :=
  let s := setShed n 0 s
  refreshShed { s with pace := { s.pace with steps := s.pace.steps.filter (fun m => m != n) } }

/-- MODE_REQUEST's end: RAMP_US after the start (R46). -/
def execRampDone (t : Time) (s : State) : Host.Outcome State Fault Refusal := .next (rampDone t s)

/-- PACE_INTERVAL_END (R56). -/
def execPaceIntervalEnd (paces loads : List Nat) (t : Time) (s : State) : Host.Outcome State Fault Refusal :=
  .next (intervalEnd paces loads t s)

/-- RESTORE_STEP (R59). -/
def execRestoreStep (t : Time) (s : State) : Host.Outcome State Fault Refusal := .next (restoreStep t s)

end Sys2Proof.Machine
end

