-- ==== Sys2Proof/Machine/Cctl.lean ====
section
/-! DEFINITION. Camera control ports, frame-targeted commands, the settings echo, capture time, triggers and frame sync
(chapter 5: R93-R113). -/

namespace Sys2Proof.Machine

/-- A control port. -/
def State.ctl (s : State) (n : Nat) : Ctl := Tbl.get Ctl.reset s.ctls n

/-- Write a control port. -/
def State.setCtl (s : State) (n : Nat) (c : Ctl) : State := { s with ctls := Tbl.put Ctl.reset n c s.ctls }

/-- The time of a domain (0-3 = TIME0-TIME3, else TIMEL) at an instant of TIMEL, in units of 2^-16 ns (R388). -/
def clockAt (s : State) (d : Nat) (t : Time) : Int :=
  if d < 4 then (Tbl.get Clock.reset s.clocks d).at t else (t : Int)

/-- Whether a profile slot is valid (R95, R96). -/
def profileValid (s : State) (k : Nat) : Bool := getBit (s.get 0 Reg.sec_PROFILE_VALID_PROFILE) k

/-- The profile in a slot. -/
def State.profile (s : State) (k : Nat) : Profile := Tbl.get Profile.empty s.profiles k

/-- The profile a control port names. -/
def ctlProfile (s : State) (n : Nat) : Profile := s.profile (s.get n Reg.cctl_CFG_PROFILE)

/-- Signed 32-bit difference of two frame numbers (R98). -/
def frameDiff (a b : Nat) : Int := toSigned 32 (ofSigned 32 ((a : Int) - b))

/-! ### Results (R102) -/

/-- Show the queues in CMD_STATUS, RESULT and RESULT_FRAME. -/
def refreshCtl (n : Nat) (s : State) : State :=
  let c := s.ctl n
  let s := s.set n Reg.cctl_CMD_STATUS_QUEUED c.queue.length
  let s := s.set n Reg.cctl_CMD_STATUS_RESULTS c.results.length
  match c.results with
  | [] =>
    let s := s.set n Reg.cctl_RESULT_TAG 0
    let s := s.set n Reg.cctl_RESULT_CODE 0
    s.set n Reg.cctl_RESULT_FRAME_FRAME 0
  | r :: _ =>
    let s := s.set n Reg.cctl_RESULT_TAG r.tag
    let s := s.set n Reg.cctl_RESULT_CODE r.code
    s.set n Reg.cctl_RESULT_FRAME_FRAME r.frame

/-- Queue a result: the queue holds 16, a new one overwrites the oldest (R102). -/
def pushResult (n : Nat) (r : CtlResult) (s : State) : State :=
  let c := s.ctl n
  let empty := c.results.isEmpty
  let s :=
    if c.results.length < 16 then s.setCtl n { c with results := c.results ++ [r] }
    else (s.setCtl n { c with results := c.results.drop 1 ++ [r] }).inc n Reg.cctl_COUNTS_RESULT_LOST
  raiseIf empty .cctl n 1 (refreshCtl n s)

/-- A set fails, is dropped or overruns: its results take the code, in place or anew, and WRITE_FAIL is raised (R101). -/
def failSet (n id code : Nat) (s : State) : State :=
  let c := s.ctl n
  match c.sets.find? (fun x => x.id == id) with
  | none => s
  | some x =>
    if x.bad ≠ 0 then s
    else
      let sets := c.sets.map (fun y => if y.id = id then { y with bad := code, gainAt := none } else y)
      let s := s.setCtl n { c with sets := sets }
      let s := forEach x.tags (fun tag s =>
        let c := s.ctl n
        if c.results.any (fun r => r.set == id && r.tag == tag) then
          refreshCtl n (s.setCtl n { c with results := c.results.map (fun r =>
            if r.set = id ∧ r.tag = tag then { r with code := code } else r) })
        else pushResult n { tag := tag, code := code, frame := x.land, set := id } s) s
      raise .cctl n 3 s

/-! ### The settings echo (R103, R104) -/

/-- One set applied to the settings in effect (R101, R103). -/
def landSet (a : CtlSettings) (x : CtlSet) : CtlSettings :=
  if x.bad ≠ 0 then { a with uncertain := true }
  else
    { tag := x.tags.getLastD 0, late := x.late, uncertain := false,
      lines := a.lines.mapIdx (fun k l => ((x.lines.getD k none).getD l)),
      again := (x.gains.map (·.1)).getD a.again, dgain := (x.gains.map (·.2)).getD a.dgain,
      wb := x.wb.getD a.wb, landed := x.land }

/-- The settings in effect on frame `f` (R103). -/
def settingsAt (c : Ctl) (f : Nat) : CtlSettings :=
  (c.sets.filter (fun x => decide (0 ≤ frameDiff f x.land))).foldl landSet c.base

/-- Sensor code of a gain: the map's entry with the greatest gain not above the request, else its first (assumption log 24). -/
def gainCode (m : List (Nat × Nat)) (g : Nat) : Nat :=
  (m.foldl (fun (a : Nat) e => if e.1 ≤ g then e.2 else a) ((m.head?.map (·.2)).getD 0))

/-- Realised gain of a code: the inverse map. -/
def gainOf (m : List (Nat × Nat)) (code : Nat) : Nat := ((m.find? (fun e => e.2 == code)).map (·.1)).getD 0

/-- Integration lines of an exposure time, clamped to the limits (R95, R110). -/
def linesOf (p : Profile) (ns : Nat) : Nat :=
  let l := if p.lineNs = 0 then 0 else (2 * ns + p.lineNs) / (2 * p.lineNs)
  max p.linesMin (min l p.linesMax)

/-- Realised exposure of a line count, in ns. -/
def exposureNs (p : Profile) (lines : Nat) : Nat := lines * p.lineNs

/-- The 32-byte echo (R104). -/
def echoBytes (p : Profile) (x : CtlSettings) (strobe : Bool) : List Byte :=
  bytesLE 2 x.tag
    ++ bytesLE 2 (bit p.globalShutter + 2 * bit x.uncertain + 4 * bit x.late + 8 * bit strobe)
    ++ (List.range 3).flatMap (fun k => bytesLE 4 (exposureNs p (x.lines.getD k 0)))
    ++ bytesLE 2 (gainOf p.gainA x.again) ++ bytesLE 2 (gainOf p.gainD x.dgain)
    ++ (List.range 3).flatMap (fun k => bytesLE 2 (x.wb.getD k 0)) ++ bytesLE 2 0 ++ bytesLE 4 x.landed

/-- The control port in STREAMING that serves a stream. -/
def portOf (s : State) (n : Nat) : Option Nat :=
  (List.range 48).find? (fun c => s.stateOf .cctl c == 2 && s.get c Reg.cctl_CFG_STREAM == n)

/-- The strobe pulse that gives a frame's capture time (R107): the last that ended before the frame start and no more than
one admitted frame period before it. -/
def strobeFor (s : State) (c n : Nat) (t : Time) : Option Time :=
  let mhz := s.get n Reg.strm_ADMIT_RATE_FPS_MHZ
  ((s.ctl c).strobes.find? (fun e => decide (e.2 < t) && decide ((t - e.2) * mhz ≤ 1000 * secUnits.toNat))).map (·.1)

/-- Capture time, echo and mismatch flag of a frame at its frame start (R101, R103-R107); the state after. -/
def captureFrame (n f : Nat) (t : Time) (s : State) : Instant × List Byte × Bool × State :=
  let d := Config.streamDomain n
  match portOf s n with
  | none => (⟨d, Config.unboundCapture s.free⟩, (List.range 32).map (Config.unboundEcho s.free), false, s.fresh)
  | some c =>
    let p := ctlProfile s c
    let x := settingsAt (s.ctl c) f
    let exp0 := exposureNs p (x.lines.getD 0 0)
    -- t_FS - FS_LEAD_NS - EXP0_NS / 2, in units of 2^-16 ns
    let modelled : Int := clockAt s d t - 65536 * p.fsLeadNs - (32768 * exp0 : Nat)
    let src := s.get c Reg.cctl_CFG_CAPTURE_SRC
    let s := s.setCtl c { s.ctl c with frame := f }
    if src = 1 then
      match strobeFor s c n t with
      | some m =>
        let s := s.set c Reg.cctl_STRB_MID_NS (ofSigned 32 (((m : Int) - t) / 65536))
        (⟨d, clockAt s d m⟩, echoBytes p x true, x.uncertain, s)
      | none => (⟨d, modelled⟩, echoBytes p x false, x.uncertain, raise .cctl c 5 s)
    else (⟨d, modelled⟩, echoBytes p x false, x.uncertain, s)

/-- The code the sensor's embedded data holds in a field. -/
def embeddedCode (l : List Byte) (e : EchoField) : Nat :=
  let x := (l.drop e.off).take e.bytes
  if e.big then natBE x else natLE x

/-- R105: whether the embedded data differs from the codes behind the echo. -/
def echoDiffers (p : Profile) (x : CtlSettings) (l : List Byte) : Bool :=
  p.echoFields.any (fun e =>
    embeddedCode l e != (if e.what < 3 then x.lines.getD e.what 0 else if e.what = 3 then x.again else x.dgain))

/-- The comparison of R105 for a frame with embedded data: whether FLAGS.SETTINGS_MISMATCH is set, and the state after. -/
def compareEcho (n f : Nat) (l : List Byte) (s : State) : Bool × State :=
  match portOf s n with
  | none => (false, s)
  | some c =>
    if echoDiffers (ctlProfile s c) (settingsAt (s.ctl c) f) l then
      (true, raise .cctl c 4 (s.inc c Reg.cctl_COUNTS_MISMATCH))
    else (false, s)

/-! ### Port states (R97) -/

/-- Bus operations of a sequence. -/
def seqOps (k : BusKind) (l : List SeqWrite) : List BusOp :=
  l.map (fun w => { kind := k, set := 0, delayMs := w.delayMs, retried := false })

/-- Set or clear TRIG of a port (R109). -/
def setTrig (n : Nat) (on : Bool) (s : State) : State := { s with pins := { s.pins with trig := setBit s.pins.trig n on } }

/-- ENABLE written 1 (R97, R107). -/
def ctlEnable (origin n : Nat) (s : State) : State :=
  let st := s.stateOf .cctl n
  let k := s.get n Reg.cctl_CFG_PROFILE
  if st = 3 then logAccess .cctl n 0x10 origin 0x04 0 s
  else if st ≠ 0 then s
  else if !profileValid s k then logAccess .cctl n 0x10 origin 0x04 0 s
  else if s.get n Reg.cctl_CFG_CAPTURE_SRC = 1 ∧ !(s.profile k).globalShutter then logAccess .cctl n 0x01 origin 0x04 0 s
  else
    let s := s.setHdr .cctl n { s.hdr .cctl n with enable := true, enableStaged := true, state := 1 }
    s.setCtl n { s.ctl n with ops := seqOps .seqStart (s.profile k).start, delaying := false }

/-- ENABLE written 0 (R97). -/
def ctlDisable (n : Nat) (s : State) : State :=
  let st := s.stateOf .cctl n
  let s := s.setHdr .cctl n { s.hdr .cctl n with enable := false, enableStaged := false }
  let stop := seqOps .seqStop (ctlProfile s n).stop
  if st = 1 then
    let c := s.ctl n
    let front := if c.delaying then [] else c.ops.take 1
    (s.setCtl n { c with ops := front ++ stop, delaying := false }).setState .cctl n 3
  else if st = 2 then
    let c := s.ctl n
    let s := s.setCtl n { c with queue := [], window := false, ops := c.ops.filter (fun o => o.kind == .xfer || o.kind == .exposure || o.kind == .gain) ++ stop }
    let s := forEach c.queue (fun q s => pushResult n { tag := q.tag, code := 5, frame := q.target, set := 0 } s) s
    let s := forEach (c.sets.filter (fun x => x.gainAt.isSome)) (fun x s => failSet n x.id 3 s) s
    refreshCtl n (s.setState .cctl n 3)
  else if st = 4 then setTrig n false (s.setState .cctl n 0)
  else s

/-- The START sequence completes (R97): INIT becomes STREAMING with the profile's start values. -/
def initDone (n : Nat) (s : State) : State :=
  let c := s.ctl n
  if s.stateOf .cctl n = 1 ∧ !(c.ops.any (fun o => o.kind == .seqStart)) ∧ !c.delaying then
    let p := ctlProfile s n
    let base : CtlSettings := {
      tag := 0, late := false, uncertain := false, lines := padLines p.startLines, again := p.startA,
      dgain := p.startD, wb := p.startWb, landed := 0 }
    raise .cctl n 0 ((s.setCtl n { c with base := base, sets := [], window := false }).setState .cctl n 2)
  else s
where
  /-- Three line counts, absent exposures 0. -/
  padLines (l : List Nat) : List Nat := (l ++ [0, 0, 0]).take 3

/-- The STOP sequence completes or has failed (R97): the port is OFF. -/
def stopDone (n : Nat) (s : State) : State :=
  let c := s.ctl n
  if s.stateOf .cctl n = 3 ∧ c.ops.isEmpty ∧ !c.delaying then
    setTrig n false ((s.setCtl n { c with sets := [], window := false }).setState .cctl n 0)
  else s

/-- A bus failure: BUS_FAULT and COUNTS.FAILED (R94), and what it does to the operation's purpose (R97, R101, R111). -/
def busFailure (n : Nat) (o : BusOp) (result : Nat) (s : State) : State :=
  let s := raise .cctl n 2 (s.inc n Reg.cctl_COUNTS_FAILED)
  let c := s.ctl n
  match o.kind with
  | .seqStart => if s.stateOf .cctl n = 1 then (s.setCtl n { c with ops := [], delaying := false }).setState .cctl n 4 else s
  | .seqStop => s.setCtl n { c with ops := [], delaying := false }
  | .exposure => failSet n o.set 3 s
  | .gain => failSet n o.set 3 s
  | .xfer => s.setCtl n { c with xferEnd := some (result, []) }

/-- A transaction ends (R94): `result` 0 = acknowledged, 1 = NACK, 2 = stretching beyond 1 ms, 3 = SDA held low; `data` are
the bytes a raw read returned. A NACK or overlong stretch is repeated once. -/
def transactionEnd (n result : Nat) (data : List Byte) (s : State) : State :=
  let c := s.ctl n
  match c.ops with
  | [] => s
  | o :: rest =>
    if c.delaying then s
    else if result = 0 then
      let s := s.setCtl n { c with ops := rest, delaying := decide (0 < o.delayMs) }
      match o.kind with
      | .xfer => s.setCtl n { s.ctl n with xferEnd := some (0, data) }
      | _ => s
    else if result ≤ 2 ∧ !o.retried then s.setCtl n { c with ops := { o with retried := true } :: rest }
    else busFailure n o result (s.setCtl n { c with ops := rest })

/-- A sequence's delay ends. -/
def sequenceDelayEnd (n : Nat) (s : State) : State := s.setCtl n { s.ctl n with delaying := false }

/-! ### Frame-targeted commands (R98-R100) -/

/-- CMD_PUSH past the write checks (R98). -/
def pushCmd (origin n : Nat) (v : Word) (s : State) : State :=
  let tag := bitsOf v 16 16
  let mask := bitsOf v 0 5
  let c := s.ctl n
  if s.stateOf .cctl n ≠ 2 then logAccess .cctl n 0x10 origin 0x64 0 s
  else if mask = 0 ∨ tag = 0 then logAccess .cctl n 0x01 origin 0x64 0 s
  else if 8 ≤ c.queue.length then logAccess .cctl n 0x04 origin 0x64 0 s
  else
    let q : CtlCmd :=
      { tag := tag, mask := mask, target := s.get n Reg.cctl_CMD_TARGET_FRAME,
        exps := (List.range 3).map (fun k => s.get n (Reg.cctl_CMD_EXP_NS.at (4 * k))),
        again := s.get n Reg.cctl_CMD_GAIN_AGAIN, dgain := s.get n Reg.cctl_CMD_GAIN_DGAIN,
        wb := [s.get n Reg.cctl_CMD_WB_RG_WB_R, s.get n Reg.cctl_CMD_WB_RG_WB_G, s.get n Reg.cctl_CMD_WB_B_WB_B] }
    refreshCtl n (s.setCtl n { c with queue := c.queue ++ [q] })

/-- RESULT_POP (R102, R110). -/
def popResult (n : Nat) (v : Word) (s : State) : State :=
  if getBit v.toNat 0 then refreshCtl n (s.setCtl n { s.ctl n with results := (s.ctl n).results.drop 1 }) else s

/-- The last command of a list that sets a field, seen through `f`. -/
def lastSetting {α : Type} (due : List CtlCmd) (b : Nat) (f : CtlCmd → α) : Option α :=
  (due.filter (fun q => getBit q.mask b)).getLast?.map f

/-- The write window of frame `n` opens (R99, R100). -/
def writeWindow (n : Nat) (s : State) : State :=
  if s.stateOf .cctl n ≠ 2 then s
  else
    let c := s.ctl n
    let p := ctlProfile s n
    let f := c.frame
    let dueGain := c.sets.filter (fun x => x.gainAt == some f)
    let gainOps := dueGain.map (fun x => ({ kind := .gain, set := x.id, delayMs := 0, retried := false } : BusOp))
    let sets := c.sets.map (fun x => if x.gainAt = some f then { x with gainAt := none } else x)
    let c := { c with window := true, ops := c.ops ++ gainOps, sets := sets }
    let due := c.queue.filter (fun q => decide (0 ≤ frameDiff ((f + p.latL) % 2 ^ 32) q.target))
    if due.isEmpty then s.setCtl n c
    else
      let land := (f + p.latL) % 2 ^ 32
      let lines := (List.range 3).map (fun k => lastSetting due k (fun q => linesOf p (q.exps.getD k 0)))
      let gains := lastSetting due 3 (fun q => (gainCode p.gainA q.again, gainCode p.gainD q.dgain))
      let wb := lastSetting due 4 (fun q => q.wb)
      let hasExp := lines.any (fun l => l.isSome)
      let now := gains.isSome && p.latG == p.latL
      let bus := s.get n Reg.cctl_CFG_BUS
      let khz := s.get n Reg.cctl_BUS_CFG_KHZ
      let need := Config.busTime bus khz 0 gainOps.length
        + Config.busTime bus khz (lines.filter (fun l => l.isSome)).length (bit now)
      if need > 1000 * (p.safeEndUs - p.safeStartUs) then s.setCtl n c
      else
        let id := c.nextSet
        let x : CtlSet :=
          { id := id, land := land, tags := due.map (·.tag), late := due.any (fun q => q.target != land), lines := lines,
            gains := gains, wb := wb,
            gainAt := if gains.isSome ∧ !now then some ((f + p.latL - p.latG) % 2 ^ 32) else none, bad := 0 }
        let op := fun k => ({ kind := k, set := id, delayMs := 0, retried := false } : BusOp)
        let ops := (if hasExp then [op .exposure] else []) ++ (if now then [op .gain] else [])
        let s := s.setCtl n { c with nextSet := id + 1, sets := c.sets ++ [x], ops := c.ops ++ ops,
                                     queue := c.queue.filter (fun q => !decide (0 ≤ frameDiff land q.target)) }
        let s := forEach due (fun q s =>
          let s := if q.target = land then s else s.inc n Reg.cctl_COUNTS_LATE
          pushResult n { tag := q.tag, code := if q.target = land then 1 else 2, frame := land, set := id } s) s
        refreshCtl n s

/-- SAFE_END_US (R99-R101): a write still running is an overrun of its set; a deferred transfer starts. -/
def safeEnd (n : Nat) (s : State) : State :=
  let c := s.ctl n
  if !c.window then s
  else
    let late := (c.ops.filter (fun o => o.kind == .exposure || o.kind == .gain)).map (·.set)
    let s := s.setCtl n { c with window := false }
    let s := forEach late (fun id s => failSet n id 4 s) s
    let c := s.ctl n
    if c.xferWaiting then
      s.setCtl n { c with xferWaiting := false, ops := c.ops ++ [{ kind := .xfer, set := 0, delayMs := 0, retried := false }] }
    else s

/-! ### Raw transfers (R111) -/

/-- A START of XFER_CTRL past the write checks; `held` says that R507 applies. -/
def xferStart (origin n : Nat) (held : Bool) (v : Word) (s : State) : State :=
  if !getBit v.toNat 31 then s
  else
    let st := s.stateOf .cctl n
    if s.get n Reg.cctl_XFER_STATUS_BUSY = 1 ∨ st = 1 ∨ st = 3 ∨ st = 4 ∨ held then logAccess .cctl n 0x10 origin 0x90 0 s
    else
      let c := s.ctl n
      let s := s.set n Reg.cctl_XFER_STATUS_BUSY 1
      let c := { c with xfer := (getBit v.toNat 16, bitsOf v 8 2, bitsOf v 0 4 + 1), xferEnd := none }
      if c.window then s.setCtl n { c with xferWaiting := true }
      else s.setCtl n { c with ops := c.ops ++ [{ kind := .xfer, set := 0, delayMs := 0, retried := false }] }

/-- The end of a raw transfer (R111): XFER_STATUS takes its result, XFER_DATA the bytes read. -/
def xferDone (n bytes : Nat) (s : State) : State :=
  let c := s.ctl n
  match c.xferEnd with
  | none => s
  | some (result, data) =>
    let s := s.setCtl n { c with xferEnd := none }
    let s := s.set n Reg.cctl_XFER_STATUS_BUSY 0
    let s := s.set n Reg.cctl_XFER_STATUS_RESULT result
    let s := s.set n Reg.cctl_XFER_STATUS_BYTES (if result = 0 then c.xfer.2.2 else min bytes c.xfer.2.2)
    let s :=
      if c.xfer.1 ∧ result = 0 then
        forEach (List.range (min c.xfer.2.2 data.length)) (fun i s =>
          s.set n ((Reg.cctl_XFER_DATA_DATA.at (4 * (i / 4))).up (8 * (i % 4)) |> fun f => { f with w := 8 })
            (data.getD i 0).toNat) s
      else s
    raise .cctl n 6 s

/-! ### Triggers and frame sync (R108, R109) -/

/-- TRIG rises if it is low and the port is neither OFF nor in FAULT (R109). -/
def trigRise (n : Nat) (s : State) : State :=
  let st := s.stateOf .cctl n
  if st = 0 ∨ st = 4 ∨ getBit s.pins.trig n then s else setTrig n true s

/-- TRIG_FIRE (R109). -/
def trigFire (n : Nat) (v : Word) (s : State) : State :=
  if getBit v.toNat 0 ∧ s.get n Reg.cctl_TRIG_CFG_MODE = 2 then trigRise n s else s

/-- An instant of a generator (R108). -/
def fsyncEdge (k : Nat) (s : State) : State :=
  if s.get 0 (Reg.glb_FSYNC_CFG_ENABLE.at (0x10 * k)) = 1 ∧ !getBit s.pins.fsync k then
    { s with pins := { s.pins with fsync := setBit s.pins.fsync k true } }
  else s

/-- A generator's pin returns low (R108). -/
def fsyncLow (k : Nat) (s : State) : State := { s with pins := { s.pins with fsync := setBit s.pins.fsync k false } }

/-! ### SOFT_RESET (R97) -/

/-- SOFT_RESET of a control port: the bus is released, everything returns to reset, TRIG is low. -/
def resetCctl (n : Nat) (s : State) : State :=
  setTrig n false (s.setCtl n Ctl.reset)

/-! ### Meanings -/

/-- INIT_DONE (R97). -/
def execInitDone (n : Fin 48) (t : Time) (s : State) : Host.Outcome State Fault Refusal := .next (initDone n.val (s.at t))

/-- STOP_SEQUENCE_DONE (R97). -/
def execStopSequenceDone (n : Fin 48) (t : Time) (s : State) : Host.Outcome State Fault Refusal :=
  .next (stopDone n.val (s.at t))

/-- BUS_TRANSACTION_END (R94). -/
def execBusTransactionEnd (n : Fin 48) (result : Nat) (data : List Byte) (t : Time) (s : State) :
    Host.Outcome State Fault Refusal := .next (transactionEnd n.val result data (s.at t))

/-- SEQUENCE_DELAY_END (R97). -/
def execSequenceDelayEnd (n : Fin 48) (t : Time) (s : State) : Host.Outcome State Fault Refusal :=
  .next (sequenceDelayEnd n.val (s.at t))

/-- WRITE_WINDOW (R99). -/
def execWriteWindow (n : Fin 48) (t : Time) (s : State) : Host.Outcome State Fault Refusal := .next (writeWindow n.val (s.at t))

/-- SAFE_END (R99). -/
def execSafeEnd (n : Fin 48) (t : Time) (s : State) : Host.Outcome State Fault Refusal := .next (safeEnd n.val (s.at t))

/-- XFER_DONE (R111). -/
def execXferDone (n : Fin 48) (bytes : Nat) (t : Time) (s : State) : Host.Outcome State Fault Refusal :=
  .next (xferDone n.val bytes (s.at t))

/-- FSYNC_EDGE (R108). -/
def execFsyncEdge (k : Fin 4) (t : Time) (s : State) : Host.Outcome State Fault Refusal := .next (fsyncEdge k.val (s.at t))

/-- FSYNC_PULSE_END (R108). -/
def execFsyncPulseEnd (k : Fin 4) (t : Time) (s : State) : Host.Outcome State Fault Refusal := .next (fsyncLow k.val (s.at t))

/-- TRIG_RISE (R109): a port in MODE 1 follows its generator. -/
def execTrigRise (n : Fin 48) (t : Time) (s : State) : Host.Outcome State Fault Refusal :=
  .next (if s.get n.val Reg.cctl_TRIG_CFG_MODE = 1 then trigRise n.val (s.at t) else s.at t)

/-- TRIG_PULSE_END (R109). -/
def execTrigPulseEnd (n : Fin 48) (t : Time) (s : State) : Host.Outcome State Fault Refusal :=
  .next (setTrig n.val false (s.at t))

/-- STROBE_PULSE (R107): a pulse that began at `t0` ends at `t`. -/
def execStrobePulse (n : Fin 48) (t0 t : Time) (s : State) : Host.Outcome State Fault Refusal :=
  let s := s.at t
  let c := s.ctl n.val
  .next (s.setCtl n.val { c with strobes := ((t0 + t) / 2, t) :: c.strobes.take 15 })

end Sys2Proof.Machine
end

