-- ==== Sys2Proof/Machine/Zraw.lean ====
section
/-! DEFINITION. The raw and byte compression engines: pixel coding, byte mode, segments, staged rows and jobs (chapter 10:
R223-R243). -/

namespace Sys2Proof.Machine

/-! ### Pixel coding of a row (R225-R228) -/

/-- The bound of a MODE code (R227, R229). -/
def nearOf (mode : Nat) : Nat := if mode = 0 then 0 else 2 ^ (mode - 1)

/-- The prediction of sample `i` from the three samples before it, latest first (R225). -/
def predict (b i h1 h2 h3 : Nat) : Nat :=
  if i < 2 then 2 ^ (b - 1)
  else if i = 2 then h2
  else (clampI 0 (2 ^ b - 1) ((h2 : Int) + h1 - h3)).toNat

/-- The residual that is coded (R225, R227). -/
def quantResidual (d : Nat) (e : Int) : Int :=
  let q : Int := (((e.natAbs + d) / (2 * d + 1) : Nat) : Int)
  if e < 0 then -q else q

/-- The sample as the decoder rebuilds it (R227). -/
def rebuild (b d pred : Nat) (eq : Int) : Nat := (clampI 0 (2 ^ b - 1) ((pred : Int) + eq * (2 * (d : Int) + 1))).toNat

/-- The map from a signed residual to `m` (R225). -/
def zigzag (e : Int) : Nat := if e ≥ 0 then (2 * e).toNat else (-2 * e - 1).toNat

/-- Its inverse. -/
def unzigzag (m : Nat) : Int := if m % 2 = 0 then ((m / 2 : Nat) : Int) else -(((m + 1) / 2 : Nat) : Int)

/-- `m` and the rebuilt value of every sample of a row (R225, R227). -/
def rowCodes (b d : Nat) : Nat → Nat → Nat → Nat → List Nat → List (Nat × Nat)
  | _, _, _, _, [] => []
  | i, h1, h2, h3, x :: t =>
    let p := predict b i h1 h2 h3
    let eq := quantResidual d ((x : Int) - p)
    let r := rebuild b d p eq
    (zigzag eq, r) :: rowCodes b d (i + 1) r h1 h2 t

/-- Bits of one code (R226). -/
def codeLen (b k m : Nat) : Nat := if m / 2 ^ k < 24 then m / 2 ^ k + 1 + k else 24 + b

/-- Bits of a group under `k`, without the k field. -/
def groupLen (b k : Nat) (g : List (Nat × Nat)) : Nat := g.foldl (fun a c => a + codeLen b k c.1) 0

/-- The least k of those that give the fewest bits (R226). -/
def bestK (b : Nat) (g : List (Nat × Nat)) : Nat :=
  (List.range b).foldl (fun (a : Nat) k => if groupLen b k g < groupLen b a g then k else a) 0

/-- One code as a bit string: its length and its value (R226). -/
def codeWord (b k : Nat) (c : Nat × Nat) : Nat × Nat :=
  let q := c.1 / 2 ^ k
  if q < 24 then (q + 1 + k, (2 ^ q - 1) * 2 ^ (k + 1) + c.1 % 2 ^ k) else (24 + b, (2 ^ 24 - 1) * 2 ^ b + c.2)

/-- Groups of 32, the last one short. -/
def groups32 {α : Type} : Nat → List α → List (List α)
  | 0, _ => []
  | n + 1, l => if l.isEmpty then [] else l.take 32 :: groups32 n (l.drop 32)

/-- The code words of a row before its padding (R226). -/
def rowWords (b d : Nat) (xs : List Nat) : List (Nat × Nat) :=
  (groups32 (xs.length + 1) (rowCodes b d 0 0 0 0 xs)).flatMap (fun g =>
    let k := bestK b g
    (4, k) :: g.map (codeWord b k))

/-- Bits of a list of words. -/
def wordsLen (l : List (Nat × Nat)) : Nat := l.foldl (fun a w => a + w.1) 0

/-- The value of a list of words written one after the other, most significant bit first. -/
def wordsVal (l : List (Nat × Nat)) : Nat := l.foldl (fun a w => a * 2 ^ w.1 + w.2 % 2 ^ w.1) 0

/-- Bits up to the next 32-bit boundary. -/
def padBits (n : Nat) : Nat := (32 - n % 32) % 32

/-- Words with the zero bits that end a row (R226). -/
def padded (l : List (Nat × Nat)) : List (Nat × Nat) := if padBits (wordsLen l) = 0 then l else l ++ [(padBits (wordsLen l), 0)]

/-- Bytes of a row packed at `b` bits, padded to a 32-bit boundary (R228). -/
def packedBytes (b w : Nat) : Nat := (w * b + 31) / 32 * 4

/-- A row in the form of R228: its header value and its words, padding included. -/
def rowForm (b d : Nat) (xs : List Nat) : Nat × List (Nat × Nat) :=
  let c := padded (rowWords b d xs)
  let n := wordsLen c / 8
  if n < packedBytes b xs.length then (n, c)
  else (packedBytes b xs.length + 2 ^ 31, padded (xs.map (fun x => (b, x))))

/-- Whole bytes of a list of words (its length a multiple of 8). -/
def wordsToBytes (l : List (Nat × Nat)) : List Byte := bytesBE (wordsLen l / 8) (wordsVal l)

/-- A row with its header (R228). -/
def rowBytes (b d : Nat) (xs : List Nat) : List Byte :=
  let (h, ws) := rowForm b d xs
  bytesLE 4 h ++ wordsToBytes ws

/-- `w` bits at bit position `p` of an `n`-bit string. -/
def peekBits (v n p w : Nat) : Nat := if p + w ≤ n then v / 2 ^ (n - p - w) % 2 ^ w else 0

/-- The number of one-bits from `p`, at most the fuel. -/
def countOnes (v n : Nat) : Nat → Nat → Nat
  | 0, _ => 0
  | f + 1, p => if p < n ∧ peekBits v n p 1 = 1 then countOnes v n f (p + 1) + 1 else 0

/-- One sample's code at `p`: the rebuilt value and the next position; none if it does not decode. -/
def decodeSample (b d k i h1 h2 h3 v n p : Nat) : Option (Nat × Nat) :=
  let q := countOnes v n 24 p
  if q = 24 then
    if p + 24 + b ≤ n then some (peekBits v n (p + 24) b, p + 24 + b) else none
  else if p + q + 1 + k ≤ n then
    let m := q * 2 ^ k + peekBits v n (p + q + 1) k
    let pr := predict b i h1 h2 h3
    let e := unzigzag m
    let r := rebuild b d pr e
    if d = 0 ∧ (pr : Int) + e ≠ r then none else some (r, p + q + 1 + k)
  else none

/-- Samples of a coded row from sample `i` on, with the position after each; the second part says whether all of them
decode (R225-R227). -/
def decodeCoded (b d v n : Nat) : Nat → Nat → Nat → Nat → Nat → Nat → Nat → List (Nat × Nat) × Bool
  | 0, _, _, _, _, _, _ => ([], true)
  | w + 1, i, k, h1, h2, h3, p =>
    let k' := if i % 32 = 0 then peekBits v n p 4 else k
    let p' := if i % 32 = 0 then p + 4 else p
    if p' > n ∨ b ≤ k' then ([], false)
    else
      match decodeSample b d k' i h1 h2 h3 v n p' with
      | none => ([], false)
      | some (r, p2) =>
        let (l, ok) := decodeCoded b d v n w (i + 1) k' r h1 h2 p2
        ((r, p2) :: l, ok)

/-- Samples of a packed row, with the position after each. -/
def decodePacked (b v n : Nat) : Nat → Nat → List (Nat × Nat) × Bool
  | 0, _ => ([], true)
  | w + 1, p =>
    if p + b ≤ n then
      let (l, ok) := decodePacked b v n w (p + b)
      ((peekBits v n p b, p + b) :: l, ok)
    else ([], false)

/-- A staged row that was compressed (R233, R234): exactly `w` samples within its coded length, or none. -/
def decodeStaged (b w : Nat) (data : List Byte) : Option (List Nat) :=
  let (l, ok) := decodeCoded b 0 (natBE data) (8 * data.length) w 0 0 0 0 0 0
  if ok then some (l.map (·.1)) else none

/-- The coded form of a staged row, without a row header (R233). -/
def encodeStaged (b : Nat) (xs : List Nat) : List Byte := wordsToBytes (padded (rowWords b 0 xs))

/-! ### Byte mode (R235, R236) -/

/-- The hash of three bytes (R236). -/
def lzHash (b0 b1 b2 : Byte) : Nat := ((b0.toNat * 65536 + b1.toNat * 256 + b2.toNat) * 2654435761) % 2 ^ 32 / 2 ^ 20

/-- How far two positions agree, at most the fuel and the end of the data. -/
def matchLen (a : Array Byte) (c p : Nat) : Nat → Nat
  | 0 => 0
  | f + 1 => if p < a.size ∧ a.getD c 0 = a.getD p 0 then matchLen a (c + 1) (p + 1) f + 1 else 0

/-- Enter position `p` in the table, if three bytes stand there. -/
def lzEnter (a : Array Byte) (tab : Array Nat) (p : Nat) : Array Nat :=
  if p + 3 ≤ a.size then tab.setIfInBounds (lzHash (a.getD p 0) (a.getD (p + 1) 0) (a.getD (p + 2) 0)) (p + 1) else tab

/-- The length of the match at `p` and its offset; length 1 and offset 0 stand for a literal. -/
def lzToken (a : Array Byte) (tab : Array Nat) (p : Nat) : Nat × Nat :=
  if p + 3 ≤ a.size then
    let c := tab.getD (lzHash (a.getD p 0) (a.getD (p + 1) 0) (a.getD (p + 2) 0)) 0
    if c = 0 ∨ p - (c - 1) > 4096 then (1, 0)
    else
      let n := matchLen a (c - 1) p 273
      if 3 ≤ n then (n, p - (c - 1)) else (1, 0)
  else (1, 0)

/-- The tokens of the data from position `p`: position, length and offset of each. -/
def lzTokens (a : Array Byte) : Nat → Nat → Array Nat → List (Nat × Nat × Nat)
  | 0, _, _ => []
  | f + 1, p, tab =>
    if a.size ≤ p then []
    else
      let (n, o) := lzToken a tab p
      let tab := (List.range n).foldl (fun t i => lzEnter a t (p + i)) tab
      (p, n, o) :: lzTokens a f (p + n) tab

/-- Bytes of a token (R235). -/
def lzTokenBytes (a : Array Byte) (t : Nat × Nat × Nat) : List Byte :=
  let (p, n, o) := t
  if o = 0 then [a.getD p 0]
  else
    let f := min (n - 3) 15
    bytesLE 2 (o - 1 + 4096 * f) ++ (if f = 15 then bytesLE 1 (n - 18) else [])

/-- Groups of up to 8 tokens. -/
def groups8 {α : Type} : Nat → List α → List (List α)
  | 0, _ => []
  | n + 1, l => if l.isEmpty then [] else l.take 8 :: groups8 n (l.drop 8)

/-- The groups of a compressed stream: source position after each, and its bytes (R235). -/
def lzGroups (src : List Byte) : List (Nat × List Byte) :=
  let a := src.toArray
  let toks := lzTokens a (src.length + 1) 0 (Array.replicate 4096 0)
  (groups8 (toks.length + 1) toks).map (fun g =>
    let ctl := (g.zipIdx).foldl (fun (c : Nat) e => if e.1.2.2 = 0 then c else c + 2 ^ e.2) 0
    let last := g.getLastD (0, 0, 0)
    (last.1 + last.2.1, bytesLE 1 ctl ++ g.flatMap (lzTokenBytes a)))

/-- Copy `n` bytes from `o` back, overlapping its own output. -/
def lzCopy (out : Array Byte) (o : Nat) : Nat → Array Byte
  | 0 => out
  | n + 1 => lzCopy (out.push (out.getD (out.size - o) 0)) o n

/-- The tokens of one group: the output after it, the position after it, or none where it does not decode. -/
def lzReadGroup (a : Array Byte) (ctl : Nat) : Nat → Nat → Nat → Array Byte → Option (Nat × Array Byte)
  | 0, _, p, out => some (p, out)
  | f + 1, j, p, out =>
    if a.size ≤ p then (if ctl / 2 ^ j = 0 then some (p, out) else none)
    else if getBit ctl j then
      if p + 2 ≤ a.size then
        let w := (a.getD p 0).toNat + 256 * (a.getD (p + 1) 0).toNat
        let o := w % 4096 + 1
        let l := w / 4096
        if out.size < o then none
        else if l = 15 then
          if p + 3 ≤ a.size then lzReadGroup a ctl f (j + 1) (p + 3) (lzCopy out o (18 + (a.getD (p + 2) 0).toNat)) else none
        else lzReadGroup a ctl f (j + 1) (p + 2) (lzCopy out o (l + 3))
      else none
    else lzReadGroup a ctl f (j + 1) (p + 1) (out.push (a.getD p 0))

/-- The groups of a compressed stream: source position and output size after each, the output, and whether all decode. -/
def lzExpand (a : Array Byte) : Nat → Nat → Array Byte → List (Nat × Nat) × Array Byte × Bool
  | 0, _, out => ([], out, true)
  | f + 1, p, out =>
    if a.size ≤ p then ([], out, true)
    else
      match lzReadGroup a (a.getD p 0).toNat 8 0 (p + 1) out with
      | none => ([], out, false)
      | some (p', out') =>
        let (l, o, ok) := lzExpand a f p' out'
        ((p', out'.size) :: l, o, ok)

/-! ### Counters -/

/-- An engine. -/
def State.zraw (s : State) (k : Nat) : Zraw := Tbl.get Zraw.reset s.zraws k

/-- Write an engine. -/
def State.setZraw (s : State) (k : Nat) (z : Zraw) : State := { s with zraws := Tbl.put Zraw.reset k z s.zraws }

/-- Count what an encoding handled and produced in BYTES_IN and BYTES_OUT (R242). -/
def countBytes (k inB outB : Nat) (s : State) : State :=
  let z := s.zraw k
  let z := { z with inBytes := z.inBytes + inB, outBytes := z.outBytes + outB }
  let s := s.setZraw k z
  (s.set k Reg.zraw_BYTES_IN_KIB (z.inBytes / 1024)).set k Reg.zraw_BYTES_OUT_KIB (z.outBytes / 1024)

/-- PAGE_STATUS.STATE: busy while work waits (R242). -/
def refreshZraw (k : Nat) (s : State) : State :=
  let jobs := s.enabled .zraw k && s.get k Reg.zraw_CFG_JOB_EN == 1
    && s.get k Reg.zraw_JOB_HEAD_INDEX != s.get k Reg.zraw_JOB_TAIL_INDEX
  s.setState .zraw k (bit (jobs || !(s.zraw k).segs.isEmpty))

/-! ### Segments (R229-R232) -/

/-- Worst case of a segment in bytes (R230). -/
def segWorst (rows w b : Nat) : Nat := roundTo 64 (32 + 128 + rows * (4 + roundTo 4 (ceilDiv (w * b) 8)))

/-- Where the next reservation of an engine starts if it does not wrap: after those outstanding, else at SEG_WR. -/
def segNext (s : State) (k : Nat) : Nat :=
  (s.zraw k).segs.foldl (fun a x => (if x.wrapped then 0 else a) + x.reserve) (64 * s.get k Reg.zraw_SEG_WR_OFFSET)

/-- The DRAM address of an engine's ring. -/
def segBase (s : State) (k : Nat) : Nat := addrReg s k Reg.zraw_SEG_BASE_LO_ADDR Reg.zraw_SEG_BASE_HI_ADDR

/-- Write the block with VERSION 0 that marks a wrap at ring offset `off` (R230). -/
def segMark (k off : Nat) (s : State) : State :=
  if off + 64 ≤ 1024 * s.get k Reg.zraw_SEG_SIZE_KIB then dramWrite 0 (segBase s k + off) (List.replicate 64 0) s else s

/-- A segment is lost, and with it the later stripes of its frame (R231). -/
def segLose (k stream frame : Nat) (s : State) : State :=
  let z := s.zraw k
  let s := s.setZraw k { z with lost := some (stream, frame) }
  raise .zraw k 1 (s.inc k Reg.zraw_COUNTS_SEG_LOST)

/-- The first row of a stripe is about to enter the engine: reserve its worst case (R230, R231). -/
def segReserve (k : Nat) (g : ZSeg) (s : State) : State :=
  let z := s.zraw k
  if z.lost = some (g.stream, g.frameNo) then s
  else
    let size := 1024 * s.get k Reg.zraw_SEG_SIZE_KIB
    let rd := 64 * s.get k Reg.zraw_SEG_RD_OFFSET
    let a := segNext s k
    let w := segWorst g.rowCount g.width g.bits
    let wraps := a + w > size
    let start := if wraps then 0 else a
    let fits := s.enabled .zraw k && decide (w ≤ size)
      && (if rd ≤ a then (!wraps || decide (w < rd)) else (!wraps && decide (start + w < rd)))
    if !fits then segLose k g.stream g.frameNo s
    else
      let s := if wraps ∧ z.segs.isEmpty then segMark k a s else s
      refreshZraw k (s.setZraw k { z with lost := none, segs := z.segs ++ [{ g with reserve := w, wrapped := wraps, rows := [] }] })

/-- A row enters the engine; `waiting` is how many bytes of the stripe's rows wait for it (R231). -/
def segRow (k stream frame : Nat) (waiting : Nat) (row : List Nat) (s : State) : State :=
  let z := s.zraw k
  if z.lost = some (stream, frame) then s
  else if waiting > 65536 then
    let keep := z.segs.filter (fun x => !(x.stream == stream && x.frameNo == frame && decide (x.rows.length < x.rowCount)))
    refreshZraw k (segLose k stream frame (s.setZraw k { z with segs := keep }))
  else
    let segs := z.segs.reverse
    match segs with
    | [] => s
    | x :: t =>
      if x.stream = stream ∧ x.frameNo = frame then s.setZraw k { z with segs := ({ x with rows := row :: x.rows } :: t).reverse }
      else s

/-- The segments of a frame that will not be finished give their space back (R232). -/
def segAbandon (k stream frame : Nat) (s : State) : State :=
  let z := s.zraw k
  refreshZraw k (s.setZraw k { z with segs := z.segs.filter (fun x =>
    !(x.stream == stream && x.frameNo == frame && decide (x.rows.length < x.rowCount))) })

/-- The bytes of a segment (R229, R232), with the ticket of its frame as it stands. -/
def segBytes (x : ZSeg) (tk : Ticket) : List Byte :=
  let payload := x.rows.reverse.flatMap (rowBytes x.bits (nearOf x.mode))
  let tail := if x.last then tk.encode else []
  let trunc := tk.has flagTruncated
  let head := bytesLE 2 1 ++ bytesLE 1 x.mode ++ bytesLE 1 x.bits ++ bytesLE 2 x.stream ++ bytesLE 2 x.stripe
    ++ bytesLE 4 x.frameNo ++ bytesLE 2 x.firstRow ++ bytesLE 2 x.rows.length ++ bytesLE 2 x.width ++ bytesLE 1 x.exp
    ++ bytesLE 1 (bit x.last + 2 * bit (x.last && trunc)) ++ bytesLE 4 payload.length
    ++ bytesLE 4 (crc32c (payload ++ tail)) ++ bytesLE 2 tk.flags ++ bytesLE 2 0
  padTo (roundTo 64 (32 + payload.length + tail.length)) (head ++ payload ++ tail)

/-- The oldest segment is written: SEG_WR moves to its end, what it did not use is given back, SEG_READY is raised (R230). -/
def segWrite (k : Nat) (tk : Ticket) (s : State) : State :=
  let z := s.zraw k
  match z.segs with
  | [] => s
  | x :: rest =>
    let a := if x.wrapped then 0 else 64 * s.get k Reg.zraw_SEG_WR_OFFSET
    let data := segBytes x tk
    let s := dramWrite 0 (segBase s k + a) data s
    let s := s.set k Reg.zraw_SEG_WR_OFFSET ((a + data.length) / 64)
    let s := countBytes k (x.rows.length * packedBytes x.bits x.width) data.length s
    let s := s.setZraw k { s.zraw k with segs := rest, captures := Tbl.put Instant.zero a tk.capture (s.zraw k).captures }
    let s := match rest with
      | y :: _ => if y.wrapped then segMark k (a + data.length) s else s
      | [] => s
    raise .zraw k 0 (refreshZraw k s)

/-! ### Staged rows (R233, R234) -/

/-- The engine that takes a staged row: the one with the fewest rows queued, the lowest number on a tie; `queued` says how
many rows each engine has queued. None if no engine with STAGE = 1 can queue it. -/
def stageEngine (s : State) (queued : List Nat) : Option Nat :=
  let l := (List.range 4).filter (fun k => s.get k Reg.zraw_CFG_STAGE == 1 && decide (queued.getD k 0 < 4))
  l.foldl (fun (a : Option Nat) k =>
    match a with
    | none => some k
    | some b => if queued.getD k 0 < queued.getD b 0 then some k else some b) none

/-- Whether any engine takes staging rows. -/
def anyStage (s : State) : Bool := (List.range 4).any (fun k => s.get k Reg.zraw_CFG_STAGE == 1)

/-- Offer a staged row to the engines (R233): the bytes for its slot, whose packed form is `packed`, and its index entry. -/
def stageEncode (queued : List Nat) (b slot : Nat) (xs : List Nat) (packed : List Byte) (s : State) :
    List Byte × Nat × State :=
  match stageEngine s queued with
  | none =>
    if anyStage s then
      let k := ((List.range 4).find? (fun k => s.get k Reg.zraw_CFG_STAGE == 1)).getD 0
      (packed, 0, raise .zraw k 4 (s.inc k Reg.zraw_COUNTS_STAGE_RAW))
    else (packed, 0, s.inc 0 Reg.zraw_COUNTS_STAGE_RAW)
  | some k =>
    let c := encodeStaged b xs
    let n := roundTo 64 c.length
    let s := countBytes k (packedBytes b xs.length) (if n < slot then c.length else packed.length) s
    if n < slot then (c, n / 64, s) else (packed, 0, s.inc k Reg.zraw_COUNTS_STAGE_RAW)

/-- Decode a staged row that was compressed: its samples, or none where the bench treats it as poisoned (R234). -/
def stageDecode (b w : Nat) (data : List Byte) (s : State) : Option (List Nat) × State :=
  let k := ((List.range 4).find? (fun k => s.get k Reg.zraw_CFG_STAGE == 1))
  match k, decodeStaged b w data with
  | some _, some l => (some l, s)
  | _, _ =>
    let e := k.getD 0
    (none, raise .zraw e 5 (s.inc e Reg.zraw_COUNTS_DECODE_ERR))

/-! ### Jobs (R237-R241) -/

/-- A descriptor (R237). -/
structure Job where
  op : Nat
  resume : Bool
  mode : Nat
  bits : Nat
  width : Nat
  rows : Nat
  src : Nat
  srcLen : Nat
  dst : Nat
  dstLen : Nat
  ctx : Nat
  /-- Every field in range. -/
  ok : Bool

/-- Read a descriptor. -/
def Job.read (l : List Byte) : Job :=
  let op := leAt l 0 1
  let flags := leAt l 1 1
  let bits := leAt l 2 1
  let mode := flags / 4 % 4
  { op := op, resume := flags % 2 == 1, mode := mode, bits := bits, width := leAt l 4 2, rows := leAt l 6 2,
    src := leAt l 8 8, srcLen := leAt l 16 4, dst := leAt l 20 8, dstLen := leAt l 28 4, ctx := leAt l 32 8,
    ok := op ≤ 3 && flags / 16 == 0 && flags / 2 % 2 == 0 && (2 ≤ op || (10 ≤ bits && bits ≤ 16)) && (op ≤ 1 || mode == 0)
      && leAt l 8 8 < 2 ^ 40 && leAt l 20 8 < 2 ^ 40 && leAt l 32 8 < 2 ^ 40 && leAt l 32 8 % 64 == 0
      && (op != 0 || decide (2 * leAt l 4 2 * leAt l 6 2 ≤ leAt l 16 4)) }

/-- The resume context (R239, R240): rows (or groups) done, words done in the row in progress, source bytes before it, the
pending bits, the address of the open row header + 1, and the bytes put out so far. -/
structure JobCtx where
  row : Nat
  words : Nat
  pos : Nat
  pendN : Nat
  pendV : Nat
  hdr : Nat
  total : Nat

/-- The context of a job that starts afresh. -/
def JobCtx.zero : JobCtx := { row := 0, words := 0, pos := 0, pendN := 0, pendV := 0, hdr := 0, total := 0 }

/-- The 64 bytes of a context; the arrangement is the model's (assumption log 25). -/
def JobCtx.encode (c : JobCtx) (hist : List Nat) : List Byte :=
  let l := bytesLE 4 c.row ++ bytesLE 4 c.words ++ bytesLE 8 c.pos ++ bytesLE 1 c.pendN ++ bytesLE 4 c.pendV
    ++ bytesLE 8 c.hdr ++ bytesLE 8 c.total ++ (padTo 6 (hist.flatMap (fun h => bytesLE 2 h)))
  padTo 60 l ++ bytesLE 4 (crc32c (padTo 60 l))

/-- Read a context; none where its own check fails (R238). -/
def JobCtx.decode (l : List Byte) : Option JobCtx :=
  if crc32c (l.take 60) = leAt l 60 4 ∧ l.length = 64 then
    some { row := leAt l 0 4, words := leAt l 4 4, pos := leAt l 8 8, pendN := leAt l 16 1, pendV := leAt l 17 4,
           hdr := leAt l 21 8, total := leAt l 29 8 }
  else none

/-- How a job ends: STATUS, CONSUMED, PRODUCED, what is written where, the context if it was stopped for space, and how many
destination bytes from PRODUCED on hold values the rules do not give. -/
structure JobEnd where
  status : Nat
  consumed : Nat
  produced : Nat
  writes : List (Nat × List Byte)
  ctx : Option (List Byte)
  openBytes : Nat

/-- A job that touches nothing. -/
def JobEnd.untouched (status : Nat) : JobEnd :=
  { status := status, consumed := 0, produced := 0, writes := [], ctx := none, openBytes := 0 }

/-- How many of the words fit in `cap` bits after `have` bits, and their bits; words that would bring the output to the
no-gain limit of `lim` bits stop it too (R239, R241). -/
def takeWords (cap lim : Nat) : Nat → List (Nat × Nat) → Nat × Nat × Bool
  | used, [] => (0, used, false)
  | used, w :: t =>
    if lim ≤ used + w.1 then (0, used, true)
    else if cap < used + w.1 then (0, used, false)
    else
      let (n, u, g) := takeWords cap lim (used + w.1) t
      (n + 1, u, g)

/-- The last three rebuilt values of a row after `n` samples. -/
def histAfter (b d n : Nat) (xs : List Nat) : List Nat :=
  (((rowCodes b d 0 0 0 0 xs).take n).map (·.2)).reverse.take 3

/-- Samples done after `n` words of a row (its header and the k fields among them). -/
def samplesAfter (n : Nat) : Nat := if n ≤ 1 then 0 else (n - 1) - ceilDiv (n - 1) 33

/-- Encode rows from context `c` into fresh space (R225-R228, R239-R241): `off` counts the bytes already put out. -/
def encodeRows (j : Job) (a : Array Nat) (bad : Option Nat) : Nat → JobCtx → Nat → Nat → List (Nat × List Byte) → JobEnd
  | 0, _, off, used, acc =>
    { status := 0, consumed := used, produced := off, writes := acc.reverse, ctx := none, openBytes := 0 }
  | f + 1, c, off, used, acc =>
    if j.rows ≤ c.row then
      { status := 0, consumed := used, produced := off, writes := acc.reverse, ctx := none, openBytes := 0 }
    else
      let xs := (List.range j.width).map (fun i => a.getD (c.row * j.width + i) 0 % 2 ^ j.bits)
      let poisoned := match bad with
        | none => false
        | some p => decide (p < (c.row + 1) * j.width * 2)
      let before := samplesAfter c.words
      if poisoned then
        { status := 0x0D, consumed := used, produced := off, writes := acc.reverse, ctx := none,
          openBytes := min (j.dstLen - off) (j.srcLen - off) }
      else
        let d := nearOf j.mode
        let (hv, ws) := rowForm j.bits d xs
        let all := (32, 0) :: ws
        let todo := all.drop c.words
        let capBits := 8 * (j.dstLen - off)
        let limBits := 8 * (j.srcLen - (c.total + off)) - 7
        let (n, u, gain) := takeWords capBits limBits c.pendN todo
        let raw := 2 ^ 31 ≤ hv
        if gain then
          { status := 0x11, consumed := used, produced := off, writes := acc.reverse, ctx := none,
            openBytes := min (j.dstLen - off) (j.srcLen - off) }
        else if n < todo.length then
          let done := c.words + n
          let bits := (c.pendN, c.pendV) :: todo.take n
          let whole := u / 32 * 4
          let pend := u % 32
          let v := wordsVal bits
          let data := bytesBE whole (v / 2 ^ pend)
          -- the header of the row left open stays unwritten
          let (at0, body) := if c.words = 0 then (j.dst + off + 4, data.drop 4) else (j.dst + off, data)
          let hdr := if c.words = 0 then (if 0 < n then j.dst + off + 1 else 0) else c.hdr
          let sd := if raw then done - 1 else samplesAfter done
          let ctx : JobCtx := { row := c.row, words := done, pos := c.row * j.width * 2, pendN := pend, pendV := v % 2 ^ pend,
                                hdr := hdr, total := c.total + off + whole }
          { status := 0x12, consumed := used + 2 * (sd - (if raw then c.words - 1 else before)), produced := off + whole,
            writes := ((at0, body) :: acc).reverse, ctx := some (ctx.encode (histAfter j.bits d sd xs)), openBytes := 0 }
        else
          let bits := (c.pendN, c.pendV) :: todo
          let data := bytesBE (u / 8) (wordsVal bits)
          let body := if c.words = 0 then bytesLE 4 hv ++ data.drop 4 else data
          let acc := if c.words = 0 then acc else (c.hdr - 1, bytesLE 4 hv) :: acc
          let sd := if raw then c.words - 1 else before
          encodeRows j a bad f { JobCtx.zero with row := c.row + 1, total := c.total } (off + u / 8)
            (used + 2 * (j.width - sd)) ((j.dst + off, body) :: acc)

/-- Decode rows from context `c` (R228, R239, R240): `p` is the source position of the row. -/
def decodeRows (j : Job) (src : List Byte) (bad : Option Nat) :
    Nat → JobCtx → Nat → Nat → List (Nat × List Byte) → JobEnd
  | 0, _, off, used, acc =>
    { status := 0, consumed := used, produced := off, writes := acc.reverse, ctx := none, openBytes := 0 }
  | f + 1, c, off, used, acc =>
    if j.rows ≤ c.row then
      { status := 0, consumed := used, produced := off, writes := acc.reverse, ctx := none, openBytes := 0 }
    else
      let stop := fun st => ({ status := st, consumed := used, produced := off, writes := acc.reverse, ctx := none,
                               openBytes := min (j.dstLen - off) (2 * j.width * (j.rows - c.row)) } : JobEnd)
      let h := leAt src c.pos 4
      let n := h % 2 ^ 24
      let raw := 2 ^ 31 ≤ h
      let hit := match bad with
        | none => false
        | some p => decide (p < c.pos + 4 + n)
      let hitHead := match bad with
        | none => false
        | some p => decide (p < c.pos + 4)
      if hitHead then stop 0x0D
      else if src.length < c.pos + 4 ∨ h / 2 ^ 24 % 128 ≠ 0 ∨ src.length < c.pos + 4 + n then stop 0x01
      else
        let data := (src.drop (c.pos + 4)).take n
        let v := natBE data
        let (l, ok) := if raw then decodePacked j.bits v (8 * n) j.width 0
          else decodeCoded j.bits (nearOf j.mode) v (8 * n) j.width 0 0 0 0 0 0
        let endBit := (l.getLast?.map (·.2)).getD 0
        let whole := ok && decide (l.length = j.width) && decide (endBit + padBits endBit = 8 * n)
        let todo := l.drop c.words
        let room := (j.dstLen - off) / 2
        if hit then stop 0x0D
        else if room < todo.length then
          let give := todo.take room
          let bitPos := ((l.take (c.words + room)).getLast?.map (·.2)).getD 0
          let startBit := ((l.take c.words).getLast?.map (·.2)).getD 0
          let ctx : JobCtx := { row := c.row, words := c.words + room, pos := c.pos, pendN := 0, pendV := 0, hdr := 0,
                                total := c.total + off + 2 * room }
          { status := 0x12, consumed := used + (bitPos / 8 - startBit / 8), produced := off + 2 * room,
            writes := ((j.dst + off, give.flatMap (fun x => bytesLE 2 x.1)) :: acc).reverse,
            ctx := some (ctx.encode ((give.map (·.1)).reverse.take 3)), openBytes := 0 }
        else if !whole then stop 0x01
        else
          let startBit := ((l.take c.words).getLast?.map (·.2)).getD 0
          decodeRows j src bad f { JobCtx.zero with row := c.row + 1, pos := c.pos + 4 + n, total := c.total }
            (off + 2 * todo.length) (used + 4 + n - startBit / 8)
            ((j.dst + off, todo.flatMap (fun x => bytesLE 2 x.1)) :: acc)

/-- Groups that fit in the space left, and what stops the job: 0 = nothing, 0x11 or 0x12 (R239, R241). -/
def takeGroups (cap lim : Nat) : Nat → List (Nat × List Byte) → List (Nat × List Byte) × Nat
  | _, [] => ([], 0)
  | out, g :: t =>
    if lim ≤ out + g.2.length then ([], 0x11)
    else if cap < out + g.2.length then ([], 0x12)
    else
      let (l, st) := takeGroups cap lim (out + g.2.length) t
      (g :: l, st)

/-- A byte compress job (R235, R236, R239-R241). -/
def compressJob (j : Job) (src : List Byte) (bad : Option Nat) (c : JobCtx) : JobEnd :=
  let gs := (lzGroups src).drop c.row
  let sound := match bad with
    | none => gs
    | some p => gs.filter (fun g => decide (g.1 ≤ p))
  let (take, st) := takeGroups j.dstLen (j.srcLen - c.total) 0 sound
  let data := take.flatMap (·.2)
  let pos := (take.getLast?.map (·.1)).getD c.pos
  let st := if st = 0 ∧ sound.length < gs.length then 0x0D else st
  let base : JobEnd := { status := st, consumed := pos - c.pos, produced := data.length, writes := [(j.dst, data)],
                         ctx := none, openBytes := 0 }
  if st = 0x12 then
    let ctx : JobCtx := { row := c.row + take.length, words := 0, pos := pos, pendN := 0, pendV := 0, hdr := 0,
                          total := c.total + data.length }
    { base with ctx := some (ctx.encode []) }
  else if st = 0 then base
  else { base with openBytes := min (j.dstLen - data.length) (j.srcLen - data.length) }

/-- A byte decompress job (R235, R239, R240). -/
def decompressJob (j : Job) (src : List Byte) (bad : Option Nat) (c : JobCtx) : JobEnd :=
  let (gs, out, ok) := lzExpand src.toArray (src.length + 1) 0 #[]
  let sound : List (Nat × Nat) := match bad with
    | none => gs
    | some p => gs.filter (fun g => decide (g.1 ≤ p))
  let fit := (sound.drop c.row).takeWhile (fun g => decide (g.2 - c.total ≤ j.dstLen))
  let upto := (fit.getLast?.map (·.2)).getD c.total
  let pos := (fit.getLast?.map (·.1)).getD c.pos
  let data := (out.toList.take upto).drop c.total
  let base : JobEnd := { status := 0, consumed := pos - c.pos, produced := data.length, writes := [(j.dst, data)],
                         ctx := none, openBytes := 0 }
  if fit.length < (sound.drop c.row).length then
    let ctx : JobCtx := { row := c.row + fit.length, words := 0, pos := pos, pendN := 0, pendV := 0, hdr := 0, total := upto }
    { base with status := 0x12, ctx := some (ctx.encode []) }
  else if sound.length < gs.length then { base with status := 0x0D, openBytes := j.dstLen - data.length }
  else if !ok then { base with status := if bad.isSome then 0x0D else 0x01, openBytes := j.dstLen - data.length }
  else base

/-- The first poisoned byte of a range, counted from its start. -/
def firstPoison (s : State) (a n : Nat) : Option Nat := (List.range n).find? (fun i => rangePoisoned s (a + i) 1)

/-- What a job does, seen from the state at its start. -/
def runJob (s : State) (j : Job) : JobEnd :=
  if !j.ok then JobEnd.untouched 0x01
  else
    match (if j.resume then JobCtx.decode (memBytes s.dram j.ctx 64) else some JobCtx.zero) with
    | none => JobEnd.untouched 0x0A
    | some c =>
      if j.resume && rangePoisoned s j.ctx 64 then JobEnd.untouched 0x0A
      else
        let src := memBytes s.dram j.src j.srcLen
        let bad := (firstPoison s (j.src + c.pos) (j.srcLen - c.pos)).map (· + c.pos)
        if j.op = 0 then
          let a := ((List.range (j.width * j.rows)).map (fun i => leAt src (2 * i) 2)).toArray
          encodeRows j a bad (j.rows + 1) c 0 0 []
        else if j.op = 1 then decodeRows j src bad (j.rows + 1) c 0 0 []
        else if j.op = 2 then compressJob j src bad c
        else decompressJob j src bad c

/-- Bytes whose values the rules leave open. -/
def openBytes (from_ n : Nat) : List Byte := (List.range n).map (fun i => Config.openByte from_ i)

/-- The job at JOB_HEAD runs to its end if its OP is `op`; a descriptor whose OP names no operation runs as the first kind
(R237, R238). -/
def jobDone (k op : Nat) (s : State) : State :=
  let head := s.get k Reg.zraw_JOB_HEAD_INDEX
  if !s.enabled .zraw k ∨ s.get k Reg.zraw_CFG_JOB_EN = 0 ∨ head = s.get k Reg.zraw_JOB_TAIL_INDEX then s
  else
    let a := addrReg s k Reg.zraw_JOB_BASE_LO_ADDR Reg.zraw_JOB_BASE_HI_ADDR + 64 * head
    let d := memBytes s.dram a 64
    let j := Job.read d
    if j.op ≠ op ∧ !(op = 0 ∧ 3 < j.op) then s
    else
      let e := if rangePoisoned s a 64 ∨ crc32c (d.take 40) ≠ leAt d 60 4 then JobEnd.untouched 0x0A else runJob s j
      let s := forEach e.writes (fun w s => dramWrite 0 w.1 w.2 s) s
      let s := if e.openBytes = 0 then s
        else (dramWrite 0 (j.dst + e.produced) (openBytes s.free e.openBytes) s).fresh
      let s := match e.ctx with
        | some l => dramWrite 0 j.ctx l s
        | none => s
      let s := if j.op = 0 ∨ j.op = 2 then countBytes k e.consumed e.produced s else s
      let s := dramWrite 0 (a + 40) (bytesLE 4 e.status ++ bytesLE 4 e.consumed ++ bytesLE 4 e.produced) s
      let s := s.set k Reg.zraw_JOB_HEAD_INDEX ((head + 1) % max 1 (s.get k Reg.zraw_JOB_RING_SLOTS))
      let s := if e.status = 0x11 then s.inc k Reg.zraw_COUNTS_NO_GAIN else s
      raiseIf (e.status ≠ 0) .zraw k 3 (raise .zraw k 2 (refreshZraw k s))

/-! ### Meanings -/

/-- PIXEL_ENCODE_JOB (R238). -/
def execPixelEncodeJob (k : Fin 4) (t : Time) (s : State) : Host.Outcome State Fault Refusal := .next (jobDone k.val 0 (s.at t))

/-- PIXEL_DECODE_JOB (R238). -/
def execPixelDecodeJob (k : Fin 4) (t : Time) (s : State) : Host.Outcome State Fault Refusal := .next (jobDone k.val 1 (s.at t))

/-- BYTE_COMPRESS_JOB (R238). -/
def execByteCompressJob (k : Fin 4) (t : Time) (s : State) : Host.Outcome State Fault Refusal := .next (jobDone k.val 2 (s.at t))

/-- BYTE_DECOMPRESS_JOB (R238). -/
def execByteDecompressJob (k : Fin 4) (t : Time) (s : State) : Host.Outcome State Fault Refusal :=
  .next (jobDone k.val 3 (s.at t))

end Sys2Proof.Machine
end

