-- ==== Sys2Proof/Machine/Audio.lean ====
section
/-! DEFINITION. Audio ports (R411-R424): states, start triggers, blocks and rings, underrun and lost clocks, rates. Sessions are
in Sessions.lean. -/

namespace Sys2Proof.Machine

def State.aud (s : State) (n : Nat) : Aud := Tbl.get Aud.reset s.auds n

def State.setAud (s : State) (n : Nat) (a : Aud) : State := { s with auds := Tbl.put Aud.reset n a s.auds }

/-- A read by an engine that has no rule for poison of its own: poisoned data read as open bytes (log 61). -/
def readOpen (who : Requester) (a n : Nat) (s : State) : List Byte × State :=
  let (d, bad, s) := dramRead who a n s
  if bad then (openBytes s.free n, s.fresh) else (d, s)

/-! ### Configuration -/

/-- Slots of a frame (R411). -/
def audSlots (s : State) (n : Nat) : Nat := if s.get n Reg.aud_CFG_FORMAT = 2 then s.get n Reg.aud_CFG_SLOTS + 1 else 2

def audSlotBits (s : State) (n : Nat) : Nat := if s.get n Reg.aud_CFG_SLOT_BITS = 0 then 16 else 32

def audSampleBits (s : State) (n : Nat) : Nat := 16 + 8 * s.get n Reg.aud_CFG_SAMPLE_BITS

def audRate (s : State) (n : Nat) : Nat := s.get n Reg.aud_RATE_RATE_HZ

/-- BCLK in Hz (R412). -/
def audBclk (s : State) (n : Nat) : Nat := audRate s n * audSlots s n * audSlotBits s n

def audFrames (s : State) (n : Nat) : Nat := s.get n Reg.aud_BLOCK_FRAMES

def audMaster (s : State) (n : Nat) : Bool := s.get n Reg.aud_RATE_MASTER == 1

def audOutput (s : State) (n : Nat) : Bool := s.get n Reg.aud_RATE_DIR == 1

def audDom (s : State) (n : Nat) : Nat := s.get n Reg.aud_TIMING_DOMAIN

/-- Frames that an underrun repeats (R419). -/
def audLimit (s : State) (n : Nat) : Nat := s.get n Reg.aud_TIMING_HOLD_MS * audRate s n / 1000

/-- Whether R412 refuses to arm a port. -/
def armRefused (s : State) (n : Nat) : Bool :=
  let b := audBclk s n
  let hz := s.get 0 (Reg.amclk_MCLK_HZ_HZ.at (8 * s.get n Reg.aud_CFG_MCLK_SRC))
  decide (49152000 < b) || (audMaster s n && !(hz % b == 0 && decide (1 ≤ hz / b) && decide (hz / b ≤ 16)))
    || decide (audSlotBits s n < audSampleBits s n)

/-- Whether a synthesiser is named by a port in ARMED, SILENT, RUNNING or STOPPING (R413). -/
def mclkNamed (s : State) (k : Nat) : Bool :=
  (List.range 16).any (fun n => decide (2 ≤ s.stateOf .aud n) && audMaster s n && s.get n Reg.aud_CFG_MCLK_SRC == k)

/-! ### Blocks and rings (R417) -/

/-- Bytes of a ring slot. -/
def audSlotSize (s : State) (n : Nat) : Nat := roundTo 64 (32 + audFrames s n * audSlots s n * 4)

def audSlotAddr (s : State) (n i : Nat) : Nat :=
  addrReg s n Reg.aud_RING_LO_ADDR Reg.aud_RING_HI_ADDR + i * audSlotSize s n

/-- The slot after slot `i`. -/
def audNext (s : State) (n i : Nat) : Nat := (i + 1) % max 1 (s.get n Reg.aud_BLOCK_SLOTS)

/-- A block: position, BFLAGS, time and frames of MSB-aligned words. -/
def audBlock (pos flags : Nat) (time : Instant) (frames : List (List Nat)) : List Byte :=
  bytesLE 4 pos ++ bytesLE 2 frames.length ++ bytesLE 1 flags ++ bytesLE 1 0 ++ time.encode ++ bytesLE 8 0
    ++ frames.flatMap (fun f => f.flatMap (bytesLE 4))

/-- The top SAMPLE_BITS of a word, zero below. -/
def audMask (s : State) (n v : Nat) : Nat := v / 2 ^ (32 - audSampleBits s n) * 2 ^ (32 - audSampleBits s n) % 2 ^ 32

/-- A received slot as an MSB-aligned word (R411). -/
def audWord (s : State) (n v : Nat) : Nat := audMask s n (v * 2 ^ (32 - audSlotBits s n))

/-- A frame of zeros. -/
def audZeros (s : State) (n : Nat) : List Nat := List.replicate (audSlots s n) 0

/-- The last sample of every slot; before the first, the zeros of SILENT (R414). -/
def audLast (s : State) (n : Nat) : List Nat := if (s.aud n).last = [] then audZeros s n else (s.aud n).last

/-- Fill missing frames by repeat, then by zero (R419, R421): frames, and the state (last frame, frames repeated, repeats and
zeros used) after them. -/
def audFill (limit : Nat) (zeros : List Nat) : List (Option (List Nat)) → List Nat → Nat → List (List Nat) × List Nat × Nat × Bool × Bool
  | [], last, k => ([], last, k, false, false)
  | some f :: t, _, _ =>
    let (l, x, k, r, z) := audFill limit zeros t f 0
    (f :: l, x, k, r, z)
  | none :: t, last, k =>
    let (l, x, k', r, z) := audFill limit zeros t last (k + 1)
    if k < limit then (last :: l, x, k', true, z) else (zeros :: l, x, k', r, true)

/-- Show the position. -/
def audShowPos (n : Nat) (s : State) : State := s.set n Reg.aud_POS_POS (s.aud n).pos

/-- A captured block of an input port: its position, time and frames, and the state after it; none where no block completes
(R418-R421). `start` is TIMEL at its first frame's start; a frame that was not captured is none. -/
def audCapture (n start : Nat) (raw : List (Option (List Nat))) (s : State) : Option (Nat × Instant × List (List Nat) × State) :=
  let a := s.aud n
  let st := s.stateOf .aud n
  let lost := a.lostInBlock || s.get n Reg.aud_STATUS_CLOCK_LOST == 1
  if audOutput s n ∨ !(st == 4 || (st == 5 && a.stopping)) ∨ raw.length ≠ audFrames s n ∨ (!lost ∧ raw.any (·.isNone)) then none
  else
    let raw := raw.map (fun f => f.map (fun l => l.map (audWord s n)))
    let (frames, last, k, rep, zero) := audFill (audLimit s n) (audZeros s n) raw (audLast s n) (a.hold.getD 0)
    let time : Instant := ⟨audDom s n, clockAt s (audDom s n) start⟩
    let block := audBlock a.pos (bit rep + 2 * bit zero + 4 * bit lost) time frames
    let stillLost := s.get n Reg.aud_STATUS_CLOCK_LOST == 1
    let s := s.setAud n { a with pos := (a.pos + frames.length) % 2 ^ 32, last := last, hold := if k = 0 then none else some k,
                                 lostInBlock := stillLost, stopping := false }
    let s := audShowPos n s
    let dev := s.get n Reg.aud_RING_IDX_DEV_IDX
    let s :=
      if audNext s n dev = s.get n Reg.aud_RING_IDX_SW_IDX then raise .aud n 3 (s.inc n Reg.aud_COUNTS_OVERRUN)
      else
        let s := dramWrite 0 (audSlotAddr s n dev) (padTo (audSlotSize s n) block) s
        raise .aud n 7 (s.set n Reg.aud_RING_IDX_DEV_IDX (audNext s n dev))
    some (a.pos, time, frames, s)

/-! ### Output (R418, R419, R424) -/

/-- Take blocks from an output port's ring at position `pos`: late ones are discarded, one that starts there is returned with
its frames. -/
def audTake (n pos : Nat) : Nat → State → Option (List (List Nat)) × State
  | 0, s => (none, s)
  | k + 1, s =>
    let dev := s.get n Reg.aud_RING_IDX_DEV_IDX
    if dev = s.get n Reg.aud_RING_IDX_SW_IDX then (none, s)
    else
      let (b, s) := readOpen 0 (audSlotAddr s n dev) (audSlotSize s n) s
      let d := toSigned 32 ((leAt b 0 4 + 2 ^ 32 - pos % 2 ^ 32) % 2 ^ 32)
      if d > 0 then (none, s)
      else
        let s := s.set n Reg.aud_RING_IDX_DEV_IDX (audNext s n dev)
        if d < 0 then audTake n pos k (s.inc n Reg.aud_COUNTS_LATE)
        else
          let w := audSlots s n
          let frames := (List.range (min (leAt b 4 2) (audFrames s n))).map (fun f =>
            (List.range w).map (fun i => audMask s n (leAt b (32 + 4 * (f * w + i)) 4)))
          (some frames, s)

/-- Write the block that a flow has filled into the port's ring; a full ring loses it (R424). -/
def audFlush (n : Nat) (s : State) : State :=
  let a := s.aud n
  if a.fill = [] then s
  else
    let sw := s.get n Reg.aud_RING_IDX_SW_IDX
    let s0 := s.setAud n { a with fill := [] }
    if audNext s n sw = s.get n Reg.aud_RING_IDX_DEV_IDX then s0
    else
      let off := toSigned 32 (a.fillPos % 2 ^ 32)
      let time : Instant := ⟨audDom s n, a.t0Dom + off * secUnits / (max 1 (audRate s n) : Nat)⟩
      let s := dramWrite 0 (audSlotAddr s n sw) (padTo (audSlotSize s n) (audBlock a.fillPos 0 time a.fill)) s0
      s.set n Reg.aud_RING_IDX_SW_IDX (audNext s n sw)

/-- One frame of a flow goes to its position (R424). -/
def audPut (n pos : Nat) (f : List Nat) (s : State) : State :=
  let a := s.aud n
  let s := if a.fill ≠ [] ∧ pos ≠ (a.fillPos + a.fill.length) % 2 ^ 32 then audFlush n s else s
  let a := s.aud n
  let s := s.setAud n { a with fillPos := if a.fill = [] then pos else a.fillPos, fill := a.fill ++ [f] }
  if (s.aud n).fill.length < audFrames s n then s else audFlush n s

/-- An L24 payload with RTP timestamp `ts` reaches an output port (R424). -/
def audReceive (n ts : Nat) (data : List Byte) (s : State) : State :=
  let w := audSlots s n
  let a := s.aud n
  if s.stateOf .aud n ≠ 4 ∨ !audOutput s n ∨ s.get n Reg.aud_OUT_SRC_SRC = 0 then s
  else if data.length % (3 * w) ≠ 0 then s.inc n Reg.aud_COUNTS_LATE
  else
    let rtp0 := ofSigned 32 (a.t0Dom * (audRate s n : Nat) / secUnits + (s.get n Reg.aud_RTP_OFFSET_VALUE : Nat))
    let p := toSigned 32 ((ts + 2 ^ 32 - rtp0) % 2 ^ 32) + (s.get n Reg.aud_OUT_SRC_PLAYOUT_FRAMES : Nat)
    forEach (List.range (data.length / (3 * w))) (fun i s =>
      audPut n (ofSigned 32 (p + (i : Nat))) ((List.range w).map (fun c => 256 * beAt data (3 * (i * w + c)) 3)) s) s

/-- What an output port sends, unless its lost clock holds SD low (R421). -/
def audEmit (n : Nat) (e : Emit) (s : State) : State := if s.get n Reg.aud_STATUS_CLOCK_LOST = 1 then s else s.emit e

/-- An output port is at position `pos` with no block in progress (R418, R419). -/
def audOutBlock (n pos : Nat) (s : State) : State :=
  let a := s.aud n
  if s.stateOf .aud n ≠ 4 ∨ !audOutput s n ∨ (if a.hold.isNone then pos ≠ a.pos else pos < a.pos) then s
  else
    let s := if a.fill ≠ [] ∧ a.fillPos = pos % 2 ^ 32 then audFlush n s else s
    let (b, s) := audTake n pos (s.get n Reg.aud_BLOCK_SLOTS + 1) s
    let a := s.aud n
    match b with
    | some frames =>
      let s := s.setAud n { a with pos := pos + frames.length, last := frames.getLastD a.last, hold := none, zero := false }
      audEmit n (.audio n pos frames) (audShowPos n (s.set n Reg.aud_STATUS_HOLDING 0))
    | none =>
      let s := audShowPos n (s.setAud n { a with pos := pos })
      if a.hold.isSome then s
      else
        let zero := audLimit s n == 0
        let s := s.setAud n { s.aud n with hold := some pos, zero := zero }
        let s := raise .aud n 2 ((s.set n Reg.aud_STATUS_HOLDING 1).inc n Reg.aud_COUNTS_UNDERRUN)
        audEmit n (.audioFill n pos (if zero then audZeros s n else audLast s n)) s

/-- The frames of an underrun have been repeated for HOLD_MS (R419). -/
def audHoldLimit (n : Nat) (s : State) : State :=
  let a := s.aud n
  match a.hold with
  | some p =>
    if audOutput s n ∧ s.stateOf .aud n = 4 ∧ !a.zero then
      let q := p + audLimit s n
      audEmit n (.audioFill n q (audZeros s n)) (audShowPos n (s.setAud n { a with zero := true, pos := max a.pos q }))
    else s
  | none => s

/-! ### States (R414, R415) -/

/-- ENABLE = 1. -/
def audEnable (n : Nat) (s : State) : State := if s.stateOf .aud n = 0 then s.setState .aud n 1 else s

/-- ENABLE = 0: pins high-impedance, rings and counts kept. -/
def audDisable (n : Nat) (s : State) : State :=
  let s := (s.set n Reg.aud_STATUS_HOLDING 0).set n Reg.aud_STATUS_CLOCK_LOST 0
  (s.setAud n Aud.reset).setState .aud n 0

/-- A write of CTRL (R412, R414). -/
def writeAudCtrl (origin n : Nat) (v : Word) (s : State) : State :=
  let s :=
    if getBit v.toNat 0 then
      if s.stateOf .aud n ≠ 1 then logAccess .aud n 0x10 origin 0x64 0 s
      else if armRefused s n then logAccess .aud n 0x06 origin 0x64 0 s
      else s.setState .aud n 2
    else s
  if getBit v.toNat 1 then
    if s.stateOf .aud n = 2 then s.setState .aud n 1
    else if s.stateOf .aud n = 4 then
      let a := s.aud n
      let s := (s.setAud n { a with stopping := !audOutput s n, hold := none, zero := false }).setState .aud n 5
      if audOutput s n then audEmit n (.audioFill n a.pos (audZeros s n)) (s.set n Reg.aud_STATUS_HOLDING 0) else s
    else s
  else s

/-- SILENT_FRAMES after STOPPING began. -/
def audStopped (n : Nat) (s : State) : State :=
  if s.stateOf .aud n = 5 then raise .aud n 1 (s.setState .aud n 1) else s

/-- Position 0, whose frame starts at `t` (R415); `at?` is that instant in the port's domain if the trigger gives it. -/
def audRun (n : Nat) (t : Time) (at? : Option Int) (s : State) : State :=
  let d := audDom s n
  let v := at?.getD (clockAt s d t)
  let x : Instant := ⟨d, v⟩
  let s := s.setAud n { Aud.reset with t0 := t, t0Dom := v }
  let s := (s.set n Reg.aud_START_SEC_VALUE (ofSigned 32 x.sec)).set n Reg.aud_START_NS_VALUE x.ns
  raise .aud n 0 (audShowPos n (s.setState .aud n 4))

/-- The trigger instant that the START registers hold. -/
def startInstant (s : State) : Int :=
  toSigned 48 (s.get 0 Reg.amclk_START_SEC_LO_VALUE + 2 ^ 32 * (s.get 0 Reg.amclk_START_SEC_HI_VALUE % 65536)) * secUnits
    + (65536 * s.get 0 Reg.amclk_START_NS_VALUE : Nat)

/-- Whether a trigger at `v` comes too soon for a port of MASK (R415). -/
def startTooSoon (s : State) (d : Nat) (v : Int) (mask : Nat) : Bool :=
  (List.range 16).any (fun n =>
    getBit mask n && decide ((v - clockAt s d s.now - 6553600000) * (audRate s n : Nat)
      < (s.get n Reg.aud_TIMING_SILENT_FRAMES : Nat) * secUnits))

/-- A write of START_CTRL (R415). -/
def writeStart (origin : Nat) (v : Word) (s : State) : State :=
  let mask := bitsOf v 16 16
  let d := bitsOf v 1 3
  let put := fun (s : State) => (s.set 0 Reg.amclk_START_CTRL_MASK mask).set 0 Reg.amclk_START_CTRL_DOMAIN d
  if !getBit v.toNat 0 then put s
  else if s.trigger.isSome ∨ startTooSoon s d (startInstant s) mask then logAccess .amclk 0 0x10 origin 0x8C 0 s
  else (put { s with trigger := some { dom := d, val := startInstant s, mask := mask } }).set 0 Reg.amclk_START_CTRL_PENDING 1

/-- A master port starts its clocks SILENT_FRAMES before the trigger. -/
def silentStart (n : Nat) (s : State) : State :=
  match s.trigger with
  | some g => if getBit g.mask n ∧ audMaster s n ∧ s.stateOf .aud n = 2 then s.setState .aud n 3 else s
  | none => s

/-- The trigger fires (R415): masters in SILENT reach position 0; other ports in ARMED enter SILENT. -/
def audTrigFire (t : Time) (s : State) : State :=
  match s.trigger with
  | none => s
  | some g =>
    let s := forEach (List.range 16) (fun n s =>
      if !getBit g.mask n then s
      else if s.stateOf .aud n = 3 ∧ audMaster s n then audRun n t (if audDom s n = g.dom then some g.val else none) s
      else if s.stateOf .aud n = 2 then s.setState .aud n 3
      else s) { s with trigger := none }
    raise .amclk 0 0 (s.set 0 Reg.amclk_START_CTRL_PENDING 0)

/-- The trigger fires if its instant has come. -/
def trigReached (t : Time) (s : State) : State :=
  match s.trigger with
  | some g => if g.val ≤ clockAt s g.dom t then audTrigFire t s else s
  | none => s

/-- A port that entered SILENT at the trigger reaches position 0 once SILENT_FRAMES frames have passed (R415). -/
def silentOver (n : Nat) (t : Time) (s : State) : State := if s.stateOf .aud n = 3 then audRun n t none s else s

/-! ### Lost clocks and rates (R421, R422) -/

/-- A slave port has lost its clock at position `pos`. -/
def audClockLost (n pos : Nat) (s : State) : State :=
  if audMaster s n ∨ s.stateOf .aud n < 3 ∨ s.get n Reg.aud_STATUS_CLOCK_LOST = 1 then s
  else
    let a := s.aud n
    let s := if audOutput s n ∧ s.stateOf .aud n = 4 then s.emit (.audioFill n pos (audZeros s n)) else s
    let s := s.setAud n { a with lostInBlock := true }
    raise .aud n 5 (((s.set n Reg.aud_STATUS_CLOCK_LOST 1).inc n Reg.aud_COUNTS_CLOCK_LOST).set n Reg.aud_POS_POS pos)

/-- The first frame start after the clocks return. -/
def audClockBack (n : Nat) (s : State) : State :=
  if s.get n Reg.aud_STATUS_CLOCK_LOST = 0 then s
  else raise .aud n 6 ((s.set n Reg.aud_STATUS_CLOCK_LOST 0).setAud n { s.aud n with ref := none })

/-- Whether a rate in 1/256 Hz lies within 0.5 % of `hz`, given in 1/8 Hz. -/
def near8 (rate hz : Nat) : Bool := decide ((rate - 32 * hz) * 200 ≤ 32 * hz) && decide ((32 * hz - rate) * 200 ≤ 32 * hz)

/-- The family of a rate (R422): 0 = 44.1 kHz, 1 = 48 kHz, 2 = unknown. -/
def rateFamily (rate : Nat) : Nat :=
  if (List.range 6).any (fun k => near8 rate (88200 * 2 ^ k)) then 0
  else if (List.range 32).any (fun k => near8 rate (64000 * (k + 1))) || (List.range 6).any (fun k => near8 rate (96000 * 2 ^ k)) then 1
  else 2

/-- A measurement of 250 ms (R422). -/
def audMeasure (n rate : Nat) (s : State) : State :=
  if s.stateOf .aud n ≠ 4 ∨ s.get n Reg.aud_STATUS_CLOCK_LOST = 1 then s
  else
    let a := s.aud n
    let s := s.set n Reg.aud_RATE_MEAS_RATE rate
    let keep := s.setAud n { a with ref := some rate }
    match a.ref with
    | none => keep
    | some r =>
      if 1000 * ((rate - r) + (r - rate)) > r ∨ rateFamily rate ≠ rateFamily r then raise .aud n 4 keep else s

/-! ### Commands -/

/-- SILENT_START (R415). -/
def execSilentStart (n : Fin 16) (t : Time) (s : State) : Host.Outcome State Fault Refusal := .next (silentStart n.val (s.at t))

/-- START_FIRED (R415): the trigger, or a port's position 0 after it. -/
def execStartFired (port : Option (Fin 16)) (t : Time) (s : State) : Host.Outcome State Fault Refusal :=
  match port with
  | none => .next (trigReached t (s.at t))
  | some n => .next (silentOver n.val t (s.at t))

/-- STOP_COMPLETE (R414). -/
def execStopComplete (n : Fin 16) (t : Time) (s : State) : Host.Outcome State Fault Refusal := .next (audStopped n.val (s.at t))

/-- OUTPUT_BLOCK (R418). -/
def execOutputBlock (n : Fin 16) (pos t : Nat) (s : State) : Host.Outcome State Fault Refusal :=
  .next (audOutBlock n.val pos (s.at t))

/-- HOLD_LIMIT (R419). -/
def execHoldLimit (n : Fin 16) (t : Time) (s : State) : Host.Outcome State Fault Refusal := .next (audHoldLimit n.val (s.at t))

/-- CLOCK_LOST (R421). -/
def execClockLost (n : Fin 16) (pos t : Nat) (s : State) : Host.Outcome State Fault Refusal :=
  .next (audClockLost n.val pos (s.at t))

/-- CLOCK_BACK (R421). -/
def execClockBack (n : Fin 16) (t : Time) (s : State) : Host.Outcome State Fault Refusal := .next (audClockBack n.val (s.at t))

/-- AUD_RATE_MEASURE (R422). -/
def execAudRateMeasure (n : Fin 16) (rate t : Nat) (s : State) : Host.Outcome State Fault Refusal :=
  .next (audMeasure n.val rate (s.at t))

end Sys2Proof.Machine
end

