-- ==== Sys2Proof/Machine/Bpool.lean ====
section
/-! DEFINITION. The buffer pool: descriptors, free lists, ownership, claims, the completion ring and the commands of BPOOL.CMD
(chapter 13: R308-R314, R319, R320). -/

namespace Sys2Proof.Machine

/-- A descriptor. -/
def State.buf (s : State) (d : Nat) : Buf := Tbl.get Buf.reset s.pool.bufs d

/-- Write a descriptor. -/
def State.setBuf (s : State) (d : Nat) (b : Buf) : State :=
  { s with pool := { s.pool with bufs := Tbl.put Buf.reset d b s.pool.bufs } }

/-- A free list, head first. -/
def freeList (s : State) (l : Nat) : List Nat := Tbl.get [] s.pool.lists l

/-- Write a free list; LISTl_CFG.FREE shows its length (R319). -/
def setFreeList (l : Nat) (x : List Nat) (s : State) : State :=
  ({ s with pool := { s.pool with lists := Tbl.put [] l x s.pool.lists } }).set 0
    (Reg.bpool_LIST_CFG_FREE.at (4 * l)) x.length

/-- Name the list and the descriptor of an event, and raise it (R320). -/
def poolEvent (e : Nat) (list desc : Option Nat) (s : State) : State :=
  let s := match list with
    | some l => s.set 0 Reg.bpool_EVENT_SRC_LIST l
    | none => s
  let s := match desc with
    | some d => s.set 0 Reg.bpool_EVENT_SRC_DESC d
    | none => s
  raise .bpool 0 e s

/-! ### Formats (R196, R308) -/

/-- Bytes of one row of the first plane. -/
def rowBytesOf (fmt w : Nat) : Nat :=
  match fmt with
  | 0 => w
  | 2 => w
  | 4 => w
  | 6 => 3 * w
  | 7 => 4 * w
  | 8 => 4 * w
  | 9 => 8 * w
  | 10 => 8 * w
  | _ => 2 * w

/-- Address of row `y` of the first plane. -/
def Buf.rowAddr (b : Buf) (y : Nat) : Nat := b.addr + 64 * b.pitch * y

/-- Address of row `y` of the CbCr plane (R308). -/
def Buf.chromaAddr (b : Buf) (y : Nat) : Nat :=
  b.addr + 64 * b.pitch * b.height + (if b.fmt = 4 ∨ b.fmt = 5 then 128 else 64) * b.pitch * y

/-- The visible rectangle: X, Y, W, H, zeros resolved (R319). -/
def Buf.visible (b : Buf) : Nat × Nat × Nat × Nat :=
  (b.visX, b.visY, if b.visW = 0 then b.width - b.visX else b.visW, if b.visH = 0 then b.height - b.visY else b.visH)

/-! ### Ownership (R308, R311, R312) -/

/-- A descriptor with no owner and no claim returns to the tail of its HOME list as FREE (R308). -/
def settleBuf (d : Nat) (s : State) : State :=
  let b := s.buf d
  if b.st ≠ 0 ∧ b.owner = 0 ∧ b.fetchers = [] ∧ b.decClaims = 0 then
    setFreeList b.home (freeList s b.home ++ [d]) (s.setBuf d { b with st := 0, fresh := false })
  else s

/-- The owner is lost (R312): with a fetch claim held the buffer stays, and PREMATURE_RELEASE is raised. -/
def loseOwner (d : Nat) (s : State) : State :=
  let b := s.buf d
  let s := s.setBuf d { b with owner := 0, fresh := false }
  let s := if b.fetchers = [] then s else poolEvent 0 (some b.home) (some d) s
  settleBuf d s

/-- A layer takes its fetch claim (R311). -/
def claimFetch (d layer : Nat) (s : State) : State :=
  let b := s.buf d
  s.setBuf d { b with fetchers := insertNat layer b.fetchers }

/-- A layer drops its fetch claim (R311). -/
def dropFetch (d layer : Nat) (s : State) : State :=
  let b := s.buf d
  settleBuf d (s.setBuf d { b with fetchers := b.fetchers.filter (fun x => x != layer) })

/-- A decoder takes a claim (R282, R311). -/
def claimDec (d : Nat) (s : State) : State :=
  let b := s.buf d
  s.setBuf d { b with decClaims := b.decClaims + 1 }

/-- A decoder drops a claim (R282, R311). -/
def dropDec (d : Nat) (s : State) : State :=
  let b := s.buf d
  settleBuf d (s.setBuf d { b with decClaims := b.decClaims - 1 })

/-- Take the head of a list as a PRODUCING buffer (R308); none if the list is empty. -/
def takeBuf (l owner : Nat) (s : State) : Option (Nat × State) :=
  match freeList s l with
  | [] => none
  | d :: rest => some (d, (setFreeList l rest s).setBuf d { s.buf d with st := 1, owner := owner, fresh := false, doneNo := 0 })

/-- A device producer takes a buffer; an empty list raises LIST_EMPTY (R314). -/
def produceBuf (l owner : Nat) (s : State) : Option Nat × State :=
  match takeBuf l owner s with
  | some (d, s') => (some d, s')
  | none => (none, poolEvent 1 (some l) none s)

/-- A buffer that was taken goes back uncompleted (R199, R200). -/
def returnBuf (d : Nat) (s : State) : State := loseOwner d s

/-! ### Completion (R309) -/

/-- Where the ticket of a descriptor lies. -/
def ticketAddr (s : State) (d : Nat) : Nat := addrReg s 0 Reg.bpool_TICKET_BASE_LO_ADDR Reg.bpool_TICKET_BASE_HI_ADDR + 128 * d

/-- The ticket of a descriptor as the device reads it (R346): a poisoned copy counts as one with a wrong TICKET_CRC. -/
def ticketOf (s : State) (d : Nat) : Ticket :=
  let k := Ticket.decode (memBytes s.dram (ticketAddr s d) 128)
  Ticket.flagIf (rangePoisoned s (ticketAddr s d) 128) flagUnverified k

/-- The ticket of a buffer, if a tap or decoder completed it. -/
def bufTicket (s : State) (d : Nat) : Option Ticket := if (s.buf d).doneNo = 0 then none else some (ticketOf s d)

/-- Entries of the completion ring. -/
def cqSlots (s : State) : Nat := 2 ^ s.get 0 Reg.bpool_CQ_CTRL_SLOTS_LOG2

/-- Append an entry to the completion ring (R309, R319); false if it is full. -/
def cqAppend (d list : Nat) (tk : Ticket) (s : State) : Bool × State :=
  let wr := s.get 0 Reg.bpool_CQ_CTRL_WR % cqSlots s
  let next := (wr + 1) % cqSlots s
  if next = s.get 0 Reg.bpool_CQ_CTRL_RD then
    (false, poolEvent 3 (some list) (some d) { s with pool := { s.pool with cqLost := s.pool.cqLost + 1 } })
  else
    let e := bytesLE 2 d ++ bytesLE 1 list ++ bytesLE 1 0 ++ bytesLE 4 tk.frameNo ++ bytesLE 2 tk.flags
      ++ bytesLE 1 s.pool.cqLost ++ bytesLE 5 0
    let s := dramWrite 0 (addrReg s 0 Reg.bpool_CQ_BASE_LO_ADDR Reg.bpool_CQ_BASE_HI_ADDR + 16 * wr) e s
    (true, poolEvent 2 (some list) (some d) (s.set 0 Reg.bpool_CQ_CTRL_WR next))

/-- The enabled feed layer that names a list (R309; at most one by R304). -/
def feedLayerOf (s : State) (l : Nat) : Option Nat :=
  (List.range 64).find? (fun n => s.get n Reg.layer_CFG_EN == 1 && s.get n Reg.layer_CFG_MODE == 1
    && s.get n Reg.layer_CFG_SRC == l)

/-- Count a completion. -/
def countDone (s : State) : State := { s with pool := { s.pool with doneNo := s.pool.doneNo + 1 } }

/-- A buffer whose ticket is written passes to its list's consumer (R309). -/
def handOver (d : Nat) (tk : Ticket) (s : State) : State :=
  let b := { s.buf d with st := 2, doneNo := s.pool.doneNo }
  if s.get 0 (Reg.bpool_LIST_CFG_DEST.at (4 * b.home)) = 1 then
    match feedLayerOf s b.home with
    | some _ => s.setBuf d { b with owner := 4, fresh := true }
    | none => loseOwner d (s.setBuf d b)
  else
    let s := s.setBuf d { b with owner := 3 }
    let (ok, s) := cqAppend d b.home tk s
    if ok then s else loseOwner d s

/-- A tap or decoder completes a buffer (R309). -/
def completeBuf (d : Nat) (tk : Ticket) (s : State) : State :=
  handOver d tk (countDone (dramWrite 0 (ticketAddr s d) tk.encode s))

/-! ### Commands (R314) -/

/-- A word of an origin's copy. -/
def poolCopy (s : State) (o off : Nat) : Nat := Tbl.get 0 s.pool.copies (4096 * o + off)

/-- Write a word of an origin's copy. -/
def setPoolCopy (o off v : Nat) (s : State) : State :=
  { s with pool := { s.pool with copies := Tbl.put 0 (4096 * o + off) v s.pool.copies } }

/-- CMD_RESULT of an origin. -/
def poolResult (o code d : Nat) (s : State) : State := setPoolCopy o 0x44 (2 ^ 31 + 65536 * code + d) s

/-- A refused command changes nothing but the result, and sets ERROR_CODE (R314). -/
def poolRefuse (o code d : Nat) (s : State) : State := poolResult o code d (logAccess .bpool 0 code o 0x40 0 s)

/-- The descriptor that an origin's DESC_* copy describes. -/
def copyBuf (s : State) (o : Nat) : Buf :=
  let g := poolCopy s o 0x50
  let f := poolCopy s o 0x54
  let p := poolCopy s o 0x58
  let z := poolCopy s o 0x5C
  { Buf.reset with
    addr := poolCopy s o 0x48 + 2 ^ 32 * poolCopy s o 0x4C, pitch := f / 256 % 16384, width := g % 65536,
    height := g / 65536, fmt := f % 16, visX := p % 65536, visY := p / 65536, visW := z % 65536, visH := z / 65536,
    home := f / 2 ^ 24 % 64 }

/-- Whether the fields of a descriptor are good (R308, R319). -/
def Buf.good (b : Buf) : Bool :=
  let (x, y, w, h) := b.visible
  2 ≤ b.width && b.width ≤ 8192 && 2 ≤ b.height && b.height ≤ 8192 && b.fmt ≤ 11
    && rowBytesOf b.fmt b.width ≤ 64 * b.pitch && x + w ≤ b.width && y + h ≤ b.height && 0 < w && 0 < h

/-- WRITE (R314): the descriptor goes to the tail of its new HOME list. -/
def poolWrite (o d : Nat) (s : State) : State :=
  let old := s.buf d
  let b := copyBuf s o
  if old.st ≠ 0 then poolRefuse o 0x09 d s
  else if !b.good then poolRefuse o 0x01 d s
  else
    let s := setFreeList old.home ((freeList s old.home).filter (fun x => x != d)) s
    let s := s.setBuf d b
    poolResult o 0 d (setFreeList b.home (freeList s b.home ++ [d]) s)

/-- READ (R314): the descriptor is copied into the origin's copy. -/
def poolRead (o d : Nat) (s : State) : State :=
  let b := s.buf d
  let s := setPoolCopy o 0x48 (b.addr % 2 ^ 32) s
  let s := setPoolCopy o 0x4C (b.addr / 2 ^ 32) s
  let s := setPoolCopy o 0x50 (b.width + 65536 * b.height) s
  let s := setPoolCopy o 0x54 (b.fmt + 256 * b.pitch + 2 ^ 24 * b.home) s
  let s := setPoolCopy o 0x58 (b.visX + 65536 * b.visY) s
  let s := setPoolCopy o 0x5C (b.visW + 65536 * b.visH) s
  let s := setPoolCopy o 0x60 (b.st + 16 * b.owner + 65536 * (b.fetchers.length + b.decClaims)) s
  poolResult o 0 d s

/-- A command of BPOOL.CMD past the write checks. -/
def poolCommand (o : Nat) (v : Word) (s : State) : State :=
  let op := bitsOf v 28 4
  let l := bitsOf v 16 6
  let d := bitsOf v 0 12
  let b := s.buf d
  if op = 1 then
    match takeBuf l 3 s with
    | some (d, s') => poolResult o 0 d s'
    | none => poolRefuse o 0x04 0 s
  else if op = 2 then
    if b.owner = 3 ∧ b.st = 1 then poolResult o 0 d (s.setBuf d { b with st := 2 }) else poolRefuse o 0x10 d s
  else if op = 3 then
    if b.owner = 3 then poolResult o 0 d (loseOwner d s) else poolRefuse o 0x10 d s
  else if op = 4 then poolWrite o d s
  else if op = 5 then poolRead o d s
  else logAccess .bpool 0 0x01 o 0x40 0 s

/-- Whether every buffer of a list is FREE, so that its DEST may change (R314). -/
def listIdle (s : State) (l : Nat) : Bool := s.pool.bufs.all (fun e => e.2.home != l || e.2.st == 0)

end Sys2Proof.Machine
end

