-- ==== Sys2Proof/Machine/Dec.lean ====
section
/-! DEFINITION. The decoders: the input ring, pictures, the reference pool, concealment, output and late pictures
(chapter 12: R272-R291). What the codec's standard computes from the coded bits (a slice's header, its samples) comes with
the command. -/

namespace Sys2Proof.Machine

/-! ### Access -/

/-- A decode context. -/
def State.dec (s : State) (c : Nat) : DecCtx := Tbl.get DecCtx.reset s.decs c

/-- Write a decode context. -/
def State.setDec (s : State) (c : Nat) (x : DecCtx) : State := { s with decs := Tbl.put DecCtx.reset c x s.decs }

/-- A field of a context. -/
def dget (s : State) (c : Nat) (f : Fld) : Nat := s.get (c / 32) (f.at (ctxOff (c % 32)))

/-- Write a field of a context. -/
def dset (c : Nat) (f : Fld) (v : Nat) (s : State) : State := s.set (c / 32) (f.at (ctxOff (c % 32))) v

/-- Count up in a field of a context. -/
def dinc (c : Nat) (f : Fld) (k : Nat) (s : State) : State := dset c f (dget s c f + k) s

/-- Raise an event of a context (R291). -/
def decEvent (c e : Nat) (s : State) : State := raise .dec (c / 32) e (s.set (c / 32) Reg.dec_EVENT_SRC_CONTEXT c)

/-- Contexts of an engine. -/
def decCtxs (d : Nat) : List Nat := (List.range 32).map (fun i => 32 * d + i)

/-- State of a context (R276): 0 = OFF, 1 = SEEK, 2 = DECODING, 3 = IDLE. -/
def decState (s : State) (c : Nat) : Nat := dget s c Reg.dec_CTX_STATUS_STATE

/-- The DPB entry at an index. -/
def dpbEntry (s : State) (c k : Nat) : Option DecEntry := Tbl.get none (s.dec c).dpb k

/-- Entries of a DPB with their indices. -/
def dpbEntries (s : State) (c : Nat) : List (Nat × DecEntry) :=
  (List.range 16).filterMap (fun k => (dpbEntry s c k).map (fun e => (k, e)))

/-- Show a DPB (R290). -/
def showDpb (c : Nat) (s : State) : State :=
  let s := dset c Reg.dec_CTX_STATUS_DPB_USED (dpbEntries s c).length s
  forEach (List.range 16) (fun k s =>
    let e := dpbEntry s c k
    let put := fun (f : Fld) (v : Nat) (s : State) => dset c (f.at (4 * k)) v s
    match e with
    | none =>
      put Reg.dec_CTX_DPB_VALID 0 (put Reg.dec_CTX_DPB_SHORT 0 (put Reg.dec_CTX_DPB_LONG 0
        (put Reg.dec_CTX_DPB_OUT_PENDING 0 (put Reg.dec_CTX_DPB_CONCEALED 0 (put Reg.dec_CTX_DPB_DESC 0 s)))))
    | some e =>
      put Reg.dec_CTX_DPB_VALID 1 (put Reg.dec_CTX_DPB_SHORT (bit e.short) (put Reg.dec_CTX_DPB_LONG (bit e.long)
        (put Reg.dec_CTX_DPB_OUT_PENDING (bit e.pending) (put Reg.dec_CTX_DPB_CONCEALED (bit e.concealed)
          (put Reg.dec_CTX_DPB_DESC e.desc s)))))) s

/-- Write a DPB entry. -/
def setEntry (c k : Nat) (e : Option DecEntry) (s : State) : State :=
  let x := s.dec c
  showDpb c (s.setDec c { x with dpb := Tbl.put none k e x.dpb })

/-! ### The input ring (R274, R275) -/

/-- The input ring in 64-byte units. -/
def inUnits (s : State) (c : Nat) : Nat := 16 * dget s c Reg.dec_CTX_IN_SIZE_KIB

/-- Address of the record at an offset of the ring. -/
def inAddr (s : State) (c rd : Nat) : Nat :=
  addrReg s (c / 32) (Reg.dec_CTX_IN_LO_ADDR.at (ctxOff (c % 32))) (Reg.dec_CTX_IN_HI_ADDR.at (ctxOff (c % 32))) + 64 * rd

/-- Header of the record at an offset of the ring. -/
def recHeader (s : State) (c rd : Nat) : List Byte := memBytes s.dram (inAddr s c rd) 64

/-- Annex B bytes of a record. -/
def recBytes (hdr : List Byte) : Nat := leAt hdr 4 4

/-- Units of a record. -/
def recUnits (hdr : List Byte) : Nat := ceilDiv (64 + recBytes hdr) 64

/-- Positions of the first bytes of the NAL units of a byte stream. -/
def nalStarts (p : Nat) : List Byte → List Nat
  | a :: b :: c :: t =>
    if a = 0 ∧ b = 0 ∧ c = 1 then (p + 3) :: nalStarts (p + 1) (b :: c :: t) else nalStarts (p + 1) (b :: c :: t)
  | _ => []

/-- What a NAL unit is, by its header: 0 = a slice, 1 = an access unit delimiter, 2 = other. -/
def nalKind (avc : Bool) (b : Nat) : Nat :=
  if avc then (if 1 ≤ b % 32 ∧ b % 32 ≤ 5 then 0 else if b % 32 = 9 then 1 else 2)
  else if b / 2 % 64 ≤ 31 then 0 else if b / 2 % 64 = 35 then 1 else 2

/-- The kinds of the NAL units of a record from payload position `off` on, with their positions. -/
def recNals (s : State) (c rd off : Nat) : List (Nat × Nat) :=
  let hdr := recHeader s c rd
  let pay := memBytes s.dram (inAddr s c rd + 64) (recBytes hdr)
  let avc := dget s c Reg.dec_CTX_CFG_CODEC == 1
  ((nalStarts 0 pay).filter (fun p => off ≤ p && p < pay.length)).map (fun p => (p, nalKind avc (leAt pay p 1)))

/-- Slices that wait in a ring from offset `rd`, payload position `off`. -/
def slicesFrom (s : State) (c wr : Nat) : Nat → Nat → Nat → Nat
  | 0, _, _ => 0
  | fuel + 1, rd, off =>
    if rd = wr then 0
    else
      let hdr := recHeader s c rd
      if leAt hdr 0 2 = 0 then slicesFrom s c wr fuel 0 0
      else
        ((recNals s c rd off).filter (fun x => x.2 == 0)).length
          + slicesFrom s c wr fuel ((rd + recUnits hdr) % max 1 (inUnits s c)) 0

/-- Slices that wait in a context's ring. -/
def slicesWaiting (s : State) (c : Nat) : Nat :=
  if decState s c = 0 then 0
  else slicesFrom s c (dget s c Reg.dec_CTX_IN_WR_OFFSET) (inUnits s c + 1) (dget s c Reg.dec_CTX_IN_RD_OFFSET) (s.dec c).off

/-- Show ENGINE_STATUS and PAGE_STATUS.STATE (R289). -/
def refreshDec (d : Nat) (s : State) : State :=
  let s := s.set d Reg.dec_ENGINE_STATUS_ACTIVE ((decCtxs d).filter (fun c => decState s c != 0)).length
  let s := s.setSat d Reg.dec_ENGINE_STATUS_QUEUED ((decCtxs d).foldl (fun a c => a + slicesWaiting s c) 0)
  s.setState .dec d (bit ((decCtxs d).any (fun c => decState s c == 2)))

/-- Show a context's state. -/
def showDec (c st : Nat) (s : State) : State := refreshDec (c / 32) (dset c Reg.dec_CTX_STATUS_STATE st s)

/-! ### Samples (R196, R272, R280) -/

/-- Output FORMAT (R272). -/
def hdrFormat (h : SliceHdr) : Nat := (if h.chroma = 2 then 2 else 0) + bit h.ten

/-- Bits of a sample. -/
def hdrBits (h : SliceHdr) : Nat := if h.ten then 10 else 8

/-- Bytes of a stored sample. -/
def hdrStep (h : SliceHdr) : Nat := if h.ten then 2 else 1

/-- CTUs of a row, and of a picture. -/
def hdrCols (h : SliceHdr) : Nat := ceilDiv h.width h.ctu
/-- CTUs of a picture. -/
def hdrTotal (h : SliceHdr) : Nat := (hdrCols h) * ceilDiv h.height h.ctu

/-- The area of a CTU: x, y, width, height. -/
def hdrArea (h : SliceHdr) (a : Nat) : Nat × Nat × Nat × Nat :=
  let x := a % max 1 (hdrCols h) * h.ctu
  let y := a / max 1 (hdrCols h) * h.ctu
  (x, y, min h.ctu (h.width - x), min h.ctu (h.height - y))

/-- The stored rows of an area's luma: address and bytes. -/
def lumaRows (b : Buf) (h : SliceHdr) (x y w n : Nat) : List (Nat × Nat) :=
  (List.range n).map (fun i => (b.rowAddr (y + i) + (hdrStep h) * x, (hdrStep h) * w))

/-- The stored rows of an area's chroma. -/
def chromaRows (b : Buf) (h : SliceHdr) (x y w n : Nat) : List (Nat × Nat) :=
  let half := h.chroma != 2
  let rows := if half then (List.range ((y + n + 1) / 2 - y / 2)).map (fun i => y / 2 + i) else (List.range n).map (fun i => y + i)
  rows.map (fun r => (b.chromaAddr r + (hdrStep h) * (x / 2 * 2), (hdrStep h) * (2 * ((x + w + 1) / 2 - x / 2))))

/-- `n` bytes of mid-grey. -/
def greyBytes (h : SliceHdr) (n : Nat) : List Byte :=
  (List.replicate (n / (hdrStep h)) (storeCode (hdrBits h) (2 ^ ((hdrBits h) - 1)))).flatMap id

/-- Fill an area of a buffer with mid-grey in every component (R280, R283). -/
def fillArea (b : Buf) (h : SliceHdr) (x y w n : Nat) (s : State) : State :=
  forEach (lumaRows b h x y w n ++ chromaRows b h x y w n) (fun p s => dramWrite 0 p.1 (greyBytes h p.2) s) s

/-- Copy an area from another buffer; false if a read returned poisoned data, and the area is mid-grey (R280, R283). -/
def copyArea (src dst : Buf) (h : SliceHdr) (x y w n : Nat) (s : State) : Bool × State :=
  let from_ := lumaRows src h x y w n ++ chromaRows src h x y w n
  let to_ := lumaRows dst h x y w n ++ chromaRows dst h x y w n
  if from_.any (fun p => rangePoisoned s p.1 p.2) then (false, fillArea dst h x y w n s)
  else (true, forEach (List.zip from_ to_) (fun p s => dramWrite 0 p.2.1 (memBytes s.dram p.1.1 p.1.2) s) s)

/-- Cb and Cr of a row interleaved. -/
def interleave (n : Nat) : List Nat → List Nat → List Byte
  | a :: t, b :: u => storeCode n a ++ storeCode n b ++ interleave n t u
  | _, _ => []

/-- Write the samples of a CTU: Y in rows, then Cb, then Cr; a monochrome picture has mid-grey chroma (R272). -/
def writeCtu (b : Buf) (h : SliceHdr) (a : Nat) (v : List Nat) (s : State) : State :=
  let (x, y, w, n) := (hdrArea h) a
  let cw := (x + w + 1) / 2 - x / 2
  let crows := chromaRows b h x y w n
  let cb := v.drop (w * n)
  let cr := cb.drop (cw * crows.length)
  let s := forEach (List.zipIdx (lumaRows b h x y w n)) (fun p s =>
    dramWrite 0 p.1.1 (((v.drop (w * p.2)).take w).flatMap (storeCode (hdrBits h))) s) s
  forEach (List.zipIdx crows) (fun p s =>
    if h.chroma = 0 then dramWrite 0 p.1.1 (greyBytes h p.1.2) s
    else dramWrite 0 p.1.1 (interleave (hdrBits h) ((cb.drop (cw * p.2)).take cw) ((cr.drop (cw * p.2)).take cw)) s) s

/-! ### The reference pool (R281-R284, R286) -/

/-- An entry leaves the DPB: the decoder's claim drops, and a buffer never completed goes back (R282). -/
def dropEntry (c k : Nat) (s : State) : State :=
  match dpbEntry s c k with
  | none => s
  | some e =>
    let s := setEntry c k none s
    dropDec e.desc (if e.owned then loseOwner e.desc s else s)

/-- Drop the entries that have become unused (R282). -/
def dropUnused (c : Nat) (s : State) : State :=
  forEach (dpbEntries s c) (fun x s =>
    if x.2.whole ∧ !x.2.short ∧ !x.2.long ∧ !x.2.pending then dropEntry c x.1 s else s) s

/-- Empty the DPB (R276). -/
def emptyDpb (c : Nat) (s : State) : State := forEach (List.range 16) (dropEntry c) s

/-- Of several entries the one nearest in POC, the lower POC on a tie (R280, R283). -/
def nearest (poc : Int) (l : List DecEntry) : Option DecEntry :=
  l.foldl (fun a e =>
    match a with
    | none => some e
    | some b =>
      let de := (e.poc - poc).natAbs
      let db := (b.poc - poc).natAbs
      if de < db ∨ (de = db ∧ e.poc < b.poc) then some e else some b) none

/-- Output an entry (R286, R287). -/
def outputEntry (c k : Nat) (s : State) : State :=
  match dpbEntry s c k with
  | none => s
  | some e =>
    let x := s.dec c
    let tk := if e.tk.stamp = 1 then e.tk else { e.tk with frameNo := x.outputs % 2 ^ 32 }
    let s := s.setDec c { x with outputs := x.outputs + 1 }
    let (vx, vy, vw, vh) := e.window
    let s := s.setBuf e.desc { s.buf e.desc with visX := vx, visY := vy, visW := vw, visH := vh }
    let s := completeBuf e.desc tk s
    let s := setEntry c k (some { e with pending := false, owned := false }) s
    let s := dinc c Reg.dec_CTX_COUNTS_OUTPUT 1 s
    let s := if tk.has flagConcealed then dinc c Reg.dec_CTX_COUNTS_CONCEALED 1 s else s
    let s := dset c Reg.dec_CTX_LAST_POC_POC (ofSigned 32 e.poc) s
    dropUnused c (decEvent c 0 s)

/-- The entry that is output next: the lowest POC that awaits output. -/
def nextOutput (s : State) (c : Nat) : Option Nat :=
  ((dpbEntries s c).filter (fun x => x.2.pending && x.2.whole)).foldl (fun a x =>
    match a with
    | none => some x
    | some y => if x.2.poc < y.2.poc then some x else some y) none |>.map (·.1)

/-- Output pictures while more than `keep` await output (R286). -/
def bump (c keep : Nat) : Nat → State → State
  | 0, s => s
  | fuel + 1, s =>
    if ((dpbEntries s c).filter (fun x => x.2.pending)).length ≤ keep then s
    else
      match nextOutput s c with
      | some k => bump c keep fuel (outputEntry c k s)
      | none => s

/-- The lowest unused entry. -/
def freeEntry (s : State) (c : Nat) : Option Nat :=
  (List.range (dget s c Reg.dec_CTX_CFG_DPB_SLOTS)).find? (fun k => (dpbEntry s c k).isNone)

/-- Output pictures until an entry is unused. -/
def makeRoom (c : Nat) : Nat → State → State
  | 0, s => s
  | fuel + 1, s =>
    if (freeEntry s c).isSome then s
    else
      match nextOutput s c with
      | some k => makeRoom c fuel (outputEntry c k s)
      | none => s

/-- Change the picture in progress. -/
def updDecPic (c : Nat) (g : DecPic → DecPic) (s : State) : State :=
  let x := s.dec c
  s.setDec c { x with pic := x.pic.map g }

/-- Conceal one CTU (R280). -/
def concealCtu (c a : Nat) (s : State) : State :=
  match (s.dec c).pic with
  | none => s
  | some p =>
    match p.entry.bind (dpbEntry s c) with
    | none => s
    | some e =>
      let (x, y, w, n) := (hdrArea p.hdr) a
      let dst := s.buf e.desc
      let refs := ((dpbEntries s c).map (·.2)).filter (fun r => r.whole && (r.short || r.long))
      let (ok, s) := match nearest p.hdr.poc refs with
        | some r => copyArea (s.buf r.desc) dst p.hdr x y w n s
        | none => (true, fillArea dst p.hdr x y w n s)
      let s := if ok then s else s.inc (c / 32) Reg.dec_COUNTS_POISON
      updDecPic c (fun q => { q with count := q.count + 1, damaged := true, poisoned := q.poisoned || !ok }) s

/-- Conceal from the CTU after the last one decoded up to CTU `a`, exclusive (R279, R280). -/
def concealTo (c a : Nat) (s : State) : State :=
  match (s.dec c).pic with
  | none => s
  | some p =>
    if a ≤ p.next then s
    else
      let s := forEach ((List.range (a - p.next)).map (fun i => p.next + i)) (concealCtu c) s
      decEvent c 1 (updDecPic c (fun q => { q with next := a }) s)

/-- PLI_REQUEST (R285). -/
def requestPli (c : Nat) (s : State) : State :=
  decEvent c 3 (s.setDec c { s.dec c with pliAt := s.now })

/-- The end of a picture (R278): concealment, the chain, marking and output. -/
def endPicture (c : Nat) (s : State) : State :=
  match (s.dec c).pic with
  | none => s
  | some p0 =>
    match p0.entry with
    | none => s.setDec c { s.dec c with pic := none }
    | some k =>
      let s := concealTo c (hdrTotal p0.hdr) s
      let p := ((s.dec c).pic).getD p0
      let h := p.hdr
      let rec_ := (s.dec c).recover.contains h.num
      let chain := dget s c Reg.dec_CTX_STATUS_CHAIN == 1
      let ends := chain && !p.damaged && (h.irap || rec_)
      let conc := p.damaged || p.tk.has flagConcealed || (chain && !ends)
      let tk := Ticket.flagIf p.poisoned flagPoisoned (Ticket.flagIf conc flagConcealed p.tk)
      let s := s.setDec c { s.dec c with pic := none, recover := (s.dec c).recover.filter (fun n => n != h.num) }
      let s := dset c Reg.dec_CTX_CONCEAL_CTUS_COUNT p.count s
      let s := dset c Reg.dec_CTX_STATUS_CHAIN (bit conc) s
      let s := if conc ∧ (!chain ∨ ends) then requestPli c (dset c Reg.dec_CTX_STATUS_PLI_WANTED 1 s)
        else if ends then dset c Reg.dec_CTX_STATUS_PLI_WANTED 0 s else s
      let s := showDec c 3 s
      -- the standard's marking
      let s := forEach (dpbEntries s c) (fun x s =>
        let m := h.marks.find? (fun q => q.1 == x.2.poc)
        if x.1 = k then
          let long := match m with
            | some q => q.2
            | none => false
          setEntry c k (some { x.2 with short := !h.nonRef && !long, long := !h.nonRef && long, pending := !h.noOutput,
                                        concealed := conc, whole := true, tk := tk }) s
        else
          match m with
          | some q => setEntry c x.1 (some { x.2 with short := !q.2 && (x.2.short || x.2.long), long := q.2 && (x.2.short || x.2.long) }) s
          | none => setEntry c x.1 (some { x.2 with short := false, long := false }) s) s
      refreshDec (c / 32) (dropUnused c (bump c h.reorder 17 (dropUnused c s)))

/-! ### Reading the ring -/

/-- Read on to the next slice (R274, R275, R278, R279): the record's header and the slice's position, if one lies in the ring. -/
def walk (c : Nat) : Nat → State → Option (List Byte × Nat) × State
  | 0, s => (none, s)
  | fuel + 1, s =>
    let rd := dget s c Reg.dec_CTX_IN_RD_OFFSET
    let wr := dget s c Reg.dec_CTX_IN_WR_OFFSET
    let size := max 1 (inUnits s c)
    if rd = wr then (none, s)
    else
      let hdr := recHeader s c rd
      let next := fun (s : State) =>
        dset c Reg.dec_CTX_IN_RD_OFFSET ((rd + recUnits hdr) % size) (s.setDec c { s.dec c with off := 0, entered := false })
      if leAt hdr 0 2 = 0 then walk c fuel (dset c Reg.dec_CTX_IN_RD_OFFSET 0 s)
      else if (wr + size - rd) % size < recUnits hdr then (none, s)
      else if rangePoisoned s (inAddr s c rd) (64 + recBytes hdr) then
        let s := s.inc (c / 32) Reg.dec_COUNTS_POISON
        walk c fuel (next (s.setDec c { s.dec c with lost := true }))
      else
        let x := s.dec c
        let loss := !x.entered && (x.lost || getBit (leAt hdr 2 1) 1)
        let s := s.setDec c { x with entered := true, lost := false }
        let s := if loss then dinc c Reg.dec_CTX_COUNTS_SYNTAX 1 s else s
        match recNals s c rd x.off with
        | [] => walk c fuel (next (if getBit (leAt hdr 2 1) 0 then endPicture c s else s))
        | (p, 0) :: _ => (some (hdr, p), s)
        | (p, k) :: _ =>
          let s := if k = 1 then endPicture c s else s
          walk c fuel (s.setDec c { s.dec c with off := p + 1 })

/-- Enough steps to read a whole ring. -/
def walkFuel (s : State) (c : Nat) : Nat := 66 * inUnits s c + 2

/-- The arrival of the record whose slice a context offers, if it offers one (R273). -/
def sliceOffered (s : State) (c : Nat) : Option Int :=
  if decState s c = 0 then none
  else ((walk c (walkFuel s c) s).1).map (fun x => (Instant.decode ((x.1.drop 40).take 16)).val)

/-- Whether an engine takes a context's slice next: no slice is being decoded, and no other context's record arrived before,
the lower context number on a tie (R273). -/
def sliceTurn (s : State) (c : Nat) : Bool :=
  let d := c / 32
  (decCtxs d).all (fun k => (s.dec k).slice.isNone) &&
    match sliceOffered s c with
    | none => false
    | some a => (decCtxs d).all (fun k =>
        match sliceOffered s k with
        | none => true
        | some b => k == c || decide (a < b) || (decide (a = b) && decide (c < k)))

/-! ### Pictures -/

/-- The ticket of a picture, from its first record (R287). -/
def decTicket (s : State) (c : Nat) (hdr : List Byte) : Ticket :=
  let valid := getBit (leAt hdr 2 1) 2
  let fail := getBit (leAt hdr 2 1) 3
  let arrival := Instant.decode ((hdr.drop 40).take 16)
  let tk := { Ticket.zero with
    source := 128 + c, fsTime := arrival, stamp := if valid then 1 else if fail then 2 else 3,
    lines := Config.decodedGeom s.free % 65536, samples := Config.decodedGeom (s.free + 1) % 65536 }
  if valid then
    { tk with frameNo := leAt hdr 12 4, alive := leAt hdr 16 2, flags := leAt hdr 18 2 % 1024,
              capture := Instant.decode ((hdr.drop 24).take 16) }
  else
    Ticket.flagIf (fail || dget s c Reg.dec_CTX_CFG_NEED_STAMP == 1) flagUnverified { tk with capture := arrival }

/-- Whether a sequence breaks the profile limits of R272. -/
def breaksProfile (s : State) (c : Nat) (h : SliceHdr) : Bool :=
  let p := dget s c Reg.dec_CTX_CFG_PROFILE
  !h.tools || (h.ten && p == 0) ||
    (if dget s c Reg.dec_CTX_CFG_CODEC = 1 then
      h.chroma == 2 || ceilDiv h.width 16 * ceilDiv h.height 16 > 36864 || h.width > 4096
    else (h.chroma == 2 && p != 2) || h.width * h.height > 35651584 || h.width > 8192 || h.height > 8192)

/-- Whether a sequence exceeds DPB_SLOTS or CTX_MAX_GEOM (R281). -/
def breaksLimits (s : State) (c : Nat) (h : SliceHdr) : Bool :=
  dget s c Reg.dec_CTX_CFG_DPB_SLOTS < h.need || dget s c Reg.dec_CTX_MAX_GEOM_WIDTH < h.width
    || dget s c Reg.dec_CTX_MAX_GEOM_HEIGHT < h.height

/-- A sequence that breaks the limits: the context returns to SEEK with an empty DPB (R276, R281). -/
def unsupported (c : Nat) (limits : Bool) (s : State) : State :=
  let s := emptyDpb c (s.setDec c { s.dec c with pic := none })
  let s := s.inc (c / 32) Reg.dec_COUNTS_UNSUPPORTED
  let s := if limits then logError .dec (c / 32) 0x04 0 s else s
  showDec c 1 (decEvent c 5 s)

/-- A picture that is not decoded: its slices are passed by (R282, R288). -/
def skipPicture (c : Nat) (h : SliceHdr) (s : State) : State :=
  let p : DecPic := { hdr := h, entry := none, tk := Ticket.zero, next := 0, count := 0, damaged := false, poisoned := false,
                      missed := [] }
  s.setDec c { s.dec c with pic := some p }

/-- No buffer for a picture (R282). -/
def noBuffer (c : Nat) (h : SliceHdr) (s : State) : State :=
  decEvent c 4 (skipPicture c h (s.inc (c / 32) Reg.dec_COUNTS_NO_BUFFER))

/-- Whether a picture comes too late (R288). -/
def tooLate (s : State) (c : Nat) (hdr : List Byte) (h : SliceHdr) (t : Time) : Bool :=
  let lag := dget s c Reg.dec_CTX_TIMING_MAX_LAG_MS
  lag != 0 && h.nonRef &&
    decide (clockAt s (Config.decoderDomain c % 5) t - (Instant.decode ((hdr.drop 40).take 16)).val
      > (msT lag : Int))

/-- A picture starts (R276, R281, R282, R284, R288). -/
def startPicture (c : Nat) (hdr : List Byte) (h : SliceHdr) (t : Time) (s : State) : State :=
  if breaksProfile s c h ∨ breaksLimits s c h then unsupported c (breaksLimits s c h) s
  else if tooLate s c hdr h t then
    decEvent c 6 (skipPicture c h (dinc c Reg.dec_CTX_COUNTS_LATE_DROPS 1 s))
  else
    let s := if h.prior = 1 then bump c 0 17 s else s
    let s := if h.prior = 0 then s else emptyDpb c (s.setDec c { s.dec c with recover := [] })
    let s := match h.recovery with
      | none => s
      | some n =>
        let e := if h.numMod = 0 then h.num + n else (h.num + n) % (h.numMod : Int)
        s.setDec c { s.dec c with recover := (s.dec c).recover ++ [e] }
    let s := makeRoom c 17 s
    match freeEntry s c with
    | none => noBuffer c h s
    | some k =>
      match produceBuf (dget s c Reg.dec_CTX_CFG_OUT_LIST) 2 s with
      | (none, s) => noBuffer c h s
      | (some d, s) =>
        let b := s.buf d
        if b.width ≠ h.width ∨ b.height ≠ h.height ∨ b.fmt ≠ (hdrFormat h) then noBuffer c h (returnBuf d s)
        else
          let tk := decTicket s c hdr
          let s := claimDec d s.fresh.fresh
          let s := setEntry c k (some { desc := d, poc := h.poc, short := false, long := false, pending := false,
                                        concealed := false, owned := true, whole := false, tk := tk, window := h.window }) s
          let p : DecPic := { hdr := h, entry := some k, tk := tk, next := 0, count := 0, damaged := false, poisoned := false,
                              missed := [] }
          showDec c 2 (s.setDec c { s.dec c with pic := some p })

/-- Note the references of a slice that are not in the DPB (R283). -/
def noteRefMissing (c : Nat) (h : SliceHdr) (s : State) : State :=
  forEach h.refs (fun poc s =>
    match (s.dec c).pic with
    | none => s
    | some p =>
      if p.missed.contains poc ∨ (dpbEntries s c).any (fun x => x.2.whole && x.2.poc == poc && (x.2.short || x.2.long)) then s
      else
        let s := updDecPic c (fun q => { q with missed := poc :: q.missed, damaged := true }) s
        let s := s.inc (c / 32) Reg.dec_COUNTS_REF_MISSING
        decEvent c 2 (logError .dec (c / 32) 0x13 c s)) s

/-- A decoder takes a slice (R273): `h` is what its header says. -/
def sliceStart (c : Nat) (h : SliceHdr) (t : Time) (s : State) : State :=
  if !sliceTurn s c then s
  else
    match walk c (walkFuel s c) s with
    | (none, s) => s
    | (some (hdr, p), s) =>
      let s := s.setDec c { s.dec c with off := p + 1 }
      let s := dinc c Reg.dec_CTX_COUNTS_SYNTAX (h.broken + bit (h.parse = 1)) s
      let settle := fun (s : State) => refreshDec (c / 32) (walk c (walkFuel s c) s).2
      if h.parse ≠ 0 then settle s
      else
        let st := decState s c
        if st = 1 ∧ !(h.first && (h.irap || dget s c Reg.dec_CTX_CFG_START_ANY == 1)) then settle s
        else
          let s := if h.first then endPicture c s else s
          let s := if (s.dec c).pic.isSome then s else startPicture c hdr h t s
          match ((s.dec c).pic).bind (·.entry) with
          | none => settle s
          | some _ =>
            let s := noteRefMissing c h s
            let s := concealTo c h.addr s
            refreshDec (c / 32) (s.setDec c { s.dec c with slice := some h })

/-- The slice in decoding ends (R278, R279): `n` CTUs of it were decoded, `ctus` gives samples by address, `reads` the
reference reads of R283; `bad`: the NAL unit failed to parse. -/
def sliceDone (c n : Nat) (bad : Bool) (ctus : List (Nat × List Nat)) (reads : List RefRead) (s : State) : State :=
  match (s.dec c).slice with
  | none => s
  | some h =>
    let s := s.setDec c { s.dec c with slice := none }
    let s := match ((s.dec c).pic).bind (fun p => p.entry.bind (dpbEntry s c)) with
      | none => s
      | some e =>
        let stop := min (h.addr + n) (hdrTotal h)
        let b := s.buf e.desc
        let s := forEach (ctus.filter (fun x => x.1 < stop)) (fun x s => writeCtu b h x.1 x.2 s) s
        let s := forEach reads (fun r s =>
          match dpbEntry s c r.entry with
          | none => s
          | some q =>
            if rangePoisoned s ((s.buf q.desc).addr + r.off) r.bytes then
              let w := min r.w (h.width - r.x)
              let n := min r.h (h.height - r.y)
              updDecPic c (fun p => { p with damaged := true, poisoned := true })
                (fillArea b h r.x r.y w n (s.inc (c / 32) Reg.dec_COUNTS_POISON))
            else s) s
        updDecPic c (fun p => { p with next := max p.next stop }) s
    let s := if bad then dinc c Reg.dec_CTX_COUNTS_SYNTAX 1 s else s
    refreshDec (c / 32) (walk c (walkFuel s c) s).2

/-- PLI_RETRY_MS has passed with PLI_WANTED still 1 (R285). -/
def pliRetry (c : Nat) (t : Time) (s : State) : State :=
  if dget s c Reg.dec_CTX_STATUS_PLI_WANTED = 1 ∧ (s.dec c).pliAt + msT (dget s c Reg.dec_CTX_TIMING_PLI_RETRY_MS) ≤ t then
    requestPli c s
  else s

/-! ### Register effects -/

/-- EN becomes 1 (R276): DPB empty, ring positions kept. -/
def decEnable (c : Nat) (s : State) : State := showDec c 1 (s.setDec c DecCtx.reset)

/-- EN becomes 0 (R276): the picture is discarded, every DPB entry is unused, IN_RD is set to IN_WR. -/
def decDisable (c : Nat) (s : State) : State :=
  let s := emptyDpb c (s.setDec c { s.dec c with pic := none, slice := none })
  let s := dset c Reg.dec_CTX_IN_RD_OFFSET (dget s c Reg.dec_CTX_IN_WR_OFFSET) (s.setDec c DecCtx.reset)
  showDec c 0 (dset c Reg.dec_CTX_STATUS_CHAIN 0 (dset c Reg.dec_CTX_STATUS_PLI_WANTED 0 s))

/-- SOFT_RESET of a window, beside its registers (R276). -/
def resetDec (d : Nat) (s : State) : State :=
  forEach (decCtxs d) (fun c s => if decState s c = 0 then s.setDec c DecCtx.reset else decDisable c s) s

/-- CTX_CFG is written (R276, R277). -/
def writeDecCfg (origin c : Nat) (v : Word) (s : State) : State :=
  let w := addrOf .dec (c / 32) (0x1100 + ctxOff (c % 32)) % 0x10000
  let was := dget s c Reg.dec_CTX_CFG
  let new := v.toNat
  let keep := 0x3F1F00FA
  if was % 2 = 1 ∧ (new &&& keep) ≠ (was &&& keep) then logAccess .dec (c / 32) 0x10 origin w 0 s
  else
    let s := dset c Reg.dec_CTX_CFG (new &&& (keep + 1)) s
    if was % 2 = 0 ∧ new % 2 = 1 then decEnable c s
    else if was % 2 = 1 ∧ new % 2 = 0 then decDisable c s
    else s

/-- IN_WR is written by a host (R275). -/
def writeDecIn (origin c : Nat) (v : Word) (s : State) : State :=
  let w := addrOf .dec (c / 32) (0x1114 + ctxOff (c % 32)) % 0x10000
  if dget s c Reg.dec_CTX_CFG_SRC = 1 then logAccess .dec (c / 32) 0x10 origin w 0 s
  else if inUnits s c ≤ v.toNat % 2 ^ 24 then logAccess .dec (c / 32) 0x01 origin w 0 s
  else refreshDec (c / 32) (dset c Reg.dec_CTX_IN_WR_OFFSET v.toNat s)

end Sys2Proof.Machine
end

