-- ==== Sys2Proof/Machine/Chk.lean ====
section
/-! DEFINITION. The check units: configuration and running check values (chapter 15: R348-R352, R360). -/

namespace Sys2Proof.Machine

/-- A check unit. -/
def State.chk (s : State) (u : Nat) : ChkUnit := Tbl.get ChkUnit.reset s.chks u

/-- Write a check unit. -/
def State.setChk (s : State) (u : Nat) (x : ChkUnit) : State := { s with chks := Tbl.put ChkUnit.reset u x s.chks }

/-- A field of a unit. -/
def kget (s : State) (u : Nat) (f : Fld) : Nat := s.get 0 (f.at (0x10 * u))

/-- Write a field of a unit. -/
def kset (u : Nat) (f : Fld) (v : Nat) (s : State) : State := s.set 0 (f.at (0x10 * u)) v

/-- The enabled unit that serves a target (R349: at most one). -/
def unitFor (s : State) (use target : Nat) : Option Nat :=
  (List.range 128).find? (fun u => kget s u Reg.chk_CHKU_CFG_EN == 1 && kget s u Reg.chk_CHKU_CFG_USE == use
    && kget s u Reg.chk_CHKU_CFG_TARGET == target)

/-- Raise an event of a unit (R361). -/
def chkEvent (u e : Nat) (s : State) : State := raise .chk 0 e (s.set 0 Reg.chk_EVENT_SRC_INDEX u)

/-- A check value before any byte (R348). -/
def chkInit (poly : Nat) : Nat :=
  match poly with
  | 2 => 0xFFFF
  | 3 => 0xFF
  | _ => 0xFFFFFFFF

/-- A check value over further bytes. -/
def chkRun (poly c : Nat) (l : List Byte) : Nat :=
  match poly with
  | 0 => crcR 0x82F63B78 c l
  | 1 => crcR 0xEDB88320 c l
  | 2 => crcN 16 0x1021 c l
  | _ => crcN 8 0x2F c l

/-- A check value after its last byte. -/
def chkEnd (poly c : Nat) : Nat :=
  match poly with
  | 2 => c
  | 3 => c ^^^ 0xFF
  | _ => c ^^^ 0xFFFFFFFF

/-- CHKu_CFG is written (R349), past the write checks. -/
def writeChk (origin u : Nat) (v : Word) (s : State) : State :=
  let keep := 0x7FFFFFFF
  let was := kget s u Reg.chk_CHKU_CFG
  let new := v.toNat &&& 0xB30F007F
  let on := getBit new 31
  let use := new / 2 ^ 28 % 4
  let target := new % 128
  let off := 0x1040 + 0x10 * u
  if getBit was 31 ∧ (new &&& keep) ≠ (was &&& keep) then logAccess .chk 0 0x10 origin off 0 s
  else if use = 3 ∨ (use = 0 ∧ 8 ≤ target) then logAccess .chk 0 0x01 origin off 0 s
  else
    match (if on ∧ !getBit was 31 then unitFor s use target else none) with
    | some w => logAccess .chk 0 0x04 origin off w s
    | none =>
      let s := kset u Reg.chk_CHKU_CFG new s
      let s := if on = getBit was 31 then s else s.setChk u ChkUnit.reset
      s.set 0 Reg.chk_STATUS_ENABLED ((List.range 128).filter (fun k => kget s k Reg.chk_CHKU_CFG_EN == 1)).length

end Sys2Proof.Machine
end

