-- ==== Sys2Proof/Machine/Frames.lean ====
section
/-! DEFINITION. Streams and frames as the chapters share them: access to a stream, a frame and its ticket, the rows that have
arrived, and the parameters in force read from the registers (R84, R114, R133, R142-R154, R166-R186, R192-R198, R207). -/

namespace Sys2Proof.Machine

/-! ### Access -/

/-- A stream. -/
def State.strm (s : State) (n : Nat) : Strm := Tbl.get Strm.reset s.strms n

/-- Write a stream. -/
def State.setStrm (s : State) (n : Nat) (x : Strm) : State := { s with strms := Tbl.put Strm.reset n x s.strms }

/-- A bench. -/
def State.bench (s : State) (b : Nat) : Bench := Tbl.get Bench.reset s.benches b

/-- Write a bench. -/
def State.setBench (s : State) (b : Nat) (x : Bench) : State := { s with benches := Tbl.put Bench.reset b x s.benches }

/-- A frame assembler. -/
def State.asm (s : State) (k : Nat) : Asm := Tbl.get Asm.reset s.asms k

/-- Write a frame assembler. -/
def State.setAsm (s : State) (k : Nat) (x : Asm) : State := { s with asms := Tbl.put Asm.reset k x s.asms }

/-- A frame of a stream by its number. -/
def findFrame (s : State) (n f : Nat) : Option Frame := (s.strm n).frames.find? (fun x => x.no == f)

/-- Change a frame of a stream. -/
def updFrame (n f : Nat) (g : Frame → Frame) (s : State) : State :=
  let x := s.strm n
  s.setStrm n { x with frames := x.frames.map (fun r => if r.no = f then g r else r) }

/-- The ticket of a frame as known now (R12); a frame that is gone has none. -/
def frameTicket (s : State) (n f : Nat) : Ticket := ((findFrame s n f).map (·.tk)).getD Ticket.zero

/-- Set a FLAGS bit of a frame. -/
def flagFrame (n f b : Nat) (s : State) : State := updFrame n f (fun x => { x with tk := x.tk.flagged b }) s

/-- Change the context of a stream. -/
def updCtx (n : Nat) (g : Ctx → Ctx) (s : State) : State := s.setStrm n { s.strm n with ctx := g (s.strm n).ctx }

/-! ### Geometry -/

/-- Admitted width, height and exposures. -/
def streamW (s : State) (n : Nat) : Nat := s.get n Reg.strm_ADMIT_GEOM_WIDTH
/-- Admitted height. -/
def streamH (s : State) (n : Nat) : Nat := s.get n Reg.strm_ADMIT_GEOM_HEIGHT
/-- Admitted exposures. -/
def streamE (s : State) (n : Nat) : Nat := s.get n Reg.strm_ADMIT_RATE_EXPOSURES
/-- Lines of a stripe (R114). -/
def stripeLines (s : State) (n : Nat) : Nat := 16 * s.get n Reg.strm_SCHED_STRIPE_ROWS
/-- Class of a stream. -/
def streamClass (s : State) (n : Nat) : Nat := s.get n Reg.strm_SCHED_CLASS
/-- Stripes of a frame of `h` rows. -/
def stripeCount (s : State) (n h : Nat) : Nat := ceilDiv h (stripeLines s n)

/-- Bits of a sample behind an entry (R142). -/
def entryBits (s : State) (e : Option (Block × Nat × Nat)) : Nat :=
  match e with
  | some (.cams, p, k) => dtBits (s.get p (Reg.cams_ENT_MAP_DT.at (0x40 * k)))
  | some (_, p, _) => 8 + 2 * s.get p Reg.camp_BUS_CFG_BITS
  | none => 8

/-- Bits of a stream's samples. -/
def streamBits (s : State) (n : Nat) : Nat := entryBits s (entryOf s n 0)

/-- Order of the components on the bus of a YUV stream: 1 = Cb Y Cr Y, 2 = Y Cb Y Cr (R62). -/
def streamYuvOrder (s : State) (n : Nat) : Nat :=
  match entryOf s n 0 with
  | some (.camp, p, _) => s.get p Reg.camp_BUS_CFG_FORMAT
  | _ => 1

/-- The key of row `r` of exposure `k`. -/
def rowKey (k r : Nat) : Nat := 16384 * k + r

/-- Whether row `r` of exposure `k` is decided: it has arrived, or it cannot come any more. -/
def rowDecided (x : Frame) (k r : Nat) : Bool := decide (r < x.arrived.getD k 0) || x.done.getD k true

/-- Whether row `r` of exposure `k` is missing from the frame (R70, R149). -/
def rowMissing (x : Frame) (k r : Nat) : Bool :=
  x.missing.contains (rowKey k r) || (decide (x.arrived.getD k 0 ≤ r) && x.done.getD k true)

/-- The rows a frame has for processing: its height, or the rows that arrived of a frame closed TRUNCATED (R124). -/
def frameRows (s : State) (n : Nat) (x : Frame) : Nat :=
  if x.closed = 2 then min (x.arrived.getD 0 0) (streamH s n) else streamH s n

/-- Whether stripe `i` of a frame is ready: every row of it is decided in every exposure (R124, R125). -/
def stripeReady (s : State) (n : Nat) (x : Frame) (i : Nat) : Bool :=
  let h := frameRows s n x
  let l := stripeLines s n
  let lo := l * i
  let hi := min (lo + l) h
  decide (lo < h) && (List.range (streamE s n)).all (fun k => rowDecided x k (hi - 1))

/-! ### Parameters in force -/

/-- Signed fields of a run of words. -/
def signedAt (s : State) (n : Nat) (f : Fld) : Int := toSigned f.w (s.get n f)

/-- Nine coefficients packed two to a word, the low one first (R187). -/
def matrixAt (s : State) (n : Nat) (lo hi lo4 : Fld) : List Int :=
  (List.range 4).flatMap (fun k => [signedAt s n (lo.at (4 * k)), signedAt s n (hi.at (4 * k))]) ++ [signedAt s n lo4]

/-- The raw parameters in force (R159). -/
def rawParams (s : State) (n : Nat) (x : Frame) : RawParams :=
  let prof := s.profile (s.get n Reg.strm_RAW_CFG_PROFILE)
  { bits := x.bits, yuv := x.yuv, yuvOrder := streamYuvOrder s n, width := streamW s n, height := frameRows s n x,
    cfa := s.get n Reg.strm_RAW_CFG_CFA, dcg := s.flag n Reg.strm_RAW_CFG_DCG,
    motion := s.flag n Reg.strm_RAW_CFG_MOTION_EN, shadeEn := s.flag n Reg.strm_RAW_CFG_SHADE_EN,
    nrEn := s.flag n Reg.strm_RAW_CFG_NR_EN, dynEn := s.flag n Reg.strm_RAW_CFG_DYN_EN,
    staticEn := s.flag n Reg.strm_RAW_CFG_STATIC_EN,
    black := (List.range 3).flatMap (fun k => (List.range 4).map (fun p => s.get n (Reg.strm_BLACK_LEVEL.at (0x10 * k + 4 * p)))),
    white := (List.range 3).map (fun k => s.get n (Reg.strm_WHITE_LEVEL.at (4 * k))),
    knee := s.get n Reg.strm_HDR_MERGE_KNEE, motionThr := s.get n Reg.strm_HDR_MERGE_MOTION_THR,
    floor := s.get n Reg.strm_HDR_FLOOR_FLOOR, ratios := (s.strm n).ctx.ratios,
    dynT := s.get n Reg.strm_DEFECT_DYN_T, dynOff := s.get n Reg.strm_DEFECT_DYN_OFFSET,
    noiseA := s.get n Reg.strm_NOISE_A_A, noiseB := s.get n Reg.strm_NOISE_B_B, nrK := s.get n Reg.strm_NR_CTRL_K,
    nrS := s.get n Reg.strm_NR_CTRL_STRENGTH, edgeT := s.get n Reg.strm_DEMOSAIC_EDGE_T,
    defects := prof.defects, shade := (s.strm n).tables.shade }

/-- WB gain `k` of a ticket's echo (R104). -/
def echoWb (tk : Ticket) (k : Nat) : Nat := leAt tk.echo (20 + 2 * k) 2

/-- Exposure `k` of a ticket's echo in ns (R104). -/
def echoExp (tk : Ticket) (k : Nat) : Nat := leAt tk.echo (4 + 4 * k) 4

/-- The colour parameters in force (R187). -/
def colourParams (s : State) (n : Nat) (x : Frame) : ColourParams :=
  let prof := s.profile (s.get n Reg.strm_RAW_CFG_PROFILE)
  let t := (s.strm n).tables
  let slot := s.get n Reg.strm_COLOUR_CFG_LUT_SLOT
  { yuv := x.yuv, width := pixelWidth s n, height := streamH s n, echo := (List.range 3).map (echoWb x.tk),
    gridMode := s.get n Reg.strm_COLOUR_CFG_GRID_MODE, grid := t.grid, blendFixed := s.get n Reg.strm_GRID_FIXED_BLEND,
    hilite := s.flag n Reg.strm_COLOUR_CFG_HILITE, mLo := prof.mLo, mHi := prof.mHi,
    camM := matrixAt s n Reg.strm_CAM_M_LO Reg.strm_CAM_M_HI Reg.strm_CAM_M4_LO,
    camOff := (List.range 3).map (fun c => s.get n (Reg.strm_CAM_OFF_OFFSET.at (4 * c))),
    eotf := s.get n Reg.strm_COLOUR_CFG_INPUT_EOTF, toneEn := s.flag n Reg.strm_COLOUR_CFG_TONE_EN, tone := t.tone,
    localEn := s.flag n Reg.strm_COLOUR_CFG_LOCAL_EN, cells := t.cells, lutEn := s.flag n Reg.strm_COLOUR_CFG_LUT_EN,
    lutShaper := s.flag n Reg.strm_COLOUR_CFG_LUT_SHAPER,
    lutN := if getBit (s.get 0 Reg.lutm_PARTITION_LARGE) (slot / 8) then 65 else 33, lut := Tbl.get [] s.lutSlots slot,
    tnrEn := s.flag n Reg.strm_COLOUR_CFG_TNR_EN, tnrStrength := s.get n Reg.strm_TNR_CFG_STRENGTH,
    tnrThr := s.get n Reg.strm_TNR_CFG_THR, tnrDepth := s.get n Reg.strm_TNR_CFG_DEPTH }

/-- The parameters of a tap in force (R189, R219). -/
def tapParams (s : State) (n k : Nat) : TapParams :=
  let d := 0x20 * k
  let c := 0x40 * k
  let g := tapGeom s n k
  let t := (s.strm n).tables
  { fmt := s.get n (Reg.strm_TAP_CTRL_FORMAT.at d), full := s.flag n (Reg.strm_TAP_CTRL_RANGE.at d),
    enc := s.get n (Reg.strm_TAP_ENC_ENCODING.at c), scale := s.get n (Reg.strm_TAP_SCALE_ENC_SCALE.at c),
    m := matrixAt s n (Reg.strm_TAP_M_LO.at c) (Reg.strm_TAP_M_HI.at c) (Reg.strm_TAP_M4_LO.at c),
    lut1d := if s.flag n (Reg.strm_TAP_ENC_LUT1D_EN.at c) then some (t.lut1d.getD k []) else none,
    x0 := g.x0, y0 := g.y0, w := g.w, h := g.h, wout := g.wout, hout := g.hout,
    alpha := s.get n (Reg.strm_TAP_MISC_ALPHA.at d),
    coef := if s.flag n (Reg.strm_TAP_CTRL_COEF_SRC.at d) then t.coef.getD k [] else bilinearCoef }

/-- The statistics parameters in force (R220). -/
def statParams (s : State) (n : Nat) : StatParams :=
  let x0 := s.get n Reg.strm_STAT_WIN_POS_X0
  let y0 := s.get n Reg.strm_STAT_WIN_POS_Y0
  let w := s.get n Reg.strm_STAT_WIN_SIZE_W
  let h := s.get n Reg.strm_STAT_WIN_SIZE_H
  { en := s.flag n Reg.strm_STAT_CFG_EN, width := pixelWidth s n, height := streamH s n, x0 := x0, y0 := y0,
    w := if w = 0 then pixelWidth s n - x0 else w, h := if h = 0 then streamH s n - y0 else h,
    logMin := signedAt s n Reg.strm_STAT_CFG_LOG_MIN, rowGroup := 2 ^ s.get n Reg.strm_STAT_CFG_ROW_GROUP,
    dark := s.get n Reg.strm_AUTO_DARK_DARK }

/-- The enabled taps of a stream. -/
def tapsOn (s : State) (n : Nat) : List Nat :=
  (List.range 4).filter (fun k => s.flag n (Reg.strm_TAP_CTRL_EN.at (0x20 * k)))

/-- Whether a tap takes a frame (R191). -/
def tapTakes (s : State) (n k f : Nat) : Bool :=
  f % (s.get n (Reg.strm_TAP_CTRL_DECIM.at (0x20 * k)) + 1) == s.get n (Reg.strm_TAP_CTRL_PHASE.at (0x20 * k))

end Sys2Proof.Machine
end

