-- ==== Sys2Proof/Machine/Enc.lean ====
section
/-! DEFINITION. The encoders: contexts, pictures, header slots, slices, the output ring, rate control and abandonment
(chapter 11: R244-R271). The bytes of coded CTUs are what the encoder's own choices make them, so they come with the command. -/

namespace Sys2Proof.Machine

/-! ### Access -/

/-- An encode context. -/
def State.enc (s : State) (c : Nat) : EncCtx := Tbl.get EncCtx.reset s.encs c

/-- Write an encode context. -/
def State.setEnc (s : State) (c : Nat) (x : EncCtx) : State := { s with encs := Tbl.put EncCtx.reset c x s.encs }

/-- A field of a context. -/
def cget (s : State) (c : Nat) (f : Fld) : Nat := s.get (c / 32) (f.at (ctxOff (c % 32)))

/-- Write a field of a context. -/
def cset (c : Nat) (f : Fld) (v : Nat) (s : State) : State := s.set (c / 32) (f.at (ctxOff (c % 32))) v

/-- The staged value of a field of a context. -/
def cgetS (s : State) (c : Nat) (f : Fld) : Nat := s.getS (c / 32) (f.at (ctxOff (c % 32)))

/-- An address register of a context. -/
def caddr (s : State) (c : Nat) (lo hi : Fld) : Nat :=
  addrReg s (c / 32) (lo.at (ctxOff (c % 32))) (hi.at (ctxOff (c % 32)))

/-- Raise an event of a context (R271). -/
def encEvent (c e : Nat) (s : State) : State := raise .enc (c / 32) e (s.set (c / 32) Reg.enc_EVENT_SRC_CONTEXT c)

/-- Whether a context codes H.264. -/
def isAvc (s : State) (c : Nat) : Bool := cget s c Reg.enc_CTX_CFG_CODEC == 1

/-- Height of a CTU row: 16 for H.264 (R250). -/
def ctuSize (s : State) (c : Nat) : Nat :=
  if isAvc s c then 16 else if cget s c Reg.enc_CTX_CFG_CTU = 1 then 64 else 32

/-- CTU rows of a picture. -/
def ctuRows (s : State) (c : Nat) : Nat := ceilDiv (cget s c Reg.enc_CTX_GEOM_HEIGHT) (ctuSize s c)

/-- CTU columns of a picture. -/
def ctuCols (s : State) (c : Nat) : Nat := ceilDiv (cget s c Reg.enc_CTX_GEOM_WIDTH) (ctuSize s c)

/-- CTU rows of a slice. -/
def sliceRows (s : State) (c : Nat) : Nat := max 1 (cget s c Reg.enc_CTX_CFG_SLICE_CTU_ROWS)

/-- Slices of a picture (R257). -/
def sliceCount (s : State) (c : Nat) : Nat := ceilDiv (ctuRows s c) (sliceRows s c)

/-- Source reservation of a context in rows (R248). -/
def srcRows (s : State) (c : Nat) : Nat := cget s c Reg.enc_CTX_CFG_SRC_STRIPES * sliceRows s c * ctuSize s c

/-- Bytes of one row as the source buffer holds it, by tap format: both planes (R196, R248). -/
def srcRowBytes (fmt w : Nat) : Nat :=
  match fmt with
  | 0 => w * 3 / 2
  | 1 => w * 3
  | 2 => w * 2
  | _ => w * 4

/-- Tap format of a context's feeder; 0 with none. -/
def feedFormat (s : State) (c : Nat) : Nat :=
  match feedingTap s c with
  | none => 0
  | some (n, k) => s.get n (Reg.strm_TAP_CTRL_FORMAT.at (0x20 * k))

/-- Reservation of a context in bytes; zero while it is disabled (R248). -/
def srcReserve (s : State) (c : Nat) : Nat :=
  if contextOn s c then srcRows s c * srcRowBytes (feedFormat s c) (cget s c Reg.enc_CTX_GEOM_WIDTH) else 0

/-- Contexts of a window. -/
def windowCtxs (e : Nat) : List Nat := (List.range 32).map (fun i => 32 * e + i)

/-- Show ENGINE_STATUS and PAGE_STATUS.STATE (R269). -/
def refreshEnc (e : Nat) (s : State) : State :=
  let used := (windowCtxs e).foldl (fun a c => a + srcReserve s c) 0
  let s := s.setSat e Reg.enc_ENGINE_STATUS_SRC_USED_KIB (ceilDiv used 1024)
  let s := s.set e Reg.enc_ENGINE_STATUS_ACTIVE ((windowCtxs e).filter (contextOn s)).length
  let s := s.set e Reg.enc_ENGINE_STATUS_GANGED (bit (ganged s e))
  let coding := (windowCtxs e).any (fun c => cget s c Reg.enc_CTX_STATUS_STATE == 2)
  s.setState .enc e (if ganged s e ∧ e % 2 = 1 then 2 else bit coding)

/-- Show a context's state (R251). -/
def showCtx (c : Nat) (st : Nat) (s : State) : State := refreshEnc (c / 32) (cset c Reg.enc_CTX_STATUS_STATE st s)

/-- The state a context has with the pictures it holds. -/
def settleCtx (c : Nat) (s : State) : State :=
  let st := cget s c Reg.enc_CTX_STATUS_STATE
  if st = 0 ∨ st = 3 then s else showCtx c (if (s.enc c).pics.isEmpty then 1 else 2) s

/-! ### Rates (R263) -/

/-- RATE ÷ picture rate in bits, rounded down. -/
def bitsPerPic (s : State) (c : Nat) : Nat :=
  let (r, d) := contextRate s c
  if r = 0 then 0 else 1000000 * cget s c Reg.enc_CTX_RC_RATE_KBPS * d / r

/-- The per-CTU bound F (R265). -/
def floorBits (s : State) (c ptype : Nat) : Nat :=
  if isAvc s c then (if ptype = 0 then 16 else 2)
  else if cget s c Reg.enc_CTX_CFG_CTU = 0 then (if ptype = 0 then 48 else 16)
  else (if ptype = 0 then 96 else 24)

/-- The reserve of R265 with `ctus` CTUs left and `slices` slices not started. -/
def rcReserve (s : State) (c : Nat) (k : EncSlot) (ctus slices : Nat) : Nat :=
  floorBits s c k.ptype * ctus + (k.shBits + 128) * slices

/-! ### Header slots (R253, R256) -/

/-- The address of a header slot. -/
def slotAddr (s : State) (c k : Nat) : Nat := caddr s c Reg.enc_CTX_HDR_LO_ADDR Reg.enc_CTX_HDR_HI_ADDR + 2048 * k

/-- Round up to 4. -/
def round4 (n : Nat) : Nat := roundTo 4 n

/-- Read a slot. -/
def readSlot (l : List Byte) : EncSlot :=
  let ctrl := leAt l 0 4
  let psn := leAt l 20 2
  let shn := leAt l 22 2
  let t0 := 64 + round4 psn
  let p0 := round4 (t0 + ceilDiv shn 8)
  { ptype := ctrl / 2 % 4, idr := getBit ctrl 3, refreshStart := getBit ctrl 4, recon := ctrl / 256 % 16, tag := ctrl / 65536,
    l0 := (List.range (leAt l 4 1)).map (fun i => leAt l (6 + i) 1), l1 := (List.range (leAt l 5 1)).map (fun i => leAt l (10 + i) 1),
    target := leAt l 12 4, qpBase := leAt l 16 1, qpMin := leAt l 17 1, qpMax := leAt l 18 1, dqpMax := leAt l 19 1,
    ps := (l.drop 64).take psn, shBits := shn, template := (l.drop t0).take (ceilDiv shn 8),
    patches := (List.range (leAt l 24 2)).map (fun i => (leAt l (p0 + 4 * i) 2, leAt l (p0 + 4 * i + 2) 1)) }

/-- Whether a list of numbers never falls. -/
def rising : List Nat → Bool
  | [] => true
  | [_] => true
  | a :: b :: t => a ≤ b && rising (b :: t)

/-- Whether a slot's counts, sizes and QPs are in range and its layout fits 2 KiB (R253, R256). -/
def slotShapeOk (l : List Byte) (k : EncSlot) : Bool :=
  let psn := leAt l 20 2
  let np := leAt l 24 2
  k.ptype ≤ 2 && leAt l 4 1 ≤ 4 && leAt l 5 1 ≤ 2 && (leAt l 4 1 != 0 || k.ptype == 0) && (leAt l 5 1 == 0 || k.ptype == 2)
    && k.qpBase ≤ 51 && k.qpMin ≤ k.qpMax && k.qpMax ≤ 51 && k.dqpMax ≤ 12 && psn ≤ 1536
    && 16 ≤ k.shBits && k.shBits ≤ 2048 && np ≤ 16
    && round4 (64 + round4 psn + ceilDiv k.shBits 8) + 4 * np ≤ 2048

/-- Whether a slot is good: its shape, its patches and its reference slots (R256). -/
def slotOk (s : State) (c : Nat) (l : List Byte) (k : EncSlot) : Bool :=
  let slots := cget s c Reg.enc_CTX_CFG2_RECON_SLOTS
  let full := (s.enc c).recon
  slotShapeOk l k
    && rising (k.patches.map (·.1)) && k.patches.all (fun p => p.1 ≤ k.shBits)
    && k.patches.all (fun p => if isAvc s c then [1, 2, 4, 5, 6].contains p.2 else p.2 ≤ 4)
    && k.recon < slots
    && (k.l0 ++ k.l1).all (fun r => full.contains r && r != k.recon && decide (r < slots))

/-- Clear VALID of a picture slot in DRAM. -/
def clearValid (c k : Nat) (s : State) : State :=
  let a := slotAddr s c k
  dramWrite 0 a (bytesLE 1 (setBit (memGet s.dram a).toNat 0 false)) s

/-! ### Recovery and abandonment (R266-R268) -/

/-- Recovery becomes pending (R267). -/
def recoveryPending (c : Nat) (s : State) : State :=
  if cget s c Reg.enc_CTX_STATUS_RECOVERY = 1 then s
  else
    let s := cset c Reg.enc_CTX_STATUS_RECOVERY 1 s
    let s := cset c Reg.enc_CTX_COUNTS_EPOCH (cget s c Reg.enc_CTX_COUNTS_EPOCH + 1) s
    encEvent c 2 (forEach (List.range 4) (clearValid c) s)

/-- A picture slot's picture has ended (R256). -/
def endSlot (c slotNo : Nat) (s : State) : State :=
  if slotNo = 4 then s
  else cset c Reg.enc_CTX_STATUS_SLOT_NEXT (cget s c Reg.enc_CTX_STATUS_SLOT_NEXT + 1) (clearValid c slotNo s)

/-- Abandon picture `p` of a context for `cause` (R266). -/
def abandonPic (c cause : Nat) (p : EncPic) (s : State) : State :=
  let x := s.enc c
  let s := s.setEnc c { x with pics := x.pics.filter (fun q => !(q.stream == p.stream && q.frameNo == p.frameNo)),
                               recon := x.recon.filter (fun r => r != p.slot.recon || p.stored), gaps := x.gaps + 1,
                               lastBits := p.bits, cycle := none }
  let s := cset c Reg.enc_CTX_STATUS_ABANDON_WHY cause s
  let s := s.inc (c / 32) Reg.enc_COUNTS_ABANDONED
  let s := if p.stored then s else endSlot c p.slotNo s
  let s := encEvent c 1 s
  let s := recoveryPending c s
  let s := if cget s c Reg.enc_CTX_STATUS_STATE = 3 then cset c Reg.enc_CTX_STATUS_STATE 2 s else s
  settleCtx c s

/-- The picture of a frame, if the context holds it. -/
def encPicOf (s : State) (c n f : Nat) : Option EncPic := (s.enc c).pics.find? (fun p => p.stream == n && p.frameNo == f)

/-- Abandon a frame's picture, if it has one (R266). -/
def abandonFrame (c cause n f : Nat) (s : State) : State :=
  match encPicOf s c n f with
  | some p => abandonPic c cause p s
  | none => s

/-- Change a picture. -/
def updPic (c n f : Nat) (g : EncPic → EncPic) (s : State) : State :=
  let x := s.enc c
  s.setEnc c { x with pics := x.pics.map (fun p => if p.stream = n ∧ p.frameNo = f then g p else p) }

/-! ### Commits (R252) -/

/-- The fields whose change empties the reconstruction slots (R252). -/
def shapeOf (s : State) (c : Nat) : List Nat :=
  [cget s c Reg.enc_CTX_CFG_CODEC, cget s c Reg.enc_CTX_CFG_PROFILE, cget s c Reg.enc_CTX_CFG_CTU, cget s c Reg.enc_CTX_CFG_WPP,
   cget s c Reg.enc_CTX_GEOM, cget s c Reg.enc_CTX_RECON_LO, cget s c Reg.enc_CTX_RECON_HI, cget s c Reg.enc_CTX_CFG2_RECON_SLOTS]

/-- The addresses of a context's registers that either copy lists. -/
def ctxKeys (s : State) (c : Nat) : List Nat :=
  let lo := addrOf .enc (c / 32) (0x1100 + ctxOff (c % 32))
  (s.windowKeys .enc (c / 32)).filter (fun a => lo ≤ a && a < lo + 0x100)

/-- The reconstruction slots become empty and recovery becomes pending (R251, R252, R268). -/
def emptyRecon (c : Nat) (s : State) : State :=
  let s := s.setEnc c { s.enc c with recon := [], cycle := none }
  recoveryPending c (cset c Reg.enc_CTX_STATUS_GOOD 0 s)

/-- A window's commit takes effect on one context (R251, R252). -/
def applyCtx (c : Nat) (s : State) : State :=
  let was := contextOn s c
  let shape := shapeOf s c
  let s := forEach (ctxKeys s c) applyAt s
  let s := s.setEnc c { s.enc c with commit := false }
  let now := contextOn s c
  if now ∧ !was then
    showCtx c 1 (emptyRecon c (s.setEnc c { EncCtx.reset with gaps := 0 }))
  else if was ∧ !now then showCtx c 0 (s.setEnc c { s.enc c with pics := [] })
  else if now ∧ shape ≠ shapeOf s c then emptyRecon c s
  else refreshEnc (c / 32) s

/-! ### Pictures (R252, R256, R259, R260, R263) -/

/-- Picture slots in use by pictures in progress. -/
def slotsInUse (x : EncCtx) : Nat := (x.pics.filter (fun p => !p.stored && p.slotNo != 4)).length

/-- A picture with its slot unread. -/
def newPic (n f poc : Nat) : EncPic :=
  { stream := n, frameNo := f, poc := poc, slotNo := 0, slot := EncSlot.zero, recovery := false, idr := false, cycle := none,
    stored := false, rowsIn := 0, coded := 0, qp := 0, capped := false, flooring := false, floored := 0, spent := 0,
    slices := [], released := 0, bits := 0, hard := none, readyAt := [] }

/-- A picture takes its header slot and its budget, or is abandoned (R256, R263, R265). -/
def takeSlot (c : Nat) (p : EncPic) (s : State) : State :=
  let x := s.enc c
  let rec_ := cget s c Reg.enc_CTX_STATUS_RECOVERY == 1
  let refresh := cget s c Reg.enc_CTX_CFG_REFRESH == 1
  let good := cget s c Reg.enc_CTX_STATUS_GOOD == 1
  let no := if rec_ then 4 else (cget s c Reg.enc_CTX_STATUS_SLOT_NEXT + slotsInUse x) % 4
  let a := slotAddr s c no
  let l := memBytes s.dram a 2048
  let ctrl := leAt l 0 4
  let k := readSlot l
  let missing := !getBit ctrl 0 || (no != 4 && ctrl / 4096 % 16 != cget s c Reg.enc_CTX_COUNTS_EPOCH)
  let k := if rec_ && refresh && good then { k with l0 := [cget s c Reg.enc_CTX_STATUS_LAST_GOOD] } else k
  let idr := if rec_ then !(refresh && good) else k.idr
  let p := { p with slotNo := no, slot := k, recovery := rec_, idr := idr, stored := false }
  let put := fun (p : EncPic) (s : State) =>
    let x := s.enc c
    let keep := x.pics.filter (fun q => !(q.stream == p.stream && q.frameNo == p.frameNo))
    s.setEnc c { x with pics := keep ++ [p] }
  if missing ∨ rangePoisoned s a 2048 ∨ !slotOk s c l k then
    let s := encEvent c 3 (cset c Reg.enc_CTX_COUNTS_HDR_FAULTS (cget s c Reg.enc_CTX_COUNTS_HDR_FAULTS + 1) s)
    abandonPic c (if missing then 4 else 5) p (put { p with slot := EncSlot.zero } s)
  else
    -- the refresh cycle (R260)
    let cyc := if rec_ && !idr then some 0
      else if k.refreshStart && refresh then some 0
      else match x.cycle with
        | some i => if i + 1 < cget s c Reg.enc_CTX_CFG2_REFRESH_PICS then some (i + 1) else none
        | none => none
    let poc := if idr then 0 else p.poc
    let s := s.setEnc c { x with cycle := cyc, poc := if idr then 1 else x.poc, refs := if idr then 0 else x.refs,
                                 idrs := if idr then x.idrs + 1 else x.idrs,
                                 recon := x.recon.filter (fun r => r != k.recon) }
    let s := if k.recon = cget s c Reg.enc_CTX_STATUS_LAST_GOOD then cset c Reg.enc_CTX_STATUS_GOOD 0 s else s
    -- the buffer model (R263)
    let cpb := 1000 * cget s c Reg.enc_CTX_RC_CPB_KBIT
    let b := cget s c Reg.enc_CTX_CPB_LEVEL_BITS + x.lastBits - bitsPerPic s c
    let s := if cpb = 0 then s else cset c Reg.enc_CTX_CPB_LEVEL_BITS b s
    let hard := if cpb = 0 then none else some (cpb - b)
    let whole := 8 * k.ps.length + rcReserve s c k (ctuRows s c * ctuCols s c) (sliceCount s c)
    let viol := match hard with
      | some h => decide (h < whole)
      | none => false
    let s := if viol then encEvent c 5 (encEvent c 6 (s.inc (c / 32) Reg.enc_COUNTS_HRD_VIOL)) else s
    let p := { p with poc := poc, cycle := cyc, qp := k.qpBase, spent := 8 * k.ps.length, hard := hard, flooring := viol }
    settleCtx c (put p s)

/-- A window's commit has reached no context that still waits for it, or ends unapplied. -/
def dropCommits (e : Nat) (s : State) : State := forEach (windowCtxs e) (fun c s => s.setEnc c { s.enc c with commit := false }) s

/-- The whole of a window's commit is applied once no context waits for it. -/
def encCommitEnd (e : Nat) (s : State) : State :=
  if (windowCtxs e).any (fun c => (s.enc c).commit) then refreshPace s
  else
    let s := s.setHdr .enc e { s.hdr .enc e with enable := (s.hdr .enc e).enableStaged }
    refreshPace (commitDone .enc e s)

/-- The boundary of a commit in one context (R34, R53, R252): admission is checked again, and a commit that it turns away ends
rejected, the contexts that took it before keeping their new values. -/
def encBoundary (c : Nat) (s : State) : State :=
  if !(s.enc c).commit then s
  else
    let s1 := applyCtx c s
    if refusesWork s s1 then commitReject .enc (c / 32) 0x08 0 (dropCommits (c / 32) s)
    else encCommitEnd (c / 32) s1

/-- The first row of a frame leaves the tap that feeds a context (R252): the pending commit is applied, then the picture
starts; during a firmware handover's hold it is abandoned with cause 6 (R488). -/
def pictureStart (c n f : Nat) (s : State) : State :=
  let s := encBoundary c s
  if cget s c Reg.enc_CTX_STATUS_STATE = 0 then s
  else
    let x := s.enc c
    let bf := cget s c Reg.enc_CTX_CFG_B_FRAMES
    let rec_ := cget s c Reg.enc_CTX_STATUS_RECOVERY == 1
    let p := newPic n f x.poc
    let s := s.setEnc c { x with poc := x.poc + 1 }
    if s.sec.hold then abandonPic c 6 { p with stored := true } s
    else if bf ≠ 0 ∧ x.poc % (bf + 1) ≠ 0 ∧ !rec_ then
      settleCtx c (s.setEnc c { s.enc c with pics := (s.enc c).pics ++ [{ p with stored := true }] })
    else takeSlot c p s

/-- Tap rows that a context holds uncoded (R248). -/
def heldRows (s : State) (c : Nat) : Nat :=
  ((s.enc c).pics.filter (fun p => !p.stored)).foldl (fun a p => a + (p.rowsIn - p.coded * ctuSize s c)) 0

/-- A row leaves the tap for a context (R248, R249, R266). -/
def encRow (c n f : Nat) (t : Time) (s : State) : State :=
  match encPicOf s c n f with
  | none => s
  | some p =>
    if !p.stored ∧ srcRows s c ≤ heldRows s c then abandonPic c 3 p s
    else
      let r := p.rowsIn + 1
      let lines := sliceRows s c * ctuSize s c
      let h := cget s c Reg.enc_CTX_GEOM_HEIGHT
      let ready := if r % lines = 0 ∨ r = h then Tbl.put 0 ((r - 1) / lines) (t + 1) p.readyAt else p.readyAt
      updPic c n f (fun q => { q with rowsIn := r, readyAt := ready }) s

/-! ### Slices (R254, R255, R257) -/

/-- ue(v). -/
def ueBits (v : Nat) : Nat × Nat := (2 * Nat.log2 (v + 1) + 1, v + 1)

/-- se(v). -/
def seBits (v : Int) : Nat × Nat := ueBits (if 0 < v then (2 * v - 1).toNat else (-2 * v).toNat)

/-- Bits that hold every number below `n`. -/
def ceilLog2 (n : Nat) : Nat := if n ≤ 1 then 0 else Nat.log2 (n - 1) + 1

/-- Emulation prevention: 0x03 goes before a byte of 0-3 that follows two zero bytes (R255). -/
def emulate : Nat → List Byte → List Byte
  | _, [] => []
  | z, b :: t =>
    if z ≥ 2 ∧ b.toNat ≤ 3 then 3 :: b :: emulate (if b = 0 then 1 else 0) t
    else b :: emulate (if b = 0 then z + 1 else 0) t

/-- The bits of one patch field of slice `i` (R254). -/
def patchBits (s : State) (c : Nat) (p : EncPic) (i : Nat) (sl : EncSlice) (field : Nat) : List (Nat × Nat) :=
  let avc := isAvc s c
  let first := i * sliceRows s c * ctuCols s c
  match field with
  | 0 => [(1, bit (i = 0))]
  | 1 =>
    if avc then [ueBits first]
    else if i = 0 then [] else [(ceilLog2 (ctuRows s c * ctuCols s c), first)]
  | 2 => [seBits ((sl.qpFirst : Int) - cget s c Reg.enc_CTX_CFG2_INIT_QP)]
  | 3 =>
    let sizes := if cget s c Reg.enc_CTX_CFG_WPP = 1 then (sl.rows.dropLast).map (fun r => (emulate 0 r).length - 1) else []
    if sizes.isEmpty then [ueBits 0]
    else
      let len := max 1 (sizes.foldl (fun a v => max a (ceilLog2 (v + 1))) 0)
      [ueBits sizes.length, ueBits (len - 1)] ++ sizes.map (fun v => (len, v))
  | 4 => [(cget s c Reg.enc_CTX_CFG2_POC_BITS, if avc then 2 * p.poc else p.poc)]
  | 5 => [(cget s c Reg.enc_CTX_CFG2_FRAME_NUM_BITS, (s.enc c).refs)]
  | _ => [ueBits ((s.enc c).idrs % 65536)]

/-- The template with its patches inserted (R254): `pos` counts template bits already taken. -/
def insertPatches (s : State) (c : Nat) (p : EncPic) (i : Nat) (sl : EncSlice) (v n : Nat) :
    Nat → List (Nat × Nat) → List (Nat × Nat)
  | pos, [] => [(p.slot.shBits - pos, peekBits v n pos (p.slot.shBits - pos))]
  | pos, (at_, field) :: t =>
    (at_ - pos, peekBits v n pos (at_ - pos)) :: patchBits s c p i sl field ++ insertPatches s c p i sl v n at_ t

/-- The NAL unit of a slice with its start code (R255). -/
def sliceNal (s : State) (c : Nat) (p : EncPic) (i : Nat) (sl : EncSlice) : List Byte :=
  let avc := isAvc s c
  let v := natBE p.slot.template
  let bits := insertPatches s c p i sl v (8 * p.slot.template.length) 0 p.slot.patches
  let n := wordsLen bits
  let closing := if avc then (let k := (8 - n % 8) % 8; [(k, 2 ^ k - 1)]) else (let k := 8 - n % 8; [(k, 2 ^ (k - 1))])
  let head := wordsToBytes (bits ++ closing)
  let skip := if avc then 1 else 2
  bytesBE 4 1 ++ head.take skip ++ emulate 0 (head.drop skip ++ sl.rows.flatMap id)

/-- Bits that slice `i` adds at its start: its header and its start code. -/
def headerBits (s : State) (c : Nat) (p : EncPic) (i : Nat) (sl : EncSlice) : Nat :=
  32 + p.slot.shBits + ((p.slot.patches.filter (fun q => q.2 != 3)).foldl
    (fun a q => a + wordsLen (patchBits s c p i sl q.2)) 0)

/-- Filler data NAL units of `n` bits, rounded up to bytes (R263). -/
def fillerNal (avc : Bool) (n : Nat) : List Byte :=
  let head : List Byte := bytesBE 4 1 ++ (if avc then [0x0C] else [0x4C, 0x01])
  head ++ List.replicate (ceilDiv n 8 - head.length - 1) 0xFF ++ [0x80]

/-- The record of a slice (R261). -/
def sliceRecord (c : Nat) (p : EncPic) (i : Nat) (sl : EncSlice) (last : Bool) (gaps : Nat) (tk : Ticket) (nal : List Byte)
    (filler : Bool) : List Byte :=
  let b := bytesLE 2 1 ++ bytesLE 1 (p.slot.ptype + 4 * bit p.idr + 8 * bit p.cycle.isSome)
    ++ bytesLE 1 (bit (i = 0) + 2 * bit last + 4 * bit (gaps ≠ 0) + 8 * bit p.recovery + 16 * bit sl.floored + 32 * bit filler)
    ++ bytesLE 2 i ++ bytesLE 2 (min gaps 65535) ++ bytesLE 4 tk.frameNo ++ bytesLE 4 nal.length ++ bytesLE 2 c
    ++ bytesLE 1 sl.qpLast ++ bytesLE 1 0 ++ bytesLE 4 p.poc ++ bytesLE 4 (crc32c nal) ++ bytesLE 2 p.slot.tag ++ bytesLE 2 0
    ++ tk.encode ++ nal
  padTo (roundTo 64 b.length) b

/-! ### The output ring (R261, R262) -/

/-- Size of a context's output ring in bytes. -/
def outSize (s : State) (c : Nat) : Nat := 1024 * cget s c Reg.enc_CTX_OUT_SIZE_KIB

/-- Whether `n` bytes fit before OUT_RD would be reached (R262). -/
def outFits (s : State) (c n : Nat) : Bool :=
  let size := outSize s c
  let wr := 64 * cget s c Reg.enc_CTX_OUT_WR_OFFSET
  let rd := 64 * cget s c Reg.enc_CTX_OUT_RD_OFFSET
  n + (wr + size - rd) % (max size 1) + 64 ≤ size

/-- Write bytes into the ring at OUT_WR, wrapping at its end, and advance OUT_WR. -/
def outWrite (c : Nat) (data : List Byte) (s : State) : State :=
  let size := outSize s c
  let base := caddr s c Reg.enc_CTX_OUT_LO_ADDR Reg.enc_CTX_OUT_HI_ADDR
  let wr := 64 * cget s c Reg.enc_CTX_OUT_WR_OFFSET
  let n := size - wr
  let s := dramWrite 0 (base + wr) (data.take n) s
  let s := dramWrite 0 base (data.drop n) s
  cset c Reg.enc_CTX_OUT_WR_OFFSET ((wr + data.length) % (max size 1) / 64) s

/-- The RTP stamp units advance at a picture's slice 0 (R351). -/
def stampUnits (c i : Nat) (nal : List Byte) (s : State) : State :=
  forEach (List.range 128) (fun u s =>
    let d := 0x10 * u
    if s.get 0 (Reg.chk_CHKU_CFG_EN.at d) = 1 ∧ s.get 0 (Reg.chk_CHKU_CFG_USE.at d) = 1 ∧ s.get 0 (Reg.chk_CHKU_CFG_TARGET.at d) = c then
      let s := if i = 0 then s.inc 0 (Reg.chk_CHKU_ALIVE_ALIVE.at d) else s
      let s := s.inc 0 (Reg.chk_CHKU_COUNTS_DONE.at d)
      s.set 0 (Reg.chk_CHKU_LAST_CRC.at d) (crc32c nal)
    else s) s

/-- The last slice of a picture is released (R251, R256, R267, R268). -/
def pictureDone (c : Nat) (p : EncPic) (s : State) : State :=
  let x := s.enc c
  let ref := p.slot.ptype != 2
  let s := s.setEnc c { x with pics := x.pics.filter (fun q => !(q.stream == p.stream && q.frameNo == p.frameNo)),
                               recon := if ref then insertNat p.slot.recon x.recon else x.recon,
                               refs := if ref then x.refs + 1 else x.refs, lastBits := p.bits }
  let s := if ref then cset c Reg.enc_CTX_STATUS_GOOD 1 (cset c Reg.enc_CTX_STATUS_LAST_GOOD p.slot.recon s) else s
  let s := cset c Reg.enc_CTX_STATUS_FLOORED (min p.floored 65535) s
  let s := if p.floored = 0 then s else s.inc (c / 32) Reg.enc_COUNTS_FLOORED_PICS
  let s := cset c Reg.enc_CTX_COUNTS_PICTURES (cget s c Reg.enc_CTX_COUNTS_PICTURES + 1) s
  let s := cset c Reg.enc_CTX_LAST_BITS_BITS p.bits s
  let s := if p.recovery then cset c Reg.enc_CTX_STATUS_RECOVERY 0 s else s
  let s := encEvent c 0 (endSlot c p.slotNo s)
  settleCtx c s

/-- B-pictures whose anchor is coded take their slots (R259). -/
def releaseStored (c : Nat) (s : State) : State :=
  let x := s.enc c
  if x.pics.all (fun p => p.stored) then
    match x.pics with
    | p :: _ => if x.pics.length ≥ 1 then takeSlot c { p with stored := false } s else s
    | [] => s
  else s

/-- Release slice `p.released` of a picture if it is whole and fits, else stall (R257, R258, R261-R263). -/
def releaseSlice (c : Nat) (t : Time) (p : EncPic) (s : State) : State :=
  let i := p.released
  let n := sliceCount s c
  match (p.slices.find? (fun e => e.1 == i)).map (·.2) with
  | none => s
  | some sl =>
    let rows := min (sliceRows s c) (ctuRows s c - i * sliceRows s c)
    let tk := frameTicket s p.stream p.frameNo
    let last := i + 1 = n
    let ps := if i = 0 then p.slot.ps else []
    if sl.rows.length < rows then
      let soFar := 160 + ps.length + sl.rows.foldl (fun a r => a + r.length) 0
      if outFits s c (roundTo 64 soFar) then s
      else encEvent c 4 (showCtx c 3 (cset c Reg.enc_CTX_COUNTS_STALLS (cget s c Reg.enc_CTX_COUNTS_STALLS + 1) s))
    else
      let nal := ps ++ sliceNal s c p i sl
      let total := p.bits + 8 * nal.length
      let short := bitsPerPic s c - (cget s c Reg.enc_CTX_CPB_LEVEL_BITS + total)
      let fill := last && cget s c Reg.enc_CTX_CFG_RC_MODE == 0 && cget s c Reg.enc_CTX_RC_CPB_KBIT != 0 && decide (0 < short)
      let nal := if fill then nal ++ fillerNal (isAvc s c) short else nal
      let data := sliceRecord c p i sl last (s.enc c).gaps tk nal fill
      if !outFits s c data.length then
        encEvent c 4 (showCtx c 3 (cset c Reg.enc_CTX_COUNTS_STALLS (cget s c Reg.enc_CTX_COUNTS_STALLS + 1) s))
      else
        let s := outWrite c data s
        let s := s.setEnc c { s.enc c with gaps := 0 }
        let s := stampUnits c i nal s
        let due := Tbl.get 0 p.readyAt i - 1 + 2 * ctuSize s c * tk.rowPeriod * 256
        let late := cget s c Reg.enc_CTX_CFG_B_FRAMES == 0 && decide (due < t)
        let s := if late then encEvent c 7 (s.inc (c / 32) Reg.enc_COUNTS_SLICE_LATE) else s
        let p := { p with released := i + 1, bits := p.bits + 8 * nal.length }
        let s := updPic c p.stream p.frameNo (fun _ => p) s
        if last then releaseStored c (pictureDone c p s) else s

/-! ### Coding (R249, R264, R265) -/

/-- QP of the next row (R264): `r` rows of `n` have been coded, `tgt` is the soft target. -/
def nextQp (mode : Nat) (k : EncSlot) (tgt spent r n : Nat) : Nat :=
  if mode = 2 then k.qpBase
  else
    -- 4 (spent - T (r + 1) / R) R / T, toward zero
    let num : Int := 4 * ((spent : Int) * n - (tgt : Int) * (r + 1))
    let d : Int := if tgt = 0 then 0 else if num < 0 then -(num.natAbs / tgt : Nat) else (num.natAbs / tgt : Nat)
    let d := if mode = 3 then max d 0 else d
    (clampI k.qpMin k.qpMax ((k.qpBase : Int) + clampI (-(k.dqpMax : Int)) k.dqpMax d)).toNat

/-- The CTUs of a row in turn (R265): spent after it, CTUs floored, and whether the floor holds from here on. -/
def floorCtus (s : State) (c : Nat) (p : EncPic) (slicesLeft : Nat) : List Nat → Nat → Nat → Bool → Nat × Nat × Bool
  | [], spent, fl, on => (spent, fl, on)
  | b :: t, spent, fl, on =>
    let left := ctuRows s c * ctuCols s c - p.coded * ctuCols s c - (ctuCols s c - (t.length + 1))
    let on := on || (match p.hard with
      | some h => decide (h < spent + rcReserve s c p.slot left slicesLeft)
      | none => false)
    floorCtus s c p slicesLeft t (spent + b) (fl + bit on) on

/-- The slice that an engine of the context codes next (R247): the lowest unfinished one, of its parity in a gang. -/
def codingSlice (s : State) (c side : Nat) (p : EncPic) : Option Nat :=
  (List.range (sliceCount s c)).find? (fun i =>
    (!ganged s (c / 32) || i % 2 == side)
      && decide ((((p.slices.find? (fun e => e.1 == i)).map (·.2.rows.length)).getD 0)
          < min (sliceRows s c) (ctuRows s c - i * sliceRows s c)))

/-- A CTU row of a context is coded: `ctus` are the bits of its CTUs and `data` its slice-data bytes (R257, R264, R265). -/
def ctuRowDone (c side : Nat) (ctus : List Nat) (data : List Byte) (t : Time) (s : State) : State :=
  let x := s.enc c
  if cget s c Reg.enc_CTX_STATUS_STATE ≠ 2 then s
  else
    match x.pics.find? (fun p => !p.stored) with
    | none => s
    | some p =>
      match codingSlice s c side p with
      | none => s
      | some i =>
        let e := (p.slices.find? (fun e => e.1 == i)).map (·.2)
        let row := i * sliceRows s c + ((e.map (·.rows.length)).getD 0)
        let h := cget s c Reg.enc_CTX_GEOM_HEIGHT
        if p.rowsIn < min h ((row + 1) * ctuSize s c) then s
        else
          let qp := if p.capped then p.slot.qpMax else p.qp
          let sl : EncSlice := e.getD { rows := [], qpFirst := qp, qpLast := qp, floored := false }
          let started := p.slices.length + (if e.isNone then 1 else 0)
          let spent0 := p.spent + (if e.isNone then headerBits s c p i sl else 0)
          let (spent, fl, on) := floorCtus s c p (sliceCount s c - started) ctus spent0 0 p.flooring
          let n := ctuRows s c
          let tgt := if p.slot.target = 0 then bitsPerPic s c else p.slot.target
          let mode := cget s c Reg.enc_CTX_CFG_RC_MODE
          let cap := mode != 2 && decide (tgt ≤ spent) && decide (p.coded + 1 < n)
          let s := raiseIf ((cap && !p.capped && !p.flooring) || (on && !p.flooring && !p.capped)) .enc (c / 32) 5
            (if (cap && !p.capped) || (on && !p.flooring) then s.set (c / 32) Reg.enc_EVENT_SRC_CONTEXT c else s)
          let sl := { sl with rows := sl.rows ++ [data], qpLast := qp, floored := sl.floored || decide (0 < fl) }
          let q := { p with coded := p.coded + 1, spent := spent, floored := p.floored + fl, flooring := on,
                            capped := p.capped || cap, qp := nextQp mode p.slot tgt spent p.coded n,
                            slices := (p.slices.filter (fun e => e.1 != i)) ++ [(i, sl)] }
          let s := updPic c p.stream p.frameNo (fun _ => q) s
          let s := releaseSlice c t q s
          -- a later slice of a gang may already be whole
          match encPicOf s c p.stream p.frameNo with
          | some q2 => if q2.released = q.released then s else releaseSlice c t q2 s
          | none => s

/-- OUT_RD has moved: a STALLED context resumes (R251, R262). -/
def outFreed (c : Nat) (s : State) : State :=
  if cget s c Reg.enc_CTX_STATUS_STATE ≠ 3 then s
  else
    let s := showCtx c 2 s
    match (s.enc c).pics.find? (fun p => !p.stored) with
    | none => settleCtx c s
    | some p => releaseSlice c s.now p s

/-- A context STALLED for a picture period abandons its picture (R266). -/
def stallTimeout (c : Nat) (s : State) : State :=
  if cget s c Reg.enc_CTX_STATUS_STATE ≠ 3 then s
  else
    match (s.enc c).pics.find? (fun p => !p.stored) with
    | none => s
    | some p => abandonPic c 2 p s

/-- GANG written (R247): past the write checks. -/
def writeGang (origin e : Nat) (v : Word) (s : State) : State :=
  let g := getBit v.toNat 0
  let pair := if e % 2 = 0 then e + 1 else e - 1
  if (windowCtxs e ++ windowCtxs pair).any (contextOn s) then logAccess .enc e 0x10 origin 0x40 0 s
  else if e % 2 = 1 ∧ g then logAccess .enc e 0x01 origin 0x40 0 s
  else if e % 2 = 1 then s
  else refreshEnc (e + 1) (refreshEnc e (s.set e Reg.enc_ENGINE_CFG_GANG (bit g)))

/-- SOFT_RESET of a window (R251): unreleased bytes are discarded, every context is OFF. -/
def resetEnc (e : Nat) (s : State) : State := forEach (windowCtxs e) (fun c s => s.setEnc c EncCtx.reset) s

/-! ### Meanings -/

/-- CTU_ROW_DONE (R264). -/
def execCtuRowDone (c : Fin 128) (side : Fin 2) (ctus : List Nat) (data : List Byte) (t : Time) (s : State) :
    Host.Outcome State Fault Refusal := .next (ctuRowDone c.val side.val ctus data t (s.at t))

/-- STALL_TIMEOUT (R266). -/
def execStallTimeout (c : Fin 128) (t : Time) (s : State) : Host.Outcome State Fault Refusal :=
  .next (stallTimeout c.val (s.at t))

end Sys2Proof.Machine
end

