-- ==== Sys2Proof/Machine/NetFrames.lean ====
section
/-! DEFINITION. Ethernet, IP, UDP and RTP frames as bytes (R362, R365, R366, R377, R378): how they are built and read. The
layouts are those of the standards that R362 and R364 name (PRESUMED: the spec does not repeat them; log 60). -/

namespace Sys2Proof.Machine

/-- Sum of big-endian 16-bit words, an odd last byte padded with zero. -/
def sum16 : List Byte → Nat
  | a :: b :: t => a.toNat * 256 + b.toNat + sum16 t
  | [a] => a.toNat * 256
  | [] => 0

/-- Fold the carries of a one's complement sum. -/
def fold16 (n : Nat) : Nat := if n = 0 then 0 else (n - 1) % 65535 + 1

/-- The Internet checksum. -/
def inetSum (n : Nat) : Nat := 65535 - fold16 n

/-- Where a frame's datagram goes. -/
structure Route where
  v6 : Bool
  dstMac : List Byte
  srcMac : List Byte
  /-- Tag control information of an 802.1Q tag. -/
  tag : Option Nat
  dscp : Nat
  ttl : Nat
  src : List Byte
  dst : List Byte
  sport : Nat
  dport : Nat
  /-- IPv4 identification and don't-fragment bit, or IPv6 flow label. -/
  ident : Nat
deriving DecidableEq, Repr

/-- The sum over the pseudo-header of UDP. -/
def pseudoSum (src dst : List Byte) (len : Nat) : Nat := sum16 src + sum16 dst + 17 + len

/-- A UDP datagram with its checksum (R362). -/
def udpBytes (src dst : List Byte) (sport dport : Nat) (data : List Byte) : List Byte :=
  let len := 8 + data.length
  let head := bytesBE 2 sport ++ bytesBE 2 dport ++ bytesBE 2 len
  let c := inetSum (pseudoSum src dst len + sum16 head + sum16 data)
  head ++ bytesBE 2 (if c = 0 then 65535 else c) ++ data

/-- An IP header for `len` bytes of UDP. -/
def ipHeader (r : Route) (len : Nat) : List Byte :=
  if r.v6 then
    bytesBE 4 (6 * 2 ^ 28 + (4 * (r.dscp % 64)) * 2 ^ 20 + r.ident % 2 ^ 20) ++ bytesBE 2 len ++ bytesBE 1 17
      ++ bytesBE 1 r.ttl ++ r.src ++ r.dst
  else
    let a := bytesBE 1 0x45 ++ bytesBE 1 (4 * (r.dscp % 64)) ++ bytesBE 2 (20 + len) ++ bytesBE 2 r.ident
      ++ bytesBE 2 (r.ident / 65536 % 2 * 0x4000) ++ bytesBE 1 r.ttl ++ bytesBE 1 17
    let c := inetSum (sum16 a + sum16 r.src + sum16 r.dst)
    a ++ bytesBE 2 c ++ r.src ++ r.dst

/-- A whole frame with a UDP payload, without its FCS. -/
def udpFrame (r : Route) (data : List Byte) : List Byte :=
  let udp := udpBytes r.src r.dst r.sport r.dport data
  r.dstMac ++ r.srcMac ++ (match r.tag with | some v => bytesBE 2 0x8100 ++ bytesBE 2 v | none => [])
    ++ bytesBE 2 (if r.v6 then 0x86DD else 0x0800) ++ ipHeader r udp.length ++ udp

/-- The bytes of the IP and UDP headers. -/
def ipUdpLen (v6 : Bool) : Nat := if v6 then 48 else 28

/-- A received frame that carries UDP. -/
structure UdpRx where
  v6 : Bool
  srcMac : List Byte
  tag : Option Nat
  src : List Byte
  dst : List Byte
  sport : Nat
  dport : Nat
  data : List Byte
deriving DecidableEq, Repr

/-- What a received frame is (R362, R376). -/
inductive RxKind where
  /-- An FCS, length or checksum error: discarded and counted. -/
  | bad
  /-- No UDP datagram. -/
  | other
  | udp (x : UdpRx)
deriving DecidableEq, Repr

/-- Offset of the bytes after the Ethernet header, the Ethertype and the tag. -/
def etherOf (f : List Byte) : Nat × Nat × Option Nat :=
  if beAt f 12 2 = 0x8100 then (18, beAt f 16 2, some (beAt f 14 2)) else (14, beAt f 12 2, none)

/-- Read the UDP datagram in `l`, whose IP addresses are known. -/
def readUdp (v6 : Bool) (f : List Byte) (tag : Option Nat) (src dst l : List Byte) : RxKind :=
  let len := beAt l 4 2
  if l.length < 8 ∨ len < 8 ∨ l.length < len then .bad
  else
    let d := l.take len
    let good := fold16 (pseudoSum src dst len + sum16 d) = 65535
    if good ∨ (!v6 ∧ beAt l 6 2 = 0) then
      .udp { v6 := v6, srcMac := (f.drop 6).take 6, tag := tag, src := src, dst := dst, sport := beAt l 0 2, dport := beAt l 2 2,
             data := d.drop 8 }
    else .bad

/-- Read a frame that a port with the given MTU receives. A fragmented datagram is not UDP to the engine (R362). -/
def readFrame (mtu : Nat) (f : List Byte) : RxKind :=
  let (o, ty, tag) := etherOf f
  let l := f.drop o
  if f.length < 14 then .bad
  else if ty = 0x0800 then
    let hl := 4 * (beAt l 0 1 % 16)
    let len := beAt l 2 2
    if l.length < 20 ∨ hl < 20 ∨ len < hl ∨ l.length < len ∨ mtu < len ∨ fold16 (sum16 (l.take hl)) ≠ 65535 then .bad
    else if beAt l 9 1 ≠ 17 ∨ beAt l 6 2 % 0x4000 ≠ 0 then .other
    else readUdp false f tag ((l.drop 12).take 4) ((l.drop 16).take 4) ((l.take len).drop hl)
  else if ty = 0x86DD then
    let len := beAt l 4 2
    if l.length < 40 ∨ l.length < 40 + len ∨ mtu < 40 + len then .bad
    else if beAt l 6 1 ≠ 17 then .other
    else readUdp true f tag ((l.drop 8).take 16) ((l.drop 24).take 16) ((l.take (40 + len)).drop 40)
  else .other

/-! ### RTP -/

/-- An RTP header with its extension (R366, R367). -/
def rtpHeader (marker : Bool) (pt seq ts ssrc : Nat) (ext : Option (Nat × List Byte)) : List Byte :=
  bytesBE 1 (0x80 + 0x10 * (if ext.isSome then 1 else 0)) ++ bytesBE 1 (pt % 128 + (if marker then 128 else 0)) ++ bytesBE 2 seq
    ++ bytesBE 4 ts ++ bytesBE 4 ssrc
    ++ (match ext with
        | some (id, d) => bytesBE 2 0x1000 ++ bytesBE 2 8 ++ bytesBE 1 id ++ bytesBE 1 30 ++ padTo 30 d
        | none => [])

/-- Bytes of the stamp extension (R367). -/
def stampExtLen : Nat := 36

/-- Bytes of the RTP header and its CSRC list. -/
def rtpFixed (l : List Byte) : Nat := 12 + 4 * (beAt l 0 1 % 16)

/-- Bytes of the header extension. -/
def rtpExtLen (l : List Byte) : Nat :=
  if beAt l 0 1 / 16 % 2 = 1 then 4 + 4 * beAt l (rtpFixed l + 2) 2 else 0

/-- The data of the stamp element of an RTP packet (R367). -/
def rtpStamp (l : List Byte) : Option (List Byte) :=
  let o := rtpFixed l
  if rtpExtLen l = stampExtLen ∧ beAt l o 2 = 0x1000 ∧ beAt l (o + 5) 1 = 30 ∧ beAt l (o + 4) 1 ≠ 0 then some ((l.drop (o + 6)).take 30)
  else none

/-- The payload of an RTP packet, without padding. -/
def rtpPayload (l : List Byte) : List Byte :=
  let d := l.drop (rtpFixed l + rtpExtLen l)
  if beAt l 0 1 / 32 % 2 = 1 then d.take (d.length - ((l.getLast?.map (·.toNat)).getD 0)) else d

def rtpSeq (l : List Byte) : Nat := beAt l 2 2
def rtpTs (l : List Byte) : Nat := beAt l 4 4
def rtpSsrc (l : List Byte) : Nat := beAt l 8 4
def rtpMarker (l : List Byte) : Bool := beAt l 1 1 / 128 == 1

/-! ### NAL units -/

/-- The NAL units of an Annex B byte stream: what lies between start codes, without trailing zeros. -/
def splitNals : List Byte → Option (List Byte) → List (List Byte)
  | [], cur => match cur with | some c => [c.dropWhile (· = 0) |>.reverse] | none => []
  | a :: b :: c :: t, cur =>
    if a = 0 ∧ b = 0 ∧ c = 1 then
      (match cur with | some x => [x.dropWhile (· = 0) |>.reverse] | none => []) ++ splitNals t (some [])
    else splitNals (b :: c :: t) (cur.map (fun x => a :: x))
  | a :: t, cur => splitNals t (cur.map (fun x => a :: x))

/-- Cut bytes into pieces of at most `n`. -/
def chunks (n : Nat) : Nat → List Byte → List (List Byte)
  | 0, _ => []
  | f + 1, l => if l = [] then [] else l.take (max n 1) :: chunks n f (l.drop (max n 1))

/-- The RTP payloads of one NAL unit: it alone if it fits `first` bytes, else fragmentation units of at most `first` bytes for
the first and `room` for the others (R365). -/
def nalPackets (avc : Bool) (first room : Nat) (nal : List Byte) : List (List Byte) :=
  if nal.length ≤ first then [nal]
  else
    let h := if avc then 1 else 2
    let b0 := beAt nal 0 1
    let head : List Byte := if avc then bytesBE 1 (b0 / 32 * 32 + 28) else bytesBE 1 (b0 / 128 * 128 + 98 + b0 % 2) ++ (nal.drop 1).take 1
    let ty := if avc then b0 % 32 else b0 / 2 % 64
    let body := nal.drop h
    let ps := body.take (first - h - 1) :: chunks (room - h - 1) body.length (body.drop (first - h - 1))
    ps.zipIdx.map (fun (p, i) =>
      head ++ bytesBE 1 (ty + (if i = 0 then 128 else 0) + (if i + 1 = ps.length then 64 else 0)) ++ p)

end Sys2Proof.Machine
end

