-- ==== Sys2Proof/Machine/Ptp.lean ====
section
/-! DEFINITION. PTP messages: receive and transmit rings of the time domains (R396-R399) and the measurement of the path
(R400). -/

namespace Sys2Proof.Machine

def State.dom (s : State) (d : Nat) : TimeDom := Tbl.get TimeDom.reset s.doms d

def State.setDom (s : State) (d : Nat) (x : TimeDom) : State := { s with doms := Tbl.put TimeDom.reset d x s.doms }

/-! ### Messages -/

/-- messageType. -/
def ptpType (m : List Byte) : Nat := beAt m 0 1 % 16
/-- Event messages carry types 0-3. -/
def ptpEvent (m : List Byte) : Bool := decide (ptpType m < 4)
def ptpSeq (m : List Byte) : Nat := beAt m 30 2
def ptpTwoStep (m : List Byte) : Bool := beAt m 6 1 / 2 % 2 == 1
/-- correctionField in units of 2^-16 ns. -/
def ptpCorr (m : List Byte) : Int := toSigned 64 (beAt m 8 8)
/-- The timestamp field, in units of 2^-16 ns. -/
def ptpStamp (m : List Byte) : Int := (beAt m 34 6 : Nat) * secUnits + (65536 * beAt m 40 4 : Nat)
/-- A timestamp field of 10 bytes. -/
def stampField (x : Instant) : List Byte := bytesBE 6 (ofSigned 48 x.sec) ++ bytesBE 4 x.ns

/-- The PTP message of a received frame, its transport, source address field and source port (R396, R397). -/
def ptpOf (mtu : Nat) (f : List Byte) : Option (List Byte × Nat × List Byte × Nat) :=
  let (o, ty, _) := etherOf f
  if ty = 0x88F7 then some (f.drop o, 0, (f.drop 6).take 6, 0)
  else
    match readFrame mtu f with
    | .udp x => if x.dport = 319 ∨ x.dport = 320 then some (x.data, if x.v6 then 2 else 1, x.src, x.sport) else none
    | _ => none

/-! ### Measurement (R400) -/

/-- A Sync's t2 - t1 - cS is known. -/
def syncDone (x : Int) (m : TimeDom) : TimeDom :=
  { m with sync := some x, offSum := m.offSum + 2 * x - m.mpd2, offCount := m.offCount + 1 }

/-- A delay exchange has completed with twice its mpd. -/
def mpdDone (x : Int) (m : TimeDom) : TimeDom := { m with mpd2 := x, mpdSum := m.mpdSum + x, mpdCount := m.mpdCount + 1 }

/-- The waiting message of a kind with a sequenceId. -/
def TimeDom.waiting (m : TimeDom) (kind : Fin 4) (q : Nat) : Option PtpWait := m.waits.find? (fun w => w.kind == kind && w.seq == q)

/-- Without that message. -/
def TimeDom.without (m : TimeDom) (kind : Fin 4) (q : Nat) : TimeDom :=
  { m with waits := m.waits.filter (fun w => !(w.kind == kind && w.seq == q)) }

/-- A message that arrived at `now` in the domain's time; `p2p` is DELAY_MECH. -/
def measureRx (p2p : Bool) (msg : List Byte) (now : Int) (m : TimeDom) : TimeDom :=
  let q := ptpSeq msg
  match ptpType msg with
  | 0 =>
    let m := { m with syncs := m.syncs + 1 }
    if ptpTwoStep msg then
      let m := m.without 0 q
      { m with waits := { kind := 0, seq := q, time := now, corr := ptpCorr msg, t2 := 0 } :: m.waits }
    else syncDone (now - ptpStamp msg - ptpCorr msg) m
  | 8 =>
    match m.waiting 0 q with
    | some w => syncDone (w.time - ptpStamp msg - w.corr - ptpCorr msg) (m.without 0 q)
    | none => m
  | 9 =>
    match m.waiting 1 q, m.sync with
    | some w, some x => if p2p then m else mpdDone (x + (ptpStamp msg - w.time - ptpCorr msg)) (m.without 1 q)
    | _, _ => m
  | 3 =>
    match m.waiting 2 q with
    | some w =>
      if !p2p then m
      else
        let m := (m.without 2 q).without 3 q
        if ptpTwoStep msg then
          { m with waits := { kind := 3, seq := q, time := now - w.time, corr := ptpCorr msg, t2 := ptpStamp msg } :: m.waits }
        else mpdDone (now - w.time - ptpCorr msg) m
    | none => m
  | 10 =>
    match m.waiting 3 q with
    | some w => mpdDone (w.time - w.corr - ptpCorr msg - (ptpStamp msg - w.t2)) (m.without 3 q)
    | none => m
  | _ => m

/-- An own request that departed at `now`. -/
def measureTx (msg : List Byte) (now : Int) (m : TimeDom) : TimeDom :=
  let put := fun (k : Fin 4) =>
    let m := m.without k (ptpSeq msg)
    { m with waits := { kind := k, seq := ptpSeq msg, time := now, corr := 0, t2 := 0 } :: m.waits }
  match ptpType msg with
  | 1 => put 1
  | 2 => put 2
  | _ => m

/-- Whether a domain measures: a slave that is not OFF (R393). -/
def measures (s : State) (d : Nat) : Bool := s.get d Reg.time_CFG_ROLE == 0 && s.stateOf .time d != 0

/-! ### Receive rings (R396, R397) -/

/-- Address of a slot of a domain's ring area: receive slots, then transmit slots. -/
def ptpSlot (s : State) (d i : Nat) : Nat := addrReg s d Reg.time_RING_LO_ADDR Reg.time_RING_HI_ADDR + 512 * i

/-- Whether a domain takes a message. -/
def ptpMatches (s : State) (d n transport : Nat) (m : List Byte) : Bool :=
  s.stateOf .time d != 0 && s.get d Reg.time_CFG_PORT == n && s.get d Reg.time_CFG_TRANSPORT == transport
    && s.get d Reg.time_CFG_PTP_DOMAIN == beAt m 4 1

/-- Deliver a message to one domain. -/
def ptpDeliver (d n transport : Nat) (m src : List Byte) (sport : Nat) (t : Time) (s : State) : State :=
  let now := clockAt s d t
  let s := if measures s d then s.setDom d (measureRx (s.get d Reg.time_CFG_DELAY_MECH == 1) m now (s.dom d)) else s
  let wr := s.get d Reg.time_RX_IDX_WR
  let nx := (wr + 1) % max 1 (s.get d Reg.time_RING_SLOTS_RX)
  if nx = s.get d Reg.time_RX_IDX_RD then raise .time d 8 (s.inc d Reg.time_COUNTS_RX_LOST)
  else
    let rxf := bit (ptpEvent m) + 2 * bit (decide (448 < m.length)) + 4 * transport
    let ingress := if ptpEvent m then (Instant.mk d now).encode else List.replicate 16 0
    let slot := bytesLE 2 m.length ++ bytesLE 1 n ++ bytesLE 1 rxf ++ bytesLE 4 0 ++ ingress ++ (Instant.mk 4 (t : Int)).encode
      ++ padTo 16 src ++ bytesLE 2 sport ++ bytesLE 6 0 ++ padTo 448 m
    raise .time d 7 ((dramWrite 0 (ptpSlot s d wr) slot s).set d Reg.time_RX_IDX_WR nx)

/-- A PTP message arrives at a NET port. -/
def ptpReceive (n : Nat) (f : List Byte) (t : Time) (s : State) : State :=
  match ptpOf (s.get n Reg.net_CFG_MTU) f with
  | none => s
  | some (m, transport, src, sport) =>
    let ds := (List.range 4).filter (fun d => ptpMatches s d n transport m)
    if ds = [] then s.inc 0 Reg.timel_UNMATCHED_COUNT
    else forEach ds (fun d s => ptpDeliver d n transport m src sport t s) s

/-! ### Transmit rings (R398, R399) -/

/-- Address of the transmit slot that the device sends next; none: nothing is submitted. -/
def ptpHead (s : State) (d : Nat) : Option Nat :=
  let rd := s.get d Reg.time_TX_IDX_RD
  if rd = s.get d Reg.time_TX_IDX_WR then none else some (ptpSlot s d (s.get d Reg.time_RING_SLOTS_RX + rd))

/-- The frame of a slot. -/
def slotFrame (b : List Byte) : List Byte := (b.drop 64).take (leAt b 0 2)

/-- Transport of a frame: 0 = L2, 1 = IPv4, 2 = IPv6. -/
def frameTransport (f : List Byte) : Nat :=
  let (_, ty, _) := etherOf f
  if ty = 0x0800 then 1 else if ty = 0x86DD then 2 else 0

/-- Whether a slot is refused (R399). LEN outside 60-448, a PORT above 3 and an RX_REF without a slot are refused too (log 62). -/
def slotRefused (s : State) (d : Nat) (b : List Byte) : Bool :=
  let len := leAt b 0 2
  let op := leAt b 3 1 % 4
  let ty := ptpType ((slotFrame b).drop (leAt b 4 2))
  decide (len < 60) || decide (448 < len) || decide (3 < leAt b 2 1) || decide (len < leAt b 4 2 + 44)
    || (op == 1 && ty != 0) || (op == 2 && ty != 3) || (op == 3 && ty != 9)
    || (decide (2 ≤ op) && decide (s.get d Reg.time_RING_SLOTS_RX ≤ leAt b 6 2))
    || (op != 0 && leAt b 3 1 / 4 % 2 == 0 && frameTransport (slotFrame b) == 2)

/-- A slot is done with: STATUS and DEPART are written, RD moves on, and TX_DONE is raised if REPORT is set. -/
def slotDone (d a status : Nat) (depart : Option (List Byte)) (report : Bool) (s : State) : State :=
  let s := match depart with
    | some x => dramWrite 0 (a + 8) x s
    | none => s
  let s := dramWrite 0 (a + 24) (bytesLE 1 status) s
  let s := if status = 1 then s.inc d Reg.time_COUNTS_TX_BAD else s
  let s := s.set d Reg.time_TX_IDX_RD ((s.get d Reg.time_TX_IDX_RD + 1) % max 1 (s.get d Reg.time_RING_SLOTS_TX))
  raiseIf report .time d 9 s

/-- Whether a NET port can send: it is enabled and its link is up. -/
def linkUp (s : State) (n : Nat) : Bool := s.get n Reg.net_STATUS_LINK == 1

/-- Take refused slots, and slots for ports without link, off the head of a domain's ring. -/
def ptpSettle (d : Nat) : Nat → State → State
  | 0, s => s
  | k + 1, s =>
    match ptpHead s d with
    | none => s
    | some a =>
      let b := memBytes s.dram a 512
      let report := leAt b 3 1 / 8 % 2 == 1
      if slotRefused s d b then ptpSettle d k (slotDone d a 0x01 none report s)
      else if !linkUp s (leAt b 2 1) then ptpSettle d k (slotDone d a 0x14 none report s)
      else s

/-- The port that a domain's next frame waits for. -/
def ptpPort (s : State) (d : Nat) : Option Nat := (ptpHead s d).map (fun a => leAt (memBytes s.dram a 64) 2 1)

/-- Keep the UDP checksum of a changed frame valid by its last two payload bytes, or send it as zero (R399). -/
def fixChecksum (trailer : Bool) (old new : List Byte) : List Byte :=
  let (o, ty, _) := etherOf old
  let u := o + (if ty = 0x0800 then 4 * (beAt old o 1 % 16) else 40)
  if ty ≠ 0x0800 ∧ ty ≠ 0x86DD then new
  else if !trailer then splice new (u + 6) (bytesBE 2 0)
  else
    let len := beAt old (u + 4) 2
    let at_ := u + len - 2
    let zeroed := splice new at_ (bytesBE 2 0)
    let want := sum16 ((old.drop u).take len)
    let have_ := sum16 ((zeroed.drop u).take len)
    let x := (want + 65535 * (have_ + 1) - have_) % 65535
    splice new at_ (if len % 2 = 0 then bytesBE 2 x else bytesLE 2 x)

/-- The frame of a slot as it departs at `now` (R399). -/
def departFrame (b rx : List Byte) (now : Instant) : List Byte :=
  let f := slotFrame b
  let off := leAt b 4 2
  let op := leAt b 3 1 % 4
  let m := f.drop off
  let ingress := Instant.decode ((rx.drop 8).take 16)
  let corr := fun (x : Int) (g : List Byte) => splice g (off + 8) (bytesBE 8 (ofSigned 64 (ptpCorr m + x)))
  let g :=
    match op with
    | 1 => corr (now.frac : Nat) (splice f (off + 34) (stampField now))
    | 2 => corr (now.val - ingress.val) f
    | 3 => corr (-(ingress.frac : Nat) : Int) (splice f (off + 34) (stampField ingress))
    | _ => f
  if op = 0 then f else fixChecksum (leAt b 3 1 / 4 % 2 == 1) f g

/-- The head slot of a domain departs from port `n` at `t` (R398, R399). -/
def ptpDepart (d n : Nat) (t : Time) (s : State) : State :=
  match ptpHead s d with
  | none => s
  | some a =>
    let (b, s) := readOpen 0 a 512 s
    let (rx, s) := if 2 ≤ leAt b 3 1 % 4 then readOpen 0 (ptpSlot s d (leAt b 6 2)) 64 s else ([], s)
    let now : Instant := ⟨d, clockAt s d t⟩
    let f := departFrame b rx now
    let m := f.drop (leAt b 4 2)
    let s := if measures s d then s.setDom d (measureTx m now.val (s.dom d)) else s
    let s := s.emit (.frame n f)
    slotDone d a 0 (some (if ptpEvent m then now.encode else List.replicate 16 0)) (leAt b 3 1 / 8 % 2 == 1) s

end Sys2Proof.Machine
end

