-- ==== Sys2Proof/Machine/Sessions.lean ====
section
/-! DEFINITION. The egress side of the packet engine: sources, packets, sessions, buffer, pacing, scheduling, the exception
transmit ring and sender reports (R363-R377). -/

namespace Sys2Proof.Machine

def State.sessOf (s : State) (i : Nat) : Sess := Tbl.get Sess.reset s.sess i

def State.setSess (s : State) (i : Nat) (x : Sess) : State := { s with sess := Tbl.put Sess.reset i x s.sess }

def State.net (s : State) (n : Nat) : NetPort := Tbl.get NetPort.reset s.nets n

def State.setNet (s : State) (n : Nat) (x : NetPort) : State := { s with nets := Tbl.put NetPort.reset n x s.nets }

def State.pay (s : State) (k : Nat) : Payload := Tbl.get Payload.none s.pkt.pays k

/-- Enabled sessions, rising. -/
def openSessions (s : State) : List Nat :=
  (s.regs.filter (fun e => decide (blkBase .session ≤ e.1) && e.1 % 0x1000 == 0x40)).map (fun e => (e.1 - blkBase .session) / 0x1000)
    |>.filter (fun i => decide (i < 4096) && s.get i Reg.session_S_CFG_EN == 1)

/-- Enabled sessions that name a source (R369). -/
def subscribers (s : State) (ty n : Nat) : List Nat :=
  (openSessions s).filter (fun i => s.get i Reg.session_S_CFG_SRC_TYPE == ty && s.get i Reg.session_S_CFG_SRC == n)

/-- Whether the packet engine owns a ring's read pointer (R371). -/
def pktOwns (s : State) (ty n : Nat) : Bool := subscribers s ty n != []

/-- Raise an event of a session. -/
def sessEvent (i e : Nat) (s : State) : State := raise .pkt 0 e (s.set 0 Reg.pkt_EVENT_SRC_SESSION i)

/-! ### The buffer (R374) -/

/-- On-chip bytes above which packets go to the spill area, in hundredths. -/
def spillMark (s : State) : Nat := 8388608 * s.get 0 Reg.pkt_SPILL_SIZE_MARK

/-- Show the use of the buffer. -/
def showBuf (s : State) : State :=
  (s.set 0 Reg.pkt_BUF_STATUS_ONCHIP_KIB (ceilDiv s.pkt.onchip 1024)).setSat 0 Reg.pkt_BUF_STATUS_SPILL_MIB (ceilDiv s.pkt.spill 1048576)

/-- Where `n` bytes go: on chip (false), to the spill area (true), or nowhere. -/
def placeFor (s : State) (n : Nat) : Option Bool :=
  let chip := decide (s.pkt.onchip + n ≤ 8388608)
  let spill := decide (s.pkt.spill + n ≤ 1048576 * s.get 0 Reg.pkt_SPILL_SIZE_MIB)
  if spillMark s < 100 * s.pkt.onchip ∧ spill then some true
  else if chip then some false
  else if spill then some true
  else none

/-- Take `n` bytes of a place; SPILL is raised when on-chip use first exceeds MARK (R387). -/
def useBytes (spilled : Bool) (n : Nat) (s : State) : State :=
  let p := s.pkt
  if spilled then showBuf { s with pkt := { p with spill := p.spill + n } }
  else
    let s' := showBuf { s with pkt := { p with onchip := p.onchip + n } }
    raiseIf (decide (100 * p.onchip ≤ spillMark s) && decide (spillMark s < 100 * (p.onchip + n))) .pkt 0 2 s'

/-- Give bytes back. -/
def freeBytes (spilled : Bool) (n : Nat) (s : State) : State :=
  let p := s.pkt
  showBuf { s with pkt := if spilled then { p with spill := p.spill - n } else { p with onchip := p.onchip - n } }

/-- Bytes of an RTP payload: a raw fragment has its header of 8 bytes (R368). -/
def payLen (p : Payload) : Nat := p.bytes.length + (if p.kind = 1 then 8 else 0)

/-- Write a payload. -/
def State.setPay (s : State) (k : Nat) (p : Payload) : State :=
  { s with pkt := { s.pkt with pays := Tbl.put Payload.none k p s.pkt.pays } }

/-- One reference of a payload is gone; the last one frees it. -/
def unref (k : Nat) (s : State) : State :=
  let p := s.pay k
  if p.refs ≤ 1 then freeBytes p.spilled (64 + payLen p) (s.setPay k Payload.none) else s.setPay k { p with refs := p.refs - 1 }

/-- Count the payloads stored. -/
def countPay (s : State) : State := { s with pkt := { s.pkt with nextPay := s.pkt.nextPay + 1 } }

/-- Count the references queued. -/
def countAge (s : State) : State := { s with pkt := { s.pkt with nextAge := s.pkt.nextAge + 1 } }

/-- Store a payload with one reference held by the caller; its key, or none without room. -/
def storePay (p : Payload) (s : State) : Option Nat × State :=
  match placeFor s (64 + payLen p) with
  | none => (none, s)
  | some sp =>
    (some s.pkt.nextPay,
      countPay ((useBytes sp (64 + payLen p) s).setPay s.pkt.nextPay { p with spilled := sp, refs := 1 }))

/-! ### Sessions (R366-R370, R375) -/

/-- IP datagram length of a payload that session `i` sends. -/
def dgramLen (s : State) (i : Nat) (p : Payload) : Nat :=
  ipUdpLen (s.get i Reg.session_S_CFG_IPV6 == 1) + payLen p
    + (if p.kind = 2 then 0 else 12 + (if p.stamp.isSome then stampExtLen else 0))

/-- Bytes a session has queued. -/
def queuedBytes (s : State) (i : Nat) : Nat := (s.sessOf i).queue.foldl (fun a r => a + dgramLen s i (s.pay r.pay)) 0

/-- The session's next sequence number; it is taken. -/
def takeSeq (i : Nat) (s : State) : Nat × State := (s.get i Reg.session_S_STATUS_SEQ, s.inc i Reg.session_S_STATUS_SEQ)

/-- Count a drop of a session and report it: `buf` for lack of room (R375). -/
def countDrop (i : Nat) (buf : Bool) (s : State) : State :=
  sessEvent i 0 (s.inc i (if buf then Reg.session_S_COUNTS_DROP_BUF else Reg.session_S_COUNTS_DROP_QUEUE))

/-- Take a reference out of a session's queue. -/
def removeRef (i : Nat) (r : PktRef) (s : State) : State :=
  let x := s.sessOf i
  let s := s.setSess i { x with queue := x.queue.filter (fun q => q.age != r.age) }
  unref r.pay (freeBytes r.spilled 16 s)

/-- A queued reference is dropped, and with it the rest of its record for that session (R375). -/
def dropQueued (i : Nat) (buf : Bool) (r : PktRef) (s : State) : State :=
  let part := (s.pay r.pay).part
  let s := countDrop i buf (removeRef i r s)
  let rest := (s.sessOf i).queue.filter (fun q => (s.pay q.pay).part == part)
  let s := forEach rest (fun q s => countDrop i false (removeRef i q s)) s
  if part + 1 = s.pkt.nextPart then s.setSess i { s.sessOf i with dropPart := some part } else s

/-- The oldest queued reference of a class and port: session and reference. -/
def oldestOf (s : State) (cls port : Nat) : Option (Nat × PktRef) :=
  ((openSessions s).filter (fun i => s.get i Reg.session_S_CFG_CLASS == cls && s.get i Reg.session_S_CFG_PORT == port)).foldl
    (fun best i =>
      match best, (s.sessOf i).queue with
      | none, r :: _ => some (i, r)
      | some (j, q), r :: _ => if r.age < q.age then some (i, r) else some (j, q)
      | b, [] => b) none

/-- Why a reference to payload `k` cannot be queued for session `i`: some true for lack of buffer, some false for QUEUE_KIB. -/
def refRefused (s : State) (i k : Nat) : Option Bool :=
  if queuedBytes s i + dgramLen s i (s.pay k) > 1024 * s.get i Reg.session_S_BUCKET_QUEUE_KIB then some false
  else if placeFor s 16 = none then some true
  else none

/-- One more reference of a payload. -/
def addRef (k : Nat) (s : State) : State := s.setPay k { s.pay k with refs := (s.pay k).refs + 1 }

/-- A reference goes to the end of a session's queue. -/
def enqueueRef (i k seq seg : Nat) (sp : Bool) (s : State) : State :=
  countAge (s.setSess i { s.sessOf i with
    queue := (s.sessOf i).queue ++ [{ pay := k, seq := seq, seg := seg, age := s.pkt.nextAge, spilled := sp }] })

/-- Queue a reference for session `i` (R371). -/
def pushRef (i k seq seg : Nat) (s : State) : State :=
  let sp := (placeFor s 16).getD false
  enqueueRef i k seq seg sp (addRef k (useBytes sp 16 s))

/-- A reference arrives for session `i` (R375). -/
def offerRef (i k seg : Nat) (s : State) : State :=
  let p := s.pay k
  let (seq, s) := if p.kind = 2 then (0, s) else takeSeq i s
  if (s.sessOf i).dropPart = some p.part then countDrop i false s
  else
    match refRefused s i k with
    | none => pushRef i k seq seg s
    | some buf =>
      let cls := s.get i Reg.session_S_CFG_CLASS
      let s :=
        if s.get 0 (Reg.pkt_CLASS_CFG_DROP_MODE.at (4 * cls)) = 1 then
          match oldestOf s cls (s.get i Reg.session_S_CFG_PORT) with
          | some (j, r) => dropQueued j buf r s
          | none => s
        else s
      if refRefused s i k = none ∧ (s.sessOf i).dropPart ≠ some p.part then pushRef i k seq seg s
      else countDrop i buf (s.setSess i { s.sessOf i with dropPart := some p.part })

/-- A packet arrives for a list of sessions: its payload is stored once, or dropped for every one of them (R374, R375). -/
def offerPacket (subs : List (Nat × Nat)) (p : Payload) (s : State) : State :=
  match storePay p s with
  | (none, s) =>
    let s := raise .pkt 0 1 (s.inc 0 Reg.pkt_COUNTS_BUF_FULL)
    forEach subs (fun (i, _) s =>
      let s := if p.kind = 2 then s else (takeSeq i s).2
      let follow := (s.sessOf i).dropPart == some p.part
      countDrop i (!follow) (s.setSess i { s.sessOf i with dropPart := some p.part })) s
  | (some k, s) => unref k (forEach subs (fun (i, seg) s => offerRef i k seg s) s)

/-! ### Frames (R365-R368) -/

/-- The MAC address of two registers. -/
def macBytes (lo hi : Nat) : List Byte := bytesLE 4 lo ++ bytesLE 2 hi

/-- An IPv6 address of four registers, or the IPv4 address of one. -/
def ipBytes (v6 : Bool) (w : Nat → Nat) : List Byte :=
  if v6 then bytesBE 4 (w 0) ++ bytesBE 4 (w 1) ++ bytesBE 4 (w 2) ++ bytesBE 4 (w 3) else bytesBE 4 (w 0)

/-- The own address of a port. -/
def netAddr (s : State) (n : Nat) (v6 : Bool) : List Byte :=
  ipBytes v6 (fun k => if v6 then s.get n (Reg.net_IPV6_ADDR.at (4 * k)) else s.get n Reg.net_IPV4_ADDR)

/-- The route of a session's datagrams; `rtcp` adds 1 to the destination port. -/
def sessRoute (s : State) (i : Nat) (rtcp : Bool) : Route :=
  let n := s.get i Reg.session_S_CFG_PORT
  let v6 := s.get i Reg.session_S_CFG_IPV6 == 1
  { v6 := v6, dstMac := macBytes (s.get i Reg.session_S_DST_MAC_LO_ADDR) (s.get i Reg.session_S_DST_MAC_HI),
    srcMac := macBytes (s.get n Reg.net_MAC_LO_ADDR) (s.get n Reg.net_MAC_HI_ADDR),
    tag := if s.get i Reg.session_S_CFG_VLAN = 1 then
        some (8192 * s.get i Reg.session_S_DST_MAC_HI_PCP + s.get i Reg.session_S_DST_MAC_HI_VID) else none,
    dscp := s.get i Reg.session_S_RTP_DSCP, ttl := s.get i Reg.session_S_RTP_TTL, src := netAddr s n v6,
    dst := ipBytes v6 (fun k => s.get i (Reg.session_S_DST_IP_ADDR.at (4 * k))),
    sport := s.get i Reg.session_S_UDP_SRC_PORT,
    dport := (s.get i Reg.session_S_UDP_DST_PORT + bit rtcp) % 65536,
    ident := Config.ipField s.free (bit v6) }

/-- The RTP timestamp of an instant (R366). -/
def rtpTime (s : State) (i : Nat) (time : Int) (clock : Nat) : Nat :=
  ofSigned 32 (time * (clock : Nat) / secUnits + (s.get i Reg.session_S_TS_OFFSET_VALUE : Nat))

/-- The frame of a session's packet (R365-R368, R377). -/
def sessFrame (s : State) (i : Nat) (r : PktRef) : List Byte :=
  let p := s.pay r.pay
  if p.kind = 2 then udpFrame (sessRoute s i true) p.bytes
  else
    let head := rtpHeader p.marker (s.get i Reg.session_S_RTP_PT) r.seq (rtpTime s i p.time p.clock)
      (s.get i Reg.session_S_SSRC_VALUE) (p.stamp.map (fun d => (s.get i Reg.session_S_RTP_EXT_ID, d)))
    let raw := if p.kind = 1 then bytesLE 1 1 ++ bytesLE 1 p.pflags ++ bytesLE 2 r.seg ++ bytesLE 4 p.offset else []
    udpFrame (sessRoute s i false) (head ++ raw ++ p.bytes)

/-! ### Pacing (R372) -/

/-- Units of a token bucket in a byte. -/
def tokenUnit : Nat := 524288000000

/-- A session's tokens at `t`. -/
def tokens (s : State) (i : Nat) (t : Time) : Nat :=
  let x := s.sessOf i
  min (s.get i Reg.session_S_BUCKET_BYTES * tokenUnit) (x.level + s.get i Reg.session_S_RATE_KBPS * (t - x.levelAt))

/-- A session's bucket, described from `t` on: before RATE or BUCKET change. -/
def rebase (i : Nat) (t : Time) (s : State) : State :=
  s.setSess i { s.sessOf i with level := tokens s i t, levelAt := t }

/-- The head packet of a session if it is eligible at `t`. -/
def eligible (s : State) (i : Nat) (t : Time) : Option PktRef :=
  match (s.sessOf i).queue with
  | [] => none
  | r :: _ =>
    if s.get i Reg.session_S_RATE_KBPS = 0 ∨ dgramLen s i (s.pay r.pay) * tokenUnit ≤ tokens s i t then some r else none

/-- Take the tokens of a packet. -/
def payTokens (i : Nat) (len : Nat) (t : Time) (s : State) : State :=
  s.setSess i { s.sessOf i with level := tokens s i t - len * tokenUnit, levelAt := t }

/-! ### Scheduling (R373) -/

/-- Sessions of a port and class with an eligible packet, those after the one served last first. -/
def ready (s : State) (n cls : Nat) (t : Time) : List Nat :=
  let l := (openSessions s).filter (fun i => s.get i Reg.session_S_CFG_PORT == n && s.get i Reg.session_S_CFG_CLASS == cls
    && (eligible s i t).isSome)
  let last := Tbl.get 0 (s.net n).turns cls
  l.filter (fun i => decide (last ≤ i)) ++ l.filter (fun i => decide (i < last))

/-- Deficit round robin: the session to send next, and the port after the choice. `fuel` bounds the classes visited. -/
def drrPick (s : State) (n : Nat) (t : Time) : Nat → NetPort → Option Nat × NetPort
  | 0, x => (none, x)
  | k + 1, x =>
    let next := (x.cls + 1) % 8
    let onward := fun (x : NetPort) =>
      drrPick s n t k { x with cls := next,
                               deficits := Tbl.put 0 next (Tbl.get 0 x.deficits next
                                 + 64 * s.get 0 (Reg.pkt_CLASS_CFG_WEIGHT.at (4 * next))) x.deficits }
    match ready s n x.cls t with
    | [] => onward { x with deficits := Tbl.put 0 x.cls 0 x.deficits }
    | i :: _ =>
      let len := match eligible s i t with
        | some r => dgramLen s i (s.pay r.pay)
        | none => 0
      let d := Tbl.get 0 x.deficits x.cls
      if len ≤ d then (some i, { x with deficits := Tbl.put 0 x.cls (d - len) x.deficits, turns := Tbl.put 0 x.cls (i + 1) x.turns })
      else onward x

/-- Whether any class of a port has an eligible packet. -/
def anyReady (s : State) (n : Nat) (t : Time) : Bool := (List.range 8).any (fun c => ready s n c t != [])

/-- Rounds that a packet of 9,216 bytes can need with the smallest quantum, in classes visited. -/
def drrFuel : Nat := 1300

/-- Start sending session `i`'s head packet from port `n`. -/
def startPacket (n i : Nat) (t : Time) (s : State) : State :=
  match (s.sessOf i).queue with
  | [] => s
  | r :: rest =>
    let p := s.pay r.pay
    let s' := payTokens i (dgramLen s i p) t (s.emit (.frame n (sessFrame s i r))).fresh
    let x := s'.sessOf i
    let s' := s'.setSess i { x with queue := rest, packets := x.packets + (if p.kind = 2 then 0 else 1),
                                    octets := x.octets + (if p.kind = 2 then 0 else payLen p) }
    (freeBytes r.spilled 16 s').setNet n { s'.net n with sending := .packet i r.pay }

/-- Without link, the packets that would be sent are dropped at the heads of their queues (R363). -/
def dropLink (n : Nat) (t : Time) : Nat → State → State
  | 0, s => s
  | k + 1, s =>
    match (openSessions s).find? (fun i => s.get i Reg.session_S_CFG_PORT == n && (eligible s i t).isSome) with
    | none => s
    | some i =>
      match (s.sessOf i).queue with
      | [] => s
      | r :: _ =>
        let s := payTokens i (dgramLen s i (s.pay r.pay)) t s
        dropLink n t k ((removeRef i r s).inc n Reg.net_COUNTS_TX_DROP_LINK)

/-- References queued in all sessions. -/
def queuedRefs (s : State) : Nat := s.sess.foldl (fun a e => a + e.2.queue.length) 0

/-- Address of the exception transmit slot that is sent next, and its port (R376). -/
def excHead (s : State) : Option (Nat × Nat) :=
  let rd := s.get 0 Reg.pkt_EXC_TX_IDX_RD
  if rd = s.get 0 Reg.pkt_EXC_TX_IDX_WR then none
  else
    let a := addrReg s 0 Reg.pkt_EXC_TX_LO_ADDR Reg.pkt_EXC_TX_HI_ADDR + 2048 * rd
    some (a, leAt (memBytes s.dram (a + 2) 1) 0 1)

/-- The exception transmit ring moves on. -/
def excNext (s : State) : State :=
  s.set 0 Reg.pkt_EXC_TX_IDX_RD ((s.get 0 Reg.pkt_EXC_TX_IDX_RD + 1) % max 1 (s.get 0 Reg.pkt_EXC_SLOTS_TX))

/-- Slots whose port cannot send are taken off the ring unsent (log 63). -/
def excSettle : Nat → State → State
  | 0, s => s
  | k + 1, s =>
    match excHead s with
    | some (_, n) => if 4 ≤ n ∨ !linkUp s n then excSettle k (excNext s) else s
    | none => s

/-- The frame of an exception transmit slot. -/
def excFrame (b : List Byte) : List Byte := ((b.drop 16).take (min (leAt b 0 2) 2032))

/-- An idle port picks its next frame (R373). -/
def pickNext (n : Nat) (t : Time) (s : State) : State :=
  let s := forEach (List.range 4) (fun d s => ptpSettle d 4096 s) s
  let s := excSettle 4096 s
  let x := s.net n
  if x.sending ≠ .idle then s
  else if !linkUp s n then dropLink n t (queuedRefs s) s
  else
    match (List.range 4).find? (fun d => ptpPort s d == some n) with
    | some d => s.setNet n { x with sending := .ptp d }
    | none =>
      match x.replies, excHead s with
      | f :: rest, _ => (s.emit (.frame n f)).setNet n { x with sending := .frame, replies := rest }
      | [], some (a, m) =>
        if m = n then
          let (b, s) := readOpen 0 a 2048 s
          ((excNext s).emit (.frame n (excFrame b))).setNet n { x with sending := .frame }
        else drr s x
      | [], none => drr s x
where
  /-- Sessions share what is left. -/
  drr (s : State) (x : NetPort) : State :=
    if !anyReady s n t then s.setNet n { x with deficits := [] }
    else
      match drrPick s n t drrFuel x with
      | (some i, x) => startPacket n i t (s.setNet n x)
      | (none, x) => s.setNet n x

/-- Every idle port picks: taking a slot may put one for another port at the head of its ring. -/
def pickAll (t : Time) (s : State) : State :=
  forEach (List.range 4) (fun _ s => forEach (List.range 4) (fun n s => pickNext n t s) s) s

/-- A port has finished a frame. -/
def sendDone (n : Nat) (s : State) : State :=
  let x := s.net n
  let s := s.setNet n { x with sending := .idle }
  match x.sending with
  | .packet i k => if (s.pay k).kind = 2 then unref k s else unref k (s.inc i Reg.session_S_COUNTS_SENT)
  | _ => s

/-! ### Records (R364-R371) -/

/-- Room for RTP payload in a session's packets, and less the stamp in the first (R365, R367). -/
def sessRoom (s : State) (i : Nat) (stamped : Bool) : Nat × Nat :=
  let r := s.get (s.get i Reg.session_S_CFG_PORT) Reg.net_CFG_MTU - ipUdpLen (s.get i Reg.session_S_CFG_IPV6 == 1) - 12
  (if stamped && s.get i Reg.session_S_CFG_STAMP == 1 then r - stampExtLen else r, r)

/-- Keep the first of equal elements. -/
def dedupe {α : Type} [DecidableEq α] : List α → List α
  | [] => []
  | a :: t => a :: (dedupe t).filter (fun b => decide (b ≠ a))

/-- A number for a new record, segment or block. -/
def newPart (s : State) : Nat × State := (s.pkt.nextPart, { s with pkt := { s.pkt with nextPart := s.pkt.nextPart + 1 } })

/-- Sessions that take a record: those that send, and those that start with it (R370). -/
def startSessions (l : List Nat) (starts : Nat → Bool) (s : State) : List Nat × State :=
  let s := forEach l (fun i s => if s.stateOf .session i = 1 ∧ starts i then s.setState .session i 2 else s) s
  (l.filter (fun i => s.stateOf .session i == 2), s)

/-- The domain of a source's records. -/
def noteDom (l : List Nat) (d : Nat) (s : State) : State :=
  forEach l (fun i s => s.setSess i { s.sessOf i with dom := some d }) s

/-- The packets of a slice record for one pair of rooms (R365): each NAL unit alone or in fragments, the stamp on the first. -/
def recordPackets (avc : Bool) (rooms : Nat × Nat) : List (List Byte) → Bool → List (List Byte)
  | [], _ => []
  | x :: t, first => nalPackets avc (if first then rooms.1 else rooms.2) rooms.2 x ++ recordPackets avc rooms t false

/-- A slice record of encode context `c` is read into the buffer (R364-R367, R370, R371). -/
def ingestSlice (c : Nat) (t : Time) (s : State) : State :=
  let rd := cget s c Reg.enc_CTX_OUT_RD_OFFSET
  let subs := subscribers s 0 c
  if subs = [] ∨ rd = cget s c Reg.enc_CTX_OUT_WR_OFFSET then s
  else
    let base := caddr s c Reg.enc_CTX_OUT_LO_ADDR Reg.enc_CTX_OUT_HI_ADDR
    let size := outSize s c
    let ring := fun (o n : Nat) (s : State) =>
      let o := o % max size 1
      let (x, s) := readOpen 0 (base + o) (min n (size - o)) s
      let (y, s) := readOpen 0 base (n - (size - o)) s
      (x ++ y, s)
    let (hd, s) := ring (64 * rd) 160 s
    let nb := min (leAt hd 12 4) size
    let (nal, s) := ring (64 * rd + 160) nb s
    let total := roundTo 64 (160 + nb)
    let tkRaw := (hd.drop 32).take 128
    let tk := Ticket.decode tkRaw
    let slice := leAt hd 4 2
    let key := leAt hd 2 1 / 4 % 2 == 1 || leAt hd 3 1 / 8 % 2 == 1
    let (l, s) := startSessions subs (fun i => slice == 0 && (s.get i Reg.session_S_CFG_WAIT_KEY == 0 || key)) s
    let s := noteDom l tk.capture.dom s
    let stamp := (unitFor s 1 c).map (fun u =>
      bytesLE 4 (leAt hd 8 4) ++ bytesLE 2 (s.get 0 (Reg.chk_CHKU_ALIVE_ALIVE.at (0x10 * u))) ++ bytesLE 2 tk.flags ++ bytesLE 2 slice
        ++ bytesLE 4 (leAt hd 24 4) ++ tk.capture.encode)
    let avc := cget s c Reg.enc_CTX_CFG_CODEC == 1
    let last := leAt hd 3 1 / 2 % 2 == 1
    let (part, s) := newPart s
    let nals := splitNals nal none
    let s := forEach (dedupe (l.map (fun i => sessRoom s i stamp.isSome))) (fun rooms s =>
      let ps := recordPackets avc rooms nals true
      let group := (l.filter (fun i => sessRoom s i stamp.isSome == rooms)).map (fun i => (i, 0))
      forEach ps.zipIdx (fun (b, j) s =>
        offerPacket group { Payload.none with bytes := b, part := part, marker := last && j + 1 == ps.length,
                                              stamp := if j = 0 ∧ rooms.1 ≠ rooms.2 then stamp else none,
                                              time := tk.capture.val, clock := 90000 } s) s) s
    pickAll t (outFreed c (cset c Reg.enc_CTX_OUT_RD_OFFSET ((64 * rd + total) % max size 1 / 64) s))

/-- A segment of ZRAW engine `k` is read into the buffer (R364, R368, R370, R371). -/
def ingestSegment (k : Nat) (t : Time) (s : State) : State :=
  let size := 1024 * s.get k Reg.zraw_SEG_SIZE_KIB
  let rd0 := 64 * s.get k Reg.zraw_SEG_RD_OFFSET
  let subs := subscribers s 2 k
  if subs = [] ∨ rd0 = 64 * s.get k Reg.zraw_SEG_WR_OFFSET then s
  else
    let (h0, s) := readOpen 0 (segBase s k + rd0) 32 s
    let wrap := decide (size ≤ rd0) || leAt h0 0 2 == 0
    let rd := if wrap then 0 else rd0
    if wrap ∧ s.get k Reg.zraw_SEG_WR_OFFSET = 0 then s.set k Reg.zraw_SEG_RD_OFFSET 0
    else
      let (hd, s) := if wrap then readOpen 0 (segBase s k) 32 s else (h0, s)
      let last := leAt hd 19 1 % 2 == 1
      let n := min (32 + leAt hd 20 4 + (if last then 128 else 0)) size
      let (seg, s) := readOpen 0 (segBase s k + rd) n s
      let cap := Tbl.get Instant.zero (s.zraw k).captures rd
      let (l, s) := startSessions subs (fun _ => leAt hd 6 2 == 0) s
      let s := noteDom l cap.dom s
      let (part, s) := newPart s
      let s := forEach (dedupe (l.map (fun i => sessRoom s i false))) (fun rooms s =>
        let group := (l.filter (fun i => sessRoom s i false == rooms)).map (fun i => (i, (s.sessOf i).segs % 65536))
        let ps := chunks (rooms.2 - 8) seg.length seg
        forEach ps.zipIdx (fun (b, j) s =>
          offerPacket group { Payload.none with kind := 1, bytes := b, part := part, marker := last && j + 1 == ps.length,
                                                time := cap.val, clock := 90000, offset := j * (rooms.2 - 8),
                                                pflags := bit (j == 0) + 2 * bit (j + 1 == ps.length) } s) s) s
      let s := forEach l (fun i s => s.setSess i { s.sessOf i with segs := (s.sessOf i).segs + 1 }) s
      pickAll t (s.set k Reg.zraw_SEG_RD_OFFSET ((rd + roundTo 64 n) / 64))

/-- A completed block of audio port `n` goes to its sessions (R423). -/
def ingestBlock (n : Nat) (time : Instant) (frames : List (List Nat)) (t : Time) (s : State) : State :=
  let subs := subscribers s 1 n
  if subs = [] then s
  else
    let (l, s) := startSessions subs (fun _ => true) s
    let s := noteDom l time.dom s
    let (part, s) := newPart s
    let data := frames.flatMap (fun f => f.flatMap (fun v => bytesBE 3 (v / 256)))
    pickAll t (offerPacket (l.map (fun i => (i, 0)))
      { Payload.none with bytes := data, part := part, time := time.val, clock := audRate s n } s)

/-! ### Subscription (R369, R370, R372, R423) -/

/-- Whether EN = 1 is refused: an audio block that does not fit the port's MTU (R423). -/
def blockTooLong (s : State) (cfg : Nat) : Bool :=
  let n := cfg / 4096 % 16
  let mtu := s.get (cfg / 256 % 4) Reg.net_CFG_MTU
  cfg / 1024 % 4 == 1 && decide (mtu < ipUdpLen (getBit cfg 1) + 12 + 3 * audFrames s n * audSlots s n)

/-- EN has become 1: the session waits for its start with a full bucket. -/
def subscribe (i : Nat) (s : State) : State :=
  let s := s.setSess i { Sess.reset with level := s.get i Reg.session_S_BUCKET_BYTES * tokenUnit, levelAt := s.now }
  (s.set i Reg.session_S_STATUS_SEQ (s.get i Reg.session_S_STATUS_SEQ_INIT)).setState .session i 1

/-- EN has become 0: what the session has queued is discarded (log 64). -/
def unsubscribe (i : Nat) (s : State) : State :=
  let s := forEach (s.sessOf i).queue (fun r s => removeRef i r s) s
  s.setState .session i 0

/-- A source number outside its SRC_TYPE's range (R386). -/
def badSource (cfg : Nat) : Bool :=
  let n := cfg / 4096 % 128
  match cfg / 1024 % 4 with
  | 0 => false
  | 1 => decide (16 ≤ n)
  | 2 => decide (4 ≤ n)
  | _ => true

/-- A write of S_CFG that has passed the checks of R28 up to its state. -/
def writeSessCfg (origin i : Nat) (v : Word) (s : State) : State :=
  let was := s.get i Reg.session_S_CFG_EN
  let cfg := v.toNat % 0x80000
  if badSource cfg ∨ (getBit cfg 0 ∧ blockTooLong s cfg) then logAccess .session i 0x01 origin 0x40 0 s
  else
    let s := s.set i Reg.session_S_CFG cfg
    if getBit cfg 0 ∧ was = 0 then subscribe i s
    else if !getBit cfg 0 ∧ was = 1 then pickAll s.now (unsubscribe i s)
    else pickAll s.now s

/-- A write of another session register (R372, R386). -/
def writeSess (origin i off : Nat) (v : Word) (s : State) : State :=
  let en := s.get i Reg.session_S_CFG_EN == 1
  match off with
  | 0x6C => pickAll s.now ((rebase i s.now s).set i Reg.session_S_RATE_KBPS v.toNat)
  | 0x70 =>
    if v.toNat % 65536 < s.get (s.get i Reg.session_S_CFG_PORT) Reg.net_CFG_MTU then logAccess .session i 0x01 origin off 0 s
    else pickAll s.now ((rebase i s.now s).set i Reg.session_S_BUCKET v.toNat)
  | 0x74 =>
    if en then logAccess .session i 0x10 origin off 0 s
    else (s.set i Reg.session_S_STATUS_SEQ_INIT (v.toNat / 65536)).set i Reg.session_S_STATUS_SEQ (v.toNat / 65536)
  | _ => s

/-! ### Sender reports (R377) -/

/-- The domain of a session's source. -/
def sessDom (s : State) (i : Nat) : Nat :=
  let src := s.get i Reg.session_S_CFG_SRC
  let ty := s.get i Reg.session_S_CFG_SRC_TYPE
  if ty = 1 then audDom s src
  else ((s.sessOf i).dom).getD (Config.sourceDomain ty src % 5)

/-- The RTCP sender report of a session at `t`. -/
def senderReport (s : State) (i : Nat) (t : Time) : List Byte :=
  let x : Instant := ⟨sessDom s i, clockAt s (sessDom s i) t⟩
  let clock := if s.get i Reg.session_S_CFG_SRC_TYPE = 1 then audRate s (s.get i Reg.session_S_CFG_SRC) else 90000
  bytesBE 1 0x80 ++ bytesBE 1 200 ++ bytesBE 2 6 ++ bytesBE 4 (s.get i Reg.session_S_SSRC_VALUE)
    ++ bytesBE 4 (ofSigned 32 (x.sec + 2208988800)) ++ bytesBE 4 (2 ^ 32 * x.ns / 1000000000)
    ++ bytesBE 4 (rtpTime s i x.val clock) ++ bytesBE 4 (s.sessOf i).packets ++ bytesBE 4 (s.sessOf i).octets

/-- Every enabled session sends a report (R377). -/
def sendReports (t : Time) (s : State) : State :=
  if s.get 0 Reg.pkt_RTCP_CFG_SR_MS = 0 then s
  else
    pickAll t (forEach (openSessions s) (fun i s =>
      let (part, s) := newPart s
      offerPacket [(i, 0)] { Payload.none with kind := 2, bytes := senderReport s i t, part := part } s) s)

/-! ### Commands -/

/-- PKT_RECORD_INGEST (R371): a slice record of context `k`, or a segment of engine `k`. -/
def execPktRecordIngest (raw : Bool) (k : Fin 128) (t : Time) (s : State) : Host.Outcome State Fault Refusal :=
  .next (if raw then ingestSegment k.val t (s.at t) else ingestSlice k.val t (s.at t))

/-- PKT_SEND (R373). A PTP frame ends by PTP_TX_DEPART. -/
def execPktSend (n : Fin 4) (t : Time) (s : State) : Host.Outcome State Fault Refusal :=
  match (s.net n.val).sending with
  | .ptp _ => .next (s.at t)
  | _ => .next (pickAll t (sendDone n.val (s.at t)))

/-- PACKET_ELIGIBLE (R372). -/
def execPacketEligible (i : Fin 4096) (t : Time) (s : State) : Host.Outcome State Fault Refusal :=
  .next (pickNext (s.get i.val Reg.session_S_CFG_PORT) t (s.at t))

/-- SENDER_REPORT (R377). -/
def execSenderReport (t : Time) (s : State) : Host.Outcome State Fault Refusal := .next (sendReports t (s.at t))

/-- BLOCK_READY (R418, R423). -/
def execBlockReady (n : Fin 16) (start : Nat) (frames : List (Option (List Nat))) (t : Time) (s : State) :
    Host.Outcome State Fault Refusal :=
  match audCapture n.val start frames (s.at t) with
  | none => .next (s.at t)
  | some (_, time, l, s) => .next (ingestBlock n.val time l t s)

end Sys2Proof.Machine
end

