-- ==== Sys2Proof/Machine/Flows.lean ====
section
/-! DEFINITION. The ingress side of the packet engine: flows, jitter buffers, depacketising into decoder records, the exception
receive ring, and the links of the Ethernet ports (R363, R376, R378-R380). -/

namespace Sys2Proof.Machine

def State.flow (s : State) (f : Nat) : Flow := Tbl.get Flow.reset s.flows f

def State.setFlow (s : State) (f : Nat) (x : Flow) : State := { s with flows := Tbl.put Flow.reset f x s.flows }

/-- Offset of a flow's registers from those of flow 0 (R385). -/
def flowOff (f : Nat) : Nat := 0x1000 * (f / 32) + 0x40 * (f % 32)

def fget (s : State) (f : Nat) (r : Fld) : Nat := s.get 0 (r.at (flowOff f))

def fset (f : Nat) (r : Fld) (v : Nat) (s : State) : State := s.set 0 (r.at (flowOff f)) v

def finc (f : Nat) (r : Fld) (s : State) : State := s.inc 0 (r.at (flowOff f))

/-- Raise an event of a flow. -/
def flowEvent (f e : Nat) (s : State) : State := raise .pkt 0 e (s.set 0 Reg.pkt_EVENT_SRC_FLOW f)

/-- Show NEXT_SEQ and QUEUED. -/
def showFlow (f : Nat) (s : State) : State :=
  fset f Reg.pkt_F_STATUS_NEXT_SEQ ((s.flow f).expect.getD 0) (fset f Reg.pkt_F_STATUS_QUEUED (s.flow f).held.length s)

/-! ### The exception receive ring (R376) -/

/-- A frame goes to the exception receive ring. -/
def excReceive (n : Nat) (frame : List Byte) (at_ : Time) (s : State) : State :=
  let wr := s.get 0 Reg.pkt_EXC_RX_IDX_WR
  let nx := (wr + 1) % max 1 (s.get 0 Reg.pkt_EXC_SLOTS_RX)
  if nx = s.get 0 Reg.pkt_EXC_RX_IDX_RD then raise .pkt 0 6 (s.inc 0 Reg.pkt_COUNTS_EXC_LOST)
  else
    let x : Instant := ⟨4, (at_ : Int)⟩
    let head := bytesLE 2 frame.length ++ bytesLE 1 n ++ bytesLE 1 0 ++ bytesLE 4 (ofSigned 32 x.sec) ++ bytesLE 4 x.ns
      ++ bytesLE 2 x.frac ++ bytesLE 1 4 ++ bytesLE 1 0
    let a := addrReg s 0 Reg.pkt_EXC_RX_LO_ADDR Reg.pkt_EXC_RX_HI_ADDR + 2048 * wr
    raise .pkt 0 5 ((dramWrite 0 a (head ++ frame.take 2032) s).set 0 Reg.pkt_EXC_RX_IDX_WR nx)

/-! ### Decoder records (R274, R275, R380) -/

/-- A record's bytes. -/
def flowRecBytes (x : FlowRec) : List Byte :=
  let ok := x.stampOk && !x.stampBad
  let head := bytesLE 2 1 ++ bytesLE 1 (bit x.marker + 2 * bit x.loss + 4 * bit ok + 8 * bit x.stampBad) ++ bytesLE 1 0
    ++ bytesLE 4 x.bytes.length ++ bytesLE 4 x.ts
  let sflags := leAt x.stamp 6 2
  let fields := if ok then x.stamp.take 6 ++ bytesLE 2 (if x.repeated ∧ !getBit sflags 2 then sflags + 4 else sflags) ++ bytesLE 4 0
      ++ (x.stamp.drop 14).take 16
    else List.replicate 28 0
  let b := head ++ fields ++ x.arrival.encode ++ bytesLE 8 0 ++ x.bytes
  padTo (roundTo 64 b.length) b

/-- Write a record into the input ring of decode context `c`, if it has room (R275). -/
def decAppend (c : Nat) (b : List Byte) (s : State) : Option State :=
  let size := inUnits s c
  let wr := dget s c Reg.dec_CTX_IN_WR_OFFSET
  let rd := dget s c Reg.dec_CTX_IN_RD_OFFSET
  let need := b.length / 64
  let used := (wr + size - rd) % max 1 size
  let wraps := decide (size < wr + need)
  let skip := if wraps then size - wr else 0
  if dget s c Reg.dec_CTX_CFG_SRC ≠ 1 ∨ size < used + skip + need + 1 then none
  else
    let s := if wraps then dramWrite 0 (inAddr s c wr) (List.replicate 64 0) s else s
    let p := if wraps then 0 else wr
    let s := dramWrite 0 (inAddr s c p) b s
    some (refreshDec (c / 32) (dset c Reg.dec_CTX_IN_WR_OFFSET ((p + need) % max 1 size) s))

/-- The record in progress of a flow ends. -/
def recordEnd (f : Nat) (s : State) : State :=
  let x := s.flow f
  match x.record with
  | none => s
  | some r =>
    let s := s.setFlow f { x with record := none }
    match decAppend (fget s f Reg.pkt_F_CFG_TARGET) (flowRecBytes r) s with
    | some s => s
    | none => s.setFlow f { s.flow f with loss := true }

/-- Check the stamp of a slice that has been reassembled (R352): whether it matches, whether ALIVE repeats, and the state. -/
def stampCheck (f : Nat) (stamp slice : List Byte) (s : State) : Option (Bool × Bool) × State :=
  match unitFor s 2 f with
  | none => (none, s)
  | some u =>
    let crc := crc32c slice
    let ok := crc == leAt stamp 10 4
    let alive := leAt stamp 4 2
    let zero := leAt stamp 8 2 == 0
    let repeated := ok && zero && (s.chk u).had && kget s u Reg.chk_CHKU_ALIVE_ALIVE == alive
    let s := kset u Reg.chk_CHKU_LAST_CRC crc s
    let s := kset u Reg.chk_CHKU_COUNTS_DONE (kget s u Reg.chk_CHKU_COUNTS_DONE + 1) s
    let s :=
      if ok then
        if zero then (kset u Reg.chk_CHKU_ALIVE_ALIVE alive s).setChk u { s.chk u with had := true } else s
      else logError .chk 0 0x0A u (chkEvent u 0 (kset u Reg.chk_CHKU_COUNTS_FAIL (kget s u Reg.chk_CHKU_COUNTS_FAIL + 1) s))
    (some (ok, repeated), if repeated then chkEvent u 1 s else s)

/-- A whole NAL unit of a flow joins its record, with a start code of four bytes (log 65). -/
def flowNal (f : Nat) (avc : Bool) (ts : Nat) (arrival : Instant) (marker : Bool) (nal : List Byte) (s : State) : State :=
  let x := s.flow f
  let b : List Byte := [0, 0, 0, 1] ++ nal
  let r : FlowRec := x.record.getD { loss := x.loss, ts := ts, arrival := arrival, bytes := [], marker := false, stampOk := false,
                                     stampBad := false, stamp := [], repeated := false }
  let r := { r with bytes := r.bytes ++ b, marker := marker }
  let x := { x with loss := if x.record.isNone then false else x.loss, record := some r, slice := x.slice ++ b }
  let s := s.setFlow f x
  match x.stamp with
  | none => s
  | some st =>
    if nalKind avc ((nal.headD 0).toNat) ≠ 0 then s
    else
      let (res, s) := stampCheck f st x.slice s
      let r := match res with
        | none => r
        | some (ok, rep) =>
          { r with stampOk := r.stampOk || ok, stampBad := r.stampBad || !ok,
                   stamp := if ok && !r.stampOk then st else r.stamp, repeated := r.repeated || rep }
      s.setFlow f { s.flow f with record := some r, stamp := none, slice := [] }

/-- Data of a flow is missing: a NAL unit in fragments is discarded, and the next record carries LOSS (R380, R274). -/
def flowGap (f : Nat) (s : State) : State :=
  s.setFlow f { s.flow f with frag := none, loss := true, stamp := none, slice := [] }

/-- The NAL units of an aggregation packet. -/
def apUnits : Nat → List Byte → List (List Byte)
  | 0, _ => []
  | k + 1, l =>
    if l.length < 3 then []
    else ((l.drop 2).take (beAt l 0 2)) :: apUnits k (l.drop (2 + beAt l 0 2))

/-- A packet of a flow that feeds a decoder (R380): `more` says whether more of its timestamp is queued. -/
def depacketise (f : Nat) (p : FlowPkt) (more : Bool) (s : State) : State :=
  let avc := dget s (fget s f Reg.pkt_F_CFG_TARGET) Reg.dec_CTX_CFG_CODEC == 1
  let ts := rtpTs p.data
  let marker := rtpMarker p.data
  let l := rtpPayload p.data
  let s := match (s.flow f).record with
    | some r => if r.ts ≠ ts then recordEnd f s else s
    | none => s
  let s := match rtpStamp p.data with
    | some st => s.setFlow f { s.flow f with stamp := some st, slice := [] }
    | none => s
  let h := if avc then 1 else 2
  let b0 := beAt l 0 1
  let ty := if avc then b0 % 32 else b0 / 2 % 64
  let fu := if avc then ty == 28 else ty == 49
  let ap := if avc then ty == 24 else ty == 48
  let whole := if avc then decide (1 ≤ ty) && decide (ty ≤ 23) else decide (ty < 48)
  let s := if !fu ∧ (s.flow f).frag.isSome then flowGap f s else s
  let add := fun (nals : List (List Byte)) (at_ : Instant) (s : State) =>
    let s := forEach nals (flowNal f avc ts at_ marker) s
    if nals = [] ∨ more then s else recordEnd f s
  if l.length ≤ h then s
  else if whole then add [l] p.arrival s
  else if ap then add (apUnits l.length (l.drop h)) p.arrival s
  else if fu then
    let fh := beAt l h 1
    let body := l.drop (h + 1)
    let start := fh / 128 == 1
    let stop := fh / 64 % 2 == 1
    let s := if start ∧ (s.flow f).frag.isSome then flowGap f s else s
    let head : List Byte :=
      if avc then bytesBE 1 (b0 / 32 * 32 + fh % 32) else bytesBE 1 (b0 / 128 * 128 + (fh % 64) * 2 + b0 % 2) ++ (l.drop 1).take 1
    let x := s.flow f
    let cur := if start then some (head ++ body, p.arrival) else x.frag.map (fun g => (g ++ body, x.fragAt))
    match cur with
    | none => flowGap f s
    | some (g, at_) =>
      if stop then add [g] at_ (s.setFlow f { x with frag := none })
      else s.setFlow f { x with frag := some g, fragAt := at_ }
  else flowGap f s

/-! ### Jitter buffers (R379) -/

/-- A packet leaves the jitter buffer. -/
def flowLeave (f : Nat) (p : FlowPkt) (s : State) : State :=
  let tgt := fget s f Reg.pkt_F_CFG_TARGET
  match fget s f Reg.pkt_F_CFG_TARGET_TYPE with
  | 0 => depacketise f p ((s.flow f).held.any (fun q => rtpTs q.data == rtpTs p.data)) s
  | 1 => audReceive tgt (rtpTs p.data) (rtpPayload p.data) s
  | _ => excReceive p.port p.frame p.arrived s

/-- Packets that are next in sequence leave. -/
def flowRun (f : Nat) : Nat → State → State
  | 0, s => s
  | k + 1, s =>
    let x := s.flow f
    match x.held with
    | [] => s
    | p :: rest =>
      if x.expect = some p.seq then
        flowRun f k (flowLeave f p (s.setFlow f { x with held := rest, expect := some ((p.seq + 1) % 65536) }))
      else s

/-- The numbers before the first held packet are lost (R379). -/
def flowLost (f : Nat) (s : State) : State :=
  let x := s.flow f
  match x.held with
  | [] => s
  | p :: _ =>
    let s := flowGap f (s.setFlow f { x with expect := some p.seq })
    flowEvent f 3 (finc f Reg.pkt_F_COUNTS_LOST s)

/-- Bytes that a flow holds. -/
def heldBytes (x : Flow) : Nat := x.held.foldl (fun a p => a + p.data.length) 0

/-- A full jitter buffer forces its oldest packets out. -/
def flowOverflow (f : Nat) : Nat → State → State
  | 0, s => s
  | k + 1, s =>
    let x := s.flow f
    match x.held with
    | [] => s
    | _ :: _ =>
      if heldBytes x ≤ 1024 * fget s f Reg.pkt_F_JB_CFG_SIZE_KIB then s
      else
        let s := finc f Reg.pkt_F_COUNTS_OVERFLOW (flowLost f s)
        flowOverflow f k (flowRun f (x.held.length + 1) s)

/-- Place a packet by its distance from the next expected number. -/
def holdPkt (e : Nat) (p : FlowPkt) : List FlowPkt → List FlowPkt
  | [] => [p]
  | q :: t =>
    if (p.seq + 65536 - e) % 65536 < (q.seq + 65536 - e) % 65536 then p :: q :: t else q :: holdPkt e p t

/-- Resynchronise a flow: its buffer is emptied, and the next packet sets the expectation. -/
def flowResync (f : Nat) (s : State) : State :=
  let s := flowGap f (s.setFlow f { s.flow f with held := [], expect := none })
  flowEvent f 4 (showFlow f (finc f Reg.pkt_F_COUNTS_RESYNC s))

/-- How far a sequence number lies past the expected one, modulo 65536 (R379). -/
def flowDelta (s : State) (f seq : Nat) : Int :=
  match (s.flow f).expect with
  | some e => toSigned 16 ((seq + 65536 - e) % 65536)
  | none => 0

/-- A packet that is no jump leaves in sequence, counts as late, or is held. -/
def flowPlace (f : Nat) (p : FlowPkt) (d : Int) (s : State) : State :=
  let x := s.flow f
  let e := x.expect.getD p.seq
  if p.seq = e then
    let s := s.setFlow f { x with expect := some ((e + 1) % 65536) }
    flowRun f (x.held.length + 1) (flowLeave f p s)
  else if d < 0 ∨ x.held.any (fun q => q.seq == p.seq) then finc f Reg.pkt_F_COUNTS_LATE_DUP s
  else flowOverflow f (x.held.length + 1) (s.setFlow f { x with held := holdPkt e p x.held })

/-- A packet arrives for a flow. -/
def flowPacket (f : Nat) (p : FlowPkt) (s : State) : State :=
  let d := flowDelta s f p.seq
  showFlow f (flowPlace f p d (if d < -1000 ∨ 1000 < d then flowResync f s else s))

/-- The expected packet has not arrived DELAY_US after a later one; so long as that holds, numbers are declared lost. -/
def flowTimeout (f : Nat) (t : Time) : Nat → State → State
  | 0, s => s
  | k + 1, s =>
    let x := s.flow f
    let due := x.held.any (fun p => decide (p.arrived + usT (fget s f Reg.pkt_F_JB_CFG_DELAY_US) ≤ t))
    if due then flowTimeout f t k (flowRun f (x.held.length + 1) (flowLost f s)) else showFlow f s

/-! ### Reception (R362, R376, R378) -/

/-- What a received frame is to the packet engine. -/
inductive RxClass where
  | bad
  | ptp
  | flow (f : Nat) (x : UdpRx)
  | command (x : UdpRx)
  | exception
deriving DecidableEq, Repr

/-- The flow of a datagram: the lowest-numbered enabled one that matches (R378). -/
def flowOf (s : State) (n : Nat) (x : UdpRx) : Option Nat :=
  let own := if x.v6 then s.get n (Reg.net_IPV6_ADDR.at 12) else s.get n Reg.net_IPV4_ADDR
  let last := fun (l : List Byte) => natBE (l.drop (l.length - 4))
  (List.range 128).find? (fun f =>
    fget s f Reg.pkt_F_CFG_EN == 1 && fget s f Reg.pkt_F_CFG_PORT == n && fget s f Reg.pkt_F_CFG_IPV6 == bit x.v6
      && fget s f Reg.pkt_F_UDP_DST_PORT == x.dport
      && last x.dst == (if fget s f Reg.pkt_F_GROUP_VALUE = 0 then own else fget s f Reg.pkt_F_GROUP_VALUE)
      && (fget s f Reg.pkt_F_CFG_SRC_EN == 0 || fget s f Reg.pkt_F_SRC_VALUE == last x.src)
      && (fget s f Reg.pkt_F_CFG_SSRC_EN == 0
        || (decide (12 ≤ x.data.length) && fget s f Reg.pkt_F_SSRC_VALUE == rtpSsrc x.data)))

/-- Classify a frame that port `n` receives; `fcs` says that its FCS is right. -/
def classify (s : State) (n : Nat) (fcs : Bool) (frame : List Byte) : RxClass :=
  let mtu := s.get n Reg.net_CFG_MTU
  if !fcs then .bad
  else
    match readFrame mtu frame with
    | .bad => .bad
    | .other => if (ptpOf mtu frame).isSome then .ptp else .exception
    | .udp x =>
      if (ptpOf mtu frame).isSome then .ptp
      else
        match flowOf s n x with
        | some f => if x.data.length < 12 then .bad else .flow f x
        | none => if !x.v6 ∧ x.dport = s.get 0 Reg.pkt_CMD_CFG_UDP_PORT then .command x else .exception

/-- A frame with an error is discarded and counted. -/
def rxBad (n : Nat) (s : State) : State := s.inc n Reg.net_COUNTS_RX_BAD

/-- A frame that matches a flow arrives. -/
def flowReceive (n : Nat) (fcs : Bool) (frame : List Byte) (t : Time) (s : State) : State :=
  if !linkUp s n then s
  else
    match classify s n fcs frame with
    | .bad => rxBad n s
    | .flow f x =>
      let dom := fget s f Reg.pkt_F_CFG_DOMAIN
      flowPacket f { seq := rtpSeq x.data, arrived := t, arrival := ⟨dom, clockAt s dom t⟩, port := n, frame := frame, data := x.data } s
    | _ => s

/-- A frame that matches nothing arrives (R376). -/
def otherReceive (n : Nat) (fcs : Bool) (frame : List Byte) (t : Time) (s : State) : State :=
  if !linkUp s n then s
  else
    match classify s n fcs frame with
    | .bad => rxBad n s
    | .exception => excReceive n frame t s
    | _ => s

/-! ### Links (R363, R383) -/

/-- The flows of a port resynchronise. -/
def portFlows (n : Nat) (s : State) : State :=
  forEach ((List.range 128).filter (fun f => fget s f Reg.pkt_F_CFG_EN == 1 && fget s f Reg.pkt_F_CFG_PORT == n)) flowResync s

/-- A port's link is gone: what it was sending has ended. -/
def linkLost (n st : Nat) (s : State) : State :=
  let s := ((s.set n Reg.net_STATUS_LINK 0).set n Reg.net_STATUS_FEC_LOCK 0).setState .net n st
  pickAll s.now (portFlows n (sendDone n s))

/-- The link goes down. -/
def netDown (n : Nat) (s : State) : State :=
  if !linkUp s n then s
  else logError .net n 0x14 0 (raise .net n 1 (linkLost n 1 (s.inc n Reg.net_STATUS_LINK_DOWNS)))

/-- The link comes up. -/
def netUp (n : Nat) (s : State) : State :=
  if linkUp s n ∨ !s.enabled .net n then s
  else
    let fec := s.get n Reg.net_CFG_FEC == 1 && s.get n Reg.net_CFG_SPEED == 0
    let s := ((s.set n Reg.net_STATUS_LINK 1).set n Reg.net_STATUS_FEC_LOCK (bit fec)).setState .net n 2
    pickAll s.now (raise .net n 0 s)

/-- ENABLE = 1: the port waits for its link. -/
def netEnable (n : Nat) (s : State) : State := if s.stateOf .net n = 0 then s.setState .net n 1 else s

/-- ENABLE = 0. -/
def netDisable (n : Nat) (s : State) : State := if linkUp s n then linkLost n 0 s else s.setState .net n 0

/-! ### Register writes -/

/-- TARGET outside its range (R385). -/
def badTarget (cfg : Nat) : Bool :=
  match cfg / 2 ^ 26 % 4 with
  | 0 => decide (64 ≤ cfg % 128)
  | 1 => decide (16 ≤ cfg % 128)
  | _ => false

/-- A write of F_CFG (R385). -/
def writeFlowCfg (origin f : Nat) (v : Word) (s : State) : State :=
  let was := fget s f Reg.pkt_F_CFG
  let keep := 0x7F00077F
  let off := 0x1040 + flowOff f
  if getBit was 31 ∧ (v.toNat &&& keep) ≠ (was &&& keep) then logAccess .pkt 0 0x10 origin off 0 s
  else if badTarget v.toNat then logAccess .pkt 0 0x01 origin off 0 s
  else
    let on := getBit v.toNat 31
    let s := fset f Reg.pkt_F_CFG ((v.toNat &&& keep) + 2 ^ 31 * bit on) s
    if on = getBit was 31 then s else showFlow f (s.setFlow f Flow.reset)

/-! ### Commands -/

/-- NET_LINK_DOWN (R363). -/
def execNetLinkDown (n : Fin 4) (t : Time) (s : State) : Host.Outcome State Fault Refusal := .next (netDown n.val (s.at t))

/-- NET_LINK_UP (R363). -/
def execNetLinkUp (n : Fin 4) (t : Time) (s : State) : Host.Outcome State Fault Refusal := .next (netUp n.val (s.at t))

/-- FLOW_PACKET (R378-R380). -/
def execFlowPacket (n : Fin 4) (fcs : Bool) (frame : List Byte) (t : Time) (s : State) : Host.Outcome State Fault Refusal :=
  .next (flowReceive n.val fcs frame t (s.at t))

/-- FLOW_LOSS (R379). -/
def execFlowLoss (f : Fin 128) (t : Time) (s : State) : Host.Outcome State Fault Refusal :=
  .next (flowTimeout f.val t ((s.flow f.val).held.length + 1) (s.at t))

/-- EXCEPTION_RX (R376). -/
def execExceptionRx (n : Fin 4) (fcs : Bool) (frame : List Byte) (t : Time) (s : State) : Host.Outcome State Fault Refusal :=
  .next (otherReceive n.val fcs frame t (s.at t))

end Sys2Proof.Machine
end

