-- ==== Sys2Proof/Machine/Clocks.lean ====
section
/-! DEFINITION. Time domains (R388-R409): rate, slew and step, measurement intervals, path change, hold and holdover, snapshots
and the timing pins. -/

namespace Sys2Proof.Machine

def State.clk (s : State) (d : Nat) : Clock := Tbl.get Clock.reset s.clocks d

def State.setClk (s : State) (d : Nat) (c : Clock) : State := { s with clocks := Tbl.put Clock.reset d c s.clocks }

/-- A number of ns to the nearest, from units of 2^-16 ns. -/
def nearestNs (x : Int) : Int := (x + 32768) / 65536

/-- Saturating signed 32-bit code. -/
def sat32 (x : Int) : Nat := satSigned 32 x

/-- The committed RATE in units of 2^-48 ns per ns (R389). -/
def rateOf (s : State) (d : Nat) : Int := toSigned 40 (s.get d Reg.time_RATE_LO_RATE + 2 ^ 32 * s.get d Reg.time_RATE_HI_RATE)

/-- The staged RATE is within 1,000 ppm (R408). -/
def rateStagedOk (s : State) (d : Nat) : Bool :=
  let r := toSigned 40 (s.getS d Reg.time_RATE_LO_RATE + 2 ^ 32 * s.getS d Reg.time_RATE_HI_RATE)
  decide (-281474976711 ≤ r) && decide (r ≤ 281474976711)

/-- Replace a domain's slew by `ns` from `t` on (R391, R402). -/
def loadSlew (d : Nat) (ns : Int) (t : Time) (s : State) : State :=
  let c := (s.clk d).rebase t
  let s := s.setClk d { c with slewLeft := ns * two64, slewRate := s.get d Reg.time_SLEW_RATE_NS_PER_S, slewFrozen := false }
  s.set d Reg.time_STATUS_SLEWING (bit (ns != 0))

/-- Discard the remaining slew. -/
def dropSlew (d : Nat) (t : Time) (s : State) : State :=
  (s.setClk d { (s.clk d).rebase t with slewLeft := 0, slewFrozen := false }).set d Reg.time_STATUS_SLEWING 0

/-- Freeze or resume the remaining slew (R404). -/
def freezeSlew (d : Nat) (f : Bool) (t : Time) (s : State) : State :=
  s.setClk d { (s.clk d).rebase t with slewFrozen := f }

/-- Show SLEW_LEFT and HOLD_LEFT_S at `t`. -/
def showTime (d : Nat) (t : Time) (s : State) : State :=
  let left := (s.clk d).left t
  let ns := if left ≥ 0 then (left + two64 - 1) / two64 else -((-left + two64 - 1) / two64)
  let hold := if s.stateOf .time d = 3 then ((s.dom d).holdEnd - clockAt s d t + secUnits - 1) / secUnits else 0
  (s.set d Reg.time_SLEW_LEFT_NS (sat32 ns)).set d Reg.time_STATUS_HOLD_LEFT_S (clampI 0 255 hold).toNat

/-! ### Commits (R391, R394) -/

/-- A domain leaves HOLD or HOLDOVER for TRACKING: a commit that is pending is rejected (R394). -/
def toTracking (d : Nat) (s : State) : State :=
  let s := (s.setState .time d 2).setDom d { s.dom d with silent := 0, lossHold := false }
  if (s.hdr .time d).pendingCommit then commitReject .time d 0x10 0 s else s

/-- Both copies of SLEW read 0. -/
def clearSlew (d : Nat) (s : State) : State := (s.set d Reg.time_SLEW_NS 0).setS d Reg.time_SLEW_NS 0

/-- Apply a TIME commit at a boundary (R391, R393). -/
def applyTime (d : Nat) (t : Time) (s : State) : State :=
  let s := applyGroup .time d s
  let c := (s.clk d).rebase t
  let s := s.setClk d { c with rate := rateOf s d, slewRate := s.get d Reg.time_SLEW_RATE_NS_PER_S }
  let ns := toSigned 32 (s.get d Reg.time_SLEW_NS)
  let s := if ns = 0 then s else clearSlew d (loadSlew d ns t s)
  let on := s.enabled .time d
  let s :=
    if on ∧ s.stateOf .time d = 0 then s.setState .time d 1
    else if !on ∧ s.stateOf .time d ≠ 0 then
      ((dropSlew d t s).setDom d TimeDom.reset).set d Reg.time_STATUS_ASYM 0 |>.setState .time d 0
    else s
  commitDone .time d s

/-- The boundary of a commit. -/
def timeBoundary (d : Nat) (t : Time) (s : State) : State :=
  let h := s.hdr .time d
  if !(h.pendingCommit && h.checked) then s
  else if 3 ≤ s.stateOf .time d then commitDefer .time d 0x07 s
  else applyTime d t s

/-! ### Path change and loss (R400-R404) -/

/-- A mean in ns of `n` values whose doubled sum is `x`. -/
def meanNs (x : Int) (n : Nat) : Int := roundUp x (2 * n * 65536)

/-- Whether the cross-check is available (R402). -/
def xcheckOk (s : State) (d : Nat) : Bool :=
  s.get d Reg.time_CFG_XC_EN == 1 && s.stateOf .time (s.get d Reg.time_CFG_XCHECK) == 2

/-- MEAS_OFFSET. -/
def measOffset (s : State) (d : Nat) : Int := toSigned 32 (s.get d Reg.time_MEAS_OFFSET_NS)

/-- X of R402 at `t`, and the state that reports it. -/
def crossCheck (d : Nat) (t : Time) (s : State) : Nat × State :=
  let delta := nearestNs (clockAt s d t - clockAt s (s.get d Reg.time_CFG_XCHECK) t)
  let x := (measOffset s d - delta).natAbs
  (x, s.setSat d Reg.time_XCHECK_DIFF_NS x)

/-- Back to TRACKING with a slew of -O, without the alarm (R403). -/
def asymClear (d : Nat) (t : Time) (s : State) : State :=
  let s := loadSlew d (-(measOffset s d)) t (s.set d Reg.time_STATUS_ASYM 0)
  raise .time d 4 (toTracking d s)

/-- The measurements of the interval that ends (R400). -/
def takeMeasures (d : Nat) (s : State) : State :=
  let m := s.dom d
  let s := if m.mpdCount = 0 then s else s.set d Reg.time_MEAS_MPD_NS (sat32 (meanNs m.mpdSum m.mpdCount))
  if m.offCount = 0 then s else s.set d Reg.time_MEAS_OFFSET_NS (sat32 (meanNs m.offSum m.offCount))

/-- Start a new interval. -/
def newInterval (d : Nat) (s : State) : State :=
  let m := s.dom d
  s.setDom d { m with mpdSum := 0, mpdCount := 0, offSum := 0, offCount := 0, syncs := 0, hadMpd := m.mpdCount != 0,
                      hadSync := m.syncs != 0, silent := if m.syncs = 0 then m.silent + 1 else 0 }

/-- The path delay of two consecutive intervals differs beyond the threshold (R401). -/
def pathChanged (before after : State) (d : Nat) : Bool :=
  let m := before.dom d
  let old := toSigned 32 (before.get d Reg.time_MEAS_MPD_NS)
  let new := toSigned 32 (after.get d Reg.time_MEAS_MPD_NS)
  m.hadMpd && m.mpdCount != 0 && decide ((new - old).natAbs > before.get d Reg.time_PATH_CFG_PATH_THR_NS)

/-- When a hold that starts at `t` ends. -/
def holdUntil (s : State) (d : Nat) (t : Time) : Int := clockAt s d t + s.get d Reg.time_PATH_CFG_HOLD_S * secUnits

/-- The states of a slave domain at an interval's end (R401, R403, R404). -/
def judgeInterval (d : Nat) (t : Time) (s : State) : State :=
  let s0 := s
  let heard := (s.dom d).syncs != 0
  let s := newInterval d (takeMeasures d s)
  match s.stateOf .time d with
  | 2 =>
    if pathChanged s0 s d then
      let s := s.setDom d { s.dom d with holdEnd := holdUntil s d t }
      raise .time d 2 ((dropSlew d t (s.inc d Reg.time_COUNTS_PATH_HOLDS)).setState .time d 3)
    else if s.get d Reg.time_PATH_CFG_LOSS_INTERVALS ≤ (s.dom d).silent then
      let s := s.setDom d { s.dom d with lossHold := true }
      raise .time d 5 ((freezeSlew d true t (s.inc d Reg.time_COUNTS_LOSS_HOLDOVERS)).setState .time d 4)
    else s
  | 3 => if pathChanged s0 s d then s.setDom d { s.dom d with holdEnd := holdUntil s d t } else s
  | 4 =>
    if s.get d Reg.time_STATUS_ASYM = 1 then
      if !xcheckOk s d then s
      else
        let (x, s) := crossCheck d t s
        if x ≤ s.get d Reg.time_PATH_CFG_PATH_THR_NS then asymClear d t s else s
    else if (s.dom d).lossHold ∧ heard then raise .time d 6 (toTracking d (freezeSlew d false t s))
    else s
  | _ => s.setDom d { s.dom d with silent := 0 }

/-- The end of a measurement interval (R391, R400). -/
def domIntervalEnd (d : Nat) (t : Time) (s : State) : State :=
  timeBoundary d t (if measures s d then judgeInterval d t s else s)

/-- The end of a hold (R402). -/
def holdEnds (d : Nat) (t : Time) (s : State) : State :=
  if s.stateOf .time d ≠ 3 ∨ clockAt s d t < (s.dom d).holdEnd then s
  else if !(s.dom d).hadSync then
    raise .time d 5 ((s.setDom d { s.dom d with lossHold := true }).setState .time d 4)
  else
    let absorb := fun (s : State) => raise .time d 6 (toTracking d (loadSlew d (-(measOffset s d)) t s))
    if !xcheckOk s d then absorb s
    else
      let (x, s) := crossCheck d t s
      if x > s.get d Reg.time_PATH_CFG_PATH_THR_NS then
        raise .time d 3 ((s.set d Reg.time_STATUS_ASYM 1).setState .time d 4)
      else absorb s

/-- The remaining slew reaches zero (R391). -/
def slewDone (d : Nat) (t : Time) (s : State) : State :=
  if s.get d Reg.time_STATUS_SLEWING = 1 ∧ !(s.clk d).slewFrozen ∧ (s.clk d).left t = 0 then
    raise .time d 1 ((s.setClk d ((s.clk d).rebase t)).set d Reg.time_STATUS_SLEWING 0)
  else s

/-! ### CMD (R392, R403, R407) -/

/-- The step that the STEP registers hold, in units of 2^-64 ns. -/
def stepOf (s : State) (d : Nat) : Int :=
  let sec := toSigned 48 (s.get d Reg.time_STEP_SEC_LO_SEC + 2 ^ 32 * (s.get d Reg.time_STEP_SEC_HI_SEC % 65536))
  (sec * 1000000000 + toSigned 32 (s.get d Reg.time_STEP_NS_NS)) * two64

/-- CMD.STEP in FREE (R392, R415). -/
def stepClock (d : Nat) (t : Time) (s : State) : State :=
  let c := (s.clk d).rebase t
  let s := s.setClk d { c with v0 := c.v0 + stepOf s d }
  let s := (s.setState .time d 2).setDom d { s.dom d with silent := 0 }
  let s := raise .time d 0 (s.set d Reg.time_STATUS_STEPPED 1)
  match s.trigger with
  | some g => if g.dom = d then trigReached t s else s
  | none => s

/-- CMD.SNAP: every clock at one instant into its page's SNAP registers (R407). -/
def snapClocks (t : Time) (s : State) : State :=
  let one := fun (d : Nat) (lo hi ns fr : Fld) (n : Nat) (s : State) =>
    let x : Instant := ⟨d, clockAt s d t⟩
    (((s.set n lo (ofSigned 32 x.sec)).set n hi (ofSigned 48 x.sec / 2 ^ 32)).set n ns x.ns).set n fr x.frac
  let s := forEach (List.range 4) (fun d s =>
    one d Reg.time_SNAP_SEC_LO_VALUE Reg.time_SNAP_SEC_HI_VALUE Reg.time_SNAP_NS_VALUE Reg.time_SNAP_FRAC_VALUE d s) s
  one 4 Reg.timel_SNAP_SEC_LO_VALUE Reg.timel_SNAP_SEC_HI_VALUE Reg.timel_SNAP_NS_VALUE Reg.timel_SNAP_FRAC_VALUE 0 s

/-- A write of TIMEn.CMD. -/
def writeTimeCmd (origin d : Nat) (v : Word) (s : State) : State :=
  let s :=
    if !getBit v.toNat 0 then s
    else if s.stateOf .time d ≠ 1 then logAccess .time d 0x10 origin 0x64 0 s
    else stepClock d s.now s
  let s :=
    if !getBit v.toNat 1 then s
    else if s.stateOf .time d = 4 ∧ s.get d Reg.time_STATUS_ASYM = 1 then asymClear d s.now s
    else logAccess .time d 0x10 origin 0x64 0 s
  if getBit v.toNat 2 then snapClocks s.now s else s

/-- A write of TIMEL.CMD (R409). -/
def writeTimelCmd (origin : Nat) (v : Word) (s : State) : State :=
  let s := if getBit v.toNat 0 ∨ getBit v.toNat 1 then logAccess .timel 0 0x10 origin 0x64 0 s else s
  if getBit v.toNat 2 then snapClocks s.now s else s

/-- XCHECK names this domain with XC_EN = 1, or none (R408). -/
def badXcheck (d cfg : Nat) : Bool := decide (4 ≤ cfg / 2 ^ 28 % 8) || (getBit cfg 27 && cfg / 2 ^ 28 % 8 == d)

/-! ### Pins (R405, R406) -/

/-- An edge of TIME_PPS_IN. -/
def ppsInEdge (t : Time) (s : State) : State :=
  if s.ppsIn ≠ 0 ∧ t + 1 < s.ppsIn + nsT 100 then s
  else
    let s := { s with ppsIn := t + 1 }
    let one := fun (d : Nat) (sec ns : Fld) (n : Nat) (s : State) =>
      let x : Instant := ⟨d, clockAt s d t⟩
      (s.set n sec (ofSigned 32 x.sec)).set n ns x.ns
    let s := forEach (List.range 4) (fun d s => one d Reg.time_PPS_IN_SEC_VALUE Reg.time_PPS_IN_NS_VALUE d s) s
    raise .timel 0 10 (one 4 Reg.timel_PPS_IN_SEC_VALUE Reg.timel_PPS_IN_NS_VALUE 0 s)

/-- TIME_PPS_OUT rises at a whole second, never within PPS_WIDTH_MS of its previous edge. -/
def ppsOutRise (t : Time) (s : State) : State :=
  if s.get 0 Reg.timel_IO_CFG_PPS_EN = 0 ∨ (s.ppsRise ≠ 0 ∧ t + 1 < s.ppsRise + msT (s.get 0 Reg.timel_IO_CFG_PPS_WIDTH_MS)) then s
  else { s with ppsRise := t + 1, pins := { s.pins with ppsOut := true } }

/-- TIME_PPS_OUT falls. -/
def ppsOutFall (s : State) : State := { s with pins := { s.pins with ppsOut := false } }

/-- A write of IO_CFG: a disabled output is driven low. -/
def refreshPps (s : State) : State := if s.get 0 Reg.timel_IO_CFG_PPS_EN = 0 then ppsOutFall s else s

/-! ### PTP frames -/

/-- The PTP frame that a port holds for domain `d` departs (R398, R399). -/
def ptpLeaves (d : Nat) (t : Time) (s : State) : State :=
  match (List.range 4).find? (fun n => (s.net n).sending == .ptp d) with
  | some n => ptpDepart d n t (s.setNet n { s.net n with sending := .frame })
  | none => s

/-- A PTP message arrives. -/
def ptpArrives (n : Nat) (fcs : Bool) (frame : List Byte) (t : Time) (s : State) : State :=
  if !linkUp s n then s
  else
    match classify s n fcs frame with
    | .bad => rxBad n s
    | .ptp => ptpReceive n frame t s
    | _ => s

/-! ### Commands -/

/-- MEASUREMENT_INTERVAL (R391, R400). -/
def execMeasurementInterval (d : Fin 4) (t : Time) (s : State) : Host.Outcome State Fault Refusal := .next (domIntervalEnd d.val t (s.at t))

/-- HOLD_END (R402). -/
def execHoldEnd (d : Fin 4) (t : Time) (s : State) : Host.Outcome State Fault Refusal := .next (holdEnds d.val t (s.at t))

/-- SLEW_DONE (R391). -/
def execSlewDone (d : Fin 4) (t : Time) (s : State) : Host.Outcome State Fault Refusal := .next (slewDone d.val t (s.at t))

/-- PTP_RX (R396). -/
def execPtpRx (n : Fin 4) (fcs : Bool) (frame : List Byte) (t : Time) (s : State) : Host.Outcome State Fault Refusal :=
  .next (ptpArrives n.val fcs frame t (s.at t))

/-- PTP_TX_DEPART (R399). -/
def execPtpTxDepart (d : Fin 4) (t : Time) (s : State) : Host.Outcome State Fault Refusal := .next (ptpLeaves d.val t (s.at t))

/-- PPS_IN (R405). -/
def execPpsIn (t : Time) (s : State) : Host.Outcome State Fault Refusal := .next (ppsInEdge t (s.at t))

/-- PPS_OUT_EDGE (R406). -/
def execPpsOutEdge (t : Time) (s : State) : Host.Outcome State Fault Refusal := .next (ppsOutRise t (s.at t))

/-- PPS_OUT_END (R406). -/
def execPpsOutEnd (t : Time) (s : State) : Host.Outcome State Fault Refusal := .next (ppsOutFall (s.at t))

end Sys2Proof.Machine
end

