-- ==== Sys2Proof/Machine/Operands.lean ====
section
/-! DEFINITION. The operand forms of register accesses: how an access of any size and alignment is taken register by
register (R23), and where a window offset lies on its page (R22, R24). -/

namespace Sys2Proof.Machine

/-- The register addresses that an access of `n` bytes from `a` touches, ascending (R23). -/
def touched (a n : Nat) : List Nat :=
  if n = 0 then [] else (List.range ((a + n - 1) / 4 + 1 - a / 4)).map (fun i => 4 * (a / 4 + i))

/-- The words of a write that covers whole registers, with their addresses, ascending (R23). -/
def wordsFrom (a : Nat) : List Byte → List (Nat × Word)
  | b0 :: b1 :: b2 :: b3 :: t => (a, BitVec.ofNat 32 (natLE [b0, b1, b2, b3])) :: wordsFrom (a + 4) t
  | _ => []

/-- Whether a window offset lies in the page header (R21, R22). -/
def inHeader (off : Nat) : Bool := off % 0x1000 < 0x40

/-- Bytes `lo` to `lo + n - 1` of the little-endian bytes of consecutive register words. -/
def wordsBytes (l : List Word) (lo n : Nat) : List Byte := ((l.flatMap (fun w => bytesLE 4 w.toNat)).drop lo).take n

end Sys2Proof.Machine
end

