-- ==== Sys2Proof/Machine/Flags.lean ====
section
/-! DEFINITION. The status words of the page header as a read returns them (R24): every flag and field a header computes
from the state of its instance. -/

namespace Sys2Proof.Machine

/-- PAGE_CTRL: ENABLE reads the staged value on a page with RWS fields (R536); SOFT_RESET is self-clearing. -/
def pageCtrlWord (b : Block) (h : Header) : Word :=
  BitVec.ofNat 32 (bit (if blkStaged b then h.enableStaged else h.enable) + 4 * bit h.frozen)

/-- PAGE_STATUS: ERR_PAGE, ERR_LOST, ERR, BUSY and STATE. -/
def pageStatusWord (h : Header) : Word :=
  BitVec.ofNat 32 (h.state % 16 + 16 * bit h.busy + 32 * bit (h.errCode ≠ 0) + 64 * bit h.errLost + 256 * (h.errPage % 16))

/-- COMMIT: bit 0 reads COMMIT_PENDING, ABORT reads 0. -/
def commitWord (h : Header) : Word := BitVec.ofNat 32 (bit h.pendingCommit)

/-- COMMIT_STATUS: SEQUENCE, REASON and OUTCOME. -/
def commitStatusWord (h : Header) : Word :=
  BitVec.ofNat 32 (h.outcome % 16 + 256 * (h.reason % 256) + 65536 * (h.seq % 65536))

/-- LEASE: HOLD_MS, LAPSED and OWNER. -/
def leaseWord (h : Header) : Word :=
  BitVec.ofNat 32 (h.owner % 8 + 16 * (h.lapsed % 8) + 256 * (h.hold % 65536))

/-- ERROR_INFO: ORIGIN, OFFSET and DETAIL. -/
def errorInfoWord (h : Header) : Word :=
  BitVec.ofNat 32 (h.errDetail % 65536 + 65536 * (h.errOff % 4096) + 536870912 * (h.errOrigin % 8))

/-- The word a read of a header offset returns (R24); offsets 0x034-0x03F are reserved and read 0. -/
def headerWord (b : Block) (n : Nat) (h : Header) (off : Nat) : Word :=
  match off % 0x1000 with
  | 0x000 => pageIdWord b n
  | 0x004 => pageCtrlWord b h
  | 0x008 => pageStatusWord h
  | 0x00C => h.raw
  | 0x010 => h.evEnable
  | 0x014 => h.raw &&& h.evEnable
  | 0x018 => h.route
  | 0x01C => commitWord h
  | 0x020 => commitStatusWord h
  | 0x024 => leaseWord h
  | 0x028 => BitVec.ofNat 32 (h.errCode % 256)
  | 0x02C => errorInfoWord h
  | 0x030 => h.rights
  | _ => 0

/-- The rights of an origin on a page: bit 0 read, bit 1 write, bit 2 commit (R24, R27). -/
def rightsOf (h : Header) (origin : Nat) : Nat := bitsOf h.rights (4 * origin) 4

/-- Whether an origin may read, write or commit (bit 0, 1, 2). -/
def mayDo (h : Header) (origin right : Nat) : Bool := getBit (rightsOf h origin) right

end Sys2Proof.Machine
end

