-- ==== Sys2Proof/Machine/HostPorts.lean ====
section
/-! DEFINITION. Host ports, leases and Thimbles (R32, R37, R38, R454-R463): links, Function Level Reset, MSI-X, the DRAM
aperture and the expiry of what a lost host held. DMA rings are in Dma.lean. -/

namespace Sys2Proof.Machine

/-- The origin code of a host port (R27). -/
def hostOrigin (p : Nat) : Nat := p + 1

/-- Whether a host port's link is up. -/
def hostUp (s : State) (p : Nat) : Bool := s.get p Reg.host_LINK_STATUS_UP == 1

/-! ### Leases (R31, R32) -/

/-- The pages under one lease with a page: a head's lease covers the head and its layers (R31). -/
def leaseGroup (s : State) (b : Block) (n : Nat) : List (Block × Nat) :=
  let o := (s.hdr b n).owner
  let c := commitOwner b n
  let l := if (s.hdr c.1 c.2).owner = o then commitGroup c.1 c.2 else [(b, n)]
  l.filter (fun x => (s.hdr x.1 x.2).owner == o)

/-- The owner of a lease has written a page of it: its timer stops if the owner's link is up (R32). -/
def ownerWrote (origin : Nat) (b : Block) (n : Nat) (s : State) : State :=
  if (s.hdr b n).owner ≠ origin ∨ origin = 0 ∨ ((origin = 1 ∨ origin = 2) ∧ !hostUp s (origin - 1)) then s
  else forEach (leaseGroup s b n) (fun x s => s.setHdr x.1 x.2 { s.hdr x.1 x.2 with leaseTimer := false }) s

/-- What an origin's leases do when its port is lost: their timers start (R32). -/
def startTimers (code : Nat) (s : State) : State :=
  { s with hdrs := s.hdrs.map (fun e => (e.1, if e.2.owner = code then { e.2 with leaseTimer := true } else e.2)) }

/-- A lease whose timer runs expires (R32). -/
def leaseLapse (b : Block) (n : Nat) (s : State) : State :=
  let h := s.hdr b n
  if !h.leaseTimer ∨ h.owner = 0 then s
  else
    forEach (leaseGroup s b n) (fun (c, m) s =>
      let x := s.hdr c m
      raise c m 28 (s.setHdr c m { x with owner := 0, lapsed := h.owner, leaseTimer := false })) s

/-! ### Thimbles (R461, R462) -/

/-- Offset of a Thimble's register from THM000. -/
def thmAt (f : Fld) (k : Nat) : Fld := f.at (4 * k)

def thmOwner (s : State) (k : Nat) : Nat := s.get 0 (thmAt Reg.thm_THM_OWNER k)

/-- Show HELD. -/
def showHeld (s : State) : State :=
  s.set 0 Reg.thm_STATUS_HELD ((List.range 256).filter (fun k => thmOwner s k != 0)).length

/-- The owner of a Thimble has written it: its timer stops if the owner's link is up (R462). -/
def thmTouched (k origin : Nat) (s : State) : State :=
  if origin = thmOwner s k ∧ (origin ≠ 1 ∧ origin ≠ 2 ∨ hostUp s (origin - 1)) then
    { s with thmTimers := s.thmTimers.filter (fun j => j != k) }
  else s

/-- A write of THMnnn by an origin, after the checks of R28 (R461). -/
def writeThm (origin k : Nat) (v : Word) (s : State) : State :=
  let acq := getBit v.toNat 6
  let rel := getBit v.toNat 7
  let off := 0x100 + 4 * k
  let owner := thmOwner s k
  if s.get 0 (thmAt Reg.thm_THM_LAPSED k) = origin then logAccess .thm 0 0x15 origin off 0 (s.set 0 (thmAt Reg.thm_THM_LAPSED k) 0)
  else
    let s := thmTouched k origin s
    if acq ∧ rel then logAccess .thm 0 0x01 origin off 0 s
    else if acq then
      if owner = 0 then
        let s := (s.set 0 (thmAt Reg.thm_THM_OWNER k) origin).inc 0 (thmAt Reg.thm_THM_GEN k)
        showHeld (s.set 0 (thmAt Reg.thm_THM_HOLD_MS k) (bitsOf v 16 16))
      else if owner = origin then s.set 0 (thmAt Reg.thm_THM_HOLD_MS k) (bitsOf v 16 16)
      else s.inc 0 Reg.thm_STATUS_CONTENDED
    else if rel then
      if (owner = origin ∨ origin = 5) ∧ owner ≠ 0 then
        showHeld { s.set 0 (thmAt Reg.thm_THM_OWNER k) 0 with thmTimers := s.thmTimers.filter (fun j => j != k) }
      else logAccess .thm 0 0x10 origin off 0 s
    else s

/-- A Thimble whose timer runs expires (R462). -/
def thmLapse (k : Nat) (s : State) : State :=
  let owner := thmOwner s k
  if !s.thmTimers.contains k ∨ owner = 0 then s
  else
    let s := { s with thmTimers := s.thmTimers.filter (fun j => j != k) }
    let s := (s.set 0 (thmAt Reg.thm_THM_OWNER k) 0).set 0 (thmAt Reg.thm_THM_LAPSED k) owner
    raise .thm 0 0 (showHeld (s.set 0 Reg.thm_EVENT_SRC_THIMBLE k))

/-- What an origin holds starts to expire: its leases and Thimbles (R458). -/
def loseOrigin (code : Nat) (s : State) : State :=
  let s := startTimers code s
  { s with thmTimers := (List.range 256).filter (fun k => s.thmTimers.contains k || thmOwner s k == code) }

/-- Thimbles that KEEPER holds are released at once by a warm reset (R462). -/
def releaseKeeper (s : State) : State :=
  showHeld (forEach ((List.range 256).filter (fun k => thmOwner s k == 5)) (fun k s => s.set 0 (thmAt Reg.thm_THM_OWNER k) 0) s)

/-! ### Links (R458, R459) -/

/-- A function's configuration space and MSI-X table return to reset; BAR2 is 1 GiB again. -/
def resetFunction (p : Nat) (s : State) : State := (s.setPort p HostPort.reset).set p Reg.host_APERTURE_HI_SIZE_LOG2 30

/-- The link's registers read as no link. -/
def linkGone (p : Nat) (s : State) : State :=
  (((s.set p Reg.host_LINK_STATUS_UP 0).set p Reg.host_LINK_STATUS_GEN 0).set p Reg.host_LINK_STATUS_WIDTH 0).set p
    Reg.host_LINK_STATUS_FLIT 0

/-- The link trains: up, or at another rate or width. -/
def hostLinkUp (p gen width : Nat) (flit : Bool) (s : State) : State :=
  if s.get p Reg.host_CFG_MAX_GEN < gen then s
  else
    let was := hostUp s p
    let same := s.get p Reg.host_LINK_STATUS_GEN == gen && s.get p Reg.host_LINK_STATUS_WIDTH == width
    let s := (((s.set p Reg.host_LINK_STATUS_UP 1).set p Reg.host_LINK_STATUS_GEN gen).set p Reg.host_LINK_STATUS_WIDTH width).set p
      Reg.host_LINK_STATUS_FLIT (bit flit)
    if !was then raise .host p 0 (s.setState .host p 2)
    else raiseIf (!same) .host p 3 s

/-- The reset of a function has completed. -/
def flrEnd (p : Nat) (s : State) : State :=
  if s.stateOf .host p = 3 then s.setState .host p (if hostUp s p then 2 else 0) else s

/-! ### MSI-X (R37, R38, R460) -/

/-- Unmask a vector: the message that is pending on it is sent. -/
def unmask (p vec : Nat) (s : State) : State :=
  let h := s.port p
  let s := s.setPort p { h with unmasked := insertNat vec h.unmasked, msixPending := h.msixPending.filter (fun v => v != vec) }
  if h.msixPending.contains vec then sendMsix p vec s else s

/-- Vectors of pages that route pending events to a port, rising. -/
def pendingVectors (s : State) (p : Nat) : List Nat :=
  s.hdrs.foldl (fun a e => if e.2.evPending ≠ 0 ∧ getBit e.2.route.toNat p then insertNat (bitsOf e.2.route 16 10) a else a) []

/-- MSI-X Enable is set: one message on each such vector (R460). -/
def msixEnable (p : Nat) (s : State) : State :=
  let s := s.setPort p { s.port p with msixOn := true }
  forEach (pendingVectors s p) (sendMsix p) s

/-! ### The aperture (R455) -/

/-- The DRAM address of BAR2 offset 0. -/
def apertureBase (s : State) (p : Nat) : Nat :=
  let b := 2 ^ 30 * s.get p Reg.host_APERTURE_LO_ADDR + 2 ^ 32 * s.get p Reg.host_APERTURE_HI_ADDR
  let size := 2 ^ s.get p Reg.host_APERTURE_HI_SIZE_LOG2
  b / size * size

/-- Whether a BAR2 request is refused; it is then counted. -/
def bar2Refused (s : State) (p : Nat) : Bool := s.get p Reg.host_CFG_APERTURE_EN == 0

/-- A request completes as Unsupported Request. -/
def completeUr (p : Nat) (s : State) : State := (s.inc p Reg.host_COUNTS_UR).emit (.unsupported p)

/-- Whether a request lies within BAR2. -/
def inBar2 (s : State) (p o n : Nat) : Bool := decide (o + n ≤ 2 ^ s.get p Reg.host_APERTURE_HI_SIZE_LOG2)

/-- A BAR2 read of `n` bytes. -/
def bar2Read (p o n : Nat) (s : State) : State :=
  if !hostUp s p ∨ !inBar2 s p o n then s
  else if bar2Refused s p then completeUr p s
  else
    let (d, bad, s) := dramRead (hostOrigin p) (apertureBase s p + o) n s
    let s := if bad then s.inc p Reg.host_COUNTS_POISON_TLPS else s
    s.emit (.hostRead p d bad)

/-- A BAR2 write; `ep` is the TLP's EP bit. -/
def bar2Write (p o : Nat) (data : List Byte) (ep : Bool) (s : State) : State :=
  if !hostUp s p ∨ !inBar2 s p o data.length then s
  else if bar2Refused s p then completeUr p s
  else if ep then dramPoison (hostOrigin p) (apertureBase s p + o) data.length s
  else dramWrite (hostOrigin p) (apertureBase s p + o) data s

/-! ### Commands -/

/-- LEASE_LAPSED (R32). -/
def execLeaseLapsed (b : Block) (n t : Nat) (s : State) : Host.Outcome State Fault Refusal := .next (leaseLapse b n (s.at t))

/-- MSIX_UNMASK (R38). -/
def execMsixUnmask (p : Fin 2) (vec : Fin 1024) (t : Nat) (s : State) : Host.Outcome State Fault Refusal :=
  .next (unmask p.val vec.val (s.at t))

/-- HOST_LINK_UP (R458). -/
def execHostLinkUp (p : Fin 2) (gen : Fin 7) (width : Fin 9) (flit : Bool) (t : Nat) (s : State) :
    Host.Outcome State Fault Refusal := .next (hostLinkUp p.val gen.val width.val flit (s.at t))

/-- FLR_END (R469). -/
def execFlrEnd (p : Fin 2) (t : Nat) (s : State) : Host.Outcome State Fault Refusal := .next (flrEnd p.val (s.at t))

/-- MSIX_ENABLE (R460). -/
def execMsixEnable (p : Fin 2) (t : Nat) (s : State) : Host.Outcome State Fault Refusal := .next (msixEnable p.val (s.at t))

/-- BAR2_READ (R455). -/
def execBar2Read (p : Fin 2) (o n t : Nat) (s : State) : Host.Outcome State Fault Refusal := .next (bar2Read p.val o n (s.at t))

/-- BAR2_WRITE (R455). -/
def execBar2Write (p : Fin 2) (o : Nat) (data : List Byte) (ep : Bool) (t : Nat) (s : State) :
    Host.Outcome State Fault Refusal := .next (bar2Write p.val o data ep (s.at t))

/-- RESIZABLE_BAR_WRITE (R454): BAR2 of 2^(30 + k) bytes. -/
def execResizableBarWrite (p : Fin 2) (k : Fin 7) (t : Nat) (s : State) : Host.Outcome State Fault Refusal :=
  .next ((s.at t).set p.val Reg.host_APERTURE_HI_SIZE_LOG2 (30 + k.val))

/-- THIMBLE_LAPSED (R462). -/
def execThimbleLapsed (k : Fin 256) (t : Nat) (s : State) : Host.Outcome State Fault Refusal := .next (thmLapse k.val (s.at t))

end Sys2Proof.Machine
end

