-- ==== Sys2Proof/Machine/Rings.lean ====
section
/-! DEFINITION. The states of the DMA rings (R464, R467, R471), the writes of their registers, and the two losses of a host
port that stop them (R458, R459). What a descriptor does is in Dma.lean. -/

namespace Sys2Proof.Machine

/-- A field of ring `r` of DMA page `p`. -/
def rget (s : State) (p r : Nat) (f : Fld) : Nat := s.get p (f.at (0x20 * r))

/-- Write a field of ring `r` of DMA page `p`. -/
def rset (p r : Nat) (f : Fld) (v : Nat) (s : State) : State := s.set p (f.at (0x20 * r)) v

/-- RINGr_STATUS.STATE: 0 = OFF, 1 = RUNNING, 2 = HALTED. -/
def ringState (s : State) (p r : Nat) : Nat := rget s p r Reg.dma_RING_STATUS_STATE

/-- Slots of a ring. -/
def ringSlots (s : State) (p r : Nat) : Nat := 2 ^ rget s p r Reg.dma_RING_CFG_SIZE_LOG2

/-- Address of the descriptor at HEAD (R464). -/
def descAddr (s : State) (p r : Nat) : Nat :=
  64 * rget s p r Reg.dma_RING_BASE_LO_ADDR + 2 ^ 32 * rget s p r Reg.dma_RING_BASE_HI_ADDR
    + 64 * rget s p r Reg.dma_RING_HEAD_INDEX

/-- Whether a ring's descriptors lie in DRAM. -/
def ringLocal (s : State) (p r : Nat) : Bool := rget s p r Reg.dma_RING_CFG_LOC == 1

/-- Raise an event of a DMA page for a ring (R471). -/
def ringEvent (p r e : Nat) (s : State) : State := raise .dma p e (s.set p Reg.dma_EVENT_SRC_RING r)

/-- STATUS and DONE of the descriptor at HEAD (R464): into DRAM, or onto the link. -/
def descStatus (p r code done : Nat) (s : State) : State :=
  let b := bytesLE 4 code ++ bytesLE 4 done
  let a := descAddr s p r + 32
  if ringLocal s p r then dramWrite (hostOrigin p) a b s else s.emit (.hostWrite p a b false)

/-- The end of a descriptor in the ring's registers: LAST_CODE and COUNT. -/
def descCount (p r code : Nat) (s : State) : State :=
  let s := rset p r Reg.dma_RING_STATUS_LAST_CODE code s
  rset p r Reg.dma_RING_COUNT_DONE (rget s p r Reg.dma_RING_COUNT_DONE + 1) s

/-- Whether a running ring has a descriptor to execute. -/
def ringBusy (s : State) (p r : Nat) : Bool :=
  ringState s p r == 1 && rget s p r Reg.dma_RING_HEAD_INDEX != rget s p r Reg.dma_RING_TAIL_INDEX

/-- A ring is stopped by the loss of its port or by SOFT_RESET (R467): the current descriptor ends with 0x14, and its status
is written only if the ring lies in DRAM (R466). -/
def stopRing (p r : Nat) (s : State) : State :=
  if ringState s p r = 0 then s
  else
    let s := if ringBusy s p r then
        descCount p r 0x14 (if ringLocal s p r then descStatus p r 0x14 0 s else s)
      else s
    let s := rset p r Reg.dma_RING_CFG_EN 0 (rset p r Reg.dma_RING_STATUS_STATE 0 s)
    ringEvent p r 2 s

/-- Every ring of a DMA page stops. -/
def stopRings (p : Nat) (s : State) : State := forEach (List.range 16) (stopRing p) s

/-- SOFT_RESET of a DMA page (R467): as link loss, and HEAD and TAIL return to 0. -/
def resetDma (p : Nat) (s : State) : State :=
  forEach (List.range 16) (fun r s => rset p r Reg.dma_RING_HEAD_INDEX 0 (rset p r Reg.dma_RING_TAIL_INDEX 0 s)) (stopRings p s)

/-! ### Register writes -/

/-- Whether BASE_HI fits the ring's location: in DRAM, bits [31:8] are zero (R471). -/
def baseFits (loc hi : Nat) : Bool := loc == 0 || decide (hi < 256)

/-- A write of RINGr_CFG (R467): in OFF it takes effect whole and EN = 1 starts the ring; in another state only EN = 0 does,
after the current descriptor. -/
def writeRingCfg (origin p r : Nat) (v : Word) (s : State) : State :=
  let off := 0x100 + 0x20 * r
  let keep := 0x00FF010F
  if ringState s p r = 0 then
    if !baseFits (bitsOf v 8 1) (rget s p r Reg.dma_RING_BASE_HI_ADDR) then logAccess .dma p 0x01 origin off 0 s
    else
      let s := rset p r Reg.dma_RING_CFG (v.toNat &&& (keep + 0x80000000)) s
      if getBit v.toNat 31 then rset p r Reg.dma_RING_STATUS_STATE 1 s else s
  else if getBit v.toNat 31 ∨ (v.toNat &&& keep) ≠ (rget s p r Reg.dma_RING_CFG &&& keep) then logAccess .dma p 0x10 origin off 0 s
  else
    let busy := ringBusy s p r
    let s := rset p r Reg.dma_RING_CFG_EN 0 s
    if busy then s else rset p r Reg.dma_RING_STATUS_STATE 0 s

/-- A write of RINGr_BASE_LO or RINGr_BASE_HI: only in OFF (R467). -/
def writeRingBase (origin p r : Nat) (hi : Bool) (v : Word) (s : State) : State :=
  let off := 0x100 + 0x20 * r + (if hi then 8 else 4)
  if ringState s p r ≠ 0 then logAccess .dma p 0x10 origin off 0 s
  else if hi then
    if baseFits (rget s p r Reg.dma_RING_CFG_LOC) v.toNat then rset p r Reg.dma_RING_BASE_HI_ADDR v.toNat s
    else logAccess .dma p 0x01 origin off 0 s
  else rset p r Reg.dma_RING_BASE_LO_ADDR (v.toNat / 64) s

/-- A write of RINGr_TAIL submits descriptors (R464, R471). -/
def writeRingTail (origin p r : Nat) (v : Word) (s : State) : State :=
  if ringSlots s p r ≤ bitsOf v 0 12 then logAccess .dma p 0x01 origin (0x110 + 0x20 * r) 0 s
  else rset p r Reg.dma_RING_TAIL_INDEX (bitsOf v 0 12) s

/-- HEAD one slot further. -/
def headNext (p r : Nat) (s : State) : State :=
  rset p r Reg.dma_RING_HEAD_INDEX ((rget s p r Reg.dma_RING_HEAD_INDEX + 1) % ringSlots s p r) s

/-- A write of RINGr_CTRL (R467, R471). -/
def writeRingCtrl (origin p r : Nat) (v : Word) (s : State) : State :=
  let resume := getBit v.toNat 0
  let skip := getBit v.toNat 1
  let off := 0x11C + 0x20 * r
  if resume ∧ skip then logAccess .dma p 0x01 origin off 0 s
  else if !resume ∧ !skip then s
  else if ringState s p r ≠ 2 then logAccess .dma p 0x10 origin off 0 s
  else
    let s := if skip then headNext p r s else s
    rset p r Reg.dma_RING_STATUS_STATE 1 s

/-- A write of a ring register, after the checks of R28 for rights, lease, LAPSED and the ranges of its own fields. -/
def writeRing (origin p off : Nat) (v : Word) (s : State) : State :=
  let r := (off - 0x100) / 0x20
  match (off - 0x100) % 0x20 with
  | 0x00 => writeRingCfg origin p r v s
  | 0x04 => writeRingBase origin p r false v s
  | 0x08 => writeRingBase origin p r true v s
  | 0x10 => writeRingTail origin p r v s
  | 0x1C => writeRingCtrl origin p r v s
  | _ => s

/-! ### Losses of a host port -/

/-- The link of a host port goes down, or PERST_N is asserted (R458). -/
def hostLinkDown (p : Nat) (s : State) : State :=
  if !hostUp s p then s
  else
    let s := resetFunction p ((linkGone p s).setState .host p 0)
    let s := logError .host p 0x14 0 (raise .host p 1 (s.inc p Reg.host_COUNTS_LINK_DOWNS))
    loseOrigin (hostOrigin p) (stopRings p s)

/-- A Function Level Reset of a host port (R459). -/
def hostFlr (p : Nat) (s : State) : State :=
  if !hostUp s p then s
  else
    let s := resetFunction p (s.setState .host p 3)
    let s := raise .host p 2 (s.inc p Reg.host_COUNTS_FLRS)
    loseOrigin (hostOrigin p) (stopRings p s)

/-- HOST_LINK_DOWN (R458). -/
def execHostLinkDown (p : Fin 2) (t : Nat) (s : State) : Host.Outcome State Fault Refusal := .next (hostLinkDown p.val (s.at t))

/-- FLR (R459). -/
def execFlr (p : Fin 2) (t : Nat) (s : State) : Host.Outcome State Fault Refusal := .next (hostFlr p.val (s.at t))

end Sys2Proof.Machine
end

