-- ==== Sys2Proof/Machine/Ddr.lean ====
section
/-! DEFINITION. External memory (R428-R453): the address-folded code, reads and their classes, training, refresh and scrub,
frequency changes, retirement and relining. -/

namespace Sys2Proof.Machine

/-! ### The code (R436) -/

/-- Multiply by α in GF(2^8) with polynomial 0x11D. -/
def gfTwice (a : Nat) : Nat := if a < 128 then 2 * a else (2 * a) ^^^ 0x11D

/-- Multiply in GF(2^8); `n` bits of `b` are used. -/
def gfMulN : Nat → Nat → Nat → Nat
  | 0, _, _ => 0
  | n + 1, a, b => (if b % 2 = 1 then a else 0) ^^^ gfMulN n (gfTwice a) (b / 2)

def gfMul (a b : Nat) : Nat := gfMulN 8 a b

/-- α^n. -/
def gfPow : Nat → Nat
  | 0 => 1
  | n + 1 => gfTwice (gfPow n)

/-- The generator polynomial with roots α^0 to α^(n-1), highest coefficient first. -/
def rsGen : Nat → List Nat
  | 0 => [1]
  | n + 1 =>
    let g := rsGen n
    List.zipWith (fun a b => a ^^^ b) (g ++ [0]) (0 :: g.map (gfMul (gfPow n)))

/-- One symbol through the division by the generator: the remainder after it. -/
def rsStep (g : List Nat) (rem : List Nat) (x : Nat) : List Nat :=
  let f := (rem.headD 0) ^^^ x
  List.zipWith (fun a b => a ^^^ gfMul f b) (rem.tail ++ [0]) g

/-- The 16 check bytes of symbols 0-68, symbol 0 being the highest coefficient (log 70). -/
def rsCheck (syms : List Nat) : List Nat := syms.foldl (rsStep (rsGen 16).tail) (List.replicate 16 0)

/-- The five address symbols of a line: A >> 6, least significant byte first. -/
def addrSyms (line : Nat) : List Nat := (bytesLE 5 line).map (·.toNat)

/-- What the devices hold for a line: data and check bytes, the latter XOR 0xA5 if it is poisoned (R436, R439). -/
def burstOf (s : State) (line : Nat) : List Nat :=
  let data := (memBytes s.dram (64 * line) 64).map (·.toNat)
  let check := rsCheck (data ++ addrSyms line)
  data ++ (if s.poison.contains line then check.map (fun c => c ^^^ 0xA5) else check)

/-- Evaluate a polynomial, highest coefficient first. -/
def gfEval (l : List Nat) (x : Nat) : Nat := l.foldl (fun a c => gfMul a x ^^^ c) 0

/-- Whether 85 symbols are a codeword. -/
def isCodeword (l : List Nat) : Bool := (List.range 16).all (fun i => gfEval l (gfPow i) == 0)

/-- Symbols of a device of a rank (R436): a byte lane of the data, two lanes of an x16 device, or the ECC device, 4. -/
def deviceOf (sym : Nat) : Nat := if sym < 64 then sym % 4 else 4

/-! ### Ranks -/

/-- A subchannel's STATE. -/
def subState (s : State) (sub : Nat) : Nat := s.get (sub / 2) (Reg.ddrc_SUB_STATUS_STATE_0.up (8 * (sub % 2)))

def setSubState (sub v : Nat) (s : State) : State := s.set (sub / 2) (Reg.ddrc_SUB_STATUS_STATE_0.up (8 * (sub % 2))) v

/-- Ranks populated on a subchannel. -/
def subPop (s : State) (sub : Nat) : Nat := s.get (sub / 2) (Reg.ddrc_POP_RANKS_0.up (8 * (sub % 2)))

/-- Whether a rank has x16 data devices. -/
def rankWide (s : State) (r : Nat) : Bool := s.get (r / 4) (Reg.ddrc_POP_WIDTH_0.up (8 * (r / 2 % 2))) == 1

/-- The marked device of a rank. -/
def markOf (s : State) (r : Nat) : Option Nat :=
  if s.get (r / 4) (Reg.ddrc_MARK_MARKED_0.up (4 * (r % 4))) = 1 then some (s.get (r / 4) (Reg.ddrc_MARK_DEVICE_0.up (4 * (r % 4))))
  else none

def setRole (r v : Nat) (s : State) : State := s.set 0 (Reg.memx_RANK_ROLE_ROLE_0.up (2 * r)) v

/-- The logical rank whose addresses rank `p` serves. -/
def logicalOf (s : State) (p : Nat) : Option Nat :=
  (List.range 16).find? (fun r => getBit s.mem.ranks r && (match Tbl.get 0 s.mem.served r with | 0 => r | k + 1 => k) == p)

/-- The DRAM address of a local address of logical rank `r` (R430). -/
def addrOfLocal (s : State) (r loc : Nat) : Nat :=
  let subs := inService s
  let sub := r / 2
  let slot := (subRanks s sub).idxOf r
  let l := loc + slot * rankBytes s sub
  (l / 256 * subs.length + subs.idxOf sub) * 256 + l % 256

/-- Show PAGE_STATUS.STATE of MEMX and RELINE_STATUS (R452). -/
def showMem (s : State) : State :=
  let m := s.mem
  let busy := s.get 0 Reg.memx_FREQ_STATUS_BUSY == 1
  let s := s.setState .memx 0 (if busy then 1 else if m.reline.isSome then 2 else 0)
  match m.reline with
  | none => s.set 0 Reg.memx_RELINE_STATUS_STATE 0
  | some j =>
    let s := (s.set 0 Reg.memx_RELINE_STATUS_SRC j.src).set 0 Reg.memx_RELINE_STATUS_DST j.dst
    (s.set 0 Reg.memx_RELINE_STATUS_WATERMARK j.watermark).set 0 Reg.memx_RELINE_STATUS_STATE
      (if m.freq = 2 ∨ s.sup.mgmtReset then 2 else 1)

/-! ### Retirement and relining (R446-R450) -/

/-- The spare for a retired rank: its own subchannel's, else the lowest-numbered one (R447). -/
def spareFor (s : State) (r : Nat) : Option Nat :=
  let spares := (List.range 16).filter (fun q => rankRole s q == 2)
  match spares.find? (fun q => q / 2 == r / 2) with
  | some q => some q
  | none => spares.head?

/-- Start the next relining, one at a time in the order of retirement (R447). -/
def relineNext : Nat → State → State
  | 0, s => s
  | k + 1, s =>
    match s.mem.reline, s.mem.queue with
    | none, r :: rest =>
      let s := { s with mem := { s.mem with queue := rest } }
      match spareFor s r with
      | some d => showMem { s with mem := { s.mem with reline := some { src := r, dst := d, watermark := 0, blank := rankFailed s r } } }
      | none => relineNext k (raise .memx 0 5 { s with mem := { s.mem with stuck := s.mem.stuck ++ [r] } })
    | _, _ => showMem s

/-- Whether a rank has been retired already. -/
def isRetired (s : State) (r : Nat) : Bool :=
  s.mem.queue.contains r || s.mem.stuck.contains r || (match s.mem.reline with | some j => j.src == r | none => false)

/-- Retire an in-service rank (R446). -/
def retire (r : Nat) (s : State) : State :=
  if rankRole s r ≠ 1 ∨ isRetired s r then s
  else relineNext 17 (raise .memx 0 3 { s with mem := { s.mem with queue := s.mem.queue ++ [r] } })

/-- Retire a rank on a trigger other than software's, if AUTO allows it. -/
def autoRetire (r : Nat) (s : State) : State := if s.get 0 Reg.memx_RELINE_CTRL_AUTO = 1 then retire r s else s

/-- A line is written poisoned and counted. -/
def poisonLine (line : Nat) (s : State) : State :=
  { s with poison := insertNat line s.poison }.incSat 0 Reg.memx_COUNTS_LINES_POISONED 1

/-- Merge rising lists of numbers. -/
def mergeNat : Nat → List Nat → List Nat → List Nat
  | 0, a, b => a ++ b
  | _ + 1, [], b => b
  | _ + 1, a, [] => a
  | n + 1, x :: a, y :: b =>
    if x < y then x :: mergeNat n a (y :: b) else if y < x then y :: mergeNat n (x :: a) b else x :: mergeNat n a b

/-- The lines of a segment of 1 MiB of logical rank `r`, in the order of their local addresses. -/
def segmentLines (s : State) (r seg : Nat) : List Nat :=
  (List.range 16384).map (fun i => addrOfLocal s r (1048576 * seg + 64 * i) / 64)

/-- Many lines, rising, are written poisoned. -/
def poisonLines (l : List Nat) (s : State) : State :=
  { s with poison := mergeNat (l.length + s.poison.length) l s.poison }.incSat 0 Reg.memx_COUNTS_LINES_POISONED l.length

/-- The last segment is done: the spare takes the in-service role (R448). -/
def relineDone (j : Reline) (s : State) : State :=
  let m := s.mem
  let served := match logicalOf s j.src with
    | some r => Tbl.put 0 r (j.dst + 1) m.served
    | none => m.served
  let s := setRole j.src 3 (setRole j.dst 1 { s with mem := { m with served := served, reline := none } })
  relineNext 17 (raise .memx 0 4 (s.inc 0 Reg.memx_COUNTS_RELINES))

/-- A segment is copied; `bad` gives the lines in it that could not be read (R448, R450). -/
def segmentDone (bad : List Nat) (s : State) : State :=
  match s.mem.reline with
  | none => s
  | some j =>
    if s.mem.freq = 2 ∨ s.sup.mgmtReset then s
    else
      let lines := match logicalOf s j.src with
        | some r => segmentLines s r j.watermark
        | none => []
      let lost := lines.zipIdx.filter (fun (l, i) => j.blank || bad.contains i || s.poison.contains l) |>.map (·.1)
      let s := poisonLines lost s
      let j := { j with watermark := j.watermark + 1 }
      let s := { s with mem := { s.mem with reline := some j } }
      if 1048576 * j.watermark < rankBytes s (j.src / 2) then showMem s else relineDone j (showMem s)

/-- A subchannel fails: all its ranks are retired (R450). -/
def failSub (sub : Nat) (s : State) : State :=
  let c := sub / 2
  let s := raise .ddrc c 7 (setSubState sub 3 s)
  let s := forEach [2 * sub, 2 * sub + 1] (fun r s => if rankRole s r = 2 then setRole r 3 s else s) s
  forEach [2 * sub, 2 * sub + 1] retire s

/-! ### Reads (R435, R437, R438) -/

/-- Class 1: counted, and CE_LIMIT of them within a second retire the rank (R446). -/
def readCorrected (p : Nat) (s : State) : State :=
  let c := p / 4
  let s := raise .ddrc c 0 (s.inc c Reg.ddrc_ECC_COUNTS_CE)
  let m := s.mem
  let sec := s.now / secT 1
  let cnt := if sec = m.ceSecond then m.ceCount else []
  let k := Tbl.get 0 cnt p + 1
  let s := { s with mem := { m with ceSecond := sec, ceCount := Tbl.put 0 p k cnt } }
  if k = s.get 0 Reg.memx_SCRUB_CE_LIMIT then autoRetire p s else s
where
  /-- A second in units of time. -/
  secT (n : Nat) : Nat := 65536000000000 * n

/-- Class 2: poison to the requester, and the line is written back poisoned. -/
def readUncorrectable (p who : Nat) (line : Option Nat) (s : State) : State :=
  let c := p / 4
  let s := raise .ddrc c 1 (s.inc c Reg.ddrc_ECC_COUNTS_UE)
  let s := logError .ddrc c 0x0D 0 s
  let s := match line with
    | some l => poisonLine l (logMem (64 * l) 2 p who s)
    | none => (logMem 0 2 p who s).incSat 0 Reg.memx_COUNTS_LINES_POISONED 1
  autoRetire p s

/-- Class 3: poison to the requester, the line not rewritten. -/
def readMismatch (p who : Nat) (line : Option Nat) (s : State) : State :=
  let c := p / 4
  let s := raise .ddrc c 2 (s.inc c Reg.ddrc_ECC_COUNTS_AE)
  autoRetire p (logMem (64 * line.getD 0) 3 p who (logError .ddrc c 0x0D 0 s))

/-- The class of a read (R437): `errs` are the wrong symbols among 0-84, `poisoned` whether the line is, `word` the 85 symbols
received. -/
def readClass (s : State) (p : Nat) (errs : List Nat) (poisoned : Bool) (word : List Nat) : Nat :=
  match markOf s p with
  | some d => if poisoned then 4 else if errs.any (fun e => (decide (e < 64) || decide (69 ≤ e)) && deviceOf e == d) then 1 else 0
  | none =>
    if errs.length ≤ 4 then
      if poisoned then 4 else if errs = [] then 0 else if errs.any (fun e => decide (64 ≤ e) && decide (e < 69)) then 3 else 1
    else if errs.length ≤ 12 then 2
    else if isCodeword word then 0 else Config.decodeBeyond s.free % 5

/-- A read of rank `p` ends. The line at `src` answers a read of `line` with the given symbols flipped (R437, R438). -/
def readDone (p who : Nat) (line : Option Nat) (src : Nat) (flips : List (Nat × Nat)) (s : State) : State :=
  let b := burstOf s src
  let b := forEach flips (fun (i, x) l => l.set i (l.getD i 0 ^^^ x % 256)) b
  let sent := burstOf s src
  let addr := addrSyms (line.getD src)
  let wrong := ((List.range 80).filter (fun i => b.getD i 0 != sent.getD i 0)).map (fun i => if i < 64 then i else i + 5)
  let errs := wrong ++ ((List.range 5).filter (fun i => addr.getD i 0 != (addrSyms src).getD i 0)).map (· + 64)
  let cls := readClass s p errs (s.poison.contains src) (b.take 64 ++ addr ++ b.drop 64)
  let s := if 12 < errs.length then s.fresh else s
  match cls with
  | 0 => s
  | 1 => readCorrected p s
  | 2 =>
    if rankWide s p ∨ (markOf s p).isSome then readUncorrectable p who line s
    else { s with mem := { s.mem with diags := s.mem.diags ++ [{ rank := p, who := who, line := line }] } }
  | 3 => readMismatch p who line s
  | _ => s.inc (p / 4) Reg.ddrc_POISON_READS_COUNT

/-- A read of a line of the address map. -/
def lineRead (who line src : Nat) (flips : List (Nat × Nat)) (s : State) : State :=
  if dramCapacity s ≤ 64 * line then s
  else
    let (r, loc) := rankOf s (64 * line)
    let p := servingRank s r loc
    if rankFailed s p then s.inc (p / 4) Reg.ddrc_POISON_READS_COUNT else readDone p who (some line) src flips s

/-- The diagnosis of a subchannel ends: the devices that returned a wrong pattern (R438). -/
def diagnosisDone (sub : Nat) (wrong : List Nat) (s : State) : State :=
  match s.mem.diags.find? (fun g => g.rank / 2 == sub) with
  | none => s
  | some g =>
    let s := { s with mem := { s.mem with diags := s.mem.diags.erase g } }
    match wrong with
    | [d] =>
      let c := g.rank / 4
      let s := s.set c (Reg.ddrc_MARK_DEVICE_0.up (4 * (g.rank % 4))) d
      let s := raise .ddrc c 3 (s.set c (Reg.ddrc_MARK_MARKED_0.up (4 * (g.rank % 4))) 1)
      autoRetire g.rank (readCorrected g.rank s)
    | _ => readUncorrectable g.rank g.who g.line s

/-- A patrol read (R435): of a line of the map, or of a spare rank, whose lines have no addresses. -/
def scrubRead (spare : Option Nat) (line : Nat) (flips : List (Nat × Nat)) (s : State) : State :=
  if s.get 0 Reg.memx_SCRUB_EN = 0 ∨ s.mem.freq = 2 then s
  else
    match spare with
    | none => lineRead 3 line line flips s
    | some p =>
      if rankRole s p ≠ 2 then s
      else
        let errs := dedupeNat (flips.map (·.1))
        if errs = [] then s
        else if errs.length ≤ 4 then readCorrected p s
        else if rankWide s p then readUncorrectable p 3 none s
        else { s with mem := { s.mem with diags := s.mem.diags ++ [{ rank := p, who := 3, line := none }] } }
where
  /-- Each number once. -/
  dedupeNat (l : List Nat) : List Nat := l.foldl (fun a x => insertNat x a) []

/-! ### Training and refresh (R434, R440, R441) -/

/-- Show a DDRC's state once its training changes: running when no subchannel trains (R451). -/
def showDdrc (c : Nat) (s : State) : State :=
  if s.stateOf .ddrc c = 0 ∨ s.stateOf .ddrc c = 3 then s
  else s.setState .ddrc c (if subState s (2 * c) = 1 ∨ subState s (2 * c + 1) = 1 then 1 else 2)

/-- ENABLE = 1 is applied: populated subchannels train (R440). -/
def ddrcEnable (c : Nat) (s : State) : State :=
  let s := s.setState .ddrc c 1
  let s := s.set c Reg.ddrc_SUB_STATUS_FSP (s.get 0 Reg.memx_FREQ_STATUS_CURRENT)
  showDdrc c (forEach [2 * c, 2 * c + 1] (fun sub s => setSubState sub (if subPop s sub = 0 then 0 else 1) s) s)

/-- ENABLE = 0 is applied. -/
def ddrcDisable (c : Nat) (s : State) : State :=
  (forEach [2 * c, 2 * c + 1] (setSubState · 0) s).setState .ddrc c 0

/-- Training of a subchannel ends. -/
def trainingDone (sub : Nat) (ok : Bool) (s : State) : State :=
  if subState s sub ≠ 1 then s
  else if ok then showDdrc (sub / 2) (setSubState sub 2 s)
  else showDdrc (sub / 2) (failSub sub (logError .ddrc (sub / 2) 0x0C 0 (raise .ddrc (sub / 2) 4 s)))

/-- MR4 of a subchannel's ranks is read (R434). -/
def mr4 (sub : Nat) (hot : Bool) (s : State) : State :=
  if subState s sub ≠ 2 then s
  else
    let f := Reg.ddrc_SUB_STATUS_HOT_0.up (8 * (sub % 2))
    let was := s.get (sub / 2) f == 1
    raiseIf (hot && !was) .ddrc (sub / 2) 6 (s.set (sub / 2) f (bit hot))

/-! ### Frequency changes (R442-R445) -/

/-- The transfer rate of a set point in MT/s. -/
def fspRate (k : Nat) : Nat :=
  match k with
  | 0 => 7200
  | 1 => 5600
  | _ => 3200

/-- The populated peak at a set point in MB/s (R20). -/
def populatedPeak (s : State) (k : Nat) : Nat :=
  4 * fspRate k * ((List.range 8).filter (fun sub => subPop s sub != 0)).length

/-- The change fails without starting, or after it returned: RESULT, FREQ_FAIL. -/
def freqEnd (result : Nat) (s : State) : State :=
  let s := { s with mem := { s.mem with freq := 0 } }
  showMem (raise .memx 0 1 ((s.set 0 Reg.memx_FREQ_STATUS_RESULT result).set 0 Reg.memx_FREQ_STATUS_BUSY 0))

/-- Start a change to a set point under the measured demand in MB/s (R443); `fail` records its error. -/
def freqStart (k demand : Nat) (fail : State → State) (s : State) : State :=
  if demand * 100 > 70 * populatedPeak s k then fail (freqEnd 3 s)
  else
    let s := { s with mem := { s.mem with freq := 1, target := k } }
    showMem ((s.set 0 Reg.memx_FREQ_STATUS_RESULT 0).set 0 Reg.memx_FREQ_STATUS_BUSY 1)

/-- A write of FREQ_CTRL; `demand` is what was measured over the last 1 ms. -/
def writeFreq (origin : Nat) (v : Word) (demand : Nat) (s : State) : State :=
  if getBit v.toNat 31 ∧ s.get 0 Reg.memx_FREQ_STATUS_BUSY = 1 then logAccess .memx 0 0x10 origin 0x48 0 s
  else
    let s := s.set 0 Reg.memx_FREQ_CTRL (v.toNat % 0x4000000)
    if getBit v.toNat 31 then freqStart (bitsOf v 24 2) demand (logAccess .memx 0 0x08 origin 0x48 0) s else s

/-- A retraining change that a subchannel has requested starts when no change is in progress (R441). -/
def trackNext (demand : Nat) (s : State) : State :=
  if s.mem.track ∧ s.mem.freq = 0 then
    freqStart (s.get 0 Reg.memx_FREQ_STATUS_CURRENT) demand (logError .memx 0 0x08 0) { s with mem := { s.mem with track := false } }
  else s

/-- The oscillators of a subchannel are read (R441). -/
def trackTick (sub : Nat) (beyond : Bool) (demand : Nat) (s : State) : State :=
  if subState s sub ≠ 2 ∨ !beyond then s
  else trackNext demand (raise .ddrc (sub / 2) 5 { s with mem := { s.mem with track := true } })

/-- Whether every enabled head's margin stands at the threshold (R443). -/
def marginsMet (s : State) : Bool :=
  (List.range 4).all (fun h => !s.enabled .head h
    || decide (1000 * (s.get 0 Reg.memx_FREQ_CTRL_GUARD_US + 20) ≤ s.get h Reg.head_FETCH_MARGIN_NOW_NS))

/-- Apply a DDRC's pending commit (R442). -/
def applyDdrc (c : Nat) (s : State) : State :=
  let was := s.enabled .ddrc c
  let s := applyGroup .ddrc c s
  let on := s.enabled .ddrc c
  let s := if on ∧ !was then ddrcEnable c s else if !on ∧ was then ddrcDisable c s else s
  commitDone .ddrc c s

/-- The margins hold: commits are applied, requests are held and the change runs (R442, R444). -/
def freqMargin (s : State) : State :=
  if s.mem.freq ≠ 1 ∨ !marginsMet s then s
  else
    let s := { s with mem := { s.mem with freq := 2 } }
    showMem (forEach (List.range 4) (fun c s =>
      let h := s.hdr .ddrc c
      let s := if h.pendingCommit ∧ h.checked then applyDdrc c s else s
      if s.stateOf .ddrc c = 2 then s.setState .ddrc c 3 else s) s)

/-- DDRCs leave STATE 3. -/
def ddrcResume (s : State) : State :=
  forEach (List.range 4) (fun c s => if s.stateOf .ddrc c = 3 then showDdrc c (s.setState .ddrc c 2) else s) s

/-- An urgent request aborts the entry (R444). -/
def freqAbort (s : State) : State :=
  if s.mem.freq ≠ 2 then s
  else
    let s := ddrcResume { s with mem := { s.mem with freq := 1 } }
    showMem (raise .memx 0 2 (s.inc 0 Reg.memx_FREQ_STATUS_ABORTS))

/-- TIMEOUT_MS passes. -/
def freqTimeout (s : State) : State := if s.mem.freq = 1 then freqEnd 2 s else s

/-- The change ends (R445): done, returned, or returned with failed subchannels. -/
def freqDone (ok : Bool) (failed : List Nat) (demand : Nat) (s : State) : State :=
  if s.mem.freq ≠ 2 then s
  else
    let s := ddrcResume s
    let s :=
      if ok then
        let s := { s with mem := { s.mem with freq := 0 } }
        let s := (s.set 0 Reg.memx_FREQ_STATUS_CURRENT s.mem.target).set 0 Reg.memx_FREQ_STATUS_RESULT 1
        let s := forEach (List.range 4) (fun c s => s.set c Reg.ddrc_SUB_STATUS_FSP s.mem.target) s
        showMem (raise .memx 0 0 (s.set 0 Reg.memx_FREQ_STATUS_BUSY 0))
      else
        let s := logError .memx 0 0x0C 0 (freqEnd (if failed = [] then 4 else 5) s)
        forEach failed (fun sub s => failSub sub (raise .ddrc (sub / 2) 4 s)) s
    trackNext demand s

/-! ### Register writes -/

/-- Whether every DDRC has ENABLE = 0 (R429). -/
def ddrcsOff (s : State) : Bool := (List.range 4).all (fun c => !s.enabled .ddrc c)

/-- Number of set bits among the low `n`. -/
def popcount (v n : Nat) : Nat := ((List.range n).filter (getBit v)).length

/-- Role of a rank in a word of RANK_ROLE. -/
def roleIn (v r : Nat) : Nat := v / 4 ^ r % 4

/-- Whether a value of RANK_ROLE is accepted with the MAP in force (R429). -/
def rolesOk (s : State) (v : Nat) : Bool :=
  let mask := s.get 0 Reg.memx_MAP_MASK
  let cnt := fun sub => ((List.range 2).filter (fun i => roleIn v (2 * sub + i) == 1)).length
  let subs := (List.range 8).filter (fun sub => cnt sub != 0)
  let org := fun sub => (s.get (sub / 2) (Reg.ddrc_POP_WIDTH_0.up (8 * (sub % 2))), s.get (sub / 2) (Reg.ddrc_POP_DENSITY_0.up (8 * (sub % 2))))
  let spares := (List.range 16).filter (fun r => roleIn v r == 2)
  let cap := subs.foldl (fun a sub => a + cnt sub * rankBytes s sub) 0
  match subs with
  | [] => false
  | a :: _ =>
    [1, 2, 4, 8].contains subs.length && subs.all (fun sub => getBit mask sub && cnt sub == cnt a && decide (org sub = org a))
      && subs.length == popcount mask 8 && spares.all (fun r => decide (org (r / 2) = org a))
      && decide (2 ^ 35 ≤ cap) && decide (cap ≤ 2 ^ 38)

/-- A write of MAP. -/
def writeMap (origin : Nat) (v : Word) (s : State) : State :=
  let mask := v.toNat % 256
  if !ddrcsOff s then logAccess .memx 0 0x10 origin 0x40 0 s
  else if !([1, 2, 4, 8].contains (popcount mask 8)) then logAccess .memx 0 0x01 origin 0x40 0 s
  else (s.set 0 Reg.memx_MAP_MASK mask).set 0 Reg.memx_MAP_LOG2_N (Nat.log2 (popcount mask 8))

/-- A write of RANK_ROLE. -/
def writeRoles (origin : Nat) (v : Word) (s : State) : State :=
  if !ddrcsOff s then logAccess .memx 0 0x10 origin 0x44 0 s
  else if !rolesOk s v.toNat then logAccess .memx 0 0x01 origin 0x44 0 s
  else
    let s := s.set 0 Reg.memx_RANK_ROLE v.toNat
    let ranks := (List.range 16).foldl (fun a r => a + (if roleIn v.toNat r = 1 then 2 ^ r else 0)) 0
    let again := s.mem.stuck.filter (fun r => roleIn v.toNat r == 1)
    relineNext 17 { s with mem := { s.mem with ranks := ranks, served := [], queue := s.mem.queue ++ again, stuck := [] } }

/-- A write of RELINE_CTRL. -/
def writeReline (origin : Nat) (v : Word) (s : State) : State :=
  let src := bitsOf v 8 4
  if getBit v.toNat 31 ∧ rankRole s src ≠ 1 then logAccess .memx 0 0x10 origin 0x58 0 s
  else
    let s := s.set 0 Reg.memx_RELINE_CTRL (v.toNat &&& 0xF17)
    if getBit v.toNat 31 then retire src s else s

end Sys2Proof.Machine
end

