-- ==== Sys2Proof/Machine/Feed.lean ====
section
/-! DEFINITION. Where tap rows go: the line buffers of direct layers (R201, R300, R301), and the end of a tap's output for a frame
that is dropped or cut short (R126, R200, R232, R266). -/

namespace Sys2Proof.Machine

/-- The frames a direct layer holds. -/
def State.direct (s : State) (l : Nat) : List DirectFrame := Tbl.get [] s.directs l

/-- Write the frames a direct layer holds. -/
def State.setDirect (s : State) (l : Nat) (x : List DirectFrame) : State := { s with directs := Tbl.put [] l x s.directs }

/-- Whether a layer is enabled in MODE 2. -/
def layerDirect (s : State) (l : Nat) : Bool := s.get l Reg.layer_CFG_EN == 1 && s.get l Reg.layer_CFG_MODE == 2

/-- The layers that taps of a stream feed directly (R201). -/
def directTargets (s : State) (n : Nat) : List Nat :=
  ((tapsOn s n).filter (fun k => s.get n (Reg.strm_TAP_CTRL_DEST.at (0x20 * k)) == 1)).map
    (fun k => s.get n (Reg.strm_TAP_CTRL_TARGET.at (0x20 * k)))

/-- A frame of a stream starts: the direct layers it feeds may compose it (R301). -/
def directStart (n f : Nat) (t : Time) (s : State) : State :=
  forEach ((directTargets s n).filter (layerDirect s)) (fun l s =>
    s.setDirect l (s.direct l ++ [{ stream := n, no := f, fs := t, rows := [], chroma := [], cut := false }])) s

/-- Change a frame that a direct layer holds. -/
def updDirect (l n f : Nat) (g : DirectFrame → DirectFrame) (s : State) : State :=
  s.setDirect l ((s.direct l).map (fun x => if x.stream = n ∧ x.no = f then g x else x))

/-- A row leaves a tap for a layer: row `o` of the first plane and, where one comes with it, a row of the CbCr plane. Rows for a
layer that is not in MODE 2 are discarded (R300). -/
def directRow (l n f o : Nat) (row : List Byte) (chroma : Option (Nat × List Byte)) (s : State) : State :=
  if !layerDirect s l then s
  else updDirect l n f (fun x =>
    if x.cut then x
    else { x with rows := Tbl.put [] o row x.rows,
                  chroma := match chroma with
                    | some (j, c) => Tbl.put [] j c x.chroma
                    | none => x.chroma }) s

/-- The rest of a frame never comes (R76, R126, R132). -/
def directCut (n f : Nat) (s : State) : State :=
  forEach (List.range 64) (fun l s =>
    if (s.direct l).any (fun x => x.stream == n && x.no == f) then updDirect l n f (fun x => { x with cut := true }) s else s) s

/-- What a tap has in hand of a frame ends without being delivered (R126, R200, R232, R266). -/
def dropTap (n f : Nat) (ft : FrameTap) (s : State) : State :=
  match ft.dest with
  | 0 => returnBuf ft.target s
  | 1 => directCut n f s
  | 2 => abandonFrame ft.target 1 n f s
  | _ => segAbandon ft.target n f s

/-- Every output of a frame ends without being delivered; a claimed slot of the statistics ring is given back (R126, R218). -/
def dropOutputs (n f : Nat) (s : State) : State :=
  match findFrame s n f with
  | none => s
  | some x =>
    let s := updFrame n f (fun x => { x with taps := [], tapsDone := [], slot := none, stat := none, grid := none }) s
    let s := forEach x.taps (dropTap n f) s
    forEach x.tapsDone (fun d s => returnBuf d.2 s) s

/-- Whether anything still needs a frame's ticket. -/
def frameNeeded (s : State) (n : Nat) (x : Frame) : Bool :=
  x.closed == 0 || !x.processed || !x.tapsDone.isEmpty || x.stat.isSome || x.grid.isSome
  || s.encs.any (fun e => e.2.pics.any (fun p => p.stream == n && p.frameNo == x.no))
  || s.zraws.any (fun z => z.2.segs.any (fun g => g.stream == n && g.frameNo == x.no))
  || s.directs.any (fun d => d.2.any (fun g => g.stream == n && g.no == x.no))

/-- Forget the frames of a stream that nothing needs any more. -/
def purge (n : Nat) (s : State) : State :=
  let x := s.strm n
  s.setStrm n { x with frames := x.frames.filter (frameNeeded s n) }

end Sys2Proof.Machine
end

