-- ==== Sys2Proof/Machine/Sched.lean ====
section
/-! DEFINITION. The Shuttle: placement of contexts, commits of streams, staging, the choice and start of stripes, deadlines and
drops (chapter 6: R114-R134), and what a frame takes at its first stripe (R147, R174, R199, R200, R218). -/

namespace Sys2Proof.Machine

/-! ### Events and reports -/

/-- A stream-level event of the SHUT page (R137). -/
def shutEvent (n e : Nat) (s : State) : State := raise .shut 0 e (s.set 0 Reg.shut_EVENT_SRC_STREAM n)

/-- An event of a BENCH page (R161). -/
def benchEvent (b n e : Nat) (s : State) : State := raise .bench b e (s.set b Reg.bench_EVENT_SRC_STREAM n)

/-- An event of the EVT page (R222). -/
def evtEvent (n index e : Nat) (s : State) : State :=
  raise .evt 0 e ((s.set 0 Reg.evt_EVENT_SRC_STREAM n).set 0 Reg.evt_EVENT_SRC_INDEX index)

/-- A grid or TNR event of the LUTM page (R190). -/
def lutmEvent (n e : Nat) (s : State) : State := raise .lutm 0 e (s.set 0 Reg.lutm_EVENT_SRC_STREAM n)

/-- The bench that runs a stripe of a stream. -/
def runningOn (s : State) (n : Nat) : Option Nat := (List.range 6).find? (fun b => (s.bench b).run == some n)

/-- Whether a bench runs or has chosen a stripe of a stream. -/
def chosen (s : State) (n : Nat) : Bool :=
  (List.range 6).any (fun b => (s.bench b).run == some n || (s.bench b).next.any (fun x => x.1 == n))

/-- Show a bench in SHUT.BENCHb_STATUS and the page states (R136, R160). -/
def refreshBench (b : Nat) (s : State) : State :=
  let x := s.bench b
  let st := if x.run.isSome ∨ x.row0.isSome then 1 else if x.next.isSome then 2 else 0
  let d := 4 * b
  let s := s.set 0 (Reg.shut_BENCH_STATUS_RUN_VALID.at d) (bit x.run.isSome)
  let s := s.set 0 (Reg.shut_BENCH_STATUS_RUN_STREAM.at d) (x.run.getD 0)
  let s := s.set 0 (Reg.shut_BENCH_STATUS_NEXT_VALID.at d) (bit x.next.isSome)
  let s := s.set 0 (Reg.shut_BENCH_STATUS_NEXT_STREAM.at d) ((x.next.map (·.1)).getD 0)
  let s := s.set 0 (Reg.shut_BENCH_STATUS_PIN_VALID.at d) (bit (pinnedStream s b).isSome)
  let s := s.set 0 (Reg.shut_BENCH_STATUS_PIN_STREAM.at d) ((pinnedStream s b).getD 0)
  let s := (s.set 0 (Reg.shut_BENCH_STATUS_STATE.at d) st).setState .bench b st
  s.setState .shut 0 (bit ((List.range 6).any (fun b => (s.bench b).run.isSome)))

/-- The frame whose stripes are processed now: the first one not processed (R125). -/
def firstFrame (s : State) (n : Nat) : Option Frame := (s.strm n).frames.find? (fun x => !x.processed)

/-- Show a stream in its PAGE_STATUS.STATE: 0 disabled, 1 idle, 2 waiting for a stripe, 3 running. -/
def refreshStrm (n : Nat) (s : State) : State :=
  let row0 := (List.range 6).any (fun b => pinnedStream s b == some n && (s.bench b).row0.isSome)
  let waits := match firstFrame s n with
    | some x => decide (x.stripe < x.arrivals.length)
    | none => false
  s.setState .strm n
    (if !s.enabled .strm n then 0 else if (runningOn s n).isSome ∨ row0 then 3 else if waits then 2 else 1)

/-! ### Staging (R122, R123) -/

/-- Bytes of a row slot. -/
def slotBytes (s : State) (n : Nat) : Nat := roundTo 64 (ceilDiv (streamW s n * streamBits s n) 8)

/-- Address of a row slot of an exposure. -/
def slotAt (s : State) (n k slot : Nat) : Nat :=
  addrReg s n Reg.strm_STAGE_ADDR_LO_ADDR Reg.strm_STAGE_ADDR_HI_ADDR
    + (k * s.get n Reg.strm_STAGE_ROWS_ROWS + slot) * slotBytes s n

/-- A row packed at `b` bits, the first sample in the top bits, padded to whole bytes. -/
def packRow (b : Nat) (xs : List Nat) : List Byte :=
  let n := ceilDiv (b * xs.length) 8
  bytesBE n (xs.foldl (fun a x => a * 2 ^ b + x % 2 ^ b) 0 * 2 ^ (8 * n - b * xs.length))

/-- The samples of a packed row. -/
def unpackRow (b w : Nat) (l : List Byte) : List Nat :=
  let n := ceilDiv (b * w) 8
  let v := natBE (l.take n)
  (List.range w).map (fun i => v / 2 ^ (8 * n - b * (i + 1)) % 2 ^ b)

/-- Rows of an exposure of a stream that are staged and not yet taken. -/
def stagedRows (s : State) (n k : Nat) : Nat :=
  (s.strm n).frames.foldl (fun a x =>
    a + (x.rows.filter (fun e => e.1 / 16384 == k)).length + (x.inDram.filter (fun e => e.1 / 16384 == k)).length) 0

/-- Bytes of on-chip staging in use. -/
def onchipBytes (s : State) : Nat :=
  s.strms.foldl (fun a e =>
    if streamClass s e.1 = 0 then a else a + (e.2.frames.foldl (fun a x => a + x.rows.length) 0) * slotBytes s e.1) 0

/-- Show the on-chip staging in use. -/
def refreshStage (s : State) : State := s.set 0 Reg.shut_STAGE_STATUS_ONCHIP_KIB (ceilDiv (onchipBytes s) 1024)

/-- Note the stripes that have become ready (R125). -/
def refreshArrivals (n : Nat) (t : Time) (s : State) : State :=
  let x := s.strm n
  s.setStrm n { x with frames := x.frames.map (fun f =>
    if f.processed then f
    else
      let c := ((List.range (stripeCount s n (frameRows s n f))).filter (stripeReady s n f)).length
      { f with arrivals := f.arrivals.take c ++ List.replicate (c - f.arrivals.length) t }) }

/-! ### Placement (R116, R117, R120) -/

/-- Context size of a stream in KiB (R116). -/
def ctxKib (s : State) (n : Nat) : Nat :=
  let e := if streamYuv s n then 0 else 16 * streamE s n
  let taps := (tapsOn s n).foldl (fun a k => let g := tapGeom s n k; if g.hout = g.h then a else a + 18 * g.wout) 0
  4 * ceilDiv (2048 + streamW s n * (e + 16) + taps) 4096

/-- Place one context: those placed (stream, PLACE, KiB), the KiB in use, and whether contexts spill from here on. -/
def placeStep (s : State) (a : List (Nat × Nat × Nat) × Nat × Bool) (n : Nat) : List (Nat × Nat × Nat) × Nat × Bool :=
  let k := ctxKib s n
  if streamClass s n = 0 then (a.1 ++ [(n, 3, k)], a.2.1, a.2.2)
  else if a.2.2 ∨ 6144 < a.2.1 + k then (a.1 ++ [(n, 2, k)], a.2.1, true)
  else (a.1 ++ [(n, 1, k)], a.2.1 + k, false)

/-- The placement of the contexts of every enabled stream (R117). -/
def placement (s : State) : List (Nat × Nat × Nat) × Nat × Bool :=
  ((List.range 4).flatMap (fun c => (liveStreams s).filter (fun n => streamClass s n == c))).foldl (placeStep s) ([], 0, false)

/-- Whether the placement is rejected (R117). -/
def placementFails (s : State) : Bool :=
  let l := (placement s).1
  l.any (fun x => x.2.1 == 3 && decide (448 < x.2.2))
  || decide (s.get 0 Reg.shut_SPILL_SIZE_KIB < (l.filter (fun x => x.2.1 == 2)).foldl (fun a x => a + x.2.2) 0)

/-- OVH of a stream (R120), with its context of `kib` KiB spilled or not. -/
def overhead (s : State) (n kib : Nat) (spilled : Bool) : Nat :=
  let lo := s.get n Reg.strm_SCHED_OVH_MIN
  if streamClass s n = 0 then lo
  else
    -- in units of 1/448 ns: a transit of 286 ns, and a spilled swap of 1.2 us + ctx / (64 GB/s) + ctx / (16 GB/s) over 0.7
    let fixed := 128128 + (if spilled then 768000 + 50 * (1024 * kib) else 0)
    max lo (ceilDiv (100 * fixed) (3200 * s.get n Reg.strm_SCHED_STRIPE_ROWS * streamW s n * streamE s n))

/-- Write a placement into CTX_STATUS, DEMAND and SHUT.STORE (R117, R120, R51). -/
def place (s : State) : State :=
  let p := placement s
  let s := s.set 0 Reg.shut_STORE_USED_KIB p.2.1
  let s := s.set 0 Reg.shut_STORE_SPILLED (p.1.filter (fun x => x.2.1 == 2)).length
  forEach (List.range 48) (fun n s =>
    match p.1.find? (fun x => x.1 == n) with
    | none =>
      let s := (s.set n Reg.strm_CTX_STATUS_PLACE 0).set n Reg.strm_CTX_STATUS_KIB 0
      (s.set n Reg.strm_CTX_STATUS_OVH 0).set n Reg.strm_DEMAND_DEMAND 0
    | some (_, pl, kib) =>
      let ovh := overhead s n kib (pl == 2)
      let s := s.setStrm n { s.strm n with ovh := ovh }
      let s := (s.set n Reg.strm_CTX_STATUS_PLACE pl).set n Reg.strm_CTX_STATUS_KIB kib
      let s := s.set n Reg.strm_CTX_STATUS_OVH (min ovh 31)
      s.setSat n Reg.strm_DEMAND_DEMAND
        (streamDemand (streamW s n) (streamH s n) (streamE s n) (s.get n Reg.strm_ADMIT_RATE_FPS_MHZ) ovh)) s

/-! ### Ends of frames -/

/-- Take a stream's rows out of the class 0 FIFOs and the row that holds a bench. -/
def dropFifo (n f : Nat) (s : State) : State :=
  forEach (List.range 6) (fun b s =>
    if pinnedStream s b = some n then
      let x := s.bench b
      s.setBench b { x with fifo := x.fifo.filter (fun e => e.1 != f),
                            row0 := if (x.row0.map (·.1)) = some f then none else x.row0 }
    else s) s

/-- A frame ends without output: nothing more of it is processed, its staged rows are freed, later rows are discarded, and a
choice of it that has not started is taken back (R126). -/
def endFrame (n f : Nat) (s : State) : State :=
  let s := dropOutputs n f s
  let s := dropFifo n f s
  let s := updFrame n f (fun x => { x with processed := true, discard := true, doomed := 0, rows := [], inDram := [] }) s
  let s := forEach (List.range 6) (fun b s =>
    let x := s.bench b
    if (x.next.map (·.1)) = some n then refreshBench b (s.setBench b { x with next := none }) else s) s
  refreshStrm n (refreshStage (purge n s))

/-- A frame is dropped by deadline (R126). -/
def dropFrame (n f : Nat) (s : State) : State :=
  shutEvent n 1 ((endFrame n f s).inc n Reg.strm_SCHED_COUNTS_DROPPED)

/-- End a frame now, or at the end of its stripe that runs (R126): `why` 1 counts as dropped by deadline, 2 does not count. -/
def doomFrame (n f why : Nat) (s : State) : State :=
  if (runningOn s n).isSome ∧ (firstFrame s n).map (·.no) = some f then
    updFrame n f (fun x => { x with doomed := why, discard := true }) s
  else if why = 1 then dropFrame n f s
  else endFrame n f s

/-! ### Commits of a stream (R133, R134) -/

/-- Whether the staged values change a frame-scoped field (R133, R157, R164, R205) or PAGE_CTRL.ENABLE (R134). -/
def strmScoped (s : State) (n : Nat) : Bool :=
  let h := s.hdr .strm n
  h.enableStaged != h.enable ||
  (s.windowKeys .strm n).any (fun a =>
    let off := a - winBase .strm n
    let m := rwsMaskAt a
    let m := if off = 0x40 then m &&& 0xFEE0FFFF else if off = 0x4C ∨ off = 0x50 ∨ off = 0x54 ∨ off = 0x58 then 0 else m
    let act := (Tbl.get (resetAt a) s.regs a).toNat
    let stg := (Tbl.get (resetAt a) s.stag a).toNat
    ((act ^^^ stg) &&& m) != 0)

/-- The nodes that every zone of an auto grid starts with (R173). -/
def defaultGrid (s : State) (n : Nat) : List Nat :=
  match (s.profile (s.get n Reg.strm_RAW_CFG_PROFILE)).classes[s.get n Reg.strm_AUTO_GRID_DEFAULT_CLASS]? with
  | some c => (List.range 2304).flatMap (fun _ => c.gains ++ [c.blend])
  | none => List.replicate 9216 0

/-- Slot size of the statistics ring in KiB (R217). -/
def statSlotKib (s : State) (n : Nat) : Nat :=
  let p := statParams s n
  4 * ceilDiv (41152 + roundTo 64 (4 * ceilDiv p.h p.rowGroup) + 1024 * s.get n Reg.strm_STAT_CFG_META_KIB) 4096

/-- What follows from new values in effect of a stream: `s` before and `s1` with those values and the contexts placed. -/
def strmSettled (n : Nat) (s s1 : State) : State :=
  let differs := fun (off : Nat) => s.word .strm n off != s1.word .strm n off
  let mode := s1.get n Reg.strm_COLOUR_CFG_GRID_MODE
  let starts := mode = 2 ∧ s.get n Reg.strm_COLOUR_CFG_GRID_MODE ≠ 2
  let x := s1.strm n
  let grid := if starts then defaultGrid s1 n else if mode = 2 then x.tables.grid else x.staged.grid
  let s1 := s1.setStrm n { x with tables := { x.staged with grid := grid }, rulePrev := [],
                                  gridBuilt := if starts then grid else x.gridBuilt,
                                  gridWaits := if mode = 2 ∧ !starts then x.gridWaits else none,
                                  frames := x.frames.map (fun f => if f.started then f else { f with arrivals := [] }) }
  let s1 := s1.set n Reg.strm_RAW_STATUS2_SHADE_VALID (s1.get n Reg.strm_RAW_CFG_SHADE_EN)
  -- R184
  let s1 := if differs 0x44 ∨ s.get n Reg.strm_COLOUR_CFG_TNR_EN ≠ s1.get n Reg.strm_COLOUR_CFG_TNR_EN
      ∨ s.get n Reg.strm_TNR_CFG_DEPTH ≠ s1.get n Reg.strm_TNR_CFG_DEPTH then s1.set n Reg.strm_COLOUR_STATUS_TNR_VALID 0 else s1
  -- R217, R218
  let s1 := s1.set n Reg.strm_STAT_RING_SLOTS_SLOT_KIB (statSlotKib s1 n)
  let s1 := if differs 0x404C ∨ differs 0x4050
      ∨ s.get n Reg.strm_STAT_RING_SLOTS_SLOTS ≠ s1.get n Reg.strm_STAT_RING_SLOTS_SLOTS then
      (s1.set n Reg.strm_STAT_RING_WR_INDEX 0).set n Reg.strm_STAT_RING_RD_INDEX 0 else s1
  -- R78
  let s1 := if differs 0x44 ∨ differs 0x48 then
      match entryOf s1 n 0 with
      | some (b, p, e) =>
        let k := if b = .cams then 40 + 16 * p + e else p
        s1.setAsm k { s1.asm k with refT := none, refLine := none, takeRef := none, fast := none }
      | none => s1
    else s1
  let s1 := clearShed n s1
  -- R134
  let s1 := if s1.enabled .strm n then s1 else forEach ((s1.strm n).frames.filter (fun x => !x.processed)) (fun x s => endFrame n x.no s) s1
  raiseIf ((placement s1).1.any (fun x => x.2.1 == 2)) .shut 0 5 s1

/-- Show a stream's new values in the registers that depend on them. -/
def strmShown (n : Nat) (t : Time) (s : State) : State :=
  forEach (List.range 6) refreshBench (refreshStrm n (refreshPace (refreshArrivals n t s)))

/-- What an applied commit of a stream does beside taking its values. -/
def settleStrm (n : Nat) (t : Time) (s s1 : State) : State := strmShown n t (commitDone .strm n (strmSettled n s s1))

/-- A boundary at which a pending commit of a stream is evaluated (R34, R133): it is applied, or rejected by the placement or
by admission. -/
def evalStrm (n : Nat) (t : Time) (s : State) : State :=
  let s1 := place (applyGroup .strm n s)
  if placementFails s1 then commitReject .strm n 0x04 0 s
  else if refusesWork s s1 then commitReject .strm n 0x08 0 s
  else settleStrm n t s s1

/-- A context load of a stream starts; `first`: for the first stripe of a frame (R133). -/
def strmBoundary (n : Nat) (first : Bool) (t : Time) (s : State) : State :=
  let h := s.hdr .strm n
  if h.pendingCommit ∧ h.checked ∧ (first ∨ !strmScoped s n) then evalStrm n t s else s

/-- A frame of a stream has ended: a pending commit that takes the stream out of service is evaluated, unless a frame is in
progress (R134). -/
def strmStops (n : Nat) (t : Time) (s : State) : State :=
  let h := s.hdr .strm n
  let busy := (s.strm n).frames.any (fun x => x.started && !x.processed)
  if h.pendingCommit ∧ h.checked ∧ h.enable ∧ !h.enableStaged ∧ !busy then evalStrm n t s else s

/-! ### The first stripe of a frame -/

/-- The grid of a frame whose first context load starts (R174). -/
def loadGrid (n : Nat) (s : State) : State :=
  if s.get n Reg.strm_COLOUR_CFG_GRID_MODE ≠ 2 then s
  else
    let x := s.strm n
    match x.gridWaits with
    | some g => s.setStrm n { x with tables := { x.tables with grid := g }, gridWaits := none }
    | none =>
      if x.frames.any (fun f => f.grid.isSome) then lutmEvent n 3 (s.inc n Reg.strm_COLOUR_STATUS_STALE) else s

/-- Merge ratio of exposure `k` and whether it was clamped (R147). -/
def mergeRatio (s : State) (n : Nat) (tk : Ticket) (k : Nat) : (Nat × Nat) × Bool :=
  if k = 0 then ((1, 1), false)
  else
    let (a, b) := if s.flag n Reg.strm_RAW_CFG_DCG ∧ k = 1 then (s.get n Reg.strm_DCG_RATIO_RATIO, 65536)
      else (echoExp tk 0, echoExp tk k)
    if b = 0 ∨ 4096 * b < a then ((4096, 1), true) else if a < b then ((1, 1), true) else ((a, b), false)

/-- Whether a buffer fits a tap (R200). -/
def bufFits (s : State) (n k d : Nat) : Bool :=
  let g := tapGeom s n k
  let b := s.buf d
  b.width == g.wout && b.height == g.hout && b.fmt == s.get n (Reg.strm_TAP_CTRL_FORMAT.at (0x20 * k))

/-- A tap takes a frame at its first stripe (R199, R200). -/
def tapTake (n f k : Nat) (s : State) : State :=
  let d := 0x20 * k
  let dest := s.get n (Reg.strm_TAP_CTRL_DEST.at d)
  let target := s.get n (Reg.strm_TAP_CTRL_TARGET.at d)
  let add := fun (x : Nat) (s : State) =>
    updFrame n f (fun y => { y with taps := y.taps ++ [{ tap := k, dest := dest, target := x, next := 0 }] }) s
  if dest ≠ 0 then add target s
  else
    match produceBuf (target % 64) 1 s with
    | (none, s) => evtEvent n k 3 (s.inc n (Reg.strm_TAP_STATUS_NO_BUFFER.at d))
    | (some b, s) =>
      if bufFits s n k b then add b s
      else evtEvent n k 4 ((returnBuf b s).inc n (Reg.strm_TAP_STATUS_MISMATCH.at d))

/-- Address of a slot of the statistics ring. -/
def statSlotAt (s : State) (n slot : Nat) : Nat :=
  addrReg s n Reg.strm_STAT_RING_LO_ADDR Reg.strm_STAT_RING_HI_ADDR + slot * (1024 * s.get n Reg.strm_STAT_RING_SLOTS_SLOT_KIB)

/-- The slot that a record claims, or its loss (R218). -/
def statClaim (n f : Nat) (s : State) : State :=
  if s.get n Reg.strm_STAT_CFG_EN = 0 then s
  else
    let slots := max 1 (s.get n Reg.strm_STAT_RING_SLOTS_SLOTS)
    let held := ((s.strm n).frames.filter (fun x => x.slot.isSome)).length
    let w := (s.get n Reg.strm_STAT_RING_WR_INDEX + held) % slots
    if (w + 1) % slots = s.get n Reg.strm_STAT_RING_RD_INDEX then evtEvent n 0 1 (s.inc n Reg.strm_STAT_COUNTS_LOST)
    else updFrame n f (fun x => { x with slot := some w }) s

/-- The first stripe of a frame starts on a bench. -/
def startFrame (b n f : Nat) (s : State) : State :=
  let tk := frameTicket s n f
  let raw := !((findFrame s n f).map (·.yuv)).getD false
  let rs := (List.range (streamE s n)).map (mergeRatio s n tk)
  let clamped := raw && decide (1 < streamE s n) && rs.any (·.2)
  let s := updCtx n (fun _ => { Ctx.zero with ratios := rs.map (·.1), bench := b }) s
  let s := s.set n Reg.strm_RAW_STATUS2_RATIO_CLAMPED (bit clamped)
  let s := if clamped then benchEvent b n 1 (s.inc b Reg.bench_RAW_COUNTS_CLAMPED) else s
  let s := s.set n Reg.strm_COLOUR_STATUS_GRID_ACTIVE (s.get n Reg.strm_COLOUR_CFG_GRID_MODE)
  let s := updFrame n f (fun x => { x with started := true }) s
  let s := forEach ((tapsOn s n).filter (fun k => tapTakes s n k f)) (tapTake n f) s
  statClaim n f s

/-! ### Choosing and starting stripes (R119, R125, R126) -/

/-- Lines of stripe `i` of a frame (R114). -/
def linesOfStripe (s : State) (n : Nat) (x : Frame) (i : Nat) : Nat :=
  min (stripeLines s n) (frameRows s n x - stripeLines s n * i)

/-- The slack of a stream. -/
def slackOf (s : State) (n : Nat) : Time := usT (s.get n Reg.strm_SLACK_SLACK_US)

/-- The deadline D of the next stripe of a stream's first unprocessed frame, if that stripe is ready (R126). -/
def deadline (s : State) (n : Nat) : Option (Frame × Time) :=
  match firstFrame s n with
  | none => none
  | some x =>
    match x.arrivals[x.stripe]? with
    | none => none
    | some a => some (x, a + linesOfStripe s n x x.stripe * x.tk.rowPeriod * 256 + slackOf s n)

/-- Whether a stream's next stripe is a candidate on a bench, with its key: class, deadline and stream (R125, R131). -/
def candidate (s : State) (b n : Nat) : Option (Nat × Time × Nat) :=
  if s.enabled .strm n ∧ streamClass s n ≠ 0 ∧ !chosen s n
      ∧ (s.get n Reg.strm_SCHED_AFFINITY = 0 ∨ s.get n Reg.strm_SCHED_BENCH = b) ∧ allowedOn s n b (modeNow s) then
    match deadline s n with
    | some (x, d) => if x.doomed = 0 then some (streamClass s n, d, n) else none
    | none => none
  else none

/-- The lesser of two keys (class, deadline, stream). -/
def lesser (a c : Nat × Time × Nat) : Nat × Time × Nat :=
  if c.1 < a.1 ∨ (c.1 = a.1 ∧ (c.2.1 < a.2.1 ∨ (c.2.1 = a.2.1 ∧ c.2.2 < a.2.2))) then c else a

/-- The stream that a bench chooses (R125). -/
def bestFor (s : State) (b : Nat) : Option Nat :=
  ((List.range 48).filterMap (candidate s b)).foldl
    (fun (a : Option (Nat × Time × Nat)) c => match a with
      | none => some c
      | some k => some (lesser k c)) none |>.map (·.2.2)

/-- A decision point of a bench: it chooses its next stripe and starts loading that stream's context. The load is a boundary
for the stream's commit, after which the choice is made again if the stripe is a candidate no longer (R125, R133). -/
def choiceLoop (b : Nat) (t : Time) : Nat → State → State
  | 0, s => s
  | k + 1, s =>
    if (s.bench b).next.isSome then s
    else
      match bestFor s b with
      | none => s
      | some n =>
        let first := match firstFrame s n with
          | some x => x.stripe == 0
          | none => false
        let s := strmBoundary n first t s
        match candidate s b n with
        | none => choiceLoop b t k s
        | some _ =>
          let s := if first then loadGrid n s else s
          refreshBench b (s.setBench b { s.bench b with next := some (n, false) })

/-- A decision point of a bench. -/
def choose (b : Nat) (t : Time) (s : State) : State := choiceLoop b t 49 s

/-- Every idle bench looks for a stripe (R125). -/
def kick (t : Time) (s : State) : State :=
  forEach (List.range 6) (fun b s => if (s.bench b).run.isNone then choose b t s else s) s

/-- Rows of a stripe that a FORMAT 11 tap takes: the first one and how many. -/
def cropRows (s : State) (n k lo hi : Nat) : Nat × Nat :=
  let g := tapGeom s n k
  (max lo g.y0, min hi (g.y0 + g.h) - max lo g.y0)

/-- A stripe starts: raw codec taps reserve their segment (R230). -/
def reserveSegs (n : Nat) (x : Frame) (s : State) : State :=
  let lo := stripeLines s n * x.stripe
  let hi := lo + linesOfStripe s n x x.stripe
  forEach (x.taps.filter (fun ft => ft.dest == 3)) (fun ft s =>
    let g := tapGeom s n ft.tap
    let (r0, c) := cropRows s n ft.tap lo hi
    if c = 0 then s
    else segReserve ft.target
      { stream := n, stripe := x.stripe, frameNo := x.no, firstRow := r0, rowCount := c,
        exp := s.get n (Reg.strm_TAP_CTRL_EXP.at (0x20 * ft.tap)), mode := s.get ft.target Reg.zraw_CFG_NEAR, bits := max 10 x.bits,
        width := g.w, reserve := 0, wrapped := false, rows := [], last := decide (r0 + c = min (g.y0 + g.h) (frameRows s n x)) } s) s

/-- The chosen stripe starts on its bench (R119). -/
def startStripe (b : Nat) (t : Time) (s : State) : State :=
  match (s.bench b).next with
  | none => s
  | some (n, _) =>
    match firstFrame s n with
    | none => refreshBench b (s.setBench b { s.bench b with next := none })
    | some x =>
      let rows := linesOfStripe s n x x.stripe
      let s := s.setBench b { s.bench b with run := some n, left := rows, next := none }
      let s := if x.stripe = 0 then startFrame b n x.no s else s
      let s := match findFrame s n x.no with
        | some x => reserveSegs n x s
        | none => s
      let s := refreshStrm n (refreshBench b s)
      if rows ≤ 16 then choose b t s else s

/-- SWAP_DONE: the context load of a bench's next stripe has ended (R119). -/
def swapDone (b : Nat) (t : Time) (s : State) : State :=
  let x := s.bench b
  match x.next with
  | none => s
  | some (n, loaded) =>
    if loaded then s
    else if x.run.isSome then s.setBench b { x with next := some (n, true) }
    else startStripe b t (s.inc n Reg.strm_SCHED_COUNTS_EXPOSED)

/-- DEADLINE_EXPIRED: a stripe has not completed by D + SLACK_US (R126). -/
def deadlineExpired (n : Nat) (t : Time) (s : State) : State :=
  match deadline s n with
  | none => s
  | some (x, d) => if t < d + slackOf s n ∨ x.doomed ≠ 0 ∨ streamClass s n = 0 then s
    else kick t (strmStops n t (doomFrame n x.no 1 s))

/-! ### Rows arrive (R80, R123, R132) -/

/-- A staging ring or a class 0 FIFO has no room for a row: the frame ends without output (R123, R132). -/
def overflow (n f : Nat) (late : Bool) (s : State) : State :=
  let s := s.inc n Reg.strm_SCHED_COUNTS_OVERFLOW
  if late then
    let s := flagFrame n f flagLate (shutEvent n 3 s)
    updFrame n f (fun x => { x with doomed := 2, discard := true }) s
  else doomFrame n f 2 (shutEvent n 2 s)

/-- Give the rows of a class 0 frame that are decided to the FIFO of its bench (R129, R132). -/
def queueRows (n f : Nat) : Nat → State → State
  | 0, s => s
  | k + 1, s =>
    match findFrame s n f with
    | none => s
    | some x =>
      let b := s.get n Reg.strm_SCHED_BENCH
      if x.discard ∨ frameRows s n x ≤ x.queued ∨ !(List.range (streamE s n)).all (fun e => rowDecided x e x.queued) then s
      else if 32 ≤ (s.bench b).fifo.length then overflow n f true s
      else
        let s := s.setBench b { s.bench b with fifo := (s.bench b).fifo ++ [(f, x.queued)] }
        queueRows n f k (updFrame n f (fun x => { x with queued := x.queued + 1 }) s)

/-- What follows a change of the rows a frame has. -/
def rowsChanged (n f : Nat) (t : Time) (s : State) : State :=
  if streamClass s n = 0 then refreshStrm n (queueRows n f 33 s)
  else refreshStrm n (kick t (refreshStage (refreshArrivals n t s)))

/-- Row `r` of exposure `k` leaves the assembler. `toDram` says that it passes to the staging ring before a bench takes it, and
`queued` how many rows each raw codec engine has queued (R122, R233). -/
def rowArrives (n f k r : Nat) (codes : List Nat) (toDram : Bool) (queued : List Nat) (t : Time) (s : State) : State :=
  match findFrame s n f with
  | none => s
  | some x =>
    if x.discard ∨ x.processed ∨ streamH s n ≤ r then s
    else
      let count := fun (y : Frame) => { y with arrived := y.arrived.set k (r + 1) }
      let keep := fun (y : Frame) => { count y with rows := Tbl.put [] (rowKey k r) codes y.rows }
      if streamClass s n = 0 then rowsChanged n f t (updFrame n f keep s)
      else
        let depth := max 1 (s.get n Reg.strm_STAGE_ROWS_ROWS)
        if depth ≤ stagedRows s n k then kick t (overflow n f false s)
        else
          let slot := Tbl.get 0 (s.strm n).ring k % depth
          let s := s.setStrm n { s.strm n with ring := Tbl.put 0 k ((slot + 1) % depth) (s.strm n).ring }
          let size := slotBytes s n
          if toDram ∨ 2097152 < onchipBytes s + size then
            let packed := packRow x.bits codes
            let a := slotAt s n k slot
            let (data, idx, s) := if s.get n Reg.strm_SCHED_STAGE_ZRAW = 1 then stageEncode queued x.bits size codes packed s
              else (packed, 0, s)
            let s := dramWrite 0 a data { s with stageIdx := Tbl.put 0 a idx s.stageIdx }
            rowsChanged n f t (updFrame n f (fun y => { count y with inDram := Tbl.put 0 (rowKey k r) (slot + 1) y.inDram }) s)
          else rowsChanged n f t (updFrame n f keep s)

/-- Row `r` of exposure `k` above 0 is lost (R70). -/
def rowLost (n f k r : Nat) (t : Time) (s : State) : State :=
  rowsChanged n f t (updFrame n f (fun x => { x with arrived := x.arrived.set k (r + 1), missing := insertNat (rowKey k r) x.missing }) s)

/-- No more rows of exposure `k` come (R70, R72). -/
def exposureEnds (n f k : Nat) (t : Time) (s : State) : State :=
  rowsChanged n f t (updFrame n f (fun x => { x with done := x.done.set k true }) s)

end Sys2Proof.Machine
end

