-- ==== Sys2Proof/Machine/Bench.lean ====
section
/-! DEFINITION. Rows through a bench: the raw stages, the colour stages, statistics and zone rules, taps, and the ends of stripes
and frames (R115, R121, R124, R138-R156, R162-R184, R191-R218). -/

namespace Sys2Proof.Machine

/-! ### Rows in (R142, R149, R156, R234) -/

/-- What a row that reads as poisoned is replaced by: the previous row of the exposure, or black for row 0 (R156). -/
def poisonSubstitute (s : State) (n : Nat) (x : Frame) (k r : Nat) : List Nat :=
  if r = 0 then List.replicate (streamW s n) 0
  else
    let before := Tbl.get [] x.rows (rowKey k (r - 1))
    if before.isEmpty then Tbl.get [] (s.strm n).ctx.prev k else before

/-- Read a row back from the staging ring (R156, R234). -/
def readBack (b n f k r : Nat) (s : State) : State :=
  match findFrame s n f with
  | none => s
  | some x =>
    let key := rowKey k r
    let slot := Tbl.get 0 x.inDram key
    if slot = 0 then s
    else
      let a := slotAt s n k (slot - 1)
      let w := streamW s n
      let idx := Tbl.get 0 s.stageIdx a
      let size := if idx = 0 then ceilDiv (w * x.bits) 8 else 64 * idx
      let (data, bad, s) := dramRead 0 a size s
      let (codes, s) := if bad then (none, s) else if idx = 0 then (some (unpackRow x.bits w data), s) else stageDecode x.bits w data s
      let s := match codes with
        | some _ => s
        | none => benchEvent b n 3 (flagFrame n f flagPoisoned s)
      let l := codes.getD (poisonSubstitute s n x k r)
      updFrame n f (fun y => { y with inDram := Tbl.put 0 key 0 y.inDram, rows := Tbl.put [] key l y.rows }) s

/-- A bench takes row `r` of exposure `k`: its codes, or none for a missing row. -/
def takeRow (b n f k r : Nat) (s : State) : Option (List Nat) × State :=
  let s := readBack b n f k r s
  match findFrame s n f with
  | none => (none, s)
  | some x =>
    if rowMissing x k r then (none, s)
    else
      let codes := Tbl.get [] x.rows (rowKey k r)
      let s := updFrame n f (fun y => { y with rows := Tbl.put [] (rowKey k r) [] y.rows }) s
      (some codes, updCtx n (fun c => { c with prev := Tbl.put [] k codes c.prev }) s)

/-- A bench takes row `r` of every exposure of a frame. -/
def takeRows (b n f r : Nat) (s : State) : List (Nat × Option (List Nat)) × State :=
  (List.range (streamE s n)).foldl (fun (a : List (Nat × Option (List Nat)) × State) k =>
    let (c, s) := takeRow b n f k r a.2
    (a.1 ++ [(k, c)], s)) ([], s)

/-- Rows of exposures above 0 that are missing (R149). -/
def noteMissing (b n f : Nat) (rows : List (Nat × Option (List Nat))) (s : State) : State :=
  let m := (rows.filter (fun e => e.1 != 0 && e.2.isNone)).length
  if m = 0 then s
  else
    let first := (s.strm n).ctx.missing = 0
    let s := flagFrame n f flagHdrPartial (updCtx n (fun c => { c with missing := c.missing + m }) s)
    let s := s.set n Reg.strm_RAW_STATUS2_HDR_PARTIAL 1
    if first then benchEvent b n 0 (s.inc b Reg.bench_RAW_COUNTS_PARTIAL) else s

/-! ### The raw stages (R138) -/

/-- The defect stage on a row of one exposure, with its counts (R143-R146). -/
def rawIn (b n : Nat) (p : RawParams) (r : Nat) (a : List (Nat × List Samp) × State) (e : Nat × Option (List Nat)) :
    List (Nat × List Samp) × State :=
  match e.2 with
  | none => a
  | some codes =>
    let up := (s0 a).corr.find? (fun q => decide (2 ≤ r) && q.1 == rowKey e.1 (r - 2))
    let (row, cnt) := defectRow p r (up.map (·.2)) (blackRow p e.1 r codes)
    let s := updCtx n (fun c => { c with corr := Tbl.put [] (rowKey e.1 r) row (Tbl.dropIf (fun q => q == rowKey e.1 (r - 4)) c.corr),
                                         dyn := c.dyn + cnt.dyn, unresolved := c.unresolved + cnt.unresolved }) a.2
    let s := raiseIf (decide (0 < cnt.unresolved)) .bench b 2
      (if 0 < cnt.unresolved then s.set b Reg.bench_EVENT_SRC_STREAM n else s)
    ((e.1, row) :: a.1, s)
where
  /-- The context. -/
  s0 (a : List (Nat × List Samp) × State) : Ctx := (a.2.strm n).ctx

/-- Raw noise reduction for row `y`, with its neighbours by reflection (R152, R154). -/
def nrAt (p : RawParams) (c : Ctx) (y : Nat) : List Samp :=
  let at' := fun (i : Int) => Tbl.get [] c.shaded (reflect p.height i)
  nrRow p (at' ((y : Int) - 2)) (at' y) (at' ((y : Int) + 2))

/-- Demosaic for row `y`, with its neighbours by reflection (R153, R154). -/
def demosaicAt (p : RawParams) (c : Ctx) (y : Nat) : List Pix :=
  demosaicRow p y (([-2, -1, 0, 1, 2] : List Int).map (fun d => Tbl.get [] c.nr (reflect p.height ((y : Int) + d))))

/-- The rows that leave a delay of `d` rows after row `r` of `h` has entered: all that are left once it is the last (R115, R154). -/
def rowsOut (d r h : Nat) : List Nat :=
  let lo := if d ≤ r then r - d else 0
  if r + 1 = h then (List.range (h - lo)).map (· + lo) else if d ≤ r then [r - d] else []

/-- A raw row through the stages up to demosaic: the output rows that follow. -/
def rawRow (b n r : Nat) (x : Frame) (rows : List (Nat × Option (List Nat))) (s : State) : List (Nat × List Pix) × State :=
  let p := rawParams s n x
  let (corr, s) := rows.foldl (rawIn b n p r) ([], s)
  let shaded := shadeRow p r (mergeRow p r corr)
  let s := updCtx n (fun c => { c with shaded := Tbl.put [] r shaded (Tbl.dropIf (fun q => q + 8 ≤ r) c.shaded) }) s
  let s := forEach (rowsOut 2 r p.height) (fun y s =>
    updCtx n (fun c => { c with nr := Tbl.put [] y (nrAt p c y) (Tbl.dropIf (fun q => q + 8 ≤ y) c.nr) }) s) s
  ((rowsOut 4 r p.height).map (fun y => (y, demosaicAt p (s.strm n).ctx y)), s)

/-- A YUV row: held for the same four rows (R139). -/
def yuvIn (n r : Nat) (x : Frame) (codes : List Nat) (s : State) : List (Nat × List Pix) × State :=
  let p := rawParams s n x
  let s := updCtx n (fun c => { c with yuvRows := Tbl.put [] r (yuvRow p codes) (Tbl.dropIf (fun q => q + 8 ≤ r) c.yuvRows) }) s
  ((rowsOut 4 r p.height).map (fun y => (y, Tbl.get [] (s.strm n).ctx.yuvRows y)), s)

/-! ### Temporal noise reduction (R183, R184) -/

/-- Address of row `y` of the Y plane and of the CbCr plane of history buffer `k`. -/
def tnrAddrs (s : State) (n k y : Nat) : Nat × Nat :=
  let w := pixelWidth s n * (1 + s.get n Reg.strm_TNR_CFG_DEPTH)
  let a := addrReg s n (Reg.strm_TBL_ADDR_LO_ADDR.at (8 * (3 + k))) (Reg.strm_TBL_ADDR_HI_ADDR.at (8 * (3 + k)))
  (a + y * w, a + (streamH s n + y) * w)

/-- Codes of a history row: bytes, or 10-bit codes MSB-aligned in 16-bit words. -/
def histCodes (depth : Nat) (l : List Byte) : List Nat :=
  if depth = 0 then l.map (·.toNat) else (List.range (l.length / 2)).map (fun i => leAt l (2 * i) 2 / 64)

/-- Bytes of a history row. -/
def histBytesOf (depth : Nat) (l : List Nat) : List Byte :=
  if depth = 0 then l.flatMap (bytesLE 1) else l.flatMap (fun v => bytesLE 2 (64 * v))

/-- Pairs of a list. -/
def pairsOf : List Nat → List (Nat × Nat)
  | a :: b :: t => (a, b) :: pairsOf t
  | _ => []

/-- C7 on row `y` of a frame. -/
def tnrRow (n y : Nat) (p : ColourParams) (row : List Pix) (s : State) : List Pix × State :=
  if !p.tnrEn then (row, s)
  else
    let k := (s.strm n).tnrRead
    let size := p.width * (1 + p.tnrDepth)
    let (a, c) := tnrAddrs s n k y
    let valid := s.flag n Reg.strm_COLOUR_STATUS_TNR_VALID
    let bad := valid && (rangePoisoned s a size || rangePoisoned s c size)
    let s := if bad then lutmEvent n 4 s else s
    let hist := if valid ∧ !bad then
        some (histCodes p.tnrDepth (memBytes s.dram a size), pairsOf (histCodes p.tnrDepth (memBytes s.dram c size)))
      else none
    let (out, hy, hc) := stageTnr p hist row
    let (a', c') := tnrAddrs s n (1 - k) y
    let s := dramWrite 0 a' (histBytesOf p.tnrDepth hy) s
    (out, dramWrite 0 c' (histBytesOf p.tnrDepth (hc.flatMap (fun e => [e.1, e.2]))) s)

/-! ### Zone rules and EVT pins (R212-R215) -/

/-- Whether any enabled rule that drives pin `p` is true (R214). -/
def pinRule (s : State) (p : Nat) : Bool :=
  (List.range 48).any (fun n => (List.range 16).any (fun r =>
    let d := 0x10 * r
    s.get n (Reg.strm_RULE_CFG_EN.at d) == 1 && s.get n (Reg.strm_RULE_CFG_PIN_EN.at d) == 1
      && s.get n (Reg.strm_RULE_CFG_PIN.at d) == p && getBit (s.get n Reg.strm_RULE_STATE_STATE) r))

/-- The level of EVT pin `p` (R214, R215, R221). -/
def pinLevel (s : State) (p : Nat) : Bool :=
  if s.get 0 (Reg.evt_PIN_CFG_ENABLE.at (4 * p)) = 0 then false
  else if getBit (s.get 0 Reg.evt_PIN_STATE_FAILSAFE) p then
    match s.get 0 (Reg.evt_PIN_CFG_FAILSAFE.at (4 * p)) with
    | 0 => getBit (s.get 0 Reg.evt_PIN_STATE_ASSERTED) p
    | 1 => true
    | _ => false
  else pinRule s p

/-- Drive the EVT pins. -/
def refreshPins (s : State) : State :=
  s.set 0 Reg.evt_PIN_STATE_ASSERTED ((List.range 8).foldl (fun a p => a + bit (pinLevel s p) * 2 ^ p) 0)

/-- The last row of a zone row (R170). -/
def zoneBottom (j h : Nat) : Nat := (j + 1) * h / 36 - 1

/-- What a rule's metric reads, with l for METRIC 2 (R212). -/
def ruleMetric (s : State) (n r : Nat) : Int × Int :=
  let d := 0x10 * r
  let z := regionOf (s.strm n).ctx.acc (s.get n (Reg.strm_RULE_REGION_I0.at d)) (s.get n (Reg.strm_RULE_REGION_I1.at d))
    (s.get n (Reg.strm_RULE_REGION_J0.at d)) (s.get n (Reg.strm_RULE_REGION_J1.at d))
  let l := metricLog z
  match s.get n (Reg.strm_RULE_CFG_METRIC.at d) with
  | 0 => (l, l)
  | 1 => (metricClip z, l)
  | _ =>
    match (s.strm n).rulePrev.find? (fun e => e.1 == r) with
    | some e => (((l - e.2).natAbs : Int), l)
    | none => (0, l)

/-- Evaluate rule `r` of a stream (R212-R214). -/
def evalRule (n r : Nat) (s : State) : State :=
  let d := 0x10 * r
  let (m, l) := ruleMetric s n r
  let lvl := fun (f : Fld) => if s.get n (Reg.strm_RULE_CFG_METRIC.at d) = 1 then (s.get n (f.at d) : Int) else signedAt s n (f.at d)
  let st := s.get n Reg.strm_RULE_STATE_STATE
  let old := getBit st r
  let new := ruleNext (s.flag n (Reg.strm_RULE_CFG_DIR.at d)) (lvl Reg.strm_RULE_LEVEL_THRESH) (lvl Reg.strm_RULE_LEVEL_HYST) m old
  let x := s.strm n
  let s := s.setStrm n { x with rulePrev := (x.rulePrev.filter (fun e => e.1 != r)) ++ [(r, l)],
                                ctx := { x.ctx with ruleChanged := if new != old then setBit x.ctx.ruleChanged r true
                                                                   else x.ctx.ruleChanged } }
  let s := s.set n Reg.strm_RULE_STATE_STATE (setBit st r new)
  let p := s.get n (Reg.strm_RULE_CFG_PIN.at d)
  let s := if s.get n (Reg.strm_RULE_CFG_PIN_EN.at d) = 1 then
      s.set 0 Reg.evt_PIN_STATE_FAILSAFE (setBit (s.get 0 Reg.evt_PIN_STATE_FAILSAFE) p false) else s
  refreshPins (if new != old then evtEvent n r 2 s else s)

/-- The rules whose region's bottom row is `y` are evaluated (R213). -/
def rulesAt (n f y : Nat) (s : State) : State :=
  if (findFrame s n f).all (fun x => x.closed == 2 || x.doomed != 0) then s
  else
    forEach ((List.range 16).filter (fun r => s.get n (Reg.strm_RULE_CFG_EN.at (0x10 * r)) == 1
      && zoneBottom (s.get n (Reg.strm_RULE_REGION_J1.at (0x10 * r))) (streamH s n) == y)) (evalRule n) s

/-! ### Taps (R191, R199-R204) -/

/-- Change what a tap does with a frame. -/
def updTap (n f k : Nat) (g : FrameTap → FrameTap) (s : State) : State :=
  updFrame n f (fun x => { x with taps := x.taps.map (fun t => if t.tap = k then g t else t) }) s

/-- A tap has delivered its last row of a frame (R199). -/
def tapFinish (n f : Nat) (ft : FrameTap) (s : State) : State :=
  let s := updFrame n f (fun x => { x with taps := x.taps.filter (fun t => t.tap != ft.tap),
                                           tapsDone := if ft.dest = 0 then x.tapsDone ++ [(ft.tap, ft.target)] else x.tapsDone }) s
  if ft.dest = 0 then s else s.inc n (Reg.strm_TAP_STATUS_FRAMES.at (0x20 * ft.tap))

/-- Row `o` of a tap goes to its destination, with a row of the CbCr plane where one comes with it (R199, R201-R203). -/
def tapDeliver (n f : Nat) (ft : FrameTap) (o : Nat) (row : List Byte) (chroma : Option (Nat × List Byte)) (t : Time) (s : State) :
    State :=
  match ft.dest with
  | 0 =>
    let b := s.buf ft.target
    let s := dramWrite 0 (b.rowAddr o) row s
    match chroma with
    | some (j, c) => dramWrite 0 (b.chromaAddr j) c s
    | none => s
  | 1 => directRow ft.target n f o row chroma s
  | 2 => encRow ft.target n f t (if o = 0 then pictureStart ft.target n f s else s)
  | _ => s

/-- Pack row `o` of a tap (R196, R197): its bytes, a CbCr row where it completes one, and the chroma to keep for the next row. -/
def tapPack (p : TapParams) (held : List Int × List Int) (o : Nat) (row : List Pix) :
    List Byte × Option (Nat × List Byte) × (List Int × List Int) :=
  if fmtYuv p.fmt then
    let r := yuvOut p row
    if p.fmt ≤ 1 then
      if o % 2 = 0 then (packY p r, none, (r.cb, r.cr))
      else (packY p r, some (o / 2, packC p (meanC held.1 r.cb) (meanC held.2 r.cr)), ([], []))
    else (packY p r, some (o, packC p r.cb r.cr), ([], []))
  else (packRgb p row, none, ([], []))

/-- Row `o` of a tap leaves its scaler. -/
def tapEmit (n f k : Nat) (o : Nat) (t : Time) (s : State) : State :=
  match (findFrame s n f).bind (fun x => x.taps.find? (fun q => q.tap == k)) with
  | none => s
  | some ft =>
    let p := tapParams s n k
    let c := (s.strm n).ctx
    let rows := (c.tapRows.filter (fun e => e.1 / 16384 == k)).map (fun e => (e.1 % 16384, e.2))
    let (row, chroma, keep) := tapPack p (Tbl.get ([], []) c.chroma k) o (vscale p rows o)
    let s := updCtx n (fun c => { c with chroma := Tbl.put ([], []) k keep c.chroma }) s
    let s := tapDeliver n f ft o row chroma t s
    let s := updTap n f k (fun q => { q with next := o + 1 }) s
    if o + 1 = p.hout then tapFinish n f ft s else s

/-- Row `y` of the colour stages enters tap `k`. -/
def tapRow (n f : Nat) (y : Nat) (row : List Pix) (t : Time) (k : Nat) (s : State) : State :=
  match (findFrame s n f).bind (fun x => x.taps.find? (fun q => q.tap == k)) with
  | none => s
  | some ft =>
    let p := tapParams s n k
    if p.fmt = 11 ∨ y < p.y0 ∨ p.y0 + p.h ≤ y then s
    else
      let c := y - p.y0
      let key := 16384 * k + c
      let old := fun (q : Nat) => q / 16384 == k && decide (q + 8 < key)
      let s := updCtx n (fun x => { x with tapRows := Tbl.put [] key (hscale p row) (Tbl.dropIf old x.tapRows) }) s
      let outs := ((List.range (p.hout - ft.next)).map (· + ft.next)).takeWhile (fun o => decide (lastRowFor p o ≤ c))
      forEach outs (fun o s => tapEmit n f k o t s) s

/-- Row `r` of the unpacked codes enters the FORMAT 11 taps (R198, R203). A missing row has no stated codes: each is free. -/
def codeTaps (n f r backlog : Nat) (rows : List (Nat × Option (List Nat))) (t : Time) (s : State) : State :=
  match findFrame s n f with
  | none => s
  | some x =>
    forEach (x.taps.filter (fun q => s.get n (Reg.strm_TAP_CTRL_FORMAT.at (0x20 * q.tap)) == 11)) (fun ft s =>
      let p := tapParams s n ft.tap
      if r < p.y0 ∨ p.y0 + p.h ≤ r then s
      else
        let e := s.get n (Reg.strm_TAP_CTRL_EXP.at (0x20 * ft.tap))
        let (codes, s) := match (rows.find? (fun q => q.1 == e)).bind (·.2) with
          | some c => (c, s)
          | none => ((List.range (streamW s n)).map (fun i => Config.openCode s.free i % 2 ^ x.bits), s.fresh)
        let s := if ft.dest = 3 then segRow ft.target n f backlog ((codes.drop p.x0).take p.w) s
          else tapDeliver n f ft (r - p.y0) (packCfa p codes) none t s
        if r + 1 = p.y0 + p.h then tapFinish n f ft s else s) s

/-! ### Rows out -/

/-- Row `y` leaves stage 7: statistics, colour stages, rules and taps (R162, R207, R213). -/
def pixelRow (n f : Nat) (y : Nat) (row : List Pix) (t : Time) (s : State) : State :=
  match findFrame s n f with
  | none => s
  | some x =>
    let p := colourParams s n x
    let c3 := rowC3 p y row
    let s := updCtx n (fun c => { c with acc := c.acc.addRow (statParams s n) y (if x.yuv then c3 else row) }) s
    let (out, s) := tnrRow n y p (rowC6 p y c3) s
    let s := rulesAt n f y s
    forEach [0, 1, 2, 3] (tapRow n f y out t) s

/-- Row `r` of a frame goes through a bench (R138). -/
def processRow (b n f r backlog : Nat) (t : Time) (s : State) : State :=
  let (rows, s) := takeRows b n f r s
  let s := noteMissing b n f rows s
  let s := codeTaps n f r backlog rows t s
  match findFrame s n f with
  | none => s
  | some x =>
    let (outs, s) := if x.yuv then yuvIn n r x (((rows.head?).bind (·.2)).getD []) s else rawRow b n r x rows s
    let s := updCtx n (fun c => { c with row := r + 1, bench := b, flushed := decide (r + 1 = frameRows s n x) }) s
    forEach outs (fun o s => pixelRow n f o.1 o.2 t s) s

/-! ### Ends of frames -/

/-- Zones of a frame as the auto grid sees them (R170, R172). -/
def gridZones (s : State) (n : Nat) : Array (Option ((Int × Int) × List Nat)) :=
  let p := s.profile (s.get n Reg.strm_RAW_CFG_PROFILE)
  let acc := (s.strm n).ctx.acc
  ((List.range 2304).map (fun z =>
    match zoneUV (s.get n Reg.strm_AUTO_GRID_MIN_VALID) (Tbl.get ZoneAcc.zero acc.zones z) with
    | none => none
    | some uv => (zoneTarget p.classes p.locusTol uv).map (fun g => (uv, g)))).toArray

/-- The auto grid that a frame builds (R173, R174). -/
def buildGrid (s : State) (n : Nat) : List Nat :=
  nextGrid (s.get n Reg.strm_AUTO_GRID_EDGE_TOL) (s.get n Reg.strm_AUTO_GRID_TAU) (s.strm n).gridBuilt.toArray (gridZones s n)

/-- Write the registers that report on the last frame (R121, R145, R146, R149, R220). -/
def frameReports (n : Nat) (s : State) : State :=
  let c := (s.strm n).ctx
  let s := s.setSat n Reg.strm_RAW_STATUS_DYN_COUNT c.dyn
  let s := s.setSat n Reg.strm_RAW_STATUS_MISSING_ROWS c.missing
  let s := s.setSat n Reg.strm_RAW_STATUS2_UNRESOLVED c.unresolved
  let s := s.set n Reg.strm_RAW_STATUS2_HDR_PARTIAL (bit (decide (c.missing ≠ 0)))
  if streamClass s n = 0 ∨ c.workNs = 0 then s
  else
    let s := s.setSat n Reg.strm_CTX_STATUS_OVH_MEAS (1000 * c.fillNs / c.workNs)
    if (s.strm n).ovh * c.workNs < 100 * c.fillNs then shutEvent n 4 s else s

/-- A frame that was processed whole leaves C7 (R174, R184, R218). -/
def frameDone (n f : Nat) (s : State) : State :=
  let x := s.strm n
  let ch := x.ctx.ruleChanged
  let anyRule := (List.range 16).any (fun r => s.get n (Reg.strm_RULE_CFG_EN.at (0x10 * r)) == 1)
  let s := if anyRule then s.set n Reg.strm_RULE_STATE_CHANGED ch else s
  let st : Option StatOut := match findFrame s n f with
    | none => none
    | some y => y.slot.map (fun k => { slot := k, addr := statSlotAt s n k, par := statParams s n, acc := x.ctx.acc,
                                       ruleState := s.get n Reg.strm_RULE_STATE_STATE, ruleChanged := ch })
  let s := updFrame n f (fun y => { y with stat := st }) s
  let s := if s.get n Reg.strm_COLOUR_CFG_GRID_MODE = 2 then
      let g := buildGrid s n
      updFrame n f (fun y => { y with grid := some g }) (s.setStrm n { s.strm n with gridBuilt := g })
    else s
  if s.get n Reg.strm_COLOUR_CFG_TNR_EN = 1 then
    (s.setStrm n { s.strm n with tnrRead := 1 - (s.strm n).tnrRead }).set n Reg.strm_COLOUR_STATUS_TNR_VALID 1
  else s

/-- Whether a tap is a recording tap (R204). -/
def tapRecords (s : State) (n k : Nat) : Bool := s.flag n (Reg.strm_TAP_CTRL_REC.at (0x20 * k))

/-- A frame that was processed in part (R124, R204): recording taps deliver what they have, and nothing else does. -/
def framePartial (n f : Nat) (s : State) : State :=
  match findFrame s n f with
  | none => s
  | some x =>
    let s := forEach x.taps (fun ft s =>
      if tapRecords s n ft.tap then tapFinish n f ft s else dropTap n f ft s) s
    let gone := x.tapsDone.filter (fun d => !tapRecords s n d.1)
    let s := forEach gone (fun d s => returnBuf d.2 s) s
    updFrame n f (fun y => { y with taps := [], tapsDone := y.tapsDone.filter (fun d => tapRecords s n d.1), slot := none }) s

/-- Every row of a frame has left the colour stages. -/
def finishFrame (n f : Nat) (t : Time) (s : State) : State :=
  let part := (findFrame s n f).any (fun x => x.closed == 2)
  let s := frameReports n s
  let s := if part then framePartial n f s else frameDone n f s
  let s := updFrame n f (fun x => { x with processed := true, rows := [], inDram := [] }) s
  refreshStage (purge n (strmStops n t s))

/-- A frame closed TRUNCATED after all its rows had entered a bench: the rows still held are flushed (R154), and the last
segment of a recording tap becomes the last of its frame (R232). -/
def flushFrame (n f : Nat) (t : Time) (s : State) : State :=
  match findFrame s n f with
  | none => s
  | some x =>
    let h := frameRows s n x
    let c := (s.strm n).ctx
    let p := rawParams s n x
    let late := (List.range (min 4 h)).map (fun i => h - min 4 h + i)
    let s := forEach x.taps (fun ft s =>
      if ft.dest = 3 then
        let z := s.zraw ft.target
        s.setZraw ft.target { z with segs := match z.segs.reverse with
          | g :: rest => (if g.stream = n ∧ g.frameNo = f then { g with last := true } :: rest else g :: rest).reverse
          | [] => [] }
      else s) s
    let outs : List (Nat × List Pix) := if x.yuv then late.map (fun y => (y, Tbl.get [] c.yuvRows y))
      else
        let held := (List.range (min 2 h)).map (fun i => h - min 2 h + i)
        let c := held.foldl (fun (c : Ctx) y => { c with nr := Tbl.put [] y (nrAt p c y) c.nr }) c
        late.map (fun y => (y, demosaicAt p c y))
    finishFrame n f t (forEach outs (fun o s => pixelRow n f o.1 o.2 t s) s)

/-- Whether a recording tap takes a TRUNCATED frame (R76, R124); `keep` is the entry's KEEP_PARTIAL. -/
def recorded (s : State) (n : Nat) (x : Frame) (keep : Bool) : Bool :=
  keep && (if x.started then x.taps.any (fun ft => tapRecords s n ft.tap) || x.tapsDone.any (fun d => tapRecords s n d.1)
    else (tapsOn s n).any (fun k => tapRecords s n k && tapTakes s n k x.no))

/-- A frame has closed TRUNCATED (R76, R124). -/
def frameTruncated (n f : Nat) (keep : Bool) (t : Time) (s : State) : State :=
  match findFrame s n f with
  | none => s
  | some x =>
    if x.processed then s
    else
      let s := directCut n f (forEach (x.taps.filter (fun q => q.dest == 2)) (dropTap n f) s)
      let s := updFrame n f (fun y => { y with taps := y.taps.filter (fun q => q.dest != 2) }) s
      if !recorded s n x keep ∨ frameRows s n x = 0 then kick t (strmStops n t (doomFrame n f 2 s))
      else if x.started ∧ (s.strm n).ctx.row = frameRows s n x ∧ (runningOn s n).isNone then kick t (flushFrame n f t s)
      else rowsChanged n f t s

/-! ### Commands -/

/-- A row of a class 0 stream has gone through its bench (R129). -/
def class0Done (b n f r backlog : Nat) (t : Time) (s : State) : State :=
  let s := processRow b n f r backlog t s
  let s := s.setBench b { s.bench b with row0 := none }
  let s := match findFrame s n f with
    | none => s
    | some x =>
      let h := frameRows s n x
      let s := if r % 16 = 15 ∨ r + 1 = h then s.inc b Reg.bench_STRIPES_COUNT else s
      if r + 1 = h then finishFrame n f t s
      else if x.doomed ≠ 0 ∧ !(s.bench b).fifo.any (fun e => e.1 == f) then strmStops n t (endFrame n f s)
      else s
  refreshStrm n (refreshBench b s)

/-- BENCH_ROW_DONE (R138): a bench finishes one row. `backlog` is how many bytes of rows wait for the raw codec engine (R231). -/
def benchRowDone (b backlog : Nat) (t : Time) (s : State) : State :=
  let x := s.bench b
  match x.row0, pinnedStream s b with
  | some (f, r), some n => class0Done b n f r backlog t s
  | _, _ =>
    match x.run with
    | none => s
    | some n =>
      match firstFrame s n with
      | none => s
      | some y =>
        if x.left = 0 then s
        else
          let r := stripeLines s n * y.stripe + (linesOfStripe s n y y.stripe - x.left)
          let s := processRow b n y.no r backlog t s
          let s := s.setBench b { s.bench b with left := x.left - 1 }
          refreshStage (if x.left = 17 then choose b t s else s)

/-- CLASS0_ROW_TAKE (R129): the row at the front of a bench's FIFO takes the bench. The first row of a stripe is where a context
load would start. -/
def class0RowTake (b : Nat) (t : Time) (s : State) : State :=
  let x := s.bench b
  match x.row0, x.fifo, pinnedStream s b with
  | none, (f, r) :: rest, some n =>
    let s := if r % 16 = 0 then strmBoundary n (r == 0) t s else s
    if (s.bench b).fifo.head? = some (f, r) then
      let s := if r = 0 then startFrame b n f (loadGrid n s) else s
      let s := match findFrame s n f with
        | some y => if r % 16 = 0 then
            reserveSegs n { y with stripe := r / 16 } s else s
        | none => s
      refreshStrm n (refreshBench b (s.setBench b { s.bench b with fifo := rest, row0 := some (f, r) }))
    else s
  | _, _, _ => s

/-- What a bench does once its stripe has ended. -/
def nextStripe (b : Nat) (t : Time) (s : State) : State :=
  match (s.bench b).next with
  | some (_, true) => startStripe b t s
  | some (_, false) => refreshBench b s
  | none => refreshBench b (choose b t s)

/-- STRIPE_COMPLETE (R126): the last row of a bench's stripe leaves the colour stages; `fill` and `work` are the measured times in ns
of R121. -/
def stripeComplete (b fill work : Nat) (t : Time) (s : State) : State :=
  let x := s.bench b
  match x.run with
  | none => s
  | some n =>
    if x.left ≠ 0 then s
    else
      let s := updCtx n (fun c => { c with fillNs := c.fillNs + fill, workNs := c.workNs + work }) s
      let s := (s.setBench b { x with run := none }).inc b Reg.bench_STRIPES_COUNT
      let s := match deadline s n with
        | none => s
        | some (y, d) =>
          let s := if d < t ∧ y.doomed = 0 then
              shutEvent n 0 ((flagFrame n y.no flagLate s).inc n Reg.strm_SCHED_COUNTS_LATE) else s
          let s := updFrame n y.no (fun z => { z with stripe := z.stripe + 1 }) s
          if y.doomed = 1 then strmStops n t (dropFrame n y.no s)
          else if y.doomed ≠ 0 then strmStops n t (endFrame n y.no s)
          else if frameRows s n y ≤ stripeLines s n * (y.stripe + 1) then
            -- a frame that closed TRUNCATED after its last row was taken still holds its flush
            if (s.strm n).ctx.flushed then finishFrame n y.no t s else flushFrame n y.no t s
          else s
      kick t (nextStripe b t (refreshStrm n s))

end Sys2Proof.Machine
end

