-- ==== Sys2Proof/Machine/Records.lean ====
section
/-! DEFINITION. What a frame leaves behind it once it is closed: statistics records, auto grids and raw segments, the fail-safe level
of an EVT pin, and the 3D LUT slots (R174, R181, R182, R215-R218, R230). -/

namespace Sys2Proof.Machine

/-- STATS_READY: the oldest record that is due becomes visible (R216, R218). -/
def statsReady (n : Nat) (s : State) : State :=
  match (s.strm n).frames.find? (fun x => x.stat.isSome && x.closed != 0) with
  | none => s
  | some x =>
    match x.stat with
    | none => s
    | some o =>
      let r := recordBytes o.par o.acc x.tk.encode n o.ruleState o.ruleChanged x.metaArea x.metaTrunc x.yuv
      let s := dramWrite 0 o.addr r s
      let wr := s.get n Reg.strm_STAT_RING_WR_INDEX
      let s := updFrame n x.no (fun y => { y with stat := none, slot := none }) s
      let s := if o.slot = wr ∧ o.addr = statSlotAt s n wr then
          evtEvent n 0 0 (s.set n Reg.strm_STAT_RING_WR_INDEX ((wr + 1) % max 1 (s.get n Reg.strm_STAT_RING_SLOTS_SLOTS)))
        else s
      purge n s

/-- Bytes of a grid in the layout of R169. -/
def gridBytes (g : List Nat) : List Byte := g.flatMap (bytesLE 2)

/-- GRID_READY: the oldest auto grid that is due is ready (R174). -/
def gridReady (n : Nat) (s : State) : State :=
  match (s.strm n).frames.find? (fun x => x.grid.isSome) with
  | none => s
  | some x =>
    let g := x.grid.getD []
    let s := s.set n Reg.strm_GRID_FROM_FRAME_NO x.no
    let s := dramWrite 0 (addrReg s n Reg.strm_TBL_ADDR_LO_ADDR Reg.strm_TBL_ADDR_HI_ADDR) (gridBytes g) s
    let s := s.setStrm n { s.strm n with gridWaits := some g }
    purge n (lutmEvent n 2 (updFrame n x.no (fun y => { y with grid := none }) s))

/-- SEG_READY: the stripe's last row has been coded (R230). The last segment of a frame waits for the frame's final ticket (R232). -/
def segReady (k : Nat) (s : State) : State :=
  match (s.zraw k).segs with
  | [] => s
  | g :: _ =>
    let closed := (findFrame s g.stream g.frameNo).all (fun x => x.closed != 0)
    if g.rows.length < g.rowCount ∨ (g.last ∧ !closed) then s
    else purge g.stream (segWrite k (frameTicket s g.stream g.frameNo) s)

/-- PIN_FAILSAFE: no rule mapped to the pin has been evaluated for TIMEOUT_MS (R215). -/
def pinFailsafe (p : Nat) (s : State) : State :=
  if s.get 0 (Reg.evt_PIN_CFG_TIMEOUT_MS.at (4 * p)) = 0 ∨ getBit (s.get 0 Reg.evt_PIN_STATE_FAILSAFE) p then s
  else
    let s := s.set 0 Reg.evt_PIN_STATE_FAILSAFE (setBit (s.get 0 Reg.evt_PIN_STATE_FAILSAFE) p true)
    raise .evt 0 5 (refreshPins (s.set 0 Reg.evt_EVENT_SRC_INDEX p))

/-- TAP_BUFFER_COMPLETE: the last row of a tap's buffer is visible and its frame's ticket final (R199). -/
def tapComplete (n k : Nat) (s : State) : State :=
  match (s.strm n).frames.find? (fun x => x.closed != 0 && x.tapsDone.any (fun d => d.1 == k)) with
  | none => s
  | some x =>
    match x.tapsDone.find? (fun d => d.1 == k) with
    | none => s
    | some d =>
      let s := updFrame n x.no (fun y => { y with tapsDone := y.tapsDone.filter (fun e => e.1 != k) }) s
      let s := s.inc n (Reg.strm_TAP_STATUS_FRAMES.at (0x20 * k))
      purge n (completeBuf d.2 x.tk s)

/-! ### 3D LUT slots (R181, R182) -/

/-- Entries per side of the table a slot holds. -/
def lutSide (s : State) (k : Nat) : Nat := if getBit (s.get 0 Reg.lutm_PARTITION_LARGE) (k / 8) then 65 else 33

/-- Whether a number is that of a slot. -/
def lutIsSlot (s : State) (k : Nat) : Bool := !getBit (s.get 0 Reg.lutm_PARTITION_LARGE) (k / 8) || k % 8 == 0

/-- Whether a slot is valid. -/
def lutValid (s : State) (k : Nat) : Bool :=
  if k < 32 then getBit (s.get 0 Reg.lutm_VALID_LO_VALID) k else getBit (s.get 0 Reg.lutm_VALID_HI_VALID) (k - 32)

/-- Mark a slot valid or not. -/
def setLutValid (k : Nat) (v : Bool) (s : State) : State :=
  if k < 32 then s.set 0 Reg.lutm_VALID_LO_VALID (setBit (s.get 0 Reg.lutm_VALID_LO_VALID) k v)
  else s.set 0 Reg.lutm_VALID_HI_VALID (setBit (s.get 0 Reg.lutm_VALID_HI_VALID) (k - 32) v)

/-- Whether a slot is named by the active or staged LUT_SLOT of any stream with LUT_EN = 1. -/
def lutNamed (s : State) (k : Nat) : Bool :=
  (List.range 48).any (fun n =>
    (s.get n Reg.strm_COLOUR_CFG_LUT_EN == 1 && s.get n Reg.strm_COLOUR_CFG_LUT_SLOT == k)
    || (s.getS n Reg.strm_COLOUR_CFG_LUT_EN == 1 && s.getS n Reg.strm_COLOUR_CFG_LUT_SLOT == k))

/-- Whether a load of slot `k` is refused with 0x10 (R182). -/
def lutRefused (s : State) (k : Nat) : Bool :=
  s.get 0 Reg.lutm_LOAD_STATUS_BUSY == 1 || !lutIsSlot s k || lutNamed s k

/-- A load of a slot starts (R182). -/
def lutLoad (k : Nat) (s : State) : State :=
  let s := (s.set 0 Reg.lutm_LOAD_STATUS_BUSY 1).set 0 Reg.lutm_LOAD_STATUS_SLOT k
  (setLutValid k false s).setState .lutm 0 1

/-- The entries of a slot have been read (R182). -/
def lutLoaded (k : Nat) (data : List Byte) (bad : Bool) (s : State) : State :=
  let vals := (chunk 8 data.length data).map (fun e => leAt e 0 6)
  let wrong := vals.any (fun v => (List.range 3).any (fun i => decide (16384 ≤ v / 2 ^ (16 * i) % 65536)))
  let s := (s.set 0 Reg.lutm_LOAD_STATUS_BUSY 0).setState .lutm 0 0
  let s := s.set 0 Reg.lutm_EVENT_SRC_SLOT k
  let s := s.set 0 Reg.lutm_LOAD_STATUS_FAILED (bit (bad || wrong))
  if bad ∨ wrong then raise .lutm 0 1 (logError .lutm 0 (if bad then 0x0D else 0x01) 0 s)
  else raise .lutm 0 0 (setLutValid k true { s with lutSlots := Tbl.put [] k vals s.lutSlots })

/-- LUT_LOAD_END: the load ends; the slot is valid unless an entry was bad or the source poisoned (R182). -/
def lutLoadEnd (s : State) : State :=
  if s.get 0 Reg.lutm_LOAD_STATUS_BUSY = 0 then s
  else
    let k := s.get 0 Reg.lutm_LOAD_STATUS_SLOT
    let n := lutSide s k
    let r := dramRead 0 (addrReg s 0 Reg.lutm_LOAD_SRC_LO_ADDR Reg.lutm_LOAD_SRC_HI_ADDR) (8 * n * n * n) s
    lutLoaded k r.1 r.2.1 r.2.2

/-- Whether a write of PARTITION is refused: it changes a group that contains a valid or named slot (R182). -/
def partitionRefused (s : State) (v : Nat) : Bool :=
  (List.range 8).any (fun g => getBit v g != getBit (s.get 0 Reg.lutm_PARTITION_LARGE) g
    && (List.range 8).any (fun i => lutValid s (8 * g + i) || lutNamed s (8 * g + i)))

end Sys2Proof.Machine
end

