-- ==== Sys2Proof/Machine/Cam.lean ====
section
/-! DEFINITION. Camera ingress ports and their frame assemblers (chapter 4: R62-R92): frame starts, lines, stamps, the ticket up to
its final form, and port commits. A port is numbered 0-39 for CAMP00-CAMP39 and 40-47 for CAMS00-CAMS07. -/

namespace Sys2Proof.Machine

/-! ### Ports and entries -/

/-- The block of a port. -/
def portBlk (p : Nat) : Block := if p < 40 then .camp else .cams

/-- The instance of a port. -/
def portInst (p : Nat) : Nat := if p < 40 then p else p - 40

/-- The key of an entry's assembler. -/
def asmKey (p e : Nat) : Nat := if p < 40 then p else 40 + 16 * (p - 40) + e

/-- The entries of a port. -/
def portEntries (p : Nat) : List Nat := if p < 40 then [0] else List.range 16

/-- A field of an entry. -/
def ent (s : State) (p e : Nat) (camp cams : Fld) : Nat := s.get (portInst p) (entFld (portBlk p) camp cams e)

/-- Write a field of an entry. -/
def setEnt (p e : Nat) (camp cams : Fld) (v : Nat) (s : State) : State := s.set (portInst p) (entFld (portBlk p) camp cams e) v

/-- Count in a field of an entry. -/
def incEnt (p e : Nat) (camp cams : Fld) (k : Nat) (s : State) : State := s.incBy (portInst p) (entFld (portBlk p) camp cams e) k

/-- The stream an entry names. -/
def entStream (s : State) (p e : Nat) : Nat := ent s p e Reg.camp_ENT_MAP_STREAM Reg.cams_ENT_MAP_STREAM
/-- The exposure index of an entry. -/
def entExp (s : State) (p e : Nat) : Nat := ent s p e Reg.camp_ENT_MAP_EXP Reg.cams_ENT_MAP_EXP
/-- Whether an entry is valid. -/
def entValid (s : State) (p e : Nat) : Bool := ent s p e Reg.camp_ENT_MAP_VALID Reg.cams_ENT_MAP_VALID == 1
/-- Samples per line of an entry. -/
def entWidth (s : State) (p e : Nat) : Nat := ent s p e Reg.camp_ENT_SIZE_WIDTH Reg.cams_ENT_SIZE_WIDTH
/-- Lines of an entry. -/
def entHeight (s : State) (p e : Nat) : Nat := ent s p e Reg.camp_ENT_SIZE_HEIGHT Reg.cams_ENT_SIZE_HEIGHT
/-- Nominal line period of an entry. -/
def entLine (s : State) (p e : Nat) : Time := nsT (ent s p e Reg.camp_ENT_TIMING_LINE_NS Reg.cams_ENT_TIMING_LINE_NS)
/-- Whether an entry checks stamps. -/
def entChecks (s : State) (p e : Nat) : Bool := ent s p e Reg.camp_ENT_MAP_STAMP_MODE Reg.cams_ENT_MAP_STAMP_MODE == 1

/-- An event of an entry, with EVENT_SRC on a serial port (R92). -/
def entEvent (p e ev : Nat) (s : State) : State :=
  raise (portBlk p) (portInst p) ev (if p < 40 then s else s.set (portInst p) Reg.cams_EVENT_SRC_ENTRY e)

/-- Write an entry's assembler and show its state (R71). -/
def putAsm (p e : Nat) (a : Asm) (s : State) : State :=
  let s := s.setAsm (asmKey p e) a
  if p < 40 then s.setState .camp p a.st else s.set (portInst p) (Reg.cams_ASM_STATE_STATE_0.up (2 * e)) a.st

/-- The line reference of an entry (R73). -/
def lineRef (s : State) (p e : Nat) : Time := ((s.asm (asmKey p e)).refLine).getD (entLine s p e)

/-- The valid entries that name a stream, by port and entry. -/
def entriesOf (s : State) (n : Nat) : List (Nat × Nat) :=
  ((List.range 48).flatMap (fun p => (portEntries p).map (fun e => (p, e)))).filter
    (fun x => entValid s x.1 x.2 && entStream s x.1 x.2 == n)

/-! ### Port commits (R86) -/

/-- Whether the staged value of a window offset differs from the active one. -/
def stagedDiffers (s : State) (b : Block) (n off : Nat) : Bool :=
  let m := rwsMaskAt (addrOf b n off)
  (((s.word b n off).toNat ^^^ (s.wordS b n off).toNat) &&& m) != 0

/-- Whether the staged values of an entry differ from the active ones. -/
def entDiffers (s : State) (p e : Nat) : Bool :=
  [0, 4, 8, 0xC, 0x10].any (fun d => stagedDiffers s (portBlk p) (portInst p) (0x100 + 0x40 * e + d))

/-- Whether an entry's assembler is in IDLE or WAIT_SOF. -/
def entQuiet (s : State) (p e : Nat) : Bool := decide ((s.asm (asmKey p e)).st ≤ 1)

/-- Whether a port's commit is at its boundary (R86). -/
def portAtBoundary (s : State) (p : Nat) : Bool :=
  let i := portInst p
  if p < 40 then
    let h := s.hdr .camp i
    entQuiet s p 0 || (h.enable == h.enableStaged && !entDiffers s p 0 && !stagedDiffers s .camp i 0x40 && !stagedDiffers s .camp i 0x44)
  else
    let h := s.hdr .cams i
    if h.enable != h.enableStaged || stagedDiffers s .cams i 0x40 || stagedDiffers s .cams i 0x44 || stagedDiffers s .cams i 0x58 then
      (portEntries p).all (entQuiet s p)
    else (portEntries p).all (fun e => !entDiffers s p e || entQuiet s p e)

/-- The PHY restarts: its lanes go to the stop state (R86). -/
def phyRestart (i : Nat) (s : State) : State :=
  let on := s.get i Reg.cams_PHY_CFG_MODE ≠ 0
  let s := s.set i Reg.cams_PHY_STATUS_STOP (if on then 2 ^ s.get i Reg.cams_PHY_CFG_LANES - 1 else 0)
  let s := ((s.set i Reg.cams_PHY_STATUS_HS 0).set i Reg.cams_PHY_STATUS_ULPS 0).set i Reg.cams_PHY_STATUS_DESKEWED 0
  s.setState .cams i (bit on)

/-- The transitions of an entry's assembler at an applied commit (R71, R73, R78). -/
def entApplied (p e : Nat) (lineChanged : Bool) (t : Time) (s : State) : State :=
  let a := s.asm (asmKey p e)
  let on := s.enabled (portBlk p) (portInst p) && entValid s p e
  let a := if lineChanged then { a with refT := none, refLine := none, takeRef := none, fast := none } else a
  if a.st = 0 ∧ on then putAsm p e { Asm.reset with st := 1, watch := t, created := a.created } s
  else if a.st = 1 ∧ !on then putAsm p e { a with st := 0 } s
  else putAsm p e a s

/-- A port's commit is applied. -/
def applyPort (p : Nat) (t : Time) (s : State) : State :=
  let b := portBlk p
  let i := portInst p
  let phy := p ≥ 40 && (stagedDiffers s .cams i 0x40 || stagedDiffers s .cams i 0x44)
  let lines := (portEntries p).map (fun e => entLine s p e)
  let s := applyGroup b i s
  let s := if phy then phyRestart i s else s
  let s := forEach (portEntries p) (fun e s => entApplied p e (lines.getD e 0 != entLine s p e) t s) s
  kick t (commitDone b i s)

/-- A moment at which a port's pending commit may be applied (R86). -/
def portBoundary (p : Nat) (t : Time) (s : State) : State :=
  let h := s.hdr (portBlk p) (portInst p)
  if h.pendingCommit ∧ h.checked ∧ portAtBoundary s p then applyPort p t s else s

/-! ### Check values over lines (R81, R82) -/

/-- Start of a running check value. -/
def crcInit (poly : Nat) : Nat := if poly ≤ 1 then 0xFFFFFFFF else if poly = 2 then 0xFFFF else 0xFF

/-- A running check value with bytes added. -/
def crcFeed (poly c : Nat) (l : List Byte) : Nat :=
  match poly with
  | 0 => crcR 0x82F63B78 c l
  | 1 => crcR 0xEDB88320 c l
  | 2 => crcN 16 0x1021 c l
  | _ => crcN 8 0x2F c l

/-- The check value at the end. -/
def crcEnd (poly c : Nat) : Nat := if poly ≤ 1 then c ^^^ 0xFFFFFFFF else if poly = 2 then c else c ^^^ 0xFF

/-- The polynomial of an entry's stamp: CRC-32C for a created one. -/
def entPoly (s : State) (p e : Nat) : Nat := if entChecks s p e then ent s p e Reg.camp_ENT_STAMP_POLY Reg.cams_ENT_STAMP_POLY else 0

/-- One packing group of CSI-2 bytes (assumption log 21). -/
def packGroup (bits : Nat) (g : List Nat) : List Nat :=
  let c := fun i => g.getD i 0
  if bits = 8 then [c 0]
  else if bits = 10 then (List.range 4).map (fun i => c i / 4) ++ [(List.range 4).foldl (fun a i => a + c i % 4 * 4 ^ i) 0]
  else if bits = 12 then [c 0 / 16, c 1 / 16, c 0 % 16 + 16 * (c 1 % 16)]
  else if bits = 14 then
    let low := (List.range 4).foldl (fun a i => a + c i % 64 * 64 ^ i) 0
    (List.range 4).map (fun i => c i / 64) ++ [low % 256, low / 256 % 256, low / 65536]
  else if bits = 16 then [c 0 / 256, c 0 % 256]
  else [c 0 / 4096, c 0 / 16 % 256, c 1 / 4096, c 1 / 16 % 256, c 0 % 16 + 16 * (c 1 % 16)]

/-- Samples of a packing group. -/
def groupSamples (bits : Nat) : Nat := if bits = 8 ∨ bits = 16 then 1 else if bits = 10 ∨ bits = 14 then 4 else 2

/-- The CSI-2 payload bytes of a row of codes. -/
def packCsi (bits : Nat) (l : List Nat) : List Nat := (chunk (groupSamples bits) l.length l).flatMap (packGroup bits)

/-- Bits of a sample of an entry (R142). -/
def entBits (s : State) (p e : Nat) : Nat := entryBits s (some (portBlk p, portInst p, e))

/-- The bytes of a row as a check value covers them: payload bytes, or each sample in 16 bits (R81). -/
def checkedBytes (s : State) (p e : Nat) (codes : List Nat) : List Byte :=
  if p < 40 then codes.flatMap (bytesLE 2) else (packCsi (entBits s p e) codes).flatMap (bytesLE 1)

/-- Whether an entry's source has a YUV format (R70). -/
def entYuv (s : State) (p e : Nat) : Bool :=
  if p < 40 then s.get p Reg.camp_BUS_CFG_FORMAT != 0 else dtYuv (s.get (portInst p) (Reg.cams_ENT_MAP_DT.at (0x40 * e)))

/-- A row of black code (R74). -/
def blackCodes (s : State) (p e : Nat) : List Nat :=
  let w := entWidth s p e
  if entYuv s p e then
    let k := 2 ^ (entBits s p e - 8)
    let yFirst := p < 40 ∧ s.get p Reg.camp_BUS_CFG_FORMAT = 2
    (List.range w).map (fun i => if (i % 2 = 0 ∧ yFirst) ∨ (i % 2 = 1 ∧ !yFirst) then 16 * k else 128 * k)
  else List.replicate w 0

/-! ### Frame starts (R70, R71, R77, R78, R84) -/

/-- Samples of a frame of a stream over its exposure entries, at an entry's size (R77, R78). -/
def frameSamples (s : State) (p e n : Nat) : Nat := entWidth s p e * entHeight s p e * (entriesOf s n).length

/-- The reference period P as a fraction: units of 2^-16 ns (R77, R78). -/
def refPeriod (s : State) (p e n : Nat) (a : Asm) : Nat × Nat :=
  match a.refT with
  | some r => (r, 1)
  | none => (1000 * secUnits.toNat * frameSamples s p e n, streamW s n * streamH s n * streamE s n * s.get n Reg.strm_ADMIT_RATE_FPS_MHZ)

/-- The interval checks at a frame start: by how much FRAME_NO advances, the assembler and the state after (R77, R78). -/
def intervalCheck (p e n : Nat) (t : Time) (a : Asm) (s : State) : Nat × Asm × State :=
  let a := match a.takeRef with
    | some r => { a with refT := some r, takeRef := none,
                         refLine := match a.line15 with
                           | some l => some ((l - a.line0) / 15)
                           | none => a.refLine }
    | none => a
  match a.lastFs with
  | none => (1, { a with armed := true }, s)
  | some t0 =>
    let d := t - t0
    let size := frameSamples s p e n
    let s := setEnt p e Reg.camp_ENT_FS_INTERVAL_NS Reg.cams_ENT_FS_INTERVAL_NS (d / 65536) s
    let s := setEnt p e Reg.camp_ENT_RATE_MEAS Reg.cams_ENT_RATE_MEAS (if d = 0 then 0 else min (1048576000 * size / d) 0xFFFFF) s
    if !a.armed then (1, { a with armed := true }, s)
    else
      let (x, y) := refPeriod s p e n a
      let k := if x = 0 then 0 else (2 * d * y + x) / (2 * x)
      let near := fun (u v lim : Nat) => decide (200 * ((u : Int) - v).natAbs ≤ lim)
      if 2 ≤ k ∧ near (d * y) (k * x) (k * x) then
        (k, a, entEvent p e 8 (incEnt p e Reg.camp_ENT_COUNTS_MISSED_FS Reg.cams_ENT_COUNTS_MISSED_FS (k - 1) s))
      else
        let moved := !near (d * y) x (d * y)
        let changed := moved || a.refT.isSome
        let adm := streamW s n * streamH s n * streamE s n * s.get n Reg.strm_ADMIT_RATE_FPS_MHZ
        let a := { a with fast := if changed ∧ adm * d < 1000 * secUnits.toNat * size ∧ d ≠ 0 then some d else none }
        if moved then (1, { a with takeRef := some d, armed := false }, entEvent p e 4 s) else (1, a, s)

/-- Row period of a frame before line 16: the profile's, or the entry's where the stream names no valid profile (R84). -/
def nominalLine (s : State) (p e n : Nat) : Nat :=
  let k := s.get n Reg.strm_RAW_CFG_PROFILE
  if profileValid s k then 256 * (s.profile k).lineNs else 256 * ent s p e Reg.camp_ENT_TIMING_LINE_NS Reg.cams_ENT_TIMING_LINE_NS

/-- Whether shedding drops the frame that starts, and whether it carries FLAGS.SHED if not (R55, R58, R127). -/
def shedFrame (n : Nat) (s : State) : Bool × Bool × State :=
  let x := s.strm n
  match shedState s n with
  | 2 =>
    let s := forEach (x.frames.filter (fun f => !f.processed)) (fun f s => doomFrame n f.no 2 s) s
    (true, false, s.setStrm n { s.strm n with suspended := true, keepNext := false })
  | 1 =>
    if x.keepNext then (false, true, s.setStrm n { x with keepNext := false, suspended := false })
    else (true, false, s.setStrm n { x with keepNext := true })
  | _ => (false, x.suspended, s.setStrm n { x with keepNext := false, suspended := false })

/-- The frame start of exposure 0: FRAME_NO advances and the ticket is opened (R71, R77, R84). -/
def openFrame (p e csi : Nat) (t : Time) (s : State) : State :=
  let n := entStream s p e
  let (k, a, s) := intervalCheck p e n t (s.asm (asmKey p e)) s
  let f := (s.get n Reg.strm_FRAME_NO_FRAME_NO + k) % 2 ^ 32
  let s := s.set n Reg.strm_FRAME_NO_FRAME_NO f
  let s := setEnt p e Reg.camp_ENT_FRAME_NO_FRAME_NO Reg.cams_ENT_FRAME_NO_FRAME_NO f s
  let created := if entChecks s p e then a.created else (a.created + 1) % 65536
  let s := putAsm p e { a with st := 2, lastFs := some t, watch := t, noFrame := false, held := none, frameNo := f, lines := 0, bad := 0,
                               anyBad := false, short := false, line0 := t, line15 := none, lastLine := t,
                               crc := crcInit (entPoly s p e), stamp := none, embedded := none, created := created,
                               prevRow := none } s
  let (cap, echo, uncertain, s) := captureFrame n f t s
  let (drop, shed, s) := if s.enabled .strm n then shedFrame n s else (true, false, s)
  let d := Config.streamDomain n
  let tk : Ticket := { Ticket.zero with
    source := n, frameNo := f, rowPeriod := nominalLine s p e n, capture := cap, fsTime := ⟨d, clockAt s d t⟩, fsTimel := ⟨4, t⟩,
    echo := echo, samples := entWidth s p e }
  let tk := Ticket.flagIf uncertain flagMismatch (Ticket.flagIf shed flagShed tk)
  let ne := streamE s n
  let x : Frame := {
    no := f, tk := tk, csi := csi, closed := 0, bits := entBits s p e, yuv := entYuv s p e, rows := [], inDram := [], missing := [],
    joined := [], arrived := List.replicate ne 0, done := List.replicate ne false, metaArea := [], metaOrder := 0, metaTrunc := false,
    discard := drop, doomed := 0, queued := 0, arrivals := [], stripe := 0, started := false, processed := drop, taps := [],
    tapsDone := [], slot := none, stat := none, grid := none }
  let s := s.setStrm n { s.strm n with frames := (s.strm n).frames ++ [x] }
  let s := if drop then s else directStart n f t s
  kick t (purge n (entEvent p e 0 s))

/-- The frame start of an exposure above 0 joins the open frame, or is discarded with its lines (R70). -/
def joinFrame (p e csi : Nat) (t : Time) (s : State) : State :=
  let n := entStream s p e
  let k := entExp s p e
  match (portEntries p).find? (fun q => entValid s p q && entStream s p q == n && entExp s p q == 0) with
  | none => s
  | some q =>
    let lead := s.asm (asmKey p q)
    match findFrame s n lead.frameNo with
    | none => s
    | some x =>
      let lastT := lead.lastFs.getD 0 + s.get (portInst p) Reg.cams_HDR_CFG_WINDOW * lineRef s p q
      if lead.st ≠ 2 ∨ x.closed ≠ 0 ∨ x.joined.contains k ∨ x.done.getD k true ∨ csi ≠ x.csi ∨ lastT < t then s
      else
        let s := setEnt p e Reg.camp_ENT_FRAME_NO_FRAME_NO Reg.cams_ENT_FRAME_NO_FRAME_NO x.no s
        let s := updFrame n x.no (fun y => { y with joined := k :: y.joined }) s
        let a := s.asm (asmKey p e)
        entEvent p e 0 (putAsm p e { a with st := 2, lastFs := some t, watch := t, noFrame := false, held := none, frameNo := x.no,
                                            lines := 0, bad := 0, anyBad := false, short := false, line0 := t, line15 := none,
                                            lastLine := t, prevRow := none } s)

/-- A frame start is acted on in WAIT_SOF (R71); a pending commit is applied there first (R86). -/
def actStart (p e csi : Nat) (t : Time) (s : State) : State :=
  let s := portBoundary p t s
  if (s.asm (asmKey p e)).st ≠ 1 then s
  else if entExp s p e = 0 then openFrame p e csi t s else joinFrame p e csi t s

/-! ### Close (R71-R73, R82, R83, R105) -/

/-- ACTIVE to CLOSE: the line count is fixed; `cut` says that a line was in progress. -/
def closeAsm (p e : Nat) (short cut : Bool) (held : Option (Nat × Time)) (s : State) : State :=
  let a := s.asm (asmKey p e)
  putAsm p e { a with st := 3, short := short, anyBad := a.anyBad || cut, held := held } s

/-- FRAME_START (R71): the frame start of an entry arrives. -/
def frameStart (p e csi : Nat) (cut : Bool) (t : Time) (s : State) : State :=
  let a := s.asm (asmKey p e)
  match a.st with
  | 1 => actStart p e csi t s
  | 2 => closeAsm p e (decide (a.lines < entHeight s p e)) cut (some (csi, t)) s
  | 3 => if a.held.isSome then s else putAsm p e { a with held := some (csi, t) } s
  | _ => s

/-- FRAME_END (R72). -/
def frameEnd (p e : Nat) (cut : Bool) (s : State) : State :=
  let a := s.asm (asmKey p e)
  if a.st = 2 then closeAsm p e (decide (a.lines < entHeight s p e)) cut none s else s

/-- LINE_TIMEOUT (R73). -/
def lineTimeout (p e : Nat) (cut : Bool) (t : Time) (s : State) : State :=
  let a := s.asm (asmKey p e)
  let lim := ent s p e Reg.camp_ENT_TIMING_TIMEOUT_LINES Reg.cams_ENT_TIMING_TIMEOUT_LINES * lineRef s p e
  if a.st = 2 ∧ a.lastLine + lim ≤ t then closeAsm p e (decide (a.lines < entHeight s p e)) cut none s else s

/-- What the stamp of a frame comes to: status, alive counter if it has one, and the CRC it carries (R81-R83). -/
def settleStamp (s : State) (p e : Nat) (a : Asm) : Nat × Option Nat × Nat :=
  if !entChecks s p e then (0, some a.created, crcEnd 0 a.crc)
  else
    let l := a.stamp.getD []
    if l.isEmpty then (3, none, 0)
    else
      let poly := entPoly s p e
      let big := ent s p e Reg.camp_ENT_STAMP_BIG_ENDIAN Reg.cams_ENT_STAMP_BIG_ENDIAN = 1
      let rd := fun (off n : Nat) => if big then beAt l off n else leAt l off n
      let alive := rd (ent s p e Reg.camp_ENT_STAMP_ALIVE_OFF Reg.cams_ENT_STAMP_ALIVE_OFF) 2
      let crc := rd (ent s p e Reg.camp_ENT_STAMP_CRC_OFF Reg.cams_ENT_STAMP_CRC_OFF) (checkBytes poly)
      (if a.anyBad then 3 else if crc = crcEnd poly a.crc then 1 else 2, some alive, crc)

/-- Compare an alive counter with that of the most recent frame that had one (R83): flags to set, and the state after. -/
def compareAlive (p e : Nat) (alive : Option Nat) (a : Asm) (s : State) : Bool × Asm × State :=
  match alive, a.lastAlive with
  | some v, some w =>
    let a := { a with lastAlive := some v }
    if v = w then (true, a, entEvent p e 6 s)
    else if 1 < (v + 65536 - w) % 65536 then
      (false, a, incEnt p e Reg.camp_ENT_STAMP_STATUS_SKIPS Reg.cams_ENT_STAMP_STATUS_SKIPS 1 s)
    else (false, a, s)
  | some v, none => (false, { a with lastAlive := some v }, s)
  | none, _ => (false, a, s)

/-- A frame of exposure 0 settles: the ticket becomes final (R83, R84, R105). -/
def settleFrame (p e : Nat) (t : Time) (s : State) : State :=
  let n := entStream s p e
  let a := s.asm (asmKey p e)
  let f := a.frameNo
  let (status, alive, crc) := settleStamp s p e a
  let (rep, a, s) := compareAlive p e alive a s
  let s := setEnt p e Reg.camp_ENT_STAMP_STATUS_STATUS Reg.cams_ENT_STAMP_STATUS_STATUS status s
  let s := setEnt p e Reg.camp_ENT_STAMP_STATUS_ALIVE Reg.cams_ENT_STAMP_STATUS_ALIVE (alive.getD 0) s
  let s := if 2 ≤ status then
      entEvent p e 5 (incEnt p e Reg.camp_ENT_COUNTS_STAMP_FAIL Reg.cams_ENT_COUNTS_STAMP_FAIL 1 s) else s
  let emb := if p < 40 then (if entChecks s p e then a.stamp.bind (fun l => if l.isEmpty then none else some l) else none)
    else a.embedded
  let (mis, s) := match emb with
    | some l => compareEcho n f l s
    | none => (false, s)
  let s := if a.short then
      entEvent p e 2 (incEnt p e Reg.camp_ENT_COUNTS_TRUNCATED Reg.cams_ENT_COUNTS_TRUNCATED 1 s)
    else entEvent p e 1 s
  let s := putAsm p e { a with st := 1, armed := a.armed && !a.short } s
  let s := updFrame n f (fun x =>
    let tk := { x.tk with stamp := status, alive := alive.getD 0, stampCrc := crc, lines := a.lines }
    let tk := Ticket.flagIf (decide (2 ≤ status)) flagUnverified (Ticket.flagIf rep flagRepeated tk)
    let tk := Ticket.flagIf mis flagMismatch (Ticket.flagIf a.short flagTruncated tk)
    { x with tk := tk, closed := if a.short then 2 else 1 }) s
  let s := exposureEnds n f 0 t s
  let keep := ent s p e Reg.camp_ENT_MAP_KEEP_PARTIAL Reg.cams_ENT_MAP_KEEP_PARTIAL = 1
  purge n (if a.short then frameTruncated n f keep t s else s)

/-- FRAME_CLOSE (R71): CLOSE to WAIT_SOF, within 1 µs. -/
def frameClose (p e : Nat) (t : Time) (s : State) : State :=
  let a := s.asm (asmKey p e)
  if a.st ≠ 3 then s
  else
    let held := a.held
    let s := if entExp s p e = 0 then settleFrame p e t s
      else
        let s := if a.short then s else entEvent p e 1 s
        exposureEnds (entStream s p e) a.frameNo (entExp s p e) t (putAsm p e { a with st := 1 } s)
    let s := putAsm p e { s.asm (asmKey p e) with held := none } s
    let s := portBoundary p t s
    match held with
    | some (csi, t0) => if (s.asm (asmKey p e)).st = 1 then actStart p e csi t0 s else s
    | none => s

/-! ### Lines (R63, R64, R68, R72, R74, R81) -/

/-- Append an entry to a frame's metadata area (R211). -/
def metaAppend (n f dt : Nat) (payload : List Byte) (s : State) : State :=
  let size := 1024 * s.get n Reg.strm_STAT_CFG_META_KIB
  match findFrame s n f with
  | none => s
  | some x =>
    let entry := bytesLE 1 dt ++ bytesLE 1 x.metaOrder ++ bytesLE 2 payload.length ++ padTo (roundTo 4 payload.length) payload
    let fits := !x.metaTrunc && decide (x.metaArea.length + entry.length ≤ size)
    let s := updFrame n f (fun y => { y with metaOrder := y.metaOrder + 1, metaArea := if fits then y.metaArea ++ entry else y.metaArea,
                                             metaTrunc := y.metaTrunc || (decide (size ≠ 0) && !fits) }) s
    if size = 0 ∨ fits ∨ x.metaTrunc then s else evtEvent n 0 6 (s.inc n Reg.strm_STAT_COUNTS_META_TRUNC)

/-- Whether a line is discarded (R74): `bad` says that it fails R64 or R68, `minPs` is the shortest PCLK period within it in ps. -/
def lineBad (s : State) (p e len : Nat) (bad : Bool) (minPs : Nat) : Bool :=
  if p < 40 then
    let lim := s.get p Reg.camp_PCLK_CFG_MIN_PERIOD_PS
    bad || decide (len ≠ entWidth s p e) || (decide (300 ≤ minPs) && decide (minPs < lim))
  else bad || decide (8 * len ≠ entWidth s p e * entBits s p e)

/-- A row of an entry, given or substituted, leaves the assembler. -/
def giveRow (p e : Nat) (codes : List Nat) (crcBytes : List Byte) (t0 : Time) (toDram : Bool) (queued : List Nat) (t : Time)
    (s : State) : State :=
  let n := entStream s p e
  let k := entExp s p e
  let a := s.asm (asmKey p e)
  let r := a.lines
  let s := putAsm p e { a with lines := r + 1, lastLine := t0, line0 := if r = 0 then t0 else a.line0,
                               line15 := if r = 15 then some t0 else a.line15, crc := crcFeed (entPoly s p e) a.crc crcBytes,
                               prevRow := some codes } s
  let s := if k = 0 ∧ r = 15 then updFrame n a.frameNo (fun x => { x with tk := { x.tk with rowPeriod := (t0 - a.line0) / (15 * 256) } }) s
    else s
  rowArrives n a.frameNo k r codes toDram queued t s

/-- A discarded line of an entry (R70, R74). -/
def discardLine (p e : Nat) (t0 : Time) (toDram : Bool) (queued : List Nat) (t : Time) (s : State) : State :=
  let n := entStream s p e
  let a := s.asm (asmKey p e)
  let s := incEnt p e Reg.camp_ENT_COUNTS_DISCARDED Reg.cams_ENT_COUNTS_DISCARDED 1 s
  let s := entEvent p e 3 (flagFrame n a.frameNo flagClockFault s)
  let s := putAsm p e { a with bad := a.bad + 1, anyBad := true, lastLine := t0 } s
  if ent s p e Reg.camp_ENT_TIMING_MAX_BAD Reg.cams_ENT_TIMING_MAX_BAD < a.bad + 1 then closeAsm p e true false none s
  else if entExp s p e = 0 then
    let codes := a.prevRow.getD (blackCodes s p e)
    giveRow p e codes (if entChecks s p e then [] else checkedBytes s p e codes) t0 toDram queued t s
  else rowLost n a.frameNo (entExp s p e) a.lines t (putAsm p e { s.asm (asmKey p e) with lines := a.lines + 1 } s)

/-- Whether a line is the stamp line of a parallel port (R81). -/
def isStampLine (s : State) (p : Nat) (a : Asm) : Bool :=
  p < 40 && entChecks s p 0 && a.stamp.isNone &&
    (if s.get p Reg.camp_ENT_MAP_STAMP_LINE = 0 then a.lines == 0 && a.bad == 0 else a.lines == entHeight s p 0)

/-- LINE_RECEIVED (R74): a line that started at `t0` ends. `data` holds the bus words of a parallel port or the payload bytes of a
serial one. -/
def lineReceived (p e : Nat) (data : List Nat) (bad : Bool) (minPs : Nat) (t0 : Time) (toDram : Bool) (queued : List Nat) (t : Time)
    (s : State) : State :=
  let n := entStream s p e
  let a := s.asm (asmKey p e)
  if a.st ≠ 2 then s
  else
    let wrong := lineBad s p e data.length bad minPs
    if isStampLine s p a then
      if wrong then
        let s := incEnt p e Reg.camp_ENT_COUNTS_DISCARDED Reg.cams_ENT_COUNTS_DISCARDED 1 s
        let s := entEvent p e 3 (flagFrame n a.frameNo flagClockFault s)
        let s := putAsm p e { a with bad := a.bad + 1, anyBad := true, lastLine := t0, stamp := some [] } s
        if ent s p e Reg.camp_ENT_TIMING_MAX_BAD Reg.cams_ENT_TIMING_MAX_BAD < a.bad + 1 then closeAsm p e true false none s else s
      else
        let l := data.flatMap (bytesLE 2)
        metaAppend n a.frameNo 0x12 l (putAsm p e { a with stamp := some l, lastLine := t0 } s)
    else if entHeight s p e ≤ a.lines then
      incEnt p e Reg.camp_ENT_COUNTS_DISCARDED Reg.cams_ENT_COUNTS_DISCARDED 1 (putAsm p e { a with lastLine := t0 } s)
    else if wrong then discardLine p e t0 toDram queued t s
    else
      let bits := entBits s p e
      let codes := if p < 40 then data.map (· % 2 ^ bits) else unpackCsi bits data
      let bytes := if p < 40 then codes.flatMap (bytesLE 2) else data.flatMap (bytesLE 1)
      giveRow p e codes (if entExp s p e = 0 then bytes else []) t0 toDram queued t s

/-! ### Other port events -/

/-- PCLK_GLITCH (R75): a PCLK period of `ps` outside an active line. -/
def pclkGlitch (p ps : Nat) (s : State) : State :=
  let a := s.asm p
  let lim := s.get p Reg.camp_PCLK_CFG_MIN_PERIOD_PS
  if a.st = 0 ∨ ps < 300 ∨ lim ≤ ps then s
  else
    let s := if a.st = 2 ∨ a.st = 3 then flagFrame (entStream s p 0) a.frameNo flagClockFault s else s
    entEvent p 0 3 s

/-- NO_FRAME (R79). -/
def noFrame (p e : Nat) (t : Time) (s : State) : State :=
  let a := s.asm (asmKey p e)
  let ms := ent s p e Reg.camp_ENT_WATCH_FRAME_TIMEOUT_MS Reg.cams_ENT_WATCH_FRAME_TIMEOUT_MS
  if ms = 0 ∨ a.st = 0 ∨ a.noFrame ∨ t < a.watch + msT ms then s
  else entEvent p e 7 (putAsm p e { a with noFrame := true, armed := false } s)

/-- HDR_MISSING (R70): no frame start of an entry's exposure joined within the window. -/
def hdrMissing (p e : Nat) (t : Time) (s : State) : State :=
  let n := entStream s p e
  let k := entExp s p e
  match (portEntries p).find? (fun q => entValid s p q && entStream s p q == n && entExp s p q == 0) with
  | none => s
  | some q =>
    let lead := s.asm (asmKey p q)
    match findFrame s n lead.frameNo with
    | none => s
    | some x =>
      let lastT := lead.lastFs.getD 0 + s.get (portInst p) Reg.cams_HDR_CFG_WINDOW * lineRef s p q
      if k = 0 ∨ !entValid s p e ∨ x.joined.contains k ∨ x.done.getD k true ∨ t < lastT then s
      else entEvent p e 10 (exposureEnds n x.no k t s)

/-- A packet that no valid entry maps (R68). -/
def unmappedPacket (i : Nat) (s : State) : State := raise .cams i 9 (s.inc i Reg.cams_PKT_COUNTS_UNMAPPED)

/-- EMBEDDED_DATA (R67): an embedded-data packet (0x12) or a user-defined one (0x30-0x37) on a virtual channel. -/
def embeddedData (i vc dt : Nat) (payload : List Byte) (s : State) : State :=
  let p := 40 + i
  match (portEntries p).find? (fun e => entValid s p e && s.get i (Reg.cams_ENT_MAP_VC.at (0x40 * e)) == vc) with
  | none => unmappedPacket i s
  | some e =>
    let a := s.asm (asmKey p e)
    if a.st ≠ 2 then s
    else
      let a := if dt = 0x12 ∧ entExp s p e = 0 then
          { a with embedded := some (a.embedded.getD payload),
                   stamp := if entChecks s p e then some (a.stamp.getD payload) else a.stamp }
        else a
      metaAppend (entStream s p e) a.frameNo dt payload (putAsm p e a s)

/-- PACKET_ERROR (R68): 0 a header corrected, 1 a header discarded, 2 a payload CRC that fails, 3 a packet that nothing maps. -/
def packetError (i kind : Nat) (s : State) : State :=
  match kind with
  | 0 => s.inc i Reg.cams_PKT_COUNTS_HDR_CORR
  | 1 => raise .cams i 9 (s.inc i Reg.cams_PKT_COUNTS_HDR_BAD)
  | 2 => s.inc i Reg.cams_PKT_COUNTS_CRC_BAD
  | _ => unmappedPacket i s

/-- PHY_ERROR (R66, R92): a start-of-transmission error, or a deskew failure. -/
def phyError (i : Nat) (sot : Bool) (s : State) : State := raise .cams i 11 (if sot then s.inc i Reg.cams_PHY_STATUS_SOT_ERR else s)

/-- ULPS_ENTRY_EXIT (R66): the lanes in ULPS, receiving and in stop state from now on. -/
def phyLanes (i ulps hs stop : Nat) (s : State) : State :=
  let s := s.set i Reg.cams_PHY_STATUS_ULPS ulps
  let s := (s.set i Reg.cams_PHY_STATUS_HS hs).set i Reg.cams_PHY_STATUS_STOP stop
  s.setState .cams i (if s.get i Reg.cams_PHY_CFG_MODE = 0 then 0 else if hs ≠ 0 then 2 else if ulps ≠ 0 then 3 else 1)

/-- DESKEW_SEQUENCE (R66): a D-PHY deskew sequence; the initial one completes. -/
def phyDeskew (i : Nat) (s : State) : State :=
  if s.get i Reg.cams_PHY_CFG_MODE = 1 ∧ s.get i Reg.cams_PHY_CFG_DESKEW = 1 then s.set i Reg.cams_PHY_STATUS_DESKEWED 1 else s

/-- SOFT_RESET of a port: every assembler goes to IDLE and an open frame closes TRUNCATED (R88). -/
def resetPort (p : Nat) (t : Time) (s : State) : State :=
  forEach (portEntries p) (fun e s =>
    let a := s.asm (asmKey p e)
    let n := entStream s p e
    let f := a.frameNo
    let s := if a.st = 2 ∨ a.st = 3 then
        if entExp s p e = 0 then
          let s := updFrame n f (fun x => { x with tk := { x.tk.flagged flagTruncated with lines := a.lines }, closed := 2 }) s
          purge n (frameTruncated n f (ent s p e Reg.camp_ENT_MAP_KEEP_PARTIAL Reg.cams_ENT_MAP_KEEP_PARTIAL = 1) t (exposureEnds n f 0 t s))
        else exposureEnds n f (entExp s p e) t s
      else s
    s.setAsm (asmKey p e) Asm.reset) s

end Sys2Proof.Machine
end

