-- ==== Sys2Proof/Machine/Compose.lean ====
section
/-! DEFINITION. The pixel path of a layer and of a head: fetch or direct rows, chroma upsampling, scaling, matrices, blending,
FILL, the hatch and the badge (chapter 13: R293-R299, R301, R303, R313; R353, R356). -/

namespace Sys2Proof.Machine

/-- A layer. -/
def State.lay (s : State) (n : Nat) : Lay := Tbl.get Lay.reset s.lays n

/-- Write a layer. -/
def State.setLay (s : State) (n : Nat) (x : Lay) : State := { s with lays := Tbl.put Lay.reset n x s.lays }

/-- A head. -/
def State.head (s : State) (h : Nat) : Head := Tbl.get Head.reset s.heads h

/-- Write a head. -/
def State.setHead (s : State) (h : Nat) (x : Head) : State := { s with heads := Tbl.put Head.reset h x s.heads }

/-! ### Geometry (R296) -/

/-- Where a layer takes its pixels from and where it puts them. -/
structure LayGeom where
  fmt : Nat
  /-- Width and height of the planes. -/
  pw : Nat
  ph : Nat
  /-- The source's rectangle in the planes. -/
  vx : Nat
  vy : Nat
  vw : Nat
  vh : Nat
  /-- The source rectangle, counted from the source's rectangle. -/
  sx : Nat
  sy : Nat
  sw : Nat
  sh : Nat
  dx : Nat
  dy : Nat
  dw : Nat
  dh : Nat
deriving DecidableEq, Repr

/-- Whether a layer is enabled (R316: CFG.EN alone). -/
def layOn (s : State) (n : Nat) : Bool := s.get n Reg.layer_CFG_EN == 1

/-- Mode of a layer: 0 = fixed, 1 = feed, 2 = direct. -/
def layMode (s : State) (n : Nat) : Nat := s.get n Reg.layer_CFG_MODE

/-- The tap that names a layer (R201). -/
def tapOf (s : State) (n : Nat) : Option (Nat × Nat) :=
  ((List.range 48).flatMap (fun m => (tapsOn s m).map (fun k => (m, k)))).find?
    (fun x => s.get x.1 (Reg.strm_TAP_CTRL_DEST.at (0x20 * x.2)) == 1 && s.get x.1 (Reg.strm_TAP_CTRL_TARGET.at (0x20 * x.2)) == n)

/-- The buffer whose visible rectangle a layer uses: its descriptor, or the buffer it shows. -/
def layBuf (s : State) (n : Nat) : Option Nat :=
  match layMode s n with
  | 0 => some (s.get n Reg.layer_CFG_SRC)
  | 1 => (s.lay n).fed
  | _ => none

/-- Geometry of a layer with a buffer. -/
def geomWith (s : State) (n : Nat) (d : Option Nat) : LayGeom :=
  let (fmt, pw, ph, v) : Nat × Nat × Nat × Option (Nat × Nat × Nat × Nat) :=
    match layMode s n with
    | 2 =>
      match tapOf s n with
      | some (m, k) =>
        let w := (tapGeom s m k).wout
        let h := (tapGeom s m k).hout
        (s.get m (Reg.strm_TAP_CTRL_FORMAT.at (0x20 * k)), w, h, some (0, 0, w, h))
      | none => (0, 0, 0, none)
    | m =>
      match d with
      | some b => ((if m = 1 then s.get n Reg.layer_CFG_FORMAT else (s.buf b).fmt), (s.buf b).width, (s.buf b).height, some (s.buf b).visible)
      | none => (s.get n Reg.layer_CFG_FORMAT, 0, 0, none)
  let (vx, vy, vw, vh) := v.getD (0, 0, 0, 0)
  let sx := s.get n Reg.layer_SRC_POS_X
  let sy := s.get n Reg.layer_SRC_POS_Y
  let w := s.get n Reg.layer_SRC_SIZE_W
  let h := s.get n Reg.layer_SRC_SIZE_H
  let sw := if w = 0 then vw - sx else w
  let sh := if h = 0 then vh - sy else h
  let dw := s.get n Reg.layer_DST_SIZE_W
  let dh := s.get n Reg.layer_DST_SIZE_H
  { fmt := fmt, pw := pw, ph := ph, vx := vx, vy := vy, vw := vw, vh := vh, sx := sx, sy := sy, sw := sw, sh := sh,
    dx := s.get n Reg.layer_DST_POS_X, dy := s.get n Reg.layer_DST_POS_Y, dw := if dw = 0 then sw else dw,
    dh := if dh = 0 then sh else dh }

/-- Geometry of a layer. -/
def layGeom (s : State) (n : Nat) : LayGeom := geomWith s n (layBuf s n)

/-- Whether the source rectangle is not empty and lies in the source's rectangle (R296). -/
def LayGeom.inside (g : LayGeom) : Bool :=
  0 < g.sw && 0 < g.sh && g.sx + g.sw ≤ g.vw && g.sy + g.sh ≤ g.vh

/-- Whether the scaling limits hold (R296: error 0x01). -/
def LayGeom.scaleOk (g : LayGeom) : Bool := g.sw ≤ 8 * g.dw && g.dw ≤ 16 * g.sw && g.dh ≤ 16 * g.sh

/-- Whether the line buffer allows the scaling (R296: error 0x05). -/
def LayGeom.linesOk (g : LayGeom) : Bool :=
  g.sw ≤ 8192 && (g.sh == g.dh || g.sh ≤ (if g.sw ≤ 4096 then 4 else 2) * g.dh)

/-- Vertical scaler: 0 = bypass, 1 = 6 taps, 2 = 3 taps (R296). -/
def LayGeom.vscale (g : LayGeom) : Nat := if g.sh = g.dh then 0 else if g.sw ≤ 4096 then 1 else 2

/-! ### Coefficients (R297) -/

/-- The bilinear table: 64 phases of 8 horizontal coefficients, then 64 of 6, then 64 of 3 vertical ones. -/
def bilinearLayer : List Int :=
  let ph := fun (n k0 : Nat) => (List.range 64).flatMap (fun (p : Nat) => (List.range n).map (fun k =>
    if k = k0 then 4096 - 64 * (p : Int) else if k = k0 + 1 then 64 * (p : Int) else 0))
  ph 8 3 ++ ph 6 2 ++ ph 3 1

/-- The table of a layer in force. -/
def layCoef (s : State) (n : Nat) : List Int :=
  if s.get n Reg.layer_CFG_COEF_SRC = 1 then (s.lay n).coef else bilinearLayer

/-- Read a table (R164, R297). -/
def readCoef (s : State) (n : Nat) : List Int :=
  let a := addrReg s n Reg.layer_COEF_LO_ADDR Reg.layer_COEF_HI_ADDR
  let l := memBytes s.dram a 2176
  (List.range 1088).map (fun i => toSigned 16 (leAt l (2 * i) 2))

/-- The first entry of the first phase that does not sum to 4,096 (R297). -/
def badPhase (l : List Int) : Option Nat :=
  let starts := (List.range 64).map (fun p => (8 * p, 8)) ++ (List.range 64).map (fun p => (512 + 6 * p, 6))
    ++ (List.range 64).map (fun p => (896 + 3 * p, 3))
  (starts.find? (fun x => ((l.drop x.1).take x.2).foldl (· + ·) 0 != 4096)).map (·.1)

/-! ### Source pixels (R294, R295) -/

/-- A pixel of the line buffer or after it: three components, alpha, and whether poisoned data went into it. -/
structure LPx where
  a : Nat
  b : Nat
  c : Nat
  al : Nat
  bad : Bool
deriving DecidableEq, Repr

/-- A black pixel. -/
def LPx.zero : LPx := ⟨0, 0, 0, 0, false⟩

/-- A component in the 10-bit line buffer (R294). -/
def to10 (ten : Bool) (v : Nat) : Nat := if ten then v else v * 4 + v / 64

/-- A 10-bit code expanded to 12 bits (R294). -/
def to12 (v : Nat) : Nat := v * 4 + v / 256

/-- A stored component. -/
def storedCode (ten : Bool) (l : List Byte) (i : Nat) : Nat :=
  if ten then leAt l (2 * i) 2 / 64 else leAt l i 1

/-- Chroma of a row upsampled horizontally, in 10-bit codes: Cb and Cr of `w` columns (R295). -/
def chromaWide (ten : Bool) (w : Nat) (l : List Byte) : List (Nat × Nat) :=
  let cw := (w + 1) / 2
  let c := ((List.range cw).map (fun i => (to10 ten (storedCode ten l (2 * i)), to10 ten (storedCode ten l (2 * i + 1))))).toArray
  (List.range w).map (fun x =>
    let own := c.getD (x / 2) (0, 0)
    if x % 2 = 0 ∨ cw ≤ (x + 1) / 2 then own
    else
      let nb := c.getD ((x + 1) / 2) (0, 0)
      ((own.1 + nb.1 + 1) / 2, (own.2 + nb.2 + 1) / 2))

/-- The chroma row beside the own one that 4:2:0 row `y` uses, of `n` rows (R295). -/
def chromaBeside (y n : Nat) : Nat := if y % 2 = 0 then y / 2 - 1 else min (y / 2 + 1) (n - 1)

/-- A whole row in the line buffer: `py` and `pc` give the bytes of rows of the planes. -/
def lineRow (g : LayGeom) (py pc : Nat → List Byte) (y : Nat) : List LPx :=
  let w := g.pw
  let ten := fmtBits g.fmt == 10
  let l := py y
  match g.fmt with
  | 6 => (List.range w).map (fun x => ⟨to10 false (leAt l (3 * x) 1), to10 false (leAt l (3 * x + 1) 1), to10 false (leAt l (3 * x + 2) 1), 1023, false⟩)
  | 7 => (List.range w).map (fun x =>
      let v := leAt l (4 * x) 4
      ⟨v / 2 ^ 20 % 1024, v / 2 ^ 10 % 1024, v % 1024, 1023, false⟩)
  | 8 => (List.range w).map (fun x =>
      ⟨to10 false (leAt l (4 * x) 1), to10 false (leAt l (4 * x + 1) 1), to10 false (leAt l (4 * x + 2) 1), to10 false (leAt l (4 * x + 3) 1), false⟩)
  | f =>
    let chroma : List (Nat × Nat) :=
      if f = 4 ∨ f = 5 then
        let k := pc y
        (List.range w).map (fun x => (to10 ten (storedCode ten k (2 * x)), to10 ten (storedCode ten k (2 * x + 1))))
      else if f = 2 ∨ f = 3 then chromaWide ten w (pc y)
      else
        let own := chromaWide ten w (pc (y / 2))
        let nb := chromaWide ten w (pc (chromaBeside y ((g.ph + 1) / 2)))
        List.zipWith (fun (p q : Nat × Nat) => ((3 * p.1 + q.1 + 2) / 4, (3 * p.2 + q.2 + 2) / 4)) own nb
    (List.zipIdx chroma).map (fun x => ⟨to10 ten (storedCode ten l x.2), x.1.1, x.1.2, 1023, false⟩)

/-- Bytes of a row of the chroma plane. -/
def chromaRowBytes (fmt w : Nat) : Nat :=
  let n := if fmt = 4 ∨ fmt = 5 then 2 * w else 2 * ((w + 1) / 2)
  if fmtBits fmt = 10 then 2 * n else n

/-- The chroma rows that a row uses. -/
def chromaUsed (g : LayGeom) (y : Nat) : List Nat :=
  if g.fmt ≤ 1 then [y / 2, chromaBeside y ((g.ph + 1) / 2)] else if g.fmt ≤ 5 then [y] else []

/-- Byte ranges of a buffer that pixel `x` of row `y` comes from. -/
def pixelRanges (b : Buf) (g : LayGeom) (y x : Nat) : List (Nat × Nat) :=
  let step := rowBytesOf g.fmt 1
  let cstep := if fmtBits g.fmt = 10 then 4 else 2
  let cols := if g.fmt = 4 ∨ g.fmt = 5 then [x] else if x % 2 = 1 ∧ (x + 1) / 2 < (g.pw + 1) / 2 then [x / 2, x / 2 + 1] else [x / 2]
  (b.rowAddr y + step * x, step)
    :: (chromaUsed g y).flatMap (fun r => cols.map (fun c => (b.chromaAddr r + cstep * c, cstep)))

/-- Row `r` of a layer's source rectangle from a buffer, with the pixels that come from poisoned units marked (R313). -/
def bufRow (s : State) (b : Buf) (g : LayGeom) (r : Nat) : List LPx :=
  let y := g.vy + g.sy + r
  let x0 := g.vx + g.sx
  let row := ((lineRow g (fun k => memBytes s.dram (b.rowAddr k) (rowBytesOf g.fmt g.pw))
    (fun k => memBytes s.dram (b.chromaAddr k) (chromaRowBytes g.fmt g.pw)) y).drop x0).take g.sw
  let whole := (b.rowAddr y, rowBytesOf g.fmt g.pw) :: (chromaUsed g y).map (fun k => (b.chromaAddr k, chromaRowBytes g.fmt g.pw))
  if whole.any (fun p => rangePoisoned s p.1 p.2) then
    (List.zipIdx row).map (fun x => { x.1 with bad := (pixelRanges b g y (x0 + x.2)).any (fun p => rangePoisoned s p.1 p.2) })
  else row

/-- The 64-byte units that row `r` of a layer's source rectangle fetches and that read as poisoned (R313). -/
def badUnits (s : State) (b : Buf) (g : LayGeom) (r : Nat) : List Nat :=
  let y := g.vy + g.sy + r
  let x0 := g.vx + g.sx
  let step := rowBytesOf g.fmt 1
  let cstep := if fmtBits g.fmt = 10 then 4 else 2
  let c0 := if g.fmt = 4 ∨ g.fmt = 5 then x0 else x0 / 2
  let c1 := if g.fmt = 4 ∨ g.fmt = 5 then x0 + g.sw else min ((g.pw + 1) / 2) ((x0 + g.sw) / 2 + 1)
  let ranges := (b.rowAddr y + step * x0, step * g.sw) :: (chromaUsed g y).map (fun k => (b.chromaAddr k + cstep * c0, cstep * (c1 - c0)))
  let units := ranges.flatMap (fun p => (List.range ((p.1 + p.2 - 1) / 64 + 1 - p.1 / 64)).map (fun i => p.1 / 64 + i))
  (units.filter (fun u => rangePoisoned s (64 * u) 64)).eraseDups

/-- Row `r` of a direct layer's source rectangle. -/
def directLine (x : DirectFrame) (g : LayGeom) (r : Nat) : List LPx :=
  ((lineRow g (Tbl.get [] x.rows) (Tbl.get [] x.chroma) (g.vy + g.sy + r)).drop (g.vx + g.sx)).take g.sw

/-- Whether row `r` of a direct layer's source rectangle has entered the line buffer (R301). -/
def directHas (x : DirectFrame) (g : LayGeom) (r : Nat) : Bool :=
  let y := g.vy + g.sy + r
  (Tbl.get [] x.rows y != []) && (chromaUsed g y).all (fun k => Tbl.get [] x.chroma k != [])

/-! ### Scaling (R297) -/

/-- The source rows that output row `o` uses, with their coefficients. -/
def rowTaps (g : LayGeom) (coef : List Int) (o : Nat) : List (Int × Nat) :=
  if g.vscale = 0 then [(4096, o)]
  else
    let (i, ph) := scalePos (g.sh * 65536 / max 1 g.dh) o
    let (n, base, back) : Nat × Nat × Int := if g.vscale = 1 then (6, 512, 2) else (3, 896, 1)
    (List.range n).map (fun (k : Nat) =>
      (coef.getD (base + n * ph + k) 0, (clampI 0 ((g.sh : Int) - 1) (i - back + k)).toNat))

/-- The last source row that output row `o` needs (R301). -/
def lastNeeded (g : LayGeom) (o : Nat) : Nat :=
  if g.vscale = 0 then o
  else (clampI 0 ((g.sh : Int) - 1) ((scalePos (g.sh * 65536 / max 1 g.dh) o).1 + (if g.vscale = 1 then 3 else 1))).toNat

/-- A weighted sum of pixels in 12-bit codes. -/
def weigh12 (l : List (Int × LPx)) : LPx :=
  let ch := fun (f : LPx → Nat) => (clampI 0 4095 (roundUp (l.foldl (fun a e => a + e.1 * (f e.2 : Int)) 0) 4096)).toNat
  ⟨ch LPx.a, ch LPx.b, ch LPx.c, ch LPx.al, l.any (fun e => e.1 != 0 && e.2.bad)⟩

/-- A line-buffer pixel read out. -/
def LPx.wide (p : LPx) : LPx := ⟨to12 p.a, to12 p.b, to12 p.c, to12 p.al, p.bad⟩

/-- Output row `o` of a layer after both scalers; `row` gives the rows of the source rectangle. -/
def scaleLine (g : LayGeom) (coef : List Int) (row : Nat → List LPx) (o : Nat) : List LPx :=
  let v : List LPx :=
    match rowTaps g coef o with
    | [(_, r)] => (row r).map LPx.wide
    | taps =>
      let rs := taps.map (fun x => (x.1, ((row x.2).map LPx.wide).toArray))
      (List.range g.sw).map (fun x => weigh12 (rs.map (fun e => (e.1, e.2.getD x LPx.zero))))
  if g.sw = g.dw then v
  else
    let a := v.toArray
    let c := coef.toArray
    (List.range g.dw).map (fun x =>
      let (i, ph) := scalePos (g.sw * 65536 / max 1 g.dw) x
      weigh12 ((List.range 8).map (fun (k : Nat) =>
        (c.getD (8 * ph + k) 0, a.getD (clampI 0 ((g.sw : Int) - 1) (i - 3 + k)).toNat LPx.zero))))

/-! ### Colour and blending (R298, R299) -/

/-- A matrix on 12-bit codes: nine 3.9 coefficients and three offsets. -/
def matrix12 (m : List Int) (off : List Int) (p : Nat × Nat × Nat) : Nat × Nat × Nat :=
  let row := fun (i : Nat) =>
    let sum := m.getD (3 * i) 0 * p.1 + m.getD (3 * i + 1) 0 * p.2.1 + m.getD (3 * i + 2) 0 * p.2.2
    (clampI 0 4095 (roundUp sum 512 + off.getD i 0)).toNat
  (row 0, row 1, row 2)

/-- The layer matrix. -/
def layMatrix (s : State) (n : Nat) : List Int := matrixAt s n Reg.layer_M_LO Reg.layer_M_HI (Reg.layer_M_LO.at 16)

/-- Offsets of the layer matrix. -/
def layOffsets (s : State) (n : Nat) : List Int := (List.range 3).map (fun c => signedAt s n (Reg.layer_OFF_OFFSET.at (4 * c)))

/-- A 10-bit RGB register expanded to 12 bits. -/
def rgbWide (v : Nat) : Nat × Nat × Nat := (to12 (v / 2 ^ 20 % 1024), to12 (v / 2 ^ 10 % 1024), to12 (v % 1024))

/-- Round a non-negative quotient to nearest, ties upwards. -/
def roundNat (a b : Nat) : Nat := (2 * a + b) / (2 * b)

/-- Blend one component (R299). -/
def blend1 (mode ga pa s d : Nat) : Nat :=
  let a := if mode = 0 then ga else roundNat (ga * pa) 4095
  if mode = 2 then min 4095 (roundNat (ga * s + (4095 - a) * d) 4095)
  else roundNat (a * s + (4095 - a) * d) 4095

/-- Blend a pixel. -/
def blend (mode ga pa : Nat) (x d : Nat × Nat × Nat) : Nat × Nat × Nat :=
  (blend1 mode ga pa x.1 d.1, blend1 mode ga pa x.2.1 d.2.1, blend1 mode ga pa x.2.2 d.2.2)

/-- GLOBAL_ALPHA expanded (R294). -/
def globalAlpha (s : State) (n : Nat) : Nat :=
  let v := s.get n Reg.layer_CFG_GLOBAL_ALPHA
  v * 16 + v / 16

/-! ### What a layer draws -/

/-- The frame that a direct layer composes. -/
def compFrame (s : State) (n : Nat) : Option DirectFrame :=
  (s.lay n).comp.bind (fun c => (s.direct n).find? (fun x => x.stream == c.1 && x.no == c.2))

/-- Whether a layer is stale for the current frame (R356). -/
def layStale (s : State) (n : Nat) : Bool := s.get n Reg.layer_FRAY_STATUS_STALE == 1

/-- What a layer draws: 0 = nothing, 1 = its frame, 2 = FILL, 3 = the hatch. -/
def layDraws (s : State) (n : Nat) : Nat :=
  if !layOn s n || (s.lay n).skipped then 0
  else if layStale s n then 3
  else if layMode s n = 2 then (if (s.lay n).miss || (compFrame s n).isNone then 2 else 1)
  else if (s.lay n).cur.isSome then 1 else 2

/-- Output row `o` of a layer's frame. -/
def frameLine (s : State) (n o : Nat) (g : LayGeom) : List LPx :=
  let coef := layCoef s n
  if layMode s n = 2 then
    match compFrame s n with
    | some x => scaleLine g coef (directLine x g) o
    | none => []
  else
    match (s.lay n).cur with
    | some d => scaleLine g coef (bufRow s (s.buf d) g) o
    | none => []

/-- Whether the hatch colour is drawn at a pixel of a stale layer (R356). -/
def hatchAt (w h x y : Nat) : Bool :=
  x < 4 || y < 4 || w ≤ x + 4 || h ≤ y + 4 || (x + y) / 16 % 4 == 0

/-- What a layer puts on its output row `o`, blended over `under`, the codes beneath its columns. -/
def layOver (s : State) (n o : Nat) (g : LayGeom) (under : List (Nat × Nat × Nat)) : List (Nat × Nat × Nat) :=
  let ga := globalAlpha s n
  let mode := s.get n Reg.layer_CFG_ALPHA_MODE
  let fill := rgbWide (s.get n Reg.layer_FILL_RGB)
  let fray := rgbWide (s.get n Reg.layer_FRAY_COLOUR_RGB)
  match layDraws s n with
  | 0 => under
  | 3 => (List.zipIdx under).map (fun x => if hatchAt g.dw g.dh x.2 o then fray else fill)
  | k =>
    let m := layMatrix s n
    let off := layOffsets s n
    let px := if k = 1 then (frameLine s n o g).toArray else #[]
    let size := min 24 (min g.dw g.dh)
    let badge := k == 1 && s.get n Reg.layer_FRAY_STATUS_BADGE == 1 && o < size
    (List.zipIdx under).map (fun x =>
      if badge && x.2 < size then fray
      else if k = 2 then blend mode ga 4095 fill x.1
      else
        let p := px.getD x.2 LPx.zero
        if p.bad then blend mode ga 4095 fill x.1
        else blend mode ga p.al (matrix12 m off (p.a, p.b, p.c)) x.1)

/-- The pixels of a raster line after blending (R299). -/
def blendLine (s : State) (h line : Nat) : List (Nat × Nat × Nat) :=
  let bg := rgbWide (s.get h Reg.head_BG_RGB)
  (headLayers h).foldl (fun row n =>
    let g := layGeom s n
    if !layOn s n || line < g.dy || g.dy + g.dh ≤ line then row
    else row.take g.dx ++ layOver s n (line - g.dy) g ((row.drop g.dx).take g.dw) ++ row.drop (g.dx + g.dw))
    (List.replicate (s.get h Reg.head_H_TIMING_H_ACTIVE) bg)

/-- The pixels of a raster line after the output matrix; from pixel `cut` on the background, where the compositor was late
(R298, R337). -/
def rasterLine (s : State) (h line : Nat) (cut : Option Nat) : List (Nat × Nat × Nat) :=
  let m := matrixAt s h Reg.head_OUT_M_LO Reg.head_OUT_M_HI (Reg.head_OUT_M_LO.at 16)
  let off := (List.range 3).map (fun c => signedAt s h (Reg.head_OUT_OFF_OFFSET.at (4 * c)))
  let bg := rgbWide (s.get h Reg.head_BG_RGB)
  let row := blendLine s h line
  let row := match cut with
    | some x => row.take x ++ List.replicate (row.length - x) bg
    | none => row
  row.map (matrix12 m off)

/-- A 12-bit code as a port sends it with `n` bits (R332). -/
def portCode (n c : Nat) : Nat := if n = 12 then c else min (2 ^ n - 1) ((c + 2 ^ (11 - n)) / 2 ^ (12 - n))

/-- The bytes that a display stamp covers of a line (R350). -/
def stampBytes (l : List (Nat × Nat × Nat)) : List Byte :=
  l.flatMap (fun p => bytesLE 2 p.1 ++ bytesLE 2 p.2.1 ++ bytesLE 2 p.2.2)

/-! ### Occlusion (R303) -/

/-- Whether a layer is opaque. -/
def layOpaque (s : State) (n : Nat) : Bool :=
  layOn s n && s.get n Reg.layer_CFG_GLOBAL_ALPHA == 255
    && (s.get n Reg.layer_CFG_ALPHA_MODE == 0 || (layGeom s n).fmt != 8)

/-- Whether a rectangle lies wholly inside the union of others: x, y, width, height. -/
def covered (r : Nat × Nat × Nat × Nat) (l : List (Nat × Nat × Nat × Nat)) : Bool :=
  let (x, y, w, h) := r
  let xs := x :: (l.flatMap (fun q => [q.1, q.1 + q.2.2.1])).filter (fun v => x ≤ v && v < x + w)
  let ys := y :: (l.flatMap (fun q => [q.2.1, q.2.1 + q.2.2.2])).filter (fun v => y ≤ v && v < y + h)
  xs.all (fun a => ys.all (fun b =>
    l.any (fun q => q.1 ≤ a && a < q.1 + q.2.2.1 && q.2.1 ≤ b && b < q.2.1 + q.2.2.2)))

/-- The destination rectangle of a layer. -/
def dstRect (s : State) (n : Nat) : Nat × Nat × Nat × Nat :=
  let g := layGeom s n
  (g.dx, g.dy, g.dw, g.dh)

/-- The layers of a head that are skipped under its configuration. -/
def skipSet (s : State) (h : Nat) : List Nat :=
  (headLayers h).filter (fun n =>
    let r := dstRect s n
    layOn s n && layMode s n != 2 && 0 < r.2.2.1 && 0 < r.2.2.2
      && covered r (((headLayers h).filter (fun m => n < m && layOpaque s m)).map (dstRect s)))

end Sys2Proof.Machine
end

