-- ==== Sys2Proof/Machine/Ports.lean ====
section
/-! DEFINITION. The display ports: link capacity, the training ladder, hot plug, blanked transitions and AUX (chapter 14:
R329-R339, R342, R343). -/

namespace Sys2Proof.Machine

/-- A display port. -/
def State.dpo (s : State) (p : Nat) : Dpo := Tbl.get Dpo.reset s.dpos p

/-- Write a display port. -/
def State.setDpo (s : State) (p : Nat) (x : Dpo) : State := { s with dpos := Tbl.put Dpo.reset p x s.dpos }

/-! ### Link capacity (R331) -/

/-- Rate of a code in Mb/s per lane. -/
def linkRate (code : Nat) : Nat :=
  [1620, 2700, 5400, 8100, 10000, 13500, 20000, 2160, 2430, 3240, 4320].getD code 0

/-- Payload of a lane, in Mb/s times 165: 8b/10b carries 0.8 and 128b/132b carries 128/132 of the rate. -/
def lanePayload (code : Nat) : Nat := if 4 ≤ code ∧ code ≤ 6 then linkRate code * 160 else linkRate code * 132

/-- Lanes of a code. -/
def lanesOf (code : Nat) : Nat := [1, 2, 4].getD code 0

/-- Bits of a component. -/
def bpcOf (code : Nat) : Nat := [6, 8, 10, 12].getD code 0

/-- The pixel clock setting of a head in units of 1/65,536 Hz. -/
def headClock (s : State) (h : Nat) : Nat := 65536 * s.get h Reg.head_PCLK_HZ_HZ + s.get h Reg.head_PCLK_FRAC_FRAC

/-- Whether a link carries a pixel clock at `bpc` bits (R331). -/
def linkCarries (rate lanes bpc clk : Nat) : Bool :=
  clk * 3 * bpc * 100 * 165 ≤ 65536000000 * (99 * lanes * lanePayload rate)

/-- Whether a port carries a pixel clock at its configured maximum (R322). -/
def portFits (s : State) (p clk : Nat) : Bool :=
  linkCarries (s.get p Reg.dpo_CFG_MAX_RATE) (lanesOf (s.get p Reg.dpo_CFG_MAX_LANES)) (bpcOf (s.get p Reg.dpo_CFG_BPC)) clk

/-- The head a port clones. -/
def portHead (s : State) (p : Nat) : Nat := s.get p Reg.dpo_CFG_HEAD

/-- The ports that clone a head. -/
def clonesOf (s : State) (h : Nat) : List Nat := (List.range 8).filter (fun p => portHead s p == h)

/-- Whether a head runs. -/
def headRuns (s : State) (h : Nat) : Bool := s.stateOf .head h != 0

/-! ### The ladder (R335) -/

/-- Put a pair into a list sorted by payload, more lanes first on a tie. -/
def insertPair (a : Nat × Nat) : List (Nat × Nat) → List (Nat × Nat)
  | [] => [a]
  | b :: t =>
    let pa := lanePayload a.1 * a.2
    let pb := lanePayload b.1 * b.2
    if pb < pa ∨ (pb = pa ∧ b.2 < a.2) then a :: b :: t else b :: insertPair a t

/-- The pairs of a port's ladder, from the top. -/
def ladder (s : State) (p : Nat) : List (Nat × Nat) :=
  let codes := if s.get p Reg.dpo_CFG_EDP = 1 then [0, 1, 2, 3, 7, 8, 9, 10] else List.range 7
  let cap := min (lanePayload (s.get p Reg.dpo_CFG_MAX_RATE)) (lanePayload (s.get p Reg.dpo_LINK_STATUS_SINK_RATE))
  let lmax := min (lanesOf (s.get p Reg.dpo_CFG_MAX_LANES)) (s.get p Reg.dpo_LINK_STATUS_SINK_LANES)
  let h := portHead s p
  let fits := fun (r n : Nat) => !headRuns s h || linkCarries r n (bpcOf (s.get p Reg.dpo_CFG_BPC)) (headClock s h)
  let pairs := (codes.flatMap (fun r => [1, 2, 4].map (fun n => (r, n)))).filter
    (fun x => lanePayload x.1 ≤ cap && x.2 ≤ lmax && fits x.1 x.2)
  pairs.foldl (fun l x => insertPair x l) []

/-- The ladder from a pair on; from the top if it does not hold the pair. -/
def ladderFrom (s : State) (p : Nat) (start : Option (Nat × Nat)) : List (Nat × Nat) :=
  let l := ladder s p
  match start with
  | none => l
  | some a => if l.contains a then l.dropWhile (fun x => x != a) else l

/-! ### States (R334, R336, R338) -/

/-- Raise an event of a port (R343). -/
def dpoEvent (p e : Nat) (s : State) : State := raise .dpo p e s

/-- Show a port's state; while the Selvedge path holds it, it reads 6 (R505). -/
def showDpo (p st : Nat) (s : State) : State := s.setState .dpo p (if (s.dpo p).sv then 6 else st)

/-- Show the trained link. -/
def showLink (p : Nat) (pair : Option (Nat × Nat)) (s : State) : State :=
  let (r, n) := pair.getD (0, 0)
  s.set p Reg.dpo_LINK_STATUS_LANES n |>.set p Reg.dpo_LINK_STATUS_RATE r

/-- The trained pair. -/
def linkPair (s : State) (p : Nat) : Nat × Nat := (s.get p Reg.dpo_LINK_STATUS_RATE, s.get p Reg.dpo_LINK_STATUS_LANES)

/-- Whether the trained pair carries the head's timing. -/
def linkFits (s : State) (p : Nat) : Bool :=
  linkCarries (linkPair s p).1 (linkPair s p).2 (bpcOf (s.get p Reg.dpo_CFG_BPC)) (headClock s (portHead s p))

/-- The ladder is exhausted (R334). -/
def ladderDone (p : Nat) (s : State) : State :=
  let s := s.setDpo p { s.dpo p with pairs := [], waits := false, downAt := s.now }
  dpoEvent p 5 (showDpo p 5 (logError .dpo p 0x0C 0 s))

/-- The attempts of a ladder begin. -/
def beginLadder (p : Nat) (s : State) : State :=
  let x := s.dpo p
  let l := ladderFrom s p x.start
  let s := s.setDpo p { x with phase := 0, pairs := l, failed := false }
  if l.isEmpty then ladderDone p s else s

/-- A port enters TRAINING: `phase` 0 = attempts at once, 1 = idle pattern first, 2 = capability read first. -/
def enterTraining (p phase : Nat) (start : Option (Nat × Nat)) (s : State) : State :=
  let x := s.dpo p
  let s := showLink p none (s.setDpo p { x with phase := phase, start := start, pairs := [], failed := false, waits := false })
  let s := showDpo p 2 s
  if phase = 0 then beginLadder p s else s

/-- WAIT_HPD to TRAINING (R334). -/
def plugIn (p : Nat) (s : State) : State := dpoEvent p 0 (enterTraining p 2 none s)

/-- A blanked transition (R338). -/
def blankPort (p : Nat) (s : State) : State :=
  let s := dpoEvent p 6 (s.setDpo p { s.dpo p with resume := true })
  enterTraining p 1 none s

/-- The head of a port stops (R323, R334). -/
def portStop (p : Nat) (s : State) : State :=
  if (s.dpo p).sv then s
  else if s.stateOf .dpo p = 3 ∨ (s.dpo p).waits then showDpo p 4 (s.setDpo p { s.dpo p with waits := false, resume := false })
  else s

/-- The head of a port starts (R334). -/
def portStart (p : Nat) (s : State) : State :=
  if (s.dpo p).sv ∨ s.stateOf .dpo p ≠ 4 then s
  else if linkFits s p then s.setDpo p { s.dpo p with waits := true }
  else blankPort p s

/-- The head of a port takes new timing (R338): a port in ACTIVE goes on seamlessly or blanks. -/
def portRetimed (p : Nat) (s : State) : State :=
  if (s.dpo p).sv ∨ ¬(s.stateOf .dpo p = 3 ∨ (s.dpo p).waits) then s
  else if linkFits s p then s
  else blankPort p s

/-- A frame of a port's head starts: a trained port sends video (R334, R338). -/
def portFrame (p : Nat) (s : State) : State :=
  let x := s.dpo p
  if x.sv ∨ !x.waits then s
  else
    let s := showDpo p 3 (s.setDpo p { x with waits := false, resume := false })
    if x.resume then dpoEvent p 7 s else s

/-- ENABLE is written 1, past the port-fit check of R330. -/
def portEnable (p : Nat) (s : State) : State :=
  if (s.dpo p).sv ∨ s.stateOf .dpo p ≠ 0 then s
  else
    let s := showDpo p 1 s
    if s.get p Reg.dpo_LINK_STATUS_HPD = 1 then plugIn p s else s

/-- ENABLE is written 0 (R334). -/
def portDisable (p : Nat) (s : State) : State :=
  if (s.dpo p).sv then s
  else showDpo p 0 (showLink p none (s.setDpo p { Dpo.reset with aux := (s.dpo p).aux }))

/-- HPD has stood high for 2 ms (R333). -/
def hpdPlug (p : Nat) (s : State) : State :=
  if s.get p Reg.dpo_LINK_STATUS_HPD = 1 then s
  else
    let s := s.set p Reg.dpo_LINK_STATUS_HPD 1
    if (s.dpo p).sv then s
    else
      match s.stateOf .dpo p with
      | 1 => plugIn p s
      | 5 => enterTraining p 0 none s
      | _ => s

/-- HPD has stood low for more than 2 ms (R333). -/
def hpdUnplug (p : Nat) (s : State) : State :=
  if s.get p Reg.dpo_LINK_STATUS_HPD = 0 then s
  else
    let s := s.set p Reg.dpo_LINK_STATUS_HPD 0
    let st := s.stateOf .dpo p
    if (s.dpo p).sv ∨ st = 0 then s
    else
      let s := dpoEvent p 1 (showLink p none (s.setDpo p { Dpo.reset with aux := (s.dpo p).aux }))
      let s := if st = 3 ∨ st = 4 then logError .dpo p 0x14 0 s else s
      showDpo p 1 s

/-- An IRQ_HPD ends (R333, R334): `lost`: the sink reports lost lock or equalisation. -/
def hpdIrq (p : Nat) (lost : Bool) (s : State) : State :=
  if s.get p Reg.dpo_LINK_STATUS_HPD = 0 then s
  else
    let s := s.inc p Reg.dpo_COUNTS_HPD_IRQ
    if lost ∧ s.stateOf .dpo p = 3 then
      enterTraining p 1 (some (linkPair s p)) (s.inc p Reg.dpo_COUNTS_LINK_LOSS)
    else dpoEvent p 2 s

/-- The capability read ends (R334). -/
def capsRead (p : Nat) (ok : Bool) (rate lanes : Nat) (s : State) : State :=
  if s.stateOf .dpo p ≠ 2 ∨ (s.dpo p).phase ≠ 2 then s
  else if ok then
    beginLadder p (s.set p Reg.dpo_LINK_STATUS_SINK_RATE rate |>.set p Reg.dpo_LINK_STATUS_SINK_LANES lanes)
  else ladderDone p (s.setDpo p { s.dpo p with phase := 0 })

/-- The idle pattern ends (R336). -/
def idleEnd (p : Nat) (s : State) : State :=
  if s.stateOf .dpo p ≠ 2 ∨ (s.dpo p).phase ≠ 1 then s else beginLadder p s

/-- A training attempt ends (R334-R336). -/
def attemptEnd (p : Nat) (ok : Bool) (s : State) : State :=
  let x := s.dpo p
  if s.stateOf .dpo p ≠ 2 ∨ x.phase ≠ 0 then s
  else
    match x.pairs with
    | [] => s
    | a :: rest =>
      if ok then
        let s := dpoEvent p 3 (showLink p (some a) (s.setDpo p { x with pairs := [] }))
        let s := if x.failed then dpoEvent p 4 (s.inc p Reg.dpo_COUNTS_FALLBACK) else s
        if headRuns s (portHead s p) then s.setDpo p { s.dpo p with waits := true }
        else showDpo p 4 s
      else
        let s := (s.setDpo p { x with pairs := rest, failed := true }).inc p Reg.dpo_COUNTS_TRAIN_FAIL
        if rest.isEmpty then ladderDone p s else s

/-- RETRY_MS has passed in LINK_DOWN (R334). -/
def linkRetry (p : Nat) (t : Time) (s : State) : State :=
  if s.stateOf .dpo p = 5 ∧ (s.dpo p).downAt + msT (s.get p Reg.dpo_TRAIN_RETRY_MS) ≤ t then enterTraining p 0 none s else s

/-! ### AUX (R339) -/

/-- Whether a port's own AUX reads run. -/
def ownAux (s : State) (p : Nat) : Bool := s.stateOf .dpo p == 2 && ((s.dpo p).phase == 2 || !(s.dpo p).pairs.isEmpty)

/-- Bytes 0-15 of AUX_DATA0-3. -/
def auxBytes (s : State) (p : Nat) : List Byte :=
  (List.range 4).flatMap (fun k => bytesLE 4 (s.get p (Reg.dpo_AUX_DATA_DATA.at (4 * k))))

/-- A host transaction begins on the wire. -/
def auxBegin (p : Nat) (s : State) : State :=
  match (s.dpo p).aux with
  | some (v, false) =>
    let op := v / 2 ^ 28 % 8
    let n := v / 2 ^ 24 % 16 + 1
    let s := s.setDpo p { s.dpo p with aux := some (v, true) }
    s.emit (.aux p op (v % 2 ^ 20) (if op = 0 ∨ op = 2 then (auxBytes s p).take n else []))
  | _ => s

/-- A host transaction ends: result, and the bytes read or the number written. -/
def auxEnd (p result n : Nat) (s : State) : State :=
  let s := s.setDpo p { s.dpo p with aux := none }
  let s := s.set p Reg.dpo_AUX_STATUS_BUSY 0 |>.set p Reg.dpo_AUX_STATUS_RESULT result |>.set p Reg.dpo_AUX_STATUS_BYTES n
  let s := if result = 4 then logError .dpo p 0x14 0 s else s
  dpoEvent p 8 s

/-- Whether a port has no sink (R339). -/
def noSink (s : State) (p : Nat) : Bool := s.stateOf .dpo p == 1 || s.get p Reg.dpo_LINK_STATUS_HPD == 0

/-- AUX_CMD is written, past the write checks. -/
def writeAux (origin p : Nat) (v : Word) (s : State) : State :=
  if s.get p Reg.dpo_AUX_STATUS_BUSY = 1 then logAccess .dpo p 0x10 origin 0x4C 0 s
  else if !getBit v.toNat 31 then s
  else if noSink s p then auxEnd p 4 0 s
  else
    let s := (s.setDpo p { s.dpo p with aux := some (v.toNat, false) }).set p Reg.dpo_AUX_STATUS_BUSY 1
    if ownAux s p then s else auxBegin p s

/-- A host transaction that waited runs (R339). -/
def auxRun (p : Nat) (s : State) : State := if ownAux s p then s else auxBegin p s

/-- A host transaction ends with a result 0-3; `data` are the bytes transferred. -/
def auxDone (p result : Nat) (data : List Byte) (s : State) : State :=
  match (s.dpo p).aux with
  | some (v, true) =>
    if noSink s p then auxEnd p 4 0 s
    else
      let op := v / 2 ^ 28 % 8
      let d := data.take (v / 2 ^ 24 % 16 + 1)
      let l := if op = 1 ∨ op = 3 then d ++ (auxBytes s p).drop d.length else auxBytes s p
      let s := forEach (List.range 4) (fun k s => s.set p (Reg.dpo_AUX_DATA_DATA.at (4 * k)) (leAt l (4 * k) 4)) s
      auxEnd p result d.length s
  | _ => s

/-! ### The Selvedge path (R505) -/

/-- A port leaves its head at engagement. -/
def portLeave (p : Nat) (s : State) : State :=
  if (s.dpo p).sv then s
  else
    let aux := (s.dpo p).aux
    showDpo p 6 (showLink p none (s.setDpo p { Dpo.reset with sv := true, aux := aux }))

/-- A port returns to its head at disengagement: 2 ms of idle pattern and the ladder from the top, after a capability read if
the sink has not been read. -/
def portReturn (p : Nat) (s : State) : State :=
  if !(s.dpo p).sv then s
  else
    let s := s.setDpo p { s.dpo p with sv := false }
    if !s.enabled .dpo p then showDpo p 0 s
    else if s.get p Reg.dpo_LINK_STATUS_HPD = 1 then
      enterTraining p (if s.get p Reg.dpo_LINK_STATUS_SINK_LANES = 0 then 2 else 1) none s
    else showDpo p 1 s

/-! ### Meanings -/

/-- HPD_PLUG (R333). -/
def execHpdPlug (p : Fin 8) (t : Time) (s : State) : Host.Outcome State Fault Refusal := .next (hpdPlug p.val (s.at t))

/-- HPD_IRQ (R333). -/
def execHpdIrq (p : Fin 8) (lost : Bool) (t : Time) (s : State) : Host.Outcome State Fault Refusal :=
  .next (hpdIrq p.val lost (s.at t))

/-- CAP_READ_DONE (R334). -/
def execCapReadDone (p : Fin 8) (ok : Bool) (rate : Fin 11) (lanes : Fin 5) (t : Time) (s : State) :
    Host.Outcome State Fault Refusal := .next (capsRead p.val ok rate.val lanes.val (s.at t))

/-- TRAIN_ATTEMPT_END (R335). -/
def execTrainAttemptEnd (p : Fin 8) (ok : Bool) (t : Time) (s : State) : Host.Outcome State Fault Refusal :=
  .next (attemptEnd p.val ok (s.at t))

/-- IDLE_PATTERN_END (R336). -/
def execIdlePatternEnd (p : Fin 8) (t : Time) (s : State) : Host.Outcome State Fault Refusal := .next (idleEnd p.val (s.at t))

/-- LINK_RETRY (R334). -/
def execLinkRetry (p : Fin 8) (t : Time) (s : State) : Host.Outcome State Fault Refusal := .next (linkRetry p.val t (s.at t))

/-- AUX_RUN (R339). -/
def execAuxRun (p : Fin 8) (t : Time) (s : State) : Host.Outcome State Fault Refusal := .next (auxRun p.val (s.at t))

/-- AUX_DONE (R339). -/
def execAuxDone (p : Fin 8) (result : Fin 4) (data : List Byte) (t : Time) (s : State) : Host.Outcome State Fault Refusal :=
  .next (auxDone p.val result.val data (s.at t))

end Sys2Proof.Machine
end

