-- ==== Sys2Proof/Machine/Heads.lean ====
section
/-! DEFINITION. The heads: the commit with its checks and deferrals, feeds, claims and occlusion, the raster and its references,
the Fray monitor and the display stamp (chapter 13: R300-R307, R310-R315; chapter 14: R321-R328, R337; chapter 15: R350,
R353-R357). -/

namespace Sys2Proof.Machine

/-! ### Small things -/

/-- Raise an event of a head (R318, R341). -/
def headEvent (h e : Nat) (s : State) : State := raise .head h e s

/-- Raise an event of a head about a layer. -/
def layerEvent (n e : Nat) (s : State) : State := headEvent (n / 16) e (s.set (n / 16) Reg.head_EVENT_SRC_LAYER n)

/-- Show what a layer draws (R316). -/
def showLay (n : Nat) (s : State) : State :=
  let st := if !layOn s n then 0 else if (s.lay n).skipped then 2 else
    match layDraws s n with
    | 3 => 4
    | 2 => 3
    | _ => 1
  let s := s.set n Reg.layer_STATUS_CUR_DESC (if layOn s n ∧ headRuns s (n / 16) ∧ layMode s n ≠ 2 then (s.lay n).cur.getD 0 else 0)
  let s := s.set n Reg.layer_STATUS_OCCLUDED (bit (s.lay n).skipped)
  s.setState .layer n st

/-- The timing fields of a head. -/
def timingOf (s : State) (h : Nat) : List Nat :=
  [s.get h Reg.head_H_TIMING_H_TOTAL, s.get h Reg.head_H_TIMING_H_ACTIVE, s.get h Reg.head_H_SYNC_H_FP, s.get h Reg.head_H_SYNC_H_SYNC,
   s.get h Reg.head_H_SYNC_HS_POL, s.get h Reg.head_V_TIMING_V_TOTAL, s.get h Reg.head_V_TIMING_V_ACTIVE, s.get h Reg.head_V_SYNC_V_FP,
   s.get h Reg.head_V_SYNC_V_SYNC, s.get h Reg.head_V_SYNC_VS_POL, s.get h Reg.head_PCLK_HZ_HZ, s.get h Reg.head_PCLK_FRAC_FRAC]

/-- The reference fields of a head. -/
def referenceOf (s : State) (h : Nat) : List Nat :=
  [s.get h Reg.head_REF_CFG_MODE, s.get h Reg.head_REF_CFG_DOMAIN, s.get h Reg.head_REF_CFG_STREAM, s.get h Reg.head_REF_CFG_DIV,
   s.get h Reg.head_REF_CFG_V_ADJ, s.get h Reg.head_REF_PHASE_NS, s.get h Reg.head_REF_PERIOD_NS, s.get h Reg.head_REF_LOCK_PULL_PPM,
   s.get h Reg.head_REF_LOCK_ROW_OFFSET]

/-- `n` lines of a head at its pixel clock, in units of 2^-16 ns. -/
def linesTime (s : State) (h : Nat) (n : Int) : Int :=
  n * (4294967296000000000 * s.get h Reg.head_H_TIMING_H_TOTAL : Nat) / (max 1 (s.head h).clk : Nat)

/-! ### The Fray monitor (R353-R357) -/

/-- FRAY_N follows the stale layers with PIN_EN (R357). -/
def refreshFrayPin (s : State) : State :=
  let low := (List.range 64).any (fun n => layStale s n && s.get n Reg.layer_FRAY_CFG_PIN_EN == 1)
  { s with pins := { s.pins with frayN := !low } }

/-- A layer enters or leaves the stale state (R356). -/
def setStale (n : Nat) (st : Bool) (ageMs : Nat) (s : State) : State :=
  if layStale s n = st then s
  else
    let s := s.set n Reg.layer_FRAY_STATUS_STALE (bit st)
    let s := if st then
        raise .layer n 0 ((logError .layer n 0x0B (min ageMs 0xFFFF) s).inc n Reg.layer_FRAY_COUNTS_STALE_ENTRIES)
      else raise .layer n 1 s
    let f := if n < 32 then Reg.chk_FRAY_STALE_LO_STALE else Reg.chk_FRAY_STALE_HI_STALE
    let s := s.set 0 f (setBit (s.get 0 f) (n % 32) st)
    raise .chk 0 2 (s.set 0 Reg.chk_EVENT_SRC_INDEX n)

/-- Whether a layer is monitored (R355). -/
def monitored (s : State) (n : Nat) : Bool :=
  layOn s n && !(s.lay n).skipped && s.get n Reg.layer_FRAY_CFG_MAX_AGE_MS != 0

/-- An instant of TIMEL in the local domain with an id; an id that names no clock leaves it open. -/
def domainTime (s : State) (d : Nat) (t : Time) : Int := if d ≤ 4 then clockAt s d t else Config.openClock d t

/-- The Fray monitor on a layer at a vblank instant (R353-R356). -/
def frayVblank (n : Nat) (t : Time) (s : State) : State :=
  let x := s.lay n
  let shown := layOn s n && !x.skipped
  let s :=
    match x.tk with
    | some k =>
      if shown ∧ x.isNew then
        let s := if k.has flagRepeated then s.inc n Reg.layer_FRAY_COUNTS_REPEATED else s
        let s := if k.has flagUnverified then s.inc n Reg.layer_FRAY_COUNTS_UNVERIFIED else s
        s.setLay n { x with isNew := false, content := if k.has flagRepeated then x.content else some (k.capture, k.fsTime) }
      else s
    | none => s
  let x := s.lay n
  let s :=
    if monitored s n then
      let c : Instant := match x.content with
        | some (cap, fs) => if s.get n Reg.layer_FRAY_CFG_AGE_BASE = 1 then fs else cap
        | none => ⟨4, (x.enabledAt : Int)⟩
      let age := (domainTime s c.dom t - c.val).toNat
      let s := s.setSat n Reg.layer_FRAY_AGE_US (age / 65536000)
      setStale n (decide (msT (s.get n Reg.layer_FRAY_CFG_MAX_AGE_MS) < age)) (age / 65536000000) s
    else setStale n false 0 s
  let p := s.get n Reg.layer_FRAY_CFG_POLICY
  let badge := shown && !layStale s n && ((s.lay n).tk.map (fun k => k.has flagUnverified)).getD false
    && (p == 1 || (p == 2 && layMode s n != 1))
  s.set n Reg.layer_FRAY_STATUS_BADGE (bit badge)

/-! ### Feeds and claims (R309-R312) -/

/-- The buffers completed to a list that its feed layer has yet to look at, oldest first. -/
def freshBufs (s : State) (l : Nat) : List Nat :=
  ((s.pool.bufs.filter (fun e => e.2.fresh && e.2.home == l && e.2.st == 2)).foldl
    (fun a e => insertBy e.2.doneNo e.1 a) []).map (·.2)
where
  /-- Insert into a list sorted by its first component. -/
  insertBy (k d : Nat) : List (Nat × Nat) → List (Nat × Nat)
    | [] => [(k, d)]
    | x :: t => if k < x.1 then (k, d) :: x :: t else x :: insertBy k d t

/-- Whether a buffer matches a feed layer (R310). -/
def feedMatches (s : State) (n d : Nat) : Bool :=
  let g := geomWith s n (some d)
  (s.buf d).fmt == s.get n Reg.layer_CFG_FORMAT && g.inside && g.scaleOk && g.linesOk

/-- A feed layer looks at one fresh buffer: a good one, or one that loses its owner (R310, R353, R204). -/
def feedLook (n d : Nat) (good drop : List Nat) (s : State) : List Nat × List Nat × State :=
  let k := (bufTicket s d).getD Ticket.zero
  let s := s.setBuf d { s.buf d with fresh := false }
  if k.has flagTruncated then (good, drop ++ [d], s)
  else if s.get n Reg.layer_FRAY_CFG_POLICY = 2 ∧ k.has flagUnverified then
    (good, drop ++ [d], raise .layer n 2 ((s.set n Reg.layer_FRAY_STATUS_HOLDING 1).inc n Reg.layer_FRAY_COUNTS_HELD))
  else if feedMatches s n d then (good ++ [d], drop, s)
  else (good, drop ++ [d], layerEvent n 4 (s.inc n Reg.layer_COUNTS_FEED_MISMATCH))

/-- A feed layer looks at its list (R310, R353, R204): the buffers that lose their owner. -/
def feedTake (n : Nat) (s : State) : List Nat × State :=
  let s := s.set n Reg.layer_FRAY_STATUS_HOLDING 0
  let (good, drop, s) := (freshBufs s (s.get n Reg.layer_CFG_SRC)).foldl
    (fun acc d => feedLook n d acc.1 acc.2.1 acc.2.2) ([], [], s)
  match good.getLast? with
  | none => (drop, s)
  | some d =>
    let s := s.incBy n Reg.layer_COUNTS_FEED_SKIPPED (good.length - 1)
    let x := s.lay n
    let s := s.setLay n { x with fed := some d, tk := bufTicket s d, isNew := true }
    (drop ++ good.dropLast ++ (x.fed.map (fun o => [o])).getD [], s)

/-- A layer settles for the next frame: its buffer, its fetch claim and the buffers it gives up (R309-R311). -/
def settleLay (n : Nat) (vblank : Bool) (s : State) : State :=
  let mode := layMode s n
  let on := layOn s n
  let (drop, s) : List Nat × State :=
    if on ∧ mode = 1 then (if vblank then feedTake n s else ([], s))
    else
      let x := s.lay n
      ((x.fed.map (fun o => [o])).getD [], s.setLay n { x with fed := none })
  let x := s.lay n
  let cur := if !on then none else if mode = 0 then some (s.get n Reg.layer_CFG_SRC) else if mode = 1 then x.fed else none
  let x := if on ∧ mode = 0 ∧ cur ≠ x.cur then { x with tk := cur.bind (bufTicket s), isNew := true } else x
  let want := if on && !x.skipped && headRuns s (n / 16) then cur else none
  let s := s.setLay n { x with cur := cur, claim := want }
  let s := if want = x.claim then s
    else
      let s := match want with
        | some d => claimFetch d n s
        | none => s
      match x.claim with
      | some d => dropFetch d n s
      | none => s
  let s := forEach drop loseOwner s
  let s := match (s.lay n).tk with
    | some k => if on ∧ mode ≠ 2 ∧ !x.skipped then s.set n Reg.layer_CUR_FRAME_NO_FRAME_NO k.frameNo else s
    | none => s
  showLay n (s.set n Reg.layer_STATUS_VSCALE (layGeom s n).vscale)

/-- Completed buffers that wait for a feed layer that no longer names their list lose their owner (R308, R310). -/
def dropUnfed (s : State) : State :=
  forEach (s.pool.bufs.filter (fun e => e.2.fresh && (feedLayerOf s e.2.home).isNone)) (fun e s => loseOwner e.1 s) s

/-! ### The staged check (R304, R322) -/

/-- Whether another enabled feed layer names the list of layer `n` (R304): a head's own layers by `s'`, others by `s`. -/
def listTaken (s' : State) (n : Nat) : Bool :=
  (List.range 64).any (fun m => m != n && layOn s' m && layMode s' m == 1 && s'.get m Reg.layer_CFG_SRC == s'.get n Reg.layer_CFG_SRC)

/-- The check of one enabled layer under the configuration `s'`: code and DETAIL of the first failure. -/
def checkLay (s' : State) (n : Nat) : Option (Nat × Nat) :=
  let h := n / 16
  let mode := layMode s' n
  let g := layGeom s' n
  let known := mode == 0 || (mode == 1 && (s'.lay n).fed.isSome) || (mode == 2 && (tapOf s' n).isSome)
  let sized := 0 < g.sw && 0 < g.sh
  let table := s'.get n Reg.layer_CFG_COEF_SRC == 1
  let poisoned := table && rangePoisoned s' (addrReg s' n Reg.layer_COEF_LO_ADDR Reg.layer_COEF_HI_ADDR) 2176
  let phase := if table && !poisoned then badPhase (readCoef s' n) else none
  if mode = 1 ∧ 63 < s'.get n Reg.layer_CFG_SRC then some (0x01, n)
  else if (mode ≠ 2 ∨ known) ∧ 8 < g.fmt then some (0x01, n)
  else if known ∧ !g.inside then some (0x01, n)
  else if s'.get h Reg.head_H_TIMING_H_ACTIVE < g.dx + g.dw ∨ s'.get h Reg.head_V_TIMING_V_ACTIVE < g.dy + g.dh then some (0x01, n)
  else if sized ∧ !g.scaleOk then some (0x01, n)
  else if phase.isSome then some (0x01, phase.getD 0)
  else if sized ∧ !g.linesOk then some (0x05, n)
  else if mode = 1 ∧ listTaken s' n then some (0x04, n)
  else if poisoned then some (0x0D, n)
  else if mode = 2 ∧ !((tapOf s' n).any (fun x =>
      s'.get h Reg.head_REF_CFG_MODE == 3 && s'.get h Reg.head_REF_CFG_STREAM == x.1)) then some (0x06, n)
  else none

/-- The checks of the head itself (R322, R340, R53). -/
def checkTiming (s s' : State) (h : Nat) : Option (Nat × Nat) :=
  let ht := s'.get h Reg.head_H_TIMING_H_TOTAL
  let ha := s'.get h Reg.head_H_TIMING_H_ACTIVE
  let vt := s'.get h Reg.head_V_TIMING_V_TOTAL
  let va := s'.get h Reg.head_V_TIMING_V_ACTIVE
  let clk := headClock s' h
  let phase := toSigned 32 (s'.get h Reg.head_REF_PHASE_NS)
  if s'.get h Reg.head_REF_CFG_MODE = 1 ∧ ¬(0 ≤ phase ∧ phase < s'.get h Reg.head_REF_PERIOD_NS) then some (0x01, 0)
  else if 7680 < ha ∨ 4320 < va then some (0x06, 0)
  else if ht < ha + 32 ∨ vt < va + 4 ∨ ht ≤ ha + s'.get h Reg.head_H_SYNC_H_FP + s'.get h Reg.head_H_SYNC_H_SYNC
      ∨ vt ≤ va + s'.get h Reg.head_V_SYNC_V_FP + s'.get h Reg.head_V_SYNC_V_SYNC then some (0x06, 0)
  else if clk < 65536 * 25000000 ∨ 65536 * 2400000000 < clk then some (0x06, 0)
  else if clk < 65536 * (23 * ht * vt) ∨ 32768 * (481 * ht * vt) < clk then some (0x06, 0)
  else if refusesHead s s' h then some (0x06, 0)
  else ((clonesOf s' h).find? (fun p => s'.enabled .dpo p && !portFits s' p clk)).map (fun p => (0x06, 0x100 + p))

/-- Every check of R304 on a head's staged values. -/
def checkHead (s : State) (h : Nat) : Option (Nat × Nat) :=
  let s' := applyGroup .head h s
  match (((headLayers h).filter (layOn s')).filterMap (checkLay s')).head? with
  | some e => some e
  | none => checkTiming s s' h

/-- The reads of coefficient tables that a check makes (R430). -/
def readTables (h : Nat) (s : State) : State :=
  let s' := applyGroup .head h s
  forEach (headLayers h) (fun n s =>
    if layOn s' n ∧ s'.get n Reg.layer_CFG_COEF_SRC = 1 then
      (dramRead 0 (addrReg s' n Reg.layer_COEF_LO_ADDR Reg.layer_COEF_HI_ADDR) 2176 s).2.2
    else s) s

/-! ### Start, stop and references (R323-R327) -/

/-- Show the pixel clock. -/
def setClock (h clk : Nat) (s : State) : State :=
  (s.setHead h { s.head h with clk := clk }).setSat h Reg.head_PCLK_NOW_HZ (clk / 65536)

/-- Acquisition starts afresh (R326). -/
def restartRef (h : Nat) (t : Time) (s : State) : State :=
  let s := s.setHead h { s.head h with good := 0, adjNext := 0, lastTarget := none, relock := false, steerAt := t }
  if s.get h Reg.head_REF_CFG_MODE = 0 then setClock h (headClock s h) (s.setState .head h 1) else s.setState .head h 2

/-- The blanking of a head begins at `t`. -/
def beginBlank (h : Nat) (t : Time) (s : State) : State :=
  let x := s.head h
  s.setHead h { x with blank := true, base := t, adj := x.adjNext, adjNext := 0,
                       lines := s.get h Reg.head_V_TIMING_V_TOTAL - s.get h Reg.head_V_TIMING_V_ACTIVE }

/-- A head starts at line V_ACTIVE (R323). -/
def startHead (h : Nat) (t : Time) (s : State) : State :=
  let s := s.setHead h { Head.reset with defers := (s.head h).defers }
  let s := setClock h (headClock s h) s
  let s := beginBlank h t (restartRef h t s)
  let s := forEach ((headLayers h).filter (layOn s)) (fun n s => s.setLay n { s.lay n with enabledAt := t }) s
  headEvent h 8 (forEach (clonesOf s h) portStart s)

/-- A head stops (R323). -/
def stopHead (h : Nat) (s : State) : State :=
  let s := (s.setHead h { Head.reset with defers := (s.head h).defers }).setState .head h 0
  forEach (clonesOf s h) portStop (s.set h Reg.head_PCLK_NOW_HZ 0)

/-- The reference of a head is lost (R327). -/
def refLost (h : Nat) (s : State) : State :=
  let m := s.get h Reg.head_REF_CFG_MODE
  if !headRuns s h ∨ ¬(m = 2 ∨ m = 3) ∨ s.stateOf .head h = 4 then s
  else headEvent h 12 ((s.setHead h { s.head h with good := 0 }).setState .head h 4)

/-- A stream no longer gives frame starts: the heads locked to it lose their reference (R327). -/
def streamLost (n : Nat) (s : State) : State :=
  forEach ((List.range 4).filter (fun h => s.get h Reg.head_REF_CFG_MODE == 3 && s.get h Reg.head_REF_CFG_STREAM == n)) refLost s

/-- Steering (R325, R326): the new pixel clock is open within PULL_PPM of the setting and 1,000 ppm per second. -/
def steer (h : Nat) (t : Time) (s : State) : State :=
  let x := s.head h
  let set : Int := headClock s h
  let pull := set * s.get h Reg.head_REF_LOCK_PULL_PPM / 1000000
  let step := set * ((t - x.steerAt : Nat) : Int) / 65536000000000 / 1000
  let clk := clampI (set - pull) (set + pull) (x.clk + clampI (-step) step (Config.steer s.free))
  setClock h clk.toNat ((s.fresh).setHead h { x with steerAt := t })

/-- The phase error at a target instant (R325): the nearest frame start minus the target. -/
def phaseError (s : State) (h : Nat) (t : Time) : Int :=
  let x := s.head h
  let lines : Int := if x.blank then x.lines + x.adj else x.lines + x.adjNext
  let next : Int := x.base + linesTime s h lines - t
  match x.lastFs with
  | some f => if (t : Int) - f ≤ next.natAbs then (f : Int) - t else next
  | none => next

/-- The correction while ACQUIRING (R325). -/
def pullIn (h : Nat) (t : Time) (e : Int) (s : State) : State :=
  let x := s.head h
  let tl := linesTime s h 1
  let vadj := s.get h Reg.head_REF_CFG_V_ADJ
  if (e.natAbs : Int) ≥ tl ∧ 0 < vadj ∧ !x.relock then
    let n := min vadj (roundUp e.natAbs tl.toNat).toNat
    let n : Int := if 0 < e then -(min n (s.get h Reg.head_V_SYNC_V_FP - 1) : Nat) else (n : Int)
    s.setHead h { x with adjNext := n }
  else steer h t s

/-- A target instant arrives (R324-R327). -/
def refTarget (h : Nat) (t : Time) (s : State) : State :=
  let m := s.get h Reg.head_REF_CFG_MODE
  if !headRuns s h ∨ m = 0 then s
  else
    let x := s.head h
    let span := linesTime s h (s.get h Reg.head_REF_CFG_DIV * s.get h Reg.head_V_TIMING_V_TOTAL : Nat)
    let early := match x.lastTarget with
      | some l => decide (2 * ((t : Int) - l) < span)
      | none => false
    if early then headEvent h 14 (s.inc h Reg.head_UNDERRUN_REF_IGNORED)
    else
      let back := s.stateOf .head h == 4
      let x := { x with lastTarget := some t, good := if back then 0 else x.good, relock := if back then m == 2 else x.relock }
      let s := s.setHead h x
      let s := if back then s.setState .head h 2 else s
      let e := phaseError s h t
      let s := s.set h Reg.head_LOCK_STATUS_PHASE_ERR_NS (satSigned 32 (e / 65536))
      if s.stateOf .head h = 3 then
        if e.natAbs ≤ nsT 2000 then steer h t s
        else pullIn h t e (headEvent h 11 ((s.setHead h { x with good := 0 }).setState .head h 2))
      else
        let good := if e.natAbs ≤ nsT 500 then x.good + 1 else 0
        let s := s.setHead h { x with good := good }
        if 4 ≤ good then steer h t (headEvent h 10 ((s.setHead h { x with good := good, relock := false }).setState .head h 3))
        else pullIn h t e s

/-! ### The commit (R303-R306, R323, R338) -/

/-- A layer takes its new configuration: `s0` is the state before the commit. -/
def applyLay (s0 : State) (n : Nat) (t : Time) (s : State) : State :=
  let was := layOn s0 n
  let x := s.lay n
  let x := { x with coef := if s.get n Reg.layer_CFG_COEF_SRC = 1 then readCoef s n else [] }
  let moved := layMode s0 n != layMode s n
  let s := if (layOn s n && !was) || moved || !layOn s n then s.setDirect n [] else s
  if layOn s n ∧ !was then
    s.setLay n { Lay.reset with coef := x.coef, enabledAt := t, skipped := x.skipped }
  else if !layOn s n then
    s.setLay n { Lay.reset with fed := x.fed, claim := x.claim }
  else if moved then
    s.setLay n { x with cur := none, tk := none, isNew := false, seen := false, comp := none, miss := false, full := false }
  else s.setLay n x

/-- The skipped layers of a head are judged again (R303). -/
def judgeSkips (h : Nat) (s : State) : State :=
  let old := (headLayers h).filter (fun n => (s.lay n).skipped)
  let new := skipSet s h
  let s := forEach (headLayers h) (fun n s => s.setLay n { s.lay n with skipped := new.contains n }) s
  raiseIf (old != new) .head h 5 s

/-- A head's commit is applied (R305, R323, R338). -/
def applyHead (h : Nat) (t : Time) (s0 : State) : State :=
  let s := commitDone .head h (applyGroup .head h s0)
  let s := s.setHead h { s.head h with defers := 0 }
  let s := s.set h Reg.head_COMMIT_WAIT_DEFERRALS 0 |>.set h Reg.head_COMMIT_WAIT_NOT_READY 0
  let s := forEach (headLayers h) (fun n s => applyLay s0 n t s) s
  let s := refreshPace (judgeSkips h s)
  let timing := timingOf s0 h != timingOf s h
  let s := raiseIf timing .head h 13 s
  let run := headRuns s0 h
  let s :=
    if s.enabled .head h then
      if !run then startHead h t s
      else
        let s := if timing then
            forEach (clonesOf s h) portRetimed (beginBlank h t (setClock h (headClock s h) (s.setHead h { s.head h with adjNext := 0 })))
          else s
        if timing ∨ referenceOf s0 h ≠ referenceOf s h then restartRef h t s else s
    else if run then stopHead h s else s
  let s := forEach (headLayers h) (fun n s => settleLay n (!run && headRuns s h) s) s
  let s := dropUnfed s
  refreshFrayPin (forEach (headLayers h) (fun n s =>
    if !run && headRuns s h then frayVblank n t s
    else if monitored s n then s else setStale n false 0 s) s)

/-- The layers of a commit that are not ready, or the layer that rejects it (R305). -/
def notReady (s : State) (h : Nat) : Nat ⊕ List Nat :=
  let s' := applyGroup .head h s
  let skip := skipSet s' h
  let fixed := (headLayers h).filter (fun n => layOn s' n && layMode s' n == 0 && !skip.contains n)
  let d := fun (n : Nat) => s.buf (s'.get n Reg.layer_CFG_SRC)
  match fixed.find? (fun n => (d n).owner != 3) with
  | some n => .inl n
  | none => .inr (fixed.filter (fun n => (d n).st != 2))

/-- A pending commit is evaluated (R304-R306). -/
def evaluateHead (h : Nat) (t : Time) (s : State) : State :=
  let s := readTables h s
  match checkHead s h with
  | some (code, detail) => commitReject .head h code detail s
  | none =>
    match notReady s h with
    | .inl n => commitReject .head h 0x10 n s
    | .inr late =>
      let s := s.set h Reg.head_COMMIT_WAIT_NOT_READY (late.foldl (fun a n => a + 2 ^ (n % 16)) 0)
      match late with
      | [] => applyHead h t s
      | n :: _ =>
        let lim := s.get h Reg.head_COMMIT_CFG_DEADLINE
        let x := s.head h
        if lim ≠ 0 ∧ lim ≤ x.defers then
          let s := (s.setHead h { x with defers := 0 }).inc h Reg.head_COUNTS_EXPIRED
          let hd := s.hdr .head h
          let s := s.setHdr .head h { hd with outcome := 4, reason := 7, pendingCommit := false, checked := false, busy := false }
          headEvent h 1 (raise .head h 31 s)
        else
          let s := s.setHead h { x with defers := x.defers + 1 }
          let s := s.setSat h Reg.head_COMMIT_WAIT_DEFERRALS (x.defers + 1)
          layerEvent n 0 (commitDefer .head h 7 (s.inc h Reg.head_COUNTS_LATE_COMMITS))

/-- A passed staged check of a head that is stopped is evaluated at once (R323). -/
def headStaged (h : Nat) (s : State) : State := if headRuns s h then s else evaluateHead h s.now s

/-- Buffers have become COMPLETE: `s0` is the state before. Stopped heads whose deferred commit names one evaluate it again (R305). -/
def afterCompletions (s0 s : State) : State :=
  let news := (s.pool.bufs.filter (fun e => e.2.st == 2 && (s0.buf e.1).st != 2)).map (·.1)
  if news.isEmpty then s
  else
    forEach (List.range 4) (fun h s =>
      let hd := s.hdr .head h
      if headRuns s h ∨ !(hd.pendingCommit && hd.checked) then s
      else
        let s' := applyGroup .head h s
        if (headLayers h).any (fun n => layOn s' n && layMode s' n == 0 && news.contains (s'.get n Reg.layer_CFG_SRC)) then
          evaluateHead h s.now s
        else s) s

/-! ### The raster (R301, R302, R313, R315, R321, R328, R337) -/

/-- Peak rate of a layer (R315): bytes of one source row times the rows of a line. -/
def peakBytes (s : State) (n : Nat) : Nat :=
  let g := layGeom s n
  let row := match g.fmt with
    | 0 => g.sw * 3 / 2
    | 1 => 3 * g.sw
    | 2 => 2 * g.sw
    | 4 => 3 * g.sw
    | 5 => 6 * g.sw
    | 6 => 3 * g.sw
    | _ => 4 * g.sw
  row * ceilDiv g.sh (max 1 g.dh)

/-- The fetched layers of a head (R315). -/
def fetchedLayers (s : State) (h : Nat) : List Nat := (headLayers h).filter (fun n => layMode s n != 2 && (s.lay n).claim.isSome)

/-- The fetch margin is reported (R315): `fill` gives the buffered bytes by local layer. -/
def reportMargin (h : Nat) (fill : List Nat) (s : State) : State :=
  let l := (fetchedLayers s h).filter (fun n => peakBytes s n != 0)
  let sum := l.foldl (fun a n => a + peakBytes s n) 0
  let line := (linesTime s h 1).toNat
  let m := l.foldl (fun a n =>
    let share := 393216 * peakBytes s n / max 1 sum
    min a (min (fill.getD (n % 16) 0) share * line / 65536 / peakBytes s n)) 0xFFFF
  (s.setHead h { s.head h with margin := min (s.head h).margin m }).set h Reg.head_FETCH_MARGIN_NOW_NS m

/-- A direct layer misses a row (R301). -/
def missRow (n : Nat) (s : State) : State :=
  let x := s.lay n
  let s := match x.comp with
    | some c => updDirect n c.1 c.2 (fun d => { d with cut := true, rows := [], chroma := [] }) s
    | none => s
  let s := s.setLay n { x with miss := true }
  let s := (s.inc n Reg.layer_COUNTS_DIRECT_MISS).inc (n / 16) Reg.head_COUNTS_DIRECT_MISS
  showLay n (layerEvent n 2 s)

/-- A direct layer at the start of its output row `o` (R301, R302). -/
def directLineStart (n o : Nat) (s : State) : State :=
  let x := s.lay n
  let g := layGeom s n
  if x.miss then s
  else
    match compFrame s n with
    | none => if x.seen then missRow n s else s
    | some d =>
      if d.cut ∨ !directHas d g (lastNeeded g o) then missRow n s
      else if o + 1 = g.dh then
        let k := frameTicket s d.stream d.no
        (s.setLay n { x with full := true, tk := some k, isNew := true }).set n Reg.layer_CUR_FRAME_NO_FRAME_NO k.frameNo
      else s

/-- A fetched layer at its output row `o`: the poisoned units it fetches (R313). -/
def fetchLine (n o : Nat) (s : State) : State :=
  match (s.lay n).cur with
  | none => s
  | some d =>
    let g := layGeom s n
    let coef := layCoef s n
    let units := fun (k : Nat) => ((rowTaps g coef k).map (·.2)).eraseDups.flatMap (badUnits s (s.buf d) g)
    let old := if o = 0 then [] else units (o - 1)
    let new := ((units o).filter (fun u => !old.contains u)).eraseDups
    if new.isEmpty then s
    else
      let s := (s.incBy n Reg.layer_COUNTS_POISON new.length).incBy (n / 16) Reg.head_COUNTS_FETCH_POISON new.length
      layerEvent n 3 (s.setHead (n / 16) { s.head (n / 16) with poison := true })

/-- A line goes out of a port (R332, R350). -/
def sendLine (p line : Nat) (row : List (Nat × Nat × Nat)) (s : State) : State :=
  let n := bpcOf (s.get p Reg.dpo_CFG_BPC)
  let px := row.map (fun x => (portCode n x.1, portCode n x.2.1, portCode n x.2.2))
  let s := match unitFor s 0 p with
    | some u =>
      if (s.chk u).on then s.setChk u { s.chk u with acc := chkRun (kget s u Reg.chk_CHKU_CFG_POLY) (s.chk u).acc (stampBytes px) }
      else s
    | none => s
  s.emit (.video p line px)

/-- A raster line starts (R301): from pixel `cut` on, if any, the compositor is late (R337). -/
def lineStart (h line : Nat) (cut : Option Nat) (fill : List Nat) (s : State) : State :=
  let x := s.head h
  if !headRuns s h ∨ x.blank ∨ line < x.line ∨ s.get h Reg.head_V_TIMING_V_ACTIVE ≤ line then s
  else
    let s := s.setHead h { x with line := line + 1 }
    let s := forEach ((headLayers h).filter (layOn s)) (fun n s =>
      let g := layGeom s n
      if line < g.dy ∨ g.dy + g.dh ≤ line then s
      else if layMode s n = 2 then directLineStart n (line - g.dy) s
      else if (s.lay n).claim.isSome then fetchLine n (line - g.dy) s
      else s) s
    let s := reportMargin h fill s
    let cut := cut.bind (fun x => if x < s.get h Reg.head_H_TIMING_H_ACTIVE then some x else none)
    let s := if cut.isSome then
        let first := !(s.head h).under
        let s := s.setHead h { s.head h with under := true }
        let s := s.incSat h Reg.head_UNDERRUN_LINES 1
        if first then headEvent h 9 (s.inc h Reg.head_UNDERRUN_FRAMES) else s
      else s
    let ports := (clonesOf s h).filter (fun p => s.stateOf .dpo p == 3)
    if ports.isEmpty then s
    else
      let row := rasterLine s h line cut
      forEach ports (fun p s => sendLine p line row s) s

/-- A direct layer chooses the frame it composes in the refresh that starts at `t` (R301). -/
def pickDirect (n : Nat) (t : Time) (s : State) : State :=
  let x := s.lay n
  let l := s.direct n
  let alive := l.filter (fun d => !d.cut && x.comp != some (d.stream, d.no))
  let due := (alive.filter (fun d => d.fs ≤ t)).getLast?
  let keep := alive.filter (fun d => t < d.fs)
  let s := s.setDirect n ((due.map (fun d => [d])).getD [] ++ keep)
  s.setLay n { x with comp := due.map (fun d => (d.stream, d.no)), miss := false, full := false, seen := x.seen || !l.isEmpty }

/-- A head frame starts (R328, R334, R338). -/
def headFrame (h : Nat) (t : Time) (s : State) : State :=
  let x := s.head h
  if !headRuns s h ∨ !x.blank then s
  else
    let s := s.setHead h { x with blank := false, line := 0, under := false, poison := false, lastFs := some t, base := t,
                                  lines := s.get h Reg.head_V_TIMING_V_TOTAL, adj := 0, margin := 0xFFFF }
    let now : Instant := ⟨4, clockAt s (s.get h Reg.head_REF_CFG_STAMP_DOMAIN) t⟩
    let s := s.set h Reg.head_FS_TIME_SEC_SEC (ofSigned 32 now.sec) |>.set h Reg.head_FS_TIME_NS_NS now.ns
    let s := s.inc h Reg.head_FRAME_COUNT_COUNT
    let s := forEach (clonesOf s h) portFrame s
    let s := forEach (clonesOf s h) (fun p s =>
      match unitFor s 0 p with
      | some u => s.setChk u { s.chk u with on := s.stateOf .dpo p == 3, acc := chkInit (kget s u Reg.chk_CHKU_CFG_POLY) }
      | none => s) s
    forEach ((headLayers h).filter (layOn s)) (fun n s => showLay n (if layMode s n = 2 then pickDirect n t s else s)) s

/-! ### Vertical blanking (R305, R332, R350) -/

/-- The data bytes of a display stamp for the frame that has just been sent, with ALIVE and CRC open (R350). -/
def stampOf (s : State) (h u : Nat) : Nat → Nat → List Byte :=
  let shown := (headLayers h).filter (fun n => layDraws s n == 1)
  let flags := shown.foldl (fun a n => a ||| ((s.lay n).tk.map Ticket.flags).getD 0) 0
  let stale := (headLayers h).any (fun n => layStale s n)
  let k := ((s.lay (16 * h + kget s u Reg.chk_CHKU_CFG_STAMP_LAYER)).tk).getD Ticket.zero
  let word := flags % 1024 + 1024 * bit stale + 2048 * bit (s.head h).under + 4096 * bit (s.head h).poison
  let poly := kget s u Reg.chk_CHKU_CFG_POLY
  let frame := s.get h Reg.head_FRAME_COUNT_COUNT
  fun alive crc =>
    bytesLE 1 1 ++ bytesLE 1 poly ++ bytesLE 2 alive ++ bytesLE 4 frame ++ bytesLE 4 crc ++ bytesLE 4 k.frameNo ++ bytesLE 2 word
      ++ bytesLE 4 (ofSigned 32 k.capture.sec) ++ bytesLE 4 k.capture.ns ++ bytesLE 2 k.capture.frac ++ bytesLE 1 (k.capture.dom % 16)
      ++ bytesLE 3 0

/-- The secondary data of a port in a vertical blanking (R332, R350): `s0` is the state as the frame ended. -/
def sendSecondary (s0 : State) (h p : Nat) (s : State) : State :=
  if s.stateOf .dpo p ≠ 3 then s
  else
    let s := s.emit (.msa p (s.get p Reg.dpo_CFG_COLORIMETRY) (s.get p Reg.dpo_CFG_CTA_RANGE))
    let s := if s.get p Reg.dpo_CFG_SDP_EN = 1 then
        s.emit (.sdp p (bytesLE 4 (s.get p Reg.dpo_SDP_HDR_HB))
          ((List.range 8).flatMap (fun k => bytesLE 4 (s.get p (Reg.dpo_SDP_DATA_DB.at (4 * k))))))
      else s
    match unitFor s 0 p with
    | none => s
    | some u =>
      if !(s.chk u).on ∨ (s0.head h).lastFs.isNone then s
      else
        let crc := chkEnd (kget s u Reg.chk_CHKU_CFG_POLY) (s.chk u).acc
        let alive := (kget s u Reg.chk_CHKU_ALIVE_ALIVE + 1) % 65536
        let data := stampOf s0 h u alive crc
        let s := kset u Reg.chk_CHKU_ALIVE_ALIVE alive (s.setChk u { s.chk u with on := false })
        let s := kset u Reg.chk_CHKU_COUNTS_DONE (kget s u Reg.chk_CHKU_COUNTS_DONE + 1) (kset u Reg.chk_CHKU_LAST_CRC crc s)
        s.emit (.sdp p ([0, BitVec.ofNat 8 (s.get 0 Reg.chk_SDP_TYPE_HB1), 0, 0]) data)

/-- A head's vblank instant (R304-R306, R310, R311, R350, R355-R357). -/
def headVblank (h : Nat) (t : Time) (s : State) : State :=
  if !headRuns s h ∨ (s.head h).blank then s
  else
    let s0 := s
    let s := s.set h Reg.head_FETCH_MARGIN_MIN_NS (s.head h).margin
    let s := headEvent h 8 (beginBlank h t s)
    let hd := s.hdr .head h
    let s := if hd.pendingCommit && hd.checked then evaluateHead h t s else s
    let s := if headRuns s h then
        let s := forEach (headLayers h) (settleLay · true) s
        refreshFrayPin (forEach (headLayers h) (frayVblank · t) s)
      else s
    forEach (clonesOf s h) (sendSecondary s0 h) s

/-! ### Soft reset (R537) -/

/-- SOFT_RESET of a layer, beside its registers: `s` is the state before them. -/
def resetLayPre (n : Nat) (s : State) : State :=
  let x := s.lay n
  let s := s.setLay n { Lay.reset with fed := none }
  let s := match x.claim with
    | some d => dropFetch d n s
    | none => s
  let s := match x.fed with
    | some d => loseOwner d s
    | none => s
  setStale n false 0 (s.setDirect n [])

/-! ### Meanings -/

/-- VBLANK (R305). -/
def execVblank (h : Fin 4) (t : Time) (s : State) : Host.Outcome State Fault Refusal := .next (headVblank h.val t (s.at t))

/-- RASTER_LINE_START (R301). -/
def execRasterLineStart (h : Fin 4) (line : Nat) (late : Option Nat) (fill : List Nat) (t : Time) (s : State) :
    Host.Outcome State Fault Refusal := .next (lineStart h.val line late fill (s.at t))

/-- HEAD_FRAME_START (R328). -/
def execHeadFrameStart (h : Fin 4) (t : Time) (s : State) : Host.Outcome State Fault Refusal :=
  .next (headFrame h.val t (s.at t))

/-- REF_TARGET (R325). -/
def execRefTarget (h : Fin 4) (t : Time) (s : State) : Host.Outcome State Fault Refusal := .next (refTarget h.val t (s.at t))

/-- REF_LOST (R327): the edges of GENLOCK_IN stay away. -/
def execRefLost (h : Fin 4) (t : Time) (s : State) : Host.Outcome State Fault Refusal := .next (refLost h.val (s.at t))

end Sys2Proof.Machine
end

