-- ==== Sys2Proof/Machine/Intake.lean ====
section
/-! DEFINITION. The commands that bring rows in and carry them through the benches, the taps and the decoders (chapters 4, 6-10
and 12), each followed by what a display head takes from it: buffers that have become COMPLETE (R305) and streams that have
stopped (R327). -/

namespace Sys2Proof.Machine

/-- Streams that have left service between two states: a head locked to one loses its reference (R327). -/
def afterStops (s0 s : State) : State :=
  forEach ((List.range 48).filter (fun n => s0.enabled .strm n && !s.enabled .strm n)) streamLost s

/-- What heads take from a change of state (R305, R327). -/
def headsFollow (s0 s : State) : State := afterCompletions s0 (afterStops s0 s)

/-- NO_FRAME, and the heads whose reference the stream is (R79, R327). -/
def noFrameLost (p e : Nat) (t : Time) (s : State) : State :=
  let was := (s.asm (asmKey p e)).noFrame
  let s := noFrame p e t s
  if (s.asm (asmKey p e)).noFrame ∧ !was then streamLost (entStream s p e) s else s

/-- STAGED_ROW_READ: row `r` of exposure `k` of the frame that bench `b` runs comes back from the staging ring (R156). -/
def stagedRowRead (b k r : Nat) (s : State) : State :=
  match (s.bench b).run with
  | none => s
  | some n =>
    match firstFrame s n with
    | none => s
    | some x => readBack b n x.no k r s

/-- FRAME_START (R71). -/
def execFrameStart (p : Fin 48) (e : Fin 16) (csi : Nat) (cut : Bool)
    (t : Nat) (s : State) : Host.Outcome State Fault Refusal :=
  .next (headsFollow s (frameStart p.val e.val csi cut t (s.at t)))

/-- LINE_RECEIVED (R74). -/
def execLineReceived (p : Fin 48) (e : Fin 16) (data : List Nat) (bad : Bool) (minPs t0 : Nat) (toDram : Bool) (queued : List Nat)
    (t : Nat) (s : State) : Host.Outcome State Fault Refusal :=
  .next (headsFollow s (lineReceived p.val e.val data bad minPs t0 toDram queued t (s.at t)))

/-- PCLK_GLITCH (R75). -/
def execPclkGlitch (p : Fin 40) (ps : Nat) (t : Nat) (s : State) : Host.Outcome State Fault Refusal :=
  .next (headsFollow s (pclkGlitch p.val ps (s.at t)))

/-- FRAME_END (R72). -/
def execFrameEnd (p : Fin 48) (e : Fin 16) (cut : Bool) (t : Nat) (s : State) : Host.Outcome State Fault Refusal :=
  .next (headsFollow s (frameEnd p.val e.val cut (s.at t)))

/-- LINE_TIMEOUT (R73). -/
def execLineTimeout (p : Fin 48) (e : Fin 16) (cut : Bool) (t : Nat) (s : State) : Host.Outcome State Fault Refusal :=
  .next (headsFollow s (lineTimeout p.val e.val cut t (s.at t)))

/-- FRAME_CLOSE (R71). -/
def execFrameClose (p : Fin 48) (e : Fin 16) (t : Nat) (s : State) : Host.Outcome State Fault Refusal :=
  .next (headsFollow s (frameClose p.val e.val t (s.at t)))

/-- NO_FRAME (R79). -/
def execNoFrame (p : Fin 48) (e : Fin 16) (t : Nat) (s : State) : Host.Outcome State Fault Refusal :=
  .next (headsFollow s (noFrameLost p.val e.val t (s.at t)))

/-- HDR_MISSING (R70). -/
def execHdrMissing (p : Fin 48) (e : Fin 16) (t : Nat) (s : State) : Host.Outcome State Fault Refusal :=
  .next (headsFollow s (hdrMissing p.val e.val t (s.at t)))

/-- EMBEDDED_DATA (R67). -/
def execEmbeddedData (i : Fin 8) (vc dt : Nat) (payload : List Byte)
    (t : Nat) (s : State) : Host.Outcome State Fault Refusal :=
  .next (headsFollow s (embeddedData i.val vc dt payload (s.at t)))

/-- PACKET_ERROR (R68). -/
def execPacketError (i : Fin 8) (kind : Fin 4) (t : Nat) (s : State) : Host.Outcome State Fault Refusal :=
  .next (headsFollow s (packetError i.val kind.val (s.at t)))

/-- PHY_ERROR (R66). -/
def execPhyError (i : Fin 8) (sot : Bool) (t : Nat) (s : State) : Host.Outcome State Fault Refusal :=
  .next (headsFollow s (phyError i.val sot (s.at t)))

/-- ULPS_ENTRY_EXIT (R66). -/
def execUlpsEntryExit (i : Fin 8) (ulps hs stop : Nat) (t : Nat) (s : State) : Host.Outcome State Fault Refusal :=
  .next (headsFollow s (phyLanes i.val ulps hs stop (s.at t)))

/-- DESKEW_SEQUENCE (R66). -/
def execDeskewSequence (i : Fin 8) (t : Nat) (s : State) : Host.Outcome State Fault Refusal :=
  .next (headsFollow s (phyDeskew i.val (s.at t)))

/-- SWAP_DONE (R119). -/
def execSwapDone (b : Fin 6) (t : Nat) (s : State) : Host.Outcome State Fault Refusal :=
  .next (headsFollow s (swapDone b.val t (s.at t)))

/-- BENCH_ROW_DONE (R138). -/
def execBenchRowDone (b : Fin 6) (backlog : Nat) (t : Nat) (s : State) : Host.Outcome State Fault Refusal :=
  .next (headsFollow s (benchRowDone b.val backlog t (s.at t)))

/-- CLASS0_ROW_TAKE (R129). -/
def execClass0RowTake (b : Fin 6) (t : Nat) (s : State) : Host.Outcome State Fault Refusal :=
  .next (headsFollow s (class0RowTake b.val t (s.at t)))

/-- STRIPE_COMPLETE (R126). -/
def execStripeComplete (b : Fin 6) (fill work : Nat) (t : Nat) (s : State) : Host.Outcome State Fault Refusal :=
  .next (headsFollow s (stripeComplete b.val fill work t (s.at t)))

/-- DEADLINE_EXPIRED (R126). -/
def execDeadlineExpired (n : Fin 48) (t : Nat) (s : State) : Host.Outcome State Fault Refusal :=
  .next (headsFollow s (deadlineExpired n.val t (s.at t)))

/-- STAGED_ROW_READ (R156). -/
def execStagedRowRead (b : Fin 6) (k : Fin 3) (r : Nat) (t : Nat) (s : State) : Host.Outcome State Fault Refusal :=
  .next (headsFollow s (stagedRowRead b.val k.val r (s.at t)))

/-- TAP_BUFFER_COMPLETE (R199). -/
def execTapBufferComplete (n : Fin 48) (k : Fin 4) (t : Nat) (s : State) : Host.Outcome State Fault Refusal :=
  .next (headsFollow s (tapComplete n.val k.val (s.at t)))

/-- STATS_READY (R218). -/
def execStatsReady (n : Fin 48) (t : Nat) (s : State) : Host.Outcome State Fault Refusal :=
  .next (headsFollow s (statsReady n.val (s.at t)))

/-- GRID_READY (R174). -/
def execGridReady (n : Fin 48) (t : Nat) (s : State) : Host.Outcome State Fault Refusal :=
  .next (headsFollow s (gridReady n.val (s.at t)))

/-- SEG_READY (R230). -/
def execSegReady (k : Fin 4) (t : Nat) (s : State) : Host.Outcome State Fault Refusal :=
  .next (headsFollow s (segReady k.val (s.at t)))

/-- PIN_FAILSAFE (R215). -/
def execPinFailsafe (p : Fin 8) (t : Nat) (s : State) : Host.Outcome State Fault Refusal :=
  .next (headsFollow s (pinFailsafe p.val (s.at t)))

/-- LUT_LOAD_END (R182). -/
def execLutLoadEnd (t : Nat) (s : State) : Host.Outcome State Fault Refusal :=
  .next (headsFollow s (lutLoadEnd (s.at t)))

/-- DEC_SLICE_START (R278). -/
def execDecSliceStart (c : Fin 64) (h : SliceHdr) (t : Nat) (s : State) : Host.Outcome State Fault Refusal :=
  .next (headsFollow s (sliceStart c.val h t (s.at t)))

/-- DEC_SLICE_DONE (R278). -/
def execDecSliceDone (c : Fin 64) (n : Nat) (bad : Bool) (ctus : List (Nat × List Nat)) (reads : List RefRead)
    (t : Nat) (s : State) : Host.Outcome State Fault Refusal :=
  .next (headsFollow s (sliceDone c.val n bad ctus reads (s.at t)))

/-- PLI_RETRY (R285). -/
def execPliRetry (c : Fin 64) (t : Nat) (s : State) : Host.Outcome State Fault Refusal :=
  .next (headsFollow s (pliRetry c.val t (s.at t)))

end Sys2Proof.Machine
end

