-- ==== Sys2Proof/Machine/Sec.lean ====
section
/-! DEFINITION. Firmware, keys and attestation (chapter 21: R472-R491): images and their checks, the rights of the origins, the
monitor's commands, the live handover, debug unlock and the attestation report. The boot itself is in Super.lean. -/

namespace Sys2Proof.Machine

/-! ### Rights (R456, R457, R487, R489) -/

/-- Every instance, in the order of its pages. -/
def allPages : List (Block × Nat) := allBlocks.flatMap (fun b => (List.range (blkCount b)).map (fun n => (b, n)))

/-- Change the header of every instance. -/
def mapHeaders (f : Block → Nat → Header → Header) (s : State) : State :=
  { s with hdrs := allPages.filterMap (fun (b, n) =>
      let h := f b n (s.hdr b n)
      if h = Header.reset then none else some (pageKey b n, h)) }

/-- A RIGHTS word: the host fields are equal and KEEPER holds 0b0111 (R24, R456). -/
def rightsWord (host svc net debug : Nat) : Word :=
  BitVec.ofNat 32 (16 * host + 256 * host + 4096 * svc + 65536 * net + 1048576 * 7 + 16777216 * debug)

/-- The default rights of a page (R457). -/
def defaultRights (b : Block) : Word :=
  match b with
  | .session => rightsWord 7 0 7 0
  | .sec | .svc => rightsWord 7 7 0 0
  | .sup => rightsWord 1 1 0 0
  | _ => rightsWord 7 0 0 0

/-- Boot step 5: the default rights on every page. -/
def writeDefaultRights (s : State) : State := mapHeaders (fun b _ h => { h with rights := defaultRights b }) s

/-- An entry of a class 5 image (R487): first page, page count, and the nibbles of the hosts, SVC and NET. -/
structure RightsEntry where
  page : Nat
  count : Nat
  host : Nat
  svc : Nat
  net : Nat

/-- The entries of a class 5 payload. -/
def rightsEntries (p : List Byte) : List RightsEntry :=
  (List.range (p.length / 8)).map (fun i =>
    let e := p.drop (8 * i)
    { page := leAt e 0 4, count := leAt e 4 2, host := leAt e 6 1 % 8, svc := leAt e 6 1 / 16 % 8, net := leAt e 7 1 % 8 })

/-- Whether an entry covers a page of an instance. -/
def RightsEntry.covers (e : RightsEntry) (b : Block) (n : Nat) : Bool :=
  decide (e.page < pageKey b n + blkPages b) && decide (pageKey b n < e.page + e.count)

/-- No entry may cover a SUP or SEC page (R487). -/
def rightsOk (p : List Byte) : Bool := (rightsEntries p).all (fun e => !e.covers .sup 0 && !e.covers .sec 0)

/-- Apply the overrides of a class 5 image (R487). -/
def applyRights (p : List Byte) (s : State) : State :=
  let l := rightsEntries p
  mapHeaders (fun b n h => l.foldl (fun h e =>
    if e.covers b n then { h with rights := rightsWord e.host e.svc e.net (bitsOf h.rights 24 4) } else h) h) s

/-- The DEBUG rights of a SCOPE (R489). -/
def debugRights (scope : Nat) (b : Block) : Nat :=
  match b with
  | .sec => 0
  | .sup => scope % 2
  | _ => scope % 2 + 6 * (scope / 2 % 2)

/-- Write the DEBUG rights of every page. -/
def writeDebugRights (scope : Nat) (s : State) : State :=
  mapHeaders (fun b _ h => { h with rights := withBits h.rights 24 4 (debugRights scope b) }) s

/-! ### The Selvedge record (R501, R502) -/

/-- Byte `i` of quadrant `q`'s part of a record, over `n` bytes. -/
def quadField (r : List Byte) (q i n : Nat) : Nat := leAt r (16 + 64 * q + i) n

/-- Whether a quadrant is enabled. -/
def quadOn (r : List Byte) (q : Nat) : Bool := getBit (leAt r 2 1) q

/-- Whether a quadrant's source is YUV. -/
def quadYuv (r : List Byte) (q : Nat) : Bool := quadField r q 2 1 == 0x1E || quadField r q 2 1 == 0x1F

/-- Pixels per line of a quadrant's source. -/
def quadWidth (r : List Byte) (q : Nat) : Nat := if quadYuv r q then quadField r q 4 2 / 2 else quadField r q 4 2

def quadHeight (r : List Byte) (q : Nat) : Nat := quadField r q 6 2

/-- The content checks of R501 on an enabled quadrant. -/
def quadOk (r : List Byte) (q : Nat) : Bool :=
  let src := quadField r q 0 1
  (if src < 128 then decide (src % 64 < 40) else decide (src % 64 < 8) && decide (quadField r q 1 1 < 16))
    && [0x2B, 0x2C, 0x1E, 0x1F].contains (quadField r q 2 1)
    && decide (16 ≤ quadWidth r q) && decide (quadWidth r q ≤ 3840) && decide (16 ≤ quadHeight r q) && decide (quadHeight r q ≤ 4320)

/-- The content checks of R501. -/
def recordOk (r : List Byte) : Bool :=
  r.length == 1296 && decide (leAt r 1 1 < 8) && (List.range 4).all (fun q => !quadOn r q || quadOk r q)

/-- A gamma entry of the fuse defaults: round(255 (i / 1023)^(1/2.2)), by the largest v with (2v - 1)^11 1023^5 ≤ 510^11 i^5. -/
def defaultGamma (i : Nat) : Nat :=
  ((List.range 255).filter (fun v => decide ((2 * v + 1) ^ 11 * 1023 ^ 5 ≤ 510 ^ 11 * i ^ 5))).length

/-- The fuse defaults (R502). -/
def defaultRecord : List Byte :=
  let quad := fun (q : Nat) => padTo 64 (bytesLE 1 q ++ bytesLE 1 0 ++ bytesLE 1 0x2C ++ bytesLE 1 0 ++ bytesLE 2 1920 ++ bytesLE 2 1080
    ++ bytesLE 2 2 ++ bytesLE 1 0 ++ bytesLE 1 0xFF ++ bytesLE 2 0 ++ bytesLE 2 256
    ++ (List.range 9).flatMap (fun k => bytesLE 2 (if k % 4 = 0 then 4096 else 0)))
  padTo 16 (bytesLE 1 1 ++ bytesLE 1 0 ++ bytesLE 1 0x0F ++ bytesLE 1 0 ++ bytesLE 2 200 ++ bytesLE 2 0 ++ bytesLE 3 255)
    ++ (List.range 4).flatMap quad ++ (List.range 1024).flatMap (fun i => bytesLE 1 (defaultGamma i))

/-! ### Images (R477-R479) -/

/-- SHAKE256, 64 bytes. -/
def shake (l : List Byte) : List Byte := padTo 64 (Config.shake256 l)

/-- The device identity: public key and signatures of the identity key (R476). -/
def idPublic : List Byte := padTo 1952 (Config.mldsaPublic (padTo 32 Config.idSeed))

def imgClass (l : List Byte) : Nat := leAt l 6 1
def imgKeySel (l : List Byte) : Nat := leAt l 7 1
def imgSvn (l : List Byte) : Nat := leAt l 8 2
def imgSlot (l : List Byte) : Nat := leAt l 10 1
def imgLen (l : List Byte) : Nat := leAt l 12 4
def imgLoad (l : List Byte) : Nat := leAt l 16 8
def imgBind (l : List Byte) : List Byte := (l.drop 88).take 64
def imgPayload (l : List Byte) : List Byte := (l.drop 5632).take (imgLen l)

/-- Bytes of an image, header and payload. -/
def imgBytes (l : List Byte) : Nat := 5632 + imgLen l

/-- Payload limit of a class (R478). -/
def classLimit (c : Nat) : Nat :=
  match c with
  | 0 => 128 * 1024
  | 1 => 32 * 1048576 - 5632
  | 2 => 256 * 1024
  | 3 => 16 * 1048576 - 5632
  | 4 => 4 * 1024
  | 5 => 64 * 1024
  | _ => 1952

/-- The fuse that R475 selects: the owner's hash once enrolled, else the root's. -/
def selectedHash (s : State) : List Byte := if s.sec.owner = [] then padTo 64 Config.rootHash else s.sec.owner

/-- ROLLBACK_c. -/
def rollbackOf (s : State) (c : Nat) : Nat := Tbl.get 0 s.sec.rollback c

/-- The checks of R479 in their order: 0, or the code of the first that fails. `avail` are the bytes at hand. -/
def checkImage (s : State) (l : List Byte) (avail : Nat) : Nat :=
  let c := imgClass l
  let pub := (l.drop 192).take 1952
  if avail < 5632 ∨ l.take 4 ≠ [0x5A, 0x52, 0x42, 0x4E] ∨ leAt l 4 2 ≠ 1 ∨ 6 < c ∨ classLimit c < imgLen l ∨ avail < imgBytes l then 0x01
  else if imgKeySel l ≠ (if s.sec.owner = [] then 0 else 1) ∨ (c = 6 ∧ s.sec.owner ≠ []) ∨ shake pub ≠ selectedHash s then 0x0E
  else if !Config.mldsaVerify pub (l.take 2144) ((l.drop 2144).take 3309) then 0x0E
  else if imgBind l ≠ List.replicate 64 0 ∧ imgBind l ≠ shake idPublic then 0x0E
  else if c ≠ 6 ∧ imgSvn l < rollbackOf s c then 0x0F
  else if shake (imgPayload l) ≠ (l.drop 24).take 64 then 0x0E
  else 0

/-- The content of a verified profile (R95): its byte layout is not in the spec; none is a bundle with a value outside its range. -/
opaque profileOf : List Byte → Option Profile

/-- Whether the content of an image of a class can be used. -/
def contentOk (c : Nat) (p : List Byte) : Bool :=
  match c with
  | 2 => (profileOf p).isSome
  | 4 => recordOk p
  | 5 => rightsOk p
  | _ => true

/-! ### Slots and boot state (R479, R482) -/

/-- Classes with slots A and B. -/
def slotted (c : Nat) : Bool := c == 0 || c == 1 || c == 4 || c == 5

def flashSlot (s : State) (c k : Nat) : FlashSlot := Tbl.get FlashSlot.empty s.sec.slots (2 * c + k)

def setFlash (c k : Nat) (f : FlashSlot) (s : State) : State :=
  { s with sec := { s.sec with slots := Tbl.put FlashSlot.empty (2 * c + k) f s.sec.slots } }

/-- Whether a stored image can be used. -/
def imageGood (s : State) (c : Nat) (f : FlashSlot) : Bool :=
  f.bytes != [] && !f.bad && imgClass f.bytes == c && checkImage s f.bytes f.bytes.length == 0 && contentOk c (imgPayload f.bytes)

def slotGood (s : State) (c k : Nat) : Bool := imageGood s c (flashSlot s c k)

/-- The preferred slot of a class: 0 = A, 1 = B. -/
def prefOf (s : State) (c : Nat) : Nat := bit (getBit s.sec.pref c)

def trialOf (s : State) (c : Nat) : Nat := Tbl.get 0 s.sec.trial c

def setPref (c k : Nat) (s : State) : State := { s with sec := { s.sec with pref := setBit s.sec.pref c (k == 1) } }

def setTrial (c v : Nat) (s : State) : State := { s with sec := { s.sec with trial := Tbl.put 0 c v s.sec.trial } }

/-- The running slot of a class, if one runs. -/
def runningOf (s : State) (c : Nat) : Option Nat :=
  match Tbl.get 0 s.sec.running c with
  | 0 => none
  | k + 1 => some k

def setRunning (c : Nat) (k : Option Nat) (s : State) : State :=
  { s with sec := { s.sec with running := Tbl.put 0 c (match k with | none => 0 | some k => k + 1) s.sec.running } }

/-- The slot of a class that is not in use. -/
def inactiveSlot (s : State) (c : Nat) : Nat := 1 - (runningOf s c).getD 0

/-- Whether the running slot of a class is on trial (R482). -/
def onTrial (s : State) (c : Nat) : Bool := trialOf s c == 2 && runningOf s c == some (prefOf s c)

/-- STATE_A or STATE_B (R490). -/
def slotState (s : State) (c k : Nat) : Nat :=
  if (flashSlot s c k).bytes = [] then 0
  else if trialOf s c ≠ 0 ∧ prefOf s c = k then 3
  else if slotGood s c k then 1 else 2

/-- The lowest SVN among the loaded bundles of a class. -/
def lowestSvn (s : State) (c : Nat) : Option Nat :=
  (s.sec.entries.filter (fun e => e.cls == c)).foldl (fun a e => match a with | none => some e.svn | some v => some (min v e.svn)) none

/-- Show the image, rollback and boot registers (R490). -/
def showSec (s : State) : State :=
  let s := forEach (List.range 6) (fun c s =>
    let s := s.set 0 (Reg.sec_IMAGE_PREFERRED.at (4 * c)) (prefOf s c)
    if slotted c then
      let s := s.set 0 (Reg.sec_IMAGE_STATE_A.at (4 * c)) (slotState s c 0)
      let s := s.set 0 (Reg.sec_IMAGE_STATE_B.at (4 * c)) (slotState s c 1)
      let s := s.set 0 (Reg.sec_IMAGE_SVN_A.at (4 * c)) (imgSvn (flashSlot s c 0).bytes)
      s.set 0 (Reg.sec_IMAGE_SVN_B.at (4 * c)) (imgSvn (flashSlot s c 1).bytes)
    else s.set 0 (Reg.sec_IMAGE_SVN_A.at (4 * c)) ((lowestSvn s c).getD 0)) s
  let s := forEach (List.range 4) (fun c s => s.set 0 (Reg.sec_ROLLBACK0_COUNT_0.up (8 * c)) (rollbackOf s c)) s
  let s := forEach (List.range 2) (fun c s => s.set 0 (Reg.sec_ROLLBACK1_COUNT_0.up (8 * c)) (rollbackOf s (4 + c))) s
  let s := s.set 0 Reg.sec_BOOT_COUNT_COUNT s.sec.bootCount
  let s := s.set 0 Reg.sec_BOOT_INFO_OWNER_ENROLLED (bit (s.sec.owner != []))
  let s := s.set 0 Reg.sec_BOOT_INFO_DEBUG_LOCKED (bit s.sec.debugLock)
  let s := s.set 0 Reg.sec_BOOT_INFO_MON_SLOT ((runningOf s 0).getD 0)
  let s := s.set 0 Reg.sec_BOOT_INFO_APP_SLOT ((runningOf s 1).getD 0)
  let s := s.set 0 Reg.sec_BOOT_INFO_SV_SLOT ((runningOf s 4).getD 0)
  let s := s.set 0 Reg.sec_BOOT_INFO_CFG_SLOT ((runningOf s 5).getD 0)
  s.set 0 Reg.sec_BOOT_INFO_TRIAL (bit ([0, 1, 4, 5].any (onTrial s)))

/-- IMAGE_INVALID for a class. -/
def imageInvalid (c : Nat) (s : State) : State := raise .sec 0 4 (s.set 0 Reg.sec_EVENT_SRC_CLASS c)

/-! ### Measurement (R476, R485) -/

/-- The entry of an image. -/
def measureOf (l : List Byte) (slot source : Nat) : SecEntry :=
  { cls := imgClass l, slot := slot, svn := imgSvn l, keySel := imgKeySel l, source := source, digest := shake (l.take (imgBytes l)) }

/-- An entry replaces the one for the same class and slot, or follows the others. -/
def putEntry (e : SecEntry) (s : State) : State :=
  let same := fun (x : SecEntry) => x.cls == e.cls && x.slot == e.slot
  let l := s.sec.entries
  { s with sec := { s.sec with entries := if l.any same then l.map (fun x => if same x then e else x) else l ++ [e] } }

/-- The bytes of an entry. -/
def SecEntry.encode (e : SecEntry) : List Byte :=
  bytesLE 1 e.cls ++ bytesLE 1 e.slot ++ bytesLE 2 e.svn ++ bytesLE 1 e.keySel ++ bytesLE 1 e.source ++ bytesLE 10 0 ++ e.digest

/-- BOOT_DIGEST of the entries measured at boot (R485). -/
def bootDigest (s : State) : List Byte := shake ((s.sec.entries.take s.sec.bootEntries).flatMap SecEntry.encode)

/-- The seed of the attestation key (R476). -/
def akSeed (s : State) : List Byte :=
  (shake (bytesLE 1 1 ++ padTo 32 Config.idSeed ++ bytesLE 8 s.sec.bootCount ++ s.sec.digest)).take 32

def akPublic (s : State) : List Byte := padTo 1952 (Config.mldsaPublic (akSeed s))

/-- The report over a nonce, signed at `t` (R485). -/
def report (s : State) (nonce : List Byte) (t : Time) : List Byte :=
  let flags := bit (s.sec.owner != []) + 2 * bit (s.get 0 Reg.sec_BOOT_INFO_DEBUG_SCOPE != 0)
    + 4 * s.get 0 Reg.sec_BOOT_INFO_SV_DEFAULTS + 8 * bit ([0, 1, 4, 5].any (fun c => trialOf s c != 0))
  let body := [0x5A, 0x52, 0x41, 0x54] ++ bytesLE 2 1 ++ bytesLE 2 s.sec.entries.length ++ bytesLE 2 s.sec.bootEntries ++ bytesLE 2 flags
    ++ bytesLE 4 s.sec.loads ++ bytesLE 8 s.sec.bootCount ++ padTo 64 nonce ++ Instant.encode ⟨4, t⟩ ++ bytesLE 24 0
    ++ s.sec.entries.flatMap SecEntry.encode ++ akPublic s
    ++ padTo 3309 (Config.mldsaSign (padTo 32 Config.idSeed) (akPublic s ++ bytesLE 8 s.sec.bootCount ++ s.sec.digest))
  body ++ padTo 3309 (Config.mldsaSign (akSeed s) body)

/-! ### Profiles and LUT bundles (R95, R96, R158) -/

/-- Whether an enabled control port or stream names a profile slot. -/
def profileInUse (s : State) (k : Nat) : Bool :=
  (List.range 48).any (fun n => (s.enabled .cctl n && s.get n Reg.cctl_CFG_PROFILE == k)
    || (s.enabled .strm n && s.get n Reg.strm_RAW_CFG_PROFILE == k))

/-- Load a profile into its slot. -/
def loadProfile (l : List Byte) (source : Nat) (s : State) : State :=
  match profileOf (imgPayload l) with
  | none => s
  | some p =>
    let k := imgSlot l
    let s := { s with profiles := Tbl.put Profile.empty k p s.profiles }
    putEntry (measureOf l k source) (s.set 0 Reg.sec_PROFILE_VALID_PROFILE (setBit (s.get 0 Reg.sec_PROFILE_VALID_PROFILE) k true))

/-- Place the tables of a LUT bundle at LOAD. -/
def loadBundle (l : List Byte) (source : Nat) (s : State) : State :=
  let k := imgSlot l
  let s := dramWrite 0 (imgLoad l % 2 ^ 40) (imgPayload l) s
  putEntry (measureOf l k source) (s.set 0 Reg.sec_PROFILE_VALID_LUT_BUNDLE (setBit (s.get 0 Reg.sec_PROFILE_VALID_LUT_BUNDLE) k true))

/-! ### The retirement record (R484) -/

/-- RANK_ROLE with every rank that has been retired read as such. -/
def retiredRoles (s : State) : Nat :=
  let gone := s.mem.queue ++ s.mem.stuck ++ (match s.mem.reline with | some j => [j.src] | none => [])
  gone.foldl (fun v r => v - v / 4 ^ r % 4 * 4 ^ r + 3 * 4 ^ r) (s.get 0 Reg.memx_RANK_ROLE)

/-- The monitor writes the retirement record to the older of its two copies. -/
def writeRetirement (s : State) : State :=
  let r := (retiredRoles s, s.sec.bootCount)
  { s with sec := { s.sec with retired := (r :: s.sec.retired).take 2 } }

/-- The record is written when the roles have changed or a rank was retired between two states; `s0` is the one before. -/
def noteRetirement (s0 s : State) : State :=
  let gone := fun (x : State) => x.mem.queue.length + x.mem.stuck.length + bit x.mem.reline.isSome
  if s.sup.mgmtReset ∨ (s0.get 0 Reg.memx_RANK_ROLE = s.get 0 Reg.memx_RANK_ROLE ∧ gone s ≤ gone s0) then s else writeRetirement s

/-! ### The command queue (R486) -/

/-- A word of an origin's copy of the command registers. -/
def secCopy (s : State) (o off : Nat) : Nat := Tbl.get 0 s.sec.copies (4096 * o + off)

def setSecCopy (o off v : Nat) (s : State) : State :=
  { s with sec := { s.sec with copies := Tbl.put 0 (4096 * o + off) v s.sec.copies } }

/-- Whether a command of an origin is queued or running. -/
def secBusy (s : State) (o : Nat) : Bool := getBit (secCopy s o 0x60) 30

/-- A write of SEC.CMD, past the checks of R28. -/
def writeSecCmd (origin : Nat) (v : Word) (s : State) : State :=
  if secBusy s origin then logAccess .sec 0 0x10 origin 0x50 0 s
  else
    let op := bitsOf v 28 4
    let c : SecCmd := { origin := origin, op := op, cls := bitsOf v 24 4,
                        addr := secCopy s origin 0x54 + 2 ^ 32 * secCopy s origin 0x58, len := secCopy s origin 0x5C }
    setSecCopy origin 0x60 (2 ^ 30 + 2 ^ 20 * op) { s with sec := { s.sec with queue := s.sec.queue ++ [c] } }

/-- CMD_RESULT of a command that has ended. -/
def secResult (c : SecCmd) (code : Nat) (s : State) : State := setSecCopy c.origin 0x60 (2 ^ 31 + 2 ^ 20 * c.op + code) s

/-- CMD_DONE of an origin. -/
def cmdDone (origin : Nat) (s : State) : State := raise .sec 0 0 (s.set 0 Reg.sec_EVENT_SRC_ORIGIN origin)

/-- A command ends with a code. -/
def endSecCmd (c : SecCmd) (code : Nat) (s : State) : State :=
  let s := if code = 0 then s else logAccess .sec 0 code c.origin 0x50 c.op s
  cmdDone c.origin (secResult c code s)

/-! ### The commands (R483, R486-R489): the code, and the state after -/

/-- Whether an origin is a host port or SVC. -/
def hostOrSvc (o : Nat) : Bool := o == 1 || o == 2 || o == 3

/-- The image at a command's address. -/
def cmdImage (c : SecCmd) (s : State) : List Byte × State :=
  let (h, s) := readOpen 0 c.addr (min c.len 5632) s
  if h.length < 5632 then (h, s)
  else
    let (p, s) := readOpen 0 (c.addr + 5632) (min (imgLen h) (c.len - 5632)) s
    (h ++ p, s)

/-- LOAD. -/
def cmdLoad (c : SecCmd) (s : State) : Nat × State :=
  let (l, s1) := cmdImage c s
  let k := imgClass l
  let bad := checkImage s1 l c.len
  if bad ≠ 0 then (bad, s1)
  else if ¬(k = 2 ∨ k = 3 ∨ k = 5) then (0x01, s1)
  else if (k = 2 ∧ 15 < imgSlot l) ∨ (k = 3 ∧ 7 < imgSlot l) ∨ !contentOk k (imgPayload l) then (0x01, s1)
  else if k = 2 ∧ profileInUse s1 (imgSlot l) then (0x10, s1)
  else
    let s1 := if k = 2 then loadProfile l 3 s1 else if k = 3 then loadBundle l 3 s1
      else putEntry (measureOf l 0 3) (applyRights (imgPayload l) s1)
    (0, { s1 with sec := { s1.sec with loads := s1.sec.loads + 1 } })

/-- UPDATE. -/
def cmdUpdate (c : SecCmd) (s : State) : Nat × State :=
  let (l, s1) := cmdImage c s
  let k := imgClass l
  let bad := checkImage s1 l c.len
  let f : FlashSlot := { bytes := l, bad := false }
  if bad ≠ 0 then (bad, s1)
  else if k = 6 ∨ (k = 2 ∧ 15 < imgSlot l) ∨ (k = 3 ∧ 7 < imgSlot l) then (0x01, s1)
  else if k = 1 ∧ s.get 0 Reg.sec_HANDOVER_PHASE ≠ 0 then (0x10, s1)
  else if k = 2 then (0, { s1 with sec := { s1.sec with store := Tbl.put FlashSlot.empty (imgSlot l) f s1.sec.store } })
  else if k = 3 then (0, { s1 with sec := { s1.sec with store := Tbl.put FlashSlot.empty (16 + imgSlot l) f s1.sec.store } })
  else
    let slot := inactiveSlot s1 k
    let s1 := if prefOf s1 k = slot then setTrial k 0 s1 else s1
    (0, setFlash k slot f s1)

/-- ACTIVATE of class 1 begins the handover (R488). -/
def beginHandover (s : State) : State :=
  let new := inactiveSlot s 1
  let l := (flashSlot s 1 new).bytes
  let s := dramWrite 0 (imgLoad l % 2 ^ 40) (imgPayload l) s
  let s := { s with sec := { s.sec with hold := true, oldSlot := (runningOf s 1).getD 0 } }
  (s.set 0 Reg.sec_HANDOVER_PHASE 1).setState .sec 0 2

/-- ACTIVATE. -/
def cmdActivate (c : SecCmd) (s : State) : Nat × State :=
  let k := inactiveSlot s c.cls
  if !slotted c.cls then (0x01, s)
  else if s.get 0 Reg.sec_HANDOVER_PHASE ≠ 0 ∨ !slotGood s c.cls k then (0x10, s)
  else if c.cls = 1 then (0, beginHandover s)
  else (0, setTrial c.cls 1 (setPref c.cls k s))

/-- CONFIRM. -/
def cmdConfirm (c : SecCmd) (s : State) : Nat × State :=
  if 5 < c.cls then (0x01, s)
  else
    match runningOf s c.cls with
    | none => (0, s)
    | some k => (0, setTrial c.cls 0 (setPref c.cls k s))

/-- The SVN that ADVANCE raises a counter to: of the running image, or the lowest loaded one. -/
def advanceTo (s : State) (c : Nat) : Option Nat :=
  if slotted c then (runningOf s c).map (fun k => imgSvn (flashSlot s c k).bytes) else lowestSvn s c

/-- ADVANCE (R483). -/
def cmdAdvance (c : SecCmd) (s : State) : Nat × State :=
  if 5 < c.cls then (0x01, s)
  else if onTrial s c.cls then (0x10, s)
  else
    match advanceTo s c.cls with
    | none => (0, s)
    | some v => (0, { s with sec := { s.sec with rollback := Tbl.put 0 c.cls (max (rollbackOf s c.cls) (min v 128)) s.sec.rollback } })

/-- ATTEST (R485). -/
def cmdAttest (c : SecCmd) (t : Time) (s : State) : Nat × State :=
  if s.sec.akErased then (0x10, s)
  else if c.len < 8698 + 80 * s.sec.entries.length then (0x12, s)
  else
    let (nonce, s) := readOpen 0 c.addr 64 s
    (0, dramWrite 0 c.addr (report s nonce t) s)

/-- IDENTITY. -/
def cmdIdentity (c : SecCmd) (s : State) : Nat × State :=
  if c.len < 5277 then (0x12, s)
  else (0, dramWrite 0 c.addr (idPublic ++ padTo 16 Config.serial ++ padTo 3309 Config.mehrecSignature) s)

/-- DEBUG_CHALLENGE (R489): 64 random bytes, which are free, and the hash of the identity. -/
def cmdChallenge (c : SecCmd) (s : State) : Nat × State :=
  if s.sec.debugLock then (0x10, s)
  else if c.len < 128 then (0x12, s)
  else
    let x := openBytes s.free 64 ++ shake idPublic
    let s := { s with sec := { s.sec with challenge := some x } }
    (0, dramWrite 0 c.addr x s.fresh)

/-- DEBUG_UNLOCK (R489). -/
def cmdUnlock (c : SecCmd) (s : State) : Nat × State :=
  if c.len < 3441 then (0x12, s)
  else
    let (l, s) := readOpen 0 c.addr 3441 s
    let scope := leAt l 128 4
    if s.sec.challenge ≠ some (l.take 128) ∨ 16 ≤ scope
        ∨ !Config.mldsaVerify (Config.keyOf (selectedHash s)) (l.take 132) (l.drop 132) then (0x0E, s)
    else
      let s := { s with sec := { s.sec with challenge := none, akErased := s.sec.akErased || getBit scope 3 } }
      let s := writeDebugRights scope (s.set 0 Reg.sec_BOOT_INFO_DEBUG_SCOPE scope)
      (0, raise .sec 0 3 s)

/-- ENROLL. -/
def cmdEnroll (c : SecCmd) (s : State) : Nat × State :=
  if s.sec.owner ≠ [] then (0x10, s)
  else
    let (l, s) := cmdImage c s
    let bad := checkImage s l c.len
    if bad ≠ 0 then (bad, s)
    else if imgClass l ≠ 6 then (0x01, s)
    else if imgBind l = List.replicate 64 0 then (0x0E, s)
    else (0, { s with sec := { s.sec with owner := shake (imgPayload l) } })

/-- The effect of a command. -/
def runSecCmd (c : SecCmd) (t : Time) (s : State) : Nat × State :=
  if (c.op = 8 ∨ c.op = 9) ∧ c.origin ≠ 3 then (0x03, s)
  else if !hostOrSvc c.origin then (0x03, s)
  else
    match c.op with
    | 1 => cmdLoad c s
    | 2 => cmdUpdate c s
    | 3 => cmdActivate c s
    | 4 => cmdConfirm c s
    | 5 => cmdAdvance c s
    | 6 => cmdAttest c t s
    | 7 => cmdIdentity c s
    | 8 => cmdChallenge c s
    | 9 => cmdUnlock c s
    | _ => cmdEnroll c s

/-- The monitor executes the oldest command, if it is of the given OP: one at a time, in the order of the queue (R486). -/
def execSecCmd (op : Nat) (t : Time) (s : State) : State :=
  if s.sup.mgmtReset ∨ ¬(s.stateOf .sec 0 = 1 ∨ s.stateOf .sec 0 = 2) then s
  else
    match s.sec.queue with
    | [] => s
    | c :: rest =>
      if c.op ≠ op then s
      else
        let (code, s) := runSecCmd c t { s with sec := { s.sec with queue := rest } }
        endSecCmd c code (showSec s)

/-! ### The live handover (R488) -/

/-- The processors run a slot of class 1. -/
def runFirmware (k : Nat) (s : State) : State := putEntry (measureOf (flashSlot s 1 k).bytes 0 k) (setRunning 1 (some k) s)

/-- The old firmware has saved its state, or is waited for no longer: the new image starts. -/
def handoverStart (s : State) : State :=
  if s.get 0 Reg.sec_HANDOVER_PHASE ≠ 1 then s
  else showSec (runFirmware (1 - s.sec.oldSlot) (s.set 0 Reg.sec_HANDOVER_PHASE 2))

/-- The new firmware has written DONE. -/
def handoverEnd (s : State) : State :=
  if s.get 0 Reg.sec_HANDOVER_PHASE ≠ 2 then s
  else
    let s := { s with sec := { s.sec with hold := false } }
    let s := setTrial 1 2 (setPref 1 (1 - s.sec.oldSlot) s)
    raise .sec 0 1 (showSec ((s.set 0 Reg.sec_HANDOVER_PHASE 0).setState .sec 0 1))

/-- TIMEOUT_MS has passed without DONE: the old image is restarted, PHASE reads 3 and then 0, and the new slot is invalid. -/
def handoverFail (s : State) : State :=
  if s.get 0 Reg.sec_HANDOVER_PHASE ≠ 2 then s
  else
    let new := 1 - s.sec.oldSlot
    let s := runFirmware s.sec.oldSlot (setFlash 1 new { flashSlot s 1 new with bad := true } s)
    raise .sec 0 2 (showSec ((s.set 0 Reg.sec_HANDOVER_PHASE 0).setState .sec 0 1))

/-- A write of SEC.HANDOVER, past the checks of R28; `ap`: it comes from the application processors. -/
def writeHandover (origin : Nat) (ap : Bool) (v : Word) (s : State) : State :=
  if (getBit v.toNat 2 ∨ getBit v.toNat 3) ∧ !ap then logAccess .sec 0 0x03 origin 0x64 0 s
  else
    let s := s.set 0 Reg.sec_HANDOVER_TIMEOUT_MS (bitsOf v 16 16)
    let s := if getBit v.toNat 2 then handoverStart s else s
    if getBit v.toNat 3 then handoverEnd s else s

/-- The waiting commands end with 0x10; their CMD_DONE waits until the keeper has re-attached (R495). -/
def secEndQueue (q : List SecCmd) (s : State) : State :=
  { s with sec := { s.sec with queue := [], ended := s.sec.ended ++ q.map (·.origin), challenge := none, hold := false } }

/-- A warm reset: commands end with 0x10, a handover ends, and keeper memory is lost (R488, R495). -/
def secWarm (s : State) : State :=
  let s := secEndQueue s.sec.queue (forEach s.sec.queue (fun c s => secResult c 0x10 s) s)
  let s := if s.get 0 Reg.sec_HANDOVER_PHASE = 0 then s
    else setRunning 1 (some s.sec.oldSlot) (s.set 0 Reg.sec_HANDOVER_PHASE 0)
  s.setState .sec 0 0

/-- The keeper has re-attached: CMD_DONE for each command that the reset ended (R495). -/
def secReattached (s : State) : State :=
  forEach s.sec.ended cmdDone { s with sec := { s.sec with ended := [] } }

/-! ### Commands -/

/-- LOAD (R486). -/
def execLoad (t : Nat) (s : State) : Host.Outcome State Fault Refusal := .next (execSecCmd 1 t (s.at t))

/-- UPDATE (R486). -/
def execUpdate (t : Nat) (s : State) : Host.Outcome State Fault Refusal := .next (execSecCmd 2 t (s.at t))

/-- ACTIVATE (R486). -/
def execActivate (t : Nat) (s : State) : Host.Outcome State Fault Refusal := .next (execSecCmd 3 t (s.at t))

/-- CONFIRM (R486). -/
def execConfirm (t : Nat) (s : State) : Host.Outcome State Fault Refusal := .next (execSecCmd 4 t (s.at t))

/-- ADVANCE (R483). -/
def execAdvance (t : Nat) (s : State) : Host.Outcome State Fault Refusal := .next (execSecCmd 5 t (s.at t))

/-- ATTEST (R485). -/
def execAttest (t : Nat) (s : State) : Host.Outcome State Fault Refusal := .next (execSecCmd 6 t (s.at t))

/-- IDENTITY (R486). -/
def execIdentity (t : Nat) (s : State) : Host.Outcome State Fault Refusal := .next (execSecCmd 7 t (s.at t))

/-- DEBUG_CHALLENGE (R489). -/
def execDebugChallenge (t : Nat) (s : State) : Host.Outcome State Fault Refusal := .next (execSecCmd 8 t (s.at t))

/-- DEBUG_UNLOCK (R489). -/
def execDebugUnlock (t : Nat) (s : State) : Host.Outcome State Fault Refusal := .next (execSecCmd 9 t (s.at t))

/-- ENROLL (R486). -/
def execEnroll (t : Nat) (s : State) : Host.Outcome State Fault Refusal := .next (execSecCmd 10 t (s.at t))

/-- QUIESCE_TIMEOUT (R488). -/
def execQuiesceTimeout (t : Nat) (s : State) : Host.Outcome State Fault Refusal := .next (handoverStart (s.at t))

/-- ENCODER_HOLD_END (R488). -/
def execEncoderHoldEnd (t : Nat) (s : State) : Host.Outcome State Fault Refusal :=
  .next { s.at t with sec := { s.sec with hold := false } }

/-- HANDOVER_TIMEOUT (R488). -/
def execHandoverTimeout (t : Nat) (s : State) : Host.Outcome State Fault Refusal := .next (handoverFail (s.at t))

end Sys2Proof.Machine
end

