-- ==== Sys2Proof/Machine/Super.lean ====
section
/-! DEFINITION. Resets, the supervisor, boot and the Selvedge path (chapter 22: R492-R512; R480-R484), and the memory and
hot-plug commands that reach the supervisor (R450, R505). -/

namespace Sys2Proof.Machine

/-! ### Causes, FAULT_N and SAFEVIEW_N (R498-R500) -/

/-- The designated display port of the latched record. -/
def svPort (s : State) : Nat := leAt s.sup.record 1 1

/-- Show FAULT and drive FAULT_N (R499). -/
def showFault (s : State) : State :=
  let c := s.get 0 Reg.sup_SV_CAUSE
  let f := s.pins.held || !s.sup.firstSeen || c % 8 != 0 || getBit c 4
  { s.set 0 Reg.sup_STATUS_FAULT (bit f) with pins := { s.pins with faultN := !f } }

/-- The quadrants that read stale. -/
def svbStale (s : State) : Nat := s.get 0 Reg.svb_STATUS_QUAD_STALE

/-- Show the trained Selvedge link. -/
def svbLink (rate lanes : Nat) (s : State) : State := (s.set 0 Reg.svb_STATUS_RATE rate).set 0 Reg.svb_STATUS_LANES lanes

/-- The Selvedge path engages (R500, R505). -/
def svEngage (s : State) : State :=
  let s := s.inc 0 Reg.sup_COUNTS_SV_ENGAGES
  let s := s.inc 0 Reg.svb_COUNTS_ENGAGES
  let times := (List.range 4).filter (quadOn s.sup.record) |>.map (fun q => (q, s.now + 1))
  let s := { s with sup := { s.sup with engaged := true, svbPhase := 1, svbPairs := [], quadTimes := times },
                    pins := { s.pins with safeviewN := false } }
  let s := svbLink 0 0 ((s.set 0 Reg.svb_STATUS_QUAD_STALE 0).set 0 Reg.sup_STATUS_SAFEVIEW 1)
  raise .sup 0 3 (portLeave (svPort s) (s.setState .svb 0 0))

/-- The path disengages (R500, R505). -/
def svDisengage (s : State) : State :=
  let s := { s with sup := { s.sup with engaged := false, svbPhase := 0, svbPairs := [] }, pins := { s.pins with safeviewN := true } }
  let s := svbLink 0 0 ((s.set 0 Reg.svb_STATUS_QUAD_STALE 0).set 0 Reg.sup_STATUS_SAFEVIEW 0)
  raise .sup 0 4 (portReturn (svPort s) (s.setState .svb 0 0))

/-- The path is engaged while a cause stands and a record is latched (R500, R533). -/
def evalCauses (s : State) : State :=
  let want := s.get 0 Reg.sup_SV_CAUSE != 0 && s.sup.latched
  showFault (if want ∧ !s.sup.engaged then svEngage s else if !want ∧ s.sup.engaged then svDisengage s else s)

/-- Set or clear a cause. -/
def setCause (f : Fld) (v : Bool) (s : State) : State := evalCauses (s.set 0 f (bit v))

/-- Whether a subchannel has failed and a rank of it found no spare (R450, R498). -/
def memoryLost (s : State) : Bool := s.mem.stuck.any (rankFailed s)

/-- What the monitor and the supervisor take from a change in the memory system (R484, R498). -/
def memFollow (s0 s : State) : State :=
  let s := noteRetirement s0 s
  if memoryLost s ∧ !memoryLost s0 then setCause Reg.sup_SV_CAUSE_DRAM true s else s

/-- Whether CMD_PUSH and raw transfers of a control port fail: an enabled quadrant of the engaged path names it (R507). -/
def svBlocks (s : State) (cctl : Nat) : Bool :=
  s.sup.engaged && (List.range 4).any (fun q => quadOn s.sup.record q && quadField s.sup.record q 11 1 == cctl)

/-! ### Heartbeats and escalation (R496-R498) -/

/-- The supervisor's own time. -/
def aonTime (s : State) : Nat := s.sup.base + s.now

/-- Forget misses older than 60 s, and show how many remain. -/
def refreshMisses (s : State) : State :=
  let l := s.sup.missTimes.filter (fun m => decide (aonTime s ≤ m + secT 60))
  { s with sup := { s.sup with missTimes := l } }.set 0 Reg.sup_STATUS_MISSES (min 3 l.length)

/-- The management complex goes into reset (R492, R495). -/
def complexReset (s : State) : State :=
  let s := { s with sup := { s.sup with mgmtReset := true, firstSeen := false } }
  showMem (releaseKeeper (secWarm s))

/-- A warm reset; `cause` is RESET_CAUSE.LAST. -/
def warmReset (cause : Nat) (s : State) : State :=
  let s := (s.set 0 Reg.sup_RESET_CAUSE_LAST cause).inc 0 Reg.sup_COUNTS_WARM_RESETS
  let s := (s.set 0 Reg.sup_HEARTBEAT_SEQ 0).setState .sup 0 2
  showFault (complexReset s)

/-- A miss (R496-R498). -/
def supMiss (s : State) : State :=
  let st := s.stateOf .sup 0
  if s.sup.mgmtReset ∨ st = 3 ∨ st = 4 then s
  else
    let s := { s with sup := { s.sup with missTimes := aonTime s :: s.sup.missTimes } }
    let s := raise .sup 0 0 (refreshMisses (s.inc 0 Reg.sup_COUNTS_MISSES))
    if 3 ≤ s.sup.missTimes.length then
      raise .sup 0 2 (setCause Reg.sup_SV_CAUSE_HELD true (complexReset (s.setState .sup 0 3)))
    else warmReset 3 (setCause Reg.sup_SV_CAUSE_HEARTBEAT true s)

/-- A write of HEARTBEAT.SEQ by KEEPER (R496). -/
def heartbeat (seq : Nat) (s : State) : State :=
  let st := s.stateOf .sup 0
  if s.sup.mgmtReset ∨ st = 3 ∨ st = 4 then s
  else if seq ≠ (s.get 0 Reg.sup_HEARTBEAT_SEQ + 1) % 256 then supMiss s
  else
    let first := !s.sup.firstSeen
    let s := s.set 0 Reg.sup_HEARTBEAT_SEQ seq
    let s := { s with sup := { s.sup with firstSeen := true, beatAt := s.now, interval := s.get 0 Reg.sup_HB_CFG_INTERVAL_MS } }
    let s := refreshMisses (s.setState .sup 0 1)
    let s := if first ∧ st = 2 then secReattached (raise .sup 0 1 s) else s
    showFault s

/-- INTERVAL_MS has passed since the last accepted heartbeat (R496). -/
def intervalMiss (t : Time) (s : State) : State :=
  if s.stateOf .sup 0 = 1 ∧ s.sup.beatAt + msT s.sup.interval ≤ t then supMiss s else s

/-- The window of R497 has passed without an accepted heartbeat; in recovery none is counted (R498). -/
def windowMiss (t : Time) (s : State) : State :=
  let st := s.stateOf .sup 0
  if (st = 0 ∨ st = 2) ∧ !s.sup.firstSeen ∧ !s.pins.held ∧ s.get 0 Reg.sup_STATUS_RECOVERY = 0 ∧ s.sup.windowAt + msT 3000 ≤ t then
    supMiss s
  else s

/-- A write of SUP.CTRL, past the checks of R28 (R500, R509). -/
def writeSupCtrl (v : Word) (s : State) : State :=
  let s := if getBit v.toNat 0 then
      let s := s.set 0 Reg.sup_SV_CAUSE_HEARTBEAT 0
      evalCauses (if memoryLost s then s else s.set 0 Reg.sup_SV_CAUSE_DRAM 0)
    else s
  let st := s.stateOf .sup 0
  if getBit v.toNat 1 ∧ !s.sup.mgmtReset ∧ st ≠ 3 ∧ st ≠ 4 then warmReset 4 s else s

/-- SAFEVIEW_REQ_N (R498, R500, R533). -/
def safeviewPin (low : Bool) (s : State) : State :=
  let s := { s with pins := { s.pins with safeviewReqN := !low } }
  setCause Reg.sup_SV_CAUSE_REQUEST low (s.set 0 Reg.sup_STATUS_REQ_PIN (bit low))

/-! ### Boot (R480-R484) -/

/-- A slot is chosen at a cold boot: the preferred one, else the other; a trial that was not confirmed ends (R480, R482). Answers
whether it did. -/
def bootSelect (c : Nat) (s : State) : Bool × State :=
  let back := trialOf s c == 2
  let s := if back then setTrial c 0 (setPref c (1 - prefOf s c) s) else s
  let p := prefOf s c
  let k := if slotGood s c p then some p else if slotGood s c (1 - p) then some (1 - p) else none
  let s := setRunning c k s
  (back, if k = some p ∧ trialOf s c = 1 then setTrial c 2 s else s)

/-- A warm boot takes the running slot again, or the other if that one is no longer good (R495). -/
def warmSelect (c : Nat) (s : State) : State :=
  let p := (runningOf s c).getD (prefOf s c)
  setRunning c (if slotGood s c p then some p else if slotGood s c (1 - p) then some (1 - p) else none) s

/-- Step 1: the Selvedge record is latched. -/
def latchRecord (s : State) : Bool × State :=
  let (back, s) := bootSelect 4 s
  let (r, src) := match runningOf s 4 with
    | some k => (imgPayload (flashSlot s 4 k).bytes, k)
    | none => (defaultRecord, 2)
  let s := s.set 0 Reg.sec_BOOT_INFO_SV_DEFAULTS (bit (src == 2))
  let s := (s.set 0 Reg.svb_STATUS_RECORD_SRC src).set 0 Reg.svb_STATUS_PORT (leAt r 1 1)
  let s := s.set 0 Reg.svb_STATUS_QUAD_ACTIVE (leAt r 2 1 % 16)
  (back, { s with sup := { s.sup with record := r, latched := true } })

/-- The ROM stays in recovery (R481, R498). -/
def enterRecovery (s : State) : State :=
  setCause Reg.sup_SV_CAUSE_HEARTBEAT true ((s.setState .sec 0 3).set 0 Reg.sup_STATUS_RECOVERY 1)

/-- The retirement record that boot uses: the copy with the higher BOOT_COUNT (R484). -/
def bestRetirement (s : State) : Option (Nat × Nat) :=
  s.sec.retired.foldl (fun a r => match a with | none => some r | some b => if b.2 < r.2 then some r else some b) none

/-- Step 4: the roles of the ranks, MAP and RANK_ROLE, and the DDRCs. A relining that the reset cut short ends with its spare in
service (R449). Answers whether no retirement record was valid. -/
def bootMemory (s : State) : Bool × State :=
  let (roles, none') := match bestRetirement s with
    | some r => (r.1, false)
    | none => (Config.configRoles (flashSlot s 5 ((runningOf s 5).getD 0)).bytes % 2 ^ 32, true)
  let s := forEach (List.range 4) (fun c s => s.set c Reg.ddrc_POP (Config.population c)) s
  let s := s.set 0 Reg.memx_RANK_ROLE roles
  let s := match s.mem.reline with
    | some j => setRole j.src 3 (setRole j.dst 1 s)
    | none => s
  let used := (List.range 16).filter (fun r => rankRole s r == 1)
  let mask := ((List.range 8).filter (fun sub => used.any (fun r => r / 2 == sub))).foldl (fun a sub => a + 2 ^ sub) 0
  let s := (s.set 0 Reg.memx_MAP_MASK mask).set 0 Reg.memx_MAP_LOG2_N (Nat.log2 (popcount mask 8))
  let s := { s with mem := { s.mem with ranks := used.foldl (fun a r => a + 2 ^ r) 0, reline := none } }
  (none', forEach ((List.range 4).filter (fun c => subPop s (2 * c) != 0 || subPop s (2 * c + 1) != 0)) (fun c s =>
    ddrcEnable c (s.setHdr .ddrc c { s.hdr .ddrc c with enable := true, enableStaged := true })) s)

/-- Step 6: one entry of the stores is loaded, or its class is noted as not valid. -/
def bootEntry (i : Nat) (a : List Nat) (s : State) : List Nat × State :=
  let c := if i < 16 then 2 else 3
  let f := Tbl.get FlashSlot.empty s.sec.store i
  if f.bytes = [] then (a, s)
  else if !imageGood s c f then (a ++ [c], s)
  else (a, if c = 2 then loadProfile f.bytes 2 s else loadBundle f.bytes 2 s)

/-- Step 6, the stores: every valid entry is loaded. Answers the classes of the entries that are not valid. -/
def bootStore (s : State) : List Nat × State :=
  forEach (List.range 24) (fun i p => bootEntry i p.1 p.2) ([], s)

/-- The entry of the slot of a class that runs. -/
def measureRunning (c : Nat) (s : State) : State :=
  match runningOf s c with
  | some k => putEntry (measureOf (flashSlot s c k).bytes 0 k) s
  | none => s

/-- The entry of the retirement record (R485). -/
def measureRetirement (s : State) : State :=
  match bestRetirement s with
  | some r => putEntry { cls := 0xFF, slot := 0, svn := 0, keySel := 0, source := 0, digest := shake (Config.retirementImage r.1 r.2) } s
  | none => s

/-- Step 6, the application firmware of the running slot is copied to LOAD. -/
def loadFirmware (s : State) : State :=
  match runningOf s 1 with
  | some k =>
    let l := (flashSlot s 1 k).bytes
    dramWrite 0 (imgLoad l % 2 ^ 40) (imgPayload l) s
  | none => s

/-- Steps 7 and 8. -/
def bootEnd (bad : List Nat) (s : State) : State :=
  let s := { s with sec := { s.sec with digest := bootDigest s } }
  forEach bad imageInvalid (showSec (s.setState .sec 0 1))

/-- Boot after a power-on or cold reset (R480). -/
def coldBoot (s : State) : State :=
  let (b4, s) := latchRecord s
  let s := evalCauses s
  let (b0, s) := bootSelect 0 s
  if runningOf s 0 = none then enterRecovery s
  else
    let s := { s with sec := { s.sec with bootCount := s.sec.bootCount + 1 } }
    let (b5, s) := bootSelect 5 s
    let (b1, s) := bootSelect 1 s
    let (noRec, s) := bootMemory s
    let s := writeDefaultRights s
    let s := match runningOf s 5 with
      | some k => applyRights (imgPayload (flashSlot s 5 k).bytes) s
      | none => s
    let s := measureRunning 5 (measureRunning 1 (measureRetirement (measureRunning 4 (measureRunning 0 s))))
    let (lost, s) := bootStore (loadFirmware s)
    let s := { s with sec := { s.sec with bootEntries := s.sec.entries.length } }
    let turned := [(b0, 0), (b1, 1), (b4, 4), (b5, 5)].filter (·.1) |>.map (·.2)
    bootEnd (lost ++ turned ++ (if noRec then [5] else [])) s

/-- Boot after a warm reset: steps 2, 3, 6, 7 and 8, the application firmware alone being loaded again (R495). -/
def warmBoot (s : State) : State :=
  let s := warmSelect 0 s
  if runningOf s 0 = none then enterRecovery s
  else
    let s := { s with sec := { s.sec with bootCount := s.sec.bootCount + 1 } }
    bootEnd [] (loadFirmware (measureRunning 1 (measureRunning 0 (warmSelect 1 s))))

/-- 1 ms after a warm reset the keeper starts again (R495). -/
def mgmtResetEnd (t : Time) (s : State) : State :=
  if !s.sup.mgmtReset ∨ s.stateOf .sup 0 ≠ 2 then s
  else showMem (warmBoot { s with sup := { s.sup with mgmtReset := false, windowAt := t } })

/-! ### Resets (R492, R493) -/

/-- What fuses and boot flash keep through every reset (R474, R492). -/
def keptSec (x : Sec) : Sec :=
  { Sec.reset with owner := x.owner, rollback := x.rollback, debugLock := x.debugLock, slots := x.slots, store := x.store,
                   retired := x.retired, pref := x.pref, trial := x.trial, bootCount := x.bootCount }

/-- Registers of a window. -/
def windowOf (b : Block) (t : Tbl Word) : Tbl Word :=
  t.filter (fun e => decide (winBase b 0 ≤ e.1) && decide (e.1 < winBase b 0 + blkPages b * 0x1000))

/-- What a cold reset leaves before the supervisor shows it: everything outside VDD_AON at reset (R492). -/
def coldBase (selvedge on : Bool) (s : State) : State :=
  { State.reset with
    regs := windowOf .sup s.regs ++ (if selvedge then windowOf .svb s.regs else []),
    free := s.free, sent := s.sent, pending := s.pending,
    mem := { Mem.reset with reline := s.mem.reline }, sec := keptSec s.sec,
    sup := { s.sup with mgmtReset := true, base := aonTime s, firstSeen := false, latched := selvedge && s.sup.latched, engaged := on,
                        svbPhase := if on then 1 else 0, svbPairs := [],
                        svbLines := if selvedge then s.sup.svbLines else [], quadTimes := [] },
    pins := { State.reset.pins with safeviewN := !on, safeviewReqN := s.pins.safeviewReqN, resetN := s.pins.resetN } }

/-- Everything outside VDD_AON goes to reset (R492); with `selvedge`, the Selvedge domain and its display port's HPD stay. -/
def coldReset (selvedge : Bool) (s : State) : State :=
  let on := selvedge && s.sup.engaged
  let s1 := coldBase selvedge on s
  let low := !s.pins.safeviewReqN
  let s1 := (s1.set 0 Reg.sup_HEARTBEAT_SEQ 0).set 0 Reg.sup_SV_CAUSE (if low then 8 else 0)
  let s1 := ((s1.set 0 Reg.sup_STATUS 1).set 0 Reg.sup_STATUS_REQ_PIN (bit low)).set 0 Reg.sup_STATUS_SAFEVIEW (bit on)
  let s1 := refreshMisses s1
  if !on then s1
  else
    let p := svPort s
    let times := (List.range 4).filter (quadOn s.sup.record) |>.map (fun q => (q, 1))
    let s1 := { s1 with sup := { s1.sup with quadTimes := times } }
    portLeave p (svbLink 0 0 (s1.set p Reg.dpo_LINK_STATUS_HPD (s.get p Reg.dpo_LINK_STATUS_HPD)))

/-- RESET_N is asserted (R492): a cold reset. -/
def resetAssert (s : State) : State :=
  let st := s.stateOf .sup 0
  let s := coldReset false { s with pins := { s.pins with resetN := false } }
  let s := s.set 0 Reg.sup_RESET_CAUSE_LAST (if st = 4 then 2 else 1)
  let s := s.set 0 Reg.sup_RESET_CAUSE_WAS_HELD (bit (st == 3))
  s.setState .sup 0 (if st = 4 then 4 else 0)

/-- A thermal trip, or one that a release of RESET_N does not end (R508). -/
def tripOn (s : State) : State :=
  let s := { s with sup := { s.sup with latched := s.sup.record != [], mgmtReset := true } }
  setCause Reg.sup_SV_CAUSE_THERMAL true (s.setState .sup 0 4)

/-- The hottest reading, in 1/16 °C. -/
def supMax (s : State) : Int := toSigned 16 (s.get 0 Reg.sup_THERMAL_MAX)

/-- Pins leave their reset state, and the first heartbeat's window begins (R493, R497). -/
def leaveReset (t : Time) (s : State) : State :=
  { s with pins := { s.pins with held := false, vidDriven := true }, sup := { s.sup with mgmtReset := false, windowAt := t } }

/-- RESET_N high (input). -/
def liftResetN (s : State) : State := { s with pins := { s.pins with resetN := true } }

/-- RESET_N has been released: a trip that is still hot trips again, else boot runs (R480, R508). -/
def released (t : Time) (s : State) : State :=
  if s.stateOf .sup 0 = 4 ∧ 115 * 16 ≤ supMax s then tripOn s
  else coldBoot (refreshFrayPin (showFault ((leaveReset t s).setState .sup 0 0)))

/-- RESET_N is released (R480, R497, R508): pins leave reset and boot runs. -/
def resetRelease (t : Time) (s : State) : State := if s.pins.resetN then s else released t (liftResetN s)

/-- What VDD_AON leaves when it crosses its threshold (R492): fuses and boot flash. -/
def powerBase (s : State) : State :=
  { State.reset with free := s.free, sent := s.sent, pending := s.pending, sec := keptSec s.sec,
                     pins := { State.reset.pins with safeviewReqN := s.pins.safeviewReqN } }

/-- VDD_AON crosses its threshold (R492): everything but fuses and boot flash is reset. -/
def powerOn (s : State) : State :=
  let low := !s.pins.safeviewReqN
  if low then ((powerBase s).set 0 Reg.sup_SV_CAUSE 8).set 0 Reg.sup_STATUS_REQ_PIN 1 else powerBase s

/-- An image of class 0 in recovery: it is checked, written to slot A, and the device resets cold (R481). -/
def recoveryImage (l : List Byte) (t : Time) (s : State) : State :=
  if s.stateOf .sec 0 ≠ 3 then s
  else
    let bad := checkImage s l l.length
    if bad ≠ 0 then logError .sec 0 bad 0 s
    else if imgClass l ≠ 0 then logError .sec 0 0x01 0 s
    else resetRelease t (resetAssert (setFlash 0 0 { bytes := l, bad := false } s))

/-! ### Temperature (R508) -/

/-- The readings are shown, and the warning follows the hottest (R508). -/
def thermalShow (temps : List Int) (hot : Nat) (mx : Int) (s : State) : State :=
  let s := if s.pins.held then s else
    forEach (List.range 16) (fun k s =>
      (s.set 0 (Reg.glb_TEMP_TEMP.at (4 * k)) (ofSigned 16 (temps.getD k 0))).set 0 (Reg.glb_TEMP_VALID.at (4 * k)) 1) s
  let s := (s.set 0 Reg.sup_THERMAL_MAX (ofSigned 16 mx)).set 0 Reg.sup_THERMAL_HOTTEST hot
  let peak := toSigned 8 (s.get 0 Reg.sup_THERMAL_PEAK)
  let s := s.set 0 Reg.sup_THERMAL_PEAK (ofSigned 8 (max peak (clampI (-127) 127 (mx / 16))))
  let warn := s.get 0 Reg.sup_THERMAL_WARN == 1
  if !warn ∧ 105 * 16 ≤ mx then raise .sup 0 5 (s.set 0 Reg.sup_THERMAL_WARN 1)
  else if warn ∧ mx < 100 * 16 then raise .sup 0 6 (s.set 0 Reg.sup_THERMAL_WARN 0) else s

/-- Count consecutive samples at or above the trip point (R508). -/
def countHot (n : Nat) (s : State) : State := { s with sup := { s.sup with hot := n } }

/-- The second hot sample in a row trips (R508). -/
def thermalTrip (n : Nat) (s : State) : State :=
  if n < 2 ∨ s.stateOf .sup 0 = 4 ∨ !s.pins.resetN then s
  else tripOn (coldReset true ((s.set 0 Reg.sup_RESET_CAUSE_LAST 2).inc 0 Reg.sup_COUNTS_TRIPS))

/-- A thermal sample: the 16 readings in 1/16 °C. -/
def thermalSample (temps : List Int) (s : State) : State :=
  let hot := (List.range 16).foldl (fun a k => if temps.getD a 0 < temps.getD k 0 then k else a) 0
  let mx := temps.getD hot 0
  let n := if 125 * 16 ≤ mx then s.sup.hot + 1 else 0
  thermalTrip n (countHot n (thermalShow temps hot mx s))

/-! ### The Selvedge link (R505) -/

/-- The pairs of the Selvedge ladder, from its top: rate code and lanes. -/
def svbLadder : List (Nat × Nat) := [(2, 4), (1, 4), (2, 2), (0, 4), (1, 2), (2, 1)]

/-- The ladder is exhausted, or HPD is low: the SVB tries again after 1,000 ms. -/
def svbWait (st : Nat) (s : State) : State :=
  svbLink 0 0 ({ s with sup := { s.sup with svbPhase := 3, svbPairs := [] } }.setState .svb 0 st)

/-- Attempts begin, within what the sink's DPCD allows. -/
def svbBegin (rate lanes : Nat) (s : State) : State :=
  if s.get (svPort s) Reg.dpo_LINK_STATUS_HPD = 0 then svbWait 1 s
  else
    let l := svbLadder.filter (fun x => decide (linkRate x.1 ≤ linkRate rate) && decide (x.2 ≤ lanes))
    if l.isEmpty then raise .svb 0 1 (svbWait 4 s)
    else { s with sup := { s.sup with svbPhase := 2, svbPairs := l } }.setState .svb 0 2

/-- The idle pattern has been sent for 2 ms. -/
def svbIdleEnd (rate lanes : Nat) (s : State) : State :=
  if s.sup.engaged ∧ s.sup.svbPhase = 1 then svbBegin rate lanes s else s

/-- 1,000 ms have passed. -/
def svbRetry (rate lanes : Nat) (s : State) : State :=
  if s.sup.engaged ∧ s.sup.svbPhase = 3 then svbBegin rate lanes s else s

/-- An attempt ends: the link trains and the raster starts, or the next pair is tried. -/
def svbAttempt (ok : Bool) (s : State) : State :=
  if !s.sup.engaged ∨ s.sup.svbPhase ≠ 2 then s
  else
    match s.sup.svbPairs with
    | [] => s
    | a :: rest =>
      if ok then
        let s := { s with sup := { s.sup with svbPhase := 0, svbPairs := [] } }
        raise .svb 0 0 (svbLink a.1 a.2 (s.setState .svb 0 3))
      else
        let s := { s with sup := { s.sup with svbPairs := rest } }.inc 0 Reg.svb_COUNTS_TRAIN_FAIL
        if rest.isEmpty then raise .svb 0 1 (svbWait 4 s) else s

/-- The designated port's sink is unplugged: a link that shows is lost (R505, R511). -/
def svbUnplug (p : Nat) (s : State) : State :=
  if s.sup.engaged ∧ p = svPort s ∧ s.stateOf .svb 0 = 3 then svbWait 1 (s.inc 0 Reg.svb_COUNTS_LINK_LOSS) else s

/-! ### Quadrants (R504, R506) -/

/-- A column reflected at the edges of a row (R154). -/
def reflectAt (x : Int) (w : Nat) : Nat :=
  if x < 0 then (-x).toNat else if (w : Int) ≤ x then (2 * ((w : Int) - 1) - x).toNat else x.toNat

/-- Source column of output column x, and source row of output row y. -/
def svbCol (r : List Byte) (q x : Nat) : Nat := (2 * x + 1) * quadWidth r q / 1920
def svbRow (r : List Byte) (q y : Nat) : Nat := (2 * y + 1) * quadHeight r q / 1080

/-- A raw code above black, on 12 bits. -/
def svbCode (r : List Byte) (q c : Nat) : Nat :=
  (c - quadField r q 14 2) * (if quadField r q 2 1 = 0x2B then 4 else 1)

/-- Component k (0 = R, 1 = G, 2 = B) of a raw site, in quarters of a code: its own, or the mean of its neighbours. -/
def svbComponent (r : List Byte) (q : Nat) (rows : List (List Nat)) (sx sy k : Nat) : Nat :=
  let cfa := quadField r q 3 1
  let w := quadWidth r q
  let v := fun (dx dy : Nat) => svbCode r q ((rows.getD dy []).getD (reflectAt ((sx : Int) + dx - 1) w) 0)
  if cfaColour cfa sx sy = k then 4 * v 1 1
  else
    let near := (List.range 9).filter (fun i => i != 4 && cfaColour cfa (sx + 1 + i % 3) (sy + 1 + i / 3) == k)
    near.foldl (fun a i => a + v (i % 3) (i / 3)) 0 * 4 / max 1 near.length

/-- Input of the matrix at a site, in quarters of a code. -/
def svbInput (r : List Byte) (q : Nat) (rows : List (List Nat)) (sx sy : Nat) : List Int :=
  if quadYuv r q then
    let row := rows.getD 1 []
    let m := if quadField r q 2 1 = 0x1E then 16 else 4
    let first := quadField r q 0 1 < 128 && quadField r q 8 2 / 256 % 4 == 2
    let y := row.getD (if first then 2 * sx else 2 * sx + 1) 0
    let c := fun (k : Nat) => row.getD (4 * (sx / 2) + (if first then 2 * k + 1 else 2 * k)) 0
    [4 * ((y * m : Nat) : Int), 4 * (((c 0 * m : Nat) : Int) - 2048), 4 * (((c 1 * m : Nat) : Int) - 2048)]
  else [0, 1, 2].map (fun k => ((svbComponent r q rows sx sy k : Nat) : Int))

/-- An output pixel, as R, G, B in one number of 24 bits (R504). -/
def svbPixel (r : List Byte) (q : Nat) (rows : List (List Nat)) (sx sy : Nat) : Nat :=
  let inp := svbInput r q rows sx sy
  let out := fun (i : Nat) =>
    let sum := (List.range 3).foldl (fun a j => a + toSigned 16 (quadField r q (16 + 2 * (3 * i + j)) 2) * inp.getD j 0) (0 : Int)
    let o := clampI 0 4095 ((2 * sum + 16384) / 32768)
    leAt r (272 + o.toNat / 4) 1
  out 0 * 65536 + out 1 * 256 + out 2

/-- Output row `y` of quadrant `q` is written; `rows` are the source row before, its own and the one after, reflected at the edges
of the frame, and `first` says that they begin a source frame (R506). -/
def svbSourceRow (q y : Nat) (rows : List (List Nat)) (first : Bool) (s : State) : State :=
  let r := s.sup.record
  if !s.sup.engaged ∨ !quadOn r q ∨ 540 ≤ y then s
  else
    let line := (List.range 960).map (fun x => svbPixel r q rows (svbCol r q x) (svbRow r q y))
    let s := if first then s.inc 0 (Reg.svb_QUAD_AGE_FRAMES.at (4 * q)) else s
    let s := { s with sup := { s.sup with svbLines := Tbl.put [] (540 * q + y) line s.sup.svbLines,
                                          quadTimes := Tbl.put 0 q (s.now + 1) s.sup.quadTimes } }
    if getBit (svbStale s) q then raise .svb 0 3 (s.set 0 Reg.svb_STATUS_QUAD_STALE (setBit (svbStale s) q false)) else s

/-- Time since the last source row of a quadrant. -/
def quadAge (s : State) (q : Nat) (t : Time) : Time :=
  match Tbl.get 0 s.sup.quadTimes q with
  | 0 => 0
  | k + 1 => t - k

/-- MAX_AGE_MS has passed without a source row (R506). -/
def quadStale (q : Nat) (t : Time) (s : State) : State :=
  if !s.sup.engaged ∨ !quadOn s.sup.record q ∨ getBit (svbStale s) q ∨ quadAge s q t ≤ msT (leAt s.sup.record 4 2) then s
  else
    let s := s.set 0 Reg.svb_STATUS_QUAD_STALE (setBit (svbStale s) q true)
    raise .svb 0 2 (s.inc 0 Reg.svb_COUNTS_STALE_ENTRIES)

/-- AGE_MS of every quadrant and STATUS.MISSES as they read at `t` (R509, R511). -/
def showAges (t : Time) (s : State) : State :=
  forEach (List.range 4) (fun q s => s.set 0 (Reg.svb_QUAD_AGE_AGE_MS.at (4 * q)) (min 0xFFFF (quadAge s q t / msT 1))) (refreshMisses s)

/-- What the raster of the Selvedge path shows at a position: R, G, B in one number (R504, R506). A line memory that was never
written holds open codes. -/
def svbScan (s : State) (x y : Nat) : Nat :=
  let r := s.sup.record
  let q := x / 960 + 2 * (y / 540)
  let (px, py) := (x % 960, y % 540)
  if !quadOn r q then 0
  else if getBit (svbStale s) q then
    if px < 4 ∨ py < 4 ∨ 956 ≤ px ∨ 536 ≤ py ∨ (px + py) / 16 % 4 = 0 then leAt r 8 1 * 65536 + leAt r 9 1 * 256 + leAt r 10 1 else 0
  else
    match Tbl.get [] s.sup.svbLines (540 * q + py) with
    | [] => Config.openCode (540 * q + py) px % 16777216
    | l => l.getD px 0

/-! ### Commands -/

/-- POWER_ON_RESET (R492). -/
def execPowerOnReset (t : Nat) (s : State) : Host.Outcome State Fault Refusal :=
  .next (powerOn (s.at t))

/-- RESET_N_ASSERT (R492). -/
def execResetNAssert (t : Nat) (s : State) : Host.Outcome State Fault Refusal :=
  .next (resetAssert (s.at t))

/-- RESET_N_RELEASE (R497). -/
def execResetNRelease (t : Nat) (s : State) : Host.Outcome State Fault Refusal :=
  .next (resetRelease t (s.at t))

/-- MGMT_RESET_END (R495). -/
def execMgmtResetEnd (t : Nat) (s : State) : Host.Outcome State Fault Refusal :=
  .next (mgmtResetEnd t (s.at t))

/-- HB_MISS (R498). -/
def execHbMiss (t : Nat) (s : State) : Host.Outcome State Fault Refusal :=
  .next (intervalMiss t (s.at t))

/-- FIRST_HEARTBEAT_TIMEOUT (R497). -/
def execFirstHeartbeatTimeout (t : Nat) (s : State) : Host.Outcome State Fault Refusal :=
  .next (windowMiss t (s.at t))

/-- SAFEVIEW_REQUEST (R498). -/
def execSafeviewRequest (t : Nat) (s : State) : Host.Outcome State Fault Refusal :=
  .next (safeviewPin true (s.at t))

/-- SAFEVIEW_REQ_RELEASE (R500). -/
def execSafeviewReqRelease (t : Nat) (s : State) : Host.Outcome State Fault Refusal :=
  .next (safeviewPin false (s.at t))

/-- THERMAL_SAMPLE (R508). -/
def execThermalSample (temps : List Int) (t : Nat) (s : State) : Host.Outcome State Fault Refusal :=
  .next (thermalSample temps (s.at t))

/-- SVB_IDLE_END (R505). -/
def execSvbIdleEnd (rate : Fin 11) (lanes : Fin 5) (t : Nat) (s : State) : Host.Outcome State Fault Refusal :=
  .next (svbIdleEnd rate.val lanes.val (s.at t))

/-- SVB_TRAIN_ATTEMPT_END (R505). -/
def execSvbTrainAttemptEnd (ok : Bool) (t : Nat) (s : State) : Host.Outcome State Fault Refusal :=
  .next (svbAttempt ok (s.at t))

/-- SVB_RETRY (R505). -/
def execSvbRetry (rate : Fin 11) (lanes : Fin 5) (t : Nat) (s : State) : Host.Outcome State Fault Refusal :=
  .next (svbRetry rate.val lanes.val (s.at t))

/-- SVB_SOURCE_ROW (R506). -/
def execSvbSourceRow (q : Fin 4) (y : Nat) (rows : List (List Nat)) (first : Bool)
    (t : Nat) (s : State) : Host.Outcome State Fault Refusal :=
  .next (svbSourceRow q.val y rows first (s.at t))

/-- QUAD_STALE (R506). -/
def execQuadStale (q : Fin 4) (t : Nat) (s : State) : Host.Outcome State Fault Refusal :=
  .next (quadStale q.val t (s.at t))

/-- RECOVERY_IMAGE (R481). -/
def execRecoveryImage (image : List Byte) (t : Nat) (s : State) : Host.Outcome State Fault Refusal :=
  .next (recoveryImage image t (s.at t))

/-- HPD_UNPLUG (R333). -/
def execHpdUnplug (p : Fin 8) (t : Nat) (s : State) : Host.Outcome State Fault Refusal :=
  .next (svbUnplug p.val (hpdUnplug p.val (s.at t)))

/-- TRACK_TICK (R441): whether a count moved beyond LIMIT_PCT, and the demand a change would be judged by. -/
def execTrackTick (sub : Fin 8) (beyond : Bool) (demand : Nat) (t : Nat) (s : State) : Host.Outcome State Fault Refusal :=
  .next (memFollow s (trackTick sub.val beyond demand (s.at t)))

/-- MR4_POLL (R434). -/
def execMr4Poll (sub : Fin 8) (hot : Bool) (t : Nat) (s : State) : Host.Outcome State Fault Refusal :=
  .next (memFollow s (mr4 sub.val hot (s.at t)))

/-- REFRESH (R434: a refresh keeps the rows of a rank and changes nothing else). -/
def execRefresh (_sub : Fin 8) (t : Nat) (s : State) : Host.Outcome State Fault Refusal :=
  .next (s.at t)

/-- SCRUB_LINE (R435): a line of the map, or of a spare rank; `flips` are the stored symbols that read wrong. -/
def execScrubLine (spare : Option (Fin 16)) (line : Nat) (flips : List (Nat × Nat))
    (t : Nat) (s : State) : Host.Outcome State Fault Refusal :=
  .next (memFollow s (scrubRead (spare.map (·.val)) line flips (s.at t)))

/-- DRAM_READ_DONE (R437): requester, line asked for, line that answered, and the symbols that read wrong. -/
def execDramReadDone (who : Fin 5) (line src : Nat) (flips : List (Nat × Nat))
    (t : Nat) (s : State) : Host.Outcome State Fault Refusal :=
  .next (memFollow s (lineRead who.val line src flips (s.at t)))

/-- DIAGNOSIS_DONE (R438). -/
def execDiagnosisDone (sub : Fin 8) (wrong : List (Fin 5)) (t : Nat) (s : State) : Host.Outcome State Fault Refusal :=
  .next (memFollow s (diagnosisDone sub.val (wrong.map (·.val)) (s.at t)))

/-- DDRC_TRAINING_DONE (R440). -/
def execDdrcTrainingDone (sub : Fin 8) (ok : Bool) (t : Nat) (s : State) : Host.Outcome State Fault Refusal :=
  .next (memFollow s (trainingDone sub.val ok (s.at t)))

/-- FREQ_MARGIN_MET (R444). -/
def execFreqMarginMet (t : Nat) (s : State) : Host.Outcome State Fault Refusal :=
  .next (memFollow s (freqMargin (s.at t)))

/-- FREQ_TIMEOUT (R443). -/
def execFreqTimeout (t : Nat) (s : State) : Host.Outcome State Fault Refusal :=
  .next (memFollow s (freqTimeout (s.at t)))

/-- FREQ_ABORT (R444). -/
def execFreqAbort (t : Nat) (s : State) : Host.Outcome State Fault Refusal :=
  .next (memFollow s (freqAbort (s.at t)))

/-- FREQ_CHANGE_DONE (R445): `failed`: the subchannels that did not train again. -/
def execFreqChangeDone (ok : Bool) (failed : List (Fin 8)) (demand : Nat)
    (t : Nat) (s : State) : Host.Outcome State Fault Refusal :=
  .next (memFollow s (freqDone ok (failed.map (·.val)) demand (s.at t)))

/-- RELINE_SEGMENT_DONE (R448): lines of the segment that could not be read. -/
def execRelineSegmentDone (bad : List Nat) (t : Nat) (s : State) : Host.Outcome State Fault Refusal :=
  .next (memFollow s (segmentDone bad (s.at t)))

end Sys2Proof.Machine
end

