-- ==== Sys2Proof/Machine/SoftReset.lean ====
section
/-! DEFINITION. SOFT_RESET of an instance (R494, R537): what each block's entry of the table does, and the cases it refuses. -/

namespace Sys2Proof.Machine

/-- The header effects of a SOFT_RESET (R494): EVENT_RAW, ERROR_CODE and OUTCOME clear, a pending commit ends unapplied. -/
def resetHeader (b : Block) (n : Nat) (s : State) : State :=
  let h := s.hdr b n
  s.setHdr b n { h with raw := 0, errCode := 0, errLost := false, errPage := 0, outcome := 0, reason := 0, pendingCommit := false,
                        checked := false, deferredOnce := false, busy := false }

/-- Out of service in both copies, and STATE 0. -/
def outOfService (b : Block) (n : Nat) (s : State) : State :=
  s.setHdr b n { s.hdr b n with enable := false, enableStaged := false, state := 0 }

/-- Do something to a window but keep some of its registers. -/
def keepingWords (b : Block) (n : Nat) (offs : List Nat) (f : State → State) (s : State) : State :=
  forEach offs (fun off r => r.setWord b n off (s.word b n off)) (f s)

/-- A block that the table does not name: its registers return to reset and it goes out of service. -/
def resetPlain (b : Block) (n : Nat) (s : State) : State := outOfService b n (s.clearWindow b n)

/-- CAMP and CAMS (R88). FRAME_NO is unchanged. -/
def softCam (p : Nat) (s : State) : State :=
  let b := portBlk p
  let keep := (portEntries p).map (fun e => 0x114 + 0x40 * e)
  let s := resetPort p s.now s
  kick s.now (outOfService b (portInst p) (keepingWords b (portInst p) keep (fun s => s.clearWindow b (portInst p)) s))

/-- CCTL (R97). -/
def softCctl (n : Nat) (s : State) : State := resetPlain .cctl n (resetCctl n s)

/-- ENC (R251): every context is OFF, so EN reads 0 in both copies. -/
def softEnc (e : Nat) (s : State) : State :=
  let s := forEach (windowCtxs e) (fun c s =>
    let f := Reg.enc_CTX_CFG_EN.at (ctxOff (c % 32))
    showCtx c 0 ((s.set e f 0).setS e f 0)) (resetEnc e s)
  refreshPace s

/-- DEC (R276): every context goes OFF as by a write of EN. -/
def softDec (d : Nat) (s : State) : State :=
  forEach (decCtxs d) (fun c s => dset c Reg.dec_CTX_CFG_EN 0 s) (resetDec d s)

/-- TIME: the clock keeps its time and the rate in force; the domain goes OFF. -/
def softTime (d : Nat) (s : State) : State :=
  resetPlain .time d ((dropSlew d s.now s).setDom d TimeDom.reset)

/-- DPO (R334): the link and PHY power down. The level of HPD stays as the pin has it. -/
def softDpo (p : Nat) (s : State) : State :=
  let hpd := s.get p Reg.dpo_LINK_STATUS_HPD
  let st := s.stateOf .dpo p
  let s := portDisable p s
  let s := s.setDpo p { s.dpo p with aux := none }
  let s := (resetPlain .dpo p s).set p Reg.dpo_LINK_STATUS_HPD hpd
  if (s.dpo p).sv then s.setState .dpo p st else s

/-- A bench drops what it runs, has chosen or queues of a stream. -/
def benchForgets (n b : Nat) (pinned : Bool) (s : State) : State :=
  let x := s.bench b
  let x := if x.run = some n then { x with run := none, left := 0 } else x
  let x := if (x.next.map (·.1)) = some n then { x with next := none } else x
  s.setBench b (if pinned then { x with fifo := [], row0 := none } else x)

/-- STRM: stopped as by a commit that disables it, with the frame in progress dropped whole; FRAME_NO is kept. -/
def softStrm (n : Nat) (s0 : State) : State :=
  let pins := (List.range 6).map (fun b => pinnedStream s0 b == some n)
  let s := forEach (List.range 6) (fun b s => benchForgets n b (pins.getD b false) s) s0
  let s := strmSettled n s0 (place (outOfService .strm n s))
  let s := keepingWords .strm n [0x64] (fun s => s.clearWindow .strm n) s
  let s := s.setStrm n { Strm.reset with frames := (s.strm n).frames }
  kick s.now (refreshStage (strmShown n s.now s))

/-- HEAD: it stops at once; its layers keep their active registers and lose their staged ones. -/
def softHead (h : Nat) (s : State) : State :=
  let s := (stopHead h s).setHead h Head.reset
  let s := resetPlain .head h s
  let s := forEach (headLayers h) (fun n s => s.discardStaged .layer n) s
  let s := forEach (headLayers h) (settleLay · false) s
  let s := refreshPace (dropUnfed s)
  refreshFrayPin (forEach (headLayers h) (fun n s => if monitored s n then s else setStale n false 0 s) s)

/-- LAYER: disabled from that instant; a feed buffer that it shows loses its owner. -/
def softLayer (n : Nat) (s : State) : State :=
  let s := resetPlain .layer n (resetLayPre n s)
  refreshPace (refreshFrayPin (dropUnfed (showLay n s)))

/-- BENCH: RAW_COUNTS, TRANSIT and STRIPES return to 0. -/
def softBench (b : Nat) (s : State) : State := ((s.setWord .bench b 0x40 0).setWord .bench b 0x44 0).setWord .bench b 0x48 0

/-- HOST: CFG and the aperture return to reset; the function's BAR2 size does not change. -/
def softHost (p : Nat) (s : State) : State :=
  ((s.setWord .host p 0x40 (resetWord .host p 0x40)).set p Reg.host_APERTURE_LO_ADDR 0).set p Reg.host_APERTURE_HI_ADDR 0

/-- AUD (R414): OFF; rings and counts are kept. -/
def softAud (n : Nat) (s : State) : State := outOfService .aud n (audDisable n s)

/-- NET. -/
def softNet (n : Nat) (s : State) : State := (resetPlain .net n (netDisable n s)).setNet n NetPort.reset

/-- A session page: its packets go, as when EN is written 0 (R370). -/
def softSession (i : Nat) (s : State) : State :=
  let s := if s.get i Reg.session_S_CFG_EN = 1 then unsubscribe i s else s
  pickAll s.now ((resetPlain .session i s).setSess i Sess.reset)

/-- AMCLK: a pending trigger ends with the registers. -/
def softAmclk (s : State) : State := resetPlain .amclk 0 { s with trigger := none }

/-- The block's own part of a SOFT_RESET (R537). -/
def resetBlock (b : Block) (n : Nat) (s : State) : State :=
  match b with
  | .camp => softCam n s
  | .cams => softCam (40 + n) s
  | .cctl => softCctl n s
  | .enc => softEnc n s
  | .dec => softDec n s
  | .aud => softAud n s
  | .dma => resetDma n s
  | .memx => s
  | .time => softTime n s
  | .timel => refreshPps (resetPlain .timel n s)
  | .dpo => softDpo n s
  | .strm => softStrm n s
  | .head => softHead n s
  | .layer => softLayer n s
  | .bench => softBench n s
  | .host => softHost n s
  | .ddrc => showMem (resetPlain .ddrc n s)
  | .amclk => softAmclk s
  | .zraw => (resetPlain .zraw n s).setZraw n Zraw.reset
  | .net => softNet n s
  | .session => softSession n s
  | .svc => resetPlain .svc n s
  | .pace | .shut | .bpool | .lutm | .pkt | .chk | .evt | .thm | .sec | .glb | .sup | .svb => s

/-- Whether a SOFT_RESET is refused with error 0x10 (R449, R537). -/
def resetRefused (s : State) (b : Block) (n : Nat) : Bool :=
  match b with
  | .memx => s.mem.reline.isSome
  | .ddrc => s.enabled .ddrc n
  | .amclk => (List.range 4).any (mclkNamed s)
  | _ => false

/-- A SOFT_RESET that is not refused. -/
def softReset (b : Block) (n : Nat) (s : State) : State := resetBlock b n (resetHeader b n s)

end Sys2Proof.Machine
end

