-- ==== Sys2Proof/Machine/Writes.lean ====
section
/-! DEFINITION. What a write does to a block register once the checks of R28 for rights, lease and LAPSED have passed: the
states that refuse it (error 0x10), the ranges that depend on other registers (error 0x01), and the effect. -/

namespace Sys2Proof.Machine

/-- The context and the offset from its first register of an offset in an ENC or DEC window. -/
def ctxAt (off : Nat) : Nat × Nat := ((off - 0x1100) / 0x1000 * 8 + (off - 0x1100) % 0x1000 / 0x100, (off - 0x1100) % 0x100)

/-- The flow and the offset from its first register of an offset on a flow page of PKT (R385). -/
def flowAt (off : Nat) : Nat × Nat := ((off - 0x1040) / 0x1000 * 32 + (off - 0x1040) % 0x1000 / 0x40, (off - 0x1040) % 0x40)

/-- Whether a write changes any bit of `keep`. -/
def changes (s : State) (b : Block) (n off keep : Nat) (v : Word) : Bool :=
  ((s.word b n off).toNat &&& keep) != (v.toNat &&& keep)

/-- The state check of a camera control port (R97, R111, R507). -/
def cctlBlocked (s : State) (n off : Nat) (v : Word) : Bool :=
  let st := s.stateOf .cctl n
  match off with
  | 0x40 | 0x44 | 0x7C => st != 0
  | 0x64 => st != 2 || svBlocks s n
  | 0x90 => getBit v.toNat 31 && (s.get n Reg.cctl_XFER_STATUS_BUSY == 1 || st == 1 || st == 3 || st == 4 || svBlocks s n)
  | _ => false

/-- The state check of a DMA ring (R467, R471). -/
def ringBlocked (s : State) (p off : Nat) (v : Word) : Bool :=
  if off < 0x100 then false
  else
    let r := (off - 0x100) / 0x20
    let st := ringState s p r
    match (off - 0x100) % 0x20 with
    | 0x00 => st != 0 && (getBit v.toNat 31 || changes s .dma p off 0x00FF010F v)
    | 0x04 | 0x08 => st != 0
    | 0x1C => (getBit v.toNat 0 != getBit v.toNat 1) && st != 2
    | _ => false

/-- The state check of MEMX (R429, R443, R446). -/
def memxBlocked (s : State) (off : Nat) (v : Word) : Bool :=
  match off with
  | 0x40 | 0x44 => !ddrcsOff s
  | 0x48 => getBit v.toNat 31 && s.get 0 Reg.memx_FREQ_STATUS_BUSY == 1
  | 0x58 => getBit v.toNat 31 && rankRole s (bitsOf v 8 4) != 1
  | _ => false

/-- Whether the state of a block refuses a write of a register with error 0x10. -/
def stateBlocks (s : State) (o : Origin) (b : Block) (n off : Nat) (v : Word) : Bool :=
  match b with
  | .pace => off == 0x40 && s.stateOf .pace 0 == 1
  | .cctl => cctlBlocked s n off v
  | .dpo => (off == 0x40 && s.enabled .dpo n) || (off == 0x4C && s.get n Reg.dpo_AUX_STATUS_BUSY == 1)
  | .net => decide (off ≤ 0x5C) && s.enabled .net n
  | .time => (off == 0x40 || off == 0x44) && s.enabled .time n
  | .aud => (decide (off ≤ 0x54) || off == 0x5C || off == 0x60) && decide (1 < s.stateOf .aud n)
  | .ddrc => (off == 0x40 || off == 0x48) && s.enabled .ddrc n
  | .zraw => ([0x40, 0x44, 0x48, 0x4C, 0x58, 0x5C, 0x60].contains off && s.enabled .zraw n) || (off == 0x54 && pktOwns s 2 n)
  | .shut => decide (off ≤ 0x48) && s.get 0 Reg.shut_STORE_SPILLED != 0
  | .lutm => (off == 0x40 && partitionRefused s (v.toNat % 256)) || (off == 0x4C && getBit v.toNat 31 && lutRefused s (bitsOf v 0 6))
  | .enc =>
    (off == 0x40 && (windowCtxs n ++ windowCtxs (if n % 2 = 0 then n + 1 else n - 1)).any (contextOn s))
      || (decide (0x1100 ≤ off) && (ctxAt off).2 == 0x34 && pktOwns s 0 (32 * n + (ctxAt off).1))
  | .dec =>
    if off < 0x1100 then false
    else
      let c := 32 * n + (ctxAt off).1
      let on := dget s c Reg.dec_CTX_CFG_EN == 1
      match (ctxAt off).2 with
      | 0x00 => on && changes s .dec n off 0x3F1F00FA v
      | 0x04 | 0x08 | 0x0C | 0x10 => on
      | 0x14 => dget s c Reg.dec_CTX_CFG_SRC == 1
      | _ => false
  | .chk => decide (0x1040 ≤ off) && getBit (s.word .chk 0 off).toNat 31 && changes s .chk 0 off 0x330F007F v
  | .pkt =>
    decide (0x1040 ≤ off) && fget s (flowAt off).1 Reg.pkt_F_CFG_EN == 1
      && ((flowAt off).2 != 0 || changes s .pkt 0 off 0x7F00077F v)
  | .amclk =>
    (decide (off < 0x60) && mclkNamed s ((off - 0x40) / 8)) || (off == 0x8C && getBit v.toNat 0 && s.trigger.isSome)
  | .sec => off == 0x50 && secBusy s o.code
  | .dma => ringBlocked s n off v
  | .memx => memxBlocked s off v
  | .session => off == 0x74 && s.get n Reg.session_S_CFG_EN == 1
  | .strm | .camp | .cams | .head | .layer | .glb | .sup | .thm | .evt | .svc | .host | .bench | .svb | .bpool | .timel => false

/-- The range of TAP_CTRL.TARGET by DEST (R219). -/
def tapTargetBad (v : Word) : Bool := decide ([64, 64, 128, 4].getD (bitsOf v 4 2) 0 ≤ bitsOf v 24 7)

/-- The PROFILE values of a codec: three for HEVC, two for H.264 (R269, R289). -/
def profileBad (avc : Bool) (p : Nat) : Bool := decide ((if avc then 2 else 3) ≤ p)

/-- Bits per component 6 without eDP, and rates of the other kind of port (R342). -/
def portCfgBad (v : Word) : Bool :=
  let edp := getBit v.toNat 19
  let rate := bitsOf v 8 4
  (bitsOf v 12 2 == 0 && !edp) || (if edp then decide (4 ≤ rate) && decide (rate ≤ 6) else decide (7 ≤ rate))

/-- Whether a picture size exceeds the limits of a decode context's codec (R272). -/
def decGeomBad (s : State) (c : Nat) (v : Word) : Bool :=
  let w := bitsOf v 0 16
  let h := bitsOf v 16 16
  if dget s c Reg.dec_CTX_CFG_CODEC = 1 then decide (4096 < w) || decide (36864 < ceilDiv w 16 * ceilDiv h 16)
  else decide (8192 < w) || decide (8192 < h) || decide (35651584 < w * h)

/-- Whether a written value lies outside a range that other registers or fields set (error 0x01). -/
def crossRange (s : State) (b : Block) (n off : Nat) (v : Word) : Bool :=
  match b with
  | .glb =>
    if off < 0x100 then false
    else
      let k := (off - 0x100) / 0x10
      match (off - 0x100) % 0x10 with
      | 0x4 => decide (v.toNat ≤ s.get 0 (Reg.glb_FSYNC_PHASE_NS.at (0x10 * k)))
      | 0x8 => decide (s.get 0 (Reg.glb_FSYNC_PERIOD_NS.at (0x10 * k)) ≤ v.toNat)
      | _ => false
  | .cctl =>
    match off with
    | 0x40 => bitsOf v 0 2 == 0 && decide (1000 < s.get n Reg.cctl_BUS_CFG_KHZ)
    | 0x44 =>
      let k := bitsOf v 0 14
      decide (k < 100) || decide ((if s.get n Reg.cctl_CFG_BUS = 0 then 1000 else 12500) < k)
    | _ => false
  | .strm =>
    (decide (0x3040 ≤ off) && decide (off < 0x30C0) && (off - 0x3040) % 0x20 == 0 && tapTargetBad v)
      || (off == 0x405C && decide (s.get n Reg.strm_STAT_RING_SLOTS_SLOTS ≤ bitsOf v 0 10))
  | .zraw =>
    (off == 0x54 && decide (16 * s.get n Reg.zraw_SEG_SIZE_KIB ≤ bitsOf v 0 26))
      || (off == 0x64 && decide (s.get n Reg.zraw_JOB_RING_SLOTS ≤ bitsOf v 0 12))
  | .enc =>
    if off = 0x40 then n % 2 == 1 && getBit v.toNat 0
    else if off < 0x1100 then false
    else
      let c := 32 * n + (ctxAt off).1
      match (ctxAt off).2 with
      | 0x00 => profileBad (getBit v.toNat 9) (bitsOf v 10 2)
      | 0x34 => decide (16 * cget s c Reg.enc_CTX_OUT_SIZE_KIB ≤ bitsOf v 0 24)
      | _ => false
  | .dec =>
    if off < 0x1100 then false
    else
      let c := 32 * n + (ctxAt off).1
      match (ctxAt off).2 with
      | 0x00 => profileBad (getBit v.toNat 1) (bitsOf v 3 2)
      | 0x04 => decGeomBad s c v
      | 0x14 => decide (inUnits s c ≤ bitsOf v 0 24)
      | _ => false
  | .bpool => off == 0x74 && decide (2 ^ bitsOf v 0 8 ≤ bitsOf v 20 12)
  | .dpo => off == 0x40 && portCfgBad v
  | .pkt =>
    (off == 0x94 && decide (s.get 0 Reg.pkt_EXC_SLOTS_RX ≤ bitsOf v 0 12))
      || (off == 0x98 && decide (s.get 0 Reg.pkt_EXC_SLOTS_TX ≤ bitsOf v 0 12))
  | .time =>
    (off == 0x40 && badXcheck n v.toNat) || (off == 0xA0 && decide (s.get n Reg.time_RING_SLOTS_RX ≤ bitsOf v 0 12))
      || (off == 0xA4 && decide (s.get n Reg.time_RING_SLOTS_TX ≤ bitsOf v 0 12))
  | .aud => off == 0x58 && decide (s.get n Reg.aud_BLOCK_SLOTS ≤ bitsOf v 0 12)
  | .pace | .sup | .thm | .evt | .svc | .sec | .host | .dma | .camp | .cams | .shut | .bench | .svb | .lutm | .head | .layer
  | .chk | .net | .timel | .amclk | .ddrc | .memx | .session => false

/-- A write of an ENC register that is not staged. -/
def writeEnc (o : Nat) (n off : Nat) (row : RegRow) (v : Word) (s : State) : State :=
  if off = 0x40 then writeGang o n v s
  else
    let s := storeFields .enc n off row v s
    if 0x1100 ≤ off ∧ (ctxAt off).2 = 0x34 then outFreed (32 * n + (ctxAt off).1) s else s

/-- A write of a decode context's register. -/
def writeDec (o : Nat) (n off : Nat) (row : RegRow) (v : Word) (s : State) : State :=
  if off < 0x1100 then storeFields .dec n off row v s
  else
    let c := 32 * n + (ctxAt off).1
    match (ctxAt off).2 with
    | 0x00 => writeDecCfg o c v s
    | 0x14 => writeDecIn o c v s
    | _ => storeFields .dec n off row v s

/-- A write of a BPOOL register (R314, R319). -/
def writePool (o : Nat) (off : Nat) (row : RegRow) (v : Word) (s : State) : State :=
  if off = 0x40 then poolCommand o v s
  else if off < 0x60 then setPoolCopy o off (v.toNat &&& rowMask row (fun x => x == .rw)) s
  else if 0x100 ≤ off ∧ changes s .bpool 0 off 1 v ∧ !listIdle s ((off - 0x100) / 4) then logAccess .bpool 0 0x09 o off 0 s
  else storeFields .bpool 0 off row v s

/-- A write of a SEC register (R486, R490). -/
def writeSec (o : Origin) (off : Nat) (row : RegRow) (v : Word) (s : State) : State :=
  match off with
  | 0x50 => writeSecCmd o.code v s
  | 0x64 => writeHandover o.code (o == .ap) v s
  | _ => setSecCopy o.code off (v.toNat &&& rowMask row (fun x => x == .rw)) s

/-- A write of a PKT register (R384, R385). -/
def writePkt (o : Nat) (off : Nat) (row : RegRow) (v : Word) (s : State) : State :=
  if 0x1040 ≤ off then
    if (flowAt off).2 = 0 then writeFlowCfg o (flowAt off).1 v s else storeFields .pkt 0 off row v s
  else pickAll s.now (showBuf (storeFields .pkt 0 off row v s))

/-- A write of a MEMX register (R452); `demand` is what FREQ_CTRL.GO weighs. -/
def writeMemx (o : Nat) (demand off : Nat) (row : RegRow) (v : Word) (s : State) : State :=
  match off with
  | 0x40 => writeMap o v s
  | 0x44 => writeRoles o v s
  | 0x48 => writeFreq o v demand s
  | 0x58 => writeReline o v s
  | _ => storeFields .memx 0 off row v s

/-- The effect of a write of a block register that has passed every check that does not depend on what it starts. -/
def writeEffect (o : Origin) (demand : Nat) (b : Block) (n off : Nat) (row : RegRow) (v : Word) (s : State) : State :=
  let k := o.code
  let put := storeFields b n off row v
  match b with
  | .pace => if off = 0x40 then writeMode k v s else refreshPace (put s)
  | .sup => if off = 0x44 then heartbeat (v.toNat % 256) s else if off = 0x48 then writeSupCtrl v s else put s
  | .thm => if 0x100 ≤ off then writeThm k ((off - 0x100) / 4) v s else s
  | .evt => refreshPins (put s)
  | .sec => writeSec o off row v s
  | .dma => writeRing k n off v s
  | .cctl =>
    match off with
    | 0x64 => pushCmd k n v s
    | 0x78 => popResult n v s
    | 0x80 => trigFire n v s
    | 0x90 => xferStart k n false v s
    | _ => put s
  | .lutm => if off = 0x4C then (if getBit v.toNat 31 then lutLoad (bitsOf v 0 6) s else s) else put s
  | .zraw => refreshZraw n (put s)
  | .enc => writeEnc k n off row v s
  | .dec => writeDec k n off row v s
  | .bpool => writePool k off row v s
  | .dpo => if off = 0x4C then writeAux k n v s else put s
  | .chk => if 0x1040 ≤ off then writeChk k ((off - 0x1040) / 0x10) v s else put s
  | .pkt => writePkt k off row v s
  | .time =>
    if off = 0x64 then writeTimeCmd k n v s
    else if off = 0xA4 then pickAll s.now (put s)
    else put s
  | .timel => if off = 0x64 then writeTimelCmd k v s else refreshPps (put s)
  | .aud => if off = 0x64 then writeAudCtrl k n v s else put s
  | .amclk => if off = 0x8C then writeStart k v s else put s
  | .ddrc => showMem (put s)
  | .memx => writeMemx k demand off row v s
  | .session =>
    match off with
    | 0x40 => writeSessCfg k n v s
    | 0x6C | 0x70 | 0x74 => writeSess k n off v s
    | _ => put s
  | .glb | .svc | .host | .camp | .cams | .shut | .bench | .svb | .strm | .head | .layer | .net => put s

/-- A write of a block register past rights, lease and LAPSED: state (R28, check 4), range (check 5), effect. -/
def writeBlock (o : Origin) (demand : Nat) (b : Block) (n off : Nat) (row : RegRow) (v : Word) (s : State) : State :=
  let c := commitOwner b n
  let staged := rowMask row (fun x => x == .rws) != 0
  if b = .sec ∧ off = 0x64 ∧ (getBit v.toNat 2 ∨ getBit v.toNat 3) ∧ o ≠ .ap then logAccess b n 0x03 o.code off 0 s
  else if (staged && (s.hdr c.1 c.2).pendingCommit) || stateBlocks s o b n off v then logAccess b n 0x10 o.code off 0 s
  else if !rowInRange row v || crossRange s b n off v then logAccess b n 0x01 o.code off 0 s
  else writeEffect o demand b n off row v s

end Sys2Proof.Machine
end

