-- ==== Sys2Proof/Machine/Bus.lean ====
section
/-! DEFINITION. Accesses to the register pages (chapter 2): the AP gate and the checks of R28, the writes of the page header, the
writes of block registers, and what a read returns (R23, R29). -/

namespace Sys2Proof.Machine

/-- What every access is followed by: heads take what has changed (R305, R327), and the monitor and the supervisor what has
changed in the memory system (R484, R498). -/
def busStep (t : Time) (f : State → State) (s : State) : State := headsFollow s (memFollow s (f (s.at t)))

/-! ### Checks -/

/-- Whether the AP gate refuses a write (R473). -/
def gateRefuses (o : Origin) (b : Block) (off : Nat) : Bool :=
  o == .ap && (((b == .sec || b == .sup || b == .svc) && !(b == .sec && off == 0x64)) || off % 0x1000 == 0x30)

/-- The checks that come before state and range: the gate, the right (1 = write, 2 = commit), the lease and LAPSED (R28, R473). -/
def accessCode (s : State) (o : Origin) (b : Block) (n off right : Nat) : Nat :=
  let h := s.hdr b n
  let exempt := o.code == 5 && !(o == .ap && (h.owner == 1 || h.owner == 2))
  if gateRefuses o b off then 0x03
  else if !mayDo h o.code right then 0x03
  else if h.owner ≠ 0 ∧ h.owner ≠ o.code ∧ !exempt then 0x02
  else if h.lapsed = o.code then 0x15
  else 0

/-- A write that failed one of these checks: the error, and LAPSED returns to 0 when it was that check. -/
def refuseAccess (o : Origin) (b : Block) (n off code : Nat) (s : State) : State :=
  let s := if code = 0x15 then s.setHdr b n { s.hdr b n with lapsed := 0 } else s
  logAccess b n code o.code off 0 s

/-! ### The page header -/

/-- The enable hook of a block without RWS fields: what a change of ENABLE does at once (R97, R330, R334, R363, R414, R536). -/
def enableNow (o : Nat) (b : Block) (n : Nat) (e : Bool) (s : State) : State :=
  let put := fun (s : State) => s.setHdr b n { s.hdr b n with enable := e, enableStaged := e }
  match b with
  | .cctl => if e then ctlEnable o n s else ctlDisable n s
  | .dpo =>
    if e then
      let hd := portHead s n
      if headRuns s hd ∧ !s.enabled .dpo n ∧ !portFits s n (s.head hd).clk then logAccess .dpo n 0x06 o 0x04 (0x100 + n) s
      else portEnable n (put s)
    else portDisable n (put s)
  | .net => pickAll s.now (if e then netEnable n (put s) else netDisable n (put s))
  | .aud => if e then audEnable n (put s) else audDisable n (put s)
  | .zraw => refreshZraw n (put s)
  | _ => put s

/-- The status fields that depend on the instant of the read are brought up to it. -/
def freshStatus (b : Block) (n : Nat) (s : State) : State :=
  match b with
  | .time => showTime n s.now s
  | .sup | .svb => showAges s.now s
  | .aud => audShowPos n s
  | _ => s

/-- The words of a window's registers that a freeze holds: those that have RO fields (R24). -/
def frozenWords (s : State) (b : Block) (n : Nat) : Tbl Word :=
  (s.windowKeys b n).foldl (fun t a => Tbl.put (resetAt a) a (s.word b n (a - winBase b n)) t) []

/-- FREEZE is written (R24). -/
def setFrozen (b : Block) (n : Nat) (f : Bool) (s : State) : State :=
  let h := s.hdr b n
  if f = h.frozen then s else s.setHdr b n { h with frozen := f, snapshot := if f then frozenWords (freshStatus b n s) b n else [] }

/-- A write of PAGE_CTRL (R24, R536, R537): SOFT_RESET first, then ENABLE and FREEZE. A refused SOFT_RESET or ENABLE leaves the
rest of the write without effect. -/
def writePageCtrl (o : Origin) (b : Block) (n off : Nat) (v : Word) (s : State) : State :=
  let e := getBit v.toNat 0
  let c := commitOwner b n
  let reset := getBit v.toNat 1
  let late := blkCommits b && e != (s.hdr b n).enableStaged && (s.hdr c.1 c.2).pendingCommit && !reset
  if reset ∧ resetRefused s b n then logAccess b n 0x10 o.code off 0 s
  else if late then logAccess b n 0x10 o.code off 0 s
  else
    let s := if reset then softReset b n s else s
    let f := getBit v.toNat 2
    if b = .layer then setFrozen b n f s
    else if blkCommits b then setFrozen b n f (s.setHdr b n { s.hdr b n with enableStaged := e })
    else
      let s := enableNow o.code b n e s
      if s.enabled b n = e then setFrozen b n f s else s

/-- A write of EVENT_ENABLE (R37). -/
def writeEvEnable (b : Block) (n : Nat) (v : Word) (s : State) : State :=
  let h := s.hdr b n
  let h' := { h with evEnable := v }
  let s := s.setHdr b n h'
  if h.evPending = 0 ∧ h'.evPending ≠ 0 then notify b n s else s

/-- A W1C write of EVENT_PENDING (R24, R37). -/
def clearPending (b : Block) (n : Nat) (v : Word) (s : State) : State :=
  let h := s.hdr b n
  let h' := { h with raw := h.raw &&& ~~~v }
  let s := s.setHdr b n h'
  if h'.evPending ≠ 0 then notify b n s else s

/-- A commit begins or ends: what a head and an encoder keep of its evaluation starts anew (R253, R306, R319). -/
def freshCommit (b : Block) (n : Nat) (s : State) : State :=
  match b with
  | .head =>
    ((s.setHead n { s.head n with defers := 0 }).set n Reg.head_COMMIT_WAIT_DEFERRALS 0).set n Reg.head_COMMIT_WAIT_NOT_READY 0
  | .enc => dropCommits n s
  | _ => s

/-- A write of COMMIT (R33-R35). -/
def writeCommit (o : Origin) (b : Block) (n off : Nat) (v : Word) (s : State) : State :=
  if getBit v.toNat 1 then
    if blkCommits b then freshCommit b n (commitAbort b n s) else s
  else if !getBit v.toNat 0 then s
  else if !blkCommits b ∨ (s.hdr b n).pendingCommit then logAccess b n 0x10 o.code off 0 s
  else freshCommit b n (commitRequest b n s)

/-- The pages that a lease taken on a page covers: a HEAD takes its layers with it (R31). -/
def leasePages (s : State) (b : Block) (n o : Nat) : List (Block × Nat) :=
  match b with
  | .head => (b, n) :: ((headLayers n).filter (fun l => (s.hdr .layer l).owner == 0 || (s.hdr .layer l).owner == o)).map (fun l => (Block.layer, l))
  | _ => [(b, n)]

/-- A write of LEASE (R31, R463). -/
def writeLease (o : Origin) (b : Block) (n off : Nat) (v : Word) (s : State) : State :=
  let w := bitsOf v 0 3
  let hold := bitsOf v 8 16
  let h := s.hdr b n
  if b = .thm ∧ w ≠ 0 then logAccess b n 0x10 o.code off 0 s
  else if w = 0 then
    if h.owner = 0 then s.setHdr b n { h with hold := hold }
    else
      forEach (leaseGroup s b n) (fun x s =>
        s.setHdr x.1 x.2 { s.hdr x.1 x.2 with owner := 0, leaseTimer := false }) (s.setHdr b n { h with hold := hold })
  else if w ≠ o.code then logAccess b n 0x01 o.code off 0 s
  else if h.owner = 0 then
    forEach (leasePages s b n o.code) (fun x s => s.setHdr x.1 x.2 { s.hdr x.1 x.2 with owner := w, hold := hold }) s
  else if h.owner = o.code then s
  else logAccess b n 0x02 o.code off 0 s

/-- A write of ERROR_CODE (R25): only the value that it holds clears it. -/
def clearError (b : Block) (n : Nat) (v : Word) (s : State) : State :=
  let h := s.hdr b n
  if v.toNat = h.errCode then s.setHdr b n { h with errCode := 0, errLost := false, errPage := 0 } else s

/-- A write of RIGHTS by KEEPER (R24, R456); by any other origin the register is read-only. -/
def writeRights (o : Origin) (b : Block) (n off : Nat) (v : Word) (s : State) : State :=
  if o.code ≠ 5 then s
  else if bitsOf v 4 3 ≠ bitsOf v 8 3 then logAccess b n 0x01 o.code off 0 s
  else s.setHdr b n { s.hdr b n with rights := (v &&& 0x07077770) ||| 0x00700000 }

/-- A write of a header register past rights, lease and LAPSED. -/
def writeHeader (o : Origin) (b : Block) (n off : Nat) (v : Word) (s : State) : State :=
  match off % 0x1000 with
  | 0x04 => writePageCtrl o b n off v s
  | 0x10 => writeEvEnable b n v s
  | 0x14 => clearPending b n v s
  | 0x18 => s.setHdr b n { s.hdr b n with route := v &&& 0x03FF0007 }
  | 0x1C => writeCommit o b n off v s
  | 0x24 => writeLease o b n off v s
  | 0x28 => clearError b n v s
  | 0x30 => writeRights o b n off v s
  | _ => s

/-! ### Writes -/

/-- Whether a window offset holds a register: offsets 0x034-0x03F of a header and those of no register row are reserved. -/
def isRegister (b : Block) (off : Nat) : Bool :=
  if inHeader off then off % 0x1000 < 0x34 else (findRow off (regRows b)).isSome

/-- One whole register is written (R28): `demand` is what a FREQ_CTRL.GO weighs. A reserved offset takes no notice (R9). -/
def writeAt (o : Origin) (demand : Nat) (b : Block) (n off : Nat) (v : Word) (s : State) : State :=
  if !isRegister b off then s
  else
    let s := ownerWrote o.code b n s
    let code := accessCode s o b n off (if off % 0x1000 = 0x1C then 2 else 1)
    if code ≠ 0 then refuseAccess o b n off code s
    else if inHeader off then writeHeader o b n off v s
    else
      match findRow off (regRows b) with
      | some (row, _) => writeBlock o demand b n off row v s
      | none => s

/-- One whole register at a BAR0 address is written; a reserved range takes no notice (R9, R41). -/
def writeReg (o : Origin) (demand a : Nat) (v : Word) (s : State) : State :=
  match locate a with
  | some (b, n, off) => writeAt o demand b n off v s
  | none => s

/-- The error code that a write of one register sets: what it would record on a page without an error. -/
def writeCode (o : Origin) (demand a : Nat) (v : Word) (s : State) : Nat :=
  match locate a with
  | none => 0
  | some (b, n, _) =>
    let h := s.hdr b n
    let s' := writeReg o demand a v (s.setHdr b n { h with errCode := 0, errOrigin := 0 })
    let h' := s'.hdr b n
    if h'.errCode ≠ 0 ∧ h'.errOrigin = o.code then h'.errCode else 0

/-- Registers that a write touches, with their pages: those of which a byte is enabled. -/
def touchedRegs (a : Nat) (be : List Bool) : List Nat :=
  (touched a be.length).filter (fun r => (List.range 4).any (fun i => decide (a ≤ r + i) && be.getD (r + i - a) false))

/-- A write that covers a register only in part: error 0x01 on each page on which it touches a register (R23). -/
def partialWrite (o : Origin) (regs : List Nat) (s : State) : State :=
  let hits := regs.filterMap (fun a => (locate a).bind (fun x => if isRegister x.1 x.2.2 then some x else none))
  let first := hits.foldl (fun l x => if l.any (fun y => y.1 == x.1 && y.2.1 == x.2.1) then l else l ++ [x]) []
  forEach first (fun x s => logAccess x.1 x.2.1 0x01 o.code x.2.2 0 (ownerWrote o.code x.1 x.2.1 s)) s

/-- Whether every register that a write touches is covered whole. -/
def wholeRegs (a : Nat) (be : List Bool) : Bool :=
  a % 4 == 0 && be.length % 4 == 0
    && (touched a be.length).all (fun r => (List.range 4).all (fun i => be.getD (r + i - a) false)
      || (List.range 4).all (fun i => !be.getD (r + i - a) false))

/-- A write access of any size and alignment, with byte enables (R23): `be` pairs with `data`, and a byte without one is
enabled. -/
def writeAccess (o : Origin) (demand a : Nat) (data : List Byte) (be : List Bool) (s : State) : State :=
  let be := (List.range data.length).map (fun i => be.getD i true)
  let regs := touchedRegs a be
  if wholeRegs a be then
    forEach ((wordsFrom a data).filter (fun x => regs.contains x.1)) (fun x s => writeReg o demand x.1 x.2 s) s
  else partialWrite o regs s

/-! ### Reads -/

/-- Whether an origin reads zeros from a page (R29, R473). -/
def readsZero (s : State) (o : Origin) (b : Block) (n off : Nat) : Bool :=
  !mayDo (s.hdr b n) o.code 0 || (o == .ap && (b == .sec || b == .sup || b == .svc) && !(b == .sec && off == 0x64))

/-- The word that a read of a block register returns: staged values of RWS fields, zeros of write-only ones, an origin's own
copy of the command registers, and the snapshot of a frozen page (R24, R25, R314, R486). -/
def blockWord (s : State) (o : Origin) (b : Block) (n off : Nat) (row : RegRow) : Word :=
  let own := (b = .bpool ∧ 0x44 ≤ off ∧ off ≤ 0x60) ∨ (b = .sec ∧ 0x54 ≤ off ∧ off ≤ 0x60)
  if own then BitVec.ofNat 32 (if b = .bpool then poolCopy s o.code off else secCopy s o.code off)
  else
    let h := s.hdr b n
    let act := (freshStatus b n s).word b n off
    let seen := if h.frozen then Tbl.get (resetWord b n off) h.snapshot (addrOf b n off) else act
    let m := fun p => rowMask row p
    BitVec.ofNat 32 ((seen.toNat &&& m (fun x => x == .ro)) ||| (act.toNat &&& m (fun x => x == .rw))
      ||| ((s.wordS b n off).toNat &&& m (fun x => x == .rws)))

/-- The word that a read of a window offset returns. -/
def readAt (s : State) (o : Origin) (b : Block) (n off : Nat) : Word :=
  if inHeader off then
    if off % 0x1000 ≠ 0 ∧ readsZero s o b n off then 0 else headerWord b n (s.hdr b n) off
  else
    match findRow off (regRows b) with
    | some (row, _) => if readsZero s o b n off then 0 else blockWord s o b n off row
    | none => 0

/-- The word that a read of a BAR0 address returns; a reserved range reads zero (R9). -/
def readReg (s : State) (o : Origin) (a : Nat) : Word :=
  match locate a with
  | some (b, n, off) => readAt s o b n off
  | none => 0

/-- The bytes that a read of any size and alignment returns (R23). -/
def readAccess (s : State) (o : Origin) (a n : Nat) : List Byte :=
  wordsBytes ((touched a n).map (readReg s o)) (a % 4) n

end Sys2Proof.Machine
end

