-- ==== Sys2Proof/Machine/Commands.lean ====
section
/-! DEFINITION. The commands that are writes: each is one access of a register page under every check of R28, with the other
fields of its register as they stand where its row names one field only. -/

namespace Sys2Proof.Machine

/-- The address of a header register through a page of an instance's window; an address that no register has for a page that
does not exist. -/
def pageAddr (p : Page) (off : Nat) : Nat :=
  if p.inst < blkCount p.blk ∧ p.pg < blkPages p.blk then addrOf p.blk p.inst (0x1000 * p.pg + off) else 0x3FFFFFC

/-- The outcome of one write of a whole register. -/
def wrote (o : Origin) (a v t : Nat) (s : State) : Host.Outcome State Fault Refusal :=
  .next (busStep t (writeReg o 0 a (BitVec.ofNat 32 v)) s)

/-- A PAGE_CTRL word. -/
def ctrlWord (enable reset freeze : Bool) : Nat := bit enable + 2 * bit reset + 4 * bit freeze

/-- A PAGE_CTRL word that sets ENABLE and leaves FREEZE as it stands. -/
def enableWord (s : State) (b : Block) (n : Nat) (e : Bool) : Nat := ctrlWord e false (s.hdr b n).frozen

/-- A register's word with one field replaced. -/
def wordWith (s : State) (n : Nat) (f : Fld) (v : Nat) : Nat := (withBits (s.word f.blk n f.off) f.lo f.w v).toNat

/-- REGISTER_WRITE (R23, R28): a write access of any size and alignment. -/
def execRegisterWrite (o : Origin) (a : Nat) (data : List Byte) (be : List Bool) (demand t : Nat) (s : State) :
    Host.Outcome State Fault Refusal := .next (busStep t (writeAccess o demand a data be) s)

/-- ERROR_CODE_CLEAR (R25). -/
def execErrorCodeClear (o : Origin) (p : Page) (code : Fin 256) (t : Nat) (s : State) : Host.Outcome State Fault Refusal :=
  wrote o (pageAddr p 0x28) (code.val) t s

/-- EVENT_PENDING_CLEAR (R37). -/
def execEventPendingClear (o : Origin) (p : Page) (bits : Word) (t : Nat) (s : State) : Host.Outcome State Fault Refusal :=
  wrote o (pageAddr p 0x14) (bits.toNat) t s

/-- EVENT_ENABLE_WRITE (R37). -/
def execEventEnableWrite (o : Origin) (p : Page) (bits : Word) (t : Nat) (s : State) : Host.Outcome State Fault Refusal :=
  wrote o (pageAddr p 0x10) (bits.toNat) t s

/-- LEASE_WRITE (R31). -/
def execLeaseWrite (o : Origin) (p : Page) (owner : Fin 8) (hold : Fin 65536) (t : Nat) (s : State) : Host.Outcome State Fault Refusal :=
  wrote o (pageAddr p 0x24) (owner.val + 256 * hold.val) t s

/-- COMMIT (R34). -/
def execCommit (o : Origin) (p : Page) (t : Nat) (s : State) : Host.Outcome State Fault Refusal :=
  wrote o (pageAddr p 0x1C) (1) t s

/-- ABORT (R35). -/
def execAbort (o : Origin) (p : Page) (t : Nat) (s : State) : Host.Outcome State Fault Refusal :=
  wrote o (pageAddr p 0x1C) (2) t s

/-- SOFT_RESET (R494, R537). -/
def execSoftReset (o : Origin) (p : Page) (enable freeze : Bool) (t : Nat) (s : State) : Host.Outcome State Fault Refusal :=
  wrote o (pageAddr p 0x04) (ctrlWord enable true freeze) t s

/-- PAGE_ENABLE_WRITE (R536). -/
def execPageEnableWrite (o : Origin) (p : Page) (enable freeze : Bool) (t : Nat) (s : State) : Host.Outcome State Fault Refusal :=
  wrote o (pageAddr p 0x04) (ctrlWord enable false freeze) t s

/-- PAGE_FREEZE (R24). -/
def execPageFreeze (o : Origin) (p : Page) (freeze enable : Bool) (t : Nat) (s : State) : Host.Outcome State Fault Refusal :=
  wrote o (pageAddr p 0x04) (ctrlWord enable false freeze) t s

/-- RIGHTS_WRITE (R456). -/
def execRightsWrite (o : Origin) (p : Page) (rights : Word) (t : Nat) (s : State) : Host.Outcome State Fault Refusal :=
  wrote o (pageAddr p 0x30) (rights.toNat) t s

/-- MODE_REQUEST (R48). -/
def execModeRequest (o : Origin) (mode : Fin 4) (t : Nat) (s : State) : Host.Outcome State Fault Refusal :=
  wrote o (addrOf .pace 0 0x40) (mode.val) t s

/-- CCTL_ENABLE (R97). -/
def execCctlEnable (o : Origin) (n : Fin 48) (t : Nat) (s : State) : Host.Outcome State Fault Refusal :=
  wrote o (addrOf .cctl n.val 0x04) (enableWord s .cctl n.val true) t s

/-- CCTL_DISABLE (R97). -/
def execCctlDisable (o : Origin) (n : Fin 48) (t : Nat) (s : State) : Host.Outcome State Fault Refusal :=
  wrote o (addrOf .cctl n.val 0x04) (enableWord s .cctl n.val false) t s

/-- CMD_PUSH (R98). -/
def execCmdPush (o : Origin) (n : Fin 48) (tag : Fin 65536) (mask : Fin 32) (t : Nat) (s : State) : Host.Outcome State Fault Refusal :=
  wrote o (addrOf .cctl n.val 0x64) (mask.val + 65536 * tag.val) t s

/-- RESULT_POP (R102). -/
def execResultPop (o : Origin) (n : Fin 48) (t : Nat) (s : State) : Host.Outcome State Fault Refusal :=
  wrote o (addrOf .cctl n.val 0x78) (1) t s

/-- XFER_START (R111). -/
def execXferStart (o : Origin) (n : Fin 48) (len : Fin 16) (sub : Fin 4) (dir : Bool) (t : Nat) (s : State) : Host.Outcome State Fault Refusal :=
  wrote o (addrOf .cctl n.val 0x90) (len.val + 256 * sub.val + 65536 * bit dir + 2 ^ 31) t s

/-- TRIG_FIRE (R109). -/
def execTrigFire (o : Origin) (n : Fin 48) (t : Nat) (s : State) : Host.Outcome State Fault Refusal :=
  wrote o (addrOf .cctl n.val 0x80) (1) t s

/-- LUT_LOAD (R182). -/
def execLutLoad (o : Origin) (slot : Fin 64) (t : Nat) (s : State) : Host.Outcome State Fault Refusal :=
  wrote o (addrOf .lutm 0 0x4C) (slot.val + 2 ^ 31) t s

/-- PARTITION_WRITE (R182). -/
def execPartitionWrite (o : Origin) (large : Fin 256) (t : Nat) (s : State) : Host.Outcome State Fault Refusal :=
  wrote o (addrOf .lutm 0 0x40) (large.val) t s

/-- JOB_SUBMIT (R237). -/
def execJobSubmit (o : Origin) (k : Fin 4) (index : Fin 4096) (t : Nat) (s : State) : Host.Outcome State Fault Refusal :=
  wrote o (addrOf .zraw k.val 0x64) (index.val) t s

/-- ENC_OUT_RD_WRITE (R251, R262). -/
def execEncOutRdWrite (o : Origin) (c : Fin 128) (off : BitVec 24) (t : Nat) (s : State) : Host.Outcome State Fault Refusal :=
  wrote o (addrOf .enc (c.val / 32) (0x1134 + ctxOff (c.val % 32))) (off.toNat) t s

/-- GANG_WRITE (R247). -/
def execGangWrite (o : Origin) (e : Fin 4) (gang : Bool) (t : Nat) (s : State) : Host.Outcome State Fault Refusal :=
  wrote o (addrOf .enc e.val 0x40) (bit gang) t s

/-- DEC_CTX_ENABLE (R276). -/
def execDecCtxEnable (o : Origin) (c : Fin 64) (t : Nat) (s : State) : Host.Outcome State Fault Refusal :=
  wrote o (addrOf .dec (c.val / 32) (0x1100 + ctxOff (c.val % 32))) (wordWith s (c.val / 32) (Reg.dec_CTX_CFG_EN.at (ctxOff (c.val % 32))) 1) t s

/-- DEC_CTX_DISABLE (R276). -/
def execDecCtxDisable (o : Origin) (c : Fin 64) (t : Nat) (s : State) : Host.Outcome State Fault Refusal :=
  wrote o (addrOf .dec (c.val / 32) (0x1100 + ctxOff (c.val % 32))) (wordWith s (c.val / 32) (Reg.dec_CTX_CFG_EN.at (ctxOff (c.val % 32))) 0) t s

/-- DEC_IN_WR_WRITE (R275). -/
def execDecInWrWrite (o : Origin) (c : Fin 64) (off : BitVec 24) (t : Nat) (s : State) : Host.Outcome State Fault Refusal :=
  wrote o (addrOf .dec (c.val / 32) (0x1114 + ctxOff (c.val % 32))) (off.toNat) t s

/-- BPOOL_ALLOC (R314). -/
def execBpoolAlloc (o : Origin) (list : Fin 64) (t : Nat) (s : State) : Host.Outcome State Fault Refusal :=
  wrote o (addrOf .bpool 0 0x40) (65536 * list.val + 2 ^ 28) t s

/-- BPOOL_COMPLETE (R314). -/
def execBpoolComplete (o : Origin) (desc : Fin 4096) (t : Nat) (s : State) : Host.Outcome State Fault Refusal :=
  wrote o (addrOf .bpool 0 0x40) (desc.val + 2 * 2 ^ 28) t s

/-- BPOOL_RELEASE (R314). -/
def execBpoolRelease (o : Origin) (desc : Fin 4096) (t : Nat) (s : State) : Host.Outcome State Fault Refusal :=
  wrote o (addrOf .bpool 0 0x40) (desc.val + 3 * 2 ^ 28) t s

/-- BPOOL_WRITE (R314). -/
def execBpoolWrite (o : Origin) (desc : Fin 4096) (t : Nat) (s : State) : Host.Outcome State Fault Refusal :=
  wrote o (addrOf .bpool 0 0x40) (desc.val + 4 * 2 ^ 28) t s

/-- BPOOL_READ (R314). -/
def execBpoolRead (o : Origin) (desc : Fin 4096) (t : Nat) (s : State) : Host.Outcome State Fault Refusal :=
  wrote o (addrOf .bpool 0 0x40) (desc.val + 5 * 2 ^ 28) t s

/-- DPO_ENABLE (R330). -/
def execDpoEnable (o : Origin) (p : Fin 8) (t : Nat) (s : State) : Host.Outcome State Fault Refusal :=
  wrote o (addrOf .dpo p.val 0x04) (enableWord s .dpo p.val true) t s

/-- DPO_DISABLE (R334). -/
def execDpoDisable (o : Origin) (p : Fin 8) (t : Nat) (s : State) : Host.Outcome State Fault Refusal :=
  wrote o (addrOf .dpo p.val 0x04) (enableWord s .dpo p.val false) t s

/-- AUX_START (R339). -/
def execAuxStart (o : Origin) (p : Fin 8) (op : Fin 8) (len : Fin 16) (addr : BitVec 20) (t : Nat) (s : State) : Host.Outcome State Fault Refusal :=
  wrote o (addrOf .dpo p.val 0x4C) (addr.toNat + 2 ^ 24 * len.val + 2 ^ 28 * op.val + 2 ^ 31) t s

/-- CHK_CFG_WRITE (R349). -/
def execChkCfgWrite (o : Origin) (u : Fin 128) (cfg : Word) (t : Nat) (s : State) : Host.Outcome State Fault Refusal :=
  wrote o (addrOf .chk 0 (0x1040 + 0x10 * u.val)) (cfg.toNat) t s

/-- EXC_TX_SUBMIT (R376). -/
def execExcTxSubmit (o : Origin) (index : Fin 4096) (t : Nat) (s : State) : Host.Outcome State Fault Refusal :=
  wrote o (addrOf .pkt 0 0x98) (index.val) t s

/-- SESSION_ENABLE (R370). -/
def execSessionEnable (o : Origin) (n : Fin 4096) (cfg : Word) (t : Nat) (s : State) : Host.Outcome State Fault Refusal :=
  wrote o (addrOf .session n.val 0x40) (cfg.toNat) t s

/-- The CMD register of TIME0-TIME3, or of TIMEL (4). -/
def timeCmd (d : Nat) : Nat := if d < 4 then addrOf .time d 0x64 else addrOf .timel 0 0x64

/-- TIME_STEP (R392). -/
def execTimeStep (o : Origin) (d : Fin 5) (t : Nat) (s : State) : Host.Outcome State Fault Refusal :=
  wrote o (timeCmd d.val) (1) t s

/-- TIME_ACCEPT (R403). -/
def execTimeAccept (o : Origin) (d : Fin 5) (t : Nat) (s : State) : Host.Outcome State Fault Refusal :=
  wrote o (timeCmd d.val) (2) t s

/-- TIME_SNAP (R407). -/
def execTimeSnap (o : Origin) (d : Fin 5) (t : Nat) (s : State) : Host.Outcome State Fault Refusal :=
  wrote o (timeCmd d.val) (4) t s

/-- PTP_TX_SUBMIT (R398). -/
def execPtpTxSubmit (o : Origin) (d : Fin 4) (index : Fin 4096) (t : Nat) (s : State) : Host.Outcome State Fault Refusal :=
  wrote o (addrOf .time d.val 0xA4) (index.val) t s

/-- AUD_ENABLE (R414). -/
def execAudEnable (o : Origin) (n : Fin 16) (t : Nat) (s : State) : Host.Outcome State Fault Refusal :=
  wrote o (addrOf .aud n.val 0x04) (enableWord s .aud n.val true) t s

/-- AUD_DISABLE (R414). -/
def execAudDisable (o : Origin) (n : Fin 16) (t : Nat) (s : State) : Host.Outcome State Fault Refusal :=
  wrote o (addrOf .aud n.val 0x04) (enableWord s .aud n.val false) t s

/-- AUD_ARM (R412, R414). -/
def execAudArm (o : Origin) (n : Fin 16) (t : Nat) (s : State) : Host.Outcome State Fault Refusal :=
  wrote o (addrOf .aud n.val 0x64) (1) t s

/-- AUD_STOP (R414). -/
def execAudStop (o : Origin) (n : Fin 16) (t : Nat) (s : State) : Host.Outcome State Fault Refusal :=
  wrote o (addrOf .aud n.val 0x64) (2) t s

/-- START_GO (R415). -/
def execStartGo (o : Origin) (dom : Fin 8) (mask : Fin 65536) (t : Nat) (s : State) : Host.Outcome State Fault Refusal :=
  wrote o (addrOf .amclk 0 0x8C) (1 + 2 * dom.val + 65536 * mask.val) t s

/-- RELINE_GO (R446). -/
def execRelineGo (o : Origin) (src : Fin 16) (t : Nat) (s : State) : Host.Outcome State Fault Refusal :=
  wrote o (addrOf .memx 0 0x58) ((s.word .memx 0 0x58).toNat % 256 + 256 * src.val + 2 ^ 31) t s

/-- THIMBLE_ACQUIRE (R461). -/
def execThimbleAcquire (o : Origin) (k : Fin 256) (hold : Fin 65536) (t : Nat) (s : State) : Host.Outcome State Fault Refusal :=
  wrote o (addrOf .thm 0 (0x100 + 4 * k.val)) (0x40 + 65536 * hold.val) t s

/-- THIMBLE_RELEASE (R461). -/
def execThimbleRelease (o : Origin) (k : Fin 256) (t : Nat) (s : State) : Host.Outcome State Fault Refusal :=
  wrote o (addrOf .thm 0 (0x100 + 4 * k.val)) (0x80) t s

/-- DMA_RING_ENABLE (R467). -/
def execDmaRingEnable (o : Origin) (p : Fin 2) (r : Fin 16) (t : Nat) (s : State) : Host.Outcome State Fault Refusal :=
  wrote o (addrOf .dma p.val (0x100 + 0x20 * r.val)) (wordWith s p.val (Reg.dma_RING_CFG_EN.at (0x20 * r.val)) 1) t s

/-- DMA_RING_DISABLE (R467). -/
def execDmaRingDisable (o : Origin) (p : Fin 2) (r : Fin 16) (t : Nat) (s : State) : Host.Outcome State Fault Refusal :=
  wrote o (addrOf .dma p.val (0x100 + 0x20 * r.val)) (wordWith s p.val (Reg.dma_RING_CFG_EN.at (0x20 * r.val)) 0) t s

/-- DMA_SUBMIT (R464). -/
def execDmaSubmit (o : Origin) (p : Fin 2) (r : Fin 16) (index : Fin 4096) (t : Nat) (s : State) : Host.Outcome State Fault Refusal :=
  wrote o (addrOf .dma p.val (0x110 + 0x20 * r.val)) (index.val) t s

/-- DMA_RESUME (R467). -/
def execDmaResume (o : Origin) (p : Fin 2) (r : Fin 16) (t : Nat) (s : State) : Host.Outcome State Fault Refusal :=
  wrote o (addrOf .dma p.val (0x11C + 0x20 * r.val)) (1) t s

/-- DMA_SKIP (R467). -/
def execDmaSkip (o : Origin) (p : Fin 2) (r : Fin 16) (t : Nat) (s : State) : Host.Outcome State Fault Refusal :=
  wrote o (addrOf .dma p.val (0x11C + 0x20 * r.val)) (2) t s

/-- HANDOVER_QUIESCED (R488). -/
def execHandoverQuiesced (o : Origin) (t : Nat) (s : State) : Host.Outcome State Fault Refusal :=
  wrote o (addrOf .sec 0 0x64) (65536 * s.get 0 Reg.sec_HANDOVER_TIMEOUT_MS + 4) t s

/-- HANDOVER_DONE (R488). -/
def execHandoverDone (o : Origin) (t : Nat) (s : State) : Host.Outcome State Fault Refusal :=
  wrote o (addrOf .sec 0 0x64) (65536 * s.get 0 Reg.sec_HANDOVER_TIMEOUT_MS + 8) t s

/-- WARM (R492). -/
def execWarm (o : Origin) (t : Nat) (s : State) : Host.Outcome State Fault Refusal :=
  wrote o (addrOf .sup 0 0x48) (2) t s

/-- HEARTBEAT (R496). -/
def execHeartbeat (o : Origin) (seq : Fin 256) (t : Nat) (s : State) : Host.Outcome State Fault Refusal :=
  wrote o (addrOf .sup 0 0x44) (seq.val) t s

/-- RELEASE (R500). -/
def execRelease (o : Origin) (t : Nat) (s : State) : Host.Outcome State Fault Refusal :=
  wrote o (addrOf .sup 0 0x48) (1) t s

/-- FREQ_GO (R443). -/
def execFreqGo (o : Origin) (target : Fin 4) (demand t : Nat) (s : State) : Host.Outcome State Fault Refusal :=
  .next (busStep t (writeReg o demand (addrOf .memx 0 0x48)
    (BitVec.ofNat 32 ((s.word .memx 0 0x48).toNat % 2 ^ 24 + 2 ^ 24 * target.val + 2 ^ 31))) s)

end Sys2Proof.Machine
end

