-- ==== Sys2Proof/Machine/Dma.lean ====
section
/-! DEFINITION. What a DMA ring does with the descriptor at its HEAD (R464-R467): its checks, the four operations, poison, and
how it ends. -/

namespace Sys2Proof.Machine

/-- A descriptor as it reads (R464). -/
structure Descriptor where
  op : Nat
  irq : Bool
  rows : Nat
  len : Nat
  src : Nat
  dst : Nat
  srcPitch : Nat
  dstPitch : Nat
  value : Nat
  /-- Its CRC matches, and it was read without poison. -/
  good : Bool
deriving DecidableEq, Repr

/-- The fields of the 64 bytes of a descriptor. -/
def readDescriptor (l : List Byte) (poisoned : Bool) : Descriptor :=
  { op := leAt l 0 1, irq := leAt l 1 1 % 2 == 1, rows := max 1 (leAt l 2 2), len := leAt l 4 4, src := leAt l 8 8,
    dst := leAt l 16 8, srcPitch := leAt l 24 4, dstPitch := leAt l 28 4, value := leAt l 44 4,
    good := !poisoned && leAt l 60 4 == crc32c (l.take 32 ++ (l.drop 40).take 20) }

/-- The row of the table that a descriptor runs under: one whose OP has no meaning, or cannot be trusted, runs as the first. -/
def Descriptor.kind (d : Descriptor) : Nat := if d.good && decide (d.op < 4) then d.op else 0

/-- Whether every row of a DRAM rectangle lies below the capacity. -/
def rectFits (s : State) (a pitch len rows : Nat) : Bool := decide (a + (rows - 1) * pitch + len ≤ dramCapacity s)

/-- Whether a field of a descriptor is out of range (R464, R466). -/
def Descriptor.bad (s : State) (d : Descriptor) : Bool :=
  let src := rectFits s d.src d.srcPitch d.len d.rows
  let dst := rectFits s d.dst d.dstPitch d.len d.rows
  d.len == 0 ||
  match d.op with
  | 0 => !dst
  | 1 => !src
  | 2 => !src || !dst
  | 3 => d.len != 4 || d.dst % 4 != 0 || decide (0x4000000 ≤ d.dst)
  | _ => true

/-- Pieces of `n` bytes from `a` that lie on one line each: offsets and lengths. -/
def linePieces (a : Nat) : Nat → Nat → Nat → List (Nat × Nat)
  | 0, _, _ => []
  | fuel + 1, o, n =>
    if n = 0 then []
    else
      let k := min n (64 - (a + o) % 64)
      (o, k) :: linePieces a fuel (o + k) (n - k)

/-- Runs of a DRAM range that read with and without poison: offset, length, poison. -/
def poisonRuns (s : State) (a n : Nat) : List (Nat × Nat × Bool) :=
  (linePieces a (n / 64 + 2) 0 n).foldr (fun x l =>
    let p := rangePoisoned s (a + x.1) x.2
    match l with
    | (_, k, q) :: t => if p = q then (x.1, x.2 + k, q) :: t else (x.1, x.2, p) :: l
    | [] => [(x.1, x.2, p)]) []

/-- One row from DRAM to DRAM: lines that take poisoned bytes are written poisoned (R466). -/
def rowToDram (who src dst n : Nat) (s : State) : State :=
  let runs := (poisonRuns s src n).filter (fun x => x.2.2)
  let (data, _, s) := dramRead who src n s
  forEach runs (fun x s => dramPoison who (dst + x.1) x.2.1 s) (dramWrite who dst data s)

/-- One row from DRAM to host memory: poisoned bytes go as poisoned TLPs (R466). -/
def rowToHost (p src dst n : Nat) (s : State) : State :=
  let runs := poisonRuns s src n
  let (data, _, s) := dramRead (hostOrigin p) src n s
  forEach runs (fun x s => s.emit (.hostWrite p (dst + x.1) ((data.drop x.1).take x.2.1) x.2.2)) s

/-- A copy out of DRAM: whether poison was read, and the state. -/
def copyRows (d : Descriptor) (f : Nat → Nat → State → State) (s : State) : Bool × State :=
  (List.range d.rows).foldl (fun (a : Bool × State) k =>
    let src := d.src + k * d.srcPitch
    (a.1 || (poisonRuns a.2 src d.len).any (fun x => x.2.2), f src (d.dst + k * d.dstPitch) a.2)) (false, s)

/-- A copy from host memory, whose completions return `data`; if they are fewer than the copy needs, the read of the next `lost`
bytes completes with an error, and the lines that those would have filled are written poisoned (R466). -/
def copyIn (who : Nat) (d : Descriptor) (lost : Nat) : Nat → Nat → List Byte → State → State
  | 0, _, _, s => s
  | left + 1, k, data, s =>
    let a := d.dst + k * d.dstPitch
    if d.len ≤ data.length then copyIn who d lost left (k + 1) (data.drop d.len) (dramWrite who a (data.take d.len) s)
    else dramPoison who (a + data.length) (min lost (d.len - data.length)) (dramWrite who a data s)

/-- What a descriptor does: its status code, the bytes written to its destination, whether it halts the ring, and the state. -/
def runDescriptor (p : Nat) (d : Descriptor) (data : List Byte) (lost t demand : Nat) (s : State) : Nat × Nat × Bool × State :=
  let who := hostOrigin p
  let total := d.len * d.rows
  if !d.good then (0x0A, 0, true, s)
  else if d.bad s then (0x01, 0, true, s)
  else if d.op = 0 then
    let s := copyIn who d lost d.rows 0 data s
    if total ≤ data.length then (0x00, total, false, s) else (0x0D, data.length, true, s)
  else if d.op = 1 then
    let (bad, s) := copyRows d (fun a b s => rowToHost p a b d.len s) s
    (if bad then 0x0D else 0x00, total, false, s)
  else if d.op = 2 then
    let (bad, s) := copyRows d (fun a b s => rowToDram who a b d.len s) s
    (if bad then 0x0D else 0x00, total, false, s)
  else
    let o : Origin := if p = 0 then .hostA else .hostB
    let v := BitVec.ofNat 32 d.value
    let code := writeCode o demand d.dst v s
    let s := busStep t (writeReg o demand d.dst v) s
    (code, if code = 0 then 4 else 0, code != 0, s)

/-- A descriptor ends (R464, R466, R467): its status is written before HEAD advances. -/
def endDescriptor (p r code done : Nat) (halts irq : Bool) (s : State) : State :=
  let s := descCount p r code (descStatus p r code done s)
  let s :=
    if halts then ringEvent p r 1 (logError .dma p code r (rset p r Reg.dma_RING_STATUS_STATE 2 s))
    else headNext p r s
  let s := if irq then ringEvent p r 0 s else s
  if rget s p r Reg.dma_RING_CFG_EN = 0 then rset p r Reg.dma_RING_STATUS_STATE 0 s else s

/-- The 64 bytes at HEAD: those of DRAM, or those that the host returned. -/
def fetchDescriptor (p r : Nat) (given : List Byte) (s : State) : List Byte × Bool × State :=
  if ringLocal s p r then dramRead (hostOrigin p) (descAddr s p r) 64 s else (given, false, s)

/-- A ring executes the descriptor at HEAD if that has the kind asked for. A descriptor read that the host ended early halts the
ring with 0x0D; one that resets its own page has ended there (R467). -/
def ringStep (p r kind : Nat) (given data : List Byte) (lost t demand : Nat) (s : State) : State :=
  if !ringBusy s p r then s
  else
    let (l, bad, s') := fetchDescriptor p r given s
    if l.length < 64 then (if kind = 0 then endDescriptor p r 0x0D 0 true false s' else s)
    else
      let d := readDescriptor l bad
      if d.kind ≠ kind then s
      else
        let (code, done, halts, s2) := runDescriptor p d data lost t demand s'
        if ringState s2 p r = 0 then s2 else endDescriptor p r code done halts (d.irq && d.good) s2

/-- DMA_HOST_TO_DRAM (R464, R466). -/
def execDmaHostToDram (p : Fin 2) (r : Fin 16) (desc data : List Byte) (lost t : Nat) (s : State) : Host.Outcome State Fault Refusal :=
  .next (ringStep p.val r.val 0 desc data lost t 0 (s.at t))

/-- DMA_DRAM_TO_HOST (R464, R466). -/
def execDmaDramToHost (p : Fin 2) (r : Fin 16) (desc : List Byte) (t : Nat) (s : State) : Host.Outcome State Fault Refusal :=
  .next (ringStep p.val r.val 1 desc [] 0 t 0 (s.at t))

/-- DMA_DRAM_TO_DRAM (R464, R466). -/
def execDmaDramToDram (p : Fin 2) (r : Fin 16) (desc : List Byte) (t : Nat) (s : State) : Host.Outcome State Fault Refusal :=
  .next (ringStep p.val r.val 2 desc [] 0 t 0 (s.at t))

/-- DMA_REGISTER_WRITE (R465). -/
def execDmaRegisterWrite (p : Fin 2) (r : Fin 16) (desc : List Byte) (demand t : Nat) (s : State) : Host.Outcome State Fault Refusal :=
  .next (ringStep p.val r.val 3 desc [] 0 t demand (s.at t))

end Sys2Proof.Machine
end

