-- ==== Sys2Proof/Machine/Panel.lean ====
section
/-! DEFINITION. The panel command protocol (R381, R382): requests over UDP, run with origin NET. Its layout is little-endian,
as the chapter says of the layouts it defines. -/

namespace Sys2Proof.Machine

/-- A request that is well formed (R381). -/
structure PanelReq where
  /-- 0 = echo, 1 = read, 2 = write. -/
  op : Nat
  /-- The four bytes of SEQ, as a number. -/
  seq : Nat
  count : Nat
  addr : Nat
  words : List Word
deriving DecidableEq, Repr

/-- Read a request; none if it is malformed (R381): a wrong MAGIC, VERSION, OP, COUNT or length, a byte that is not zero where the
layout says zero, or an ADDR that is not aligned. -/
def readRequest (d : List Byte) : Option PanelReq :=
  let op := leAt d 3 1
  let count := leAt d 8 2
  let addr := leAt d 12 4
  let len := if op = 2 then 16 + 4 * count else 16
  if d.length < 16 ∨ leAt d 0 1 ≠ 0x5A ∨ leAt d 1 1 ≠ 0x52 ∨ leAt d 2 1 ≠ 1 ∨ 2 < op ∨ leAt d 10 2 ≠ 0 ∨ addr % 4 ≠ 0
      ∨ d.length ≠ len ∨ (op = 0 ∧ count ≠ 0) ∨ (op ≠ 0 ∧ (count = 0 ∨ 64 < count)) then none
  else some { op := op, seq := leAt d 4 4, count := count, addr := addr, words := (wordsFrom 0 (d.drop 16)).map (·.2) }

/-- Whether a source address lies within CMD_PREFIX. -/
def inPrefix (s : State) (src : Nat) : Bool :=
  let k := 2 ^ (32 - s.get 0 Reg.pkt_CMD_PREFIX_LEN_LEN)
  src / k == s.get 0 Reg.pkt_CMD_PREFIX_ADDR / k

/-- The bytes of a reply (R381). -/
def panelReply (q : PanelReq) (done status : Nat) (data : List Byte) : List Byte :=
  bytesLE 1 0x5A ++ bytesLE 1 0x52 ++ bytesLE 1 1 ++ bytesLE 1 (q.op + 0x80) ++ bytesLE 4 q.seq ++ bytesLE 2 done ++ bytesLE 1 status
    ++ bytesLE 1 0 ++ bytesLE 4 q.addr ++ data

/-- Write words in order, up to the first that fails: the words written, the failing one's error code and the state (R382). -/
def panelWrites (demand a : Nat) : List Word → Nat → State → Nat × Nat × State
  | [], k, s => (k, 0, s)
  | v :: t, k, s =>
    let code := writeCode .net demand a v s
    let s' := writeReg .net demand a v s
    if code = 0 then panelWrites demand (a + 4) t (k + 1) s' else (k, code, s')

/-- Execute a request: DONE, STATUS, the data of its reply and the state (R382). -/
def panelRun (demand : Nat) (q : PanelReq) (s : State) : Nat × Nat × List Byte × State :=
  if q.op = 0 then (0, 0, [], s)
  else if 0x4000000 < q.addr + 4 * q.count then (0, 0x01, [], s)
  else if q.op = 1 then
    (q.count, 0, (List.range q.count).flatMap (fun i => bytesLE 4 (readReg s .net (q.addr + 4 * i)).toNat), s)
  else
    let (k, code, s) := panelWrites demand q.addr q.words 0 s
    (k, code, [], s)

/-- Queue a reply on the port of its request, to the request's source address and port. -/
def sendReply (n : Nat) (x : UdpRx) (reply : List Byte) (s : State) : State :=
  let r : Route :=
    { v6 := false, dstMac := x.srcMac, srcMac := macBytes (s.get n Reg.net_MAC_LO_ADDR) (s.get n Reg.net_MAC_HI_ADDR), tag := x.tag,
      dscp := Config.ipField s.free 3, ttl := Config.ipField s.free 2, src := netAddr s n false, dst := x.src,
      sport := x.dport, dport := x.sport, ident := Config.ipField s.free 0 }
  let p := s.net n
  pickAll s.now ((s.fresh).setNet n { p with replies := p.replies ++ [udpFrame r reply] })

/-- What becomes of a request (R382). -/
inductive PanelFate where
  /-- Malformed, from outside the prefix or on a port that is not enabled. -/
  | bad
  /-- Beyond MAX_PER_MS. -/
  | limited
  /-- Executed, or answered from the kept replies. -/
  | taken (q : PanelReq)
deriving DecidableEq, Repr

/-- The requests counted in the current millisecond of TIMEL. -/
def panelCount (s : State) : Nat := if s.pkt.cmdMs = s.now / msT 1 then s.pkt.cmdCount else 0

/-- The fate of a request on port `n`. -/
def panelFate (s : State) (n : Nat) (x : UdpRx) : PanelFate :=
  match readRequest x.data with
  | none => .bad
  | some q =>
    if !getBit (s.get 0 Reg.pkt_CMD_CFG_PORTS) n ∨ !inPrefix s (natBE x.src) then .bad
    else if s.get 0 Reg.pkt_CMD_CFG_MAX_PER_MS ≤ panelCount s then .limited
    else .taken q

/-- A request that is taken: counted, and answered (R382). -/
def panelTake (demand n : Nat) (x : UdpRx) (q : PanelReq) (s : State) : State :=
  let s := { s with pkt := { s.pkt with cmdCount := panelCount s + 1, cmdMs := s.now / msT 1 } }
  match s.pkt.replies.find? (fun k => k.addr == natBE x.src && k.port == x.sport && k.seq == q.seq) with
  | some k => sendReply n x k.reply s
  | none =>
    let (done, status, data, s) := panelRun demand q s
    let reply := panelReply q done status data
    let kept : CmdReply := { addr := natBE x.src, port := x.sport, seq := q.seq, reply := reply }
    sendReply n x reply { s with pkt := { s.pkt with replies := (kept :: s.pkt.replies).take 64 } }

/-- A frame with a request that asks for `op` arrives on port `n`; any other frame leaves the command protocol alone. -/
def panelReceive (op demand n : Nat) (fcs : Bool) (frame : List Byte) (s : State) : State :=
  if !linkUp s n then s
  else
    match classify s n fcs frame with
    | .bad => rxBad n s
    | .command x =>
      match panelFate s n x with
      | .taken q => if q.op = op then panelTake demand n x q s else s
      | _ => s
    | _ => s

/-- A request that is refused: counted in CMD_BAD with CMD_REFUSED raised, or in CMD_LIMITED (R382). -/
def panelRefuse (n : Nat) (fcs : Bool) (frame : List Byte) (s : State) : State :=
  if !linkUp s n then s
  else
    match classify s n fcs frame with
    | .bad => rxBad n s
    | .command x =>
      match panelFate s n x with
      | .bad => raise .pkt 0 7 (s.inc 0 Reg.pkt_COUNTS_CMD_BAD)
      | .limited => s.inc 0 Reg.pkt_COUNTS_CMD_LIMITED
      | .taken _ => s
    | _ => s

/-- CMD_ECHO (R381). -/
def execCmdEcho (n : Fin 4) (fcs : Bool) (frame : List Byte) (t : Nat) (s : State) : Host.Outcome State Fault Refusal :=
  .next (busStep t (panelReceive 0 0 n.val fcs frame) s)

/-- CMD_READ (R382). -/
def execCmdRead (n : Fin 4) (fcs : Bool) (frame : List Byte) (t : Nat) (s : State) : Host.Outcome State Fault Refusal :=
  .next (busStep t (panelReceive 1 0 n.val fcs frame) s)

/-- CMD_WRITE (R382): `demand` is what a FREQ_CTRL.GO among its words weighs. -/
def execCmdWrite (n : Fin 4) (fcs : Bool) (frame : List Byte) (demand t : Nat) (s : State) : Host.Outcome State Fault Refusal :=
  .next (busStep t (panelReceive 2 demand n.val fcs frame) s)

/-- CMD_REFUSED (R382). -/
def execCmdRefused (n : Fin 4) (fcs : Bool) (frame : List Byte) (t : Nat) (s : State) : Host.Outcome State Fault Refusal :=
  .next (busStep t (panelRefuse n.val fcs frame) s)

end Sys2Proof.Machine
end

