-- ==== Sys2Proof/Machine/Staged.lean ====
section
/-! DEFINITION. STAGED_CHECK (R34): the check of a commit's staged values within 10 µs of its request, block by block: camera ports
(R69, R87), streams (R53, R115, R117, R122, R128, R131, R143, R151, R152, R158, R164, R182, R186, R191-R206, R212, R233,
R250), heads (R304, R322), encoders (R244, R248, R250, R53), clock domains (R408) and DDRCs (R442). -/

namespace Sys2Proof.Machine

/-- The first check of a list that fails: its code and DETAIL. -/
def firstFail (l : List (Bool × Nat × Nat)) : Option (Nat × Nat) := (l.find? (·.1)).map (·.2)

/-- The first value that a check finds. -/
def firstSome {α : Type} (l : List α) (f : α → Option (Nat × Nat)) : Option (Nat × Nat) := l.findSome? f

/-- The end of a passed staged check: BUSY falls, and the commit waits for its boundary. -/
def checkPassed (b : Block) (n : Nat) (s : State) : State :=
  s.setHdr b n { s.hdr b n with checked := true, busy := false }

/-! ### Camera ports (R69, R87) -/

/-- A port with the staged values of a commit that has been checked and is pending. -/
def withPending (s : State) (p : Nat) : State :=
  let h := s.hdr (portBlk p) (portInst p)
  if h.pendingCommit ∧ h.checked then applyGroup (portBlk p) (portInst p) s else s

/-- Whether a valid entry of a port names a stream. -/
def portBinds (s : State) (p n : Nat) : Bool := (portEntries p).any (fun e => entValid s p e && entStream s p e == n)

/-- Virtual channel and data type that an entry of a serial port matches. -/
def entMatch (s : State) (p e : Nat) : Nat × Nat :=
  (s.get (portInst p) (Reg.cams_ENT_MAP_VC.at (0x40 * e)), s.get (portInst p) (Reg.cams_ENT_MAP_DT.at (0x40 * e)))

/-- Whether the valid entries of a port break R69 among themselves. -/
def bindingBad (s : State) (p : Nat) : Bool :=
  let l := (portEntries p).filter (entValid s p)
  l.any (fun e => (p < 40 && entExp s p e != 0)
    || !(l.any (fun f => entStream s p f == entStream s p e && entExp s p f == 0))
    || l.any (fun f => f != e && ((entStream s p f == entStream s p e && entExp s p f == entExp s p e)
        || (40 ≤ p && entMatch s p f == entMatch s p e))))

/-- The stream of a port's valid entries that another port binds already (R87). -/
def boundElsewhere (s s' : State) (p : Nat) : Option Nat :=
  (((portEntries p).filter (entValid s' p)).map (entStream s' p)).find? (fun n =>
    (List.range 48).any (fun q => q != p && (portBinds s q n || portBinds (withPending s q) q n)))

/-- Whether the line period of a class 0 stream that the port binds keeps a static stream of its bench from running (R131). -/
def lineTooShort (s' : State) (p : Nat) : Bool :=
  (staticMisfits s' (modeNow s')).any (fun x =>
    match pinnedStream s' x.2 with
    | none => false
    | some c => (entryOf s' c 0).any (fun e => e.1 == portBlk p && e.2.1 == portInst p))

/-- The staged check of a camera port (R87). -/
def checkPort (s : State) (p : Nat) : Option (Nat × Nat) :=
  let i := portInst p
  let s' := applyGroup (portBlk p) i s
  let dphy := 40 ≤ p && s'.get i Reg.cams_PHY_CFG_MODE == 1
  let rate := s'.get i Reg.cams_PHY_RATE_RATE
  let other := boundElsewhere s s' p
  firstFail
    [(dphy && decide (4500 < rate), 0x01, 0),
     (dphy && s'.get i Reg.cams_PHY_CFG_DESKEW == 0 && decide (1500 < rate), 0x01, 0),
     (bindingBad s' p, 0x01, 0),
     (other.isSome, 0x04, other.getD 0),
     (decide (p < 40) && s'.get i Reg.camp_BUS_CFG_SYNC != 0 && s'.get i Reg.camp_BUS_CFG_FORMAT == 0, 0x01, 0),
     (lineTooShort s' p, 0x08, 0)]

/-- The staged check of a camera port's commit. -/
def stagedPort (p : Nat) (t : Time) (s : State) : State :=
  let b := portBlk p
  let i := portInst p
  match checkPort s p with
  | some (c, d) => commitReject b i c d s
  | none => portBoundary p t (checkPassed b i s)

/-! ### Streams: fields (R115-R212) -/

/-- A field of tap `k` on the tap page. -/
def tapGet (s : State) (n k : Nat) (f : Fld) : Nat := s.get n (f.at (0x20 * k))

/-- Tap formats that a context's profile accepts (R244). -/
def profileTakes (s : State) (c fmt : Nat) : Bool :=
  let p := cget s c Reg.enc_CTX_CFG_PROFILE
  if isAvc s c then decide (fmt ≤ min p 1) else decide (fmt ≤ (if p = 2 then 3 else p))

/-- Whether a tap meets the conditions of the context it feeds (R115, R250, R535). -/
def feedsWell (s : State) (n k c : Nat) : Bool :=
  let g := tapGeom s n k
  profileTakes s c (tapGet s n k Reg.strm_TAP_CTRL_FORMAT)
  && g.wout == cget s c Reg.enc_CTX_GEOM_WIDTH && g.hout == cget s c Reg.enc_CTX_GEOM_HEIGHT
  && stripeLines s n == cget s c Reg.enc_CTX_CFG_SLICE_CTU_ROWS * ctuSize s c

/-- The enabled taps of a stream with a destination and target. -/
def tapsTo (s : State) (n dest target : Nat) : List Nat :=
  (tapsOn s n).filter (fun k => tapGet s n k Reg.strm_TAP_CTRL_DEST == dest && tapGet s n k Reg.strm_TAP_CTRL_TARGET == target)

/-- Whether a tap would be a second feeder (R205). -/
def secondFeeder (s : State) (n k : Nat) : Bool :=
  let dest := tapGet s n k Reg.strm_TAP_CTRL_DEST
  let target := tapGet s n k Reg.strm_TAP_CTRL_TARGET
  dest != 0 && ((tapsTo s n dest target).any (fun j => decide (j < k))
    || (List.range 48).any (fun m => m != n && !(tapsTo s m dest target).isEmpty))

/-- The checks of one enabled tap (R115, R186, R191, R192, R198, R201-R205, R250). -/
def checkTap (s : State) (n k : Nat) : Option (Nat × Nat) :=
  let g := tapGeom s n k
  let fmt := tapGet s n k Reg.strm_TAP_CTRL_FORMAT
  let dest := tapGet s n k Reg.strm_TAP_CTRL_DEST
  let target := tapGet s n k Reg.strm_TAP_CTRL_TARGET
  let decim := tapGet s n k Reg.strm_TAP_CTRL_DECIM
  let enc := s.get n (Reg.strm_TAP_ENC_ENCODING.at (0x40 * k))
  let lut := s.flag n (Reg.strm_TAP_ENC_LUT1D_EN.at (0x40 * k))
  let linear := enc == 4 || enc == 5
  let scales := g.wout != g.w || g.hout != g.h
  let odd := g.x0 % 2 == 1 || g.y0 % 2 == 1 || g.w % 2 == 1 || g.h % 2 == 1
  firstFail
    [(dest == 2 && decide (fmt ≤ 3) && !feedsWell s n k target, 0x01, k),
     ((linear && decide (fmt ≤ 5)) || (lut && linear), 0x01, k),
     (decide (decim < tapGet s n k Reg.strm_TAP_CTRL_PHASE), 0x01, k),
     (decide (pixelWidth s n < g.x0 + g.w) || decide (streamH s n < g.y0 + g.h) || g.w == 0 || g.h == 0, 0x01, k),
     ((decide (fmt ≤ 3) && g.wout % 2 == 1) || (decide (fmt ≤ 1) && g.hout % 2 == 1), 0x01, k),
     (decide (8 * g.wout < g.w) || decide (2 * g.w < g.wout) || decide (8 * g.hout < g.h) || decide (2 * g.h < g.hout), 0x01, k),
     (decide (11 < fmt), 0x01, k),
     ((fmt == 9 && enc != 4) || (fmt == 10 && enc != 5) || (linear && fmt != 9 && fmt != 10), 0x01, k),
     (fmt == 11 && (streamYuv s n || decide (16 < streamBits s n) || scales || odd || (dest != 0 && dest != 3)), 0x01, k),
     (dest == 3 && fmt != 11, 0x01, k),
     (dest == 1 && (streamClass s n != 0 || decim != 0), 0x01, k),
     (dest == 2 && decide (3 < fmt), 0x01, k),
     (s.flag n (Reg.strm_TAP_CTRL_REC.at (0x20 * k)) && (dest == 1 || dest == 2), 0x01, k),
     (secondFeeder s n k, 0x04, k)]

/-- Output of a stream's taps in pixels per frame × 720720 (R206). -/
def tapOutput (s : State) (n : Nat) : Nat :=
  (tapsOn s n).foldl (fun a k => let g := tapGeom s n k
    a + g.wout * g.hout * (720720 / (tapGet s n k Reg.strm_TAP_CTRL_DECIM + 1))) 0

/-- Whether a zone rule's region is out of order (R212). -/
def regionBad (s : State) (n r : Nat) : Bool :=
  let f := fun (x : Fld) => s.get n (x.at (0x10 * r))
  decide (f Reg.strm_RULE_REGION_I1 < f Reg.strm_RULE_REGION_I0) || decide (f Reg.strm_RULE_REGION_J1 < f Reg.strm_RULE_REGION_J0)
  || decide (63 < f Reg.strm_RULE_REGION_I1) || decide (35 < f Reg.strm_RULE_REGION_J1)

/-- Whether a black level reaches the white level of its exposure (R143). -/
def blackBad (s : State) (n k : Nat) : Bool :=
  (List.range 4).any (fun p => decide (s.get n (Reg.strm_WHITE_LEVEL.at (4 * k)) ≤ s.get n (Reg.strm_BLACK_LEVEL.at (0x10 * k + 4 * p))))

/-- The checks of a stream's staged fields, in the order of the chapters; `s'` holds the staged values. -/
def checkFields (s' : State) (n : Nat) : Option (Nat × Nat) :=
  let cls := streamClass s' n
  let early := firstFail
    [(decide (s'.get n Reg.strm_STAGE_ROWS_ROWS < 2 * stripeLines s' n), 0x01, 0),
     (cls == 0 && (s'.get n Reg.strm_SCHED_AFFINITY != 1 || s'.get n Reg.strm_SCHED_STRIPE_ROWS != 1), 0x08, 0),
     ((staticMisfits s' (modeNow s')).any (fun x => x.1 == n || pinnedStream s' x.2 == some n), 0x08, 0),
     ((List.range 3).any (blackBad s' n), 0x01, 0),
     (s'.flag n Reg.strm_RAW_CFG_NR_EN && s'.get n Reg.strm_NOISE_B_B == 0, 0x01, 0),
     (s'.enabled .strm n && !profileValid s' (s'.get n Reg.strm_RAW_CFG_PROFILE), 0x10, 0),
     (s'.flag n Reg.strm_COLOUR_CFG_LUT_EN && !lutValid s' (s'.get n Reg.strm_COLOUR_CFG_LUT_SLOT), 0x10, 0)]
  let bound := (entryOf s' n 0).isSome
  let bits := streamBits s' n
  match early with
  | some e => some e
  | none =>
    match firstSome (tapsOn s' n) (checkTap s' n) with
    | some e => some e
    | none => firstFail
        [(decide (1441440 * (streamW s' n * streamH s' n * streamE s' n) < tapOutput s' n), 0x08, 0),
         ((List.range 16).any (regionBad s' n), 0x01, 0),
         (s'.get n Reg.strm_SCHED_STAGE_ZRAW == 1 && bound && (decide (bits < 10) || decide (16 < bits) || streamYuv s' n), 0x01, 0)]

/-! ### Streams: tables (R151, R164, R194) -/

/-- The little-endian 16-bit values of a table. -/
def halves (l : List Byte) : List Nat := (chunk 2 l.length l).map (fun e => leAt e 0 2)

/-- How far the reading of tables has come: the first failure, the staged tables and the state. -/
abbrev Reading := Option (Nat × Nat) × Tables × State

/-- Read one table of `n` bytes if it is wanted: poison rejects with 0x0D, a bad entry as `bad` says. -/
def readTable (want : Bool) (a n : Nat) (bad : List Nat → Option (Nat × Nat)) (put : List Nat → Tables → Tables) (r : Reading) :
    Reading :=
  if r.1.isSome ∨ !want then r
  else
    let (data, p, s) := dramRead 0 a n r.2.2
    let v := halves data
    if p then (some (0x0D, 0), r.2.1, s)
    else match bad v with
      | some e => (some e, r.2.1, s)
      | none => (none, put v r.2.1, s)

/-- Index of the first entry of a list that breaks a rule. -/
def badIndex (f : Nat → Bool) : Nat → List Nat → Option Nat
  | _, [] => none
  | i, x :: t => if f x then some i else badIndex f (i + 1) t

/-- The first grid node whose BLEND is above 4096 (R169). -/
def badBlend (v : List Nat) : Option (Nat × Nat) :=
  (badIndex (fun x => decide (4096 < x)) 0 ((chunk 4 v.length v).map (fun e => e.getD 3 0))).map (fun i => (0x01, i))

/-- A tap's coefficient table with a phase that does not sum to 4,096 (R194). -/
def badCoef (k : Nat) (v : List Nat) : Option (Nat × Nat) :=
  let sum := fun (l : List Nat) => l.foldl (fun (a : Int) x => a + s16 x) 0
  let phases := chunk 8 64 (v.take 512) ++ chunk 4 64 (v.drop 512)
  if phases.all (fun p => sum p == 4096) then none else some (0x01, k)

/-- Replace element `k` of a list of four. -/
def putFour {α : Type} (k : Nat) (v d : α) (l : List α) : List α := (List.range 4).map (fun i => if i = k then v else l.getD i d)

/-- Whether a table is to be read: the commit enables it or changes its address (R164). -/
def tableWanted (s s' : State) (n : Nat) (on : State → Bool) (lo hi : Fld) : Bool :=
  on s' && (!on s || addrReg s n lo hi != addrReg s' n lo hi)

/-- Read the tables of a stream's commit into its staged slots: `s` holds the values in effect, `s'` the staged ones. -/
def readStreamTables (s s' : State) (n : Nat) : Reading :=
  let none' := fun (_ : List Nat) => (none : Option (Nat × Nat))
  let addr := fun (lo hi : Fld) => addrReg s' n lo hi
  let lo := fun (k : Nat) => Reg.strm_TBL_ADDR_LO_ADDR.at (8 * k)
  let hi := fun (k : Nat) => Reg.strm_TBL_ADDR_HI_ADDR.at (8 * k)
  let r : Reading := (none, (s.strm n).tables, s)
  let r := readTable (s'.flag n Reg.strm_RAW_CFG_SHADE_EN) (addr Reg.strm_SHADE_ADDR_LO_ADDR Reg.strm_SHADE_ADDR_HI_ADDR) 8712 none'
    (fun v t => { t with shade := v }) r
  let r := readTable (tableWanted s s' n (fun s => s.get n Reg.strm_COLOUR_CFG_GRID_MODE == 1) (lo 0) (hi 0)) (addr (lo 0) (hi 0)) 18432
    badBlend (fun v t => { t with grid := v }) r
  let r := readTable (tableWanted s s' n (fun s => s.flag n Reg.strm_COLOUR_CFG_TONE_EN) (lo 1) (hi 1)) (addr (lo 1) (hi 1)) 8192
    none' (fun v t => { t with tone := v.map s16 }) r
  let r := readTable (tableWanted s s' n (fun s => s.flag n Reg.strm_COLOUR_CFG_LOCAL_EN) (lo 2) (hi 2)) (addr (lo 2) (hi 2)) 4608
    none' (fun v t => { t with cells := (chunk 4 v.length v).flatMap (fun e => [s16 (e.getD 0 0), (e.getD 1 0 : Int), s16 (e.getD 2 0)]) }) r
  let r := forEach (List.range 4) (fun k r =>
    let l := Reg.strm_TAP_LUT_LO_ADDR.at (0x40 * k)
    let h := Reg.strm_TAP_LUT_HI_ADDR.at (0x40 * k)
    readTable (tableWanted s s' n (fun s => s.flag n (Reg.strm_TAP_CTRL_EN.at (0x20 * k)) && s.flag n (Reg.strm_TAP_ENC_LUT1D_EN.at (0x40 * k)))
      l h) (addr l h) 6144 none' (fun v t => { t with lut1d := putFour k v [] t.lut1d }) r) r
  forEach (List.range 4) (fun k r =>
    let l := Reg.strm_TAP_COEF_LO_ADDR.at (0x20 * k)
    let h := Reg.strm_TAP_COEF_HI_ADDR.at (0x20 * k)
    readTable (tableWanted s s' n (fun s => s.flag n (Reg.strm_TAP_CTRL_EN.at (0x20 * k)) && s.flag n (Reg.strm_TAP_CTRL_COEF_SRC.at (0x20 * k)))
      l h) (addr l h) 1536 (badCoef k) (fun v t => { t with coef := putFour k (v.map s16) [] t.coef }) r) r

/-- The staged check of a stream's commit; one that passes is evaluated at once while no context load of the stream is to
come: it is out of service, or it leaves service with no frame in progress (R133, R134). -/
def stagedStrm (n : Nat) (t : Time) (s : State) : State :=
  let s' := place (applyGroup .strm n s)
  match checkFields s' n with
  | some (c, d) => commitReject .strm n c d s
  | none =>
    match readStreamTables s s' n with
    | (some (c, d), _, s1) => commitReject .strm n c d s1
    | (none, tables, s1) =>
      if placementFails s' then commitReject .strm n 0x04 0 s1
      else if refusesWork s s' then commitReject .strm n 0x08 0 s1
      else
        let s2 := checkPassed .strm n (s1.setStrm n { s1.strm n with staged := tables })
        let h := s2.hdr .strm n
        if !h.enable ∨ (!h.enableStaged ∧ (firstFrame s2 n).isNone) then evalStrm n t s2 else s2

/-! ### Encoders (R244, R248, R250, R53) -/

/-- Whether a context's picture is beyond what its engine codes (R244). -/
def sizeBad (s : State) (c : Nat) : Bool :=
  let w := cget s c Reg.enc_CTX_GEOM_WIDTH
  let h := cget s c Reg.enc_CTX_GEOM_HEIGHT
  if isAvc s c then ganged s (c / 32) || decide (36864 < ceilDiv w 16 * ceilDiv h 16) || decide (4096 < w)
  else w % 8 != 0 || h % 8 != 0 ||
    (if ganged s (c / 32) then decide (8192 < w) || decide (4352 < h) || decide (35651584 < w * h)
     else decide (8192 < w) || decide (8192 < h) || decide (8912896 < w * h))

/-- The contexts whose reservations share a source buffer with a window: its own, or the pair's. -/
def bufferCtxs (s : State) (e : Nat) : List Nat :=
  if ganged s e then windowCtxs (e / 2 * 2) ++ windowCtxs (e / 2 * 2 + 1) else windowCtxs e

/-- The context with which the reservations of an engine first exceed its buffer (R248). -/
def overReserve (s : State) (lim : Nat) : Nat → List Nat → Option Nat
  | _, [] => none
  | a, c :: t => let a := a + srcReserve s c; if lim < a then some c else overReserve s lim a t

/-- Whether a committed tap that feeds a context of the window breaks its conditions (R250, R535). -/
def fedBadly (s' : State) (c : Nat) : Bool :=
  (List.range 48).any (fun n => (tapsTo s' n 2 c).any (fun k => !feedsWell s' n k c))

/-- The staged check of an encoder window. -/
def checkEnc (s : State) (e : Nat) : Option (Nat × Nat) :=
  let s' := applyGroup .enc e s
  let size := (windowCtxs e).find? (fun c => contextOn s' c && sizeBad s' c)
  let fed := (windowCtxs e).find? (fedBadly s')
  let full := overReserve s' (if ganged s' e then 8388608 else 4194304) 0 (bufferCtxs s' e)
  firstFail [(size.isSome, 0x01, size.getD 0), (full.isSome, 0x04, full.getD 0), (fed.isSome, 0x01, fed.getD 0),
             (refusesWork s s', 0x08, 0)]

/-- Whether a context's staged values differ from those in effect. -/
def ctxDiffers (s : State) (c : Nat) : Bool :=
  (ctxKeys s c).any (fun a =>
    (((Tbl.get (resetAt a) s.regs a).toNat ^^^ (Tbl.get (resetAt a) s.stag a).toNat) &&& rwsMaskAt a) != 0)

/-- The staged check of an encoder's commit: contexts that a tap feeds take it at their next picture, the others at once (R252). -/
def stagedEnc (e : Nat) (s : State) : State :=
  match checkEnc s e with
  | some (c, d) => commitReject .enc e c d (dropCommits e s)
  | none =>
    let s := checkPassed .enc e s
    let todo := (windowCtxs e).filter (ctxDiffers s)
    let waits := fun (s : State) (c : Nat) => (feedingTap s c).isSome && contextOn s c
    let later := todo.filter (waits s)
    let s := forEach (todo.filter (fun c => !later.contains c)) applyCtx s
    encCommitEnd e (forEach later (fun c s => s.setEnc c { s.enc c with commit := true }) s)

/-! ### Heads, clock domains and DDRCs -/

/-- The staged check of a head's commit (R304, R322). -/
def stagedHead (h : Nat) (s : State) : State :=
  let s := readTables h s
  match checkHead s h with
  | some (c, d) => commitReject .head h c d s
  | none => headStaged h (checkPassed .head h s)

/-- The staged check of a clock domain's commit (R408). -/
def stagedTime (d : Nat) (s : State) : State :=
  if rateStagedOk s d then checkPassed .time d s else commitReject .time d 0x01 0 s

/-- The staged check of a DDRC's commit, which is applied at once while it is off or training (R442). -/
def stagedDdrc (c : Nat) (s : State) : State :=
  let s := checkPassed .ddrc c s
  if s.stateOf .ddrc c ≤ 1 then applyDdrc c s else s

/-- The staged check of a page's pending commit that has not been checked. -/
def stagedCheck (b : Block) (n : Nat) (t : Time) (s : State) : State :=
  let h := s.hdr b n
  if blkCount b ≤ n ∨ !blkCommits b ∨ !h.pendingCommit ∨ h.checked then s
  else match b with
    | .camp => stagedPort n t s
    | .cams => stagedPort (40 + n) t s
    | .strm => stagedStrm n t s
    | .enc => stagedEnc n s
    | .head => stagedHead n s
    | .time => stagedTime n s
    | .ddrc => stagedDdrc n s
    | _ => s

/-- STAGED_CHECK (R34). -/
def execStagedCheck (b : Block) (n t : Nat) (s : State) : Host.Outcome State Fault Refusal :=
  .next (busStep t (stagedCheck b n t) s)

end Sys2Proof.Machine
end

