-- ==== Sys2Proof/Machine/Dispatch.lean ====
section
/-! DEFINITION. The dispatch of a command to its meaning: one arm for each row of the table. -/

namespace Sys2Proof.Machine

def exec (i : Instr) (s : State) : Host.Outcome State Fault Refusal :=
  match i with
  | .registerWrite o a data be demand t => Sys2Proof.Machine.execRegisterWrite o a data be demand t s
  | .errorCodeClear o p code t => Sys2Proof.Machine.execErrorCodeClear o p code t s
  | .eventPendingClear o p bits t => Sys2Proof.Machine.execEventPendingClear o p bits t s
  | .eventEnableWrite o p bits t => Sys2Proof.Machine.execEventEnableWrite o p bits t s
  | .msixUnmask p vec t => Sys2Proof.Machine.execMsixUnmask p vec t s
  | .leaseWrite o p owner hold t => Sys2Proof.Machine.execLeaseWrite o p owner hold t s
  | .leaseLapsed b n t => Sys2Proof.Machine.execLeaseLapsed b n t s
  | .commit o p t => Sys2Proof.Machine.execCommit o p t s
  | .abort o p t => Sys2Proof.Machine.execAbort o p t s
  | .stagedCheck b n t => Sys2Proof.Machine.execStagedCheck b n t s
  | .softReset o p enable freeze t => Sys2Proof.Machine.execSoftReset o p enable freeze t s
  | .pageEnableWrite o p enable freeze t => Sys2Proof.Machine.execPageEnableWrite o p enable freeze t s
  | .pageFreeze o p freeze enable t => Sys2Proof.Machine.execPageFreeze o p freeze enable t s
  | .rightsWrite o p rights t => Sys2Proof.Machine.execRightsWrite o p rights t s
  | .modeRequest o mode t => Sys2Proof.Machine.execModeRequest o mode t s
  | .rampDone t => Sys2Proof.Machine.execRampDone t s
  | .paceIntervalEnd paces loads t => Sys2Proof.Machine.execPaceIntervalEnd paces loads t s
  | .restoreStep t => Sys2Proof.Machine.execRestoreStep t s
  | .frameStart p e csi cut t => Sys2Proof.Machine.execFrameStart p e csi cut t s
  | .lineReceived p e data bad minPs t0 toDram queued t => Sys2Proof.Machine.execLineReceived p e data bad minPs t0 toDram queued t s
  | .pclkGlitch p ps t => Sys2Proof.Machine.execPclkGlitch p ps t s
  | .frameEnd p e cut t => Sys2Proof.Machine.execFrameEnd p e cut t s
  | .lineTimeout p e cut t => Sys2Proof.Machine.execLineTimeout p e cut t s
  | .frameClose p e t => Sys2Proof.Machine.execFrameClose p e t s
  | .noFrame p e t => Sys2Proof.Machine.execNoFrame p e t s
  | .hdrMissing p e t => Sys2Proof.Machine.execHdrMissing p e t s
  | .embeddedData n vc dt payload t => Sys2Proof.Machine.execEmbeddedData n vc dt payload t s
  | .packetError n kind t => Sys2Proof.Machine.execPacketError n kind t s
  | .phyError n sot t => Sys2Proof.Machine.execPhyError n sot t s
  | .cctlEnable o n t => Sys2Proof.Machine.execCctlEnable o n t s
  | .initDone n t => Sys2Proof.Machine.execInitDone n t s
  | .cctlDisable o n t => Sys2Proof.Machine.execCctlDisable o n t s
  | .stopSequenceDone n t => Sys2Proof.Machine.execStopSequenceDone n t s
  | .busTransactionEnd n result data t => Sys2Proof.Machine.execBusTransactionEnd n result data t s
  | .cmdPush o n tag mask t => Sys2Proof.Machine.execCmdPush o n tag mask t s
  | .writeWindow n t => Sys2Proof.Machine.execWriteWindow n t s
  | .safeEnd n t => Sys2Proof.Machine.execSafeEnd n t s
  | .resultPop o n t => Sys2Proof.Machine.execResultPop o n t s
  | .xferStart o n len sub dir t => Sys2Proof.Machine.execXferStart o n len sub dir t s
  | .xferDone n bytes t => Sys2Proof.Machine.execXferDone n bytes t s
  | .trigFire o n t => Sys2Proof.Machine.execTrigFire o n t s
  | .fsyncEdge k t => Sys2Proof.Machine.execFsyncEdge k t s
  | .fsyncPulseEnd k t => Sys2Proof.Machine.execFsyncPulseEnd k t s
  | .trigRise n t => Sys2Proof.Machine.execTrigRise n t s
  | .trigPulseEnd n t => Sys2Proof.Machine.execTrigPulseEnd n t s
  | .strobePulse n t0 t => Sys2Proof.Machine.execStrobePulse n t0 t s
  | .swapDone b t => Sys2Proof.Machine.execSwapDone b t s
  | .benchRowDone b backlog t => Sys2Proof.Machine.execBenchRowDone b backlog t s
  | .class0RowTake b t => Sys2Proof.Machine.execClass0RowTake b t s
  | .stripeComplete b fill work t => Sys2Proof.Machine.execStripeComplete b fill work t s
  | .deadlineExpired n t => Sys2Proof.Machine.execDeadlineExpired n t s
  | .stagedRowRead b k r t => Sys2Proof.Machine.execStagedRowRead b k r t s
  | .gridReady n t => Sys2Proof.Machine.execGridReady n t s
  | .lutLoad o slot t => Sys2Proof.Machine.execLutLoad o slot t s
  | .lutLoadEnd t => Sys2Proof.Machine.execLutLoadEnd t s
  | .partitionWrite o large t => Sys2Proof.Machine.execPartitionWrite o large t s
  | .tapBufferComplete n k t => Sys2Proof.Machine.execTapBufferComplete n k t s
  | .pinFailsafe p t => Sys2Proof.Machine.execPinFailsafe p t s
  | .statsReady n t => Sys2Proof.Machine.execStatsReady n t s
  | .segReady k t => Sys2Proof.Machine.execSegReady k t s
  | .jobSubmit o k index t => Sys2Proof.Machine.execJobSubmit o k index t s
  | .pixelEncodeJob k t => Sys2Proof.Machine.execPixelEncodeJob k t s
  | .pixelDecodeJob k t => Sys2Proof.Machine.execPixelDecodeJob k t s
  | .byteCompressJob k t => Sys2Proof.Machine.execByteCompressJob k t s
  | .byteDecompressJob k t => Sys2Proof.Machine.execByteDecompressJob k t s
  | .ctuRowDone c side ctus data t => Sys2Proof.Machine.execCtuRowDone c side ctus data t s
  | .encOutRdWrite o c off t => Sys2Proof.Machine.execEncOutRdWrite o c off t s
  | .stallTimeout c t => Sys2Proof.Machine.execStallTimeout c t s
  | .gangWrite o e gang t => Sys2Proof.Machine.execGangWrite o e gang t s
  | .decCtxEnable o c t => Sys2Proof.Machine.execDecCtxEnable o c t s
  | .decCtxDisable o c t => Sys2Proof.Machine.execDecCtxDisable o c t s
  | .decInWrWrite o c off t => Sys2Proof.Machine.execDecInWrWrite o c off t s
  | .decSliceStart c h t => Sys2Proof.Machine.execDecSliceStart c h t s
  | .decSliceDone c n bad ctus reads t => Sys2Proof.Machine.execDecSliceDone c n bad ctus reads t s
  | .pliRetry c t => Sys2Proof.Machine.execPliRetry c t s
  | .vblank h t => Sys2Proof.Machine.execVblank h t s
  | .rasterLineStart h line late fill t => Sys2Proof.Machine.execRasterLineStart h line late fill t s
  | .bpoolAlloc o list t => Sys2Proof.Machine.execBpoolAlloc o list t s
  | .bpoolComplete o desc t => Sys2Proof.Machine.execBpoolComplete o desc t s
  | .bpoolRelease o desc t => Sys2Proof.Machine.execBpoolRelease o desc t s
  | .bpoolWrite o desc t => Sys2Proof.Machine.execBpoolWrite o desc t s
  | .bpoolRead o desc t => Sys2Proof.Machine.execBpoolRead o desc t s
  | .headFrameStart h t => Sys2Proof.Machine.execHeadFrameStart h t s
  | .refTarget h t => Sys2Proof.Machine.execRefTarget h t s
  | .refLost h t => Sys2Proof.Machine.execRefLost h t s
  | .dpoEnable o p t => Sys2Proof.Machine.execDpoEnable o p t s
  | .dpoDisable o p t => Sys2Proof.Machine.execDpoDisable o p t s
  | .hpdPlug p t => Sys2Proof.Machine.execHpdPlug p t s
  | .hpdUnplug p t => Sys2Proof.Machine.execHpdUnplug p t s
  | .hpdIrq p lost t => Sys2Proof.Machine.execHpdIrq p lost t s
  | .capReadDone p ok rate lanes t => Sys2Proof.Machine.execCapReadDone p ok rate lanes t s
  | .trainAttemptEnd p ok t => Sys2Proof.Machine.execTrainAttemptEnd p ok t s
  | .idlePatternEnd p t => Sys2Proof.Machine.execIdlePatternEnd p t s
  | .linkRetry p t => Sys2Proof.Machine.execLinkRetry p t s
  | .auxStart o p op len addr t => Sys2Proof.Machine.execAuxStart o p op len addr t s
  | .auxRun p t => Sys2Proof.Machine.execAuxRun p t s
  | .auxDone p result data t => Sys2Proof.Machine.execAuxDone p result data t s
  | .chkCfgWrite o u cfg t => Sys2Proof.Machine.execChkCfgWrite o u cfg t s
  | .netLinkDown n t => Sys2Proof.Machine.execNetLinkDown n t s
  | .netLinkUp n t => Sys2Proof.Machine.execNetLinkUp n t s
  | .pktRecordIngest raw k t => Sys2Proof.Machine.execPktRecordIngest raw k t s
  | .pktSend n t => Sys2Proof.Machine.execPktSend n t s
  | .flowPacket n fcs frame t => Sys2Proof.Machine.execFlowPacket n fcs frame t s
  | .flowLoss f t => Sys2Proof.Machine.execFlowLoss f t s
  | .exceptionRx n fcs frame t => Sys2Proof.Machine.execExceptionRx n fcs frame t s
  | .excTxSubmit o index t => Sys2Proof.Machine.execExcTxSubmit o index t s
  | .senderReport t => Sys2Proof.Machine.execSenderReport t s
  | .sessionEnable o n cfg t => Sys2Proof.Machine.execSessionEnable o n cfg t s
  | .cmdEcho n fcs frame t => Sys2Proof.Machine.execCmdEcho n fcs frame t s
  | .cmdRead n fcs frame t => Sys2Proof.Machine.execCmdRead n fcs frame t s
  | .cmdWrite n fcs frame demand t => Sys2Proof.Machine.execCmdWrite n fcs frame demand t s
  | .cmdRefused n fcs frame t => Sys2Proof.Machine.execCmdRefused n fcs frame t s
  | .measurementInterval d t => Sys2Proof.Machine.execMeasurementInterval d t s
  | .holdEnd d t => Sys2Proof.Machine.execHoldEnd d t s
  | .slewDone d t => Sys2Proof.Machine.execSlewDone d t s
  | .timeStep o d t => Sys2Proof.Machine.execTimeStep o d t s
  | .timeAccept o d t => Sys2Proof.Machine.execTimeAccept o d t s
  | .timeSnap o d t => Sys2Proof.Machine.execTimeSnap o d t s
  | .ptpRx n fcs frame t => Sys2Proof.Machine.execPtpRx n fcs frame t s
  | .ptpTxSubmit o d index t => Sys2Proof.Machine.execPtpTxSubmit o d index t s
  | .ptpTxDepart d t => Sys2Proof.Machine.execPtpTxDepart d t s
  | .ppsIn t => Sys2Proof.Machine.execPpsIn t s
  | .ppsOutEdge t => Sys2Proof.Machine.execPpsOutEdge t s
  | .ppsOutEnd t => Sys2Proof.Machine.execPpsOutEnd t s
  | .audEnable o n t => Sys2Proof.Machine.execAudEnable o n t s
  | .audDisable o n t => Sys2Proof.Machine.execAudDisable o n t s
  | .audArm o n t => Sys2Proof.Machine.execAudArm o n t s
  | .audStop o n t => Sys2Proof.Machine.execAudStop o n t s
  | .startGo o dom mask t => Sys2Proof.Machine.execStartGo o dom mask t s
  | .silentStart n t => Sys2Proof.Machine.execSilentStart n t s
  | .startFired port t => Sys2Proof.Machine.execStartFired port t s
  | .stopComplete n t => Sys2Proof.Machine.execStopComplete n t s
  | .blockReady n start frames t => Sys2Proof.Machine.execBlockReady n start frames t s
  | .outputBlock n pos t => Sys2Proof.Machine.execOutputBlock n pos t s
  | .holdLimit n t => Sys2Proof.Machine.execHoldLimit n t s
  | .clockLost n pos t => Sys2Proof.Machine.execClockLost n pos t s
  | .clockBack n t => Sys2Proof.Machine.execClockBack n t s
  | .audRateMeasure n rate t => Sys2Proof.Machine.execAudRateMeasure n rate t s
  | .ddrcTrainingDone sub ok t => Sys2Proof.Machine.execDdrcTrainingDone sub ok t s
  | .trackTick sub beyond demand t => Sys2Proof.Machine.execTrackTick sub beyond demand t s
  | .mr4Poll sub hot t => Sys2Proof.Machine.execMr4Poll sub hot t s
  | .refresh sub t => Sys2Proof.Machine.execRefresh sub t s
  | .scrubLine spare line flips t => Sys2Proof.Machine.execScrubLine spare line flips t s
  | .dramReadDone who line src flips t => Sys2Proof.Machine.execDramReadDone who line src flips t s
  | .diagnosisDone sub wrong t => Sys2Proof.Machine.execDiagnosisDone sub wrong t s
  | .freqGo o target demand t => Sys2Proof.Machine.execFreqGo o target demand t s
  | .freqMarginMet t => Sys2Proof.Machine.execFreqMarginMet t s
  | .freqTimeout t => Sys2Proof.Machine.execFreqTimeout t s
  | .freqAbort t => Sys2Proof.Machine.execFreqAbort t s
  | .freqChangeDone ok failed demand t => Sys2Proof.Machine.execFreqChangeDone ok failed demand t s
  | .relineGo o src t => Sys2Proof.Machine.execRelineGo o src t s
  | .relineSegmentDone bad t => Sys2Proof.Machine.execRelineSegmentDone bad t s
  | .hostLinkDown p t => Sys2Proof.Machine.execHostLinkDown p t s
  | .hostLinkUp p gen width flit t => Sys2Proof.Machine.execHostLinkUp p gen width flit t s
  | .flr p t => Sys2Proof.Machine.execFlr p t s
  | .msixEnable p t => Sys2Proof.Machine.execMsixEnable p t s
  | .bar2Read p o n t => Sys2Proof.Machine.execBar2Read p o n t s
  | .bar2Write p o data ep t => Sys2Proof.Machine.execBar2Write p o data ep t s
  | .thimbleAcquire o k hold t => Sys2Proof.Machine.execThimbleAcquire o k hold t s
  | .thimbleRelease o k t => Sys2Proof.Machine.execThimbleRelease o k t s
  | .thimbleLapsed k t => Sys2Proof.Machine.execThimbleLapsed k t s
  | .dmaRingEnable o p r t => Sys2Proof.Machine.execDmaRingEnable o p r t s
  | .dmaRingDisable o p r t => Sys2Proof.Machine.execDmaRingDisable o p r t s
  | .dmaSubmit o p r index t => Sys2Proof.Machine.execDmaSubmit o p r index t s
  | .dmaHostToDram p r desc data lost t => Sys2Proof.Machine.execDmaHostToDram p r desc data lost t s
  | .dmaDramToHost p r desc t => Sys2Proof.Machine.execDmaDramToHost p r desc t s
  | .dmaDramToDram p r desc t => Sys2Proof.Machine.execDmaDramToDram p r desc t s
  | .dmaRegisterWrite p r desc demand t => Sys2Proof.Machine.execDmaRegisterWrite p r desc demand t s
  | .dmaResume o p r t => Sys2Proof.Machine.execDmaResume o p r t s
  | .dmaSkip o p r t => Sys2Proof.Machine.execDmaSkip o p r t s
  | .load t => Sys2Proof.Machine.execLoad t s
  | .update t => Sys2Proof.Machine.execUpdate t s
  | .activate t => Sys2Proof.Machine.execActivate t s
  | .confirm t => Sys2Proof.Machine.execConfirm t s
  | .advance t => Sys2Proof.Machine.execAdvance t s
  | .attest t => Sys2Proof.Machine.execAttest t s
  | .identity t => Sys2Proof.Machine.execIdentity t s
  | .debugChallenge t => Sys2Proof.Machine.execDebugChallenge t s
  | .debugUnlock t => Sys2Proof.Machine.execDebugUnlock t s
  | .enroll t => Sys2Proof.Machine.execEnroll t s
  | .handoverQuiesced o t => Sys2Proof.Machine.execHandoverQuiesced o t s
  | .quiesceTimeout t => Sys2Proof.Machine.execQuiesceTimeout t s
  | .handoverDone o t => Sys2Proof.Machine.execHandoverDone o t s
  | .encoderHoldEnd t => Sys2Proof.Machine.execEncoderHoldEnd t s
  | .handoverTimeout t => Sys2Proof.Machine.execHandoverTimeout t s
  | .recoveryImage image t => Sys2Proof.Machine.execRecoveryImage image t s
  | .powerOnReset t => Sys2Proof.Machine.execPowerOnReset t s
  | .resetNAssert t => Sys2Proof.Machine.execResetNAssert t s
  | .resetNRelease t => Sys2Proof.Machine.execResetNRelease t s
  | .warm o t => Sys2Proof.Machine.execWarm o t s
  | .mgmtResetEnd t => Sys2Proof.Machine.execMgmtResetEnd t s
  | .heartbeat o seq t => Sys2Proof.Machine.execHeartbeat o seq t s
  | .hbMiss t => Sys2Proof.Machine.execHbMiss t s
  | .firstHeartbeatTimeout t => Sys2Proof.Machine.execFirstHeartbeatTimeout t s
  | .release o t => Sys2Proof.Machine.execRelease o t s
  | .safeviewRequest t => Sys2Proof.Machine.execSafeviewRequest t s
  | .safeviewReqRelease t => Sys2Proof.Machine.execSafeviewReqRelease t s
  | .thermalSample temps t => Sys2Proof.Machine.execThermalSample temps t s
  | .svbIdleEnd rate lanes t => Sys2Proof.Machine.execSvbIdleEnd rate lanes t s
  | .svbTrainAttemptEnd ok t => Sys2Proof.Machine.execSvbTrainAttemptEnd ok t s
  | .svbRetry rate lanes t => Sys2Proof.Machine.execSvbRetry rate lanes t s
  | .svbSourceRow q y rows first t => Sys2Proof.Machine.execSvbSourceRow q y rows first t s
  | .quadStale q t => Sys2Proof.Machine.execQuadStale q t s
  | .ulpsEntryExit n ulps hs stop t => Sys2Proof.Machine.execUlpsEntryExit n ulps hs stop t s
  | .deskewSequence n t => Sys2Proof.Machine.execDeskewSequence n t s
  | .sequenceDelayEnd n t => Sys2Proof.Machine.execSequenceDelayEnd n t s
  | .packetEligible n t => Sys2Proof.Machine.execPacketEligible n t s
  | .flrEnd p t => Sys2Proof.Machine.execFlrEnd p t s
  | .resizableBarWrite p k t => Sys2Proof.Machine.execResizableBarWrite p k t s

end Sys2Proof.Machine
end

