-- ==== Sys2Proof/Safety.lean ====
section
/-! DEFINITION. What a sound state and a safe step are, in the terms the statements use. -/

namespace Sys2Proof.Machine

/-- A table of registers is canonical: addresses strictly rising, and no entry equal to its register's reset value. -/
def regsOk (t : Tbl Word) : Prop := Tbl.sorted t = true ∧ ∀ e ∈ t, e.2 ≠ resetAt e.1

/-- A page header is sound: the host fields of RIGHTS agree (R456), a pending commit shows OUTCOME 1 or 3 (R34), ERR_LOST
is 1 only while an error is held (R30), and the lease is free or held by an origin code (R27, R31). -/
structure HdrOk (h : Header) : Prop where
  hosts : bitsOf h.rights 4 4 = bitsOf h.rights 8 4
  outcome : h.pendingCommit = true → h.outcome = 1 ∨ h.outcome = 3
  lost : h.errLost = true → h.errCode ≠ 0
  owner : h.owner ≤ 6

/-- The headers of the pages are sound, and their table has its keys strictly rising. -/
def hdrsOk (t : Tbl Header) : Prop := Tbl.sorted t = true ∧ ∀ e ∈ t, HdrOk e.2

/-- The other tables are canonical: keys strictly rising, no entry equal to what an unlisted key reads as; the Thimbles whose
timer runs are listed in rising order. -/
structure TablesOk (asms : Tbl Asm) (strms : Tbl Strm) (benches : Tbl Bench) (lutSlots : Tbl (List Nat))
    (profiles : Tbl Profile) (ctls : Tbl Ctl) (directs : Tbl (List DirectFrame)) (zraws : Tbl Zraw)
    (stageIdx : Tbl Nat) (encs : Tbl EncCtx) (decs : Tbl DecCtx) (lays : Tbl Lay) (heads : Tbl Head)
    (dpos : Tbl Dpo) (chks : Tbl ChkUnit) (nets : Tbl NetPort) (sess : Tbl Sess) (flows : Tbl Flow)
    (clocks : Tbl Clock) (doms : Tbl TimeDom) (auds : Tbl Aud) (ports : Tbl HostPort) (pool : Bpool)
    (thmTimers : List Nat) : Prop where
  asms : Tbl.wf Asm.reset asms = true
  strms : Tbl.wf Strm.reset strms = true
  benches : Tbl.wf Bench.reset benches = true
  lutSlots : Tbl.wf [] lutSlots = true
  profiles : Tbl.wf Profile.empty profiles = true
  ctls : Tbl.wf Ctl.reset ctls = true
  directs : Tbl.wf [] directs = true
  zraws : Tbl.wf Zraw.reset zraws = true
  stageIdx : Tbl.wf 0 stageIdx = true
  encs : Tbl.wf EncCtx.reset encs = true
  decs : Tbl.wf DecCtx.reset decs = true
  lays : Tbl.wf Lay.reset lays = true
  heads : Tbl.wf Head.reset heads = true
  dpos : Tbl.wf Dpo.reset dpos = true
  chks : Tbl.wf ChkUnit.reset chks = true
  nets : Tbl.wf NetPort.reset nets = true
  sess : Tbl.wf Sess.reset sess = true
  flows : Tbl.wf Flow.reset flows = true
  clocks : Tbl.wf Clock.reset clocks = true
  doms : Tbl.wf TimeDom.reset doms = true
  auds : Tbl.wf Aud.reset auds = true
  ports : Tbl.wf HostPort.reset ports = true
  bufs : Tbl.wf Buf.reset pool.bufs = true
  lists : Tbl.wf [] pool.lists = true
  timers : thmTimers.Pairwise (fun a b => a < b)

/-- A sound state: DRAM and both copies of the registers are canonical, every page header is sound,
and every other table is canonical. -/
structure Inv (s : State) : Prop where
  dram : Memory.wf s.dram = true
  regs : regsOk s.regs
  stag : regsOk s.stag
  hdrs : hdrsOk s.hdrs
  tables : TablesOk s.asms s.strms s.benches s.lutSlots s.profiles s.ctls s.directs s.zraws s.stageIdx s.encs s.decs s.lays
    s.heads s.dpos s.chks s.nets s.sess s.flows s.clocks s.doms s.auds s.ports s.pool s.thmTimers

/-- A step is safe when it answers a next state: no command of this block faults or is refused. -/
def Safe (s : State) : Prop := ∃ t, step s = .next t

/-! ### Words the statements use -/

/-- A page of an instance that exists. -/
abbrev PageOk (p : Page) : Prop := p.inst < blkCount p.blk ∧ p.pg < blkPages p.blk

/-- The window offset of a register of a page. -/
def pageOff (p : Page) (off : Nat) : Nat := 0x1000 * p.pg + off

/-- The state in which a write that reaches an instance finds the part: TIMEL has advanced, and a lease timer of the writer's
has stopped (R32). -/
def onBus (o : Origin) (b : Block) (n t : Nat) (s : State) : State := ownerWrote o.code b n (s.at t)

/-- What every access ends with: heads, the display path and the memory system take up what it changed. -/
def after (s x : State) : State := headsFollow s (memFollow s x)

/-- An event has been recorded on a page (R37). -/
def hasEvent (s : State) (b : Block) (n e : Nat) : Prop := getBit (s.hdr b n).raw.toNat e = true

/-- Only the registers of some blocks may differ between two states, in either copy. -/
def onlyRegs (l : List Block) (s u : State) : Prop :=
  ∀ b n off, b ∉ l → n < blkCount b → off < blkPages b * 0x1000 →
    u.word b n off = s.word b n off ∧ u.wordS b n off = s.wordS b n off

/-- Only the headers of pages of some blocks may differ between two states. -/
def onlyHdrs (l : List Block) (s u : State) : Prop := ∀ b n, b ∉ l → n < blkCount b → u.hdr b n = s.hdr b n

/-- A state with the pages of another. -/
def pagesOf (u s : State) : State := { s with regs := u.regs, stag := u.stag, hdrs := u.hdrs }

/-- DRAM and its poisoned lines are as before. -/
def keepsDram (s u : State) : Prop := u.dram = s.dram ∧ u.poison = s.poison

end Sys2Proof.Machine
end

