-- ==== Sys2Proof/Certificates/Slice0/Obligations.lean ====
section
/-! DEFINITION. The statements for the provers, by the chapters of the spec. -/

open Sys2Proof Sys2Proof.Machine

/-! ### The block as a whole (chapter 1) -/

/-- A step takes the command at the front of the queue and is its effect on the state with the rest; with an empty queue the
block idles (the model's choice, log entry 1). -/
def Obligations.StepRunsFront : Prop :=
  (∀ (c : Instr) (rest : List Instr) (s : State), step { s with pending := c :: rest } = exec c { s with pending := rest }) ∧
  (∀ s : State, s.pending = [] → step s = .next s)

/-- Every command ends in a next state and leaves the queue alone, so every step answers. -/
def Obligations.EveryStepAnswers : Prop :=
  (∀ (c : Instr) (s : State), ∃ u, exec c s = .next u ∧ u.pending = s.pending) ∧
  (∀ s : State, Safe s ∧ ∀ u, step s = .next u → u.pending = s.pending.tail)

/-- The state after reset is sound. -/
def Obligations.ResetIsSound : Prop :=
 Inv State.reset

/-- What reset leaves: every register of every page and both copies of it at the value its table gives, every header as R24
gives it, no command waiting (the model's own queue, log entry 1), and nothing listed in DRAM (log entry 2). -/
def Obligations.ResetLeaves : Prop :=
  (∀ (b : Block) (n off : Nat), State.reset.word b n off = resetWord b n off ∧ State.reset.wordS b n off = resetWord b n off) ∧
  (∀ (b : Block) (n : Nat), State.reset.hdr b n = Header.reset) ∧
  (∀ (o : Origin) (b : Block) (n pg : Nat), n < blkCount b → pg < blkPages b →
    let at' := fun off => readReg State.reset o (addrOf b n (0x1000 * pg + off))
    at' 0 = pageIdWord b n ∧
    (o.code ≠ 5 → ∀ off, 0 < off → off < 0x1000 → at' off = 0) ∧
    (o = .keeper → at' 0x04 = 0 ∧ at' 0x0C = 0 ∧ at' 0x10 = 0 ∧ at' 0x14 = 0 ∧ at' 0x18 = 4 ∧ at' 0x1C = 0 ∧ at' 0x20 = 0 ∧
      at' 0x24 = 0 ∧ at' 0x28 = 0 ∧ at' 0x2C = 0 ∧ at' 0x30 = 0x00700000)) ∧
  State.reset.pending = [] ∧ State.reset.dram = []

/-- Every step keeps a sound state sound: DRAM and both register copies stay canonical, the headers' fields agree, and every
table keeps its form. -/
def Obligations.StepsKeepInv : Prop :=
 ∀ s u : State, Inv s → step s = .next u → Inv u

/-- What an access ends with, the heads and the memory system taking up what changed, touches only the pages and parts
named. -/
def Obligations.AccessesSettle : Prop :=
  ∀ s x : State,
    onlyRegs [.pace, .bpool, .head, .layer, .dpo, .chk, .memx, .sup, .svb] x (after s x) ∧
    onlyHdrs [.bpool, .head, .layer, .dpo, .chk, .sup, .svb] x (after s x) ∧
    (let u := after s x
     u = { pagesOf u x with sent := u.sent, directs := u.directs, pool := u.pool, lays := u.lays, heads := u.heads,
                            dpos := u.dpos, ports := u.ports, sec := u.sec, pins := u.pins, sup := u.sup })

/-! ### Register pages (chapter 2) -/

/-- R23: a write of whole registers takes effect on each, in ascending order; one that covers a register only in part has no
effect on it and sets error 0x01 on its page. What a clause takes from a reading of the model's is in log entry 12. -/
def Obligations.AccessesInOrder : Prop :=
  (∀ (o : Origin) (a : Nat) (ws : List Word) (d t : Nat) (s : State), a % 4 = 0 →
    exec (.registerWrite o a (ws.flatMap fun v => bytesLE 4 v.toNat) [] d t) s =
      .next (after s (ws.zipIdx.foldl (fun r x => writeReg o d (a + 4 * x.2) x.1 r) (s.at t)))) ∧
  (∀ (o : Origin) (b : Block) (n off k : Nat) (data : List Byte) (d t : Nat) (s : State), Inv s → n < blkCount b →
    off < blkPages b * 0x1000 → off % 4 = 0 → isRegister b off = true → 0 < data.length → k + data.length < 4 →
    exec (.registerWrite o (addrOf b n off + k) data [] d t) s =
      .next (after s (logAccess b n 0x01 o.code off 0 (onBus o b n t s))))

/-- R28: the checks of a write to a register, in their order; a write that fails one has no effect but its error. What a
clause takes from a reading of the model's is in log entry 11. -/
def Obligations.WriteChecksInOrder : Prop :=
  ∀ (o : Origin) (b : Block) (n off : Nat) (v : Word) (d t : Nat) (s : State), Inv s → n < blkCount b →
    off < blkPages b * 0x1000 → off % 4 = 0 → isRegister b off = true → o ≠ .ap →
    let c := Instr.registerWrite o (addrOf b n off) (bytesLE 4 v.toNat) [] d t
    let x := onBus o b n t s
    let h := s.hdr b n
    let fails := fun code => exec c s = .next (after s (logAccess b n code o.code off 0 x))
    let right := if off % 0x1000 = 0x1C then 2 else 1
    let leased := h.owner ≠ 0 ∧ h.owner ≠ o.code ∧ o ≠ .keeper
    (mayDo h o.code right = false → fails 0x03) ∧
    (mayDo h o.code right = true → leased → fails 0x02) ∧
    (mayDo h o.code right = true → ¬leased → h.lapsed = o.code →
      exec c s = .next (after s (logAccess b n 0x15 o.code off 0 (x.setHdr b n { x.hdr b n with lapsed := 0 })))) ∧
    (mayDo h o.code right = true → ¬leased → h.lapsed ≠ o.code → off % 0x1000 = 0x1C → getBit v.toNat 0 = true →
      getBit v.toNat 1 = false → h.pendingCommit = true → fails 0x10) ∧
    (∀ row ix, inHeader off = false → findRow off (regRows b) = some (row, ix) → mayDo h o.code right = true → ¬leased →
      h.lapsed ≠ o.code →
      (rowMask row (fun a => a == .rws) ≠ 0 →
        (s.hdr (commitOwner b n).1 (commitOwner b n).2).pendingCommit = true → fails 0x10) ∧
      ((rowMask row (fun a => a == .rws) = 0 ∨ (s.hdr (commitOwner b n).1 (commitOwner b n).2).pendingCommit = false) →
        stateBlocks x o b n off v = false → rowInRange row v = false → fails 0x01))

/-- R29: an origin without the read right reads zero everywhere on a page but at PAGE_ID; a lease refuses no read. -/
def Obligations.ReadsNeedTheRight : Prop :=
  ∀ (s : State) (o : Origin) (b : Block) (n off : Nat), Inv s → n < blkCount b → off < blkPages b * 0x1000 →
    (off % 0x1000 ≠ 0 → mayDo (s.hdr b n) o.code 0 = false → readReg s o (addrOf b n off) = 0) ∧
    (off % 0x1000 = 0 → readReg s o (addrOf b n off) = pageIdWord b n) ∧
    (off % 0x1000 ≠ 0x24 → ∀ w, readReg (s.setHdr b n { s.hdr b n with owner := w }) o (addrOf b n off) =
      readReg s o (addrOf b n off))

/-- R9: reserved offsets and reserved bits read zero, and a write of a reserved offset has no effect and raises no error. -/
def Obligations.ReservedReadsZero : Prop :=
  (∀ (s : State) (o : Origin) (d a : Nat) (v : Word), locate a = none → readReg s o a = 0 ∧ writeReg o d a v s = s) ∧
  (∀ (s : State) (o : Origin) (d : Nat) (b : Block) (n off : Nat) (v : Word), n < blkCount b → off < blkPages b * 0x1000 →
    isRegister b off = false → readReg s o (addrOf b n off) = 0 ∧ writeReg o d (addrOf b n off) v s = s) ∧
  (∀ (s : State) (o : Origin) (b : Block) (n off : Nat) (row : RegRow) (ix : List Nat) (i : Nat), n < blkCount b →
    off < blkPages b * 0x1000 → inHeader off = false → findRow off (regRows b) = some (row, ix) → i < 32 →
    ¬(b = .bpool ∧ 0x44 ≤ off ∧ off ≤ 0x60) → ¬(b = .sec ∧ 0x54 ≤ off ∧ off ≤ 0x60) →
    (∀ f ∈ row.fields, ¬(f.lo ≤ i ∧ i ≤ f.hi)) → (readReg s o (addrOf b n off)).getLsbD i = false)

/-- R25, R30, R37: what a granted write of ERROR_CODE, EVENT_PENDING, EVENT_ENABLE and of the MSI-X table does. R37: an
event that makes EVENT_PENDING leave zero sends one message on VECTOR for each host port that EVENT_ROUTE names, and one
notice to the keeper; an event that does not, sends nothing. What a clause takes from a reading of the model's is in log
entry 15. -/
def Obligations.EventsNotify : Prop :=
  (∀ (o : Origin) (p : Page) (t : Nat) (s : State), Inv s → PageOk p →
     let b := p.blk
     let n := p.inst
     let x := onBus o b n t s
     let h := x.hdr b n
     (∀ code : Fin 256, accessCode s o b n (pageOff p 0x28) 1 = 0 →
       exec (.errorCodeClear o p code t) s =
         .next (after s (if code.val = h.errCode then
           x.setHdr b n { h with errCode := 0, errLost := false, errPage := 0 } else x))) ∧
     (∀ bits : Word, accessCode s o b n (pageOff p 0x14) 1 = 0 →
       exec (.eventPendingClear o p bits t) s =
         .next (after s (let y := x.setHdr b n { h with raw := h.raw &&& ~~~bits }
           if h.raw &&& ~~~bits &&& h.evEnable = 0 then y else notify b n y))) ∧
     (∀ bits : Word, accessCode s o b n (pageOff p 0x10) 1 = 0 →
       exec (.eventEnableWrite o p bits t) s =
         .next (after s (let y := x.setHdr b n { h with evEnable := bits }
           if h.raw &&& h.evEnable = 0 ∧ h.raw &&& bits ≠ 0 then notify b n y else y)))) ∧
  (∀ (b : Block) (n e : Nat) (s : State), n < blkCount b → e < 32 → Inv s →
     let h := s.hdr b n
     let vec := bitsOf h.route 16 10
     let ready := fun p => s.get p Reg.host_LINK_STATUS_UP = 1 ∧ (s.port p).msixOn = true ∧ (s.port p).unmasked.contains vec = true
     let r := h.raw ||| BitVec.ofNat 32 (2 ^ e)
     ((raise b n e s).hdr b n).raw = r ∧
     ((h.raw &&& h.evEnable ≠ 0 ∨ r &&& h.evEnable = 0) → (raise b n e s).sent = s.sent) ∧
     (h.raw &&& h.evEnable = 0 → r &&& h.evEnable ≠ 0 → s.sup.mgmtReset = false → ready 0 → ready 1 →
       (raise b n e s).sent = (if getBit h.route.toNat 2 then [Emit.keeperNotice (pageKey b n)] else []) ++
         ((if getBit h.route.toNat 1 then [Emit.msix 1 vec] else []) ++
           ((if getBit h.route.toNat 0 then [Emit.msix 0 vec] else []) ++ s.sent))))

/-- R38: a masked vector sets its pending bit, and the message is sent when the vector is unmasked. -/
def Obligations.MaskedVectorsWait : Prop :=
  (∀ (p : Fin 2) (vec : Nat) (s : State), s.get p.val Reg.host_LINK_STATUS_UP = 1 → (s.port p.val).msixOn = true →
    (s.port p.val).unmasked.contains vec = false → Inv s →
    vec ∈ ((sendMsix p.val vec s).port p.val).msixPending ∧ (sendMsix p.val vec s).sent = s.sent) ∧
  (∀ (p : Fin 2) (vec : Fin 1024) (t : Nat) (s : State), s.get p.val Reg.host_LINK_STATUS_UP = 1 →
    (s.port p.val).msixOn = true → (s.port p.val).msixPending.contains vec.val = true →
    Inv s →
    ∃ u, exec (.msixUnmask p vec t) s = .next u ∧ u.sent = .msix p.val vec.val :: s.sent ∧
      vec.val ∉ (u.port p.val).msixPending ∧ vec.val ∈ (u.port p.val).unmasked)

/-- R30: the first error is kept, and a later one sets ERR_LOST. -/
def Obligations.FirstErrorKept : Prop :=
  ∀ (b : Block) (n code origin off detail : Nat) (s : State), n < blkCount b → Inv s →
    let h := s.hdr b n
    let k := (logAccess b n code origin off detail s).hdr b n
    (h.errCode ≠ 0 → k = { h with errLost := true }) ∧
    (h.errCode = 0 → k.errCode = code ∧ k.errOrigin = origin ∧ k.errOff = off % 0x1000 ∧ k.errPage = off / 0x1000 % 16 ∧
      k.errDetail = detail ∧ k.errLost = h.errLost ∧ k.raw = h.raw ||| 0x20000000)

/-- R31: a lease is taken by the origin's own code while none holds it, given up with 0, and any other code is error 0x01.
R32: a lease whose timer runs expires: OWNER becomes 0, LAPSED takes its code and event 28 is raised; staged values and a
pending commit are kept. What a clause takes from a reading of the model's is in log entry 16. -/
def Obligations.LeasesTakenGivenAndLapsed : Prop :=
  (∀ (o : Origin) (p : Page) (w : Fin 8) (hold : Fin 65536) (t : Nat) (s : State), Inv s → PageOk p → p.blk ≠ .thm →
     accessCode s o p.blk p.inst (pageOff p 0x24) 1 = 0 →
     let b := p.blk
     let n := p.inst
     let x := onBus o b n t s
     let c := Instr.leaseWrite o p w hold t
     (w.val = o.code → (x.hdr b n).owner = 0 →
       exec c s = .next (after s (forEach (leasePages x b n o.code)
         (fun q y => y.setHdr q.1 q.2 { y.hdr q.1 q.2 with owner := o.code, hold := hold.val }) x))) ∧
     (w.val = o.code → (x.hdr b n).owner = o.code → exec c s = .next (after s x)) ∧
     (w.val = o.code → (x.hdr b n).owner ≠ 0 → (x.hdr b n).owner ≠ o.code →
       exec c s = .next (after s (logAccess b n 0x02 o.code (pageOff p 0x24) 0 x))) ∧
     (w.val ≠ 0 → w.val ≠ o.code → exec c s = .next (after s (logAccess b n 0x01 o.code (pageOff p 0x24) 0 x))) ∧
     (w.val = 0 → (x.hdr b n).owner ≠ 0 →
       exec c s = .next (after s (forEach (leaseGroup x b n)
         (fun q y => y.setHdr q.1 q.2 { y.hdr q.1 q.2 with owner := 0, leaseTimer := false })
         (x.setHdr b n { x.hdr b n with hold := hold.val }))))) ∧
  (∀ (b : Block) (n t : Nat) (s : State), n < blkCount b → b ≠ .head → b ≠ .layer → (s.hdr b n).leaseTimer = true →
     (s.hdr b n).owner ≠ 0 → Inv s →
     ∃ u, exec (.leaseLapsed b n t) s = .next u ∧ (u.hdr b n).owner = 0 ∧ (u.hdr b n).lapsed = (s.hdr b n).owner ∧
       (u.hdr b n).raw = (s.hdr b n).raw ||| 0x10000000 ∧ (u.hdr b n).leaseTimer = false ∧
       (u.hdr b n).pendingCommit = (s.hdr b n).pendingCommit ∧ u.stag = s.stag ∧ u.regs = s.regs)

/-- R33: COMMIT on the page of a block without RWS fields, a LAYER page among them, is error 0x10 and nothing else; ABORT
there has no effect. The layers of a head are of its commit group. -/
def Obligations.CommitsNeedStagedFields : Prop :=
  (∀ (o : Origin) (p : Page) (t : Nat) (s : State), Inv s → PageOk p → blkCommits p.blk = false →
     accessCode s o p.blk p.inst (pageOff p 0x1C) 2 = 0 →
     (let y := logAccess p.blk p.inst 0x10 o.code (pageOff p 0x1C) 0 (onBus o p.blk p.inst t s)
      exec (.commit o p t) s = .next (after s y) ∧ (y.hdr p.blk p.inst).seq = (s.hdr p.blk p.inst).seq ∧
       (y.hdr p.blk p.inst).outcome = (s.hdr p.blk p.inst).outcome) ∧
     exec (.abort o p t) s = .next (after s (onBus o p.blk p.inst t s))) ∧
  ∀ (h : Fin 4) (k : Fin 16), (Block.layer, 16 * h.val + k.val) ∈ commitGroup .head h.val

/-- R34: a commit request counts in SEQUENCE, sets OUTCOME to 1 and is pending from then on. R25, R34, R536: when a commit
is applied the RWS fields in effect take their staged values, and ENABLE with them; every other field keeps its value. What
a clause takes from a reading of the model's is in log entry 15. -/
def Obligations.CommitsRequestedAndApplied : Prop :=
  (∀ (o : Origin) (p : Page) (t : Nat) (s : State), Inv s → PageOk p → blkCommits p.blk = true →
     accessCode s o p.blk p.inst (pageOff p 0x1C) 2 = 0 → (s.hdr p.blk p.inst).pendingCommit = false →
     ∃ y, exec (.commit o p t) s = .next (after s y) ∧
       (y.hdr p.blk p.inst).seq = ((s.hdr p.blk p.inst).seq + 1) % 65536 ∧ (y.hdr p.blk p.inst).outcome = 1 ∧
       (y.hdr p.blk p.inst).reason = 0 ∧ (y.hdr p.blk p.inst).pendingCommit = true ∧
       (y.hdr p.blk p.inst).checked = false ∧ y.stag = s.stag) ∧
  (∀ (b : Block) (n : Nat) (s : State), n < blkCount b → Inv s →
     let y := s.applyStaged b n
     (y.hdr b n).enable = (s.hdr b n).enableStaged ∧ y.stag = s.stag ∧
     ∀ off, off < blkPages b * 0x1000 →
       let m := BitVec.ofNat 32 (rwsMaskAt (addrOf b n off))
       y.word b n off &&& m = s.wordS b n off &&& m ∧ y.word b n off &&& ~~~m = s.word b n off &&& ~~~m)

/-- R35: ABORT ends a commit unapplied, OUTCOME returns to 0, and every staged value of the group is the value in effect; a
write of COMMIT and ABORT together is the ABORT. -/
def Obligations.CommitsAborted : Prop :=
  ∀ (o : Origin) (p : Page) (t : Nat) (s : State), Inv s → PageOk p → blkCommits p.blk = true →
    accessCode s o p.blk p.inst (pageOff p 0x1C) 2 = 0 →
    ∃ y, exec (.abort o p t) s = .next (after s y) ∧
      exec (.registerWrite o (addrOf p.blk p.inst (pageOff p 0x1C)) (bytesLE 4 3) [] 0 t) s = .next (after s y) ∧
      (y.hdr p.blk p.inst).pendingCommit = false ∧
      ((s.hdr p.blk p.inst).pendingCommit = true → (y.hdr p.blk p.inst).outcome = 0) ∧
      ((s.hdr p.blk p.inst).pendingCommit = false → (y.hdr p.blk p.inst).outcome = (s.hdr p.blk p.inst).outcome) ∧
      (y.hdr p.blk p.inst).seq = (s.hdr p.blk p.inst).seq ∧ (y.hdr p.blk p.inst).enable = (s.hdr p.blk p.inst).enable ∧
      (∀ b n off, n < blkCount b → off < blkPages b * 0x1000 → ¬(b = .head ∧ off = 0x68) → y.word b n off = s.word b n off) ∧
      ∀ g ∈ commitGroup p.blk p.inst, (y.hdr g.1 g.2).enableStaged = (y.hdr g.1 g.2).enable ∧
        (y.hdr g.1 g.2).enable = (s.hdr g.1 g.2).enable ∧
        ∀ off, off < blkPages g.1 * 0x1000 → y.wordS g.1 g.2 off = s.word g.1 g.2 off

/-- R24, R536: what a granted write of PAGE_CTRL does without SOFT_RESET: on a page with RWS fields ENABLE is staged, on one
without a change takes effect at once; FREEZE holds a snapshot from then on. R24, R456: RIGHTS is written by KEEPER only,
with equal rights of the two hosts; bits that are read-only keep their values. What a clause takes from a reading of the
model's is in log entries 13 and 14. -/
def Obligations.PageRegistersWritten : Prop :=
  (∀ (o : Origin) (p : Page) (e f : Bool) (t : Nat) (s : State), Inv s → PageOk p →
     accessCode s o p.blk p.inst (pageOff p 0x04) 1 = 0 →
     let b := p.blk
     let n := p.inst
     let x := onBus o b n t s
     let h := x.hdr b n
     let both := fun y => exec (.pageEnableWrite o p e f t) s = .next (after s y) ∧
       exec (.pageFreeze o p f e t) s = .next (after s y)
     (blkCommits b = true → (e = h.enableStaged ∨ h.pendingCommit = false) →
       both (setFrozen b n f (x.setHdr b n { h with enableStaged := e }))) ∧
     (blkCommits b = true → e ≠ h.enableStaged → h.pendingCommit = true →
       both (logAccess b n 0x10 o.code (pageOff p 0x04) 0 x)) ∧
     (b = .layer → both (setFrozen b n f x)) ∧
     (b ∈ [.glb, .sup, .thm, .pace, .evt, .svc, .sec, .host, .dma, .shut, .bench, .svb, .lutm, .dec, .bpool, .chk, .pkt, .timel,
       .amclk, .memx, .session] →
       both (setFrozen b n f (x.setHdr b n { h with enable := e, enableStaged := e })))) ∧
  (∀ (o : Origin) (p : Page) (r : Word) (t : Nat) (s : State), Inv s → PageOk p →
     accessCode s o p.blk p.inst (pageOff p 0x30) 1 = 0 →
     let b := p.blk
     let n := p.inst
     let x := onBus o b n t s
     (o = .keeper → bitsOf r 4 3 = bitsOf r 8 3 →
       exec (.rightsWrite o p r t) s =
         .next (after s (x.setHdr b n { x.hdr b n with rights := (r &&& 0x07077770) ||| 0x00700000 }))) ∧
     (o = .keeper → bitsOf r 4 3 ≠ bitsOf r 8 3 →
       exec (.rightsWrite o p r t) s = .next (after s (logAccess b n 0x01 o.code (pageOff p 0x30) 0 x))) ∧
     (o.code ≠ 5 → exec (.rightsWrite o p r t) s = .next (after s x)))

/-- R494, R537: a SOFT_RESET clears EVENT_RAW, ERROR_CODE and OUTCOME of its page and ends a pending commit, and leaves the
lease, the rights and the event configuration alone; the blocks that serve every stream at once keep all else, and ZRAW,
which the table does not name, has its registers reset and goes out of service. What a clause takes from a reading of the
model's is in log entries 13 and 18. -/
def Obligations.SoftResetOfAPage : Prop :=
  ∀ (o : Origin) (p : Page) (t : Nat) (s : State), Inv s → PageOk p →
    accessCode s o p.blk p.inst (pageOff p 0x04) 1 = 0 →
    let b := p.blk
    let n := p.inst
    let h := s.hdr b n
    b ∈ [.pace, .shut, .lutm, .pkt, .chk, .evt, .thm, .sec, .glb, .sup, .svb, .bpool, .zraw] →
    ∃ y, exec (.softReset o p false h.frozen t) s = .next (after s y) ∧
      (y.hdr b n).raw = 0 ∧ (y.hdr b n).errCode = 0 ∧ (y.hdr b n).outcome = 0 ∧ (y.hdr b n).pendingCommit = false ∧
      (y.hdr b n).owner = h.owner ∧ (y.hdr b n).lapsed = h.lapsed ∧ (y.hdr b n).rights = h.rights ∧
      (y.hdr b n).evEnable = h.evEnable ∧ (y.hdr b n).route = h.route ∧ (y.hdr b n).enable = false ∧
      (b ≠ .zraw → y.regs = s.regs ∧ y.stag = s.stag) ∧
      (b = .zraw → ∀ off, off < 0x1000 → y.word b n off = resetWord b n off)

/-! ### Pace and admission (chapter 3) -/

/-- R46, R48: a granted request for another mode that nothing refuses starts a ramp, one for the mode in force changes
nothing but REQ, one during a ramp is error 0x10 and mode 3 is error 0x01; the end of a ramp makes the mode the one in
force. R50, R56, R59: the end of an interval adds its paces to the window; a restore step undoes the latest shed step and is
counted and reported. What a clause takes from a reading of the model's is in log entry 29. -/
def Obligations.PaceRampsAndRestores : Prop :=
  ((∀ (o : Origin) (mode : Fin 4) (t : Nat) (s : State), Inv s → accessCode s o .pace 0 0x40 1 = 0 →
     let x := onBus o .pace 0 t s
     let c := Instr.modeRequest o mode t
     (mode.val < 3 → s.stateOf .pace 0 = 0 → mode.val ≠ s.get 0 Reg.pace_MODE_CURRENT → modeRefusal x mode.val = none →
       ∃ y, exec c s = .next (after s y) ∧ y.stateOf .pace 0 = 1 ∧ y.get 0 Reg.pace_MODE_VID = modeVid mode.val ∧
         y.get 0 Reg.pace_MODE_CURRENT = s.get 0 Reg.pace_MODE_CURRENT ∧ y.get 0 Reg.pace_MODE_REQ = mode.val) ∧
     (mode.val < 3 → s.stateOf .pace 0 = 0 → mode.val = s.get 0 Reg.pace_MODE_CURRENT →
       exec c s = .next (after s (x.set 0 Reg.pace_MODE_REQ mode.val))) ∧
     (s.stateOf .pace 0 = 1 → exec c s = .next (after s (logAccess .pace 0 0x10 o.code 0x40 0 x))) ∧
     (∀ d, mode.val < 3 → s.stateOf .pace 0 = 0 → mode.val ≠ s.get 0 Reg.pace_MODE_CURRENT → modeRefusal x mode.val = some d →
       exec c s = .next (after s (logAccess .pace 0 0x10 o.code 0x40 d x))) ∧
     (mode.val = 3 → s.stateOf .pace 0 = 0 → exec c s = .next (after s (logAccess .pace 0 0x01 o.code 0x40 0 x)))) ∧
   (∀ (t : Nat) (s : State), Inv s → s.stateOf .pace 0 = 1 →
     ∃ u, exec (.rampDone t) s = .next u ∧ u.stateOf .pace 0 = 0 ∧
       u.get 0 Reg.pace_MODE_CURRENT = s.get 0 Reg.pace_MODE_REQ ∧ u.pace.hist = [] ∧
       (u.hdr .pace 0).raw = (s.hdr .pace 0).raw ||| 1)) ∧
  ((∀ (paces loads : List Nat) (t : Nat) (s : State),
     ∃ u, exec (.paceIntervalEnd paces loads t) s = .next u ∧
       u.pace.hist = (t, paces) :: s.pace.hist.filter
         (fun e => decide (t < e.1 + msT (s.get 0 Reg.pace_ADMIT_CFG_WINDOW_MS)))) ∧
   (∀ (t t0 n : Nat) (rest : List Nat) (s : State), Inv s → s.pace.since = some t0 → s.pace.steps = n :: rest → n < 48 →
     t0 + msT (s.get 0 Reg.pace_SHED_CFG_RESTORE_MS) ≤ t →
     ∃ u, exec (.restoreStep t) s = .next u ∧ shedState u n = shedState s n - 1 ∧ u.pace.steps = rest ∧
       u.pace.since = some t ∧ u.get 0 Reg.pace_SHED_STATUS_STEPS = (s.get 0 Reg.pace_SHED_STATUS_STEPS + 1) % 65536 ∧
       u.get 0 Reg.pace_SHED_STATUS_LAST_STREAM = n ∧ (u.hdr .pace 0).raw = (s.hdr .pace 0).raw ||| 4))

/-- R56: shedding takes the classes from 3 down to 0: when it changes a stream, every candidate of a higher class number is
SUSPENDED. What a clause takes from a reading of the model's is in log entry 29. -/
def Obligations.HigherClassesShedFirst : Prop :=
  ∀ (cands : List Nat) (d : Int) (s : State) (n m : Nat), Inv s → cands.Nodup → (∀ k ∈ cands, k < 48 ∧ shedState s k ≤ 2) →
    n ∈ cands → m ∈ cands → s.get n Reg.strm_SCHED_CLASS < s.get m Reg.strm_SCHED_CLASS →
    shedState (shed cands d s) n ≠ shedState s n → shedState (shed cands d s) m = 2

/-! ### Camera ingress (chapter 4) -/

/-- R71, R77, R84: a frame start of exposure 0 that finds its assembler in WAIT_SOF, with no commit pending, advances
FRAME_NO by the intervals it spans, makes the assembler ACTIVE, opens a frame with its ticket and raises FRAME_START. What a
clause takes from a reading of the model's is in log entry 27. -/
def Obligations.FramesOpen : Prop :=
  ∀ (p : Fin 48) (e : Fin 16) (csi : Nat) (cut : Bool) (t : Nat) (s : State), Inv s → (p.val < 40 → e.val = 0) →
    let a := s.asm (asmKey p.val e.val)
    let n := entStream s p.val e.val
    a.st = 1 → entExp s p.val e.val = 0 → n < 48 → (s.hdr (portBlk p.val) (portInst p.val)).pendingCommit = false →
    let k := (intervalCheck p.val e.val n t a (s.at t)).1
    let f := (s.get n Reg.strm_FRAME_NO_FRAME_NO + k) % 2 ^ 32
    (a.lastFs = none ∨ a.armed = false → k = 1) ∧
    ∃ u, exec (.frameStart p e csi cut t) s = .next u ∧
      u.get n Reg.strm_FRAME_NO_FRAME_NO = f ∧ ent u p.val e.val Reg.camp_ENT_FRAME_NO_FRAME_NO Reg.cams_ENT_FRAME_NO_FRAME_NO = f ∧
      (u.asm (asmKey p.val e.val)).st = 2 ∧ (u.asm (asmKey p.val e.val)).frameNo = f ∧
      (u.asm (asmKey p.val e.val)).lastFs = some t ∧ (u.asm (asmKey p.val e.val)).lines = 0 ∧
      hasEvent u (portBlk p.val) (portInst p.val) 0 ∧
      ∃ x ∈ (u.strm n).frames, x.no = f ∧ x.closed = 0 ∧ x.csi = csi ∧ x.tk.source = n ∧ x.tk.frameNo = f ∧ x.tk.fsTimel = ⟨4, t⟩

/-- R71-R73: what brings an ACTIVE assembler to CLOSE: a frame start, which is held, a frame end, and TIMEOUT_LINES line
references without a line; the frame is cut short if fewer than HEIGHT lines were accepted. R71-R73, R82: from CLOSE the
frame settles: its assembler waits for the next frame start, the stamp's status is shown and FRAME_END or TRUNCATED is
raised, and TRUNCATED counted. What a clause takes from a reading of the model's is in log entries 26 and 27. -/
def Obligations.FramesEndAndSettle : Prop :=
  (∀ (p : Fin 48) (e : Fin 16) (csi : Nat) (cut : Bool) (t : Nat) (s : State), Inv s → (p.val < 40 → e.val = 0) →
     let key := asmKey p.val e.val
     let a := s.asm key
     let closing := fun held => { a with st := 3, short := decide (a.lines < entHeight s p.val e.val), anyBad := a.anyBad || cut, held := held }
     a.st = 2 →
     (∃ u, exec (.frameEnd p e cut t) s = .next u ∧ u.asm key = closing none ∧ u.strms = s.strms) ∧
     (∃ u, exec (.frameStart p e csi cut t) s = .next u ∧ u.asm key = closing (some (csi, t)) ∧ u.strms = s.strms) ∧
     (a.lastLine + ent s p.val e.val Reg.camp_ENT_TIMING_TIMEOUT_LINES Reg.cams_ENT_TIMING_TIMEOUT_LINES * lineRef s p.val e.val ≤ t →
       ∃ u, exec (.lineTimeout p e cut t) s = .next u ∧ u.asm key = closing none ∧ u.strms = s.strms)) ∧
  (∀ (p : Fin 48) (e : Fin 16) (t : Nat) (s : State), Inv s → (p.val < 40 → e.val = 0) →
     let a := s.asm (asmKey p.val e.val)
     a.st = 3 → a.held = none → entExp s p.val e.val = 0 → entStream s p.val e.val < 48 →
     (s.hdr (portBlk p.val) (portInst p.val)).pendingCommit = false →
     ∃ u, exec (.frameClose p e t) s = .next u ∧ (u.asm (asmKey p.val e.val)).st = 1 ∧
       ent u p.val e.val Reg.camp_ENT_STAMP_STATUS_STATUS Reg.cams_ENT_STAMP_STATUS_STATUS = (settleStamp s p.val e.val a).1 ∧
       hasEvent u (portBlk p.val) (portInst p.val) (if a.short then 2 else 1) ∧
       (2 ≤ (settleStamp s p.val e.val a).1 → hasEvent u (portBlk p.val) (portInst p.val) 5))

/-- R74: an accepted line counts and becomes the previous row; a discarded one counts in DISCARDED and raises CLOCK_FAULT.
R66-R68, R70, R75, R79, R92: the other events of a port: what each counts, shows and raises. What a clause takes from a
reading of the model's is in log entry 27. -/
def Obligations.LinesAndPortEvents : Prop :=
  (∀ (p : Fin 48) (e : Fin 16) (data : List Nat) (bad : Bool) (minPs t0 : Nat) (toDram : Bool) (queued : List Nat) (t : Nat)
     (s : State), Inv s → (p.val < 40 → e.val = 0) →
     let key := asmKey p.val e.val
     let a := s.asm key
     a.st = 2 → isStampLine s p.val a = false → a.lines < entHeight s p.val e.val →
     let c := Instr.lineReceived p e data bad minPs t0 toDram queued t
     (lineBad s p.val e.val data.length bad minPs = false →
       ∃ u, exec c s = .next u ∧ (u.asm key).lines = a.lines + 1 ∧ (u.asm key).lastLine = t0 ∧ (u.asm key).bad = a.bad ∧
         (u.asm key).prevRow = some (if p.val < 40 then data.map (· % 2 ^ entBits s p.val e.val)
           else unpackCsi (entBits s p.val e.val) data)) ∧
     (lineBad s p.val e.val data.length bad minPs = true →
       ∃ u, exec c s = .next u ∧ (u.asm key).bad = a.bad + 1 ∧ (u.asm key).anyBad = true ∧
         hasEvent u (portBlk p.val) (portInst p.val) 3 ∧
         ((u.asm key).st = 3 ↔ ent s p.val e.val Reg.camp_ENT_TIMING_MAX_BAD Reg.cams_ENT_TIMING_MAX_BAD < a.bad + 1))) ∧
  ((∀ (p : Fin 40) (ps t : Nat) (s : State), Inv s → (s.asm p.val).st ≠ 0 → 300 ≤ ps →
     ps < s.get p.val Reg.camp_PCLK_CFG_MIN_PERIOD_PS →
     ∃ u, exec (.pclkGlitch p ps t) s = .next u ∧ hasEvent u .camp p.val 3 ∧ u.asms = s.asms) ∧
   (∀ (p : Fin 48) (e : Fin 16) (t : Nat) (s : State), Inv s → (p.val < 40 → e.val = 0) →
     let a := s.asm (asmKey p.val e.val)
     let ms := ent s p.val e.val Reg.camp_ENT_WATCH_FRAME_TIMEOUT_MS Reg.cams_ENT_WATCH_FRAME_TIMEOUT_MS
     a.st ≠ 0 → a.noFrame = false → ms ≠ 0 → a.watch + msT ms ≤ t →
     ∃ u, exec (.noFrame p e t) s = .next u ∧ u.asm (asmKey p.val e.val) = { a with noFrame := true, armed := false } ∧
       hasEvent u (portBlk p.val) (portInst p.val) 7) ∧
   (∀ (i : Fin 8) (e q : Fin 16) (x : Frame) (t : Nat) (s : State), Inv s →
     let p := 40 + i.val
     let n := entStream s p e.val
     let lead := s.asm (asmKey p q.val)
     (portEntries p).find? (fun q => entValid s p q && entStream s p q == n && entExp s p q == 0) = some q.val →
     findFrame s n lead.frameNo = some x → entExp s p e.val ≠ 0 → entValid s p e.val = true →
     x.joined.contains (entExp s p e.val) = false → x.done.getD (entExp s p e.val) true = false → n < 48 →
     lead.lastFs.getD 0 + s.get i.val Reg.cams_HDR_CFG_WINDOW * lineRef s p q.val ≤ t →
     ∃ u, exec (.hdrMissing ⟨p, by omega⟩ e t) s = .next u ∧ hasEvent u .cams i.val 10) ∧
   (∀ (i : Fin 8) (vc dt : Nat) (payload : List Byte) (t : Nat) (s : State), Inv s →
     let p := 40 + i.val
     let here := fun e => entValid s p e && s.get i.val (Reg.cams_ENT_MAP_VC.at (0x40 * e)) == vc
     ((portEntries p).find? here = none →
       ∃ u, exec (.embeddedData i vc dt payload t) s = .next u ∧ hasEvent u .cams i.val 9) ∧
     (∀ e, (portEntries p).find? here = some e → (s.asm (asmKey p e)).st = 2 → dt = 0x12 → entExp s p e = 0 →
       ∃ u, exec (.embeddedData i vc dt payload t) s = .next u ∧
         (u.asm (asmKey p e)).embedded = some ((s.asm (asmKey p e)).embedded.getD payload))) ∧
   (∀ (i : Fin 8) (kind : Fin 4) (t : Nat) (s : State), Inv s →
     let f := match kind.val with
       | 0 => Reg.cams_PKT_COUNTS_HDR_CORR
       | 1 => Reg.cams_PKT_COUNTS_HDR_BAD
       | 2 => Reg.cams_PKT_COUNTS_CRC_BAD
       | _ => Reg.cams_PKT_COUNTS_UNMAPPED
     ∃ u, exec (.packetError i kind t) s = .next u ∧ u.get i.val f = (s.get i.val f + 1) % 2 ^ f.w ∧
       (kind.val = 1 ∨ kind.val = 3 → hasEvent u .cams i.val 9)) ∧
   (∀ (i : Fin 8) (sot : Bool) (t : Nat) (s : State), Inv s →
     ∃ u, exec (.phyError i sot t) s = .next u ∧ hasEvent u .cams i.val 11 ∧
       u.get i.val Reg.cams_PHY_STATUS_SOT_ERR = (s.get i.val Reg.cams_PHY_STATUS_SOT_ERR + bit sot) % 256) ∧
   (∀ (i : Fin 8) (ulps hs stop t : Nat) (s : State), Inv s → ulps < 16 → hs < 16 → stop < 16 →
     s.get i.val Reg.cams_PHY_CFG_MODE ≠ 0 →
     ∃ u, exec (.ulpsEntryExit i ulps hs stop t) s = .next u ∧ u.get i.val Reg.cams_PHY_STATUS_ULPS = ulps ∧
       u.get i.val Reg.cams_PHY_STATUS_HS = hs ∧ u.get i.val Reg.cams_PHY_STATUS_STOP = stop ∧
       u.stateOf .cams i.val = if hs ≠ 0 then 2 else if ulps ≠ 0 then 3 else 1) ∧
   (∀ (i : Fin 8) (t : Nat) (s : State), Inv s → s.get i.val Reg.cams_PHY_CFG_MODE = 1 → s.get i.val Reg.cams_PHY_CFG_DESKEW = 1 →
     ∃ u, exec (.deskewSequence i t) s = .next u ∧ u.get i.val Reg.cams_PHY_STATUS_DESKEWED = 1))

/-! ### Camera control (chapter 5) -/

/-- R97, R107: a control port in OFF that ENABLE is written 1 on, with a valid profile, starts the START sequence; the
sequence's end makes it STREAMING with the profile's start values; ENABLE written 0 cancels what is queued and starts the
STOP sequence, or leaves FAULT for OFF; the end of that sequence is OFF, with TRIG low. R94, R97, R111: the end of a bus
transaction: acknowledged it leaves the queue of operations, a NACK or an overlong stretch is retried once, and a second one
is a bus fault that is counted; and raw transfers from their START to their result. What a clause takes from a reading of
the model's is in log entries 8 and 57. -/
def Obligations.ControlPortsRun : Prop :=
  ((∀ (o : Origin) (n : Fin 48) (t : Nat) (s : State), Inv s → accessCode s o .cctl n.val 0x04 1 = 0 →
     s.stateOf .cctl n.val = 0 → profileValid s (s.get n.val Reg.cctl_CFG_PROFILE) = true →
     (s.get n.val Reg.cctl_CFG_CAPTURE_SRC = 1 → (ctlProfile s n.val).globalShutter = true) →
     ∃ y, exec (.cctlEnable o n t) s = .next (after s y) ∧ y.stateOf .cctl n.val = 1 ∧ y.enabled .cctl n.val = true ∧
       (y.ctl n.val).ops = seqOps .seqStart (ctlProfile s n.val).start ∧ (y.ctl n.val).delaying = false ∧ y.regs = s.regs) ∧
   (∀ (n : Fin 48) (t : Nat) (s : State), Inv s → s.stateOf .cctl n.val = 1 → (s.ctl n.val).delaying = false →
     (s.ctl n.val).ops.any (fun o => o.kind == .seqStart) = false →
     ∃ u, exec (.initDone n t) s = .next u ∧ u.stateOf .cctl n.val = 2 ∧ hasEvent u .cctl n.val 0 ∧
       (u.ctl n.val).base.again = (ctlProfile s n.val).startA ∧ (u.ctl n.val).base.dgain = (ctlProfile s n.val).startD ∧
       (u.ctl n.val).base.wb = (ctlProfile s n.val).startWb ∧ (u.ctl n.val).base.tag = 0 ∧ (u.ctl n.val).sets = []) ∧
   (∀ (o : Origin) (n : Fin 48) (t : Nat) (s : State), Inv s → accessCode s o .cctl n.val 0x04 1 = 0 →
     ∃ y, exec (.cctlDisable o n t) s = .next (after s y) ∧ y.enabled .cctl n.val = false ∧
       (s.stateOf .cctl n.val = 4 → y.stateOf .cctl n.val = 0 ∧ getBit y.pins.trig n.val = false) ∧
       (s.stateOf .cctl n.val = 1 → y.stateOf .cctl n.val = 3) ∧
       (s.stateOf .cctl n.val = 2 → y.stateOf .cctl n.val = 3 ∧ (y.ctl n.val).queue = [] ∧
         ((s.ctl n.val).results = [] → (s.ctl n.val).sets = [] →
           (y.ctl n.val).results.map (fun r => (r.tag, r.code, r.frame)) =
             (s.ctl n.val).queue.map (fun q => (q.tag, 5, q.target)) ∨ 16 < (s.ctl n.val).queue.length))) ∧
   (∀ (n : Fin 48) (t : Nat) (s : State), Inv s → s.stateOf .cctl n.val = 3 → (s.ctl n.val).ops = [] →
     (s.ctl n.val).delaying = false →
     ∃ u, exec (.stopSequenceDone n t) s = .next u ∧ u.stateOf .cctl n.val = 0 ∧ getBit u.pins.trig n.val = false ∧ u.regs = s.regs)) ∧
  ((∀ (n : Fin 48) (result : Nat) (data : List Byte) (t : Nat) (s : State) (op : BusOp) (rest : List BusOp), Inv s →
     (s.ctl n.val).ops = op :: rest → (s.ctl n.val).delaying = false →
     let c := Instr.busTransactionEnd n result data t
     (result = 0 → ∃ u, exec c s = .next u ∧ (u.ctl n.val).ops = rest ∧ (u.ctl n.val).delaying = decide (0 < op.delayMs) ∧
       u.regs = s.regs ∧ u.hdrs = s.hdrs) ∧
     ((result = 1 ∨ result = 2) → op.retried = false →
       exec c s = .next ((s.at t).setCtl n.val { s.ctl n.val with ops := { op with retried := true } :: rest })) ∧
     (((result = 1 ∨ result = 2) ∧ op.retried = true ∨ 2 < result) →
       ∃ u, exec c s = .next u ∧ hasEvent u .cctl n.val 2 ∧
         u.get n.val Reg.cctl_COUNTS_FAILED = (s.get n.val Reg.cctl_COUNTS_FAILED + 1) % 2 ^ Reg.cctl_COUNTS_FAILED.w ∧
         (op.kind = .seqStart → s.stateOf .cctl n.val = 1 → u.stateOf .cctl n.val = 4) ∧
         (op.kind = .xfer → (u.ctl n.val).xferEnd = some (result, [])))) ∧
   (∀ (n : Fin 48) (t : Nat) (s : State),
     exec (.sequenceDelayEnd n t) s = .next ((s.at t).setCtl n.val { s.ctl n.val with delaying := false })) ∧
   (∀ (o : Origin) (n : Fin 48) (len : Fin 16) (sub : Fin 4) (dir : Bool) (t : Nat) (s : State), Inv s →
     accessCode s o .cctl n.val 0x90 1 = 0 → sub.val ≤ 2 → s.get n.val Reg.cctl_XFER_STATUS_BUSY = 0 →
     (s.stateOf .cctl n.val = 0 ∨ s.stateOf .cctl n.val = 2) → svBlocks s n.val = false →
     ∃ y, exec (.xferStart o n len sub dir t) s = .next (after s y) ∧ y.get n.val Reg.cctl_XFER_STATUS_BUSY = 1 ∧
       (y.ctl n.val).xfer = (dir, sub.val, len.val + 1) ∧
       (if (s.ctl n.val).window then (y.ctl n.val).xferWaiting = true ∧ (y.ctl n.val).ops = (s.ctl n.val).ops
         else (y.ctl n.val).ops = (s.ctl n.val).ops ++ [{ kind := .xfer, set := 0, delayMs := 0, retried := false }])) ∧
   (∀ (n : Fin 48) (bytes result : Nat) (data : List Byte) (t : Nat) (s : State), Inv s →
     (s.ctl n.val).xferEnd = some (result, data) → result < 8 →
     ∃ u, exec (.xferDone n bytes t) s = .next u ∧ u.get n.val Reg.cctl_XFER_STATUS_BUSY = 0 ∧
       u.get n.val Reg.cctl_XFER_STATUS_RESULT = result ∧ (u.ctl n.val).xferEnd = none ∧ hasEvent u .cctl n.val 6))

/-- R98-R102: a command is queued, a result is taken; at the write window the due commands are merged into one set that
lands LAT_L frames on, with one result each; a write still running at SAFE_END_US fails its set. R107-R109: the frame-sync
pins, TRIG and the strobes. What a clause takes from a reading of the model's is in log entries 8 and 57. -/
def Obligations.SensorCommandsAndTriggers : Prop :=
  ((∀ (o : Origin) (n : Fin 48) (tag : Fin 65536) (mask : Fin 32) (t : Nat) (s : State), Inv s →
     accessCode s o .cctl n.val 0x64 1 = 0 → s.stateOf .cctl n.val = 2 → svBlocks s n.val = false → tag.val ≠ 0 → mask.val ≠ 0 →
     ((s.ctl n.val).queue.length < 8 →
       ∃ y q, exec (.cmdPush o n tag mask t) s = .next (after s y) ∧ (y.ctl n.val).queue = (s.ctl n.val).queue ++ [q] ∧
         q.tag = tag.val ∧ q.mask = mask.val ∧ q.target = s.get n.val Reg.cctl_CMD_TARGET_FRAME ∧
         q.again = s.get n.val Reg.cctl_CMD_GAIN_AGAIN ∧
         y.get n.val Reg.cctl_CMD_STATUS_QUEUED = (s.ctl n.val).queue.length + 1) ∧
     (8 ≤ (s.ctl n.val).queue.length →
       exec (.cmdPush o n tag mask t) s =
         .next (after s (logAccess .cctl n.val 0x04 o.code 0x64 0 (onBus o .cctl n.val t s))))) ∧
   (∀ (o : Origin) (n : Fin 48) (t : Nat) (s : State), Inv s → accessCode s o .cctl n.val 0x78 1 = 0 →
     ∃ y, exec (.resultPop o n t) s = .next (after s y) ∧ (y.ctl n.val).results = (s.ctl n.val).results.drop 1 ∧
       (y.ctl n.val).queue = (s.ctl n.val).queue) ∧
   (∀ (n : Fin 48) (t : Nat) (s : State), Inv s → s.stateOf .cctl n.val = 2 →
     let c := s.ctl n.val
     let p := ctlProfile s n.val
     let land := (c.frame + p.latL) % 2 ^ 32
     let due := c.queue.filter (fun q => decide (0 ≤ frameDiff land q.target))
     let exposures := (List.range 3).map (fun k => lastSetting due k (fun q => linesOf p (q.exps.getD k 0)))
     let gains := lastSetting due 3 (fun q => (gainCode p.gainA q.again, gainCode p.gainD q.dgain))
     let time := Config.busTime (s.get n.val Reg.cctl_CFG_BUS) (s.get n.val Reg.cctl_BUS_CFG_KHZ)
     let held := (c.sets.filter (fun x => x.gainAt == some c.frame)).length
     ∃ u, exec (.writeWindow n t) s = .next u ∧ (u.ctl n.val).window = true ∧
       (due = [] → (u.ctl n.val).queue = c.queue ∧ (u.ctl n.val).sets.length = c.sets.length) ∧
       (due ≠ [] → time 0 held + time (exposures.filter (fun l => l.isSome)).length (bit (gains.isSome && p.latG == p.latL))
           ≤ 1000 * (p.safeEndUs - p.safeStartUs) →
         (u.ctl n.val).queue = c.queue.filter (fun q => !decide (0 ≤ frameDiff land q.target)) ∧
         ∃ x, (u.ctl n.val).sets.getLast? = some x ∧ x.land = land ∧ x.tags = due.map (·.tag) ∧ x.lines = exposures ∧
           x.gains = gains ∧ x.bad = 0 ∧ x.late = due.any (fun q => q.target != land) ∧
           (c.results.length + due.length ≤ 16 → (u.ctl n.val).results = c.results ++
             due.map (fun q => { tag := q.tag, code := if q.target = land then 1 else 2, frame := land, set := x.id })))) ∧
   (∀ (n : Fin 48) (t : Nat) (s : State), Inv s → (s.ctl n.val).window = true →
     ∃ u, exec (.safeEnd n t) s = .next u ∧ (u.ctl n.val).window = false ∧ (u.ctl n.val).xferWaiting = false ∧
       (∀ op ∈ (s.ctl n.val).ops, (op.kind = .exposure ∨ op.kind = .gain) →
         ∀ x, (u.ctl n.val).sets.find? (fun x => x.id == op.set) = some x → x.bad ≠ 0) ∧
       ((s.ctl n.val).xferWaiting = true →
         (u.ctl n.val).ops = (s.ctl n.val).ops ++ [{ kind := .xfer, set := 0, delayMs := 0, retried := false }]))) ∧
  ((∀ (o : Origin) (n : Fin 48) (t : Nat) (s : State), Inv s → accessCode s o .cctl n.val 0x80 1 = 0 →
     ∃ y, exec (.trigFire o n t) s = .next (after s y) ∧ y.regs = s.regs ∧
       getBit y.pins.trig n.val = (getBit s.pins.trig n.val || decide (s.get n.val Reg.cctl_TRIG_CFG_MODE = 2 ∧
         s.stateOf .cctl n.val ≠ 0 ∧ s.stateOf .cctl n.val ≠ 4))) ∧
   (∀ (n : Fin 48) (t : Nat) (s : State), ∃ u, exec (.trigRise n t) s = .next u ∧ u.regs = s.regs ∧
     ∀ m < 48, getBit u.pins.trig m = (getBit s.pins.trig m || decide (m = n.val ∧ s.get n.val Reg.cctl_TRIG_CFG_MODE = 1 ∧
       s.stateOf .cctl n.val ≠ 0 ∧ s.stateOf .cctl n.val ≠ 4))) ∧
   (∀ (n : Fin 48) (t : Nat) (s : State), ∃ u, exec (.trigPulseEnd n t) s = .next u ∧ u.regs = s.regs ∧
     ∀ m < 48, getBit u.pins.trig m = (getBit s.pins.trig m && decide (m ≠ n.val))) ∧
   (∀ (k : Fin 4) (t : Nat) (s : State), ∃ u, exec (.fsyncEdge k t) s = .next u ∧ u.regs = s.regs ∧
     ∀ j < 4, getBit u.pins.fsync j = (getBit s.pins.fsync j ||
       decide (j = k.val ∧ s.get 0 (Reg.glb_FSYNC_CFG_ENABLE.at (0x10 * k.val)) = 1))) ∧
   (∀ (k : Fin 4) (t : Nat) (s : State), ∃ u, exec (.fsyncPulseEnd k t) s = .next u ∧ u.regs = s.regs ∧
     ∀ j < 4, getBit u.pins.fsync j = (getBit s.pins.fsync j && decide (j ≠ k.val))) ∧
   (∀ (n : Fin 48) (t0 t : Nat) (s : State), Inv s → ∃ u, exec (.strobePulse n t0 t) s = .next u ∧ u.regs = s.regs ∧
     (u.ctl n.val).strobes = ((t0 + t) / 2, t) :: (s.ctl n.val).strobes.take 15))

/-! ### The Shuttle and the benches (chapters 6 and 7) -/

/-- R119: when a context load ends while a stripe runs, the next stripe is ready; on an idle bench it starts at once, and
the swap counts as exposed. R129, R138: a row through a bench: one row less of the stripe is left and the context's history
has that row; a class 0 row leaves the bench free; and the row at the front of a FIFO takes its bench. What a clause takes
from a reading of the model's is in log entries 30 and 56. -/
def Obligations.BenchesTakeRows : Prop :=
  (∀ (b : Fin 6) (n t : Nat) (s : State), Inv s → (s.bench b.val).next = some (n, false) →
     ((s.bench b.val).run ≠ none →
       exec (.swapDone b t) s = .next (headsFollow s ((s.at t).setBench b.val { s.bench b.val with next := some (n, true) }))) ∧
     (∀ x, (s.bench b.val).run = none → n < 48 → firstFrame s n = some x →
       ∃ u, exec (.swapDone b t) s = .next u ∧ (u.bench b.val).run = some n ∧ (u.bench b.val).left = linesOfStripe s n x x.stripe ∧
         u.get n Reg.strm_SCHED_COUNTS_EXPOSED =
           (s.get n Reg.strm_SCHED_COUNTS_EXPOSED + 1) % 2 ^ Reg.strm_SCHED_COUNTS_EXPOSED.w)) ∧
  ((∀ (b : Fin 6) (backlog n k t : Nat) (y : Frame) (s : State), Inv s → n < 48 → (s.bench b.val).row0 = none →
     (s.bench b.val).run = some n → firstFrame s n = some y → (s.bench b.val).left = k + 1 →
     ∃ u, exec (.benchRowDone b backlog t) s = .next u ∧ (u.bench b.val).left = k ∧ (u.bench b.val).run = some n ∧
       (u.strm n).ctx.row = stripeLines s n * y.stripe + (linesOfStripe s n y y.stripe - (k + 1)) + 1 ∧
       (u.strm n).ctx.bench = b.val) ∧
   (∀ (b : Fin 6) (backlog n f r t : Nat) (s : State), Inv s → n < 48 → (s.bench b.val).row0 = some (f, r) →
     pinnedStream s b.val = some n → (findFrame s n f).isSome →
     ∃ u, exec (.benchRowDone b backlog t) s = .next u ∧ (u.bench b.val).row0 = none ∧
       (r % 16 = 15 → u.get b.val Reg.bench_STRIPES_COUNT =
         (s.get b.val Reg.bench_STRIPES_COUNT + 1) % 2 ^ Reg.bench_STRIPES_COUNT.w)) ∧
   (∀ (b : Fin 6) (n f r t : Nat) (rest : List (Nat × Nat)) (s : State), Inv s → n < 48 → (s.bench b.val).row0 = none →
     (s.bench b.val).fifo = (f, r) :: rest → pinnedStream s b.val = some n → (s.hdr .strm n).pendingCommit = false →
     ∃ u, exec (.class0RowTake b t) s = .next u ∧ (u.bench b.val).row0 = some (f, r) ∧ (u.bench b.val).fifo = rest))

/-- R156: a row read back from the staging ring is the row that was staged there; one that reads as poisoned is replaced and
reported. R114, R121, R126: the end of a stripe is counted; one past its deadline is late, and that of a frame that is to be
dropped drops it; a stripe that has not completed SLACK_US after its deadline drops its frame, at once if it is not running.
What a clause takes from a reading of the model's is in log entries 30 and 88. -/
def Obligations.StripesComplete : Prop :=
  (∀ (b : Fin 6) (k : Fin 3) (r n t : Nat) (x : Frame) (s : State), Inv s → n < 48 → (s.bench b.val).run = some n →
     firstFrame s n = some x → findFrame s n x.no = some x → Tbl.sorted x.rows = true → Tbl.sorted x.inDram = true →
     let key := rowKey k.val r
     let slot := Tbl.get 0 x.inDram key
     let a := slotAt s n k.val (slot - 1)
     let w := streamW s n
     let row := dramRead 0 a (ceilDiv (w * x.bits) 8) s
     slot ≠ 0 → Tbl.get 0 s.stageIdx a = 0 →
     ∃ u x', exec (.stagedRowRead b k r t) s = .next u ∧ findFrame u n x.no = some x' ∧ Tbl.get 0 x'.inDram key = 0 ∧
       (row.2.1 = false → Tbl.get [] x'.rows key = unpackRow x.bits w row.1) ∧
       (row.2.1 = true → Tbl.get [] x'.rows key = poisonSubstitute s n x k.val r ∧ hasEvent u .bench b.val 3)) ∧
  ((∀ (b : Fin 6) (fill work n d t : Nat) (y : Frame) (s : State), Inv s → n < 48 → (s.bench b.val).run = some n →
     (s.bench b.val).left = 0 → deadline s n = some (y, d) →
     ∃ u, exec (.stripeComplete b fill work t) s = .next u ∧
       u.get b.val Reg.bench_STRIPES_COUNT = (s.get b.val Reg.bench_STRIPES_COUNT + 1) % 2 ^ Reg.bench_STRIPES_COUNT.w ∧
       u.get n Reg.strm_SCHED_COUNTS_LATE =
         (s.get n Reg.strm_SCHED_COUNTS_LATE + bit (decide (d < t ∧ y.doomed = 0))) % 2 ^ Reg.strm_SCHED_COUNTS_LATE.w ∧
       (d < t → y.doomed = 0 → hasEvent u .shut 0 0) ∧
       (y.doomed = 0 → stripeLines s n * (y.stripe + 1) < frameRows s n y →
         ∃ y' ∈ (u.strm n).frames, y'.no = y.no ∧ y'.stripe = y.stripe + 1) ∧
       (y.doomed = 1 → hasEvent u .shut 0 1 ∧ u.get n Reg.strm_SCHED_COUNTS_DROPPED =
         (s.get n Reg.strm_SCHED_COUNTS_DROPPED + 1) % 2 ^ Reg.strm_SCHED_COUNTS_DROPPED.w)) ∧
   (∀ (n : Fin 48) (d t : Nat) (x : Frame) (s : State), Inv s → deadline s n.val = some (x, d) → x.doomed = 0 →
     streamClass s n.val ≠ 0 → d + slackOf s n.val ≤ t →
     ∃ u, exec (.deadlineExpired n t) s = .next u ∧
       (runningOn s n.val = none → hasEvent u .shut 0 1 ∧ u.get n.val Reg.strm_SCHED_COUNTS_DROPPED =
         (s.get n.val Reg.strm_SCHED_COUNTS_DROPPED + 1) % 2 ^ Reg.strm_SCHED_COUNTS_DROPPED.w) ∧
       (runningOn s n.val ≠ none → x.started = true → ∃ y ∈ (u.strm n.val).frames, y.no = x.no ∧ y.doomed = 1 ∧ y.discard = true ∧ y.processed = false)))

/-! ### 3D LUT slots, taps, statistics and records (chapters 8 and 9) -/

/-- R182: a load starts on a slot that no stream names and makes it invalid, and ends valid with the entries that lie in
DRAM unless one is out of range or poisoned; PARTITION changes only groups without valid or named slots. R174, R199, R215,
R218: the oldest auto grid that is due is written out and waits for the next frame; the oldest record is written to its slot
and RING_WR advances; a tap's buffer completes and is counted; a pin without evaluations takes its failsafe level. What a
clause takes from a reading of the model's is in log entries 31 and 55. -/
def Obligations.LutSlotsAndRecords : Prop :=
  ((∀ (o : Origin) (slot : Fin 64) (t : Nat) (s : State), Inv s → accessCode s o .lutm 0 0x4C 1 = 0 →
     (lutRefused s slot.val = false →
       ∃ y, exec (.lutLoad o slot t) s = .next (after s y) ∧ y.get 0 Reg.lutm_LOAD_STATUS_BUSY = 1 ∧
         y.get 0 Reg.lutm_LOAD_STATUS_SLOT = slot.val ∧ y.stateOf .lutm 0 = 1 ∧ y.lutSlots = s.lutSlots ∧
         ∀ k < 64, lutValid y k = (lutValid s k && k != slot.val)) ∧
     (lutRefused s slot.val = true →
       exec (.lutLoad o slot t) s = .next (after s (logAccess .lutm 0 0x10 o.code 0x4C 0 (onBus o .lutm 0 t s))))) ∧
   (∀ (t : Nat) (s : State), Inv s → s.get 0 Reg.lutm_LOAD_STATUS_BUSY = 1 →
     let k := s.get 0 Reg.lutm_LOAD_STATUS_SLOT
     let n := lutSide s k
     let r := dramRead 0 (addrReg s 0 Reg.lutm_LOAD_SRC_LO_ADDR Reg.lutm_LOAD_SRC_HI_ADDR) (8 * n * n * n) s
     let entries := (chunk 8 r.1.length r.1).map (fun e => leAt e 0 6)
     let wrong := entries.any (fun v => (List.range 3).any (fun i => decide (16384 ≤ v / 2 ^ (16 * i) % 65536)))
     ∃ u, exec (.lutLoadEnd t) s = .next u ∧ u.get 0 Reg.lutm_LOAD_STATUS_BUSY = 0 ∧ u.stateOf .lutm 0 = 0 ∧
       (r.2.1 = false → wrong = false → lutValid u k = true ∧ Tbl.get [] u.lutSlots k = entries ∧ hasEvent u .lutm 0 0 ∧
         ∀ j, j ≠ k → Tbl.get [] u.lutSlots j = Tbl.get [] s.lutSlots j) ∧
       (r.2.1 = true ∨ wrong = true → u.lutSlots = s.lutSlots ∧ lutValid u k = lutValid s k ∧ hasEvent u .lutm 0 1)) ∧
   (∀ (o : Origin) (large : Fin 256) (t : Nat) (s : State), Inv s → accessCode s o .lutm 0 0x40 1 = 0 →
     (partitionRefused s large.val = false →
       ∃ y, exec (.partitionWrite o large t) s = .next (after s y) ∧ y.get 0 Reg.lutm_PARTITION_LARGE = large.val ∧
         y.lutSlots = s.lutSlots ∧ ∀ k < 64, lutValid y k = lutValid s k) ∧
     (partitionRefused s large.val = true →
       exec (.partitionWrite o large t) s = .next (after s (logAccess .lutm 0 0x10 o.code 0x40 0 (onBus o .lutm 0 t s)))))) ∧
  ((∀ (n : Fin 48) (x : Frame) (g : List Nat) (t : Nat) (s : State), Inv s →
     (s.strm n.val).frames.find? (fun x => x.grid.isSome) = some x → x.grid = some g →
     ∃ y, exec (.gridReady n t) s = .next (headsFollow s y) ∧ (y.strm n.val).gridWaits = some g ∧
       y.get n.val Reg.strm_GRID_FROM_FRAME_NO = x.no % 2 ^ 32 ∧ hasEvent y .lutm 0 2 ∧
       y.dram = (dramWrite 0 (addrReg s n.val Reg.strm_TBL_ADDR_LO_ADDR Reg.strm_TBL_ADDR_HI_ADDR) (gridBytes g) s).dram) ∧
   (∀ (n : Fin 48) (x : Frame) (o : StatOut) (t : Nat) (s : State), Inv s →
     (s.strm n.val).frames.find? (fun x => x.stat.isSome && x.closed != 0) = some x → x.stat = some o →
     let record := recordBytes o.par o.acc x.tk.encode n.val o.ruleState o.ruleChanged x.metaArea x.metaTrunc x.yuv
     let wr := s.get n.val Reg.strm_STAT_RING_WR_INDEX
     ∃ y, exec (.statsReady n t) s = .next (headsFollow s y) ∧ y.dram = (dramWrite 0 o.addr record s).dram ∧
       (o.slot = wr → o.addr = statSlotAt s n.val wr → hasEvent y .evt 0 0 ∧
         y.get n.val Reg.strm_STAT_RING_WR_INDEX = (wr + 1) % max 1 (s.get n.val Reg.strm_STAT_RING_SLOTS_SLOTS) % 1024)) ∧
   (∀ (n : Fin 48) (k : Fin 4) (x : Frame) (d : Nat × Nat) (t : Nat) (s : State), Inv s →
     (s.strm n.val).frames.find? (fun x => x.closed != 0 && x.tapsDone.any (fun d => d.1 == k.val)) = some x →
     x.tapsDone.find? (fun d => d.1 == k.val) = some d →
     let f := Reg.strm_TAP_STATUS_FRAMES.at (0x20 * k.val)
     ∃ y, exec (.tapBufferComplete n k t) s = .next (headsFollow s y) ∧ y.get n.val f = (s.get n.val f + 1) % 2 ^ f.w ∧
       y.pool = (completeBuf d.2 x.tk (s.at t)).pool ∧ ∀ z ∈ (y.strm n.val).frames, z.no = x.no → ∀ e ∈ z.tapsDone, e.1 ≠ k.val) ∧
   (∀ (p : Fin 8) (t : Nat) (s : State), Inv s → s.get 0 (Reg.evt_PIN_CFG_TIMEOUT_MS.at (4 * p.val)) ≠ 0 →
     getBit (s.get 0 Reg.evt_PIN_STATE_FAILSAFE) p.val = false →
     ∃ y, exec (.pinFailsafe p t) s = .next (headsFollow s y) ∧ getBit (y.get 0 Reg.evt_PIN_STATE_FAILSAFE) p.val = true ∧
       hasEvent y .evt 0 5 ∧
       getBit (y.get 0 Reg.evt_PIN_STATE_ASSERTED) p.val = (s.get 0 (Reg.evt_PIN_CFG_ENABLE.at (4 * p.val)) == 1 &&
         (s.get 0 (Reg.evt_PIN_CFG_FAILSAFE.at (4 * p.val)) == 1 || (s.get 0 (Reg.evt_PIN_CFG_FAILSAFE.at (4 * p.val)) == 0 &&
           getBit (s.get 0 Reg.evt_PIN_STATE_ASSERTED) p.val)))))

/-! ### Raw codec engines (chapter 10) -/

/-- R237-R241: JOB_TAIL submits jobs; the job at JOB_HEAD ends with STATUS, CONSUMED and PRODUCED in its descriptor,
JOB_HEAD moves on and JOB_DONE is raised, with JOB_ERROR if STATUS is not 0; no byte of DRAM changes outside what the job
writes. R229, R230: the oldest segment, once its rows are in and its ticket is final, is written at SEG_WR, which moves to
its end. What a clause takes from a reading of the model's is in log entries 35 and 36. -/
def Obligations.RawJobsAndSegments : Prop :=
  ((∀ (o : Origin) (k : Fin 4) (index : Fin 4096) (t : Nat) (s : State), Inv s → accessCode s o .zraw k.val 0x64 1 = 0 →
     (index.val < s.get k.val Reg.zraw_JOB_RING_SLOTS →
       ∃ y, exec (.jobSubmit o k index t) s = .next (after s y) ∧ y.get k.val Reg.zraw_JOB_TAIL_INDEX = index.val ∧
         y.stateOf .zraw k.val = bit ((s.enabled .zraw k.val && s.get k.val Reg.zraw_CFG_JOB_EN == 1 &&
           s.get k.val Reg.zraw_JOB_HEAD_INDEX != index.val) || !(s.zraw k.val).segs.isEmpty)) ∧
     (s.get k.val Reg.zraw_JOB_RING_SLOTS ≤ index.val →
       exec (.jobSubmit o k index t) s = .next (after s (logAccess .zraw k.val 0x01 o.code 0x64 0 (onBus o .zraw k.val t s))))) ∧
   (∀ (k op : Fin 4) (t : Nat) (s : State), Inv s →
     let head := s.get k.val Reg.zraw_JOB_HEAD_INDEX
     let a := addrReg s k.val Reg.zraw_JOB_BASE_LO_ADDR Reg.zraw_JOB_BASE_HI_ADDR + 64 * head
     let d := memBytes s.dram a 64
     let j := Job.read d
     let e := if crc32c (d.take 40) ≠ leAt d 60 4 then JobEnd.untouched 0x0A else runJob s j
     let c := match op with
       | 0 => Instr.pixelEncodeJob k t
       | 1 => .pixelDecodeJob k t
       | 2 => .byteCompressJob k t
       | 3 => .byteDecompressJob k t
     s.enabled .zraw k.val = true → s.get k.val Reg.zraw_CFG_JOB_EN = 1 → head ≠ s.get k.val Reg.zraw_JOB_TAIL_INDEX →
     (j.op = op.val ∨ op = 0 ∧ 3 < j.op) → rangePoisoned s a 64 = false → a + 64 ≤ dramCapacity s →
     ∃ u, exec c s = .next u ∧ memBytes u.dram (a + 40) 12 = bytesLE 4 e.status ++ bytesLE 4 e.consumed ++ bytesLE 4 e.produced ∧
       u.get k.val Reg.zraw_JOB_HEAD_INDEX = (head + 1) % max 1 (s.get k.val Reg.zraw_JOB_RING_SLOTS) % 4096 ∧
       hasEvent u .zraw k.val 2 ∧ (e.status ≠ 0 → hasEvent u .zraw k.val 3) ∧
       (e.status = 0x11 → u.get k.val Reg.zraw_COUNTS_NO_GAIN =
         (s.get k.val Reg.zraw_COUNTS_NO_GAIN + 1) % 2 ^ Reg.zraw_COUNTS_NO_GAIN.w) ∧
       ∀ x, (∀ r ∈ (e.writes.map fun w => (w.1, w.2.length)) ++
           [(j.dst + e.produced, e.openBytes), (j.ctx, (e.ctx.getD []).length), (a + 40, 12)], x < r.1 ∨ r.1 + r.2 ≤ x) →
         memGet u.dram x = memGet s.dram x)) ∧
  (∀ (k : Fin 4) (g : ZSeg) (t : Nat) (s : State), Inv s → (s.zraw k.val).segs = [g] → g.rowCount ≤ g.rows.length →
     (g.last = true → (findFrame s g.stream g.frameNo).all (fun x => x.closed != 0) = true) →
     let a := if g.wrapped then 0 else 64 * s.get k.val Reg.zraw_SEG_WR_OFFSET
     let data := segBytes g (frameTicket s g.stream g.frameNo)
     ∃ y, exec (.segReady k t) s = .next (headsFollow s y) ∧ y.dram = (dramWrite 0 (segBase s k.val + a) data s).dram ∧
       y.get k.val Reg.zraw_SEG_WR_OFFSET = (a + data.length) / 64 % 2 ^ Reg.zraw_SEG_WR_OFFSET.w ∧ (y.zraw k.val).segs = [] ∧
       hasEvent y .zraw k.val 0)

/-! ### Encoders (chapter 11) -/

/-- R247, R251, R262, R264-R266: a coded CTU row counts in its picture and joins its slice, and a whole slice is released or
stalls its context; OUT_RD frees ring space; a stalled context that waits too long abandons its picture; GANG joins a pair
whose contexts are all off. What a clause takes from a reading of the model's is in log entry 39. -/
def Obligations.EncodersCode : Prop :=
  (∀ (c : Fin 128) (side : Fin 2) (ctus : List Nat) (data : List Byte) (t i : Nat) (p : EncPic) (s : State), Inv s →
    cget s c.val Reg.enc_CTX_STATUS_STATE = 2 → (s.enc c.val).pics.find? (fun p => !p.stored) = some p →
    codingSlice s c.val side.val p = some i → p.released = i →
    let e := (p.slices.find? (fun e => e.1 == i)).map (·.2)
    let have' := (e.map (·.rows)).getD []
    min (cget s c.val Reg.enc_CTX_GEOM_HEIGHT) ((i * sliceRows s c.val + have'.length + 1) * ctuSize s c.val) ≤ p.rowsIn →
    ∃ u, exec (.ctuRowDone c side ctus data t) s = .next u ∧
      (have'.length + 1 < min (sliceRows s c.val) (ctuRows s c.val - i * sliceRows s c.val) →
        ∃ q sl, encPicOf u c.val p.stream p.frameNo = some q ∧ q.coded = p.coded + 1 ∧ q.released = i ∧ (i, sl) ∈ q.slices ∧
          sl.rows = have' ++ [data] ∧
          q.spent = p.spent + (if e.isNone then headerBits s c.val p i ⟨[], if p.capped then p.slot.qpMax else p.qp,
            if p.capped then p.slot.qpMax else p.qp, false⟩ else 0) + ctus.sum) ∧
      (have'.length + 1 = min (sliceRows s c.val) (ctuRows s c.val - i * sliceRows s c.val) → i + 1 < sliceCount s c.val →
        p.slices.find? (fun e => e.1 == i + 1) = none →
        ((encPicOf u c.val p.stream p.frameNo).map (·.released) = some (i + 1) ∨
          (cget u c.val Reg.enc_CTX_STATUS_STATE = 3 ∧ hasEvent u .enc (c.val / 32) 4)))) ∧
  (∀ (o : Origin) (c : Fin 128) (off : BitVec 24) (t : Nat) (s : State), Inv s →
    let w := 0x1134 + ctxOff (c.val % 32)
    accessCode s o .enc (c.val / 32) w 1 = 0 → pktOwns s 0 c.val = false →
    (off.toNat < 16 * cget s c.val Reg.enc_CTX_OUT_SIZE_KIB →
      ∃ y, exec (.encOutRdWrite o c off t) s = .next (after s y) ∧ cget y c.val Reg.enc_CTX_OUT_RD_OFFSET = off.toNat ∧
        (cget s c.val Reg.enc_CTX_STATUS_STATE ≠ 3 → y.encs = s.encs ∧
          cget y c.val Reg.enc_CTX_STATUS_STATE = cget s c.val Reg.enc_CTX_STATUS_STATE) ∧
        (cget s c.val Reg.enc_CTX_STATUS_STATE = 3 → ∀ p, (s.enc c.val).pics.find? (fun p => !p.stored) = some p →
          p.slices.find? (fun e => e.1 == p.released) = none → cget y c.val Reg.enc_CTX_STATUS_STATE = 2)) ∧
    (16 * cget s c.val Reg.enc_CTX_OUT_SIZE_KIB ≤ off.toNat →
      exec (.encOutRdWrite o c off t) s =
        .next (after s (logAccess .enc (c.val / 32) 0x01 o.code w 0 (onBus o .enc (c.val / 32) t s))))) ∧
  (∀ (c : Fin 128) (t : Nat) (p : EncPic) (s : State), Inv s → cget s c.val Reg.enc_CTX_STATUS_STATE = 3 →
    (s.enc c.val).pics.find? (fun p => !p.stored) = some p →
    ∃ u, exec (.stallTimeout c t) s = .next u ∧ cget u c.val Reg.enc_CTX_STATUS_ABANDON_WHY = 2 ∧
      u.get (c.val / 32) Reg.enc_COUNTS_ABANDONED = (s.get (c.val / 32) Reg.enc_COUNTS_ABANDONED + 1) % 2 ^ Reg.enc_COUNTS_ABANDONED.w ∧
      encPicOf u c.val p.stream p.frameNo = none ∧ (u.enc c.val).gaps = (s.enc c.val).gaps + 1 ∧
      hasEvent u .enc (c.val / 32) 1 ∧ cget u c.val Reg.enc_CTX_STATUS_STATE ≠ 3) ∧
  (∀ (o : Origin) (e : Fin 4) (gang : Bool) (t : Nat) (s : State), Inv s → accessCode s o .enc e.val 0x40 1 = 0 →
    let pair := if e.val % 2 = 0 then e.val + 1 else e.val - 1
    let busy := (windowCtxs e.val ++ windowCtxs pair).any (contextOn s)
    (busy = true → exec (.gangWrite o e gang t) s = .next (after s (logAccess .enc e.val 0x10 o.code 0x40 0 (onBus o .enc e.val t s)))) ∧
    (busy = false → e.val % 2 = 0 →
      ∃ y, exec (.gangWrite o e gang t) s = .next (after s y) ∧ y.get e.val Reg.enc_ENGINE_CFG_GANG = bit gang ∧ y.encs = s.encs ∧
        y.get e.val Reg.enc_ENGINE_STATUS_GANGED = bit gang ∧ y.get pair Reg.enc_ENGINE_STATUS_GANGED = bit gang) ∧
    (busy = false → e.val % 2 = 1 → gang = true →
      exec (.gangWrite o e gang t) s = .next (after s (logAccess .enc e.val 0x01 o.code 0x40 0 (onBus o .enc e.val t s)))))

/-! ### Decoders (chapter 12) -/

/-- R275, R276: EN takes a decode context to SEEK with an empty DPB and back to OFF with its input ring empty; IN_WR adds
records, unless the packet engine feeds the ring. R273, R276-R279, R282, R285: a slice that an engine takes is decoded into
the picture in progress, or starts one in a buffer of OUT_LIST; its end counts its CTUs; PLI_REQUEST is raised again while
PLI_WANTED stands. What a clause takes from a reading of the model's is in log entries 9 and 41. -/
def Obligations.DecodersRun : Prop :=
  ((∀ (o : Origin) (c : Fin 64) (t : Nat) (s : State), Inv s →
     let w := 0x1100 + ctxOff (c.val % 32)
     let v := fun (e : Nat) => BitVec.ofNat 32 (wordWith s (c.val / 32) (Reg.dec_CTX_CFG_EN.at (ctxOff (c.val % 32))) e)
     accessCode s o .dec (c.val / 32) w 1 = 0 →
     (∀ e : Fin 2, (findRow w (regRows .dec)).all (fun r => rowInRange r.1 (v e.val)) = true ∧
       crossRange s .dec (c.val / 32) w (v e.val) = false) →
     (dget s c.val Reg.dec_CTX_CFG_EN = 0 →
       ∃ y, exec (.decCtxEnable o c t) s = .next (after s y) ∧ dget y c.val Reg.dec_CTX_CFG_EN = 1 ∧ decState y c.val = 1 ∧
         y.dec c.val = DecCtx.reset ∧ dget y c.val Reg.dec_CTX_IN_RD_OFFSET = dget s c.val Reg.dec_CTX_IN_RD_OFFSET) ∧
     (dget s c.val Reg.dec_CTX_CFG_EN = 1 →
       ∃ y, exec (.decCtxDisable o c t) s = .next (after s y) ∧ dget y c.val Reg.dec_CTX_CFG_EN = 0 ∧ decState y c.val = 0 ∧
         y.dec c.val = DecCtx.reset ∧ dget y c.val Reg.dec_CTX_IN_RD_OFFSET = dget s c.val Reg.dec_CTX_IN_WR_OFFSET ∧
         dget y c.val Reg.dec_CTX_STATUS_PLI_WANTED = 0)) ∧
   (∀ (o : Origin) (c : Fin 64) (off : BitVec 24) (t : Nat) (s : State), Inv s →
     let w := 0x1114 + ctxOff (c.val % 32)
     accessCode s o .dec (c.val / 32) w 1 = 0 →
     (dget s c.val Reg.dec_CTX_CFG_SRC = 0 → off.toNat < inUnits s c.val →
       ∃ y, exec (.decInWrWrite o c off t) s = .next (after s y) ∧ dget y c.val Reg.dec_CTX_IN_WR_OFFSET = off.toNat ∧ y.decs = s.decs) ∧
     (dget s c.val Reg.dec_CTX_CFG_SRC = 0 → inUnits s c.val ≤ off.toNat →
       exec (.decInWrWrite o c off t) s =
         .next (after s (logAccess .dec (c.val / 32) 0x01 o.code w 0 (onBus o .dec (c.val / 32) t s)))) ∧
     (dget s c.val Reg.dec_CTX_CFG_SRC = 1 →
       exec (.decInWrWrite o c off t) s =
         .next (after s (logAccess .dec (c.val / 32) 0x10 o.code w 0 (onBus o .dec (c.val / 32) t s)))))) ∧
  ((∀ (c : Fin 64) (h : SliceHdr) (t : Nat) (hdr : List Byte) (at' : Nat) (s : State), Inv s → sliceTurn s c.val = true →
     let w := walk c.val (walkFuel s c.val) (s.at t)
     let x := w.2
     w.1 = some (hdr, at') →
     (h.parse ≠ 0 →
       ∃ y u, exec (.decSliceStart c h t) s = .next u ∧
         u = headsFollow s (refreshDec (c.val / 32) (walk c.val (walkFuel y c.val) y).2) ∧ (y.dec c.val).off = at' + 1 ∧
         dget y c.val Reg.dec_CTX_COUNTS_SYNTAX =
           (dget x c.val Reg.dec_CTX_COUNTS_SYNTAX + h.broken + bit (h.parse = 1)) % 2 ^ Reg.dec_CTX_COUNTS_SYNTAX.w) ∧
     (h.parse = 0 → h.first = false → decState x c.val ≠ 1 → ((x.dec c.val).pic.bind (·.entry)).isSome →
       ∃ u, exec (.decSliceStart c h t) s = .next u ∧ (u.dec c.val).slice = some h ∧
         ((u.dec c.val).pic.bind (·.entry)) = ((x.dec c.val).pic.bind (·.entry))) ∧
     (∀ k d, h.parse = 0 → h.first = true → h.irap = true → h.prior = 0 → h.refs = [] → (x.dec c.val).pic = none →
       breaksProfile x c.val h = false → breaksLimits x c.val h = false → tooLate x c.val hdr h t = false →
       freeEntry x c.val = some k → (freeList x (dget x c.val Reg.dec_CTX_CFG_OUT_LIST)).head? = some d →
       (x.buf d).width = h.width → (x.buf d).height = h.height → (x.buf d).fmt = hdrFormat h →
       ∃ u e, exec (.decSliceStart c h t) s = .next u ∧ decState u c.val = 2 ∧ (u.dec c.val).slice = some h ∧
         ((u.dec c.val).pic.bind (·.entry)) = some k ∧ dpbEntry u c.val k = some e ∧ e.desc = d ∧ e.poc = h.poc ∧ e.owned = true)) ∧
   (∀ (c : Fin 64) (n : Nat) (bad : Bool) (ctus : List (Nat × List Nat)) (reads : List RefRead) (t : Nat) (h : SliceHdr) (p : DecPic)
     (e : DecEntry) (s : State), Inv s → (s.dec c.val).slice = some h → (s.dec c.val).pic = some p →
     p.entry.bind (dpbEntry s c.val) = some e →
     ∃ x u, exec (.decSliceDone c n bad ctus reads t) s = .next u ∧
       u = headsFollow s (refreshDec (c.val / 32) (walk c.val (walkFuel x c.val) x).2) ∧ (x.dec c.val).slice = none ∧
       ((x.dec c.val).pic.map (·.next)) = some (max p.next (min (h.addr + n) (hdrTotal h))) ∧
       dget x c.val Reg.dec_CTX_COUNTS_SYNTAX =
         (dget s c.val Reg.dec_CTX_COUNTS_SYNTAX + bit bad) % 2 ^ Reg.dec_CTX_COUNTS_SYNTAX.w) ∧
   (∀ (c : Fin 64) (t : Nat) (s : State), Inv s → dget s c.val Reg.dec_CTX_STATUS_PLI_WANTED = 1 →
     (s.dec c.val).pliAt + msT (dget s c.val Reg.dec_CTX_TIMING_PLI_RETRY_MS) ≤ t →
     ∃ u, exec (.pliRetry c t) s = .next u ∧ hasEvent u .dec (c.val / 32) 3 ∧ (u.dec c.val).pliAt = max s.now t))

/-! ### The buffer pool and the heads (chapters 13 and 14) -/

/-- R308, R311, R314: the five commands of BPOOL.CMD and what each leaves in the origin's CMD_RESULT; a refused one changes
no buffer. What a clause takes from a reading of the model's is in log entry 38. -/
def Obligations.PoolCommands : Prop :=
  ∀ (o : Origin) (t : Nat) (s : State), Inv s → Tbl.wf 0 s.pool.copies = true → accessCode s o .bpool 0 0x40 1 = 0 →
    let result := fun (y : State) (code d : Nat) => poolCopy y o.code 0x44 = 2 ^ 31 + 65536 * code + d
    (∀ (l : Fin 64), 
      (∀ d rest, freeList s l.val = d :: rest →
        ∃ y, exec (.bpoolAlloc o l t) s = .next (after s y) ∧ y.buf d = { s.buf d with st := 1, owner := 3, fresh := false, doneNo := 0 } ∧
          freeList y l.val = rest ∧ result y 0 d) ∧
      (freeList s l.val = [] →
        ∃ y, exec (.bpoolAlloc o l t) s = .next (after s y) ∧ y.pool.bufs = s.pool.bufs ∧ result y 4 0)) ∧
    ∀ (d : Fin 4096),
      let b := s.buf d.val
      ((b.owner = 3 ∧ b.st = 1 →
        ∃ y, exec (.bpoolComplete o d t) s = .next (after s y) ∧ y.buf d.val = { b with st := 2 } ∧ result y 0 d.val) ∧
      (¬(b.owner = 3 ∧ b.st = 1) →
        ∃ y, exec (.bpoolComplete o d t) s = .next (after s y) ∧ y.pool.bufs = s.pool.bufs ∧ result y 0x10 d.val)) ∧
      ((b.owner = 3 → b.st ≠ 0 → b.fetchers = [] → b.decClaims = 0 →
        ∃ y, exec (.bpoolRelease o d t) s = .next (after s y) ∧ y.buf d.val = { b with st := 0, owner := 0, fresh := false } ∧
          freeList y b.home = freeList s b.home ++ [d.val] ∧ result y 0 d.val) ∧
      (b.owner = 3 → b.fetchers ≠ [] →
        ∃ y, exec (.bpoolRelease o d t) s = .next (after s y) ∧ y.buf d.val = { b with owner := 0, fresh := false } ∧
          hasEvent y .bpool 0 0 ∧ result y 0 d.val) ∧
      (b.owner ≠ 3 →
        ∃ y, exec (.bpoolRelease o d t) s = .next (after s y) ∧ y.pool.bufs = s.pool.bufs ∧ result y 0x10 d.val)) ∧
      ((b.st = 0 → (copyBuf s o.code).good = true →
        ∃ y, exec (.bpoolWrite o d t) s = .next (after s y) ∧ y.buf d.val = copyBuf s o.code ∧
          (freeList y (copyBuf s o.code).home).getLast? = some d.val ∧ result y 0 d.val) ∧
      (b.st ≠ 0 → ∃ y, exec (.bpoolWrite o d t) s = .next (after s y) ∧ y.pool.bufs = s.pool.bufs ∧ result y 9 d.val) ∧
      (b.st = 0 → (copyBuf s o.code).good = false →
        ∃ y, exec (.bpoolWrite o d t) s = .next (after s y) ∧ y.pool.bufs = s.pool.bufs ∧ result y 1 d.val)) ∧
      ∃ y, exec (.bpoolRead o d t) s = .next (after s y) ∧ y.pool.bufs = s.pool.bufs ∧ result y 0 d.val ∧
        poolCopy y o.code 0x48 = b.addr % 2 ^ 32 ∧ poolCopy y o.code 0x4C = b.addr / 2 ^ 32 ∧
        poolCopy y o.code 0x50 = b.width + 65536 * b.height ∧ poolCopy y o.code 0x54 = b.fmt + 256 * b.pitch + 2 ^ 24 * b.home ∧
        poolCopy y o.code 0x58 = b.visX + 65536 * b.visY ∧ poolCopy y o.code 0x5C = b.visW + 65536 * b.visH ∧
        poolCopy y o.code 0x60 = b.st + 16 * b.owner + 65536 * (b.fetchers.length + b.decClaims)

/-- R305, R315, R321, R328, R337, R350: a refresh of a running head: its frame start is stamped and counted; each raster
line is taken once, a late one counts in UNDERRUN and goes out on the ports; the vblank instant shows the fetch margin and
raises VBLANK. R324-R327: a reference target that comes too early is ignored and counted; else the phase error is shown;
four targets in a row within 500 ns lock the head, and more than 2 us unlocks it; a lost reference puts it into HOLDOVER.
What a clause takes from a reading of the model's is in log entry 48. -/
def Obligations.HeadsRefreshAndLock : Prop :=
  ((∀ (h : Fin 4) (t : Nat) (s : State), Inv s → headRuns s h.val = true → (s.head h.val).blank = true →
     let now : Instant := ⟨4, clockAt s (s.get h.val Reg.head_REF_CFG_STAMP_DOMAIN) t⟩
     ∃ u, exec (.headFrameStart h t) s = .next u ∧ (u.head h.val).blank = false ∧ (u.head h.val).line = 0 ∧
       (u.head h.val).lastFs = some t ∧
       u.get h.val Reg.head_FRAME_COUNT_COUNT = (s.get h.val Reg.head_FRAME_COUNT_COUNT + 1) % 2 ^ 32 ∧
       u.get h.val Reg.head_FS_TIME_SEC_SEC = ofSigned 32 now.sec ∧ u.get h.val Reg.head_FS_TIME_NS_NS = now.ns % 2 ^ 32) ∧
   (∀ (h : Fin 4) (line : Nat) (late : Option Nat) (fill : List Nat) (t : Nat) (s : State), Inv s → headRuns s h.val = true →
     (s.head h.val).blank = false → (s.head h.val).line ≤ line → line < s.get h.val Reg.head_V_TIMING_V_ACTIVE →
     ∃ u, exec (.rasterLineStart h line late fill t) s = .next u ∧ (u.head h.val).line = line + 1 ∧
       (∀ x, late = some x → x < s.get h.val Reg.head_H_TIMING_H_ACTIVE → (u.head h.val).under = true ∧
         u.get h.val Reg.head_UNDERRUN_LINES = min (s.get h.val Reg.head_UNDERRUN_LINES + 1) (2 ^ Reg.head_UNDERRUN_LINES.w - 1)) ∧
       (∀ p, (clonesOf s h.val).filter (fun p => s.stateOf .dpo p == 3) = [p] → ∃ px, u.sent.head? = some (.video p line px))) ∧
   (∀ (h : Fin 4) (t : Nat) (s : State), Inv s → headRuns s h.val = true → (s.head h.val).blank = false →
     (s.hdr .head h.val).pendingCommit = false →
     ∃ u, exec (.vblank h t) s = .next u ∧ (u.head h.val).blank = true ∧ (u.head h.val).base = t ∧ hasEvent u .head h.val 8 ∧
       u.get h.val Reg.head_FETCH_MARGIN_MIN_NS = (s.head h.val).margin % 2 ^ Reg.head_FETCH_MARGIN_MIN_NS.w)) ∧
  (∀ (h : Fin 4) (t : Nat) (s : State), Inv s → headRuns s h.val = true →
     let x := s.head h.val
     let e := phaseError s h.val t
     let span := linesTime s h.val (s.get h.val Reg.head_REF_CFG_DIV * s.get h.val Reg.head_V_TIMING_V_TOTAL : Nat)
     (∀ l, s.get h.val Reg.head_REF_CFG_MODE ≠ 0 → x.lastTarget = some l → 2 * ((t : Int) - l) < span →
       ∃ u, exec (.refTarget h t) s = .next u ∧ hasEvent u .head h.val 14 ∧ u.heads = s.heads ∧
         u.get h.val Reg.head_UNDERRUN_REF_IGNORED =
           (s.get h.val Reg.head_UNDERRUN_REF_IGNORED + 1) % 2 ^ Reg.head_UNDERRUN_REF_IGNORED.w) ∧
     (s.get h.val Reg.head_REF_CFG_MODE ≠ 0 → (∀ l, x.lastTarget = some l → span ≤ 2 * ((t : Int) - l)) →
       ∃ u, exec (.refTarget h t) s = .next u ∧ u.get h.val Reg.head_LOCK_STATUS_PHASE_ERR_NS = satSigned 32 (e / 65536) ∧
         (u.head h.val).lastTarget = some t ∧
         (s.stateOf .head h.val = 2 → e.natAbs ≤ nsT 500 → 3 ≤ x.good → u.stateOf .head h.val = 3 ∧ hasEvent u .head h.val 10) ∧
         (s.stateOf .head h.val = 2 → nsT 500 < e.natAbs → (u.head h.val).good = 0 ∧ u.stateOf .head h.val = 2) ∧
         (s.stateOf .head h.val = 3 → e.natAbs ≤ nsT 2000 → u.stateOf .head h.val = 3) ∧
         (s.stateOf .head h.val = 3 → nsT 2000 < e.natAbs → u.stateOf .head h.val = 2 ∧ hasEvent u .head h.val 11)) ∧
     ((s.get h.val Reg.head_REF_CFG_MODE = 2 ∨ s.get h.val Reg.head_REF_CFG_MODE = 3) → s.stateOf .head h.val ≠ 4 →
       ∃ u, exec (.refLost h t) s = .next u ∧ u.stateOf .head h.val = 4 ∧ (u.head h.val).good = 0 ∧ hasEvent u .head h.val 12 ∧
         u.regs = s.regs))

/-- R304-R306, R34: at its boundary a head's commit is rejected by the first check that fails; applied if every fixed buffer
is COMPLETE; deferred, counted in LATE_COMMITS, or expired after DEADLINE deferrals, if not. What a clause takes from a
reading of the model's is in log entries 19 and 47. -/
def Obligations.HeadCommitsEvaluated : Prop :=
  ∀ (h t : Nat) (s : State), Inv s → h < 4 → (s.hdr .head h).pendingCommit = true →
    let r := readTables h s
    let u := evaluateHead h t s
    let hd := u.hdr .head h
    let limit := s.get h Reg.head_COMMIT_CFG_DEADLINE
    (∀ code detail, checkHead r h = some (code, detail) →
      hd.outcome = 4 ∧ hd.reason = code ∧ hd.pendingCommit = false ∧ u.stag = s.stag ∧ hasEvent u .head h 31) ∧
    (checkHead r h = none → notReady r h = .inr [] →
      hd.outcome = 2 ∧ hd.reason = 0 ∧ hd.pendingCommit = false ∧ hasEvent u .head h 31) ∧
    (∀ n late, checkHead r h = none → notReady r h = .inr (n :: late) → (limit = 0 ∨ (s.head h).defers < limit) →
      hd.outcome = 3 ∧ hd.reason = 7 ∧ hd.pendingCommit = true ∧ (u.head h).defers = (s.head h).defers + 1 ∧ hasEvent u .head h 0 ∧
        u.get h Reg.head_COUNTS_LATE_COMMITS =
          (s.get h Reg.head_COUNTS_LATE_COMMITS + 1) % 2 ^ Reg.head_COUNTS_LATE_COMMITS.w) ∧
    (∀ n late, checkHead r h = none → notReady r h = .inr (n :: late) → limit ≠ 0 → limit ≤ (s.head h).defers →
      hd.outcome = 4 ∧ hd.reason = 7 ∧ hd.pendingCommit = false ∧ hasEvent u .head h 1 ∧
        u.get h Reg.head_COUNTS_EXPIRED = (s.get h Reg.head_COUNTS_EXPIRED + 1) % 2 ^ Reg.head_COUNTS_EXPIRED.w)

/-! ### Display ports (chapter 14) -/

/-- R330, R333, R334: ENABLE, hot plug and unplug: a port that is enabled waits for HPD, reads the sink's capabilities when
it is plugged in, and is back in WAIT_HPD when it is unplugged, with error 0x14 if it was trained; disabled, it is OFF.
R334-R336: the training ladder: it starts from the top once the sink is read or the idle pattern ends; an attempt that
succeeds trains the link, one that fails goes to the next pair, and the last one takes the link down until it is retried.
What a clause takes from a reading of the model's is in log entry 50. -/
def Obligations.PortsPlugAndTrain : Prop :=
  (∀ (p : Fin 8) (t : Nat) (s : State), Inv s → (s.dpo p.val).sv = false →
     (∀ (o : Origin), accessCode s o .dpo p.val 0x04 1 = 0 →
       (s.stateOf .dpo p.val = 0 →
         (headRuns s (portHead s p.val) = false ∨ portFits s p.val (s.head (portHead s p.val)).clk = true) →
         ∃ y, exec (.dpoEnable o p t) s = .next (after s y) ∧ y.enabled .dpo p.val = true ∧
           y.stateOf .dpo p.val = (if s.get p.val Reg.dpo_LINK_STATUS_HPD = 1 then 2 else 1) ∧
           (s.get p.val Reg.dpo_LINK_STATUS_HPD = 1 → (y.dpo p.val).phase = 2 ∧ hasEvent y .dpo p.val 0)) ∧
       (headRuns s (portHead s p.val) = true → s.enabled .dpo p.val = false →
         portFits s p.val (s.head (portHead s p.val)).clk = false →
         exec (.dpoEnable o p t) s =
           .next (after s (logAccess .dpo p.val 0x06 o.code 0x04 (0x100 + p.val) (onBus o .dpo p.val t s)))) ∧
       ∃ y, exec (.dpoDisable o p t) s = .next (after s y) ∧ y.enabled .dpo p.val = false ∧ y.stateOf .dpo p.val = 0 ∧
         y.get p.val Reg.dpo_LINK_STATUS_LANES = 0 ∧ y.get p.val Reg.dpo_LINK_STATUS_RATE = 0) ∧
     (s.get p.val Reg.dpo_LINK_STATUS_HPD = 0 →
       ∃ u, exec (.hpdPlug p t) s = .next u ∧ u.get p.val Reg.dpo_LINK_STATUS_HPD = 1 ∧
         (s.stateOf .dpo p.val = 1 → u.stateOf .dpo p.val = 2 ∧ (u.dpo p.val).phase = 2 ∧ hasEvent u .dpo p.val 0) ∧
         (s.stateOf .dpo p.val = 0 → u.stateOf .dpo p.val = 0)) ∧
     (s.get p.val Reg.dpo_LINK_STATUS_HPD = 1 →
       ∃ u, exec (.hpdUnplug p t) s = .next u ∧ u.get p.val Reg.dpo_LINK_STATUS_HPD = 0 ∧
         (s.stateOf .dpo p.val ≠ 0 → u.stateOf .dpo p.val = 1 ∧ hasEvent u .dpo p.val 1 ∧
           u.get p.val Reg.dpo_LINK_STATUS_LANES = 0) ∧
         ((s.stateOf .dpo p.val = 3 ∨ s.stateOf .dpo p.val = 4) → (s.hdr .dpo p.val).errCode = 0 →
           (u.hdr .dpo p.val).errCode = 0x14)) ∧
     ∀ lost : Bool, s.get p.val Reg.dpo_LINK_STATUS_HPD = 1 →
       ∃ u, exec (.hpdIrq p lost t) s = .next u ∧
         u.get p.val Reg.dpo_COUNTS_HPD_IRQ = (s.get p.val Reg.dpo_COUNTS_HPD_IRQ + 1) % 2 ^ Reg.dpo_COUNTS_HPD_IRQ.w ∧
         (lost = true → s.stateOf .dpo p.val = 3 → u.stateOf .dpo p.val = 2 ∧ (u.dpo p.val).phase = 1 ∧
           (u.dpo p.val).start = some (linkPair s p.val)) ∧
         ((lost = false ∨ s.stateOf .dpo p.val ≠ 3) → hasEvent u .dpo p.val 2 ∧ u.dpos = s.dpos)) ∧
  (∀ (p : Fin 8) (t : Nat) (s : State), Inv s → (s.dpo p.val).sv = false →
     (s.stateOf .dpo p.val = 2 → (s.dpo p.val).phase = 2 → ∀ (rate : Fin 11) (lanes : Fin 5),
       (∃ u, exec (.capReadDone p true rate lanes t) s = .next u ∧ u.get p.val Reg.dpo_LINK_STATUS_SINK_RATE = rate.val ∧
         u.get p.val Reg.dpo_LINK_STATUS_SINK_LANES = lanes.val ∧ (u.dpo p.val).phase = 0 ∧
         (ladder u p.val = [] → u.stateOf .dpo p.val = 5) ∧
         ((s.dpo p.val).start = none → ladder u p.val ≠ [] → u.stateOf .dpo p.val = 2 ∧ (u.dpo p.val).pairs = ladder u p.val)) ∧
       ∃ u, exec (.capReadDone p false rate lanes t) s = .next u ∧ u.stateOf .dpo p.val = 5 ∧ hasEvent u .dpo p.val 5) ∧
     (s.stateOf .dpo p.val = 2 → (s.dpo p.val).phase = 1 →
       ∃ u, exec (.idlePatternEnd p t) s = .next u ∧ (u.dpo p.val).phase = 0 ∧ u.regs = s.regs ∧
         (u.dpo p.val).pairs = ladderFrom s p.val (s.dpo p.val).start ∧
         u.stateOf .dpo p.val = if ladderFrom s p.val (s.dpo p.val).start = [] then 5 else 2) ∧
     (∀ pair rest, s.stateOf .dpo p.val = 2 → (s.dpo p.val).phase = 0 → (s.dpo p.val).pairs = pair :: rest → pair.1 < 11 → pair.2 < 5 →
       (∃ u, exec (.trainAttemptEnd p true t) s = .next u ∧ u.get p.val Reg.dpo_LINK_STATUS_RATE = pair.1 ∧
         u.get p.val Reg.dpo_LINK_STATUS_LANES = pair.2 ∧ hasEvent u .dpo p.val 3 ∧ (u.dpo p.val).pairs = [] ∧
         ((s.dpo p.val).failed = true → hasEvent u .dpo p.val 4) ∧
         (headRuns s (portHead s p.val) = true → (u.dpo p.val).waits = true) ∧
         (headRuns s (portHead s p.val) = false → u.stateOf .dpo p.val = 4)) ∧
       ∃ u, exec (.trainAttemptEnd p false t) s = .next u ∧ (u.dpo p.val).pairs = rest ∧
         u.get p.val Reg.dpo_COUNTS_TRAIN_FAIL = (s.get p.val Reg.dpo_COUNTS_TRAIN_FAIL + 1) % 2 ^ Reg.dpo_COUNTS_TRAIN_FAIL.w ∧
         (rest = [] → u.stateOf .dpo p.val = 5 ∧ hasEvent u .dpo p.val 5) ∧
         (rest ≠ [] → u.stateOf .dpo p.val = 2)) ∧
     (s.stateOf .dpo p.val = 5 → (s.dpo p.val).downAt + msT (s.get p.val Reg.dpo_TRAIN_RETRY_MS) ≤ t →
       ∃ u, exec (.linkRetry p t) s = .next u ∧ (u.dpo p.val).pairs = ladder s p.val ∧
         u.stateOf .dpo p.val = if ladder s p.val = [] then 5 else 2))

/-- R339: a host AUX transaction goes on the wire at once unless the port's own reads run, ends with its result and bytes,
and is refused while BUSY. What a clause takes from a reading of the model's is in log entry 50. -/
def Obligations.AuxTransactions : Prop :=
  (∀ (o : Origin) (p : Fin 8) (op : Fin 8) (len : Fin 16) (addr : BitVec 20) (t : Nat) (s : State), Inv s →
    accessCode s o .dpo p.val 0x4C 1 = 0 →
    let c := Instr.auxStart o p op len addr t
    let data := if op.val = 0 ∨ op.val = 2 then (auxBytes s p.val).take (len.val + 1) else []
    (s.get p.val Reg.dpo_AUX_STATUS_BUSY = 1 → exec c s = .next (after s (logAccess .dpo p.val 0x10 o.code 0x4C 0 (onBus o .dpo p.val t s)))) ∧
    (op.val ≤ 4 → s.get p.val Reg.dpo_AUX_STATUS_BUSY = 0 → noSink s p.val = false → ownAux s p.val = false →
      ∃ y v, exec c s = .next (after s y) ∧ y.get p.val Reg.dpo_AUX_STATUS_BUSY = 1 ∧ (y.dpo p.val).aux = some (v, true) ∧
        y.sent = .aux p.val op.val addr.toNat data :: s.sent) ∧
    (op.val ≤ 4 → s.get p.val Reg.dpo_AUX_STATUS_BUSY = 0 → noSink s p.val = false → ownAux s p.val = true →
      ∃ y v, exec c s = .next (after s y) ∧ y.get p.val Reg.dpo_AUX_STATUS_BUSY = 1 ∧ (y.dpo p.val).aux = some (v, false) ∧
        y.sent = s.sent) ∧
    (op.val ≤ 4 → s.get p.val Reg.dpo_AUX_STATUS_BUSY = 0 → noSink s p.val = true →
      ∃ y, exec c s = .next (after s y) ∧ y.get p.val Reg.dpo_AUX_STATUS_BUSY = 0 ∧ y.get p.val Reg.dpo_AUX_STATUS_RESULT = 4 ∧
        hasEvent y .dpo p.val 8)) ∧
  (∀ (p : Fin 8) (v t : Nat) (s : State), Inv s → (s.dpo p.val).aux = some (v, false) → ownAux s p.val = false →
    ∃ u data, exec (.auxRun p t) s = .next u ∧ (u.dpo p.val).aux = some (v, true) ∧ u.regs = s.regs ∧
      u.sent = .aux p.val (v / 2 ^ 28 % 8) (v % 2 ^ 20) data :: s.sent) ∧
  (∀ (p : Fin 8) (result : Fin 4) (data : List Byte) (v t : Nat) (s : State), Inv s → (s.dpo p.val).aux = some (v, true) →
    noSink s p.val = false →
    ∃ u, exec (.auxDone p result data t) s = .next u ∧ (u.dpo p.val).aux = none ∧ u.get p.val Reg.dpo_AUX_STATUS_BUSY = 0 ∧
      u.get p.val Reg.dpo_AUX_STATUS_RESULT = result.val ∧ hasEvent u .dpo p.val 8 ∧
      (v / 2 ^ 28 % 8 = 1 → data.length = v / 2 ^ 24 % 16 + 1 → (auxBytes u p.val).take data.length = data))

/-! ### Check units, the packet engine and the panel protocol (chapters 15 and 16) -/

/-- R349: a write of CHKu_CFG: fields other than EN only while EN = 0, a USE or TARGET without meaning and a target that
another enabled unit serves are refused; any other write is taken, a unit that becomes enabled starts anew, and STATUS
counts the units. What a clause takes from a reading of the model's is in log entry 59. -/
def Obligations.CheckUnitsConfigured : Prop :=
  ∀ (o : Origin) (u : Fin 128) (cfg : Word) (t : Nat) (s : State), Inv s → accessCode s o .chk 0 (0x1040 + 0x10 * u.val) 1 = 0 →
    let c := Instr.chkCfgWrite o u cfg t
    let refused := fun (code d : Nat) =>
      exec c s = .next (after s (logAccess .chk 0 code o.code (0x1040 + 0x10 * u.val) d (onBus o .chk 0 t s)))
    let was := kget s u.val Reg.chk_CHKU_CFG
    let use := bitsOf cfg 28 2
    let target := bitsOf cfg 0 7
    let locked := getBit was 31 = true ∧ cfg.toNat &&& 0x330F007F ≠ was &&& 0x7FFFFFFF
    let senseless := use = 3 ∨ use = 0 ∧ 8 ≤ target
    let starts := getBit cfg.toNat 31 = true ∧ getBit was 31 = false
    (locked → refused 0x10 0) ∧
    (¬locked → senseless → refused 0x01 0) ∧
    (∀ w, ¬locked → ¬senseless → starts → unitFor s use target = some w → refused 0x04 w) ∧
    (¬locked → ¬senseless → (starts → unitFor s use target = none) →
      ∃ y, exec c s = .next (after s y) ∧ kget y u.val Reg.chk_CHKU_CFG = cfg.toNat &&& 0xB30F007F ∧
        (starts → y.chk u.val = ChkUnit.reset) ∧
        y.get 0 Reg.chk_STATUS_ENABLED = ((List.range 128).filter (fun k => kget y k Reg.chk_CHKU_CFG_EN == 1)).length ∧
        ∀ k : Fin 128, k ≠ u → kget y k.val Reg.chk_CHKU_CFG = kget s k.val Reg.chk_CHKU_CFG)

/-- R363: a link that goes down is counted and reported with event 1 and error 0x14, and every flow of its port
resynchronises; one that comes up on an enabled port puts it into state 2 with event 0. R376, R378, R379: a frame with an
error is counted; a flow takes the packet it expects, holds one that is early, counts one that is late and resynchronises
after a jump of more than 1,000; a held packet that has waited DELAY_US ends the wait with a loss; what matches no flow goes
to the exception ring, or is lost when that is full. What a clause takes from a reading of the model's is in log entries 63
and 68. -/
def Obligations.LinksAndFlowsReceive : Prop :=
  (∀ (n : Fin 4) (t : Nat) (s : State), Inv s →
     (s.get n.val Reg.net_STATUS_LINK = 0 → exec (.netLinkDown n t) s = .next (s.at t)) ∧
     (s.get n.val Reg.net_STATUS_LINK = 1 →
       ∃ u, exec (.netLinkDown n t) s = .next u ∧ u.get n.val Reg.net_STATUS_LINK = 0 ∧ u.get n.val Reg.net_STATUS_FEC_LOCK = 0 ∧
         u.stateOf .net n.val = 1 ∧ hasEvent u .net n.val 1 ∧
         u.get n.val Reg.net_STATUS_LINK_DOWNS = (s.get n.val Reg.net_STATUS_LINK_DOWNS + 1) % 2 ^ Reg.net_STATUS_LINK_DOWNS.w ∧
         ((s.hdr .net n.val).errCode = 0 → (u.hdr .net n.val).errCode = 0x14) ∧
         ∀ f : Fin 128, fget s f.val Reg.pkt_F_CFG_EN = 1 → fget s f.val Reg.pkt_F_CFG_PORT = n.val →
           (u.flow f.val).expect = none ∧ (u.flow f.val).held = []) ∧
     (s.get n.val Reg.net_STATUS_LINK = 0 → s.enabled .net n.val = true →
       ∃ u, exec (.netLinkUp n t) s = .next u ∧ u.get n.val Reg.net_STATUS_LINK = 1 ∧
         u.get n.val Reg.net_STATUS_FEC_LOCK =
           (if s.get n.val Reg.net_CFG_FEC = 1 ∧ s.get n.val Reg.net_CFG_SPEED = 0 then 1 else 0) ∧
         u.stateOf .net n.val = 2 ∧ hasEvent u .net n.val 0 ∧ u.flows = s.flows)) ∧
  ((∀ (n : Fin 4) (fcs : Bool) (frame : List Byte) (t : Nat) (s : State), Inv s → linkUp s n.val = true →
     let c := Instr.flowPacket n fcs frame t
     (classify s n.val fcs frame = .bad →
       exec c s = .next ((s.at t).inc n.val Reg.net_COUNTS_RX_BAD) ∧
       exec (.exceptionRx n fcs frame t) s = .next ((s.at t).inc n.val Reg.net_COUNTS_RX_BAD)) ∧
     (∀ f x, classify s n.val fcs frame = .flow f x → f < 128 → (s.flow f).held = [] →
       let q := rtpSeq x.data
       let d := flowDelta s f q
       let next := (q + 1) % 65536
       (d = 0 → ∃ u, exec c s = .next u ∧ (u.flow f).expect = some next ∧ fget u f Reg.pkt_F_STATUS_NEXT_SEQ = next ∧
         fget u f Reg.pkt_F_STATUS_QUEUED = 0) ∧
       (1 ≤ d → d ≤ 1000 → x.data.length ≤ 1024 * fget s f Reg.pkt_F_JB_CFG_SIZE_KIB →
         ∃ u, exec c s = .next u ∧ (u.flow f).expect = (s.flow f).expect ∧ (u.flow f).held.map (fun p => (p.seq, p.data)) = [(q, x.data)] ∧
           fget u f Reg.pkt_F_STATUS_QUEUED = 1) ∧
       (d < 0 → -1000 ≤ d → ∃ u, exec c s = .next u ∧ u.flows = s.flows ∧
         fget u f Reg.pkt_F_COUNTS_LATE_DUP = (fget s f Reg.pkt_F_COUNTS_LATE_DUP + 1) % 2 ^ Reg.pkt_F_COUNTS_LATE_DUP.w) ∧
       (d < -1000 ∨ 1000 < d → ∃ u, exec c s = .next u ∧ (u.flow f).expect = some next ∧ hasEvent u .pkt 0 4 ∧
         fget u f Reg.pkt_F_COUNTS_RESYNC = (fget s f Reg.pkt_F_COUNTS_RESYNC + 1) % 2 ^ Reg.pkt_F_COUNTS_RESYNC.w)) ∧
     (classify s n.val fcs frame = .exception →
       let wr := s.get 0 Reg.pkt_EXC_RX_IDX_WR
       let nx := (wr + 1) % max 1 (s.get 0 Reg.pkt_EXC_SLOTS_RX)
       ∃ u, exec (.exceptionRx n fcs frame t) s = .next u ∧
         (if nx = s.get 0 Reg.pkt_EXC_RX_IDX_RD then
           hasEvent u .pkt 0 6 ∧ u.get 0 Reg.pkt_EXC_RX_IDX_WR = wr ∧ keepsDram s u ∧
             u.get 0 Reg.pkt_COUNTS_EXC_LOST = (s.get 0 Reg.pkt_COUNTS_EXC_LOST + 1) % 2 ^ Reg.pkt_COUNTS_EXC_LOST.w
         else hasEvent u .pkt 0 5 ∧ u.get 0 Reg.pkt_EXC_RX_IDX_WR = nx))) ∧
   ∀ (f : Fin 128) (t : Nat) (s : State), Inv s →
     let delay := usT (fget s f.val Reg.pkt_F_JB_CFG_DELAY_US)
     ((∀ p ∈ (s.flow f.val).held, t < p.arrived + delay) → exec (.flowLoss f t) s = .next (showFlow f.val (s.at t))) ∧
     (∀ p, (s.flow f.val).held = [p] → (s.flow f.val).expect ≠ some p.seq → p.arrived + delay ≤ t →
       ∃ u, exec (.flowLoss f t) s = .next u ∧ (u.flow f.val).held = [] ∧ (u.flow f.val).expect = some ((p.seq + 1) % 65536) ∧
         hasEvent u .pkt 0 3 ∧ fget u f.val Reg.pkt_F_COUNTS_LOST = (fget s f.val Reg.pkt_F_COUNTS_LOST + 1) % 2 ^ Reg.pkt_F_COUNTS_LOST.w))

/-- R369-R373, R376, R377: SESSION_ENABLE starts a session with a full bucket and its first sequence number, or stops it; an
idle port sends a command reply first, else the packet that deficit round robin picks; PKT_SEND counts the packet that has
gone; the exception ring takes an index below SLOTS_TX only; a record nobody subscribes to stays; sender reports take no
sequence number. What a clause takes from a reading of the model's is in log entries 63 and 66. -/
def Obligations.SessionsSend : Prop :=
  (∀ (o : Origin) (i : Fin 4096) (cfg : Word) (t : Nat) (s : State), Inv s → accessCode s o .session i.val 0x40 1 = 0 →
    let c := Instr.sessionEnable o i cfg t
    let bad := badSource (cfg.toNat % 0x80000) = true ∨ getBit cfg.toNat 0 = true ∧ blockTooLong s (cfg.toNat % 0x80000) = true
    (bad → exec c s = .next (after s (logAccess .session i.val 0x01 o.code 0x40 0 (onBus o .session i.val t s)))) ∧
    (¬bad → ∃ y, exec c s = .next (after s y) ∧ y.get i.val Reg.session_S_CFG = cfg.toNat % 0x80000 ∧
      (getBit cfg.toNat 0 = true → s.get i.val Reg.session_S_CFG_EN = 0 →
        y.stateOf .session i.val = 1 ∧ y.get i.val Reg.session_S_STATUS_SEQ = s.get i.val Reg.session_S_STATUS_SEQ_INIT ∧
        (y.sessOf i.val).level = s.get i.val Reg.session_S_BUCKET_BYTES * tokenUnit ∧ (y.sessOf i.val).queue = []) ∧
      (getBit cfg.toNat 0 = false → s.get i.val Reg.session_S_CFG_EN = 1 → y.stateOf .session i.val = 0))) ∧
  (∀ (i : Fin 4096) (t : Nat) (s : State), Inv s →
    let n := s.get i.val Reg.session_S_CFG_PORT
    let x := s.net n
    linkUp s n = true → x.sending = .idle → (∀ d : Fin 4, ptpHead s d.val = none) → excHead s = none →
    (∀ f rest, x.replies = f :: rest →
      exec (.packetEligible i t) s = .next (((s.at t).emit (.frame n f)).setNet n { x with sending := .frame, replies := rest })) ∧
    (x.replies = [] → anyReady s n t = false →
      exec (.packetEligible i t) s = .next ((s.at t).setNet n { x with deficits := [] })) ∧
    (∀ j l r rest, x.replies = [] → x.cls < 8 → ready s n x.cls t = j :: l → (s.sessOf j).queue = r :: rest →
      dgramLen s j (s.pay r.pay) ≤ Tbl.get 0 x.deficits x.cls →
      ∃ u, exec (.packetEligible i t) s = .next u ∧ u.sent = .frame n (sessFrame s j r) :: s.sent ∧
        (u.net n).sending = .packet j r.pay ∧ (u.sessOf j).queue = rest)) ∧
  (∀ (n : Fin 4) (k i : Nat) (t : Nat) (s : State), Inv s → (s.net n.val).sending = .packet i k → i < 4096 → (s.pay k).kind ≠ 2 →
    ∃ u, exec (.pktSend n t) s = .next u ∧
      u.get i Reg.session_S_COUNTS_SENT = (s.get i Reg.session_S_COUNTS_SENT + 1) % 2 ^ Reg.session_S_COUNTS_SENT.w ∧
      ∀ j < 4096, j ≠ i → u.get j Reg.session_S_COUNTS_SENT = s.get j Reg.session_S_COUNTS_SENT) ∧
  (∀ (o : Origin) (index : Fin 4096) (t : Nat) (s : State), Inv s → accessCode s o .pkt 0 0x98 1 = 0 →
    (s.get 0 Reg.pkt_EXC_SLOTS_TX ≤ index.val →
      exec (.excTxSubmit o index t) s = .next (after s (logAccess .pkt 0 0x01 o.code 0x98 0 (onBus o .pkt 0 t s)))) ∧
    (index.val < s.get 0 Reg.pkt_EXC_SLOTS_TX →
      ∃ y, exec (.excTxSubmit o index t) s = .next (after s y) ∧ y.get 0 Reg.pkt_EXC_TX_IDX_WR = index.val)) ∧
  (∀ (c : Fin 128) (t : Nat) (s : State), Inv s →
    (subscribers s 0 c.val = [] → exec (.pktRecordIngest false c t) s = .next (s.at t)) ∧
    (subscribers s 2 c.val = [] → exec (.pktRecordIngest true c t) s = .next (s.at t))) ∧
  ∀ (t : Nat) (s : State), Inv s →
    (s.get 0 Reg.pkt_RTCP_CFG_SR_MS = 0 → exec (.senderReport t) s = .next (s.at t)) ∧
    ∃ u, exec (.senderReport t) s = .next u ∧ ∀ i : Fin 4096, u.get i.val Reg.session_S_STATUS_SEQ = s.get i.val Reg.session_S_STATUS_SEQ

/-- R381, R382: a request that is taken and not kept is executed, and its reply is kept: an echo has no data, a read gives
the words of its registers, a write stops at the first word that fails and names its code; one that repeats is not executed
again; a request that is refused is counted. What a clause takes from a reading of the model's is in log entries 52 and 54.
-/
def Obligations.PanelRequestsAnswered : Prop :=
  ∀ (n : Fin 4) (fcs : Bool) (frame : List Byte) (t : Nat) (s : State) (x : UdpRx), Inv s → linkUp s n.val = true →
    classify s n.val fcs frame = .command x →
    let s1 := { s.at t with pkt := { s.pkt with cmdCount := panelCount (s.at t) + 1, cmdMs := (s.at t).now / msT 1 } }
    let keeps := fun (u : State) (q : PanelReq) (reply : List Byte) =>
      u.pkt.replies.head? = some { addr := natBE x.src, port := x.sport, seq := q.seq, reply := reply }
    let known := fun (q : PanelReq) => s.pkt.replies.any (fun k => k.addr == natBE x.src && k.port == x.sport && k.seq == q.seq)
    (∀ q, panelFate (s.at t) n.val x = .taken q → known q = false →
      (q.op = 0 → ∃ u, exec (.cmdEcho n fcs frame t) s = .next u ∧ keeps u q (panelReply q 0 0 [])) ∧
      (q.op = 1 → q.addr + 4 * q.count ≤ 0x4000000 →
        ∃ u, exec (.cmdRead n fcs frame t) s = .next u ∧
          keeps u q (panelReply q q.count 0 ((List.range q.count).flatMap (fun i => bytesLE 4 (readReg s1 .net (q.addr + 4 * i)).toNat)))) ∧
      (∀ demand, q.op = 2 → q.addr + 4 * q.count ≤ 0x4000000 →
        ∃ u, exec (.cmdWrite n fcs frame demand t) s = .next u ∧
          keeps u q (panelReply q (panelWrites demand q.addr q.words 0 s1).1 (panelWrites demand q.addr q.words 0 s1).2.1 [])) ∧
      (q.op ≠ 0 → 0x4000000 < q.addr + 4 * q.count → ∀ demand,
        ∃ u, exec (if q.op = 1 then .cmdRead n fcs frame t else .cmdWrite n fcs frame demand t) s = .next u ∧
          (q.op ≤ 2 → keeps u q (panelReply q 0 0x01 [])))) ∧
    (∀ q demand, panelFate (s.at t) n.val x = .taken q → known q = true → q.op = 2 →
      ∃ u, exec (.cmdWrite n fcs frame demand t) s = .next u ∧ u.pkt.replies = s.pkt.replies) ∧
    (panelFate (s.at t) n.val x = .bad →
      ∃ u, exec (.cmdRefused n fcs frame t) s = .next u ∧ hasEvent u .pkt 0 7 ∧
        u.get 0 Reg.pkt_COUNTS_CMD_BAD = (s.get 0 Reg.pkt_COUNTS_CMD_BAD + 1) % 2 ^ Reg.pkt_COUNTS_CMD_BAD.w) ∧
    (panelFate (s.at t) n.val x = .limited →
      ∃ u, exec (.cmdRefused n fcs frame t) s = .next u ∧
        u.get 0 Reg.pkt_COUNTS_CMD_LIMITED = (s.get 0 Reg.pkt_COUNTS_CMD_LIMITED + 1) % 2 ^ Reg.pkt_COUNTS_CMD_LIMITED.w)

/-! ### Time (chapter 17) -/

/-- R391, R400-R404: the end of a measurement interval: a slave in TRACKING holds when its path delay has changed beyond the
threshold and enters HOLDOVER after LOSS_INTERVALS intervals without a Sync, which a later Sync ends; a domain that does not
measure and has no commit is left alone. R391, R402: a hold that ends with no Sync in its last interval becomes HOLDOVER;
else the domain slews by the measured offset and tracks, unless the cross-check differs beyond the threshold, which is
asymmetry; a slew that reaches zero is reported. What a clause takes from a reading of the model's is in log entry 76. -/
def Obligations.DomainsJudged : Prop :=
  (∀ (d : Fin 4) (t : Nat) (s : State), Inv s → (s.hdr .time d.val).pendingCommit = false →
     let c := Instr.measurementInterval d t
     let changed := pathChanged s (takeMeasures d.val s) d.val
     let silent := if (s.dom d.val).syncs = 0 then (s.dom d.val).silent + 1 else 0
     (measures s d.val = false → exec c s = .next (s.at t)) ∧
     (measures s d.val = true → s.stateOf .time d.val = 2 →
       ∃ u, exec c s = .next u ∧ (u.dom d.val).syncs = 0 ∧ (u.dom d.val).mpdCount = 0 ∧ (u.dom d.val).offCount = 0 ∧
         (u.dom d.val).silent = silent ∧ (changed = true → u.stateOf .time d.val = 3 ∧ hasEvent u .time d.val 2 ∧ u.get d.val Reg.time_STATUS_SLEWING = 0 ∧
           (u.dom d.val).holdEnd = holdUntil s d.val t ∧ u.get d.val Reg.time_COUNTS_PATH_HOLDS =
             (s.get d.val Reg.time_COUNTS_PATH_HOLDS + 1) % 2 ^ Reg.time_COUNTS_PATH_HOLDS.w) ∧
         (changed = false → s.get d.val Reg.time_PATH_CFG_LOSS_INTERVALS ≤ silent →
           u.stateOf .time d.val = 4 ∧ hasEvent u .time d.val 5 ∧ (u.dom d.val).lossHold = true ∧ (u.clk d.val).slewFrozen = true ∧
           u.get d.val Reg.time_COUNTS_LOSS_HOLDOVERS =
             (s.get d.val Reg.time_COUNTS_LOSS_HOLDOVERS + 1) % 2 ^ Reg.time_COUNTS_LOSS_HOLDOVERS.w) ∧
         (changed = false → silent < s.get d.val Reg.time_PATH_CFG_LOSS_INTERVALS →
           u.stateOf .time d.val = 2 ∧ u.clocks = s.clocks)) ∧
     (measures s d.val = true → s.stateOf .time d.val = 4 → s.get d.val Reg.time_STATUS_ASYM = 0 → (s.dom d.val).lossHold = true →
       (s.dom d.val).syncs ≠ 0 →
       ∃ u, exec c s = .next u ∧ u.stateOf .time d.val = 2 ∧ hasEvent u .time d.val 6 ∧ (u.dom d.val).lossHold = false ∧
         (u.clk d.val).slewFrozen = false)) ∧
  (∀ (d : Fin 4) (t : Nat) (s : State), Inv s →
     let c := Instr.holdEnd d t
     let x := (crossCheck d.val t s).1
     let thr := s.get d.val Reg.time_PATH_CFG_PATH_THR_NS
     (s.stateOf .time d.val ≠ 3 ∨ clockAt s d.val t < (s.dom d.val).holdEnd → exec c s = .next (s.at t)) ∧
     (s.stateOf .time d.val = 3 → (s.dom d.val).holdEnd ≤ clockAt s d.val t → (s.dom d.val).hadSync = false →
       ∃ u, exec c s = .next u ∧ u.stateOf .time d.val = 4 ∧ (u.dom d.val).lossHold = true ∧ hasEvent u .time d.val 5 ∧ u.clocks = s.clocks) ∧
     (s.stateOf .time d.val = 3 → (s.dom d.val).holdEnd ≤ clockAt s d.val t → (s.dom d.val).hadSync = true →
       (xcheckOk s d.val = false ∨ x ≤ thr →
         ∃ u, exec c s = .next u ∧ u.stateOf .time d.val = 2 ∧ hasEvent u .time d.val 6 ∧
           (u.clk d.val).slewLeft = -(measOffset s d.val) * two64 ∧ (u.clk d.val).raw t = (s.clk d.val).raw t ∧
           u.get d.val Reg.time_STATUS_SLEWING = (if measOffset s d.val = 0 then 0 else 1)) ∧
       (xcheckOk s d.val = true → thr < x →
         ∃ u, exec c s = .next u ∧ u.stateOf .time d.val = 4 ∧ u.get d.val Reg.time_STATUS_ASYM = 1 ∧ hasEvent u .time d.val 3 ∧
           u.clocks = s.clocks)) ∧
     (let ended := s.get d.val Reg.time_STATUS_SLEWING = 1 ∧ (s.clk d.val).slewFrozen = false ∧ (s.clk d.val).left t = 0
      (¬ended → exec (.slewDone d t) s = .next (s.at t)) ∧
      (ended → ∃ u, exec (.slewDone d t) s = .next u ∧ u.get d.val Reg.time_STATUS_SLEWING = 0 ∧ hasEvent u .time d.val 1 ∧
        (u.clk d.val).raw t = (s.clk d.val).raw t ∧ (u.clk d.val).slewLeft = 0)))

/-- R392, R403, R407, R409: CMD: STEP moves a clock in FREE by the STEP registers and makes it track; ACCEPT ends an
asymmetry with a slew of minus the offset; SNAP takes every clock at one instant; a STEP or ACCEPT in another state, or of
TIMEL, sets 0x10. R405, R406: an edge of TIME_PPS_IN is taken in every clock unless it follows another within 100 ns;
TIME_PPS_OUT rises while it is enabled, not within its width of the last rise, and falls. What a clause takes from a reading
of the model's is in log entry 76. -/
def Obligations.ClockCommandsAndPins : Prop :=
  (∀ (o : Origin) (d : Fin 5) (t : Nat) (s : State), Inv s →
     let b : Block := if d.val < 4 then .time else .timel
     let n := if d.val < 4 then d.val else 0
     let now := max s.now t
     accessCode s o b n 0x64 1 = 0 →
     let wrong := after s (logAccess b n 0x10 o.code 0x64 0 (onBus o b n t s))
     (d.val < 4 → s.stateOf .time n = 1 → ∃ y, exec (.timeStep o d t) s = .next (after s y) ∧ y.stateOf .time n = 2 ∧
       y.get n Reg.time_STATUS_STEPPED = 1 ∧ hasEvent y .time n 0 ∧ (y.clk n).raw now = (s.clk n).raw now + stepOf s n) ∧
     (4 ≤ d.val ∨ s.stateOf .time n ≠ 1 → exec (.timeStep o d t) s = .next wrong) ∧
     (d.val < 4 → s.stateOf .time n = 4 → s.get n Reg.time_STATUS_ASYM = 1 →
       ∃ y, exec (.timeAccept o d t) s = .next (after s y) ∧ y.stateOf .time n = 2 ∧ y.get n Reg.time_STATUS_ASYM = 0 ∧
         hasEvent y .time n 4 ∧ (y.clk n).slewLeft = -(measOffset s n) * two64) ∧
     (4 ≤ d.val ∨ s.stateOf .time n ≠ 4 ∨ s.get n Reg.time_STATUS_ASYM = 0 → exec (.timeAccept o d t) s = .next wrong) ∧
     (∃ y, exec (.timeSnap o d t) s = .next (after s y) ∧ y.clocks = s.clocks ∧
       (∀ k : Fin 4, let x : Instant := ⟨k.val, clockAt s k.val now⟩
         y.get k.val Reg.time_SNAP_SEC_LO_VALUE = ofSigned 32 x.sec ∧ y.get k.val Reg.time_SNAP_NS_VALUE = x.ns ∧
         y.get k.val Reg.time_SNAP_FRAC_VALUE = x.frac) ∧
       (let x : Instant := ⟨4, (now : Int)⟩
        y.get 0 Reg.timel_SNAP_SEC_LO_VALUE = ofSigned 32 x.sec ∧ y.get 0 Reg.timel_SNAP_NS_VALUE = x.ns ∧
          y.get 0 Reg.timel_SNAP_FRAC_VALUE = x.frac))) ∧
  (∀ (t : Nat) (s : State), Inv s →
     (s.ppsIn ≠ 0 ∧ t + 1 < s.ppsIn + nsT 100 → exec (.ppsIn t) s = .next (s.at t)) ∧
     (s.ppsIn = 0 ∨ s.ppsIn + nsT 100 ≤ t + 1 →
       ∃ u, exec (.ppsIn t) s = .next u ∧ u.ppsIn = t + 1 ∧ hasEvent u .timel 0 10 ∧
         (∀ d : Fin 4, let x : Instant := ⟨d.val, clockAt s d.val t⟩
           u.get d.val Reg.time_PPS_IN_SEC_VALUE = ofSigned 32 x.sec ∧ u.get d.val Reg.time_PPS_IN_NS_VALUE = x.ns) ∧
         u.get 0 Reg.timel_PPS_IN_NS_VALUE = (Instant.mk 4 (t : Int)).ns) ∧
     (let width := msT (s.get 0 Reg.timel_IO_CFG_PPS_WIDTH_MS)
      let off := s.get 0 Reg.timel_IO_CFG_PPS_EN = 0 ∨ s.ppsRise ≠ 0 ∧ t + 1 < s.ppsRise + width
      (off → exec (.ppsOutEdge t) s = .next (s.at t)) ∧
      (¬off → exec (.ppsOutEdge t) s = .next { s.at t with ppsRise := t + 1, pins := { s.pins with ppsOut := true } })) ∧
     exec (.ppsOutEnd t) s = .next { s.at t with pins := { s.pins with ppsOut := false } })

/-- R396-R399: a PTP message goes to the receive ring of each domain that matches, or is counted as lost when the ring is
full and as unmatched when none does; an index below SLOTS_TX submits; a frame departs with what its OP asks for, and its
slot is done with. What a clause takes from a reading of the model's is in log entry 62. -/
def Obligations.PtpRings : Prop :=
  (∀ (n : Fin 4) (fcs : Bool) (frame : List Byte) (t : Nat) (s : State), Inv s → linkUp s n.val = true →
    (classify s n.val fcs frame = .bad → exec (.ptpRx n fcs frame t) s = .next ((s.at t).inc n.val Reg.net_COUNTS_RX_BAD)) ∧
    ∀ m transport src sport, classify s n.val fcs frame = .ptp → ptpOf (s.get n.val Reg.net_CFG_MTU) frame = some (m, transport, src, sport) →
      ((∀ d : Fin 4, ptpMatches s d.val n.val transport m = false) →
        exec (.ptpRx n fcs frame t) s = .next ((s.at t).inc 0 Reg.timel_UNMATCHED_COUNT)) ∧
      ∃ u, exec (.ptpRx n fcs frame t) s = .next u ∧ ∀ d : Fin 4,
        let wr := s.get d.val Reg.time_RX_IDX_WR
        let nx := (wr + 1) % max 1 (s.get d.val Reg.time_RING_SLOTS_RX)
        (ptpMatches s d.val n.val transport m = false → u.get d.val Reg.time_RX_IDX_WR = wr ∧ u.dom d.val = s.dom d.val) ∧
        (ptpMatches s d.val n.val transport m = true → nx ≠ s.get d.val Reg.time_RX_IDX_RD →
          u.get d.val Reg.time_RX_IDX_WR = nx ∧ hasEvent u .time d.val 7) ∧
        (ptpMatches s d.val n.val transport m = true → nx = s.get d.val Reg.time_RX_IDX_RD →
          u.get d.val Reg.time_RX_IDX_WR = wr ∧ hasEvent u .time d.val 8 ∧
          u.get d.val Reg.time_COUNTS_RX_LOST = (s.get d.val Reg.time_COUNTS_RX_LOST + 1) % 2 ^ Reg.time_COUNTS_RX_LOST.w)) ∧
  (∀ (o : Origin) (d : Fin 4) (index : Fin 4096) (t : Nat) (s : State), Inv s → accessCode s o .time d.val 0xA4 1 = 0 →
    (s.get d.val Reg.time_RING_SLOTS_TX ≤ index.val →
      exec (.ptpTxSubmit o d index t) s = .next (after s (logAccess .time d.val 0x01 o.code 0xA4 0 (onBus o .time d.val t s)))) ∧
    (index.val < s.get d.val Reg.time_RING_SLOTS_TX →
      ∃ y, exec (.ptpTxSubmit o d index t) s = .next (after s y) ∧ y.get d.val Reg.time_TX_IDX_WR = index.val)) ∧
  ∀ (d : Fin 4) (t : Nat) (s : State), Inv s →
    ((∀ n : Fin 4, (s.net n.val).sending ≠ .ptp d.val) → exec (.ptpTxDepart d t) s = .next (s.at t)) ∧
    ∀ (n : Fin 4) (a : Nat), (s.net n.val).sending = .ptp d.val → (∀ m : Fin 4, m.val < n.val → (s.net m.val).sending ≠ .ptp d.val) →
      ptpHead s d.val = some a →
      let b := (readOpen 0 a 512 (s.at t)).1
      ∃ u, exec (.ptpTxDepart d t) s = .next u ∧ (u.net n.val).sending = .frame ∧
        u.get d.val Reg.time_TX_IDX_RD = (s.get d.val Reg.time_TX_IDX_RD + 1) % max 1 (s.get d.val Reg.time_RING_SLOTS_TX) ∧
        (leAt b 3 1 / 8 % 2 = 1 → hasEvent u .time d.val 9) ∧
        (leAt b 3 1 % 4 < 2 → Emit.frame n.val (departFrame b [] ⟨d.val, clockAt s d.val t⟩) ∈ u.sent)

/-! ### Audio (chapter 18) -/

/-- R412, R414: the states of an audio port by command: ENABLE, ARM (refused outside IDLE, and with 0x06 for clocks that do
not fit), STOP, and the end of STOPPING. R415: the trigger: GO is refused while one is pending, for a domain that does not
exist and for an instant that is too soon; it starts masters silently, and when its instant comes they run from position 0
and armed slaves go to SILENT, from which they run. What a clause takes from a reading of the model's is in log entry 75. -/
def Obligations.AudioPortsStartAndStop : Prop :=
  (∀ (n : Fin 16) (t : Nat) (s : State), Inv s →
     (∀ o : Origin, accessCode s o .aud n.val 0x04 1 = 0 →
       (∃ y, exec (.audEnable o n t) s = .next (after s y) ∧ y.enabled .aud n.val = true ∧
         y.stateOf .aud n.val = (if s.stateOf .aud n.val = 0 then 1 else s.stateOf .aud n.val)) ∧
       ∃ y, exec (.audDisable o n t) s = .next (after s y) ∧ y.enabled .aud n.val = false ∧ y.stateOf .aud n.val = 0 ∧
         y.aud n.val = Aud.reset ∧ y.get n.val Reg.aud_STATUS_HOLDING = 0 ∧ y.get n.val Reg.aud_STATUS_CLOCK_LOST = 0 ∧
         y.get n.val Reg.aud_RING_IDX_DEV_IDX = s.get n.val Reg.aud_RING_IDX_DEV_IDX) ∧
     (∀ o : Origin, accessCode s o .aud n.val 0x64 1 = 0 →
       (s.stateOf .aud n.val ≠ 1 →
         exec (.audArm o n t) s = .next (after s (logAccess .aud n.val 0x10 o.code 0x64 0 (onBus o .aud n.val t s)))) ∧
       (s.stateOf .aud n.val = 1 → armRefused s n.val = true →
         exec (.audArm o n t) s = .next (after s (logAccess .aud n.val 0x06 o.code 0x64 0 (onBus o .aud n.val t s)))) ∧
       (s.stateOf .aud n.val = 1 → armRefused s n.val = false →
         exec (.audArm o n t) s = .next (after s ((onBus o .aud n.val t s).setState .aud n.val 2))) ∧
       ∃ y, exec (.audStop o n t) s = .next (after s y) ∧
         (s.stateOf .aud n.val = 2 → y.stateOf .aud n.val = 1) ∧
         (s.stateOf .aud n.val = 4 → y.stateOf .aud n.val = 5 ∧ (y.aud n.val).hold = none ∧
           (y.aud n.val).stopping = !audOutput s n.val) ∧
         (s.stateOf .aud n.val ≠ 2 → s.stateOf .aud n.val ≠ 4 → y = onBus o .aud n.val t s)) ∧
     (s.stateOf .aud n.val = 5 → ∃ u, exec (.stopComplete n t) s = .next u ∧ u.stateOf .aud n.val = 1 ∧ hasEvent u .aud n.val 1) ∧
     (s.stateOf .aud n.val ≠ 5 → exec (.stopComplete n t) s = .next (s.at t))) ∧
  ((∀ (o : Origin) (dom : Fin 8) (mask : Fin 65536) (t : Nat) (s : State), Inv s → accessCode s o .amclk 0 0x8C 1 = 0 →
     let c := Instr.startGo o dom mask t
     let soon := startTooSoon (s.at t) dom.val (startInstant s) mask.val
     let refused := fun code => exec c s = .next (after s (logAccess .amclk 0 code o.code 0x8C 0 (onBus o .amclk 0 t s)))
     (s.trigger.isSome = true → refused 0x10) ∧
     (s.trigger = none → 4 < dom.val → refused 0x01) ∧
     (s.trigger = none → dom.val ≤ 4 → soon = true → refused 0x10) ∧
     (s.trigger = none → dom.val ≤ 4 → soon = false →
       ∃ y, exec c s = .next (after s y) ∧ y.trigger = some { dom := dom.val, val := startInstant s, mask := mask.val } ∧
         y.get 0 Reg.amclk_START_CTRL_PENDING = 1)) ∧
   (∀ (n : Fin 16) (t : Nat) (s : State) (g), s.trigger = some g →
     (getBit g.mask n.val = true → audMaster s n.val = true → s.stateOf .aud n.val = 2 →
       exec (.silentStart n t) s = .next ((s.at t).setState .aud n.val 3)) ∧
     (getBit g.mask n.val = false ∨ audMaster s n.val = false ∨ s.stateOf .aud n.val ≠ 2 →
       exec (.silentStart n t) s = .next (s.at t))) ∧
   (∀ (t : Nat) (s : State) (g), Inv s → s.trigger = some g →
     (clockAt s g.dom t < g.val → exec (.startFired none t) s = .next (s.at t)) ∧
     (g.val ≤ clockAt s g.dom t →
       ∃ u, exec (.startFired none t) s = .next u ∧ u.trigger = none ∧ u.get 0 Reg.amclk_START_CTRL_PENDING = 0 ∧ hasEvent u .amclk 0 0 ∧
         ∀ n : Fin 16,
           (getBit g.mask n.val = false → u.stateOf .aud n.val = s.stateOf .aud n.val ∧ u.aud n.val = s.aud n.val) ∧
           (getBit g.mask n.val = true → s.stateOf .aud n.val = 3 → audMaster s n.val = true →
             u.stateOf .aud n.val = 4 ∧ (u.aud n.val).pos = 0 ∧ (u.aud n.val).t0 = t ∧ hasEvent u .aud n.val 0) ∧
           (getBit g.mask n.val = true → s.stateOf .aud n.val = 2 → u.stateOf .aud n.val = 3))) ∧
   ∀ (n : Fin 16) (t : Nat) (s : State), Inv s →
     (s.stateOf .aud n.val ≠ 3 → exec (.startFired (some n) t) s = .next (s.at t)) ∧
     (s.stateOf .aud n.val = 3 →
       ∃ u, exec (.startFired (some n) t) s = .next u ∧ u.stateOf .aud n.val = 4 ∧ (u.aud n.val).pos = 0 ∧ (u.aud n.val).t0 = t ∧
         hasEvent u .aud n.val 0))

/-- R418-R422: a running input writes the block it has captured into its ring or counts an overrun; an output sends the
block that starts at its position, or underruns and repeats until the hold limit; a slave's lost clock and its return are
reported, and so is a rate that changes. What a clause takes from a reading of the model's is in log entry 75. -/
def Obligations.AudioBlocksAndClocks : Prop :=
  ∀ (n : Fin 16) (t : Nat) (s : State), Inv s →
    let a := s.aud n.val
    let dev := s.get n.val Reg.aud_RING_IDX_DEV_IDX
    let sw := s.get n.val Reg.aud_RING_IDX_SW_IDX
    let dry := a.hold = none ∧ a.fill = []
    (∀ (start : Nat) (raw : List (List Nat)), s.stateOf .aud n.val = 4 → audOutput s n.val = false → a.lostInBlock = false →
      s.get n.val Reg.aud_STATUS_CLOCK_LOST = 0 → raw.length = audFrames s n.val →
      ∃ u, exec (.blockReady n start (raw.map some) t) s = .next u ∧ (u.aud n.val).pos = (a.pos + raw.length) % 2 ^ 32 ∧
        (audNext s n.val dev = sw → u.get n.val Reg.aud_RING_IDX_DEV_IDX = dev ∧ hasEvent u .aud n.val 3 ∧
          u.get n.val Reg.aud_COUNTS_OVERRUN = (s.get n.val Reg.aud_COUNTS_OVERRUN + 1) % 2 ^ Reg.aud_COUNTS_OVERRUN.w) ∧
        (audNext s n.val dev ≠ sw → u.get n.val Reg.aud_RING_IDX_DEV_IDX = audNext s n.val dev ∧ hasEvent u .aud n.val 7)) ∧
    (∀ pos, s.stateOf .aud n.val = 4 → audOutput s n.val = true → dry → pos = a.pos → dev = sw →
      ∃ u, exec (.outputBlock n pos t) s = .next u ∧ (u.aud n.val).hold = some pos ∧ hasEvent u .aud n.val 2 ∧
        u.get n.val Reg.aud_STATUS_HOLDING = 1 ∧ u.get n.val Reg.aud_RING_IDX_DEV_IDX = dev ∧
        u.get n.val Reg.aud_COUNTS_UNDERRUN = (s.get n.val Reg.aud_COUNTS_UNDERRUN + 1) % 2 ^ Reg.aud_COUNTS_UNDERRUN.w) ∧
    (let b := (readOpen 0 (audSlotAddr s n.val dev) (audSlotSize s n.val) (s.at t)).1
     ∀ pos, s.stateOf .aud n.val = 4 → audOutput s n.val = true → dry → pos = a.pos → dev ≠ sw → pos < 2 ^ 32 → leAt b 0 4 = pos →
      s.get n.val Reg.aud_STATUS_CLOCK_LOST = 0 →
      ∃ u frames, exec (.outputBlock n pos t) s = .next u ∧ Emit.audio n.val pos frames ∈ u.sent ∧
        frames.length = min (leAt b 4 2) (audFrames s n.val) ∧ (u.aud n.val).pos = pos + frames.length ∧ (u.aud n.val).hold = none ∧
        u.get n.val Reg.aud_RING_IDX_DEV_IDX = audNext s n.val dev) ∧
    (∀ p, a.hold = some p → audOutput s n.val = true → s.stateOf .aud n.val = 4 → a.zero = false →
      ∃ u, exec (.holdLimit n t) s = .next u ∧ (u.aud n.val).zero = true ∧ (u.aud n.val).pos = max a.pos (p + audLimit s n.val)) ∧
    (a.hold = none ∨ a.zero = true → exec (.holdLimit n t) s = .next (s.at t)) ∧
    (∀ pos, audMaster s n.val = false → 3 ≤ s.stateOf .aud n.val → s.get n.val Reg.aud_STATUS_CLOCK_LOST = 0 →
      ∃ u, exec (.clockLost n pos t) s = .next u ∧ u.get n.val Reg.aud_STATUS_CLOCK_LOST = 1 ∧ hasEvent u .aud n.val 5 ∧
        u.get n.val Reg.aud_POS_POS = pos % 2 ^ 32 ∧ (u.aud n.val).lostInBlock = true ∧
        u.get n.val Reg.aud_COUNTS_CLOCK_LOST = (s.get n.val Reg.aud_COUNTS_CLOCK_LOST + 1) % 2 ^ Reg.aud_COUNTS_CLOCK_LOST.w) ∧
    (s.get n.val Reg.aud_STATUS_CLOCK_LOST = 0 → exec (.clockBack n t) s = .next (s.at t)) ∧
    (s.get n.val Reg.aud_STATUS_CLOCK_LOST = 1 →
      ∃ u, exec (.clockBack n t) s = .next u ∧ u.get n.val Reg.aud_STATUS_CLOCK_LOST = 0 ∧ hasEvent u .aud n.val 6 ∧
        (u.aud n.val).ref = none) ∧
    (∀ rate, s.stateOf .aud n.val = 4 → s.get n.val Reg.aud_STATUS_CLOCK_LOST = 0 →
      ∃ u, exec (.audRateMeasure n rate t) s = .next u ∧ u.get n.val Reg.aud_RATE_MEAS_RATE = rate % 2 ^ Reg.aud_RATE_MEAS_RATE.w ∧
        (a.ref = none → (u.aud n.val).ref = some rate) ∧
        ∀ r, a.ref = some r →
          (1000 * ((rate - r) + (r - rate)) > r ∨ rateFamily rate ≠ rateFamily r → (u.aud n.val).ref = some rate ∧ hasEvent u .aud n.val 4) ∧
          (¬(1000 * ((rate - r) + (r - rate)) > r ∨ rateFamily rate ≠ rateFamily r) → u.auds = s.auds ∧ u.hdrs = s.hdrs))

/-! ### External memory (chapter 19) -/

/-- R434, R440, R441, R450: training makes a subchannel READY or fails it with events 4 and 7 and error 0x0C; an oscillator
beyond its threshold asks for a retraining change; MR4 shows a hot subchannel; a refresh changes nothing that can be seen.
R446-R448: software retires a rank in service only; it is relined onto its own subchannel's spare, or else the lowest, and
stays retired with event 5 without one; each segment advances the watermark, and the last gives the spare its role. What a
clause takes from a reading of the model's is in log entries 71 and 73. -/
def Obligations.MemoryTrainsAndRelines : Prop :=
  (∀ (sub : Fin 8) (t : Nat) (s : State), Inv s →
     let c := sub.val / 2
     (∀ ok, subState s sub.val ≠ 1 → exec (.ddrcTrainingDone sub ok t) s = .next (memFollow s (s.at t))) ∧
     (subState s sub.val = 1 →
       (∃ y, exec (.ddrcTrainingDone sub true t) s = .next (memFollow s y) ∧ subState y sub.val = 2 ∧ y.mem = s.mem) ∧
       ∃ y, exec (.ddrcTrainingDone sub false t) s = .next (memFollow s y) ∧ subState y sub.val = 3 ∧ hasEvent y .ddrc c 4 ∧
         hasEvent y .ddrc c 7 ∧ ((s.hdr .ddrc c).errCode = 0 → (y.hdr .ddrc c).errCode = 0x0C) ∧
         ∀ r < 16, r / 2 = sub.val → rankRole s r = 2 → rankRole y r = 3) ∧
     (∀ demand, exec (.trackTick sub false demand t) s = .next (memFollow s (s.at t))) ∧
     (∀ demand, subState s sub.val = 2 → s.mem.freq ≠ 0 →
       ∃ y, exec (.trackTick sub true demand t) s = .next (memFollow s y) ∧ y.mem = { s.mem with track := true } ∧
         hasEvent y .ddrc c 5) ∧
     (∀ demand, subState s sub.val = 2 → s.mem.freq = 0 →
       demand * 100 ≤ 70 * populatedPeak s (s.get 0 Reg.memx_FREQ_STATUS_CURRENT) →
       ∃ y, exec (.trackTick sub true demand t) s = .next (memFollow s y) ∧ y.mem.freq = 1 ∧ y.mem.track = false ∧
         y.mem.target = s.get 0 Reg.memx_FREQ_STATUS_CURRENT ∧ y.get 0 Reg.memx_FREQ_STATUS_BUSY = 1 ∧ hasEvent y .ddrc c 5) ∧
     (∀ hot, subState s sub.val = 2 →
       ∃ y, exec (.mr4Poll sub hot t) s = .next (memFollow s y) ∧
         y.get c (Reg.ddrc_SUB_STATUS_HOT_0.up (8 * (sub.val % 2))) = bit hot ∧
         (hot = true → s.get c (Reg.ddrc_SUB_STATUS_HOT_0.up (8 * (sub.val % 2))) = 0 → hasEvent y .ddrc c 6)) ∧
     exec (.refresh sub t) s = .next (s.at t)) ∧
  ((∀ (o : Origin) (r : Fin 16) (t : Nat) (s : State), Inv s → accessCode s o .memx 0 0x58 1 = 0 →
     1 ≤ bitsOf (s.word .memx 0 0x58) 0 3 → bitsOf (s.word .memx 0 0x58) 0 3 ≤ 4 →
     let c := Instr.relineGo o r t
     (rankRole s r.val ≠ 1 → exec c s = .next (after s (logAccess .memx 0 0x10 o.code 0x58 0 (onBus o .memx 0 t s)))) ∧
     (rankRole s r.val = 1 → isRetired s r.val = false → s.mem.reline = none → s.mem.queue = [] →
       ∃ y, exec c s = .next (after s y) ∧ hasEvent y .memx 0 3 ∧ y.mem.queue = [] ∧
         (∀ d, spareFor s r.val = some d →
           y.mem.reline = some { src := r.val, dst := d, watermark := 0, blank := rankFailed s r.val } ∧ y.mem.stuck = s.mem.stuck) ∧
         (spareFor s r.val = none → y.mem.reline = none ∧ hasEvent y .memx 0 5 ∧ y.mem.stuck = s.mem.stuck ++ [r.val]))) ∧
   ∀ (bad : List Nat) (t : Nat) (s : State), Inv s →
     let c := Instr.relineSegmentDone bad t
     (s.mem.reline = none ∨ s.mem.freq = 2 ∨ s.sup.mgmtReset = true → exec c s = .next (memFollow s (s.at t))) ∧
     ∀ j, s.mem.reline = some j → s.mem.freq ≠ 2 → s.sup.mgmtReset = false → j.src < 16 → j.dst < 16 → j.src ≠ j.dst →
       (1048576 * (j.watermark + 1) < rankBytes s (j.src / 2) →
         ∃ y, exec c s = .next (memFollow s y) ∧ y.mem.reline = some { j with watermark := j.watermark + 1 } ∧ y.dram = s.dram ∧
           ∀ l ∈ s.poison, l ∈ y.poison) ∧
       (rankBytes s (j.src / 2) ≤ 1048576 * (j.watermark + 1) → s.mem.queue = [] →
         ∃ y, exec c s = .next (memFollow s y) ∧ y.mem.reline = none ∧ rankRole y j.dst = 1 ∧ rankRole y j.src = 3 ∧
           hasEvent y .memx 0 4 ∧ y.dram = s.dram ∧
           y.get 0 Reg.memx_COUNTS_RELINES = (s.get 0 Reg.memx_COUNTS_RELINES + 1) % 2 ^ Reg.memx_COUNTS_RELINES.w))

/-- R435, R437-R439: a read that ends: right it changes nothing; with one to four wrong symbols it is corrected and counted;
with five to twelve it is poisoned with error 0x0D on a rank of x16 devices and diagnosed on any other; one that answers for
another line is an address mismatch; a failed rank counts a poisoned read. A patrol read is such a read while the scrub
runs. What a clause takes from a reading of the model's is in log entry 72. -/
def Obligations.ReadsClassified : Prop :=
  (∀ (who : Fin 5) (line src : Nat) (flips : List (Nat × Nat)) (t : Nat) (s : State), Inv s → 64 * line < dramCapacity s →
    let p := servingRank s (rankOf s (64 * line)).1 (rankOf s (64 * line)).2
    let read := exec (.dramReadDone who line src flips t) s
    let c := p / 4
    p < 16 → markOf s p = none → s.poison.contains src = false →
    (rankFailed s p = true → ∃ y, read = .next (memFollow s y) ∧
      y.get c Reg.ddrc_POISON_READS_COUNT = (s.get c Reg.ddrc_POISON_READS_COUNT + 1) % 2 ^ Reg.ddrc_POISON_READS_COUNT.w) ∧
    (rankFailed s p = false → src = line → flips = [] → read = .next (memFollow s (s.at t))) ∧
    (rankFailed s p = false → src = line → (flips.map (·.1)).Nodup → (∀ f ∈ flips, f.1 < 80 ∧ f.2 % 256 ≠ 0) →
      (1 ≤ flips.length → flips.length ≤ 4 →
        ∃ y, read = .next (memFollow s y) ∧ hasEvent y .ddrc c 0 ∧ y.poison = s.poison ∧
          y.get c Reg.ddrc_ECC_COUNTS_CE = (s.get c Reg.ddrc_ECC_COUNTS_CE + 1) % 2 ^ Reg.ddrc_ECC_COUNTS_CE.w) ∧
      (5 ≤ flips.length → flips.length ≤ 12 → rankWide s p = true →
        ∃ y, read = .next (memFollow s y) ∧ hasEvent y .ddrc c 1 ∧ line ∈ y.poison ∧
          ((s.hdr .ddrc c).errCode = 0 → (y.hdr .ddrc c).errCode = 0x0D) ∧
          y.get c Reg.ddrc_ECC_COUNTS_UE = (s.get c Reg.ddrc_ECC_COUNTS_UE + 1) % 2 ^ Reg.ddrc_ECC_COUNTS_UE.w) ∧
      (5 ≤ flips.length → flips.length ≤ 12 → rankWide s p = false →
        read = .next (memFollow s { s.at t with mem := { s.mem with diags := s.mem.diags ++ [{ rank := p, who := who.val, line := some line }] } }))) ∧
    (rankFailed s p = false → flips = [] → addrSyms src ≠ addrSyms line →
      ((List.range 5).filter (fun i => (addrSyms line).getD i 0 != (addrSyms src).getD i 0)).length ≤ 4 →
      ∃ y, read = .next (memFollow s y) ∧ hasEvent y .ddrc c 2 ∧ y.poison = s.poison ∧
        y.get c Reg.ddrc_ECC_COUNTS_AE = (s.get c Reg.ddrc_ECC_COUNTS_AE + 1) % 2 ^ Reg.ddrc_ECC_COUNTS_AE.w)) ∧
  (∀ (line : Nat) (flips : List (Nat × Nat)) (t : Nat) (s : State),
    (s.get 0 Reg.memx_SCRUB_EN = 0 ∨ s.mem.freq = 2 → exec (.scrubLine none line flips t) s = .next (memFollow s (s.at t))) ∧
    (s.get 0 Reg.memx_SCRUB_EN ≠ 0 → s.mem.freq ≠ 2 →
      exec (.scrubLine none line flips t) s = exec (.dramReadDone 3 line line flips t) s)) ∧
  ∀ (sub : Fin 8) (t : Nat) (s : State) (g : Diagnosis), Inv s → s.mem.diags.find? (fun x => x.rank / 2 == sub.val) = some g →
    let c := g.rank / 4
    (∀ d : Fin 5, ∃ y, exec (.diagnosisDone sub [d] t) s = .next (memFollow s y) ∧ markOf y g.rank = some d.val ∧ hasEvent y .ddrc c 3 ∧
      hasEvent y .ddrc c 0) ∧
    (∀ wrong, wrong.length ≠ 1 → ∃ y, exec (.diagnosisDone sub wrong t) s = .next (memFollow s y) ∧ hasEvent y .ddrc c 1 ∧
      y.get c Reg.ddrc_ECC_COUNTS_UE = (s.get c Reg.ddrc_ECC_COUNTS_UE + 1) % 2 ^ Reg.ddrc_ECC_COUNTS_UE.w)

/-- R442-R445: GO is refused while a change runs, fails with RESULT 3 and error 0x08 where demand exceeds 70 % of the peak
at the target, and else waits for the heads' margins; from there the change holds, aborts, times out, or ends with its
result. What a clause takes from a reading of the model's is in log entries 9 and 74. -/
def Obligations.FrequencyChanges : Prop :=
  (∀ (o : Origin) (k : Fin 4) (demand t : Nat) (s : State), Inv s → accessCode s o .memx 0 0x48 1 = 0 →
    bitsOf (s.word .memx 0 0x48) 0 16 ≠ 0 → bitsOf (s.word .memx 0 0x48) 16 8 ≤ 50 →
    let c := Instr.freqGo o k demand t
    let refused := fun code => exec c s = .next (after s (logAccess .memx 0 code o.code 0x48 0 (onBus o .memx 0 t s)))
    let busy := s.get 0 Reg.memx_FREQ_STATUS_BUSY = 1
    let much := 70 * populatedPeak s k.val < demand * 100
    (busy → refused 0x10) ∧ (¬busy → k.val = 3 → refused 0x01) ∧
    (¬busy → k.val ≤ 2 → much → ∃ y, exec c s = .next (after s y) ∧ y.get 0 Reg.memx_FREQ_STATUS_RESULT = 3 ∧
      y.get 0 Reg.memx_FREQ_STATUS_BUSY = 0 ∧ y.mem.freq = 0 ∧ hasEvent y .memx 0 1 ∧
      ((s.hdr .memx 0).errCode = 0 → (y.hdr .memx 0).errCode = 0x08)) ∧
    (¬busy → k.val ≤ 2 → ¬much → ∃ y, exec c s = .next (after s y) ∧ y.get 0 Reg.memx_FREQ_STATUS_BUSY = 1 ∧ y.mem.freq = 1 ∧
      y.mem.target = k.val ∧ y.stateOf .memx 0 = 1)) ∧
  ∀ (t : Nat) (s : State), Inv s →
    (s.mem.freq ≠ 1 ∨ marginsMet s = false → exec (.freqMarginMet t) s = .next (memFollow s (s.at t))) ∧
    (s.mem.freq = 1 → marginsMet s = true → (∀ c : Fin 4, (s.hdr .ddrc c.val).pendingCommit = false) →
      ∃ y, exec (.freqMarginMet t) s = .next (memFollow s y) ∧ y.mem.freq = 2 ∧
        ∀ c : Fin 4, y.stateOf .ddrc c.val = if s.stateOf .ddrc c.val = 2 then 3 else s.stateOf .ddrc c.val) ∧
    (s.mem.freq = 1 → ∃ y, exec (.freqTimeout t) s = .next (memFollow s y) ∧ y.mem.freq = 0 ∧ hasEvent y .memx 0 1 ∧
      y.get 0 Reg.memx_FREQ_STATUS_RESULT = 2 ∧ y.get 0 Reg.memx_FREQ_STATUS_BUSY = 0) ∧
    (s.mem.freq ≠ 1 → exec (.freqTimeout t) s = .next (memFollow s (s.at t))) ∧
    (s.mem.freq = 2 → ∃ y, exec (.freqAbort t) s = .next (memFollow s y) ∧ y.mem.freq = 1 ∧ hasEvent y .memx 0 2 ∧
      (∀ c : Fin 4, y.stateOf .ddrc c.val ≠ 3) ∧
      y.get 0 Reg.memx_FREQ_STATUS_ABORTS = (s.get 0 Reg.memx_FREQ_STATUS_ABORTS + 1) % 2 ^ Reg.memx_FREQ_STATUS_ABORTS.w) ∧
    (s.mem.freq ≠ 2 → exec (.freqAbort t) s = .next (memFollow s (s.at t)) ∧
      ∀ ok failed demand, exec (.freqChangeDone ok failed demand t) s = .next (memFollow s (s.at t))) ∧
    (∀ failed demand, s.mem.freq = 2 → s.mem.track = false → s.mem.target < 4 →
      (∃ y, exec (.freqChangeDone true failed demand t) s = .next (memFollow s y) ∧ y.mem.freq = 0 ∧ hasEvent y .memx 0 0 ∧
        y.get 0 Reg.memx_FREQ_STATUS_CURRENT = s.mem.target ∧ y.get 0 Reg.memx_FREQ_STATUS_RESULT = 1 ∧
        y.get 0 Reg.memx_FREQ_STATUS_BUSY = 0 ∧ ∀ c : Fin 4, y.get c.val Reg.ddrc_SUB_STATUS_FSP = s.mem.target) ∧
      ∃ y, exec (.freqChangeDone false failed demand t) s = .next (memFollow s y) ∧ y.mem.freq = 0 ∧ hasEvent y .memx 0 1 ∧
        y.get 0 Reg.memx_FREQ_STATUS_RESULT = (if failed = [] then 4 else 5) ∧ y.get 0 Reg.memx_FREQ_STATUS_BUSY = 0 ∧
        ((s.hdr .memx 0).errCode = 0 → (y.hdr .memx 0).errCode = 0x0C) ∧ ∀ sub ∈ failed, subState y sub.val = 3)

/-! ### Host ports, Thimbles and DMA (chapter 20) -/

/-- R32, R454, R455, R458-R460, R462, R467: a link that goes down and a Function Level Reset reset the function, stop its
rings and start the timers of what its origin holds; a link comes up or retrains; MSI-X Enable; BAR2 reads and writes reach
DRAM through the aperture while it is enabled, and complete as Unsupported Request otherwise. R461, R462: a Thimble is
acquired by the first origin that asks, released by its holder or the keeper only, and lapses when its timer has run; an
origin that lost it learns so by error 0x15 at its next write. What a clause takes from a reading of the model's is in log
entries 8, 16 and 53. -/
def Obligations.HostPortsAndThimbles : Prop :=
  (∀ (p : Fin 2) (t : Nat) (s : State), Inv s →
     let lost := fun (u : State) => (u.port p.val).msixOn = false ∧ u.get p.val Reg.host_APERTURE_HI_SIZE_LOG2 = 30 ∧
       (∀ r : Fin 16, ringState u p.val r.val = 0) ∧
       (∀ e ∈ s.hdrs, e.2.owner = p.val + 1 → ∃ h, (e.1, h) ∈ u.hdrs ∧ h.leaseTimer = true ∧ h.owner = p.val + 1) ∧
       ∀ k : Fin 256, thmOwner s k.val = p.val + 1 → u.thmTimers.contains k.val = true
     (hostUp s p.val = false → exec (.hostLinkDown p t) s = .next (s.at t) ∧ exec (.flr p t) s = .next (s.at t)) ∧
     (hostUp s p.val = true →
       (∃ u, exec (.hostLinkDown p t) s = .next u ∧ lost u ∧ hostUp u p.val = false ∧ u.stateOf .host p.val = 0 ∧
         hasEvent u .host p.val 1 ∧ ((s.hdr .host p.val).errCode = 0 → (u.hdr .host p.val).errCode = 0x14) ∧
         u.get p.val Reg.host_COUNTS_LINK_DOWNS = (s.get p.val Reg.host_COUNTS_LINK_DOWNS + 1) % 2 ^ Reg.host_COUNTS_LINK_DOWNS.w) ∧
       ∃ u, exec (.flr p t) s = .next u ∧ lost u ∧ hostUp u p.val = true ∧ u.stateOf .host p.val = 3 ∧ hasEvent u .host p.val 2 ∧
         u.get p.val Reg.host_COUNTS_FLRS = (s.get p.val Reg.host_COUNTS_FLRS + 1) % 2 ^ Reg.host_COUNTS_FLRS.w) ∧
     exec (.flrEnd p t) s = .next (if s.stateOf .host p.val = 3 then
       (s.at t).setState .host p.val (if hostUp s p.val then 2 else 0) else s.at t) ∧
     (∀ (gen : Fin 7) (width : Fin 9) (flit : Bool), gen.val ≤ s.get p.val Reg.host_CFG_MAX_GEN →
       ∃ u, exec (.hostLinkUp p gen width flit t) s = .next u ∧ hostUp u p.val = true ∧
         u.get p.val Reg.host_LINK_STATUS_GEN = gen.val ∧ u.get p.val Reg.host_LINK_STATUS_WIDTH = width.val ∧
         (hostUp s p.val = false → u.stateOf .host p.val = 2 ∧ hasEvent u .host p.val 0) ∧
         (hostUp s p.val = true → u.stateOf .host p.val = s.stateOf .host p.val ∧
           (s.get p.val Reg.host_LINK_STATUS_GEN ≠ gen.val ∨ s.get p.val Reg.host_LINK_STATUS_WIDTH ≠ width.val →
             hasEvent u .host p.val 3))) ∧
     (∃ u, exec (.msixEnable p t) s = .next u ∧ (u.port p.val).msixOn = true ∧ u.regs = s.regs ∧ u.hdrs = s.hdrs ∧
       ∀ v ∈ pendingVectors s p.val, hostUp s p.val = true →
         (v ∈ (s.port p.val).unmasked → Emit.msix p.val v ∈ u.sent) ∧ (v ∉ (s.port p.val).unmasked → v ∈ (u.port p.val).msixPending)) ∧
     (∀ k : Fin 7, exec (.resizableBarWrite p k t) s = .next ((s.at t).set p.val Reg.host_APERTURE_HI_SIZE_LOG2 (30 + k.val))) ∧
     ∀ (o n : Nat) (data : List Byte) (ep : Bool), hostUp s p.val = true → inBar2 s p.val o n = true → data.length = n →
       let a := apertureBase s p.val + o
       (s.get p.val Reg.host_CFG_APERTURE_EN = 0 →
         exec (.bar2Read p o n t) s = .next (completeUr p.val (s.at t)) ∧
         exec (.bar2Write p o data ep t) s = .next (completeUr p.val (s.at t))) ∧
       (s.get p.val Reg.host_CFG_APERTURE_EN = 1 →
         (rangePoisoned s a n = false →
           exec (.bar2Read p o n t) s = .next ((s.at t).emit (.hostRead p.val (memBytes s.dram a n) false)) ∧
           ∃ u, exec (.bar2Write p o data false t) s = .next u ∧ memBytes u.dram a n = data ∧ u.regs = s.regs ∧ u.hdrs = s.hdrs ∧
             ∀ b, b < a ∨ a + n ≤ b → memGet u.dram b = memGet s.dram b) ∧
         (rangePoisoned s a n = true → ∃ u d, exec (.bar2Read p o n t) s = .next u ∧ u.sent = .hostRead p.val d true :: s.sent ∧
           u.get p.val Reg.host_COUNTS_POISON_TLPS = (s.get p.val Reg.host_COUNTS_POISON_TLPS + 1) % 2 ^ Reg.host_COUNTS_POISON_TLPS.w) ∧
         (0 < n → a + n ≤ dramCapacity s → ∃ u, exec (.bar2Write p o data true t) s = .next u ∧ rangePoisoned u a n = true ∧ u.dram = s.dram))) ∧
  (∀ (o : Origin) (k : Fin 256) (hold : Fin 65536) (t : Nat) (s : State), Inv s → accessCode s o .thm 0 (0x100 + 4 * k.val) 1 = 0 →
     let owner := thmOwner s k.val
     let on := onBus o .thm 0 t s
     let acquire := exec (.thimbleAcquire o k hold t) s
     let release := exec (.thimbleRelease o k t) s
     let lapsed := s.get 0 (thmAt Reg.thm_THM_LAPSED k.val) = o.code
     (lapsed → (∃ y, acquire = .next (after s y) ∧ y.get 0 (thmAt Reg.thm_THM_LAPSED k.val) = 0 ∧ thmOwner y k.val = owner ∧
       ((s.hdr .thm 0).errCode = 0 → (y.hdr .thm 0).errCode = 0x15)) ∧ release = .next (after s
         (logAccess .thm 0 0x15 o.code (0x100 + 4 * k.val) 0 (on.set 0 (thmAt Reg.thm_THM_LAPSED k.val) 0)))) ∧
     (¬lapsed → owner = 0 → ∃ y, acquire = .next (after s y) ∧ thmOwner y k.val = o.code ∧
       y.get 0 (thmAt Reg.thm_THM_HOLD_MS k.val) = hold.val ∧
       y.get 0 (thmAt Reg.thm_THM_GEN k.val) = (s.get 0 (thmAt Reg.thm_THM_GEN k.val) + 1) % 256) ∧
     (¬lapsed → owner = o.code → ∃ y, acquire = .next (after s y) ∧ thmOwner y k.val = owner ∧
       y.get 0 (thmAt Reg.thm_THM_HOLD_MS k.val) = hold.val) ∧
     (¬lapsed → owner ≠ 0 → owner ≠ o.code → ∃ y, acquire = .next (after s y) ∧ thmOwner y k.val = owner ∧
       y.get 0 Reg.thm_STATUS_CONTENDED = (s.get 0 Reg.thm_STATUS_CONTENDED + 1) % 2 ^ Reg.thm_STATUS_CONTENDED.w) ∧
     (¬lapsed → owner ≠ 0 → owner = o.code ∨ o.code = 5 → ∃ y, release = .next (after s y) ∧ thmOwner y k.val = 0 ∧
       y.thmTimers.contains k.val = false) ∧
     (¬lapsed → owner ≠ o.code → owner = 0 ∨ o.code ≠ 5 →
       release = .next (after s (logAccess .thm 0 0x10 o.code (0x100 + 4 * k.val) 0 on))) ∧
     (s.thmTimers.contains k.val = false ∨ owner = 0 → exec (.thimbleLapsed k t) s = .next (s.at t)) ∧
     (s.thmTimers.contains k.val = true → owner ≠ 0 →
       ∃ u, exec (.thimbleLapsed k t) s = .next u ∧ thmOwner u k.val = 0 ∧ u.get 0 (thmAt Reg.thm_THM_LAPSED k.val) = owner ∧
         u.get 0 Reg.thm_EVENT_SRC_THIMBLE = k.val ∧ hasEvent u .thm 0 0))

/-- R464, R467, R471: the registers of a ring: EN starts a ring in OFF and stops it after the descriptor in progress; TAIL
takes an index of the ring only; RESUME and SKIP are for a halted ring. R464-R467: a running ring in host memory executes
the descriptor at its HEAD: a copy into, out of or within DRAM of one row, or a register write, ends with code 0, its status
written, HEAD advanced and its interrupt raised; a bad CRC or a field out of range halts the ring with its code, with
nothing done. What a clause takes from a reading of the model's is in log entries 36, 51 and 52. -/
def Obligations.RingsRun : Prop :=
  (∀ (o : Origin) (p : Fin 2) (r : Fin 16) (t : Nat) (s : State), Inv s →
     let state := ringState s p.val r.val
     let base := 0x100 + 0x20 * r.val
     let cfg := s.word .dma p.val base
     let refused := fun (c : Instr) code off => exec c s = .next (after s (logAccess .dma p.val code o.code off 0 (onBus o .dma p.val t s)))
     (accessCode s o .dma p.val base 1 = 0 → 4 ≤ bitsOf cfg 0 4 → bitsOf cfg 0 4 ≤ 12 → 1 ≤ bitsOf cfg 16 8 →
       let fits := baseFits (bitsOf cfg 8 1) (rget s p.val r.val Reg.dma_RING_BASE_HI_ADDR) = true
       (state ≠ 0 → refused (.dmaRingEnable o p r t) 0x10 base) ∧
       (state = 0 → ¬fits → refused (.dmaRingEnable o p r t) 0x01 base) ∧
       (state = 0 → fits → ∃ y, exec (.dmaRingEnable o p r t) s = .next (after s y) ∧ ringState y p.val r.val = 1 ∧
         rget y p.val r.val Reg.dma_RING_CFG_EN = 1) ∧
       (state ≠ 0 → ∃ y, exec (.dmaRingDisable o p r t) s = .next (after s y) ∧ rget y p.val r.val Reg.dma_RING_CFG_EN = 0 ∧
         ringState y p.val r.val = if ringBusy s p.val r.val then state else 0)) ∧
     (∀ index : Fin 4096, accessCode s o .dma p.val (base + 0x10) 1 = 0 →
       (ringSlots s p.val r.val ≤ index.val → refused (.dmaSubmit o p r index t) 0x01 (base + 0x10)) ∧
       (index.val < ringSlots s p.val r.val → exec (.dmaSubmit o p r index t) s =
         .next (after s (rset p.val r.val Reg.dma_RING_TAIL_INDEX index.val (onBus o .dma p.val t s))))) ∧
     (accessCode s o .dma p.val (base + 0x1C) 1 = 0 →
       (state ≠ 2 → refused (.dmaResume o p r t) 0x10 (base + 0x1C) ∧ refused (.dmaSkip o p r t) 0x10 (base + 0x1C)) ∧
       (state = 2 → exec (.dmaResume o p r t) s =
           .next (after s (rset p.val r.val Reg.dma_RING_STATUS_STATE 1 (onBus o .dma p.val t s))) ∧
         ∃ y, exec (.dmaSkip o p r t) s = .next (after s y) ∧ ringState y p.val r.val = 1 ∧ (bitsOf cfg 0 4 ≤ 12 →
           rget y p.val r.val Reg.dma_RING_HEAD_INDEX = (rget s p.val r.val Reg.dma_RING_HEAD_INDEX + 1) % ringSlots s p.val r.val)))) ∧
  (∀ (p : Fin 2) (r : Fin 16) (desc data : List Byte) (t : Nat) (s : State), Inv s →
     ringBusy s p.val r.val = true → ringLocal s p.val r.val = false → desc.length = 64 →
     rget s p.val r.val Reg.dma_RING_CFG_SIZE_LOG2 ≤ 12 → rget s p.val r.val Reg.dma_RING_CFG_EN = 1 →
     let d := readDescriptor desc false
     let who := hostOrigin p.val
     let counted := fun (u : State) code => rget u p.val r.val Reg.dma_RING_STATUS_LAST_CODE = code ∧
       rget u p.val r.val Reg.dma_RING_COUNT_DONE = (rget s p.val r.val Reg.dma_RING_COUNT_DONE + 1) % 2 ^ 32
     let ends := fun (u : State) => counted u 0 ∧ ringState u p.val r.val = 1 ∧
       rget u p.val r.val Reg.dma_RING_HEAD_INDEX = (rget s p.val r.val Reg.dma_RING_HEAD_INDEX + 1) % ringSlots s p.val r.val ∧
       Emit.hostWrite p.val (descAddr s p.val r.val + 32) (bytesLE 4 0 ++ bytesLE 4 d.len) false ∈ u.sent ∧
       (d.irq = true → hasEvent u .dma p.val 0)
     let halts := fun (u : State) code => counted u code ∧ ringState u p.val r.val = 2 ∧
       rget u p.val r.val Reg.dma_RING_HEAD_INDEX = rget s p.val r.val Reg.dma_RING_HEAD_INDEX ∧ keepsDram s u ∧
       hasEvent u .dma p.val 1 ∧ ((s.hdr .dma p.val).errCode = 0 → (u.hdr .dma p.val).errCode = code)
     (d.good = false → ∃ u, exec (.dmaHostToDram p r desc data 0 t) s = .next u ∧ halts u 0x0A) ∧
     (d.good = true → d.bad s = true → ∃ u, halts u 0x01 ∧ (match d.kind with
       | 1 => exec (.dmaDramToHost p r desc t) s
       | 2 => exec (.dmaDramToDram p r desc t) s
       | 3 => exec (.dmaRegisterWrite p r desc 0 t) s
       | _ => exec (.dmaHostToDram p r desc data 0 t) s) = .next u) ∧
     (d.good = true → d.bad s = false → d.rows = 1 →
       (d.op = 0 → data.length = d.len → ∃ u, exec (.dmaHostToDram p r desc data 0 t) s = .next u ∧ ends u ∧
         u.dram = (dramWrite who d.dst data (s.at t)).dram) ∧
       (d.op = 1 → s.poison = [] → (∀ a, addrFailed s a = false) → ∃ u, exec (.dmaDramToHost p r desc t) s = .next u ∧ ends u ∧
         Emit.hostWrite p.val d.dst (memBytes s.dram d.src d.len) false ∈ u.sent ∧ keepsDram s u) ∧
       (d.op = 2 → s.poison = [] → (∀ a, addrFailed s a = false) → ∃ u, exec (.dmaDramToDram p r desc t) s = .next u ∧ ends u ∧
         u.dram = (dramWrite who d.dst (memBytes s.dram d.src d.len) (s.at t)).dram)) ∧
     (d.good = true → d.bad s = false → d.op = 3 →
       let o : Origin := if p.val = 0 then .hostA else .hostB
       let v := BitVec.ofNat 32 d.value
       let code := writeCode o 0 d.dst v (s.at t)
       let x := busStep t (writeReg o 0 d.dst v) (s.at t)
       ringState x p.val r.val ≠ 0 → ∃ u, exec (.dmaRegisterWrite p r desc 0 t) s = .next u ∧
         rget u p.val r.val Reg.dma_RING_STATUS_LAST_CODE = code % 256 ∧
         rget u p.val r.val Reg.dma_RING_COUNT_DONE = (rget x p.val r.val Reg.dma_RING_COUNT_DONE + 1) % 2 ^ 32 ∧
         (code ≠ 0 → hasEvent u .dma p.val 1)))

/-! ### Security (chapter 21) -/

/-- R482-R487, R489: the oldest command of the queue runs if the monitor does: it leaves the queue, its origin's CMD_RESULT
takes its code and event 0 is raised; and what each command does, or the code with which it is refused. What a clause takes
from a reading of the model's is in log entries 81 and 82. -/
def Obligations.MonitorRunsCommands : Prop :=
  ∀ (c : SecCmd) (rest : List SecCmd) (t : Nat) (s : State), Inv s → s.sup.mgmtReset = false →
    s.stateOf .sec 0 = 1 ∨ s.stateOf .sec 0 = 2 → s.sec.queue = c :: rest → c.origin < 8 →
    Tbl.sorted s.sec.copies = true → Tbl.sorted s.sec.rollback = true → Tbl.sorted s.sec.slots = true →
    let ends := fun (i : Instr) (code : Nat) (what : State → Prop) =>
      ∃ u, exec i s = .next u ∧ u.sec.queue = rest ∧ secCopy u c.origin 0x60 = 2 ^ 31 + 2 ^ 20 * c.op + code ∧
        u.get 0 Reg.sec_EVENT_SRC_ORIGIN = c.origin ∧ hasEvent u .sec 0 0 ∧ what u
    let keeps := fun (u : State) => u.dram = s.dram ∧ u.sec.owner = s.sec.owner ∧ u.sec.rollback = s.sec.rollback ∧
      u.sec.slots = s.sec.slots ∧ u.sec.pref = s.sec.pref ∧ u.sec.trial = s.sec.trial ∧ u.profiles = s.profiles
    let asks := hostOrSvc c.origin = true
    let l := (cmdImage c (s.at t)).1
    let sum := checkImage s l c.len
    (c.op ≠ 1 → exec (.load t) s = .next (s.at t)) ∧
    (c.op = 1 → ¬asks → ends (.load t) 0x03 keeps) ∧
    (c.op = 1 → asks → sum ≠ 0 → ends (.load t) sum keeps) ∧
    (c.op = 1 → asks → sum = 0 → imgClass l = 5 → rightsOk (imgPayload l) = true →
      ends (.load t) 0 (fun u => keeps u ∧ u.sec.loads = s.sec.loads + 1)) ∧
    (c.op = 2 → asks → sum ≠ 0 → ends (.update t) sum keeps) ∧
    (c.op = 2 → asks → sum = 0 → imgClass l = 0 →
      ends (.update t) 0 (fun u => flashSlot u 0 (inactiveSlot s 0) = { bytes := l, bad := false } ∧ u.dram = s.dram)) ∧
    (c.op = 3 → asks → slotted c.cls = false → ends (.activate t) 0x01 keeps) ∧
    (c.op = 3 → asks → slotted c.cls = true → slotGood s c.cls (inactiveSlot s c.cls) = false → ends (.activate t) 0x10 keeps) ∧
    (c.op = 3 → asks → slotted c.cls = true → s.get 0 Reg.sec_HANDOVER_PHASE = 0 → slotGood s c.cls (inactiveSlot s c.cls) = true →
      ends (.activate t) 0 (fun u => if c.cls = 1 then u.get 0 Reg.sec_HANDOVER_PHASE = 1 ∧ u.stateOf .sec 0 = 2 ∧ u.sec.hold = true
        else prefOf u c.cls = inactiveSlot s c.cls)) ∧
    (c.op = 4 → asks → 5 < c.cls → ends (.confirm t) 0x01 keeps) ∧
    (∀ k, c.op = 4 → asks → c.cls ≤ 5 → runningOf s c.cls = some k → k < 2 → ends (.confirm t) 0 (fun u => prefOf u c.cls = k)) ∧
    (c.op = 5 → asks → c.cls ≤ 5 → onTrial s c.cls = true → ends (.advance t) 0x10 keeps) ∧
    (∀ v, c.op = 5 → asks → c.cls ≤ 5 → onTrial s c.cls = false → advanceTo s c.cls = some v →
      ends (.advance t) 0 (fun u => rollbackOf u c.cls = max (rollbackOf s c.cls) (min v 128))) ∧
    (c.op = 6 → asks → s.sec.akErased = true → ends (.attest t) 0x10 keeps) ∧
    (c.op = 6 → asks → s.sec.akErased = false → c.len < 8698 + 80 * s.sec.entries.length → ends (.attest t) 0x12 keeps) ∧
    (c.op = 6 → asks → s.sec.akErased = false → 8698 + 80 * s.sec.entries.length ≤ c.len →
      ends (.attest t) 0 (fun u => u.dram = (dramWrite 0 c.addr (report s (readOpen 0 c.addr 64 s).1 t) s).dram)) ∧
    (c.op = 7 → asks → c.len < 5277 → ends (.identity t) 0x12 keeps) ∧
    (c.op = 7 → asks → 5277 ≤ c.len → ends (.identity t) 0 (fun u =>
      u.dram = (dramWrite 0 c.addr (idPublic ++ padTo 16 Config.serial ++ padTo 3309 Config.mehrecSignature) s).dram)) ∧
    (c.op = 8 → c.origin ≠ 3 → ends (.debugChallenge t) 0x03 keeps) ∧
    (c.op = 8 → c.origin = 3 → s.sec.debugLock = true → ends (.debugChallenge t) 0x10 keeps) ∧
    (c.op = 8 → c.origin = 3 → s.sec.debugLock = false → 128 ≤ c.len → ends (.debugChallenge t) 0 (fun u =>
      ∃ x, u.sec.challenge = some x ∧ x.drop 64 = shake idPublic ∧ u.dram = (dramWrite 0 c.addr x s).dram)) ∧
    (c.op = 9 → c.origin = 3 → s.sec.challenge = none → 3441 ≤ c.len → ends (.debugUnlock t) 0x0E keeps) ∧
    (c.op = 9 → c.origin = 3 → rangePoisoned s c.addr 3441 = false → 3441 ≤ c.len →
      let k := memBytes s.dram c.addr 3441
      s.sec.challenge = some (k.take 128) → leAt k 128 4 < 16 →
      Config.mldsaVerify (Config.keyOf (selectedHash s)) (k.take 132) (k.drop 132) = true →
      ends (.debugUnlock t) 0 (fun u => u.get 0 Reg.sec_BOOT_INFO_DEBUG_SCOPE = leAt k 128 4 ∧ u.sec.challenge = none ∧
        hasEvent u .sec 0 3)) ∧
    (c.op = 10 → asks → s.sec.owner ≠ [] → ends (.enroll t) 0x10 keeps) ∧
    (c.op = 10 → asks → s.sec.owner = [] → sum = 0 → imgClass l = 6 → imgBind l ≠ List.replicate 64 0 →
      ends (.enroll t) 0 (fun u => u.sec.owner = shake (imgPayload l) ∧ u.dram = s.dram))

/-- R488: the live handover: the new image starts when the old firmware has written QUIESCED or 5 ms have passed, DONE makes
its slot preferred on trial, and without it the old image is restarted and the new slot marked bad; only the processors
write these. What a clause takes from a reading of the model's is in log entry 81. -/
def Obligations.FirmwareHandsOver : Prop :=
  ∀ (o : Origin) (t : Nat) (s : State), Inv s → Tbl.sorted s.sec.running = true → Tbl.sorted s.sec.slots = true →
    let phase := s.get 0 Reg.sec_HANDOVER_PHASE
    let new := 1 - s.sec.oldSlot
    let may := accessCode s o .sec 0 0x64 1 = 0 ∧ 100 ≤ s.get 0 Reg.sec_HANDOVER_TIMEOUT_MS
    let refused := .next (after s (logAccess .sec 0 0x03 o.code 0x64 0 (onBus o .sec 0 t s)))
    let started := fun (u : State) => u.get 0 Reg.sec_HANDOVER_PHASE = 2 ∧ runningOf u 1 = some new
    (may → o ≠ .ap → exec (.handoverQuiesced o t) s = refused ∧ exec (.handoverDone o t) s = refused) ∧
    (phase ≠ 1 → exec (.quiesceTimeout t) s = .next (s.at t)) ∧
    (phase = 1 → ∃ u, exec (.quiesceTimeout t) s = .next u ∧ started u) ∧
    (may → o = .ap → phase = 1 → ∃ y, exec (.handoverQuiesced o t) s = .next (after s y) ∧ started y) ∧
    (may → o = .ap → phase = 2 → ∃ y, exec (.handoverDone o t) s = .next (after s y) ∧ y.get 0 Reg.sec_HANDOVER_PHASE = 0 ∧
      y.stateOf .sec 0 = 1 ∧ prefOf y 1 = new ∧ y.sec.hold = false ∧ hasEvent y .sec 0 1) ∧
    (phase ≠ 2 → exec (.handoverTimeout t) s = .next (s.at t)) ∧
    (phase = 2 → ∃ u, exec (.handoverTimeout t) s = .next u ∧ u.get 0 Reg.sec_HANDOVER_PHASE = 0 ∧ u.stateOf .sec 0 = 1 ∧
      runningOf u 1 = some s.sec.oldSlot ∧ (flashSlot u 1 new).bad = true ∧ hasEvent u .sec 0 2) ∧
    exec (.encoderHoldEnd t) s = .next { s.at t with sec := { s.sec with hold := false } }

/-! ### Supervision (chapter 22) -/

/-- R496-R498: a heartbeat with the next number is accepted; any other, one that does not come in time and a first one that
does not come are misses; the third within 60 s holds the complex, an earlier one warm-resets it. R492, R495, R498, R500:
WARM resets the management complex, which boots again 1 ms later; RELEASE clears the heartbeat's cause, and DRAM's if memory
is whole; SAFEVIEW_REQ_N sets and clears its own; the path is engaged while a cause stands and a record is latched. What a
clause takes from a reading of the model's is in log entry 79. -/
def Obligations.PathEngages : Prop :=
  (∀ (t : Nat) (s : State), Inv s → svPort s < 8 →
     let st := s.stateOf .sup 0
     let now := max s.now t
     let others := (s.sup.missTimes.filter (fun m => decide (s.sup.base + now ≤ m + msT 60000))).length
     let missed := fun (u : State) => u.sup.mgmtReset = true ∧ hasEvent u .sup 0 0 ∧
       u.get 0 Reg.sup_COUNTS_MISSES = (s.get 0 Reg.sup_COUNTS_MISSES + 1) % 2 ^ Reg.sup_COUNTS_MISSES.w ∧
       (2 ≤ others → u.stateOf .sup 0 = 3 ∧ u.get 0 Reg.sup_SV_CAUSE_HELD = 1 ∧ hasEvent u .sup 0 2) ∧
       (others < 2 → u.stateOf .sup 0 = 2 ∧ u.get 0 Reg.sup_SV_CAUSE_HEARTBEAT = 1 ∧ u.get 0 Reg.sup_RESET_CAUSE_LAST = 3 ∧
         u.get 0 Reg.sup_COUNTS_WARM_RESETS = (s.get 0 Reg.sup_COUNTS_WARM_RESETS + 1) % 2 ^ Reg.sup_COUNTS_WARM_RESETS.w)
     (∀ (o : Origin) (seq : Fin 256), accessCode s o .sup 0 0x44 1 = 0 →
       let next := seq.val = (s.get 0 Reg.sup_HEARTBEAT_SEQ + 1) % 256
       (s.sup.mgmtReset = true ∨ st = 3 ∨ st = 4 → exec (.heartbeat o seq t) s = .next (after s (onBus o .sup 0 t s))) ∧
       (s.sup.mgmtReset = false → st ≠ 3 → st ≠ 4 → next →
         ∃ y, exec (.heartbeat o seq t) s = .next (after s y) ∧ y.get 0 Reg.sup_HEARTBEAT_SEQ = seq.val ∧ y.stateOf .sup 0 = 1 ∧
           y.sup.firstSeen = true ∧ y.sup.beatAt = now ∧ y.sup.interval = s.get 0 Reg.sup_HB_CFG_INTERVAL_MS ∧
           (st = 2 → s.sup.firstSeen = false → hasEvent y .sup 0 1)) ∧
       (s.sup.mgmtReset = false → st ≠ 3 → st ≠ 4 → ¬next → ∃ y, exec (.heartbeat o seq t) s = .next (after s y) ∧ missed y)) ∧
     (st ≠ 1 ∨ t < s.sup.beatAt + msT s.sup.interval → exec (.hbMiss t) s = .next (s.at t)) ∧
     (st = 1 → s.sup.beatAt + msT s.sup.interval ≤ t → s.sup.mgmtReset = false → ∃ u, exec (.hbMiss t) s = .next u ∧ missed u) ∧
     ((st = 0 ∨ st = 2) → s.sup.firstSeen = false → s.pins.held = false → s.get 0 Reg.sup_STATUS_RECOVERY = 0 →
       s.sup.windowAt + msT 3000 ≤ t → s.sup.mgmtReset = false →
       ∃ u, exec (.firstHeartbeatTimeout t) s = .next u ∧ missed u) ∧
     (s.sup.firstSeen = true ∨ t < s.sup.windowAt + msT 3000 → exec (.firstHeartbeatTimeout t) s = .next (s.at t))) ∧
  (∀ (t : Nat) (s : State), Inv s → svPort s < 8 →
     let st := s.stateOf .sup 0
     let engaged := fun (u : State) => u.sup.engaged = true ∧ u.get 0 Reg.sup_STATUS_SAFEVIEW = 1 ∧ u.pins.safeviewN = false
     let disengaged := fun (u : State) => u.sup.engaged = false ∧ u.get 0 Reg.sup_STATUS_SAFEVIEW = 0 ∧ u.pins.safeviewN = true ∧
       hasEvent u .sup 0 4
     (∀ o : Origin, accessCode s o .sup 0 0x48 1 = 0 →
       (s.sup.mgmtReset = true ∨ st = 3 ∨ st = 4 → exec (.warm o t) s = .next (after s (onBus o .sup 0 t s))) ∧
       (s.sup.mgmtReset = false → st ≠ 3 → st ≠ 4 → ∃ y, exec (.warm o t) s = .next (after s y) ∧ y.stateOf .sup 0 = 2 ∧
         y.sup.mgmtReset = true ∧ y.get 0 Reg.sup_RESET_CAUSE_LAST = 4 ∧ y.get 0 Reg.sup_HEARTBEAT_SEQ = 0 ∧ y.sec.queue = [] ∧
         y.stateOf .sec 0 = 0) ∧
       ∃ y, exec (.release o t) s = .next (after s y) ∧ y.get 0 Reg.sup_SV_CAUSE_HEARTBEAT = 0 ∧
         (memoryLost s = false → y.get 0 Reg.sup_SV_CAUSE_DRAM = 0) ∧
         (memoryLost s = true → y.get 0 Reg.sup_SV_CAUSE_DRAM = s.get 0 Reg.sup_SV_CAUSE_DRAM) ∧
         (s.get 0 Reg.sup_SV_CAUSE = 1 → s.sup.engaged = true → disengaged y)) ∧
     (s.sup.mgmtReset = false ∨ st ≠ 2 → exec (.mgmtResetEnd t) s = .next (s.at t)) ∧
     (s.sup.mgmtReset = true → st = 2 → ∃ u, exec (.mgmtResetEnd t) s = .next u ∧ u.sup.mgmtReset = false ∧ u.sup.windowAt = t ∧
       (u.stateOf .sec 0 = 1 ∧ u.sec.bootCount = s.sec.bootCount + 1 ∨
         u.stateOf .sec 0 = 3 ∧ u.get 0 Reg.sup_STATUS_RECOVERY = 1 ∧ u.sec.bootCount = s.sec.bootCount)) ∧
     (∃ u, exec (.safeviewRequest t) s = .next u ∧ u.get 0 Reg.sup_SV_CAUSE_REQUEST = 1 ∧ u.get 0 Reg.sup_STATUS_REQ_PIN = 1 ∧
       u.pins.safeviewReqN = false ∧ (s.sup.latched = true → s.sup.engaged = false → engaged u ∧ u.sup.svbPhase = 1 ∧
         hasEvent u .sup 0 3 ∧ u.stateOf .svb 0 = 0 ∧
         u.get 0 Reg.sup_COUNTS_SV_ENGAGES = (s.get 0 Reg.sup_COUNTS_SV_ENGAGES + 1) % 2 ^ Reg.sup_COUNTS_SV_ENGAGES.w)) ∧
     ∃ u, exec (.safeviewReqRelease t) s = .next u ∧ u.get 0 Reg.sup_SV_CAUSE_REQUEST = 0 ∧ u.get 0 Reg.sup_STATUS_REQ_PIN = 0 ∧
       u.pins.safeviewReqN = true ∧ (s.get 0 Reg.sup_SV_CAUSE = 8 → s.sup.engaged = true → disengaged u))

/-- R474, R480, R481, R492, R493, R508: power-on and cold resets put everything outside their domains back to reset and keep
fuses, boot flash and the queue; the release of RESET_N boots; a recovery image is checked and resets cold; temperature
warns, and the second sample at 125 °C in a row trips. What a clause takes from a reading of the model's is in log entries
78, 79 and 80. -/
def Obligations.ResetsAndTrips : Prop :=
  ∀ (t : Nat) (s : State), Inv s → svPort s < 8 →
    let kept := fun (u : State) => u.sec.owner = s.sec.owner ∧ u.sec.rollback = s.sec.rollback ∧ u.sec.store = s.sec.store ∧
      u.pending = s.pending
    (∃ u, exec (.powerOnReset t) s = .next u ∧ kept u ∧ u.sec.slots = s.sec.slots ∧ u.hdrs = [] ∧ u.dram = [] ∧ u.poison = [] ∧
      u.now = 0 ∧ u.pins.held = true ∧
      u.get 0 Reg.sup_SV_CAUSE = if s.pins.safeviewReqN then 0 else 8) ∧
    (∃ u, exec (.resetNAssert t) s = .next u ∧ kept u ∧ u.sec.slots = s.sec.slots ∧ u.dram = [] ∧ u.now = 0 ∧ u.pins.held = true ∧
      u.pins.resetN = false ∧ u.sup.mgmtReset = true ∧ u.stateOf .sup 0 = (if s.stateOf .sup 0 = 4 then 4 else 0) ∧
      u.get 0 Reg.sup_RESET_CAUSE_LAST = (if s.stateOf .sup 0 = 4 then 2 else 1) ∧
      u.get 0 Reg.sup_COUNTS_WARM_RESETS = s.get 0 Reg.sup_COUNTS_WARM_RESETS ∧
      ∀ b n off, b ≠ .sup → n < blkCount b → off < blkPages b * 0x1000 → u.word b n off = State.reset.word b n off) ∧
    (s.pins.resetN = true → exec (.resetNRelease t) s = .next (s.at t)) ∧
    (s.pins.resetN = false → ∃ u, exec (.resetNRelease t) s = .next u ∧ kept u ∧ u.pins.resetN = true ∧
      (s.stateOf .sup 0 = 4 → 1840 ≤ toSigned 16 (s.get 0 Reg.sup_THERMAL_MAX) → u.stateOf .sup 0 = 4) ∧
      (s.stateOf .sup 0 ≠ 4 → u.pins.held = false ∧ u.pins.vidDriven = true ∧ u.sup.windowAt = t ∧ u.sup.latched = true ∧
        (u.stateOf .sec 0 = 1 ∧ u.sec.bootCount = s.sec.bootCount + 1 ∨ u.stateOf .sec 0 = 3 ∧ u.get 0 Reg.sup_STATUS_RECOVERY = 1))) ∧
    (∀ image : List Byte,
      (s.stateOf .sec 0 ≠ 3 → exec (.recoveryImage image t) s = .next (s.at t)) ∧
      (s.stateOf .sec 0 = 3 → checkImage s image image.length ≠ 0 →
        exec (.recoveryImage image t) s = .next (logError .sec 0 (checkImage s image image.length) 0 (s.at t))) ∧
      (s.stateOf .sec 0 = 3 → checkImage s image image.length = 0 → imgClass image = 0 → Tbl.sorted s.sec.slots = true →
        ∃ u, exec (.recoveryImage image t) s = .next u ∧ kept u ∧ flashSlot u 0 0 = { bytes := image, bad := false } ∧
          u.pins.resetN = true)) ∧
    ∀ temps : List Int,
      let mx := (List.range 16).foldl (fun a k => max a (temps.getD k 0)) (temps.getD 0 0)
      let second := 2000 ≤ mx ∧ 1 ≤ s.sup.hot ∧ s.stateOf .sup 0 ≠ 4 ∧ s.pins.resetN = true
      ((-32768 : Int) ≤ mx) → mx ≤ 32767 →
      (¬second → ∃ u, exec (.thermalSample temps t) s = .next u ∧ toSigned 16 (u.get 0 Reg.sup_THERMAL_MAX) = mx ∧
        u.sup.hot = (if 2000 ≤ mx then s.sup.hot + 1 else 0) ∧
        (s.get 0 Reg.sup_THERMAL_WARN = 0 → 1680 ≤ mx → u.get 0 Reg.sup_THERMAL_WARN = 1 ∧ hasEvent u .sup 0 5) ∧
        (s.get 0 Reg.sup_THERMAL_WARN = 1 → mx < 1600 → u.get 0 Reg.sup_THERMAL_WARN = 0 ∧ hasEvent u .sup 0 6)) ∧
      (second → ∃ u, exec (.thermalSample temps t) s = .next u ∧ kept u ∧ u.stateOf .sup 0 = 4 ∧ u.dram = [] ∧
        u.get 0 Reg.sup_RESET_CAUSE_LAST = 2 ∧ u.get 0 Reg.sup_SV_CAUSE_THERMAL = 1 ∧ u.sup.mgmtReset = true ∧
        u.get 0 Reg.sup_COUNTS_TRIPS = (s.get 0 Reg.sup_COUNTS_TRIPS + 1) % 2 ^ Reg.sup_COUNTS_TRIPS.w)

/-- R504-R506: the Selvedge link begins after its idle pattern or its wait, at the pairs the sink allows; an attempt trains
it or goes to the next pair, and after the last it waits again; a source row is written through the record's matrix and ends
a stale quadrant; a quadrant without rows for MAX_AGE_MS is stale. What a clause takes from a reading of the model's is in
log entry 84. -/
def Obligations.SelvedgeTrainsAndShows : Prop :=
  ∀ (t : Nat) (s : State), Inv s →
    let r := s.sup.record
    (∀ (rate : Fin 11) (lanes : Fin 5),
      let ladder := svbLadder.filter (fun x => decide (linkRate x.1 ≤ linkRate rate.val) && decide (x.2 ≤ lanes.val))
      let begins := fun (c : Instr) =>
        (s.get (svPort s) Reg.dpo_LINK_STATUS_HPD = 0 → ∃ u, exec c s = .next u ∧ u.stateOf .svb 0 = 1 ∧ u.sup.svbPhase = 3) ∧
        (s.get (svPort s) Reg.dpo_LINK_STATUS_HPD = 1 → ladder = [] →
          ∃ u, exec c s = .next u ∧ u.stateOf .svb 0 = 4 ∧ u.sup.svbPhase = 3 ∧ hasEvent u .svb 0 1) ∧
        (s.get (svPort s) Reg.dpo_LINK_STATUS_HPD = 1 → ladder ≠ [] →
          ∃ u, exec c s = .next u ∧ u.stateOf .svb 0 = 2 ∧ u.sup.svbPhase = 2 ∧ u.sup.svbPairs = ladder ∧ u.regs = s.regs)
      (s.sup.engaged = true → s.sup.svbPhase = 1 → begins (.svbIdleEnd rate lanes t)) ∧
      (s.sup.engaged = true → s.sup.svbPhase = 3 → begins (.svbRetry rate lanes t)) ∧
      (s.sup.engaged = false ∨ s.sup.svbPhase ≠ 1 → exec (.svbIdleEnd rate lanes t) s = .next (s.at t)) ∧
      (s.sup.engaged = false ∨ s.sup.svbPhase ≠ 3 → exec (.svbRetry rate lanes t) s = .next (s.at t))) ∧
    (∀ a rest, s.sup.engaged = true → s.sup.svbPhase = 2 → s.sup.svbPairs = a :: rest → a.1 < 16 → a.2 < 8 →
      (∃ u, exec (.svbTrainAttemptEnd true t) s = .next u ∧ u.stateOf .svb 0 = 3 ∧ hasEvent u .svb 0 0 ∧ u.sup.svbPhase = 0 ∧
        u.get 0 Reg.svb_STATUS_RATE = a.1 ∧ u.get 0 Reg.svb_STATUS_LANES = a.2) ∧
      ∃ u, exec (.svbTrainAttemptEnd false t) s = .next u ∧
        u.get 0 Reg.svb_COUNTS_TRAIN_FAIL = (s.get 0 Reg.svb_COUNTS_TRAIN_FAIL + 1) % 2 ^ Reg.svb_COUNTS_TRAIN_FAIL.w ∧
        (rest = [] → u.stateOf .svb 0 = 4 ∧ hasEvent u .svb 0 1 ∧ u.sup.svbPhase = 3) ∧
        (rest ≠ [] → u.sup.svbPairs = rest ∧ u.stateOf .svb 0 = s.stateOf .svb 0)) ∧
    (∀ (q : Fin 4) (y : Nat) (rows : List (List Nat)) (first : Bool), Tbl.sorted s.sup.svbLines = true →
      let c := Instr.svbSourceRow q y rows first t
      (s.sup.engaged = false ∨ quadOn r q.val = false ∨ 540 ≤ y → exec c s = .next (s.at t)) ∧
      (s.sup.engaged = true → quadOn r q.val = true → y < 540 →
        ∃ u, exec c s = .next u ∧ getBit (svbStale u) q.val = false ∧
          Tbl.get [] u.sup.svbLines (540 * q.val + y) =
            (List.range 960).map (fun x => svbPixel r q.val rows (svbCol r q.val x) (svbRow r q.val y)) ∧
          (getBit (svbStale s) q.val = true → hasEvent u .svb 0 3) ∧
          u.get 0 (Reg.svb_QUAD_AGE_FRAMES.at (4 * q.val)) =
            if first then (s.get 0 (Reg.svb_QUAD_AGE_FRAMES.at (4 * q.val)) + 1) % 2 ^ 16 else s.get 0 (Reg.svb_QUAD_AGE_FRAMES.at (4 * q.val)))) ∧
    ∀ q : Fin 4,
      let due := s.sup.engaged = true ∧ quadOn r q.val = true ∧ getBit (svbStale s) q.val = false ∧
        msT (leAt r 4 2) < quadAge s q.val t
      (¬due → exec (.quadStale q t) s = .next (s.at t)) ∧
      (due → ∃ u, exec (.quadStale q t) s = .next u ∧ getBit (svbStale u) q.val = true ∧ hasEvent u .svb 0 2 ∧
        u.get 0 Reg.svb_COUNTS_STALE_ENTRIES = (s.get 0 Reg.svb_COUNTS_STALE_ENTRIES + 1) % 2 ^ Reg.svb_COUNTS_STALE_ENTRIES.w)

/-! ### Frames: what every command that is not a register access leaves alone -/

/-- Each of these commands ends in a next state; which registers, page headers and other parts of the state it may change.
Every other register and header, and every other part, DRAM among them where it is not named, is as before. -/
def Obligations.FramesOfTheVideoPath : Prop :=
  (let keep : State → State → Prop := fun s u => onlyRegs [] s u ∧ onlyHdrs [] s u ∧ u = { pagesOf u s with now := u.now, ctls := u.ctls }
   (∀ a b c s, ∃ u, exec (.strobePulse a b c) s = .next u ∧ keep s u) ∧
   (∀ a b s, ∃ u, exec (.sequenceDelayEnd a b) s = .next u ∧ keep s u)) ∧
  (let keep : State → State → Prop := fun s u => onlyRegs [] s u ∧ onlyHdrs [] s u ∧ u = { pagesOf u s with now := u.now, pins := u.pins }
   (∀ a b s, ∃ u, exec (.fsyncEdge a b) s = .next u ∧ keep s u) ∧
   (∀ a b s, ∃ u, exec (.fsyncPulseEnd a b) s = .next u ∧ keep s u) ∧
   (∀ a b s, ∃ u, exec (.trigRise a b) s = .next u ∧ keep s u) ∧
   (∀ a b s, ∃ u, exec (.trigPulseEnd a b) s = .next u ∧ keep s u)) ∧
  (∀ a b s, ∃ u, exec (.stopSequenceDone a b) s = .next u ∧
    onlyRegs [] s u ∧ onlyHdrs [.cctl] s u ∧ u = { pagesOf u s with now := u.now, ctls := u.ctls, pins := u.pins }) ∧
  (∀ a b s, ∃ u, exec (.initDone a b) s = .next u ∧
    onlyRegs [] s u ∧ onlyHdrs [.cctl] s u ∧ u = { pagesOf u s with now := u.now, sent := u.sent, ctls := u.ctls, ports := u.ports }) ∧
  (let keep : State → State → Prop := fun s u => onlyRegs [.cctl] s u ∧ onlyHdrs [.cctl] s u ∧ u = { pagesOf u s with now := u.now, sent := u.sent, ctls := u.ctls, ports := u.ports }
   (∀ a b c d s, ∃ u, exec (.busTransactionEnd a b c d) s = .next u ∧ keep s u) ∧
   (∀ a b s, ∃ u, exec (.writeWindow a b) s = .next u ∧ keep s u) ∧
   (∀ a b s, ∃ u, exec (.safeEnd a b) s = .next u ∧ keep s u) ∧
   (∀ a b c s, ∃ u, exec (.xferDone a b c) s = .next u ∧ keep s u)) ∧
  (∀ a b c d e s, ∃ u, exec (.ctuRowDone a b c d e) s = .next u ∧
    onlyRegs [.enc, .chk, .memx] s u ∧ onlyHdrs [.enc] s u ∧ u = { pagesOf u s with dram := u.dram, poison := u.poison, now := u.now, sent := u.sent, encs := u.encs, ports := u.ports }) ∧
  (∀ a b s, ∃ u, exec (.stallTimeout a b) s = .next u ∧
    onlyRegs [.enc, .memx] s u ∧ onlyHdrs [.enc] s u ∧ u = { pagesOf u s with dram := u.dram, poison := u.poison, now := u.now, sent := u.sent, encs := u.encs, ports := u.ports }) ∧
  (∀ a b s, ∃ u, exec (.refLost a b) s = .next u ∧
    onlyRegs [] s u ∧ onlyHdrs [.head] s u ∧ u = { pagesOf u s with now := u.now, sent := u.sent, heads := u.heads, ports := u.ports }) ∧
  (∀ a b s, ∃ u, exec (.refTarget a b) s = .next u ∧
    onlyRegs [.head] s u ∧ onlyHdrs [.head] s u ∧ u = { pagesOf u s with now := u.now, free := u.free, sent := u.sent, heads := u.heads, ports := u.ports }) ∧
  (∀ a b c d e s, ∃ u, exec (.rasterLineStart a b c d e) s = .next u ∧
    onlyRegs [.head, .layer] s u ∧ onlyHdrs [.head, .layer] s u ∧ u = { pagesOf u s with now := u.now, sent := u.sent, directs := u.directs, lays := u.lays, heads := u.heads, chks := u.chks, ports := u.ports }) ∧
  (∀ a b s, ∃ u, exec (.headFrameStart a b) s = .next u ∧
    onlyRegs [.head, .layer] s u ∧ onlyHdrs [.layer, .dpo] s u ∧ u = { pagesOf u s with now := u.now, sent := u.sent, directs := u.directs, lays := u.lays, heads := u.heads, dpos := u.dpos, chks := u.chks, ports := u.ports }) ∧
  (∀ a b s, ∃ u, exec (.vblank a b) s = .next u ∧
    onlyRegs [.pace, .bpool, .head, .layer, .dpo, .chk, .memx] s u ∧ onlyHdrs [.bpool, .head, .layer, .dpo, .chk] s u ∧ u = { pagesOf u s with now := u.now, sent := u.sent, directs := u.directs, pool := u.pool, lays := u.lays, heads := u.heads, dpos := u.dpos, chks := u.chks, ports := u.ports, pins := u.pins }) ∧
  (∀ a b c d s, ∃ u, exec (.stagedRowRead a b c d) s = .next u ∧
    onlyRegs [.pace, .bench, .zraw, .bpool, .head, .layer, .dpo, .chk, .memx] s u ∧ onlyHdrs [.bench, .zraw, .bpool, .head, .layer, .dpo, .chk] s u ∧ u = { pagesOf u s with now := u.now, sent := u.sent, strms := u.strms, directs := u.directs, pool := u.pool, lays := u.lays, heads := u.heads, dpos := u.dpos, ports := u.ports, pins := u.pins }) ∧
  (∀ a b c d e s, ∃ u, exec (.frameStart a b c d e) s = .next u ∧
    onlyRegs [.pace, .camp, .cams, .cctl, .shut, .lutm, .strm, .enc, .bpool, .head, .layer, .dpo, .chk, .memx] s u ∧ onlyHdrs [.camp, .cams, .cctl, .shut, .bench, .lutm, .strm, .zraw, .enc, .bpool, .head, .layer, .dpo, .chk] s u ∧ u = { pagesOf u s with dram := u.dram, poison := u.poison, now := u.now, free := u.free, sent := u.sent, pace := u.pace, asms := u.asms, strms := u.strms, benches := u.benches, ctls := u.ctls, directs := u.directs, zraws := u.zraws, encs := u.encs, pool := u.pool, lays := u.lays, heads := u.heads, dpos := u.dpos, ports := u.ports, pins := u.pins }) ∧
  (∀ a b s, ∃ u, exec (.deskewSequence a b) s = .next u ∧
    onlyRegs [.pace, .cams, .bpool, .head, .layer, .dpo, .chk, .memx] s u ∧ onlyHdrs [.bpool, .head, .layer, .dpo, .chk] s u ∧ u = { pagesOf u s with now := u.now, sent := u.sent, directs := u.directs, pool := u.pool, lays := u.lays, heads := u.heads, dpos := u.dpos, ports := u.ports, pins := u.pins }) ∧
  (let keep : State → State → Prop := fun s u => onlyRegs [.pace, .cams, .bpool, .head, .layer, .dpo, .chk, .memx] s u ∧ onlyHdrs [.camp, .bpool, .head, .layer, .dpo, .chk] s u ∧ u = { pagesOf u s with now := u.now, sent := u.sent, asms := u.asms, directs := u.directs, pool := u.pool, lays := u.lays, heads := u.heads, dpos := u.dpos, ports := u.ports, pins := u.pins }
   (∀ a b c d s, ∃ u, exec (.frameEnd a b c d) s = .next u ∧ keep s u) ∧
   (∀ a b c d s, ∃ u, exec (.lineTimeout a b c d) s = .next u ∧ keep s u)) ∧
  (∀ a b c s, ∃ u, exec (.noFrame a b c) s = .next u ∧
    onlyRegs [.pace, .cams, .bpool, .head, .layer, .dpo, .chk, .memx] s u ∧ onlyHdrs [.camp, .cams, .bpool, .head, .layer, .dpo, .chk] s u ∧ u = { pagesOf u s with now := u.now, sent := u.sent, asms := u.asms, directs := u.directs, pool := u.pool, lays := u.lays, heads := u.heads, dpos := u.dpos, ports := u.ports, pins := u.pins }) ∧
  (∀ a b c s, ∃ u, exec (.pclkGlitch a b c) s = .next u ∧
    onlyRegs [.pace, .cams, .bpool, .head, .layer, .dpo, .chk, .memx] s u ∧ onlyHdrs [.camp, .cams, .bpool, .head, .layer, .dpo, .chk] s u ∧ u = { pagesOf u s with now := u.now, sent := u.sent, strms := u.strms, directs := u.directs, pool := u.pool, lays := u.lays, heads := u.heads, dpos := u.dpos, ports := u.ports, pins := u.pins }) ∧
  (let keep : State → State → Prop := fun s u => onlyRegs [.pace, .cams, .bpool, .head, .layer, .dpo, .chk, .memx] s u ∧ onlyHdrs [.cams, .bpool, .head, .layer, .dpo, .chk] s u ∧ u = { pagesOf u s with now := u.now, sent := u.sent, directs := u.directs, pool := u.pool, lays := u.lays, heads := u.heads, dpos := u.dpos, ports := u.ports, pins := u.pins }
   (∀ a b c s, ∃ u, exec (.packetError a b c) s = .next u ∧ keep s u) ∧
   (∀ a b c s, ∃ u, exec (.phyError a b c) s = .next u ∧ keep s u) ∧
   (∀ a b c d e s, ∃ u, exec (.ulpsEntryExit a b c d e) s = .next u ∧ keep s u)) ∧
  (∀ a b c s, ∃ u, exec (.hdrMissing a b c) s = .next u ∧
    onlyRegs [.pace, .cams, .shut, .lutm, .strm, .enc, .bpool, .head, .layer, .dpo, .chk, .memx] s u ∧ onlyHdrs [.camp, .cams, .shut, .bench, .lutm, .strm, .zraw, .enc, .bpool, .head, .layer, .dpo, .chk] s u ∧ u = { pagesOf u s with dram := u.dram, poison := u.poison, now := u.now, sent := u.sent, pace := u.pace, asms := u.asms, strms := u.strms, benches := u.benches, directs := u.directs, zraws := u.zraws, encs := u.encs, pool := u.pool, lays := u.lays, heads := u.heads, dpos := u.dpos, ports := u.ports, pins := u.pins }) ∧
  (∀ a b c s, ∃ u, exec (.decSliceStart a b c) s = .next u ∧
    onlyRegs [.pace, .dec, .bpool, .head, .layer, .dpo, .chk, .memx] s u ∧ onlyHdrs [.dec, .bpool, .head, .layer, .dpo, .chk] s u ∧ u = { pagesOf u s with dram := u.dram, poison := u.poison, now := u.now, free := u.free, sent := u.sent, directs := u.directs, decs := u.decs, pool := u.pool, lays := u.lays, heads := u.heads, dpos := u.dpos, ports := u.ports, pins := u.pins }) ∧
  (∀ a b c d e f s, ∃ u, exec (.decSliceDone a b c d e f) s = .next u ∧
    onlyRegs [.pace, .dec, .bpool, .head, .layer, .dpo, .chk, .memx] s u ∧ onlyHdrs [.dec, .bpool, .head, .layer, .dpo, .chk] s u ∧ u = { pagesOf u s with dram := u.dram, poison := u.poison, now := u.now, sent := u.sent, directs := u.directs, decs := u.decs, pool := u.pool, lays := u.lays, heads := u.heads, dpos := u.dpos, ports := u.ports, pins := u.pins }) ∧
  (∀ a b s, ∃ u, exec (.pliRetry a b) s = .next u ∧
    onlyRegs [.pace, .dec, .bpool, .head, .layer, .dpo, .chk, .memx] s u ∧ onlyHdrs [.dec, .bpool, .head, .layer, .dpo, .chk] s u ∧ u = { pagesOf u s with now := u.now, sent := u.sent, directs := u.directs, decs := u.decs, pool := u.pool, lays := u.lays, heads := u.heads, dpos := u.dpos, ports := u.ports, pins := u.pins }) ∧
  (∀ a b s, ∃ u, exec (.pinFailsafe a b) s = .next u ∧
    onlyRegs [.pace, .evt, .bpool, .head, .layer, .dpo, .chk, .memx] s u ∧ onlyHdrs [.evt, .bpool, .head, .layer, .dpo, .chk] s u ∧ u = { pagesOf u s with now := u.now, sent := u.sent, directs := u.directs, pool := u.pool, lays := u.lays, heads := u.heads, dpos := u.dpos, ports := u.ports, pins := u.pins }) ∧
  (∀ a b c s, ∃ u, exec (.frameClose a b c) s = .next u ∧
    onlyRegs [.pace, .evt, .camp, .cams, .cctl, .shut, .lutm, .strm, .enc, .bpool, .head, .layer, .dpo, .chk, .memx] s u ∧ onlyHdrs [.evt, .camp, .cams, .cctl, .shut, .bench, .lutm, .strm, .zraw, .enc, .bpool, .head, .layer, .dpo, .chk] s u ∧ u = { pagesOf u s with dram := u.dram, poison := u.poison, now := u.now, free := u.free, sent := u.sent, pace := u.pace, asms := u.asms, strms := u.strms, benches := u.benches, ctls := u.ctls, directs := u.directs, zraws := u.zraws, encs := u.encs, pool := u.pool, lays := u.lays, heads := u.heads, dpos := u.dpos, ports := u.ports, pins := u.pins }) ∧
  (∀ a b c d e f g h i s, ∃ u, exec (.lineReceived a b c d e f g h i) s = .next u ∧
    onlyRegs [.pace, .evt, .camp, .cams, .shut, .lutm, .strm, .zraw, .enc, .bpool, .head, .layer, .dpo, .chk, .memx] s u ∧ onlyHdrs [.evt, .camp, .cams, .shut, .bench, .lutm, .strm, .zraw, .enc, .bpool, .head, .layer, .dpo, .chk] s u ∧ u = { pagesOf u s with dram := u.dram, poison := u.poison, now := u.now, sent := u.sent, pace := u.pace, asms := u.asms, strms := u.strms, benches := u.benches, directs := u.directs, zraws := u.zraws, stageIdx := u.stageIdx, encs := u.encs, pool := u.pool, lays := u.lays, heads := u.heads, dpos := u.dpos, ports := u.ports, pins := u.pins }) ∧
  (∀ a b c d e s, ∃ u, exec (.embeddedData a b c d e) s = .next u ∧
    onlyRegs [.pace, .evt, .cams, .strm, .bpool, .head, .layer, .dpo, .chk, .memx] s u ∧ onlyHdrs [.evt, .camp, .cams, .bpool, .head, .layer, .dpo, .chk] s u ∧ u = { pagesOf u s with now := u.now, sent := u.sent, asms := u.asms, strms := u.strms, directs := u.directs, pool := u.pool, lays := u.lays, heads := u.heads, dpos := u.dpos, ports := u.ports, pins := u.pins }) ∧
  (∀ a b c s, ∃ u, exec (.benchRowDone a b c) s = .next u ∧
    onlyRegs [.pace, .evt, .shut, .bench, .lutm, .strm, .zraw, .enc, .bpool, .head, .layer, .dpo, .chk, .memx] s u ∧ onlyHdrs [.evt, .shut, .bench, .lutm, .strm, .zraw, .enc, .bpool, .head, .layer, .dpo, .chk] s u ∧ u = { pagesOf u s with dram := u.dram, poison := u.poison, now := u.now, free := u.free, sent := u.sent, pace := u.pace, asms := u.asms, strms := u.strms, benches := u.benches, directs := u.directs, zraws := u.zraws, encs := u.encs, pool := u.pool, lays := u.lays, heads := u.heads, dpos := u.dpos, ports := u.ports, pins := u.pins }) ∧
  (let keep : State → State → Prop := fun s u => onlyRegs [.pace, .evt, .shut, .bench, .lutm, .strm, .zraw, .enc, .bpool, .head, .layer, .dpo, .chk, .memx] s u ∧ onlyHdrs [.evt, .shut, .bench, .lutm, .strm, .zraw, .enc, .bpool, .head, .layer, .dpo, .chk] s u ∧ u = { pagesOf u s with dram := u.dram, poison := u.poison, now := u.now, sent := u.sent, pace := u.pace, asms := u.asms, strms := u.strms, benches := u.benches, directs := u.directs, zraws := u.zraws, encs := u.encs, pool := u.pool, lays := u.lays, heads := u.heads, dpos := u.dpos, ports := u.ports, pins := u.pins }
   (∀ a b s, ∃ u, exec (.swapDone a b) s = .next u ∧ keep s u) ∧
   (∀ a b s, ∃ u, exec (.class0RowTake a b) s = .next u ∧ keep s u) ∧
   (∀ a b c d s, ∃ u, exec (.stripeComplete a b c d) s = .next u ∧ keep s u)) ∧
  (∀ a b s, ∃ u, exec (.statsReady a b) s = .next u ∧
    onlyRegs [.pace, .evt, .strm, .bpool, .head, .layer, .dpo, .chk, .memx] s u ∧ onlyHdrs [.evt, .bpool, .head, .layer, .dpo, .chk] s u ∧ u = { pagesOf u s with dram := u.dram, poison := u.poison, now := u.now, sent := u.sent, strms := u.strms, directs := u.directs, pool := u.pool, lays := u.lays, heads := u.heads, dpos := u.dpos, ports := u.ports, pins := u.pins }) ∧
  (∀ a s, ∃ u, exec (.lutLoadEnd a) s = .next u ∧
    onlyRegs [.pace, .lutm, .bpool, .head, .layer, .dpo, .chk, .memx] s u ∧ onlyHdrs [.lutm, .bpool, .head, .layer, .dpo, .chk] s u ∧ u = { pagesOf u s with now := u.now, sent := u.sent, lutSlots := u.lutSlots, directs := u.directs, pool := u.pool, lays := u.lays, heads := u.heads, dpos := u.dpos, ports := u.ports, pins := u.pins }) ∧
  (∀ a b s, ∃ u, exec (.gridReady a b) s = .next u ∧
    onlyRegs [.pace, .lutm, .strm, .bpool, .head, .layer, .dpo, .chk, .memx] s u ∧ onlyHdrs [.lutm, .bpool, .head, .layer, .dpo, .chk] s u ∧ u = { pagesOf u s with dram := u.dram, poison := u.poison, now := u.now, sent := u.sent, strms := u.strms, directs := u.directs, pool := u.pool, lays := u.lays, heads := u.heads, dpos := u.dpos, ports := u.ports, pins := u.pins }) ∧
  (∀ a b s, ∃ u, exec (.deadlineExpired a b) s = .next u ∧
    onlyRegs [.pace, .shut, .lutm, .strm, .enc, .bpool, .head, .layer, .dpo, .chk, .memx] s u ∧ onlyHdrs [.shut, .bench, .lutm, .strm, .zraw, .enc, .bpool, .head, .layer, .dpo, .chk] s u ∧ u = { pagesOf u s with dram := u.dram, poison := u.poison, now := u.now, sent := u.sent, pace := u.pace, asms := u.asms, strms := u.strms, benches := u.benches, directs := u.directs, zraws := u.zraws, encs := u.encs, pool := u.pool, lays := u.lays, heads := u.heads, dpos := u.dpos, ports := u.ports, pins := u.pins }) ∧
  (∀ a b c s, ∃ u, exec (.tapBufferComplete a b c) s = .next u ∧
    onlyRegs [.pace, .strm, .bpool, .head, .layer, .dpo, .chk, .memx] s u ∧ onlyHdrs [.bpool, .head, .layer, .dpo, .chk] s u ∧ u = { pagesOf u s with dram := u.dram, poison := u.poison, now := u.now, sent := u.sent, strms := u.strms, directs := u.directs, pool := u.pool, lays := u.lays, heads := u.heads, dpos := u.dpos, ports := u.ports, pins := u.pins }) ∧
  (∀ a b s, ∃ u, exec (.segReady a b) s = .next u ∧
    onlyRegs [.pace, .zraw, .bpool, .head, .layer, .dpo, .chk, .memx] s u ∧ onlyHdrs [.zraw, .bpool, .head, .layer, .dpo, .chk] s u ∧ u = { pagesOf u s with dram := u.dram, poison := u.poison, now := u.now, sent := u.sent, strms := u.strms, directs := u.directs, zraws := u.zraws, pool := u.pool, lays := u.lays, heads := u.heads, dpos := u.dpos, ports := u.ports, pins := u.pins }) ∧
  (let keep : State → State → Prop := fun s u => onlyRegs [.pace] s u ∧ onlyHdrs [.pace] s u ∧ u = { pagesOf u s with now := u.now, sent := u.sent, pace := u.pace, ports := u.ports }
   (∀ a s, ∃ u, exec (.rampDone a) s = .next u ∧ keep s u) ∧
   (∀ a b c s, ∃ u, exec (.paceIntervalEnd a b c) s = .next u ∧ keep s u) ∧
   (∀ a s, ∃ u, exec (.restoreStep a) s = .next u ∧ keep s u)) ∧
  (∀ a b s, ∃ u, exec (.auxRun a b) s = .next u ∧
    onlyRegs [] s u ∧ onlyHdrs [] s u ∧ u = { pagesOf u s with now := u.now, sent := u.sent, dpos := u.dpos }) ∧
  (∀ a b s, ∃ u, exec (.idlePatternEnd a b) s = .next u ∧
    onlyRegs [] s u ∧ onlyHdrs [.dpo] s u ∧ u = { pagesOf u s with now := u.now, sent := u.sent, dpos := u.dpos, ports := u.ports }) ∧
  (let keep : State → State → Prop := fun s u => onlyRegs [.dpo] s u ∧ onlyHdrs [.dpo] s u ∧ u = { pagesOf u s with now := u.now, sent := u.sent, dpos := u.dpos, ports := u.ports }
   (∀ a b s, ∃ u, exec (.hpdPlug a b) s = .next u ∧ keep s u) ∧
   (∀ a b c s, ∃ u, exec (.hpdIrq a b c) s = .next u ∧ keep s u) ∧
   (∀ a b c d e s, ∃ u, exec (.capReadDone a b c d e) s = .next u ∧ keep s u) ∧
   (∀ a b c s, ∃ u, exec (.trainAttemptEnd a b c) s = .next u ∧ keep s u) ∧
   (∀ a b s, ∃ u, exec (.linkRetry a b) s = .next u ∧ keep s u) ∧
   (∀ a b c d s, ∃ u, exec (.auxDone a b c d) s = .next u ∧ keep s u)) ∧
  (let keep : State → State → Prop := fun s u => onlyRegs [.zraw, .memx] s u ∧ onlyHdrs [.zraw] s u ∧ u = { pagesOf u s with dram := u.dram, poison := u.poison, now := u.now, free := u.free, sent := u.sent, zraws := u.zraws, ports := u.ports }
   (∀ a b s, ∃ u, exec (.pixelEncodeJob a b) s = .next u ∧ keep s u) ∧
   (∀ a b s, ∃ u, exec (.pixelDecodeJob a b) s = .next u ∧ keep s u) ∧
   (∀ a b s, ∃ u, exec (.byteCompressJob a b) s = .next u ∧ keep s u) ∧
   (∀ a b s, ∃ u, exec (.byteDecompressJob a b) s = .next u ∧ keep s u))

/-- The same of the commands of links, network, time, audio, memory, supervision and security. -/
def Obligations.FramesOfTheOtherBlocks : Prop :=
  (∀ a b s, ∃ u, exec (.silentStart a b) s = .next u ∧
    onlyRegs [] s u ∧ onlyHdrs [.aud] s u ∧ u = { pagesOf u s with now := u.now }) ∧
  (∀ a b s, ∃ u, exec (.stopComplete a b) s = .next u ∧
    onlyRegs [] s u ∧ onlyHdrs [.aud] s u ∧ u = { pagesOf u s with now := u.now, sent := u.sent, ports := u.ports }) ∧
  (∀ a b s, ∃ u, exec (.holdLimit a b) s = .next u ∧
    onlyRegs [.aud] s u ∧ onlyHdrs [] s u ∧ u = { pagesOf u s with now := u.now, sent := u.sent, auds := u.auds }) ∧
  (let keep : State → State → Prop := fun s u => onlyRegs [.aud] s u ∧ onlyHdrs [.aud] s u ∧ u = { pagesOf u s with now := u.now, sent := u.sent, auds := u.auds, ports := u.ports }
   (∀ a b c s, ∃ u, exec (.clockLost a b c) s = .next u ∧ keep s u) ∧
   (∀ a b s, ∃ u, exec (.clockBack a b) s = .next u ∧ keep s u) ∧
   (∀ a b c s, ∃ u, exec (.audRateMeasure a b c) s = .next u ∧ keep s u)) ∧
  (∀ a b s, ∃ u, exec (.startFired a b) s = .next u ∧
    onlyRegs [.aud, .amclk] s u ∧ onlyHdrs [.aud, .amclk] s u ∧ u = { pagesOf u s with now := u.now, sent := u.sent, auds := u.auds, trigger := u.trigger, ports := u.ports }) ∧
  (∀ a b c s, ∃ u, exec (.outputBlock a b c) s = .next u ∧
    onlyRegs [.aud, .memx] s u ∧ onlyHdrs [.aud] s u ∧ u = { pagesOf u s with dram := u.dram, poison := u.poison, now := u.now, free := u.free, sent := u.sent, auds := u.auds, ports := u.ports }) ∧
  (∀ a s, ∃ u, exec (.ppsOutEnd a) s = .next u ∧
    onlyRegs [] s u ∧ onlyHdrs [] s u ∧ u = { pagesOf u s with now := u.now, pins := u.pins }) ∧
  (∀ a s, ∃ u, exec (.ppsOutEdge a) s = .next u ∧
    onlyRegs [] s u ∧ onlyHdrs [] s u ∧ u = { pagesOf u s with now := u.now, ppsRise := u.ppsRise, pins := u.pins }) ∧
  (∀ a b c d s, ∃ u, exec (.ptpRx a b c d) s = .next u ∧
    onlyRegs [.net, .time, .timel, .memx] s u ∧ onlyHdrs [.time] s u ∧ u = { pagesOf u s with dram := u.dram, poison := u.poison, now := u.now, sent := u.sent, doms := u.doms, ports := u.ports }) ∧
  (let keep : State → State → Prop := fun s u => onlyRegs [.time] s u ∧ onlyHdrs [.time] s u ∧ u = { pagesOf u s with now := u.now, sent := u.sent, clocks := u.clocks, doms := u.doms, ports := u.ports }
   (∀ a b s, ∃ u, exec (.measurementInterval a b) s = .next u ∧ keep s u) ∧
   (∀ a b s, ∃ u, exec (.holdEnd a b) s = .next u ∧ keep s u)) ∧
  (∀ a b s, ∃ u, exec (.slewDone a b) s = .next u ∧
    onlyRegs [.time] s u ∧ onlyHdrs [.time] s u ∧ u = { pagesOf u s with now := u.now, sent := u.sent, clocks := u.clocks, ports := u.ports }) ∧
  (∀ a b s, ∃ u, exec (.ptpTxDepart a b) s = .next u ∧
    onlyRegs [.time, .memx] s u ∧ onlyHdrs [.time] s u ∧ u = { pagesOf u s with dram := u.dram, poison := u.poison, now := u.now, free := u.free, sent := u.sent, nets := u.nets, doms := u.doms, ports := u.ports }) ∧
  (∀ a b c d s, ∃ u, exec (.flowPacket a b c d) s = .next u ∧
    onlyRegs [.dec, .chk, .net, .pkt, .aud, .memx] s u ∧ onlyHdrs [.dec, .chk, .pkt] s u ∧ u = { pagesOf u s with dram := u.dram, poison := u.poison, now := u.now, sent := u.sent, chks := u.chks, flows := u.flows, auds := u.auds, ports := u.ports }) ∧
  (∀ a b s, ∃ u, exec (.flowLoss a b) s = .next u ∧
    onlyRegs [.dec, .chk, .pkt, .aud, .memx] s u ∧ onlyHdrs [.dec, .chk, .pkt] s u ∧ u = { pagesOf u s with dram := u.dram, poison := u.poison, now := u.now, sent := u.sent, chks := u.chks, flows := u.flows, auds := u.auds, ports := u.ports }) ∧
  (∀ a b c d s, ∃ u, exec (.exceptionRx a b c d) s = .next u ∧
    onlyRegs [.net, .pkt, .memx] s u ∧ onlyHdrs [.pkt] s u ∧ u = { pagesOf u s with dram := u.dram, poison := u.poison, now := u.now, sent := u.sent, ports := u.ports }) ∧
  (∀ a b s, ∃ u, exec (.netLinkUp a b) s = .next u ∧
    onlyRegs [.net, .pkt, .time, .memx] s u ∧ onlyHdrs [.net, .time] s u ∧ u = { pagesOf u s with dram := u.dram, poison := u.poison, now := u.now, free := u.free, sent := u.sent, nets := u.nets, sess := u.sess, pkt := u.pkt, ports := u.ports }) ∧
  (∀ a b s, ∃ u, exec (.netLinkDown a b) s = .next u ∧
    onlyRegs [.net, .pkt, .time, .memx, .session] s u ∧ onlyHdrs [.net, .pkt, .time] s u ∧ u = { pagesOf u s with dram := u.dram, poison := u.poison, now := u.now, free := u.free, sent := u.sent, nets := u.nets, sess := u.sess, flows := u.flows, pkt := u.pkt, ports := u.ports }) ∧
  (let keep : State → State → Prop := fun s u => onlyRegs [] s u ∧ onlyHdrs [] s u ∧ u = { pagesOf u s with now := u.now, sent := u.sent, ports := u.ports }
   (∀ a b c s, ∃ u, exec (.msixUnmask a b c) s = .next u ∧ keep s u) ∧
   (∀ a b s, ∃ u, exec (.msixEnable a b) s = .next u ∧ keep s u)) ∧
  (∀ a b c s, ∃ u, exec (.leaseLapsed a b c) s = .next u ∧
    onlyRegs [] s u ∧ onlyHdrs [.head, .layer, a] s u ∧ u = { pagesOf u s with now := u.now, sent := u.sent, ports := u.ports }) ∧
  (∀ a b s, ∃ u, exec (.flrEnd a b) s = .next u ∧
    onlyRegs [] s u ∧ onlyHdrs [.host] s u ∧ u = { pagesOf u s with now := u.now }) ∧
  (∀ a b c s, ∃ u, exec (.resizableBarWrite a b c) s = .next u ∧
    onlyRegs [.host] s u ∧ onlyHdrs [] s u ∧ u = { pagesOf u s with now := u.now }) ∧
  (∀ a b c d e s, ∃ u, exec (.hostLinkUp a b c d e) s = .next u ∧
    onlyRegs [.host] s u ∧ onlyHdrs [.host] s u ∧ u = { pagesOf u s with now := u.now, sent := u.sent, ports := u.ports }) ∧
  (∀ a b c d e s, ∃ u, exec (.bar2Write a b c d e) s = .next u ∧
    onlyRegs [.host, .memx] s u ∧ onlyHdrs [] s u ∧ u = { pagesOf u s with dram := u.dram, poison := u.poison, now := u.now, sent := u.sent }) ∧
  (∀ a b c d s, ∃ u, exec (.bar2Read a b c d) s = .next u ∧
    onlyRegs [.host, .memx] s u ∧ onlyHdrs [] s u ∧ u = { pagesOf u s with now := u.now, sent := u.sent }) ∧
  (∀ a b s, ∃ u, exec (.thimbleLapsed a b) s = .next u ∧
    onlyRegs [.thm] s u ∧ onlyHdrs [.thm] s u ∧ u = { pagesOf u s with now := u.now, sent := u.sent, ports := u.ports, thmTimers := u.thmTimers }) ∧
  (∀ a b c d s, ∃ u, exec (.cmdRefused a b c d) s = .next u ∧
    onlyRegs [.sup, .pace, .svb, .bpool, .head, .layer, .dpo, .chk, .net, .pkt, .memx] s u ∧ onlyHdrs [.sup, .svb, .bpool, .head, .layer, .dpo, .chk, .pkt] s u ∧ u = { pagesOf u s with now := u.now, sent := u.sent, directs := u.directs, pool := u.pool, lays := u.lays, heads := u.heads, dpos := u.dpos, ports := u.ports, sec := u.sec, pins := u.pins, sup := u.sup }) ∧
  (let keep : State → State → Prop := fun s u => onlyRegs [.host, .dma, .memx] s u ∧ u = { pagesOf u s with dram := u.dram, poison := u.poison, now := u.now, sent := u.sent, ports := u.ports, thmTimers := u.thmTimers }
   (∀ a b s, ∃ u, exec (.hostLinkDown a b) s = .next u ∧ keep s u) ∧
   (∀ a b s, ∃ u, exec (.flr a b) s = .next u ∧ keep s u)) ∧
  (∀ a s, ∃ u, exec (.encoderHoldEnd a) s = .next u ∧
    onlyRegs [] s u ∧ onlyHdrs [] s u ∧ u = { pagesOf u s with now := u.now, sec := u.sec }) ∧
  (∀ a s, ∃ u, exec (.quiesceTimeout a) s = .next u ∧
    onlyRegs [.sec] s u ∧ onlyHdrs [] s u ∧ u = { pagesOf u s with now := u.now, sec := u.sec }) ∧
  (∀ a s, ∃ u, exec (.handoverTimeout a) s = .next u ∧
    onlyRegs [.sec] s u ∧ onlyHdrs [.sec] s u ∧ u = { pagesOf u s with now := u.now, sent := u.sent, ports := u.ports, sec := u.sec }) ∧
  (let keep : State → State → Prop := fun s u => onlyRegs [.sec, .memx] s u ∧ u = { pagesOf u s with dram := u.dram, poison := u.poison, now := u.now, free := u.free, sent := u.sent, profiles := u.profiles, ports := u.ports, sec := u.sec }
   (∀ a s, ∃ u, exec (.load a) s = .next u ∧ keep s u) ∧
   (∀ a s, ∃ u, exec (.update a) s = .next u ∧ keep s u) ∧
   (∀ a s, ∃ u, exec (.activate a) s = .next u ∧ keep s u) ∧
   (∀ a s, ∃ u, exec (.confirm a) s = .next u ∧ keep s u) ∧
   (∀ a s, ∃ u, exec (.advance a) s = .next u ∧ keep s u) ∧
   (∀ a s, ∃ u, exec (.attest a) s = .next u ∧ keep s u) ∧
   (∀ a s, ∃ u, exec (.identity a) s = .next u ∧ keep s u) ∧
   (∀ a s, ∃ u, exec (.debugChallenge a) s = .next u ∧ keep s u) ∧
   (∀ a s, ∃ u, exec (.debugUnlock a) s = .next u ∧ keep s u) ∧
   (∀ a s, ∃ u, exec (.enroll a) s = .next u ∧ keep s u)) ∧
  (∀ a b c d s, ∃ u, exec (.blockReady a b c d) s = .next u ∧
    onlyRegs [.net, .pkt, .time, .aud, .memx, .session] s u ∧ onlyHdrs [.pkt, .time, .aud, .session] s u ∧ u = { pagesOf u s with dram := u.dram, poison := u.poison, now := u.now, free := u.free, sent := u.sent, nets := u.nets, sess := u.sess, pkt := u.pkt, auds := u.auds, ports := u.ports }) ∧
  (∀ a b s, ∃ u, exec (.packetEligible a b) s = .next u ∧
    onlyRegs [.net, .pkt, .time, .memx] s u ∧ onlyHdrs [.time] s u ∧ u = { pagesOf u s with dram := u.dram, poison := u.poison, now := u.now, free := u.free, sent := u.sent, nets := u.nets, sess := u.sess, pkt := u.pkt, ports := u.ports }) ∧
  (∀ a s, ∃ u, exec (.senderReport a) s = .next u ∧
    onlyRegs [.net, .pkt, .time, .memx, .session] s u ∧ onlyHdrs [.pkt, .time] s u ∧ u = { pagesOf u s with dram := u.dram, poison := u.poison, now := u.now, free := u.free, sent := u.sent, nets := u.nets, sess := u.sess, pkt := u.pkt, ports := u.ports }) ∧
  (∀ a b s, ∃ u, exec (.pktSend a b) s = .next u ∧
    onlyRegs [.net, .pkt, .time, .memx, .session] s u ∧ onlyHdrs [.time] s u ∧ u = { pagesOf u s with dram := u.dram, poison := u.poison, now := u.now, free := u.free, sent := u.sent, nets := u.nets, sess := u.sess, pkt := u.pkt, ports := u.ports }) ∧
  (∀ a b c s, ∃ u, exec (.pktRecordIngest a b c) s = .next u ∧
    onlyRegs [.zraw, .enc, .chk, .net, .pkt, .time, .memx, .session] s u ∧ onlyHdrs [.enc, .pkt, .time, .session] s u ∧ u = { pagesOf u s with dram := u.dram, poison := u.poison, now := u.now, free := u.free, sent := u.sent, encs := u.encs, nets := u.nets, sess := u.sess, pkt := u.pkt, ports := u.ports }) ∧
  (∀ a b c s, ∃ u, exec (.stagedCheck a b c) s = .next u ∧
    onlyRegs [.sup, .pace, .camp, .cams, .shut, .svb, .lutm, .strm, .enc, .bpool, .head, .layer, .dpo, .chk, .ddrc, .memx] s u ∧ onlyHdrs [.sup, .camp, .cams, .shut, .bench, .svb, .lutm, .strm, .zraw, .enc, .bpool, .head, .layer, .dpo, .chk, .time, .ddrc] s u ∧ u = { pagesOf u s with dram := u.dram, poison := u.poison, now := u.now, sent := u.sent, pace := u.pace, asms := u.asms, strms := u.strms, benches := u.benches, directs := u.directs, zraws := u.zraws, encs := u.encs, pool := u.pool, lays := u.lays, heads := u.heads, dpos := u.dpos, ports := u.ports, sec := u.sec, pins := u.pins, sup := u.sup }) ∧
  (∀ a b s, ∃ u, exec (.refresh a b) s = .next u ∧
    onlyRegs [] s u ∧ onlyHdrs [] s u ∧ u = { pagesOf u s with now := u.now }) ∧
  (∀ a s, ∃ u, exec (.resetNRelease a) s = .next u ∧
    onlyRegs [.sup, .sec, .svb, .dpo, .ddrc, .memx] s u ∧ u = { pagesOf u s with dram := u.dram, poison := u.poison, now := u.now, sent := u.sent, profiles := u.profiles, dpos := u.dpos, mem := u.mem, ports := u.ports, sec := u.sec, pins := u.pins, sup := u.sup }) ∧
  (∀ a s, ∃ u, exec (.mgmtResetEnd a) s = .next u ∧
    onlyRegs [.sup, .sec, .svb, .dpo, .memx] s u ∧ onlyHdrs [.sup, .sec, .svb, .dpo, .memx] s u ∧ u = { pagesOf u s with dram := u.dram, poison := u.poison, now := u.now, sent := u.sent, dpos := u.dpos, ports := u.ports, sec := u.sec, pins := u.pins, sup := u.sup }) ∧
  (let keep : State → State → Prop := fun s u => onlyRegs [.sup, .svb, .dpo] s u ∧ onlyHdrs [.sup, .svb, .dpo] s u ∧ u = { pagesOf u s with now := u.now, sent := u.sent, dpos := u.dpos, ports := u.ports, pins := u.pins, sup := u.sup }
   (∀ a s, ∃ u, exec (.safeviewRequest a) s = .next u ∧ keep s u) ∧
   (∀ a s, ∃ u, exec (.safeviewReqRelease a) s = .next u ∧ keep s u)) ∧
  (∀ a b c s, ∃ u, exec (.mr4Poll a b c) s = .next u ∧
    onlyRegs [.sup, .svb, .dpo, .ddrc] s u ∧ onlyHdrs [.sup, .svb, .dpo, .ddrc] s u ∧ u = { pagesOf u s with now := u.now, sent := u.sent, dpos := u.dpos, ports := u.ports, sec := u.sec, pins := u.pins, sup := u.sup }) ∧
  (let keep : State → State → Prop := fun s u => onlyRegs [.sup, .svb, .dpo, .ddrc, .memx] s u ∧ onlyHdrs [.sup, .svb, .dpo, .ddrc, .memx] s u ∧ u = { pagesOf u s with now := u.now, sent := u.sent, dpos := u.dpos, mem := u.mem, ports := u.ports, sec := u.sec, pins := u.pins, sup := u.sup }
   (∀ a b c s, ∃ u, exec (.ddrcTrainingDone a b c) s = .next u ∧ keep s u) ∧
   (∀ a s, ∃ u, exec (.freqMarginMet a) s = .next u ∧ keep s u) ∧
   (∀ a b c d s, ∃ u, exec (.freqChangeDone a b c d) s = .next u ∧ keep s u)) ∧
  (let keep : State → State → Prop := fun s u => onlyRegs [.sup, .svb, .dpo, .ddrc, .memx] s u ∧ onlyHdrs [.sup, .svb, .dpo, .ddrc, .memx] s u ∧ u = { pagesOf u s with poison := u.poison, now := u.now, free := u.free, sent := u.sent, dpos := u.dpos, mem := u.mem, ports := u.ports, sec := u.sec, pins := u.pins, sup := u.sup }
   (∀ a b c d s, ∃ u, exec (.scrubLine a b c d) s = .next u ∧ keep s u) ∧
   (∀ a b c d e s, ∃ u, exec (.dramReadDone a b c d e) s = .next u ∧ keep s u)) ∧
  (∀ a b c s, ∃ u, exec (.diagnosisDone a b c) s = .next u ∧
    onlyRegs [.sup, .svb, .dpo, .ddrc, .memx] s u ∧ onlyHdrs [.sup, .svb, .dpo, .ddrc, .memx] s u ∧ u = { pagesOf u s with poison := u.poison, now := u.now, sent := u.sent, dpos := u.dpos, mem := u.mem, ports := u.ports, sec := u.sec, pins := u.pins, sup := u.sup }) ∧
  (let keep : State → State → Prop := fun s u => onlyRegs [.sup, .svb, .dpo, .memx] s u ∧ onlyHdrs [.sup, .svb, .dpo, .ddrc, .memx] s u ∧ u = { pagesOf u s with now := u.now, sent := u.sent, dpos := u.dpos, mem := u.mem, ports := u.ports, sec := u.sec, pins := u.pins, sup := u.sup }
   (∀ a b c d s, ∃ u, exec (.trackTick a b c d) s = .next u ∧ keep s u) ∧
   (∀ a s, ∃ u, exec (.freqAbort a) s = .next u ∧ keep s u)) ∧
  (∀ a s, ∃ u, exec (.freqTimeout a) s = .next u ∧
    onlyRegs [.sup, .svb, .dpo, .memx] s u ∧ onlyHdrs [.sup, .svb, .dpo, .memx] s u ∧ u = { pagesOf u s with now := u.now, sent := u.sent, dpos := u.dpos, mem := u.mem, ports := u.ports, sec := u.sec, pins := u.pins, sup := u.sup }) ∧
  (∀ a b s, ∃ u, exec (.relineSegmentDone a b) s = .next u ∧
    onlyRegs [.sup, .svb, .dpo, .memx] s u ∧ onlyHdrs [.sup, .svb, .dpo, .memx] s u ∧ u = { pagesOf u s with poison := u.poison, now := u.now, sent := u.sent, dpos := u.dpos, mem := u.mem, ports := u.ports, sec := u.sec, pins := u.pins, sup := u.sup }) ∧
  (let keep : State → State → Prop := fun s u => onlyRegs [.sup, .thm, .sec, .svb, .dpo, .memx] s u ∧ onlyHdrs [.sup, .sec, .svb, .dpo, .memx] s u ∧ u = { pagesOf u s with now := u.now, sent := u.sent, dpos := u.dpos, ports := u.ports, sec := u.sec, pins := u.pins, sup := u.sup }
   (∀ a s, ∃ u, exec (.hbMiss a) s = .next u ∧ keep s u) ∧
   (∀ a s, ∃ u, exec (.firstHeartbeatTimeout a) s = .next u ∧ keep s u)) ∧
  (∀ a b s, ∃ u, exec (.quadStale a b) s = .next u ∧
    onlyRegs [.svb] s u ∧ onlyHdrs [.svb] s u ∧ u = { pagesOf u s with now := u.now, sent := u.sent, ports := u.ports }) ∧
  (let keep : State → State → Prop := fun s u => onlyRegs [.svb] s u ∧ onlyHdrs [.svb] s u ∧ u = { pagesOf u s with now := u.now, sent := u.sent, ports := u.ports, sup := u.sup }
   (∀ a b c s, ∃ u, exec (.svbIdleEnd a b c) s = .next u ∧ keep s u) ∧
   (∀ a b s, ∃ u, exec (.svbTrainAttemptEnd a b) s = .next u ∧ keep s u) ∧
   (∀ a b c s, ∃ u, exec (.svbRetry a b c) s = .next u ∧ keep s u) ∧
   (∀ a b c d e s, ∃ u, exec (.svbSourceRow a b c d e) s = .next u ∧ keep s u)) ∧
  (∀ a b s, ∃ u, exec (.hpdUnplug a b) s = .next u ∧
    onlyRegs [.svb, .dpo] s u ∧ onlyHdrs [.svb, .dpo] s u ∧ u = { pagesOf u s with now := u.now, sent := u.sent, dpos := u.dpos, ports := u.ports, sup := u.sup })

/-! ### Staged checks (R34) -/

/-- R34: the staged check of a commit that waits for it. A check that fails ends the commit with OUTCOME 4, REASON the error
code and event 31, and the staged values stay staged; one that passes leaves it pending as checked, or applies it where no
boundary is to come. A page with no such commit is left alone. What a clause takes from a reading of the model's is in log
entry 19. -/
def Obligations.StagedValuesChecked : Prop :=
  ∀ (b : Block) (n t : Nat) (s : State), Inv s →
    let c := Instr.stagedCheck b n t
    let h := s.hdr b n
    let x := s.at t
    let waits := n < blkCount b ∧ blkCommits b = true ∧ h.pendingCommit = true ∧ h.checked = false
    let rejected := fun code => ∃ y, exec c s = .next (after s y) ∧ (y.hdr b n).outcome = 4 ∧ (y.hdr b n).reason = code ∧
      (y.hdr b n).pendingCommit = false ∧ (y.hdr b n).raw.toNat.testBit 31 = true ∧ (h.errCode = 0 → (y.hdr b n).errCode = code) ∧
      (y.hdr b n).enable = h.enable ∧ (y.hdr b n).enableStaged = h.enableStaged ∧ y.stag = s.stag
    (¬waits → exec c s = .next (after s x)) ∧
    (waits →
      (b = .time → rateStagedOk x n = true →
        exec c s = .next (after s (x.setHdr b n { h with checked := true, busy := false }))) ∧
      (b = .time → rateStagedOk x n = false → rejected 0x01) ∧
      (b = .ddrc → 1 < h.state → exec c s = .next (after s (x.setHdr b n { h with checked := true, busy := false }))) ∧
      (b = .ddrc → h.state ≤ 1 → ∃ y, exec c s = .next (after s y) ∧ (y.hdr b n).outcome = 2 ∧ (y.hdr b n).reason = 0 ∧
        (y.hdr b n).pendingCommit = false ∧ (y.hdr b n).raw.toNat.testBit 31 = true ∧ (y.hdr b n).enable = h.enableStaged) ∧
      (∀ code d, b = .camp ∨ b = .cams → checkPort x (if b = .camp then n else 40 + n) = some (code, d) → rejected code) ∧
      (∀ code d, b = .strm → checkFields (place (applyGroup .strm n x)) n = some (code, d) → rejected code) ∧
      (∀ code d, b = .enc → checkEnc x n = some (code, d) → rejected code) ∧
      (∀ code d, b = .head → checkHead (readTables n x) n = some (code, d) → rejected code))
end

