-- ==== Sys2Proof/Laws/Table.lean ====
section
/-! SUPPORT. Laws of sparse tables: a read after a write to the same key, a write leaves every other key alone, and every
table operation keeps the canonical form. -/

namespace Sys2Proof.Machine

variable {α : Type}

/-- Every key of the table lies above `a`. -/
def Tbl.above (a : Nat) (t : Tbl α) : Prop := ∀ e ∈ t, a < e.1

theorem tbl_sorted_cons {a : Nat} {v : α} {t : Tbl α} :
    Tbl.sorted ((a, v) :: t) = true ↔ Tbl.above a t ∧ Tbl.sorted t = true := by
  induction t generalizing a v with
  | nil => simp [Tbl.sorted, Tbl.above]
  | cons e t ih =>
    obtain ⟨b, w⟩ := e
    rw [show Tbl.sorted ((a, v) :: (b, w) :: t) = (decide (a < b) && Tbl.sorted ((b, w) :: t)) from rfl]
    simp only [Bool.and_eq_true, decide_eq_true_eq, ih, Tbl.above, List.mem_cons, forall_eq_or_imp]
    constructor
    · rintro ⟨h1, h2, h3⟩
      exact ⟨⟨h1, fun e he => Nat.lt_trans h1 (h2 e he)⟩, h2, h3⟩
    · rintro ⟨⟨h1, _⟩, h2, h3⟩
      exact ⟨h1, h2, h3⟩

/-- A table is sorted when its keys rise pairwise. -/
theorem tbl_sorted_iff_pairwise {t : Tbl α} : Tbl.sorted t = true ↔ t.Pairwise (fun x y => x.1 < y.1) := by
  induction t with
  | nil => simp [Tbl.sorted]
  | cons e t ih =>
    obtain ⟨a, v⟩ := e
    rw [tbl_sorted_cons, List.pairwise_cons, ih]
    rfl

theorem tbl_get_above {d : α} {a : Nat} {t : Tbl α} (h : Tbl.above a t) : Tbl.get d t a = d := by
  induction t with
  | nil => rfl
  | cons e t ih =>
    obtain ⟨b, w⟩ := e
    have hb : a < b := h (b, w) (List.mem_cons_self ..)
    simp only [Tbl.get, if_neg (Nat.ne_of_lt hb)]
    exact ih (fun e he => h e (List.mem_cons_of_mem _ he))

variable [DecidableEq α]

/-- An entry after a write is the written one or an entry from before. -/
theorem tbl_mem_put {d v : α} {a : Nat} {t : Tbl α} {e : Nat × α} (h : e ∈ Tbl.put d a v t) :
    (e = (a, v) ∧ v ≠ d) ∨ e ∈ t := by
  induction t with
  | nil =>
    simp only [Tbl.put] at h
    split at h
    · simp at h
    · exact .inl ⟨by simpa using h, by assumption⟩
  | cons x t ih =>
    obtain ⟨b, w⟩ := x
    simp only [Tbl.put] at h
    split at h
    · split at h
      · exact .inr h
      · rcases List.mem_cons.1 h with h | h
        · exact .inl ⟨h, by assumption⟩
        · exact .inr h
    · split at h
      · split at h
        · exact .inr (List.mem_cons_of_mem _ h)
        · rcases List.mem_cons.1 h with h | h
          · exact .inl ⟨h, by assumption⟩
          · exact .inr (List.mem_cons_of_mem _ h)
      · rcases List.mem_cons.1 h with h | h
        · exact .inr (h ▸ List.mem_cons_self ..)
        · rcases ih h with h | h
          · exact .inl h
          · exact .inr (List.mem_cons_of_mem _ h)

/-- A write keeps the keys strictly rising. -/
theorem tbl_sorted_put {d v : α} {a : Nat} {t : Tbl α} (h : Tbl.sorted t = true) : Tbl.sorted (Tbl.put d a v t) = true := by
  induction t with
  | nil => simp only [Tbl.put]; split <;> rfl
  | cons x t ih =>
    obtain ⟨b, w⟩ := x
    obtain ⟨hb, ht⟩ := tbl_sorted_cons.1 h
    simp only [Tbl.put]
    split
    · rename_i hab
      split
      · exact h
      · refine tbl_sorted_cons.2 ⟨fun e he => ?_, h⟩
        rcases List.mem_cons.1 he with he | he
        · exact he ▸ hab
        · exact Nat.lt_trans hab (hb e he)
    · split
      · rename_i hab
        split
        · exact ht
        · exact tbl_sorted_cons.2 ⟨hab ▸ hb, ht⟩
      · refine tbl_sorted_cons.2 ⟨fun e he => ?_, ih ht⟩
        rcases tbl_mem_put he with he | he
        · obtain ⟨rfl, -⟩ := he; change b < a; omega
        · exact hb e he

/-- A read after a write to the same key gives the value written. -/
theorem tbl_get_put_same {d v : α} {a : Nat} {t : Tbl α} (h : Tbl.sorted t = true) : Tbl.get d (Tbl.put d a v t) a = v := by
  induction t with
  | nil => simp only [Tbl.put]; split <;> simp_all [Tbl.get]
  | cons x t ih =>
    obtain ⟨b, w⟩ := x
    obtain ⟨hb, ht⟩ := tbl_sorted_cons.1 h
    simp only [Tbl.put]
    split
    · rename_i hab
      split
      · rename_i hv
        subst hv
        refine tbl_get_above (fun e he => ?_)
        rcases List.mem_cons.1 he with he | he
        · exact he ▸ hab
        · exact Nat.lt_trans hab (hb e he)
      · simp [Tbl.get]
    · split
      · rename_i hab
        split
        · rename_i hv
          subst hv; subst hab
          exact tbl_get_above hb
        · simp [Tbl.get]
      · rename_i hab
        simp only [Tbl.get, if_neg hab]
        exact ih ht

/-- A write leaves every other key alone. -/
theorem tbl_get_put_other {d d' v : α} {a c : Nat} {t : Tbl α} (h : c ≠ a) :
    Tbl.get d' (Tbl.put d a v t) c = Tbl.get d' t c := by
  induction t with
  | nil => simp only [Tbl.put]; split <;> simp [Tbl.get, h]
  | cons x t ih =>
    obtain ⟨b, w⟩ := x
    simp only [Tbl.put]
    split
    · split
      · rfl
      · simp [Tbl.get, h]
    · split
      · rename_i hab
        subst hab
        split <;> simp [Tbl.get, h]
      · simp only [Tbl.get, ih]

/-- A canonical table is sorted. -/
theorem tbl_wf_sorted {d : α} {t : Tbl α} (h : Tbl.wf d t = true) : Tbl.sorted t = true := by
  simp only [Tbl.wf, Bool.and_eq_true] at h
  exact h.1

/-- A write keeps the canonical form. -/
theorem tbl_wf_put {d v : α} {a : Nat} {t : Tbl α} (h : Tbl.wf d t = true) : Tbl.wf d (Tbl.put d a v t) = true := by
  simp only [Tbl.wf, Bool.and_eq_true, List.all_eq_true, decide_eq_true_eq] at h ⊢
  refine ⟨tbl_sorted_put h.1, fun e he => ?_⟩
  rcases tbl_mem_put he with ⟨rfl, hv⟩ | he
  · exact hv
  · exact h.2 e he

omit [DecidableEq α] in
/-- Dropping entries keeps the keys strictly rising. -/
theorem tbl_sorted_filter {p : Nat × α → Bool} {t : Tbl α} (h : Tbl.sorted t = true) : Tbl.sorted (t.filter p) = true :=
  tbl_sorted_iff_pairwise.2 ((tbl_sorted_iff_pairwise.1 h).filter _)

omit [DecidableEq α] in
/-- Dropping entries leaves every key that stays alone. -/
theorem tbl_get_dropIf {d : α} {p : Nat → Bool} {t : Tbl α} {a : Nat} :
    Tbl.get d (Tbl.dropIf p t) a = if p a then d else Tbl.get d t a := by
  induction t with
  | nil => simp [Tbl.dropIf, Tbl.get]
  | cons x t ih =>
    obtain ⟨b, w⟩ := x
    simp only [Tbl.dropIf] at ih
    by_cases hb : p b = true <;> by_cases hab : a = b
    all_goals
      simp_all [Tbl.dropIf, Tbl.get]

end Sys2Proof.Machine
end

