-- ==== Sys2Proof/Laws/Regs.lean ====
section
/-! SUPPORT. Laws of the register map: windows are disjoint, an address leads back to the register it names, and reads after
writes of words, fields and headers. -/

namespace Sys2Proof.Machine

/-- Bytes of BAR0 that the windows of a block take. -/
def blkSize (b : Block) : Nat := blkCount b * (blkPages b * 0x1000)

theorem all_blocks (b : Block) : b ∈ allBlocks := by cases b <;> decide

/-- The windows of two blocks do not meet. -/
theorem blocks_apart {b c : Block} (h : b ≠ c) :
    blkBase b + blkSize b ≤ blkBase c ∨ blkBase c + blkSize c ≤ blkBase b := by
  have key : ∀ b ∈ allBlocks, ∀ c ∈ allBlocks,
      b ≠ c → blkBase b + blkSize b ≤ blkBase c ∨ blkBase c + blkSize c ≤ blkBase b := by decide
  exact key b (all_blocks b) c (all_blocks c) h

theorem pages_pos (b : Block) : 0 < blkPages b * 0x1000 := by cases b <;> decide

/-- A register of an instance lies in its block's part of BAR0. -/
theorem addr_in_block {b : Block} {n off : Nat} (hn : n < blkCount b) (ho : off < blkPages b * 0x1000) :
    blkBase b ≤ addrOf b n off ∧ addrOf b n off < blkBase b + blkSize b := by
  have h : n * (blkPages b * 0x1000) + blkPages b * 0x1000 ≤ blkSize b := by
    have := Nat.mul_le_mul_right (blkPages b * 0x1000) (Nat.succ_le_of_lt hn)
    rw [Nat.succ_mul] at this
    exact this
  simp only [addrOf, winBase]
  omega

theorem locate_in_block {a : Nat} {b : Block} (h1 : blkBase b ≤ a) (h2 : a < blkBase b + blkSize b) (l : List Block)
    (hb : b ∈ l) :
    locateIn a l = some (b, (a - blkBase b) / (blkPages b * 0x1000), (a - blkBase b) % (blkPages b * 0x1000)) := by
  induction l with
  | nil => cases hb
  | cons c t ih =>
    rw [locateIn]
    by_cases hc : c = b
    · subst hc
      rw [if_pos ⟨h1, h2⟩]
    · rw [if_neg, ih]
      · rcases List.mem_cons.1 hb with h | h
        · exact absurd h.symm hc
        · exact h
      · rintro ⟨h3, h4⟩
        change a < blkBase c + blkSize c at h4
        rcases blocks_apart hc with h | h <;> omega

/-- An address leads back to the register it names. -/
theorem locate_addrOf {b : Block} {n off : Nat} (hn : n < blkCount b) (ho : off < blkPages b * 0x1000) :
    locate (addrOf b n off) = some (b, n, off) := by
  obtain ⟨h1, h2⟩ := addr_in_block hn ho
  have e : addrOf b n off - blkBase b = off + n * (blkPages b * 0x1000) := by simp only [addrOf, winBase]; omega
  rw [locate, locate_in_block h1 h2 _ (all_blocks b), e, Nat.add_mul_div_right _ _ (pages_pos b),
    Nat.div_eq_of_lt ho, Nat.zero_add, Nat.add_mul_mod_self_right, Nat.mod_eq_of_lt ho]

/-- Two registers at one address are one register. -/
theorem addrOf_inj {b c : Block} {n m off o : Nat} (hn : n < blkCount b) (ho : off < blkPages b * 0x1000)
    (hm : m < blkCount c) (hp : o < blkPages c * 0x1000) (h : addrOf b n off = addrOf c m o) : b = c ∧ n = m ∧ off = o := by
  have := locate_addrOf hn ho
  rw [h, locate_addrOf hm hp] at this
  simp only [Option.some.injEq, Prod.mk.injEq] at this
  exact ⟨this.1.symm, this.2.1.symm, this.2.2.symm⟩

theorem resetAt_addrOf {b : Block} {n off : Nat} (hn : n < blkCount b) (ho : off < blkPages b * 0x1000) :
    resetAt (addrOf b n off) = resetWord b n off := by
  rw [resetAt, locate_addrOf hn ho]

/-- The pages of two instances differ. -/
theorem pageKey_inj {b c : Block} {n m : Nat} (hn : n < blkCount b) (hm : m < blkCount c) (h : pageKey b n = pageKey c m) :
    b = c ∧ n = m := by
  have e : ∀ (b : Block) (n : Nat), winBase b n = pageKey b n * 0x1000 := by
    intro b n
    have : ∃ k, blkBase b = k * 0x1000 := ⟨blkBase b / 0x1000, by cases b <;> rfl⟩
    obtain ⟨k, hk⟩ := this
    simp only [pageKey, winBase, hk, ← Nat.mul_assoc, ← Nat.add_mul]
    omega
  have := addrOf_inj (off := 0) (o := 0) hn (pages_pos b) hm (pages_pos c)
    (by simp only [addrOf, Nat.add_zero, e, h])
  exact ⟨this.1, this.2.1⟩

/-! ### Words -/

/-- The word just written is the word read. -/
theorem word_setWord_same {s : State} {b : Block} {n off : Nat} {v : Word} (h : Tbl.sorted s.regs = true)
    (hn : n < blkCount b) (ho : off < blkPages b * 0x1000) : (s.setWord b n off v).word b n off = v := by
  rw [State.setWord, if_pos ⟨hn, ho⟩]
  exact tbl_get_put_same h

/-- A write of one register leaves every other one alone. -/
theorem word_setWord_other {s : State} {b c : Block} {n m off o : Nat} {v : Word}
    (hm : m < blkCount c) (hp : o < blkPages c * 0x1000) (h : (c, m, o) ≠ (b, n, off)) :
    (s.setWord b n off v).word c m o = s.word c m o := by
  rw [State.setWord]
  split
  · rename_i hn
    refine tbl_get_put_other (fun e => h ?_)
    obtain ⟨rfl, rfl, rfl⟩ := addrOf_inj hm hp hn.1 hn.2 e
    rfl
  · rfl

theorem wordS_setWordS_same {s : State} {b : Block} {n off : Nat} {v : Word} (h : Tbl.sorted s.stag = true)
    (hn : n < blkCount b) (ho : off < blkPages b * 0x1000) : (s.setWordS b n off v).wordS b n off = v := by
  rw [State.setWordS, if_pos ⟨hn, ho⟩]
  exact tbl_get_put_same h

theorem wordS_setWordS_other {s : State} {b c : Block} {n m off o : Nat} {v : Word}
    (hm : m < blkCount c) (hp : o < blkPages c * 0x1000) (h : (c, m, o) ≠ (b, n, off)) :
    (s.setWordS b n off v).wordS c m o = s.wordS c m o := by
  rw [State.setWordS]
  split
  · rename_i hn
    refine tbl_get_put_other (fun e => h ?_)
    obtain ⟨rfl, rfl, rfl⟩ := addrOf_inj hm hp hn.1 hn.2 e
    rfl
  · rfl

/-! ### Headers -/

/-- The header just written is the header read. -/
theorem hdr_setHdr_same {s : State} {b : Block} {n : Nat} {h : Header} (hs : Tbl.sorted s.hdrs = true) (hn : n < blkCount b) :
    (s.setHdr b n h).hdr b n = h := by
  rw [State.setHdr, if_pos hn]
  exact tbl_get_put_same hs

/-- A write of one header leaves every other one alone. -/
theorem hdr_setHdr_other {s : State} {b c : Block} {n m : Nat} {h : Header} (hm : m < blkCount c) (hne : (c, m) ≠ (b, n)) :
    (s.setHdr b n h).hdr c m = s.hdr c m := by
  rw [State.setHdr]
  split
  · rename_i hn
    refine tbl_get_put_other (fun e => hne ?_)
    obtain ⟨rfl, rfl⟩ := pageKey_inj hm hn e
    rfl
  · rfl

end Sys2Proof.Machine
end

