-- ==== Sys2Proof/Laws/Fields.lean ====
section
/-! SUPPORT. Laws of register fields: a field reads as it was written, modulo its width, and a write of a field leaves every
other field alone. -/

namespace Sys2Proof.Machine

/-- A number split around a field. -/
theorem split_field (v lo w : Nat) :
    v = v / 2 ^ (lo + w) * 2 ^ (lo + w) + (v / 2 ^ lo % 2 ^ w) * 2 ^ lo + v % 2 ^ lo := by
  have h1 := Nat.div_add_mod v (2 ^ lo)
  have h2 := Nat.div_add_mod (v / 2 ^ lo) (2 ^ w)
  rw [Nat.div_div_eq_div_mul, ← Nat.pow_add] at h2
  have h3 : 2 ^ lo * (2 ^ w * (v / 2 ^ (lo + w))) = v / 2 ^ (lo + w) * 2 ^ (lo + w) := by
    rw [← Nat.mul_assoc, ← Nat.pow_add, Nat.mul_comm]
  have h4 : 2 ^ lo * (v / 2 ^ lo) = v / 2 ^ (lo + w) * 2 ^ (lo + w) + (v / 2 ^ lo % 2 ^ w) * 2 ^ lo := by
    rw [← h3, Nat.mul_comm (v / 2 ^ lo % 2 ^ w), ← Nat.mul_add, h2]
  omega

/-- The number that `withBits` writes: the parts above and below the field stay. -/
theorem withBits_toNat {v : Word} {lo w x : Nat} (h : lo + w ≤ 32) :
    (withBits v lo w x).toNat
      = v.toNat / 2 ^ (lo + w) * 2 ^ (lo + w) + x % 2 ^ w * 2 ^ lo + v.toNat % 2 ^ lo := by
  have e := split_field v.toNat lo w
  have hx : x % 2 ^ w < 2 ^ w := Nat.mod_lt _ (Nat.two_pow_pos w)
  have hl : v.toNat % 2 ^ lo < 2 ^ lo := Nat.mod_lt _ (Nat.two_pow_pos lo)
  have hv : v.toNat < 2 ^ 32 := v.isLt
  have hb : v.toNat / 2 ^ (lo + w) < 2 ^ (32 - (lo + w)) := by
    refine Nat.div_lt_of_lt_mul ?_
    rw [← Nat.pow_add, Nat.add_sub_cancel' h]
    exact hv
  have hm : x % 2 ^ w * 2 ^ lo + v.toNat % 2 ^ lo < 2 ^ (lo + w) := by
    have : x % 2 ^ w * 2 ^ lo + 2 ^ lo ≤ 2 ^ w * 2 ^ lo := by
      rw [← Nat.succ_mul]; exact Nat.mul_le_mul_right _ hx
    rw [Nat.pow_add, Nat.mul_comm (2 ^ lo)]
    omega
  have ht : v.toNat / 2 ^ (lo + w) * 2 ^ (lo + w) + (x % 2 ^ w * 2 ^ lo + v.toNat % 2 ^ lo) < 2 ^ 32 := by
    have : v.toNat / 2 ^ (lo + w) * 2 ^ (lo + w) + 2 ^ (lo + w) ≤ 2 ^ (32 - (lo + w)) * 2 ^ (lo + w) := by
      rw [← Nat.succ_mul]; exact Nat.mul_le_mul_right _ hb
    rw [← Nat.pow_add, Nat.sub_add_cancel h] at this
    omega
  rw [withBits, BitVec.toNat_ofNat]
  rw [show v.toNat - bitsOf v lo w * 2 ^ lo + x % 2 ^ w * 2 ^ lo
      = v.toNat / 2 ^ (lo + w) * 2 ^ (lo + w) + x % 2 ^ w * 2 ^ lo + v.toNat % 2 ^ lo by
    simp only [bitsOf]; omega]
  exact Nat.mod_eq_of_lt (by omega)

/-- A field reads as it was written, modulo its width. -/
theorem bitsOf_withBits_same {v : Word} {lo w x : Nat} (h : lo + w ≤ 32) : bitsOf (withBits v lo w x) lo w = x % 2 ^ w := by
  have hl : v.toNat % 2 ^ lo < 2 ^ lo := Nat.mod_lt _ (Nat.two_pow_pos lo)
  rw [bitsOf, withBits_toNat h, Nat.pow_add, show v.toNat / (2 ^ lo * 2 ^ w) * (2 ^ lo * 2 ^ w) + x % 2 ^ w * 2 ^ lo
      + v.toNat % 2 ^ lo = v.toNat % 2 ^ lo + (v.toNat / (2 ^ lo * 2 ^ w) * 2 ^ w + x % 2 ^ w) * 2 ^ lo by
    rw [Nat.add_mul, Nat.mul_assoc, Nat.mul_comm (2 ^ w) (2 ^ lo)]; omega]
  rw [Nat.add_mul_div_right _ _ (Nat.two_pow_pos lo), Nat.div_eq_of_lt hl, Nat.zero_add, Nat.mul_comm, Nat.mul_add_mod,
    Nat.mod_mod]

/-- A write of a field leaves every field above or below it alone. -/
theorem bitsOf_withBits_other {v : Word} {lo w x lo' w' : Nat} (h : lo + w ≤ 32) (hd : lo + w ≤ lo' ∨ lo' + w' ≤ lo) :
    bitsOf (withBits v lo w x) lo' w' = bitsOf v lo' w' := by
  have hl : v.toNat % 2 ^ lo < 2 ^ lo := Nat.mod_lt _ (Nat.two_pow_pos lo)
  have hx : x % 2 ^ w < 2 ^ w := Nat.mod_lt _ (Nat.two_pow_pos w)
  rw [bitsOf, bitsOf, withBits_toNat h]
  rcases hd with hd | hd
  · have hm : x % 2 ^ w * 2 ^ lo + v.toNat % 2 ^ lo < 2 ^ (lo + w) := by
      have : x % 2 ^ w * 2 ^ lo + 2 ^ lo ≤ 2 ^ w * 2 ^ lo := by
        rw [← Nat.succ_mul]; exact Nat.mul_le_mul_right _ hx
      rw [Nat.pow_add, Nat.mul_comm (2 ^ lo)]
      omega
    obtain ⟨k, rfl⟩ := Nat.exists_eq_add_of_le hd
    rw [Nat.pow_add 2 (lo + w) k, ← Nat.div_div_eq_div_mul, ← Nat.div_div_eq_div_mul, Nat.add_assoc, Nat.add_comm,
      Nat.add_mul_div_right _ _ (Nat.two_pow_pos _), Nat.div_eq_of_lt hm, Nat.zero_add]
  · obtain ⟨k, rfl⟩ := Nat.exists_eq_add_of_le hd
    have e := Nat.div_add_mod v.toNat (2 ^ (lo' + w'))
    have h1 : ∀ y : Nat, (y * 2 ^ (lo' + w') + v.toNat % 2 ^ (lo' + w')) / 2 ^ lo' % 2 ^ w'
        = v.toNat % 2 ^ (lo' + w') / 2 ^ lo' % 2 ^ w' := by
      intro y
      rw [Nat.pow_add, show y * (2 ^ lo' * 2 ^ w') + v.toNat % (2 ^ lo' * 2 ^ w')
          = v.toNat % (2 ^ lo' * 2 ^ w') + (2 ^ w' * y) * 2 ^ lo' by
        rw [Nat.mul_comm (2 ^ w') y, Nat.mul_assoc y, Nat.mul_comm (2 ^ w')]; omega]
      rw [Nat.add_mul_div_right _ _ (Nat.two_pow_pos _), Nat.add_mul_mod_self_left]
    have h2 := h1 (v.toNat / 2 ^ (lo' + w'))
    rw [Nat.mul_comm, e] at h2
    have h3 : v.toNat / 2 ^ (lo' + w' + k + w) * 2 ^ (lo' + w' + k + w) + x % 2 ^ w * 2 ^ (lo' + w' + k)
          + v.toNat % 2 ^ (lo' + w' + k)
        = ((v.toNat / 2 ^ (lo' + w' + k + w) * 2 ^ w + x % 2 ^ w) * 2 ^ k + v.toNat / 2 ^ (lo' + w') % 2 ^ k)
          * 2 ^ (lo' + w') + v.toNat % 2 ^ (lo' + w') := by
      have h4 : v.toNat % 2 ^ (lo' + w' + k)
          = v.toNat / 2 ^ (lo' + w') % 2 ^ k * 2 ^ (lo' + w') + v.toNat % 2 ^ (lo' + w') := by
        rw [Nat.pow_add, Nat.mod_mul, Nat.mul_comm (2 ^ (lo' + w'))]
        omega
      rw [h4, Nat.add_mul, Nat.add_mul, Nat.add_mul, Nat.pow_add 2 (lo' + w' + k) w, Nat.pow_add 2 (lo' + w') k]
      simp only [Nat.mul_assoc, Nat.mul_comm, Nat.mul_left_comm]
      omega
    rw [h3, h1, h2]

/-- A field lies in a register: its bits fit and its register lies in the window. -/
abbrev Fld.fits (f : Fld) : Prop := f.lo + f.w ≤ 32 ∧ f.off < blkPages f.blk * 0x1000

/-- A field reads as it was written, modulo its width. -/
theorem get_set_same {s : State} {n : Nat} {f : Fld} {x : Nat} (h : Tbl.sorted s.regs = true) (hn : n < blkCount f.blk)
    (hf : f.fits) : (s.set n f x).get n f = x % 2 ^ f.w := by
  rw [State.get, State.set, word_setWord_same h hn hf.2, bitsOf_withBits_same hf.1]

/-- A write of a field leaves every other register alone. -/
theorem word_set_other {s : State} {b : Block} {n m off : Nat} {f : Fld} {x : Nat} (hm : m < blkCount b)
    (ho : off < blkPages b * 0x1000) (h : (b, m, off) ≠ (f.blk, n, f.off)) : (s.set n f x).word b m off = s.word b m off :=
  word_setWord_other hm ho h

/-- A write of a field leaves every field of another register alone. -/
theorem get_set_other {s : State} {n m : Nat} {f g : Fld} {x : Nat} (hm : m < blkCount g.blk)
    (hg : g.fits) (h : (g.blk, m, g.off) ≠ (f.blk, n, f.off)) : (s.set n f x).get m g = s.get m g := by
  rw [State.get, State.get, word_set_other hm hg.2 h]

/-- A write of a field leaves the other fields of its register alone. -/
theorem get_set_apart {s : State} {n m : Nat} {f g : Fld} {x : Nat} (hs : Tbl.sorted s.regs = true) (hf : f.fits)
    (hn : n < blkCount f.blk) (hb : g.blk = f.blk) (ho : g.off = f.off) (hm : m = n)
    (hd : f.lo + f.w ≤ g.lo ∨ g.lo + g.w ≤ f.lo) : (s.set n f x).get m g = s.get m g := by
  subst hm
  rw [State.get, State.get, hb, ho, State.set, word_setWord_same hs hn hf.2, bitsOf_withBits_other hf.1 hd]

end Sys2Proof.Machine
end

