-- ==== Sys2Proof/Laws/Good.lean ====
section
/-! SUPPORT. `Good`: what every operation of the part keeps (the sound state of `Inv`, the queue, what was sent, the count of
free values), and the laws through which it passes the shared operations. -/

namespace Sys2Proof.Machine

/-- What a run of operations starts from: the queue, what had been sent, and how many free values had been taken. -/
structure Ghost where
  queue : List Instr
  sent : List Emit
  free : Nat

/-- The parts of a state that `Good` speaks of. -/
structure GoodOf (g : Ghost) (pending : List Instr) (sent : List Emit) (free : Nat) (dram : List Host.Cell)
    (regs stag : Tbl Word) (hdrs : Tbl Header) (asms : Tbl Asm) (strms : Tbl Strm) (benches : Tbl Bench) (lutSlots : Tbl (List Nat))
    (profiles : Tbl Profile) (ctls : Tbl Ctl) (directs : Tbl (List DirectFrame)) (zraws : Tbl Zraw)
    (stageIdx : Tbl Nat) (encs : Tbl EncCtx) (decs : Tbl DecCtx) (lays : Tbl Lay) (heads : Tbl Head)
    (dpos : Tbl Dpo) (chks : Tbl ChkUnit) (nets : Tbl NetPort) (sess : Tbl Sess) (flows : Tbl Flow)
    (clocks : Tbl Clock) (doms : Tbl TimeDom) (auds : Tbl Aud) (ports : Tbl HostPort) (pool : Bpool)
    (thmTimers : List Nat) : Prop where
  queue : pending = g.queue
  sent : g.sent <:+ sent
  free : g.free ≤ free
  dram : Memory.wf dram = true
  regs : regsOk regs
  stag : regsOk stag
  hdrs : hdrsOk hdrs
  tables : TablesOk asms strms benches lutSlots profiles ctls directs zraws stageIdx encs decs lays heads dpos chks nets sess
    flows clocks doms auds ports pool thmTimers

/-- A state is sound, its queue is the one at the start, and what was sent and the free values only grew. -/
def Good (g : Ghost) (s : State) : Prop := GoodOf g s.pending s.sent s.free s.dram s.regs s.stag s.hdrs
    s.asms s.strms s.benches s.lutSlots s.profiles s.ctls s.directs s.zraws s.stageIdx s.encs s.decs s.lays
    s.heads s.dpos s.chks s.nets s.sess s.flows s.clocks s.doms s.auds s.ports s.pool s.thmTimers

/-- A pair whose state is good. -/
def Good2 {α : Type} (g : Ghost) (p : α × State) : Prop := Good g p.2

/-- A triple whose state is good. -/
def Good3 {α β : Type} (g : Ghost) (p : α × β × State) : Prop := Good g p.2.2

/-- A quadruple whose state is good. -/
def Good4 {α β γ : Type} (g : Ghost) (p : α × β × γ × State) : Prop := Good g p.2.2.2

/-- An optional state that is good. -/
def GoodO (g : Ghost) (o : Option State) : Prop := ∀ s, o = some s → Good g s

/-- An optional pair whose state is good. -/
def GoodO2 {α : Type} (g : Ghost) (o : Option (α × State)) : Prop := ∀ p, o = some p → Good g p.2

/-- An optional quadruple whose state is good. -/
def GoodO4 {α β γ : Type} (g : Ghost) (o : Option (α × β × γ × State)) : Prop := ∀ p, o = some p → Good g p.2.2.2

/-- An outcome whose next state is good; no other outcome occurs. -/
def GoodN (g : Ghost) (r : Host.Outcome State Fault Refusal) : Prop := ∃ t, r = .next t ∧ Good g t

variable {g : Ghost} {s t : State}

theorem ite_ind {α : Type} {P : α → Prop} {c : Prop} [Decidable c] {a b : α} (ha : P a) (hb : P b) :
    P (if c then a else b) := by split <;> assumption

theorem dite_ind {α : Type} {P : α → Prop} {c : Prop} [Decidable c] {a : c → α} {b : ¬c → α} (ha : ∀ h, P (a h))
    (hb : ∀ h, P (b h)) : P (if h : c then a h else b h) := by split <;> simp_all

/-- A record update of any other fields. -/
theorem good_upd {poison' now' pace' pkt' ppsIn' ppsRise' trigger' mem' sec' pins' sup'} (h : Good g s) :
    Good g { s with
      poison := poison', now := now', pace := pace', pkt := pkt', ppsIn := ppsIn', ppsRise := ppsRise',
      trigger := trigger', mem := mem', sec := sec', pins := pins', sup := sup' } := h

theorem good_upd_asms {n x} (h : Good g s) : Good g { s with asms := Tbl.put Asm.reset n x s.asms } :=
  { h with tables := { h.tables with asms := tbl_wf_put h.tables.asms } }
theorem good_upd_strms {n x} (h : Good g s) : Good g { s with strms := Tbl.put Strm.reset n x s.strms } :=
  { h with tables := { h.tables with strms := tbl_wf_put h.tables.strms } }
theorem good_upd_benches {n x} (h : Good g s) : Good g { s with benches := Tbl.put Bench.reset n x s.benches } :=
  { h with tables := { h.tables with benches := tbl_wf_put h.tables.benches } }
theorem good_upd_lutSlots {n x} (h : Good g s) : Good g { s with lutSlots := Tbl.put [] n x s.lutSlots } :=
  { h with tables := { h.tables with lutSlots := tbl_wf_put h.tables.lutSlots } }
theorem good_upd_profiles {n x} (h : Good g s) : Good g { s with profiles := Tbl.put Profile.empty n x s.profiles } :=
  { h with tables := { h.tables with profiles := tbl_wf_put h.tables.profiles } }
theorem good_upd_ctls {n x} (h : Good g s) : Good g { s with ctls := Tbl.put Ctl.reset n x s.ctls } :=
  { h with tables := { h.tables with ctls := tbl_wf_put h.tables.ctls } }
theorem good_upd_directs {n x} (h : Good g s) : Good g { s with directs := Tbl.put [] n x s.directs } :=
  { h with tables := { h.tables with directs := tbl_wf_put h.tables.directs } }
theorem good_upd_zraws {n x} (h : Good g s) : Good g { s with zraws := Tbl.put Zraw.reset n x s.zraws } :=
  { h with tables := { h.tables with zraws := tbl_wf_put h.tables.zraws } }
theorem good_upd_stageIdx {n x} (h : Good g s) : Good g { s with stageIdx := Tbl.put 0 n x s.stageIdx } :=
  { h with tables := { h.tables with stageIdx := tbl_wf_put h.tables.stageIdx } }
theorem good_upd_encs {n x} (h : Good g s) : Good g { s with encs := Tbl.put EncCtx.reset n x s.encs } :=
  { h with tables := { h.tables with encs := tbl_wf_put h.tables.encs } }
theorem good_upd_decs {n x} (h : Good g s) : Good g { s with decs := Tbl.put DecCtx.reset n x s.decs } :=
  { h with tables := { h.tables with decs := tbl_wf_put h.tables.decs } }
theorem good_upd_lays {n x} (h : Good g s) : Good g { s with lays := Tbl.put Lay.reset n x s.lays } :=
  { h with tables := { h.tables with lays := tbl_wf_put h.tables.lays } }
theorem good_upd_heads {n x} (h : Good g s) : Good g { s with heads := Tbl.put Head.reset n x s.heads } :=
  { h with tables := { h.tables with heads := tbl_wf_put h.tables.heads } }
theorem good_upd_dpos {n x} (h : Good g s) : Good g { s with dpos := Tbl.put Dpo.reset n x s.dpos } :=
  { h with tables := { h.tables with dpos := tbl_wf_put h.tables.dpos } }
theorem good_upd_chks {n x} (h : Good g s) : Good g { s with chks := Tbl.put ChkUnit.reset n x s.chks } :=
  { h with tables := { h.tables with chks := tbl_wf_put h.tables.chks } }
theorem good_upd_nets {n x} (h : Good g s) : Good g { s with nets := Tbl.put NetPort.reset n x s.nets } :=
  { h with tables := { h.tables with nets := tbl_wf_put h.tables.nets } }
theorem good_upd_sess {n x} (h : Good g s) : Good g { s with sess := Tbl.put Sess.reset n x s.sess } :=
  { h with tables := { h.tables with sess := tbl_wf_put h.tables.sess } }
theorem good_upd_flows {n x} (h : Good g s) : Good g { s with flows := Tbl.put Flow.reset n x s.flows } :=
  { h with tables := { h.tables with flows := tbl_wf_put h.tables.flows } }
theorem good_upd_clocks {n x} (h : Good g s) : Good g { s with clocks := Tbl.put Clock.reset n x s.clocks } :=
  { h with tables := { h.tables with clocks := tbl_wf_put h.tables.clocks } }
theorem good_upd_doms {n x} (h : Good g s) : Good g { s with doms := Tbl.put TimeDom.reset n x s.doms } :=
  { h with tables := { h.tables with doms := tbl_wf_put h.tables.doms } }
theorem good_upd_auds {n x} (h : Good g s) : Good g { s with auds := Tbl.put Aud.reset n x s.auds } :=
  { h with tables := { h.tables with auds := tbl_wf_put h.tables.auds } }
theorem good_upd_ports {n x} (h : Good g s) : Good g { s with ports := Tbl.put HostPort.reset n x s.ports } :=
  { h with tables := { h.tables with ports := tbl_wf_put h.tables.ports } }

/-- The buffer pool's tables are canonical. -/
def poolOk (p : Bpool) : Prop := Tbl.wf Buf.reset p.bufs = true ∧ Tbl.wf [] p.lists = true

theorem good_upd_pool {p : Bpool} (hp : poolOk s.pool → poolOk p) (h : Good g s) : Good g { s with pool := p } :=
  { h with tables := { h.tables with bufs := (hp ⟨h.tables.bufs, h.tables.lists⟩).1
                                     lists := (hp ⟨h.tables.bufs, h.tables.lists⟩).2 } }

theorem good_upd_thmTimers {p : Nat → Bool} (h : Good g s) :
    Good g { s with thmTimers := s.thmTimers.filter p } :=
  { h with tables := { h.tables with timers := h.tables.timers.filter p } }

/-- The same from the timers of another sound state. -/
theorem good_upd_timersOf {t : State} {p : Nat → Bool} (k : Good g t) (h : Good g s) :
    Good g { s with thmTimers := t.thmTimers.filter p } :=
  { h with tables := { h.tables with timers := k.tables.timers.filter p } }

theorem good_upd_allTimers {p : Nat → Bool} (h : Good g s) :
    Good g { s with thmTimers := (List.range 256).filter p } :=
  { h with tables := { h.tables with timers := (List.pairwise_lt_range (n := 256)).filter p } }

theorem tables_reset : TablesOk [] [] [] [] [] [] [] [] [] [] [] [] [] [] [] [] [] [] [] [] [] [] State.reset.pool [] := by
  refine ⟨rfl, rfl, rfl, rfl, rfl, rfl, rfl, rfl, rfl, rfl, rfl, rfl, rfl, rfl, rfl, rfl, rfl, rfl, rfl, rfl, rfl,
    rfl, rfl, rfl, List.Pairwise.nil⟩

theorem good2_mk {α : Type} {a : α} (h : Good g s) : Good2 g (a, s) := h
theorem good3_mk {α β : Type} {a : α} {b : β} (h : Good g s) : Good3 g (a, b, s) := h
theorem good4_mk {α β γ : Type} {a : α} {b : β} {c : γ} (h : Good g s) : Good4 g (a, b, c, s) := h
theorem goodO_none : GoodO g none := fun _ h => nomatch h
theorem goodO_some (h : Good g s) : GoodO g (some s) := fun _ e => Option.some.inj e ▸ h
theorem goodO2_none {α : Type} : GoodO2 (α := α) g none := fun _ h => nomatch h
theorem goodO2_some {α : Type} {a : α} (h : Good g s) : GoodO2 g (some (a, s)) := fun _ e => Option.some.inj e ▸ h
theorem goodO4_none {α β γ : Type} : GoodO4 (α := α) (β := β) (γ := γ) g none := fun _ h => nomatch h
theorem goodO4_some {α β γ : Type} {a : α} {b : β} {c : γ} (h : Good g s) : GoodO4 g (some (a, b, c, s)) :=
  fun _ e => Option.some.inj e ▸ h
theorem goodN_next (h : Good g s) : GoodN g (.next s) := ⟨s, rfl, h⟩

theorem good2_eq {α : Type} {p : α × State} {a : α} (e : p = (a, s)) (h : Good2 g p) : Good g s := by subst e; exact h
theorem good3_eq {α β : Type} {p : α × β × State} {a : α} {b : β} (e : p = (a, b, s)) (h : Good3 g p) : Good g s := by
  subst e; exact h
theorem good4_eq {α β γ : Type} {p : α × β × γ × State} {a : α} {b : β} {c : γ} (e : p = (a, b, c, s)) (h : Good4 g p) :
    Good g s := by subst e; exact h
theorem goodO_eq {o : Option State} (e : o = some s) (h : GoodO g o) : Good g s := h _ e
theorem goodO2_eq {α : Type} {o : Option (α × State)} {a : α} (e : o = some (a, s)) (h : GoodO2 g o) : Good g s := h _ e
theorem goodO4_eq {α β γ : Type} {o : Option (α × β × γ × State)} {a : α} {b : β} {c : γ} (e : o = some (a, b, c, s))
    (h : GoodO4 g o) : Good g s := h _ e

theorem good_forEach {α : Type} {l : List α} {f : α → State → State} (hf : ∀ a s, Good g s → Good g (f a s))
    (h : Good g s) : Good g (forEach l f s) := by
  induction l generalizing s with
  | nil => exact h
  | cons a t ih => exact ih (hf _ _ h)

/-- The same of any state-like thing. -/
theorem forEach_ind {α σ : Type} {P : σ → Prop} {l : List α} {f : α → σ → σ} {s : σ} (hf : ∀ a s, P s → P (f a s))
    (h : P s) : P (forEach l f s) := by
  induction l generalizing s with
  | nil => exact h
  | cons a t ih => exact ih (hf _ _ h)

/-- A fold keeps what each of its steps keeps. -/
theorem foldl_ind {α β : Type} {P : β → Prop} {l : List α} {f : β → α → β} {b : β} (hf : ∀ b a, P b → P (f b a))
    (h : P b) : P (l.foldl f b) := by
  induction l generalizing b with
  | nil => exact h
  | cons a t ih => exact ih (hf _ _ h)

/-! ### The operations that write what `Good` speaks of -/

theorem tbl_get_mem {α : Type} {d : α} {t : Tbl α} {a : Nat} : Tbl.get d t a = d ∨ (a, Tbl.get d t a) ∈ t := by
  induction t with
  | nil => exact .inl rfl
  | cons e t ih =>
    obtain ⟨b, w⟩ := e
    by_cases h : a = b
    · simp [Tbl.get, h]
    · simp only [Tbl.get, if_neg h, List.mem_cons]
      exact ih.imp id .inr

theorem regsOk_put {t : Tbl Word} {a : Nat} {d v : Word} (h : regsOk t) (hd : d = resetAt a) : regsOk (Tbl.put d a v t) := by
  refine ⟨tbl_sorted_put h.1, fun e he => ?_⟩
  rcases tbl_mem_put he with ⟨rfl, hv⟩ | he
  · exact hd ▸ hv
  · exact h.2 e he

theorem regsOk_filter {t : Tbl Word} {p : Nat × Word → Bool} (h : regsOk t) : regsOk (t.filter p) :=
  ⟨tbl_sorted_filter h.1, fun e he => h.2 e (List.mem_filter.1 he).1⟩

theorem regsOk_nil : regsOk [] := ⟨rfl, fun _ h => nomatch h⟩

theorem hdrOk_reset : HdrOk Header.reset := ⟨by decide, by decide, by decide, by decide⟩

theorem hdrOk_hdr {b : Block} {n : Nat} (h : hdrsOk s.hdrs) : HdrOk (s.hdr b n) := by
  rcases tbl_get_mem (d := Header.reset) (t := s.hdrs) (a := pageKey b n) with e | e
  · rw [State.hdr, e]; exact hdrOk_reset
  · exact h.2 _ e

theorem good_setWord {b : Block} {n off : Nat} {v : Word} (h : Good g s) : Good g (s.setWord b n off v) := by
  rw [State.setWord]
  split
  · rename_i hn
    exact { h with regs := regsOk_put h.regs (resetAt_addrOf hn.1 hn.2).symm }
  · exact h

theorem good_setWordS {b : Block} {n off : Nat} {v : Word} (h : Good g s) : Good g (s.setWordS b n off v) := by
  rw [State.setWordS]
  split
  · rename_i hn
    exact { h with stag := regsOk_put h.stag (resetAt_addrOf hn.1 hn.2).symm }
  · exact h

/-- A header that is sound may be written. -/
theorem good_setHdr {b : Block} {n : Nat} {x : Header} (hx : HdrOk (s.hdr b n) → HdrOk x) (h : Good g s) :
    Good g (s.setHdr b n x) := by
  rw [State.setHdr]
  split
  · refine { h with hdrs := ⟨tbl_sorted_put h.hdrs.1, fun e he => ?_⟩ }
    rcases tbl_mem_put he with ⟨rfl, -⟩ | he
    · exact hx (hdrOk_hdr h.hdrs)
    · exact h.hdrs.2 e he
  · exact h

theorem good_set {n : Nat} {f : Fld} {x : Nat} (h : Good g s) : Good g (s.set n f x) := good_setWord h
theorem good_setS {n : Nat} {f : Fld} {x : Nat} (h : Good g s) : Good g (s.setS n f x) := good_setWordS h
theorem good_inc {n : Nat} {f : Fld} (h : Good g s) : Good g (s.inc n f) := good_setWord h
theorem good_incBy {n : Nat} {f : Fld} {k : Nat} (h : Good g s) : Good g (s.incBy n f k) := good_setWord h
theorem good_incSat {n : Nat} {f : Fld} {k : Nat} (h : Good g s) : Good g (s.incSat n f k) := good_setWord h
theorem good_setSat {n : Nat} {f : Fld} {x : Nat} (h : Good g s) : Good g (s.setSat n f x) := good_setWord h

theorem good_setState {b : Block} {n v : Nat} (h : Good g s) : Good g (s.setState b n v) :=
  good_setHdr (fun k => { k with }) h

theorem good_clearWindow {b : Block} {n : Nat} (h : Good g s) : Good g (s.clearWindow b n) :=
  { h with regs := regsOk_filter h.regs, stag := regsOk_filter h.stag }

theorem good_applyAt {a : Nat} (h : Good g s) : Good g (applyAt a s) := by
  rw [applyAt]
  exact ite_ind h { h with regs := regsOk_put h.regs rfl }

theorem good_discardAt {a : Nat} (h : Good g s) : Good g (discardAt a s) :=
  { h with stag := regsOk_put h.stag rfl }

theorem good_emit {e : Emit} (h : Good g s) : Good g (s.emit e) :=
  { h with sent := h.sent.trans (List.suffix_cons ..) }

theorem good_fresh (h : Good g s) : Good g s.fresh := { h with free := Nat.le_succ_of_le h.free }

theorem memory_put {m : List Host.Cell} {a : Nat} {v : Byte} (h : Memory.wf m = true) : Memory.wf (memPut m a v) = true :=
  tbl_wf_put h

theorem memory_write {m : List Host.Cell} {a : Nat} {l : List Byte} (h : Memory.wf m = true) :
    Memory.wf (memWrite m a l) = true := by
  induction l generalizing m a with
  | nil => exact h
  | cons b t ih => exact ih (memory_put h)

theorem memory_writeAround {bad : List Nat} {m : List Host.Cell} {a : Nat} {l : List Byte} (h : Memory.wf m = true) :
    Memory.wf (memWriteAround bad m a l) = true := by
  induction l generalizing m a with
  | nil => exact h
  | cons b t ih => exact ih (ite_ind (P := fun m => Memory.wf m = true) h (memory_put h))

theorem good_logMem {a cls rank : Nat} {who : Requester} (h : Good g s) : Good g (logMem a cls rank who s) :=
  good_set (good_set (good_set (good_set (good_set h))))

theorem good_dramWrite {who : Requester} {a : Nat} {data : List Byte} (h : Good g s) : Good g (dramWrite who a data s) := by
  rw [dramWrite]
  exact ite_ind h (ite_ind (good_logMem h) { h with dram := memory_writeAround h.dram })

end Sys2Proof.Machine
end

