-- ==== Sys2Proof/Laws/KeepRegs.lean ====
section
/-! SUPPORT. Every operation of Regs.lean keeps a state good: sound, its queue untouched, nothing sent taken back. -/

namespace Sys2Proof.Machine

variable {g : Ghost} {s : State}

theorem good_applyStaged {a1 a2} (h : Good g s) : Good g (State.applyStaged s a1 a2) := by
  delta State.applyStaged
  extract_lets +onlyGivenNames -merge -useContext -underBinder x2_0
  have hx2_0 : Good g x2_0 := by
    refine good_forEach (fun _ _ _ => ?_) ?_
    · exact good_applyAt (by assumption)
    · assumption
  clear_value x2_0
  refine good_setHdr (fun k => ?_) ?_
  · exact ⟨k.hosts, k.outcome, k.lost, k.owner⟩
  · assumption

theorem good_discardStaged {a1 a2} (h : Good g s) : Good g (State.discardStaged s a1 a2) := by
  delta State.discardStaged
  extract_lets +onlyGivenNames -merge -useContext -underBinder x2_0
  have hx2_0 : Good g x2_0 := by
    refine good_forEach (fun _ _ _ => ?_) ?_
    · exact good_discardAt (by assumption)
    · assumption
  clear_value x2_0
  refine good_setHdr (fun k => ?_) ?_
  · exact ⟨k.hosts, k.outcome, k.lost, k.owner⟩
  · assumption

end Sys2Proof.Machine
end

