-- ==== Sys2Proof/Laws/KeepOps.lean ====
section
/-! SUPPORT. Every operation of Ops.lean keeps a state good: sound, its queue untouched, nothing sent taken back. -/

namespace Sys2Proof.Machine

variable {g : Ghost} {s : State}

theorem good_at {a1} (h : Good g s) : Good g (State.at s a1) := by
  delta State.at
  refine good_upd ?_
  assumption

theorem good_setPort {a1 a2} (h : Good g s) : Good g (State.setPort s a1 a2) := by
  delta State.setPort
  refine good_upd_ports ?_
  assumption

theorem good_applyGroup {a0 a1} (h : Good g s) : Good g (applyGroup a0 a1 s) := by
  delta applyGroup
  refine good_forEach (fun _ _ _ => ?_) ?_
  · exact good_applyStaged (by assumption)
  · assumption

theorem good_discardGroup {a0 a1} (h : Good g s) : Good g (discardGroup a0 a1 s) := by
  delta discardGroup
  refine good_forEach (fun _ _ _ => ?_) ?_
  · exact good_discardStaged (by assumption)
  · assumption

theorem good_commitAbort {a0 a1} (h : Good g s) : Good g (commitAbort a0 a1 s) := by
  delta commitAbort
  extract_lets +onlyGivenNames -merge -useContext -underBinder x2_0 x2_1
  have hx2_1 : Good g x2_1 := by
    refine ite_ind ?_ ?_
    · refine good_setHdr (fun k => ?_) ?_
      · exact ⟨k.hosts, (fun e => nomatch e), k.lost, k.owner⟩
      · assumption
    · assumption
  clear_value x2_1
  exact good_discardGroup (by assumption)

theorem good_sendMsix {a0 a1} (h : Good g s) : Good g (sendMsix a0 a1 s) := by
  delta sendMsix
  extract_lets +onlyGivenNames -merge -useContext -underBinder x2_0
  clear_value x2_0
  refine ite_ind ?_ ?_
  · assumption
  · refine ite_ind ?_ ?_
    · exact good_emit (by assumption)
    · exact good_setPort (by assumption)

theorem good_notify {a0 a1} (h : Good g s) : Good g (notify a0 a1 s) := by
  delta notify
  extract_lets +onlyGivenNames -merge -useContext -underBinder x2_0 x2_1 x2_2 x2_3
  clear_value x2_0 x2_1
  have hx2_2 : Good g x2_2 := by
    refine ite_ind ?_ ?_
    · exact good_sendMsix (by assumption)
    · assumption
  clear_value x2_2
  have hx2_3 : Good g x2_3 := by
    refine ite_ind ?_ ?_
    · exact good_sendMsix (by assumption)
    · assumption
  clear_value x2_3
  refine ite_ind ?_ ?_
  · exact good_emit (by assumption)
  · assumption

theorem good_raise {a0 a1 a2} (h : Good g s) : Good g (raise a0 a1 a2 s) := by
  delta raise
  extract_lets +onlyGivenNames -merge -useContext -underBinder x2_0 x2_1 x2_2
  have hx2_2 : Good g x2_2 := by
    refine good_setHdr (fun k => ?_) ?_
    · exact ⟨k.hosts, k.outcome, k.lost, k.owner⟩
    · assumption
  clear_value x2_2
  refine ite_ind ?_ ?_
  · exact good_notify (by assumption)
  · assumption

theorem good_raiseIf {a0 a1 a2 a3} (h : Good g s) : Good g (raiseIf a0 a1 a2 a3 s) := by
  delta raiseIf
  refine ite_ind ?_ ?_
  · exact good_raise (by assumption)
  · assumption

theorem good_commitDefer {a0 a1 a2} (h : Good g s) : Good g (commitDefer a0 a1 a2 s) := by
  delta commitDefer
  extract_lets +onlyGivenNames -merge -useContext -underBinder x2_0 x2_1
  have hx2_1 : Good g x2_1 := by
    refine good_setHdr (fun k => ?_) ?_
    · exact ⟨k.hosts, (fun _ => .inr rfl), k.lost, k.owner⟩
    · assumption
  clear_value x2_1
  exact good_raiseIf (by assumption)

theorem good_commitDone {a0 a1} (h : Good g s) : Good g (commitDone a0 a1 s) := by
  delta commitDone
  extract_lets +onlyGivenNames -merge -useContext -underBinder x2_0 x2_1
  have hx2_1 : Good g x2_1 := by
    refine good_setHdr (fun k => ?_) ?_
    · exact ⟨k.hosts, (fun e => nomatch e), k.lost, k.owner⟩
    · assumption
  clear_value x2_1
  exact good_raise (by assumption)

theorem good_logAccess {a0 a1 a2 a3 a4 a5} (h : Good g s) : Good g (logAccess a0 a1 a2 a3 a4 a5 s) := by
  delta logAccess
  extract_lets +onlyGivenNames hd
  split
  · rename_i he
    exact good_setHdr (fun k => ⟨k.hosts, k.outcome, fun _ => he, k.owner⟩) h
  · rename_i he
    exact good_raise (good_setHdr (fun k => ⟨k.hosts, k.outcome, fun e => absurd (k.lost e) he, k.owner⟩) h)

theorem good_logError {a0 a1 a2 a3} (h : Good g s) : Good g (logError a0 a1 a2 a3 s) := by
  delta logError
  exact good_logAccess (by assumption)

theorem good_commitReject {a0 a1 a2 a3} (h : Good g s) : Good g (commitReject a0 a1 a2 a3 s) := by
  delta commitReject
  extract_lets +onlyGivenNames -merge -useContext -underBinder x2_0 x2_1 x2_2
  have hx2_1 : Good g x2_1 := by
    refine good_setHdr (fun k => ?_) ?_
    · exact ⟨k.hosts, (fun e => nomatch e), k.lost, k.owner⟩
    · assumption
  clear_value x2_1
  have hx2_2 : Good g x2_2 := by
    exact good_logError (by assumption)
  clear_value x2_2
  exact good_raise (by assumption)

theorem good_commitRequest {a0 a1} (h : Good g s) : Good g (commitRequest a0 a1 s) := by
  delta commitRequest
  extract_lets +onlyGivenNames -merge -useContext -underBinder x2_0
  refine good_setHdr (fun k => ?_) ?_
  · exact ⟨k.hosts, (fun _ => .inl rfl), k.lost, k.owner⟩
  · assumption

theorem good_dramPoison {a0 a1 a2} (h : Good g s) : Good g (dramPoison a0 a1 a2 s) := by
  delta dramPoison
  refine ite_ind ?_ ?_
  · assumption
  · refine ite_ind ?_ ?_
    · exact good_logMem (by assumption)
    · extract_lets +onlyGivenNames -merge -useContext -underBinder x6_0
      clear_value x6_0
      refine good_upd ?_
      assumption

theorem good_dramRead {a0 a1 a2} (h : Good g s) : Good3 g (dramRead a0 a1 a2 s) := by
  delta dramRead
  extract_lets +onlyGivenNames -merge -useContext -underBinder x2_0 x2_1
  clear_value x2_0
  have hx2_1 : Good g x2_1 := by
    refine ite_ind ?_ ?_
    · exact good_logMem (by assumption)
    · assumption
  clear_value x2_1
  refine good3_mk ?_
  assumption

theorem good_storeFields {a0 a1 a2 a3 a4} (h : Good g s) : Good g (storeFields a0 a1 a2 a3 a4 s) := by
  delta storeFields
  extract_lets +onlyGivenNames -merge -useContext -underBinder x2_0 x2_1 x2_2
  clear_value x2_0 x2_1
  have hx2_2 : Good g x2_2 := by
    refine ite_ind ?_ ?_
    · assumption
    · exact good_setWord (by assumption)
  clear_value x2_2
  refine ite_ind ?_ ?_
  · assumption
  · exact good_setWordS (by assumption)

end Sys2Proof.Machine
end

