-- ==== Sys2Proof/Laws/KeepPace.lean ====
section
/-! SUPPORT. Every operation of Pace.lean keeps a state good: sound, its queue untouched, nothing sent taken back. -/

namespace Sys2Proof.Machine

variable {g : Ghost} {s : State}

theorem good_setShed {a0 a1} (h : Good g s) : Good g (setShed a0 a1 s) := by
  delta setShed
  exact good_set (by assumption)

theorem good_refreshShed (h : Good g s) : Good g (refreshShed s) := by
  delta refreshShed
  extract_lets +onlyGivenNames -merge -useContext -underBinder x2_0 x2_1
  clear_value x2_0
  have hx2_1 : Good g x2_1 := by
    exact good_set (by assumption)
  clear_value x2_1
  refine ite_ind ?_ ?_
  · assumption
  · exact good_set (by assumption)

theorem good_clearShed {a0} (h : Good g s) : Good g (clearShed a0 s) := by
  delta clearShed
  extract_lets +onlyGivenNames -merge -useContext -underBinder x2_0
  have hx2_0 : Good g x2_0 := by
    exact good_setShed (by assumption)
  clear_value x2_0
  refine good_refreshShed ?_
  refine good_upd ?_
  assumption

theorem good_countStep {a0 a1} (h : Good g s) : Good g (countStep a0 a1 s) := by
  delta countStep
  extract_lets +onlyGivenNames -merge -useContext -underBinder x2_0 x2_1
  have hx2_0 : Good g x2_0 := by
    exact good_inc (by assumption)
  clear_value x2_0
  have hx2_1 : Good g x2_1 := by
    exact good_set (by assumption)
  clear_value x2_1
  refine good_raise ?_
  exact good_refreshShed (by assumption)

theorem good_enterCondition {a0 a1 a2} (h : Good g s) : Good g (enterCondition a0 a1 a2 s) := by
  delta enterCondition
  split
  · assumption
  · refine good_raise ?_
    exact good_set (by assumption)

theorem good_shedStep {a0} (h : Good g s) : Good g (shedStep a0 s) := by
  delta shedStep
  extract_lets +onlyGivenNames -merge -useContext -underBinder x2_0 x2_1 x2_2
  have hx2_0 : Good g x2_0 := by
    exact good_setShed (by assumption)
  clear_value x2_0 x2_1
  have hx2_2 : Good g x2_2 := by
    unfold x2_2
    refine good_upd ?_
    assumption
  clear_value x2_2
  exact good_countStep (by assumption)

theorem good_shedPass {a0 a1 a2} (h : Good g s) : Good2 g (shedPass a0 a1 a2 s) := by
  delta shedPass
  refine foldl_ind (fun _ _ _ => ?_) ?_
  · refine ite_ind ?_ ?_
    · assumption
    · refine good2_mk ?_
      refine good_shedStep ?_
      show Good2 g _
      assumption
  · refine good2_mk ?_
    assumption

theorem good_shed {a0 a1} (h : Good g s) : Good g (shed a0 a1 s) := by
  delta shed
  show Good2 g _
  refine foldl_ind (fun _ _ _ => ?_) ?_
  · extract_lets +onlyGivenNames -merge -useContext -underBinder x4_0 x4_1
    clear_value x4_0
    have hx4_1 : Good2 g x4_1 := by
      refine good_shedPass ?_
      show Good2 g _
      assumption
    clear_value x4_1
    refine good_shedPass ?_
    show Good2 g _
    assumption
  · refine good2_mk ?_
    assumption

theorem good_shedCheck {a0 a1 a2} (h : Good g s) : Good g (shedCheck a0 a1 a2 s) := by
  delta shedCheck
  extract_lets +onlyGivenNames -merge -useContext -underBinder x2_0
  clear_value x2_0
  refine ite_ind ?_ ?_
  · refine good_upd ?_
    assumption
  · extract_lets +onlyGivenNames -merge -useContext -underBinder x4_0
    clear_value x4_0
    refine ite_ind ?_ ?_
    · refine good_upd ?_
      assumption
    · extract_lets +onlyGivenNames -merge -useContext -underBinder x6_0 x6_1
      clear_value x6_0
      have hx6_1 : Good g x6_1 := by
        unfold x6_1
        refine good_upd ?_
        assumption
      clear_value x6_1
      exact good_shed (by assumption)

theorem good_refreshPace (h : Good g s) : Good g (refreshPace s) := by
  delta refreshPace
  extract_lets +onlyGivenNames -merge -useContext -underBinder x2_0 x2_1 x2_2
  clear_value x2_0
  have hx2_1 : Good g x2_1 := by
    exact good_setSat (by assumption)
  clear_value x2_1
  have hx2_2 : Good g x2_2 := by
    exact good_setSat (by assumption)
  clear_value x2_2
  refine good_forEach (fun _ _ _ => ?_) ?_
  · extract_lets +onlyGivenNames -merge -useContext -underBinder x4_0 x4_1 x4_2 x4_3
    clear_value x4_0
    have hx4_1 : Good g x4_1 := by
      exact good_set (by assumption)
    clear_value x4_1
    have hx4_2 : Good g x4_2 := by
      exact good_setSat (by assumption)
    clear_value x4_2 x4_3
    exact good_set (by assumption)
  · assumption

theorem good_judgePace {a0} (h : Good g s) : Good g (judgePace a0 s) := by
  delta judgePace
  extract_lets +onlyGivenNames -merge -useContext -underBinder x2_0 x2_1 x2_2 x2_3 x2_4 x2_5 x2_6 x2_7
  clear_value x2_1 x2_2 x2_3 x2_4 x2_5 x2_6
  have hx2_7 : Good g x2_7 := by
    unfold x2_7
    refine good_upd ?_
    assumption
  clear_value x2_7
  refine good_enterCondition ?_
  exact good_enterCondition (by assumption)

theorem good_intervalEnd {a0 a1 a2} (h : Good g s) : Good g (intervalEnd a0 a1 a2 s) := by
  delta intervalEnd
  extract_lets +onlyGivenNames -merge -useContext -underBinder x2_0 x2_1 x2_2 x2_3 x2_4 x2_5 x2_6 x2_7 x2_8
  have hx2_0 : Good g x2_0 := by
    exact good_at (by assumption)
  clear_value x2_0 x2_1 x2_2
  have hx2_3 : Good g x2_3 := by
    unfold x2_3
    refine good_upd ?_
    assumption
  clear_value x2_3
  have hx2_4 : Good g x2_4 := by
    refine good_forEach (fun _ _ _ => ?_) ?_
    · extract_lets +onlyGivenNames -merge -useContext -underBinder x6_0
      have hx6_0 : Good g x6_0 := by
        exact good_setSat (by assumption)
      clear_value x6_0
      exact good_setSat (by assumption)
    · assumption
  clear_value x2_4
  have hx2_5 : Good g x2_5 := by
    exact good_shedCheck (by assumption)
  clear_value x2_5
  have hx2_6 : Good g x2_6 := by
    refine good_forEach (fun _ _ _ => ?_) ?_
    · extract_lets +onlyGivenNames -merge -useContext -underBinder x6_0
      clear_value x6_0
      refine ite_ind ?_ ?_
      · assumption
      · exact good_shedCheck (by assumption)
    · assumption
  clear_value x2_6 x2_7
  have hx2_8 : Good g x2_8 := by
    refine ite_ind ?_ ?_
    · split
      · assumption
      · refine good_upd ?_
        assumption
    · refine good_upd ?_
      assumption
  clear_value x2_8
  refine good_refreshPace ?_
  exact good_judgePace (by assumption)

theorem good_execPaceIntervalEnd {a0 a1 a2} (h : Good g s) : GoodN g (execPaceIntervalEnd a0 a1 a2 s) := by
  delta execPaceIntervalEnd
  refine goodN_next ?_
  exact good_intervalEnd (by assumption)

theorem good_rampDone {a0} (h : Good g s) : Good g (rampDone a0 s) := by
  delta rampDone
  extract_lets +onlyGivenNames -merge -useContext -underBinder x2_0
  have hx2_0 : Good g x2_0 := by
    exact good_at (by assumption)
  clear_value x2_0
  refine ite_ind ?_ ?_
  · assumption
  · extract_lets +onlyGivenNames -merge -useContext -underBinder x4_0 x4_1 x4_2 x4_3
    have hx4_0 : Good g x4_0 := by
      exact good_setState (by assumption)
    clear_value x4_0
    have hx4_1 : Good g x4_1 := by
      exact good_set (by assumption)
    clear_value x4_1 x4_2
    have hx4_3 : Good g x4_3 := by
      unfold x4_3
      refine good_upd ?_
      assumption
    clear_value x4_3
    refine good_raise ?_
    exact good_refreshPace (by assumption)

theorem good_execRampDone {a0} (h : Good g s) : GoodN g (execRampDone a0 s) := by
  delta execRampDone
  refine goodN_next ?_
  exact good_rampDone (by assumption)

theorem good_restoreStep {a0} (h : Good g s) : Good g (restoreStep a0 s) := by
  delta restoreStep
  extract_lets +onlyGivenNames -merge -useContext -underBinder x2_0
  have hx2_0 : Good g x2_0 := by
    exact good_at (by assumption)
  clear_value x2_0
  split
  · refine ite_ind ?_ ?_
    · assumption
    · extract_lets +onlyGivenNames -merge -useContext -underBinder x6_0 x6_1 x6_2
      have hx6_0 : Good g x6_0 := by
        exact good_setShed (by assumption)
      clear_value x6_0 x6_1
      have hx6_2 : Good g x6_2 := by
        unfold x6_2
        refine good_upd ?_
        assumption
      clear_value x6_2
      refine good_refreshPace ?_
      exact good_countStep (by assumption)
  · assumption

theorem good_execRestoreStep {a0} (h : Good g s) : GoodN g (execRestoreStep a0 s) := by
  delta execRestoreStep
  refine goodN_next ?_
  exact good_restoreStep (by assumption)

theorem good_writeMode {a0 a1} (h : Good g s) : Good g (writeMode a0 a1 s) := by
  delta writeMode
  extract_lets +onlyGivenNames -merge -useContext -underBinder x2_0
  clear_value x2_0
  refine ite_ind ?_ ?_
  · exact good_logAccess (by assumption)
  · refine ite_ind ?_ ?_
    · exact good_set (by assumption)
    · split
      · exact good_logAccess (by assumption)
      · extract_lets +onlyGivenNames -merge -useContext -underBinder x8_0 x8_1 x8_2 x8_3
        clear_value x8_0
        have hx8_1 : Good g x8_1 := by
          unfold x8_1
          refine good_upd ?_
          assumption
        clear_value x8_1
        have hx8_2 : Good g x8_2 := by
          exact good_set (by assumption)
        clear_value x8_2
        have hx8_3 : Good g x8_3 := by
          exact good_set (by assumption)
        clear_value x8_3
        refine good_refreshPace ?_
        exact good_setState (by assumption)

end Sys2Proof.Machine
end

