-- ==== Sys2Proof/Laws/KeepCctl.lean ====
section
/-! SUPPORT. Every operation of Cctl.lean keeps a state good: sound, its queue untouched, nothing sent taken back. -/

namespace Sys2Proof.Machine

variable {g : Ghost} {s : State}

theorem good_setCtl {a1 a2} (h : Good g s) : Good g (State.setCtl s a1 a2) := by
  delta State.setCtl
  refine good_upd_ctls ?_
  assumption

theorem good_refreshCtl {a0} (h : Good g s) : Good g (refreshCtl a0 s) := by
  delta refreshCtl
  extract_lets +onlyGivenNames -merge -useContext -underBinder x2_0 x2_1 x2_2
  clear_value x2_0
  have hx2_1 : Good g x2_1 := by
    exact good_set (by assumption)
  clear_value x2_1
  have hx2_2 : Good g x2_2 := by
    exact good_set (by assumption)
  clear_value x2_2
  split
  · extract_lets +onlyGivenNames -merge -useContext -underBinder x4_0 x4_1
    have hx4_0 : Good g x4_0 := by
      exact good_set (by assumption)
    clear_value x4_0
    have hx4_1 : Good g x4_1 := by
      exact good_set (by assumption)
    clear_value x4_1
    exact good_set (by assumption)
  · extract_lets +onlyGivenNames -merge -useContext -underBinder x4_0 x4_1
    have hx4_0 : Good g x4_0 := by
      exact good_set (by assumption)
    clear_value x4_0
    have hx4_1 : Good g x4_1 := by
      exact good_set (by assumption)
    clear_value x4_1
    exact good_set (by assumption)

theorem good_pushResult {a0 a1} (h : Good g s) : Good g (pushResult a0 a1 s) := by
  delta pushResult
  extract_lets +onlyGivenNames -merge -useContext -underBinder x2_0 x2_1 x2_2
  clear_value x2_0 x2_1
  have hx2_2 : Good g x2_2 := by
    refine ite_ind ?_ ?_
    · exact good_setCtl (by assumption)
    · refine good_inc ?_
      exact good_setCtl (by assumption)
  clear_value x2_2
  refine good_raiseIf ?_
  exact good_refreshCtl (by assumption)

theorem good_failSet {a0 a1 a2} (h : Good g s) : Good g (failSet a0 a1 a2 s) := by
  delta failSet
  extract_lets +onlyGivenNames -merge -useContext -underBinder x2_0
  clear_value x2_0
  split
  · assumption
  · refine ite_ind ?_ ?_
    · assumption
    · extract_lets +onlyGivenNames -merge -useContext -underBinder x6_0 x6_1 x6_2
      clear_value x6_0
      have hx6_1 : Good g x6_1 := by
        exact good_setCtl (by assumption)
      clear_value x6_1
      have hx6_2 : Good g x6_2 := by
        refine good_forEach (fun _ _ _ => ?_) ?_
        · extract_lets +onlyGivenNames -merge -useContext -underBinder x10_0
          clear_value x10_0
          refine ite_ind ?_ ?_
          · refine good_refreshCtl ?_
            exact good_setCtl (by assumption)
          · exact good_pushResult (by assumption)
        · assumption
      clear_value x6_2
      exact good_raise (by assumption)

theorem good_busFailure {a0 a1 a2} (h : Good g s) : Good g (busFailure a0 a1 a2 s) := by
  delta busFailure
  extract_lets +onlyGivenNames -merge -useContext -underBinder x2_0 x2_1
  have hx2_0 : Good g x2_0 := by
    refine good_raise ?_
    exact good_inc (by assumption)
  clear_value x2_0 x2_1
  split
  · refine ite_ind ?_ ?_
    · refine good_setState ?_
      exact good_setCtl (by assumption)
    · assumption
  · exact good_setCtl (by assumption)
  · exact good_failSet (by assumption)
  · exact good_failSet (by assumption)
  · exact good_setCtl (by assumption)

theorem good_captureFrame {a0 a1 a2} (h : Good g s) : Good4 g (captureFrame a0 a1 a2 s) := by
  delta captureFrame
  extract_lets +onlyGivenNames -merge -useContext -underBinder x2_0
  clear_value x2_0
  split
  · refine good4_mk ?_
    exact good_fresh (by assumption)
  · extract_lets +onlyGivenNames -merge -useContext -underBinder x4_0 x4_1 x4_2 x4_3 x4_4 x4_5 x4_6
    clear_value x4_0 x4_1 x4_2 x4_3 x4_4 x4_5
    have hx4_6 : Good g x4_6 := by
      exact good_setCtl (by assumption)
    clear_value x4_6
    refine ite_ind ?_ ?_
    · split
      · extract_lets +onlyGivenNames -merge -useContext -underBinder x8_0
        have hx8_0 : Good g x8_0 := by
          exact good_set (by assumption)
        clear_value x8_0
        refine good4_mk ?_
        assumption
      · refine good4_mk ?_
        exact good_raise (by assumption)
    · refine good4_mk ?_
      assumption

theorem good_compareEcho {a0 a1 a2} (h : Good g s) : Good2 g (compareEcho a0 a1 a2 s) := by
  delta compareEcho
  split
  · refine good2_mk ?_
    assumption
  · refine ite_ind ?_ ?_
    · refine good2_mk ?_
      refine good_raise ?_
      exact good_inc (by assumption)
    · refine good2_mk ?_
      assumption

theorem good_setTrig {a0 a1} (h : Good g s) : Good g (setTrig a0 a1 s) := by
  delta setTrig
  refine good_upd ?_
  assumption

theorem good_ctlDisable {a0} (h : Good g s) : Good g (ctlDisable a0 s) := by
  delta ctlDisable
  extract_lets +onlyGivenNames -merge -useContext -underBinder x2_0 x2_1 x2_2 x2_3
  clear_value x2_0
  have hx2_2 : Good g x2_2 := by
    refine good_setHdr (fun k => ?_) ?_
    · exact ⟨k.hosts, k.outcome, k.lost, k.owner⟩
    · assumption
  clear_value x2_2 x2_3
  refine ite_ind ?_ ?_
  · extract_lets +onlyGivenNames -merge -useContext -underBinder x4_0 x4_1
    clear_value x4_0 x4_1
    refine good_setState ?_
    exact good_setCtl (by assumption)
  · refine ite_ind ?_ ?_
    · extract_lets +onlyGivenNames -merge -useContext -underBinder x6_0 x6_1 x6_2 x6_3
      clear_value x6_0
      have hx6_1 : Good g x6_1 := by
        exact good_setCtl (by assumption)
      clear_value x6_1
      have hx6_2 : Good g x6_2 := by
        refine good_forEach (fun _ _ _ => ?_) ?_
        · exact good_pushResult (by assumption)
        · assumption
      clear_value x6_2
      have hx6_3 : Good g x6_3 := by
        refine good_forEach (fun _ _ _ => ?_) ?_
        · exact good_failSet (by assumption)
        · assumption
      clear_value x6_3
      refine good_refreshCtl ?_
      exact good_setState (by assumption)
    · refine ite_ind ?_ ?_
      · refine good_setTrig ?_
        exact good_setState (by assumption)
      · assumption

theorem good_ctlEnable {a0 a1} (h : Good g s) : Good g (ctlEnable a0 a1 s) := by
  delta ctlEnable
  extract_lets +onlyGivenNames -merge -useContext -underBinder x2_0 x2_1
  clear_value x2_0 x2_1
  refine ite_ind ?_ ?_
  · exact good_logAccess (by assumption)
  · refine ite_ind ?_ ?_
    · assumption
    · refine ite_ind ?_ ?_
      · exact good_logAccess (by assumption)
      · refine ite_ind ?_ ?_
        · exact good_logAccess (by assumption)
        · extract_lets +onlyGivenNames -merge -useContext -underBinder x10_0 x10_1
          have hx10_1 : Good g x10_1 := by
            refine good_setHdr (fun k => ?_) ?_
            · exact ⟨k.hosts, k.outcome, k.lost, k.owner⟩
            · assumption
          clear_value x10_1
          exact good_setCtl (by assumption)

theorem good_transactionEnd {a0 a1 a2} (h : Good g s) : Good g (transactionEnd a0 a1 a2 s) := by
  delta transactionEnd
  extract_lets +onlyGivenNames -merge -useContext -underBinder x2_0
  clear_value x2_0
  split
  · assumption
  · refine ite_ind ?_ ?_
    · assumption
    · refine ite_ind ?_ ?_
      · extract_lets +onlyGivenNames -merge -useContext -underBinder x8_0
        have hx8_0 : Good g x8_0 := by
          exact good_setCtl (by assumption)
        clear_value x8_0
        split
        · exact good_setCtl (by assumption)
        · assumption
      · refine ite_ind ?_ ?_
        · exact good_setCtl (by assumption)
        · refine good_busFailure ?_
          exact good_setCtl (by assumption)

theorem good_execBusTransactionEnd {a0 a1 a2 a3} (h : Good g s) : GoodN g (execBusTransactionEnd a0 a1 a2 a3 s) := by
  delta execBusTransactionEnd
  refine goodN_next ?_
  refine good_transactionEnd ?_
  exact good_at (by assumption)

theorem good_fsyncEdge {a0} (h : Good g s) : Good g (fsyncEdge a0 s) := by
  delta fsyncEdge
  refine ite_ind ?_ ?_
  · refine good_upd ?_
    assumption
  · assumption

theorem good_execFsyncEdge {a0 a1} (h : Good g s) : GoodN g (execFsyncEdge a0 a1 s) := by
  delta execFsyncEdge
  refine goodN_next ?_
  refine good_fsyncEdge ?_
  exact good_at (by assumption)

theorem good_fsyncLow {a0} (h : Good g s) : Good g (fsyncLow a0 s) := by
  delta fsyncLow
  refine good_upd ?_
  assumption

theorem good_execFsyncPulseEnd {a0 a1} (h : Good g s) : GoodN g (execFsyncPulseEnd a0 a1 s) := by
  delta execFsyncPulseEnd
  refine goodN_next ?_
  refine good_fsyncLow ?_
  exact good_at (by assumption)

theorem good_initDone {a0} (h : Good g s) : Good g (initDone a0 s) := by
  delta initDone
  extract_lets +onlyGivenNames -merge -useContext -underBinder x2_0
  clear_value x2_0
  refine ite_ind ?_ ?_
  · extract_lets +onlyGivenNames -merge -useContext -underBinder x4_0 x4_1
    clear_value x4_0 x4_1
    refine good_raise ?_
    refine good_setState ?_
    exact good_setCtl (by assumption)
  · assumption

theorem good_execInitDone {a0 a1} (h : Good g s) : GoodN g (execInitDone a0 a1 s) := by
  delta execInitDone
  refine goodN_next ?_
  refine good_initDone ?_
  exact good_at (by assumption)

theorem good_safeEnd {a0} (h : Good g s) : Good g (safeEnd a0 s) := by
  delta safeEnd
  extract_lets +onlyGivenNames -merge -useContext -underBinder x2_0
  clear_value x2_0
  refine ite_ind ?_ ?_
  · assumption
  · extract_lets +onlyGivenNames -merge -useContext -underBinder x4_0 x4_1 x4_2 x4_3
    clear_value x4_0
    have hx4_1 : Good g x4_1 := by
      exact good_setCtl (by assumption)
    clear_value x4_1
    have hx4_2 : Good g x4_2 := by
      refine good_forEach (fun _ _ _ => ?_) ?_
      · exact good_failSet (by assumption)
      · assumption
    clear_value x4_2 x4_3
    refine ite_ind ?_ ?_
    · exact good_setCtl (by assumption)
    · assumption

theorem good_execSafeEnd {a0 a1} (h : Good g s) : GoodN g (execSafeEnd a0 a1 s) := by
  delta execSafeEnd
  refine goodN_next ?_
  refine good_safeEnd ?_
  exact good_at (by assumption)

theorem good_sequenceDelayEnd {a0} (h : Good g s) : Good g (sequenceDelayEnd a0 s) := by
  delta sequenceDelayEnd
  exact good_setCtl (by assumption)

theorem good_execSequenceDelayEnd {a0 a1} (h : Good g s) : GoodN g (execSequenceDelayEnd a0 a1 s) := by
  delta execSequenceDelayEnd
  refine goodN_next ?_
  refine good_sequenceDelayEnd ?_
  exact good_at (by assumption)

theorem good_stopDone {a0} (h : Good g s) : Good g (stopDone a0 s) := by
  delta stopDone
  extract_lets +onlyGivenNames -merge -useContext -underBinder x2_0
  clear_value x2_0
  refine ite_ind ?_ ?_
  · refine good_setTrig ?_
    refine good_setState ?_
    exact good_setCtl (by assumption)
  · assumption

theorem good_execStopSequenceDone {a0 a1} (h : Good g s) : GoodN g (execStopSequenceDone a0 a1 s) := by
  delta execStopSequenceDone
  refine goodN_next ?_
  refine good_stopDone ?_
  exact good_at (by assumption)

theorem good_execStrobePulse {a0 a1 a2} (h : Good g s) : GoodN g (execStrobePulse a0 a1 a2 s) := by
  delta execStrobePulse
  extract_lets +onlyGivenNames -merge -useContext -underBinder x2_0 x2_1
  have hx2_0 : Good g x2_0 := by
    exact good_at (by assumption)
  clear_value x2_0 x2_1
  refine goodN_next ?_
  exact good_setCtl (by assumption)

theorem good_execTrigPulseEnd {a0 a1} (h : Good g s) : GoodN g (execTrigPulseEnd a0 a1 s) := by
  delta execTrigPulseEnd
  refine goodN_next ?_
  refine good_setTrig ?_
  exact good_at (by assumption)

theorem good_trigRise {a0} (h : Good g s) : Good g (trigRise a0 s) := by
  delta trigRise
  extract_lets +onlyGivenNames -merge -useContext -underBinder x2_0
  clear_value x2_0
  refine ite_ind ?_ ?_
  · assumption
  · exact good_setTrig (by assumption)

theorem good_execTrigRise {a0 a1} (h : Good g s) : GoodN g (execTrigRise a0 a1 s) := by
  delta execTrigRise
  refine goodN_next ?_
  refine ite_ind ?_ ?_
  · refine good_trigRise ?_
    exact good_at (by assumption)
  · exact good_at (by assumption)

theorem good_writeWindow {a0} (h : Good g s) : Good g (writeWindow a0 s) := by
  delta writeWindow
  refine ite_ind ?_ ?_
  · assumption
  · extract_lets +onlyGivenNames -merge -useContext -underBinder x4_0 x4_1 x4_2 x4_3 x4_4 x4_5 x4_6 x4_7
    clear_value x4_0 x4_1 x4_2 x4_3 x4_4 x4_5 x4_6 x4_7
    refine ite_ind ?_ ?_
    · exact good_setCtl (by assumption)
    · extract_lets +onlyGivenNames -merge -useContext -underBinder x6_0 x6_1 x6_2 x6_3 x6_4 x6_5 x6_6 x6_7 x6_8
      clear_value x6_0 x6_1 x6_2 x6_3 x6_4 x6_5 x6_6 x6_7 x6_8
      refine ite_ind ?_ ?_
      · exact good_setCtl (by assumption)
      · extract_lets +onlyGivenNames -merge -useContext -underBinder x8_0 x8_1 x8_2 x8_3 x8_4 x8_5
        clear_value x8_0 x8_1 x8_3
        have hx8_4 : Good g x8_4 := by
          exact good_setCtl (by assumption)
        clear_value x8_4
        have hx8_5 : Good g x8_5 := by
          refine good_forEach (fun _ _ _ => ?_) ?_
          · extract_lets +onlyGivenNames -merge -useContext -underBinder x12_0
            have hx12_0 : Good g x12_0 := by
              refine ite_ind ?_ ?_
              · assumption
              · exact good_inc (by assumption)
            clear_value x12_0
            exact good_pushResult (by assumption)
          · assumption
        clear_value x8_5
        exact good_refreshCtl (by assumption)

theorem good_execWriteWindow {a0 a1} (h : Good g s) : GoodN g (execWriteWindow a0 a1 s) := by
  delta execWriteWindow
  refine goodN_next ?_
  refine good_writeWindow ?_
  exact good_at (by assumption)

theorem good_xferDone {a0 a1} (h : Good g s) : Good g (xferDone a0 a1 s) := by
  delta xferDone
  extract_lets +onlyGivenNames -merge -useContext -underBinder x2_0
  clear_value x2_0
  split
  · assumption
  · extract_lets +onlyGivenNames -merge -useContext -underBinder x4_0 x4_1 x4_2 x4_3 x4_4
    have hx4_0 : Good g x4_0 := by
      exact good_setCtl (by assumption)
    clear_value x4_0
    have hx4_1 : Good g x4_1 := by
      exact good_set (by assumption)
    clear_value x4_1
    have hx4_2 : Good g x4_2 := by
      exact good_set (by assumption)
    clear_value x4_2
    have hx4_3 : Good g x4_3 := by
      exact good_set (by assumption)
    clear_value x4_3
    have hx4_4 : Good g x4_4 := by
      refine ite_ind ?_ ?_
      · refine good_forEach (fun _ _ _ => ?_) ?_
        · exact good_set (by assumption)
        · assumption
      · assumption
    clear_value x4_4
    exact good_raise (by assumption)

theorem good_execXferDone {a0 a1 a2} (h : Good g s) : GoodN g (execXferDone a0 a1 a2 s) := by
  delta execXferDone
  refine goodN_next ?_
  refine good_xferDone ?_
  exact good_at (by assumption)

theorem good_popResult {a0 a1} (h : Good g s) : Good g (popResult a0 a1 s) := by
  delta popResult
  refine ite_ind ?_ ?_
  · refine good_refreshCtl ?_
    exact good_setCtl (by assumption)
  · assumption

theorem good_pushCmd {a0 a1 a2} (h : Good g s) : Good g (pushCmd a0 a1 a2 s) := by
  delta pushCmd
  extract_lets +onlyGivenNames -merge -useContext -underBinder x2_0 x2_1 x2_2
  clear_value x2_0 x2_1 x2_2
  refine ite_ind ?_ ?_
  · exact good_logAccess (by assumption)
  · refine ite_ind ?_ ?_
    · exact good_logAccess (by assumption)
    · refine ite_ind ?_ ?_
      · exact good_logAccess (by assumption)
      · extract_lets +onlyGivenNames -merge -useContext -underBinder x8_0
        clear_value x8_0
        refine good_refreshCtl ?_
        exact good_setCtl (by assumption)

theorem good_resetCctl {a0} (h : Good g s) : Good g (resetCctl a0 s) := by
  delta resetCctl
  refine good_setTrig ?_
  exact good_setCtl (by assumption)

theorem good_trigFire {a0 a1} (h : Good g s) : Good g (trigFire a0 a1 s) := by
  delta trigFire
  refine ite_ind ?_ ?_
  · exact good_trigRise (by assumption)
  · assumption

theorem good_xferStart {a0 a1 a2 a3} (h : Good g s) : Good g (xferStart a0 a1 a2 a3 s) := by
  delta xferStart
  refine ite_ind ?_ ?_
  · assumption
  · extract_lets +onlyGivenNames -merge -useContext -underBinder x4_0
    clear_value x4_0
    refine ite_ind ?_ ?_
    · exact good_logAccess (by assumption)
    · extract_lets +onlyGivenNames -merge -useContext -underBinder x6_0 x6_1 x6_2
      clear_value x6_0
      have hx6_1 : Good g x6_1 := by
        exact good_set (by assumption)
      clear_value x6_1 x6_2
      refine ite_ind ?_ ?_
      · exact good_setCtl (by assumption)
      · exact good_setCtl (by assumption)

end Sys2Proof.Machine
end

