-- ==== Sys2Proof/Laws/KeepZraw.lean ====
section
/-! SUPPORT. Every operation of Zraw.lean keeps a state good: sound, its queue untouched, nothing sent taken back. -/

namespace Sys2Proof.Machine

variable {g : Ghost} {s : State}

theorem good_setZraw {a1 a2} (h : Good g s) : Good g (State.setZraw s a1 a2) := by
  delta State.setZraw
  refine good_upd_zraws ?_
  assumption

theorem good_countBytes {a0 a1 a2} (h : Good g s) : Good g (countBytes a0 a1 a2 s) := by
  delta countBytes
  extract_lets +onlyGivenNames -merge -useContext -underBinder x2_0 x2_1 x2_2
  clear_value x2_0 x2_1
  have hx2_2 : Good g x2_2 := by
    exact good_setZraw (by assumption)
  clear_value x2_2
  refine good_set ?_
  exact good_set (by assumption)

theorem good_refreshZraw {a0} (h : Good g s) : Good g (refreshZraw a0 s) := by
  delta refreshZraw
  extract_lets +onlyGivenNames -merge -useContext -underBinder x2_0
  clear_value x2_0
  exact good_setState (by assumption)

theorem good_jobDone {a0 a1} (h : Good g s) : Good g (jobDone a0 a1 s) := by
  delta jobDone
  extract_lets +onlyGivenNames -merge -useContext -underBinder x2_0
  clear_value x2_0
  refine ite_ind ?_ ?_
  · assumption
  · extract_lets +onlyGivenNames -merge -useContext -underBinder x4_0 x4_1 x4_2
    clear_value x4_0 x4_1 x4_2
    refine ite_ind ?_ ?_
    · assumption
    · extract_lets +onlyGivenNames -merge -useContext -underBinder x6_0 x6_1 x6_2 x6_3 x6_4 x6_5 x6_6 x6_7
      clear_value x6_0
      have hx6_1 : Good g x6_1 := by
        refine good_forEach (fun _ _ _ => ?_) ?_
        · exact good_dramWrite (by assumption)
        · assumption
      clear_value x6_1
      have hx6_2 : Good g x6_2 := by
        refine ite_ind ?_ ?_
        · assumption
        · refine good_fresh ?_
          exact good_dramWrite (by assumption)
      clear_value x6_2
      have hx6_3 : Good g x6_3 := by
        unfold x6_3
        split
        · exact good_dramWrite (by assumption)
        · assumption
      clear_value x6_3
      have hx6_4 : Good g x6_4 := by
        refine ite_ind ?_ ?_
        · exact good_countBytes (by assumption)
        · assumption
      clear_value x6_4
      have hx6_5 : Good g x6_5 := by
        exact good_dramWrite (by assumption)
      clear_value x6_5
      have hx6_6 : Good g x6_6 := by
        exact good_set (by assumption)
      clear_value x6_6
      have hx6_7 : Good g x6_7 := by
        refine ite_ind ?_ ?_
        · exact good_inc (by assumption)
        · assumption
      clear_value x6_7
      refine good_raiseIf ?_
      refine good_raise ?_
      exact good_refreshZraw (by assumption)

theorem good_execByteCompressJob {a0 a1} (h : Good g s) : GoodN g (execByteCompressJob a0 a1 s) := by
  delta execByteCompressJob
  refine goodN_next ?_
  refine good_jobDone ?_
  exact good_at (by assumption)

theorem good_execByteDecompressJob {a0 a1} (h : Good g s) : GoodN g (execByteDecompressJob a0 a1 s) := by
  delta execByteDecompressJob
  refine goodN_next ?_
  refine good_jobDone ?_
  exact good_at (by assumption)

theorem good_execPixelDecodeJob {a0 a1} (h : Good g s) : GoodN g (execPixelDecodeJob a0 a1 s) := by
  delta execPixelDecodeJob
  refine goodN_next ?_
  refine good_jobDone ?_
  exact good_at (by assumption)

theorem good_execPixelEncodeJob {a0 a1} (h : Good g s) : GoodN g (execPixelEncodeJob a0 a1 s) := by
  delta execPixelEncodeJob
  refine goodN_next ?_
  refine good_jobDone ?_
  exact good_at (by assumption)

theorem good_segAbandon {a0 a1 a2} (h : Good g s) : Good g (segAbandon a0 a1 a2 s) := by
  delta segAbandon
  extract_lets +onlyGivenNames -merge -useContext -underBinder x2_0
  clear_value x2_0
  refine good_refreshZraw ?_
  exact good_setZraw (by assumption)

theorem good_segLose {a0 a1 a2} (h : Good g s) : Good g (segLose a0 a1 a2 s) := by
  delta segLose
  extract_lets +onlyGivenNames -merge -useContext -underBinder x2_0 x2_1
  clear_value x2_0
  have hx2_1 : Good g x2_1 := by
    exact good_setZraw (by assumption)
  clear_value x2_1
  refine good_raise ?_
  exact good_inc (by assumption)

theorem good_segMark {a0 a1} (h : Good g s) : Good g (segMark a0 a1 s) := by
  delta segMark
  refine ite_ind ?_ ?_
  · exact good_dramWrite (by assumption)
  · assumption

theorem good_segReserve {a0 a1} (h : Good g s) : Good g (segReserve a0 a1 s) := by
  delta segReserve
  extract_lets +onlyGivenNames -merge -useContext -underBinder x2_0
  clear_value x2_0
  refine ite_ind ?_ ?_
  · assumption
  · extract_lets +onlyGivenNames -merge -useContext -underBinder x4_0 x4_1 x4_2 x4_3 x4_4 x4_5 x4_6
    clear_value x4_0 x4_1 x4_2 x4_3 x4_5 x4_6
    refine ite_ind ?_ ?_
    · exact good_segLose (by assumption)
    · extract_lets +onlyGivenNames -merge -useContext -underBinder x6_0
      have hx6_0 : Good g x6_0 := by
        refine ite_ind ?_ ?_
        · exact good_segMark (by assumption)
        · assumption
      clear_value x6_0
      refine good_refreshZraw ?_
      exact good_setZraw (by assumption)

theorem good_segRow {a0 a1 a2 a3 a4} (h : Good g s) : Good g (segRow a0 a1 a2 a3 a4 s) := by
  delta segRow
  extract_lets +onlyGivenNames -merge -useContext -underBinder x2_0
  clear_value x2_0
  refine ite_ind ?_ ?_
  · assumption
  · refine ite_ind ?_ ?_
    · extract_lets +onlyGivenNames -merge -useContext -underBinder x6_0
      clear_value x6_0
      refine good_refreshZraw ?_
      refine good_segLose ?_
      exact good_setZraw (by assumption)
    · extract_lets +onlyGivenNames -merge -useContext -underBinder x6_0
      clear_value x6_0
      split
      · assumption
      · refine ite_ind ?_ ?_
        · exact good_setZraw (by assumption)
        · assumption

theorem good_segWrite {a0 a1} (h : Good g s) : Good g (segWrite a0 a1 s) := by
  delta segWrite
  extract_lets +onlyGivenNames -merge -useContext -underBinder x2_0
  clear_value x2_0
  split
  · assumption
  · extract_lets +onlyGivenNames -merge -useContext -underBinder x4_0 x4_1 x4_2 x4_3 x4_4 x4_5 x4_6 x4_7
    clear_value x4_0 x4_1
    have hx4_2 : Good g x4_2 := by
      exact good_dramWrite (by assumption)
    clear_value x4_2
    have hx4_3 : Good g x4_3 := by
      exact good_set (by assumption)
    clear_value x4_3
    have hx4_4 : Good g x4_4 := by
      exact good_countBytes (by assumption)
    clear_value x4_4 x4_5
    have hx4_6 : Good g x4_6 := by
      exact good_setZraw (by assumption)
    clear_value x4_6
    have hx4_7 : Good g x4_7 := by
      unfold x4_7
      split
      · refine ite_ind ?_ ?_
        · exact good_segMark (by assumption)
        · assumption
      · assumption
    clear_value x4_7
    refine good_raise ?_
    exact good_refreshZraw (by assumption)

theorem good_stageDecode {a0 a1 a2} (h : Good g s) : Good2 g (stageDecode a0 a1 a2 s) := by
  delta stageDecode
  extract_lets +onlyGivenNames -merge -useContext -underBinder x2_0
  clear_value x2_0
  split
  · refine good2_mk ?_
    assumption
  · extract_lets +onlyGivenNames -merge -useContext -underBinder x4_0
    clear_value x4_0
    refine good2_mk ?_
    refine good_raise ?_
    exact good_inc (by assumption)

theorem good_stageEncode {a0 a1 a2 a3 a4} (h : Good g s) : Good3 g (stageEncode a0 a1 a2 a3 a4 s) := by
  delta stageEncode
  split
  · refine ite_ind ?_ ?_
    · extract_lets +onlyGivenNames -merge -useContext -underBinder x6_0
      clear_value x6_0
      refine good3_mk ?_
      refine good_raise ?_
      exact good_inc (by assumption)
    · refine good3_mk ?_
      exact good_inc (by assumption)
  · extract_lets +onlyGivenNames -merge -useContext -underBinder x4_0 x4_1 x4_2
    clear_value x4_0 x4_1
    have hx4_2 : Good g x4_2 := by
      exact good_countBytes (by assumption)
    clear_value x4_2
    refine ite_ind ?_ ?_
    · refine good3_mk ?_
      assumption
    · refine good3_mk ?_
      exact good_inc (by assumption)

end Sys2Proof.Machine
end

