-- ==== Sys2Proof/Laws/KeepAudio.lean ====
section
/-! SUPPORT. Every operation of Audio.lean keeps a state good: sound, its queue untouched, nothing sent taken back. -/

namespace Sys2Proof.Machine

variable {g : Ghost} {s : State}

theorem good_setAud {a1 a2} (h : Good g s) : Good g (State.setAud s a1 a2) := by
  delta State.setAud
  refine good_upd_auds ?_
  assumption

theorem good_audShowPos {a0} (h : Good g s) : Good g (audShowPos a0 s) := by
  delta audShowPos
  exact good_set (by assumption)

theorem good_audCapture {a0 a1 a2} (h : Good g s) : GoodO4 g (audCapture a0 a1 a2 s) := by
  delta audCapture
  extract_lets +onlyGivenNames -merge -useContext -underBinder x2_0 x2_1 x2_2
  clear_value x2_0 x2_1 x2_2
  refine ite_ind ?_ ?_
  · exact goodO4_none
  · extract_lets +onlyGivenNames -merge -useContext -underBinder x4_0
    clear_value x4_0
    split
    · extract_lets +onlyGivenNames -merge -useContext -underBinder x6_0 x6_1 x6_2 x6_3 x6_4 x6_5 x6_6 x6_7
      clear_value x6_0 x6_1 x6_2
      have hx6_3 : Good g x6_3 := by
        exact good_setAud (by assumption)
      clear_value x6_3
      have hx6_4 : Good g x6_4 := by
        exact good_audShowPos (by assumption)
      clear_value x6_4 x6_5
      have hx6_6 : Good g x6_6 := by
        exact good_dramWrite (by assumption)
      clear_value x6_6
      have hx6_7 : Good g x6_7 := by
        refine ite_ind ?_ ?_
        · refine good_raise ?_
          exact good_inc (by assumption)
        · refine good_raise ?_
          exact good_set (by assumption)
      clear_value x6_7
      refine goodO4_some ?_
      assumption

theorem good_audClockBack {a0} (h : Good g s) : Good g (audClockBack a0 s) := by
  delta audClockBack
  refine ite_ind ?_ ?_
  · assumption
  · refine good_raise ?_
    refine good_setAud ?_
    exact good_set (by assumption)

theorem good_audClockLost {a0 a1} (h : Good g s) : Good g (audClockLost a0 a1 s) := by
  delta audClockLost
  refine ite_ind ?_ ?_
  · assumption
  · extract_lets +onlyGivenNames -merge -useContext -underBinder x4_0 x4_1 x4_2
    clear_value x4_0
    have hx4_1 : Good g x4_1 := by
      refine ite_ind ?_ ?_
      · exact good_emit (by assumption)
      · assumption
    clear_value x4_1
    have hx4_2 : Good g x4_2 := by
      exact good_setAud (by assumption)
    clear_value x4_2
    refine good_raise ?_
    refine good_set ?_
    refine good_inc ?_
    exact good_set (by assumption)

theorem good_audDisable {a0} (h : Good g s) : Good g (audDisable a0 s) := by
  delta audDisable
  extract_lets +onlyGivenNames -merge -useContext -underBinder x2_0
  have hx2_0 : Good g x2_0 := by
    refine good_set ?_
    exact good_set (by assumption)
  clear_value x2_0
  refine good_setState ?_
  exact good_setAud (by assumption)

theorem good_audEmit {a0 a1} (h : Good g s) : Good g (audEmit a0 a1 s) := by
  delta audEmit
  refine ite_ind ?_ ?_
  · assumption
  · exact good_emit (by assumption)

theorem good_audEnable {a0} (h : Good g s) : Good g (audEnable a0 s) := by
  delta audEnable
  refine ite_ind ?_ ?_
  · exact good_setState (by assumption)
  · assumption

theorem good_audFlush {a0} (h : Good g s) : Good g (audFlush a0 s) := by
  delta audFlush
  extract_lets +onlyGivenNames -merge -useContext -underBinder x2_0
  clear_value x2_0
  refine ite_ind ?_ ?_
  · assumption
  · extract_lets +onlyGivenNames -merge -useContext -underBinder x4_0 x4_1
    clear_value x4_0
    have hx4_1 : Good g x4_1 := by
      exact good_setAud (by assumption)
    clear_value x4_1
    refine ite_ind ?_ ?_
    · assumption
    · extract_lets +onlyGivenNames -merge -useContext -underBinder x6_0 x6_1 x6_2
      clear_value x6_0 x6_1
      have hx6_2 : Good g x6_2 := by
        exact good_dramWrite (by assumption)
      clear_value x6_2
      exact good_set (by assumption)

theorem good_audHoldLimit {a0} (h : Good g s) : Good g (audHoldLimit a0 s) := by
  delta audHoldLimit
  extract_lets +onlyGivenNames -merge -useContext -underBinder x2_0
  clear_value x2_0
  split
  · refine ite_ind ?_ ?_
    · extract_lets +onlyGivenNames -merge -useContext -underBinder x6_0
      clear_value x6_0
      refine good_audEmit ?_
      refine good_audShowPos ?_
      exact good_setAud (by assumption)
    · assumption
  · assumption

theorem good_audMeasure {a0 a1} (h : Good g s) : Good g (audMeasure a0 a1 s) := by
  delta audMeasure
  refine ite_ind ?_ ?_
  · assumption
  · extract_lets +onlyGivenNames -merge -useContext -underBinder x4_0 x4_1 x4_2
    clear_value x4_0
    have hx4_1 : Good g x4_1 := by
      exact good_set (by assumption)
    clear_value x4_1
    have hx4_2 : Good g x4_2 := by
      exact good_setAud (by assumption)
    clear_value x4_2
    split
    · assumption
    · refine ite_ind ?_ ?_
      · exact good_raise (by assumption)
      · assumption

theorem good_readOpen {a0 a1 a2} (h : Good g s) : Good2 g (readOpen a0 a1 a2 s) := by
  delta readOpen
  split
  · rename_i v2_0 v2_1 v2_2 q2_0
    have hv2_2 : Good g v2_2 := good3_eq q2_0 (by
      exact good_dramRead (by assumption))
    refine ite_ind ?_ ?_
    · refine good2_mk ?_
      exact good_fresh (by assumption)
    · refine good2_mk ?_
      assumption

theorem good_audTake {n pos k} (h : Good g s) : Good2 g (audTake n pos k s) := by
  induction k generalizing s with
  | zero => exact h
  | succ k ih =>
    unfold audTake
    extract_lets +onlyGivenNames -merge -useContext -underBinder dev
    refine ite_ind (good2_mk h) ?_
    split
    · rename_i b s' q
      have hs : Good g s' := good2_eq q (good_readOpen h)
      extract_lets +onlyGivenNames -merge -useContext -underBinder d
      refine ite_ind (good2_mk hs) ?_
      extract_lets +onlyGivenNames -merge -useContext -underBinder s2
      have h2 : Good g s2 := good_set hs
      exact ite_ind (ih (good_inc h2)) (good2_mk h2)

theorem good_audOutBlock {a0 a1} (h : Good g s) : Good g (audOutBlock a0 a1 s) := by
  delta audOutBlock
  extract_lets +onlyGivenNames -merge -useContext -underBinder x2_0
  clear_value x2_0
  refine ite_ind ?_ ?_
  · assumption
  · extract_lets +onlyGivenNames -merge -useContext -underBinder x4_0
    have hx4_0 : Good g x4_0 := by
      refine ite_ind ?_ ?_
      · exact good_audFlush (by assumption)
      · assumption
    clear_value x4_0
    split
    · rename_i v4_0 v4_1 q4_0
      have hv4_1 : Good g v4_1 := good2_eq q4_0 (by
        exact good_audTake (by assumption))
      extract_lets +onlyGivenNames -merge -useContext -underBinder x6_0
      clear_value x6_0
      split
      · extract_lets +onlyGivenNames -merge -useContext -underBinder x8_0
        have hx8_0 : Good g x8_0 := by
          exact good_setAud (by assumption)
        clear_value x8_0
        refine good_audEmit ?_
        refine good_audShowPos ?_
        exact good_set (by assumption)
      · extract_lets +onlyGivenNames -merge -useContext -underBinder x8_0
        have hx8_0 : Good g x8_0 := by
          refine good_audShowPos ?_
          exact good_setAud (by assumption)
        clear_value x8_0
        refine ite_ind ?_ ?_
        · assumption
        · extract_lets +onlyGivenNames -merge -useContext -underBinder x10_0 x10_1 x10_2 x10_3
          clear_value x10_0 x10_1
          have hx10_2 : Good g x10_2 := by
            exact good_setAud (by assumption)
          clear_value x10_2
          have hx10_3 : Good g x10_3 := by
            refine good_raise ?_
            refine good_inc ?_
            exact good_set (by assumption)
          clear_value x10_3
          exact good_audEmit (by assumption)

theorem good_audPut {a0 a1 a2} (h : Good g s) : Good g (audPut a0 a1 a2 s) := by
  delta audPut
  extract_lets +onlyGivenNames -merge -useContext -underBinder x2_0 x2_1 x2_2 x2_3
  clear_value x2_0
  have hx2_1 : Good g x2_1 := by
    refine ite_ind ?_ ?_
    · exact good_audFlush (by assumption)
    · assumption
  clear_value x2_1 x2_2
  have hx2_3 : Good g x2_3 := by
    exact good_setAud (by assumption)
  clear_value x2_3
  refine ite_ind ?_ ?_
  · assumption
  · exact good_audFlush (by assumption)

theorem good_audReceive {a0 a1 a2} (h : Good g s) : Good g (audReceive a0 a1 a2 s) := by
  delta audReceive
  extract_lets +onlyGivenNames -merge -useContext -underBinder x2_0 x2_1
  clear_value x2_0 x2_1
  refine ite_ind ?_ ?_
  · assumption
  · refine ite_ind ?_ ?_
    · exact good_inc (by assumption)
    · extract_lets +onlyGivenNames -merge -useContext -underBinder x6_0 x6_1
      clear_value x6_0 x6_1
      refine good_forEach (fun _ _ _ => ?_) ?_
      · exact good_audPut (by assumption)
      · assumption

theorem good_audRun {a0 a1 a2} (h : Good g s) : Good g (audRun a0 a1 a2 s) := by
  delta audRun
  extract_lets +onlyGivenNames -merge -useContext -underBinder x2_0 x2_1 x2_2 x2_3 x2_4 x2_5
  clear_value x2_0 x2_1 x2_2 x2_3
  have hx2_4 : Good g x2_4 := by
    exact good_setAud (by assumption)
  clear_value x2_4
  have hx2_5 : Good g x2_5 := by
    refine good_set ?_
    exact good_set (by assumption)
  clear_value x2_5
  refine good_raise ?_
  refine good_audShowPos ?_
  exact good_setState (by assumption)

theorem good_audStopped {a0} (h : Good g s) : Good g (audStopped a0 s) := by
  delta audStopped
  refine ite_ind ?_ ?_
  · refine good_raise ?_
    exact good_setState (by assumption)
  · assumption

theorem good_audTrigFire {a0} (h : Good g s) : Good g (audTrigFire a0 s) := by
  delta audTrigFire
  split
  · assumption
  · extract_lets +onlyGivenNames -merge -useContext -underBinder x4_0
    have hx4_0 : Good g x4_0 := by
      refine good_forEach (fun _ _ _ => ?_) ?_
      · refine ite_ind ?_ ?_
        · assumption
        · refine ite_ind ?_ ?_
          · exact good_audRun (by assumption)
          · refine ite_ind ?_ ?_
            · exact good_setState (by assumption)
            · assumption
      · refine good_upd ?_
        assumption
    clear_value x4_0
    refine good_raise ?_
    exact good_set (by assumption)

theorem good_execAudRateMeasure {a0 a1 a2} (h : Good g s) : GoodN g (execAudRateMeasure a0 a1 a2 s) := by
  delta execAudRateMeasure
  refine goodN_next ?_
  refine good_audMeasure ?_
  exact good_at (by assumption)

theorem good_execClockBack {a0 a1} (h : Good g s) : GoodN g (execClockBack a0 a1 s) := by
  delta execClockBack
  refine goodN_next ?_
  refine good_audClockBack ?_
  exact good_at (by assumption)

theorem good_execClockLost {a0 a1 a2} (h : Good g s) : GoodN g (execClockLost a0 a1 a2 s) := by
  delta execClockLost
  refine goodN_next ?_
  refine good_audClockLost ?_
  exact good_at (by assumption)

theorem good_execHoldLimit {a0 a1} (h : Good g s) : GoodN g (execHoldLimit a0 a1 s) := by
  delta execHoldLimit
  refine goodN_next ?_
  refine good_audHoldLimit ?_
  exact good_at (by assumption)

theorem good_execOutputBlock {a0 a1 a2} (h : Good g s) : GoodN g (execOutputBlock a0 a1 a2 s) := by
  delta execOutputBlock
  refine goodN_next ?_
  refine good_audOutBlock ?_
  exact good_at (by assumption)

theorem good_silentStart {a0} (h : Good g s) : Good g (silentStart a0 s) := by
  delta silentStart
  split
  · refine ite_ind ?_ ?_
    · exact good_setState (by assumption)
    · assumption
  · assumption

theorem good_execSilentStart {a0 a1} (h : Good g s) : GoodN g (execSilentStart a0 a1 s) := by
  delta execSilentStart
  refine goodN_next ?_
  refine good_silentStart ?_
  exact good_at (by assumption)

theorem good_trigReached {a0} (h : Good g s) : Good g (trigReached a0 s) := by
  delta trigReached
  split
  · refine ite_ind ?_ ?_
    · exact good_audTrigFire (by assumption)
    · assumption
  · assumption

theorem good_silentOver {a0 a1} (h : Good g s) : Good g (silentOver a0 a1 s) := by
  delta silentOver
  refine ite_ind ?_ ?_
  · exact good_audRun (by assumption)
  · assumption

theorem good_execStartFired {a0 a1} (h : Good g s) : GoodN g (execStartFired a0 a1 s) := by
  delta execStartFired
  split
  · refine goodN_next ?_
    refine good_trigReached ?_
    exact good_at (by assumption)
  · refine goodN_next ?_
    refine good_silentOver ?_
    exact good_at (by assumption)

theorem good_execStopComplete {a0 a1} (h : Good g s) : GoodN g (execStopComplete a0 a1 s) := by
  delta execStopComplete
  refine goodN_next ?_
  refine good_audStopped ?_
  exact good_at (by assumption)

theorem good_writeAudCtrl {a0 a1 a2} (h : Good g s) : Good g (writeAudCtrl a0 a1 a2 s) := by
  delta writeAudCtrl
  extract_lets +onlyGivenNames -merge -useContext -underBinder x2_0
  have hx2_0 : Good g x2_0 := by
    refine ite_ind ?_ ?_
    · refine ite_ind ?_ ?_
      · exact good_logAccess (by assumption)
      · refine ite_ind ?_ ?_
        · exact good_logAccess (by assumption)
        · exact good_setState (by assumption)
    · assumption
  clear_value x2_0
  refine ite_ind ?_ ?_
  · refine ite_ind ?_ ?_
    · exact good_setState (by assumption)
    · refine ite_ind ?_ ?_
      · extract_lets +onlyGivenNames -merge -useContext -underBinder x8_0 x8_1
        clear_value x8_0
        have hx8_1 : Good g x8_1 := by
          refine good_setState ?_
          exact good_setAud (by assumption)
        clear_value x8_1
        refine ite_ind ?_ ?_
        · refine good_audEmit ?_
          exact good_set (by assumption)
        · assumption
      · assumption
  · assumption

theorem good_writeStart {a0 a1} (h : Good g s) : Good g (writeStart a0 a1 s) := by
  delta writeStart
  extract_lets +onlyGivenNames -merge -useContext -underBinder x2_0 x2_1 x2_2
  clear_value x2_0 x2_1
  have hx2_2 : ∀ s, Good g s → Good g (x2_2 s) := by
    intro s h
    refine good_set ?_
    exact good_set (by assumption)
  refine ite_ind ?_ ?_
  · refine hx2_2 _ ?_
    assumption
  · refine ite_ind ?_ ?_
    · exact good_logAccess (by assumption)
    · refine good_set ?_
      refine hx2_2 _ ?_
      refine good_upd ?_
      assumption

end Sys2Proof.Machine
end

