-- ==== Sys2Proof/Laws/KeepPtp.lean ====
section
/-! SUPPORT. Every operation of Ptp.lean keeps a state good: sound, its queue untouched, nothing sent taken back. -/

namespace Sys2Proof.Machine

variable {g : Ghost} {s : State}

theorem good_setDom {a1 a2} (h : Good g s) : Good g (State.setDom s a1 a2) := by
  delta State.setDom
  refine good_upd_doms ?_
  assumption

theorem good_ptpDeliver {a0 a1 a2 a3 a4 a5 a6} (h : Good g s) : Good g (ptpDeliver a0 a1 a2 a3 a4 a5 a6 s) := by
  delta ptpDeliver
  extract_lets +onlyGivenNames -merge -useContext -underBinder x2_0 x2_1 x2_2 x2_3
  clear_value x2_0
  have hx2_1 : Good g x2_1 := by
    refine ite_ind ?_ ?_
    · exact good_setDom (by assumption)
    · assumption
  clear_value x2_1 x2_2 x2_3
  refine ite_ind ?_ ?_
  · refine good_raise ?_
    exact good_inc (by assumption)
  · extract_lets +onlyGivenNames -merge -useContext -underBinder x4_0 x4_1 x4_2
    clear_value x4_0 x4_1 x4_2
    refine good_raise ?_
    refine good_set ?_
    exact good_dramWrite (by assumption)

theorem good_slotDone {a0 a1 a2 a3 a4} (h : Good g s) : Good g (slotDone a0 a1 a2 a3 a4 s) := by
  delta slotDone
  extract_lets +onlyGivenNames -merge -useContext -underBinder x2_0 x2_1 x2_2 x2_3
  have hx2_0 : Good g x2_0 := by
    unfold x2_0
    split
    · exact good_dramWrite (by assumption)
    · assumption
  clear_value x2_0
  have hx2_1 : Good g x2_1 := by
    exact good_dramWrite (by assumption)
  clear_value x2_1
  have hx2_2 : Good g x2_2 := by
    refine ite_ind ?_ ?_
    · exact good_inc (by assumption)
    · assumption
  clear_value x2_2
  have hx2_3 : Good g x2_3 := by
    exact good_set (by assumption)
  clear_value x2_3
  exact good_raiseIf (by assumption)

theorem good_ptpDepart {a0 a1 a2} (h : Good g s) : Good g (ptpDepart a0 a1 a2 s) := by
  delta ptpDepart
  split
  · assumption
  · split
    · rename_i v4_0 v4_1 q4_0
      have hv4_1 : Good g v4_1 := good2_eq q4_0 (by
        exact good_readOpen (by assumption))
      split
      · rename_i v6_0 v6_1 q6_0
        have hv6_1 : Good g v6_1 := good2_eq q6_0 (by
          refine ite_ind ?_ ?_
          · exact good_readOpen (by assumption)
          · refine good2_mk ?_
            assumption)
        extract_lets +onlyGivenNames -merge -useContext -underBinder x8_0 x8_1 x8_2 x8_3 x8_4
        clear_value x8_0 x8_1 x8_2
        have hx8_3 : Good g x8_3 := by
          refine ite_ind ?_ ?_
          · exact good_setDom (by assumption)
          · assumption
        clear_value x8_3
        have hx8_4 : Good g x8_4 := by
          exact good_emit (by assumption)
        clear_value x8_4
        exact good_slotDone (by assumption)

theorem good_ptpReceive {a0 a1 a2} (h : Good g s) : Good g (ptpReceive a0 a1 a2 s) := by
  delta ptpReceive
  split
  · assumption
  · extract_lets +onlyGivenNames -merge -useContext -underBinder x4_0
    clear_value x4_0
    refine ite_ind ?_ ?_
    · exact good_inc (by assumption)
    · refine good_forEach (fun _ _ _ => ?_) ?_
      · exact good_ptpDeliver (by assumption)
      · assumption

theorem good_ptpSettle {d k} (h : Good g s) : Good g (ptpSettle d k s) := by
  induction k generalizing s with
  | zero => exact h
  | succ k ih =>
    unfold ptpSettle
    split
    · exact h
    · extract_lets +onlyGivenNames -merge -useContext -underBinder b report
      exact ite_ind (ih (good_slotDone h)) (ite_ind (ih (good_slotDone h)) h)

end Sys2Proof.Machine
end

