-- ==== Sys2Proof/Laws/KeepChk.lean ====
section
/-! SUPPORT. Every operation of Chk.lean keeps a state good: sound, its queue untouched, nothing sent taken back. -/

namespace Sys2Proof.Machine

variable {g : Ghost} {s : State}

theorem good_setChk {a1 a2} (h : Good g s) : Good g (State.setChk s a1 a2) := by
  delta State.setChk
  refine good_upd_chks ?_
  assumption

theorem good_chkEvent {a0 a1} (h : Good g s) : Good g (chkEvent a0 a1 s) := by
  delta chkEvent
  refine good_raise ?_
  exact good_set (by assumption)

theorem good_kset {a0 a1 a2} (h : Good g s) : Good g (kset a0 a1 a2 s) := by
  delta kset
  exact good_set (by assumption)

theorem good_writeChk {a0 a1 a2} (h : Good g s) : Good g (writeChk a0 a1 a2 s) := by
  delta writeChk
  extract_lets +onlyGivenNames -merge -useContext -underBinder x2_0 x2_1 x2_2 x2_3 x2_4 x2_5 x2_6
  clear_value x2_0 x2_1 x2_2 x2_3 x2_4 x2_5 x2_6
  refine ite_ind ?_ ?_
  · exact good_logAccess (by assumption)
  · refine ite_ind ?_ ?_
    · exact good_logAccess (by assumption)
    · split
      · exact good_logAccess (by assumption)
      · extract_lets +onlyGivenNames -merge -useContext -underBinder x8_0 x8_1
        have hx8_0 : Good g x8_0 := by
          exact good_kset (by assumption)
        clear_value x8_0
        have hx8_1 : Good g x8_1 := by
          refine ite_ind ?_ ?_
          · assumption
          · exact good_setChk (by assumption)
        clear_value x8_1
        exact good_set (by assumption)

end Sys2Proof.Machine
end

