-- ==== Sys2Proof/Laws/KeepBpool.lean ====
section
/-! SUPPORT. Every operation of Bpool.lean keeps a state good: sound, its queue untouched, nothing sent taken back. -/

namespace Sys2Proof.Machine

variable {g : Ghost} {s : State}

theorem good_setBuf {a1 a2} (h : Good g s) : Good g (State.setBuf s a1 a2) := by
  delta State.setBuf
  refine good_upd_pool (fun k => ⟨by first | exact tbl_wf_put k.1 | exact k.1, by first | exact tbl_wf_put k.2 | exact k.2⟩) ?_
  assumption

theorem good_claimDec {a0} (h : Good g s) : Good g (claimDec a0 s) := by
  delta claimDec
  extract_lets +onlyGivenNames -merge -useContext -underBinder x2_0
  clear_value x2_0
  exact good_setBuf (by assumption)

theorem good_claimFetch {a0 a1} (h : Good g s) : Good g (claimFetch a0 a1 s) := by
  delta claimFetch
  extract_lets +onlyGivenNames -merge -useContext -underBinder x2_0
  clear_value x2_0
  exact good_setBuf (by assumption)

theorem good_poolEvent {a0 a1 a2} (h : Good g s) : Good g (poolEvent a0 a1 a2 s) := by
  delta poolEvent
  extract_lets +onlyGivenNames -merge -useContext -underBinder x2_0 x2_1
  have hx2_0 : Good g x2_0 := by
    unfold x2_0
    split
    · exact good_set (by assumption)
    · assumption
  clear_value x2_0
  have hx2_1 : Good g x2_1 := by
    unfold x2_1
    split
    · exact good_set (by assumption)
    · assumption
  clear_value x2_1
  exact good_raise (by assumption)

theorem good_setFreeList {a0 a1} (h : Good g s) : Good g (setFreeList a0 a1 s) := by
  delta setFreeList
  refine good_set ?_
  refine good_upd_pool (fun k => ⟨by first | exact tbl_wf_put k.1 | exact k.1, by first | exact tbl_wf_put k.2 | exact k.2⟩) ?_
  assumption

theorem good_settleBuf {a0} (h : Good g s) : Good g (settleBuf a0 s) := by
  delta settleBuf
  extract_lets +onlyGivenNames -merge -useContext -underBinder x2_0
  clear_value x2_0
  refine ite_ind ?_ ?_
  · refine good_setFreeList ?_
    exact good_setBuf (by assumption)
  · assumption

theorem good_loseOwner {a0} (h : Good g s) : Good g (loseOwner a0 s) := by
  delta loseOwner
  extract_lets +onlyGivenNames -merge -useContext -underBinder x2_0 x2_1 x2_2
  clear_value x2_0
  have hx2_1 : Good g x2_1 := by
    exact good_setBuf (by assumption)
  clear_value x2_1
  have hx2_2 : Good g x2_2 := by
    refine ite_ind ?_ ?_
    · assumption
    · exact good_poolEvent (by assumption)
  clear_value x2_2
  exact good_settleBuf (by assumption)

theorem good_cqAppend {a0 a1 a2} (h : Good g s) : Good2 g (cqAppend a0 a1 a2 s) := by
  delta cqAppend
  extract_lets +onlyGivenNames -merge -useContext -underBinder x2_0 x2_1
  clear_value x2_0 x2_1
  refine ite_ind ?_ ?_
  · refine good2_mk ?_
    refine good_poolEvent ?_
    refine good_upd_pool (fun k => ⟨by first | exact tbl_wf_put k.1 | exact k.1, by first | exact tbl_wf_put k.2 | exact k.2⟩) ?_
    assumption
  · extract_lets +onlyGivenNames -merge -useContext -underBinder x4_0 x4_1
    clear_value x4_0
    have hx4_1 : Good g x4_1 := by
      exact good_dramWrite (by assumption)
    clear_value x4_1
    refine good2_mk ?_
    refine good_poolEvent ?_
    exact good_set (by assumption)

theorem good_handOver {a0 a1} (h : Good g s) : Good g (handOver a0 a1 s) := by
  delta handOver
  extract_lets +onlyGivenNames -merge -useContext -underBinder x2_0 x2_1
  clear_value x2_0 x2_1
  refine ite_ind ?_ ?_
  · split
    · exact good_setBuf (by assumption)
    · refine good_loseOwner ?_
      exact good_setBuf (by assumption)
  · extract_lets +onlyGivenNames -merge -useContext -underBinder x4_0
    have hx4_0 : Good g x4_0 := by
      exact good_setBuf (by assumption)
    clear_value x4_0
    split
    · rename_i v4_0 v4_1 q4_0
      have hv4_1 : Good g v4_1 := good2_eq q4_0 (by
        exact good_cqAppend (by assumption))
      refine ite_ind ?_ ?_
      · assumption
      · exact good_loseOwner (by assumption)

theorem good_countDone (h : Good g s) : Good g (countDone s) := by
  delta countDone
  refine good_upd_pool (fun k => ⟨by first | exact tbl_wf_put k.1 | exact k.1, by first | exact tbl_wf_put k.2 | exact k.2⟩) ?_
  assumption

theorem good_completeBuf {a0 a1} (h : Good g s) : Good g (completeBuf a0 a1 s) := by
  delta completeBuf
  refine good_handOver ?_
  refine good_countDone ?_
  exact good_dramWrite (by assumption)

theorem good_dropDec {a0} (h : Good g s) : Good g (dropDec a0 s) := by
  delta dropDec
  extract_lets +onlyGivenNames -merge -useContext -underBinder x2_0
  clear_value x2_0
  refine good_settleBuf ?_
  exact good_setBuf (by assumption)

theorem good_dropFetch {a0 a1} (h : Good g s) : Good g (dropFetch a0 a1 s) := by
  delta dropFetch
  extract_lets +onlyGivenNames -merge -useContext -underBinder x2_0
  clear_value x2_0
  refine good_settleBuf ?_
  exact good_setBuf (by assumption)

theorem good_takeBuf {a0 a1} (h : Good g s) : GoodO2 g (takeBuf a0 a1 s) := by
  delta takeBuf
  split
  · exact goodO2_none
  · refine goodO2_some ?_
    refine good_setBuf ?_
    exact good_setFreeList (by assumption)

theorem good_setPoolCopy {a0 a1 a2} (h : Good g s) : Good g (setPoolCopy a0 a1 a2 s) := by
  delta setPoolCopy
  refine good_upd_pool (fun k => ⟨by first | exact tbl_wf_put k.1 | exact k.1, by first | exact tbl_wf_put k.2 | exact k.2⟩) ?_
  assumption

theorem good_poolResult {a0 a1 a2} (h : Good g s) : Good g (poolResult a0 a1 a2 s) := by
  delta poolResult
  exact good_setPoolCopy (by assumption)

theorem good_poolRefuse {a0 a1 a2} (h : Good g s) : Good g (poolRefuse a0 a1 a2 s) := by
  delta poolRefuse
  refine good_poolResult ?_
  exact good_logAccess (by assumption)

theorem good_poolWrite {a0 a1} (h : Good g s) : Good g (poolWrite a0 a1 s) := by
  delta poolWrite
  extract_lets +onlyGivenNames -merge -useContext -underBinder x2_0 x2_1
  clear_value x2_0 x2_1
  refine ite_ind ?_ ?_
  · exact good_poolRefuse (by assumption)
  · refine ite_ind ?_ ?_
    · exact good_poolRefuse (by assumption)
    · extract_lets +onlyGivenNames -merge -useContext -underBinder x6_0 x6_1
      have hx6_0 : Good g x6_0 := by
        exact good_setFreeList (by assumption)
      clear_value x6_0
      have hx6_1 : Good g x6_1 := by
        exact good_setBuf (by assumption)
      clear_value x6_1
      refine good_poolResult ?_
      exact good_setFreeList (by assumption)

theorem good_poolRead {a0 a1} (h : Good g s) : Good g (poolRead a0 a1 s) := by
  delta poolRead
  extract_lets +onlyGivenNames -merge -useContext -underBinder x2_0 x2_1 x2_2 x2_3 x2_4 x2_5 x2_6 x2_7
  clear_value x2_0
  have hx2_1 : Good g x2_1 := by
    exact good_setPoolCopy (by assumption)
  clear_value x2_1
  have hx2_2 : Good g x2_2 := by
    exact good_setPoolCopy (by assumption)
  clear_value x2_2
  have hx2_3 : Good g x2_3 := by
    exact good_setPoolCopy (by assumption)
  clear_value x2_3
  have hx2_4 : Good g x2_4 := by
    exact good_setPoolCopy (by assumption)
  clear_value x2_4
  have hx2_5 : Good g x2_5 := by
    exact good_setPoolCopy (by assumption)
  clear_value x2_5
  have hx2_6 : Good g x2_6 := by
    exact good_setPoolCopy (by assumption)
  clear_value x2_6
  have hx2_7 : Good g x2_7 := by
    exact good_setPoolCopy (by assumption)
  clear_value x2_7
  exact good_poolResult (by assumption)

theorem good_poolCommand {a0 a1} (h : Good g s) : Good g (poolCommand a0 a1 s) := by
  delta poolCommand
  extract_lets +onlyGivenNames -merge -useContext -underBinder x2_0 x2_1 x2_2 x2_3
  clear_value x2_0 x2_1 x2_2 x2_3
  refine ite_ind ?_ ?_
  · split
    · rename_i v4_0 v4_1 q4_0
      have hv4_1 : Good g v4_1 := goodO2_eq q4_0 (by
        exact good_takeBuf (by assumption))
      exact good_poolResult (by assumption)
    · exact good_poolRefuse (by assumption)
  · refine ite_ind ?_ ?_
    · refine ite_ind ?_ ?_
      · refine good_poolResult ?_
        exact good_setBuf (by assumption)
      · exact good_poolRefuse (by assumption)
    · refine ite_ind ?_ ?_
      · refine ite_ind ?_ ?_
        · refine good_poolResult ?_
          exact good_loseOwner (by assumption)
        · exact good_poolRefuse (by assumption)
      · refine ite_ind ?_ ?_
        · exact good_poolWrite (by assumption)
        · refine ite_ind ?_ ?_
          · exact good_poolRead (by assumption)
          · exact good_logAccess (by assumption)

theorem good_produceBuf {a0 a1} (h : Good g s) : Good2 g (produceBuf a0 a1 s) := by
  delta produceBuf
  split
  · rename_i v2_0 v2_1 q2_0
    have hv2_1 : Good g v2_1 := goodO2_eq q2_0 (by
      exact good_takeBuf (by assumption))
    refine good2_mk ?_
    assumption
  · refine good2_mk ?_
    exact good_poolEvent (by assumption)

theorem good_returnBuf {a0} (h : Good g s) : Good g (returnBuf a0 s) := by
  delta returnBuf
  exact good_loseOwner (by assumption)

end Sys2Proof.Machine
end

