-- ==== Sys2Proof/Laws/KeepFrames.lean ====
section
/-! SUPPORT. Every operation of Frames.lean keeps a state good: sound, its queue untouched, nothing sent taken back. -/

namespace Sys2Proof.Machine

variable {g : Ghost} {s : State}

theorem good_setAsm {a1 a2} (h : Good g s) : Good g (State.setAsm s a1 a2) := by
  delta State.setAsm
  refine good_upd_asms ?_
  assumption

theorem good_setBench {a1 a2} (h : Good g s) : Good g (State.setBench s a1 a2) := by
  delta State.setBench
  refine good_upd_benches ?_
  assumption

theorem good_setStrm {a1 a2} (h : Good g s) : Good g (State.setStrm s a1 a2) := by
  delta State.setStrm
  refine good_upd_strms ?_
  assumption

theorem good_updFrame {a0 a1 a2} (h : Good g s) : Good g (updFrame a0 a1 a2 s) := by
  delta updFrame
  extract_lets +onlyGivenNames -merge -useContext -underBinder x2_0
  clear_value x2_0
  exact good_setStrm (by assumption)

theorem good_flagFrame {a0 a1 a2} (h : Good g s) : Good g (flagFrame a0 a1 a2 s) := by
  delta flagFrame
  exact good_updFrame (by assumption)

theorem good_updCtx {a0 a1} (h : Good g s) : Good g (updCtx a0 a1 s) := by
  delta updCtx
  exact good_setStrm (by assumption)

end Sys2Proof.Machine
end

