-- ==== Sys2Proof/Laws/KeepEnc.lean ====
section
/-! SUPPORT. Every operation of Enc.lean keeps a state good: sound, its queue untouched, nothing sent taken back. -/

namespace Sys2Proof.Machine

variable {g : Ghost} {s : State}

theorem good_setEnc {a1 a2} (h : Good g s) : Good g (State.setEnc s a1 a2) := by
  delta State.setEnc
  refine good_upd_encs ?_
  assumption

theorem good_cset {a0 a1 a2} (h : Good g s) : Good g (cset a0 a1 a2 s) := by
  delta cset
  exact good_set (by assumption)

theorem good_clearValid {a0 a1} (h : Good g s) : Good g (clearValid a0 a1 s) := by
  delta clearValid
  extract_lets +onlyGivenNames -merge -useContext -underBinder x2_0
  clear_value x2_0
  exact good_dramWrite (by assumption)

theorem good_endSlot {a0 a1} (h : Good g s) : Good g (endSlot a0 a1 s) := by
  delta endSlot
  refine ite_ind ?_ ?_
  · assumption
  · refine good_cset ?_
    exact good_clearValid (by assumption)

theorem good_encEvent {a0 a1} (h : Good g s) : Good g (encEvent a0 a1 s) := by
  delta encEvent
  refine good_raise ?_
  exact good_set (by assumption)

theorem good_recoveryPending {a0} (h : Good g s) : Good g (recoveryPending a0 s) := by
  delta recoveryPending
  refine ite_ind ?_ ?_
  · assumption
  · extract_lets +onlyGivenNames -merge -useContext -underBinder x4_0 x4_1
    have hx4_0 : Good g x4_0 := by
      exact good_cset (by assumption)
    clear_value x4_0
    have hx4_1 : Good g x4_1 := by
      exact good_cset (by assumption)
    clear_value x4_1
    refine good_encEvent ?_
    refine good_forEach (fun _ _ _ => ?_) ?_
    · exact good_clearValid (by assumption)
    · assumption

theorem good_refreshEnc {a0} (h : Good g s) : Good g (refreshEnc a0 s) := by
  delta refreshEnc
  extract_lets +onlyGivenNames -merge -useContext -underBinder x2_0 x2_1 x2_2 x2_3 x2_4
  clear_value x2_0
  have hx2_1 : Good g x2_1 := by
    exact good_setSat (by assumption)
  clear_value x2_1
  have hx2_2 : Good g x2_2 := by
    exact good_set (by assumption)
  clear_value x2_2
  have hx2_3 : Good g x2_3 := by
    exact good_set (by assumption)
  clear_value x2_3 x2_4
  exact good_setState (by assumption)

theorem good_showCtx {a0 a1} (h : Good g s) : Good g (showCtx a0 a1 s) := by
  delta showCtx
  refine good_refreshEnc ?_
  exact good_cset (by assumption)

theorem good_settleCtx {a0} (h : Good g s) : Good g (settleCtx a0 s) := by
  delta settleCtx
  extract_lets +onlyGivenNames -merge -useContext -underBinder x2_0
  clear_value x2_0
  refine ite_ind ?_ ?_
  · assumption
  · exact good_showCtx (by assumption)

theorem good_abandonPic {a0 a1 a2} (h : Good g s) : Good g (abandonPic a0 a1 a2 s) := by
  delta abandonPic
  extract_lets +onlyGivenNames -merge -useContext -underBinder x2_0 x2_1 x2_2 x2_3 x2_4 x2_5 x2_6 x2_7
  clear_value x2_0
  have hx2_1 : Good g x2_1 := by
    exact good_setEnc (by assumption)
  clear_value x2_1
  have hx2_2 : Good g x2_2 := by
    exact good_cset (by assumption)
  clear_value x2_2
  have hx2_3 : Good g x2_3 := by
    exact good_inc (by assumption)
  clear_value x2_3
  have hx2_4 : Good g x2_4 := by
    refine ite_ind ?_ ?_
    · assumption
    · exact good_endSlot (by assumption)
  clear_value x2_4
  have hx2_5 : Good g x2_5 := by
    exact good_encEvent (by assumption)
  clear_value x2_5
  have hx2_6 : Good g x2_6 := by
    exact good_recoveryPending (by assumption)
  clear_value x2_6
  have hx2_7 : Good g x2_7 := by
    refine ite_ind ?_ ?_
    · exact good_cset (by assumption)
    · assumption
  clear_value x2_7
  exact good_settleCtx (by assumption)

theorem good_abandonFrame {a0 a1 a2 a3} (h : Good g s) : Good g (abandonFrame a0 a1 a2 a3 s) := by
  delta abandonFrame
  split
  · exact good_abandonPic (by assumption)
  · assumption

theorem good_emptyRecon {a0} (h : Good g s) : Good g (emptyRecon a0 s) := by
  delta emptyRecon
  extract_lets +onlyGivenNames -merge -useContext -underBinder x2_0 x2_1
  clear_value x2_0
  have hx2_1 : Good g x2_1 := by
    exact good_setEnc (by assumption)
  clear_value x2_1
  refine good_recoveryPending ?_
  exact good_cset (by assumption)

theorem good_applyCtx {a0} (h : Good g s) : Good g (applyCtx a0 s) := by
  delta applyCtx
  extract_lets +onlyGivenNames -merge -useContext -underBinder x2_0 x2_1 x2_2 x2_3 x2_4 x2_5
  clear_value x2_0 x2_1
  have hx2_2 : Good g x2_2 := by
    refine good_forEach (fun _ _ _ => ?_) ?_
    · exact good_applyAt (by assumption)
    · assumption
  clear_value x2_2 x2_3
  have hx2_4 : Good g x2_4 := by
    exact good_setEnc (by assumption)
  clear_value x2_4 x2_5
  refine ite_ind ?_ ?_
  · refine good_showCtx ?_
    refine good_emptyRecon ?_
    exact good_setEnc (by assumption)
  · refine ite_ind ?_ ?_
    · refine good_showCtx ?_
      exact good_setEnc (by assumption)
    · refine ite_ind ?_ ?_
      · exact good_emptyRecon (by assumption)
      · exact good_refreshEnc (by assumption)

theorem good_updPic {a0 a1 a2 a3} (h : Good g s) : Good g (updPic a0 a1 a2 a3 s) := by
  delta updPic
  extract_lets +onlyGivenNames -merge -useContext -underBinder x2_0
  clear_value x2_0
  exact good_setEnc (by assumption)

theorem good_outWrite {a0 a1} (h : Good g s) : Good g (outWrite a0 a1 s) := by
  delta outWrite
  extract_lets +onlyGivenNames -merge -useContext -underBinder x2_0 x2_1 x2_2 x2_3 x2_4 x2_5
  clear_value x2_0 x2_1 x2_2 x2_3
  have hx2_4 : Good g x2_4 := by
    exact good_dramWrite (by assumption)
  clear_value x2_4
  have hx2_5 : Good g x2_5 := by
    exact good_dramWrite (by assumption)
  clear_value x2_5
  exact good_cset (by assumption)

theorem good_stampUnits {a0 a1 a2} (h : Good g s) : Good g (stampUnits a0 a1 a2 s) := by
  delta stampUnits
  refine good_forEach (fun _ _ _ => ?_) ?_
  · extract_lets +onlyGivenNames -merge -useContext -underBinder x4_0
    clear_value x4_0
    refine ite_ind ?_ ?_
    · extract_lets +onlyGivenNames -merge -useContext -underBinder x6_0 x6_1
      have hx6_0 : Good g x6_0 := by
        refine ite_ind ?_ ?_
        · exact good_inc (by assumption)
        · assumption
      clear_value x6_0
      have hx6_1 : Good g x6_1 := by
        exact good_inc (by assumption)
      clear_value x6_1
      exact good_set (by assumption)
    · assumption
  · assumption

theorem good_takeSlot {a0 a1} (h : Good g s) : Good g (takeSlot a0 a1 s) := by
  delta takeSlot
  extract_lets +onlyGivenNames -merge -useContext -underBinder x2_0 x2_1 x2_2 x2_3 x2_4 x2_5 x2_6 x2_7 x2_8 x2_9 x2_10 x2_11 x2_12 x2_13
  clear_value x2_0 x2_1 x2_2 x2_3 x2_4 x2_5 x2_6 x2_7 x2_8 x2_9 x2_10 x2_11 x2_12
  have hx2_13 : ∀ y0 s, Good g s → Good g (x2_13 y0 s) := by
    intro y0 s h
    unfold x2_13
    extract_lets +onlyGivenNames -merge -useContext -underBinder x4_0 x4_1
    clear_value x4_0 x4_1
    exact good_setEnc (by assumption)
  refine ite_ind ?_ ?_
  · extract_lets +onlyGivenNames -merge -useContext -underBinder x4_0
    have hx4_0 : Good g x4_0 := by
      refine good_encEvent ?_
      exact good_cset (by assumption)
    clear_value x4_0
    refine good_abandonPic ?_
    refine hx2_13 _ _ ?_
    assumption
  · extract_lets +onlyGivenNames -merge -useContext -underBinder x4_0 x4_1 x4_2 x4_3 x4_4 x4_5 x4_6 x4_7 x4_8 x4_9 x4_10 x4_11
    clear_value x4_0 x4_1
    have hx4_2 : Good g x4_2 := by
      exact good_setEnc (by assumption)
    clear_value x4_2
    have hx4_3 : Good g x4_3 := by
      refine ite_ind ?_ ?_
      · exact good_cset (by assumption)
      · assumption
    clear_value x4_3 x4_4 x4_5
    have hx4_6 : Good g x4_6 := by
      refine ite_ind ?_ ?_
      · assumption
      · exact good_cset (by assumption)
    clear_value x4_6 x4_7 x4_8 x4_9
    have hx4_10 : Good g x4_10 := by
      refine ite_ind ?_ ?_
      · refine good_encEvent ?_
        refine good_encEvent ?_
        exact good_inc (by assumption)
      · assumption
    clear_value x4_10 x4_11
    refine good_settleCtx ?_
    refine hx2_13 _ _ ?_
    assumption

theorem good_releaseStored {a0} (h : Good g s) : Good g (releaseStored a0 s) := by
  delta releaseStored
  extract_lets +onlyGivenNames -merge -useContext -underBinder x2_0
  clear_value x2_0
  refine ite_ind ?_ ?_
  · split
    · refine ite_ind ?_ ?_
      · exact good_takeSlot (by assumption)
      · assumption
    · assumption
  · assumption

theorem good_pictureDone {a0 a1} (h : Good g s) : Good g (pictureDone a0 a1 s) := by
  delta pictureDone
  extract_lets +onlyGivenNames -merge -useContext -underBinder x2_0 x2_1 x2_2 x2_3 x2_4 x2_5 x2_6 x2_7 x2_8 x2_9
  clear_value x2_0 x2_1
  have hx2_2 : Good g x2_2 := by
    exact good_setEnc (by assumption)
  clear_value x2_2
  have hx2_3 : Good g x2_3 := by
    refine ite_ind ?_ ?_
    · refine good_cset ?_
      exact good_cset (by assumption)
    · assumption
  clear_value x2_3
  have hx2_4 : Good g x2_4 := by
    exact good_cset (by assumption)
  clear_value x2_4
  have hx2_5 : Good g x2_5 := by
    refine ite_ind ?_ ?_
    · assumption
    · exact good_inc (by assumption)
  clear_value x2_5
  have hx2_6 : Good g x2_6 := by
    exact good_cset (by assumption)
  clear_value x2_6
  have hx2_7 : Good g x2_7 := by
    exact good_cset (by assumption)
  clear_value x2_7
  have hx2_8 : Good g x2_8 := by
    refine ite_ind ?_ ?_
    · exact good_cset (by assumption)
    · assumption
  clear_value x2_8
  have hx2_9 : Good g x2_9 := by
    refine good_encEvent ?_
    exact good_endSlot (by assumption)
  clear_value x2_9
  exact good_settleCtx (by assumption)

theorem good_releaseSlice {a0 a1 a2} (h : Good g s) : Good g (releaseSlice a0 a1 a2 s) := by
  delta releaseSlice
  extract_lets +onlyGivenNames -merge -useContext -underBinder x2_0 x2_1
  clear_value x2_0 x2_1
  split
  · assumption
  · extract_lets +onlyGivenNames -merge -useContext -underBinder x4_0 x4_1 x4_2 x4_3
    clear_value x4_0 x4_1 x4_3
    refine ite_ind ?_ ?_
    · extract_lets +onlyGivenNames -merge -useContext -underBinder x6_0
      clear_value x6_0
      refine ite_ind ?_ ?_
      · assumption
      · refine good_encEvent ?_
        refine good_showCtx ?_
        exact good_cset (by assumption)
    · extract_lets +onlyGivenNames -merge -useContext -underBinder x6_0 x6_1 x6_2 x6_3 x6_4 x6_5
      clear_value x6_0 x6_1 x6_2 x6_3 x6_4 x6_5
      refine ite_ind ?_ ?_
      · refine good_encEvent ?_
        refine good_showCtx ?_
        exact good_cset (by assumption)
      · extract_lets +onlyGivenNames -merge -useContext -underBinder x8_0 x8_1 x8_2 x8_3 x8_4 x8_5 x8_6 x8_7 x8_8
        have hx8_0 : Good g x8_0 := by
          exact good_outWrite (by assumption)
        clear_value x8_0 x8_1
        have hx8_2 : Good g x8_2 := by
          exact good_setEnc (by assumption)
        clear_value x8_2
        have hx8_3 : Good g x8_3 := by
          exact good_stampUnits (by assumption)
        clear_value x8_3 x8_4 x8_5
        have hx8_6 : Good g x8_6 := by
          refine ite_ind ?_ ?_
          · refine good_encEvent ?_
            exact good_inc (by assumption)
          · assumption
        clear_value x8_6 x8_7
        have hx8_8 : Good g x8_8 := by
          exact good_updPic (by assumption)
        clear_value x8_8
        refine ite_ind ?_ ?_
        · refine good_releaseStored ?_
          exact good_pictureDone (by assumption)
        · assumption

theorem good_ctuRowDone {a0 a1 a2 a3 a4} (h : Good g s) : Good g (ctuRowDone a0 a1 a2 a3 a4 s) := by
  delta ctuRowDone
  extract_lets +onlyGivenNames -merge -useContext -underBinder x2_0
  clear_value x2_0
  refine ite_ind ?_ ?_
  · assumption
  · split
    · assumption
    · split
      · assumption
      · extract_lets +onlyGivenNames -merge -useContext -underBinder x8_0 x8_1 x8_2
        clear_value x8_0 x8_1 x8_2
        refine ite_ind ?_ ?_
        · assumption
        · extract_lets +onlyGivenNames -merge -useContext -underBinder x10_0 x10_1 x10_2 x10_3
          clear_value x10_0 x10_1 x10_2 x10_3
          split
          · extract_lets +onlyGivenNames -merge -useContext -underBinder x12_0 x12_1 x12_2 x12_3 x12_4 x12_5 x12_6 x12_7 x12_8
            clear_value x12_0 x12_1 x12_2 x12_3
            have hx12_4 : Good g x12_4 := by
              refine good_raiseIf ?_
              refine ite_ind ?_ ?_
              · exact good_set (by assumption)
              · assumption
            clear_value x12_4 x12_5 x12_6
            have hx12_7 : Good g x12_7 := by
              exact good_updPic (by assumption)
            clear_value x12_7
            have hx12_8 : Good g x12_8 := by
              exact good_releaseSlice (by assumption)
            clear_value x12_8
            split
            · refine ite_ind ?_ ?_
              · assumption
              · exact good_releaseSlice (by assumption)
            · assumption

theorem good_dropCommits {a0} (h : Good g s) : Good g (dropCommits a0 s) := by
  delta dropCommits
  refine good_forEach (fun _ _ _ => ?_) ?_
  · exact good_setEnc (by assumption)
  · assumption

theorem good_encCommitEnd {a0} (h : Good g s) : Good g (encCommitEnd a0 s) := by
  delta encCommitEnd
  refine ite_ind ?_ ?_
  · exact good_refreshPace (by assumption)
  · extract_lets +onlyGivenNames -merge -useContext -underBinder x4_0 x4_1
    have hx4_1 : Good g x4_1 := by
      refine good_setHdr (fun k => ?_) ?_
      · exact ⟨k.hosts, k.outcome, k.lost, k.owner⟩
      · assumption
    clear_value x4_1
    refine good_refreshPace ?_
    exact good_commitDone (by assumption)

theorem good_encBoundary {a0} (h : Good g s) : Good g (encBoundary a0 s) := by
  delta encBoundary
  refine ite_ind ?_ ?_
  · assumption
  · extract_lets +onlyGivenNames -merge -useContext -underBinder x4_0
    have hx4_0 : Good g x4_0 := by
      exact good_applyCtx (by assumption)
    clear_value x4_0
    refine ite_ind ?_ ?_
    · refine good_commitReject ?_
      exact good_dropCommits (by assumption)
    · exact good_encCommitEnd (by assumption)

theorem good_encRow {a0 a1 a2 a3} (h : Good g s) : Good g (encRow a0 a1 a2 a3 s) := by
  delta encRow
  split
  · assumption
  · refine ite_ind ?_ ?_
    · exact good_abandonPic (by assumption)
    · extract_lets +onlyGivenNames -merge -useContext -underBinder x6_0 x6_1 x6_2 x6_3
      clear_value x6_0 x6_1 x6_2 x6_3
      exact good_updPic (by assumption)

theorem good_execCtuRowDone {a0 a1 a2 a3 a4} (h : Good g s) : GoodN g (execCtuRowDone a0 a1 a2 a3 a4 s) := by
  delta execCtuRowDone
  refine goodN_next ?_
  refine good_ctuRowDone ?_
  exact good_at (by assumption)

theorem good_stallTimeout {a0} (h : Good g s) : Good g (stallTimeout a0 s) := by
  delta stallTimeout
  refine ite_ind ?_ ?_
  · assumption
  · split
    · assumption
    · exact good_abandonPic (by assumption)

theorem good_execStallTimeout {a0 a1} (h : Good g s) : GoodN g (execStallTimeout a0 a1 s) := by
  delta execStallTimeout
  refine goodN_next ?_
  refine good_stallTimeout ?_
  exact good_at (by assumption)

theorem good_outFreed {a0} (h : Good g s) : Good g (outFreed a0 s) := by
  delta outFreed
  refine ite_ind ?_ ?_
  · assumption
  · extract_lets +onlyGivenNames -merge -useContext -underBinder x4_0
    have hx4_0 : Good g x4_0 := by
      exact good_showCtx (by assumption)
    clear_value x4_0
    split
    · exact good_settleCtx (by assumption)
    · exact good_releaseSlice (by assumption)

theorem good_pictureStart {a0 a1 a2} (h : Good g s) : Good g (pictureStart a0 a1 a2 s) := by
  delta pictureStart
  extract_lets +onlyGivenNames -merge -useContext -underBinder x2_0
  have hx2_0 : Good g x2_0 := by
    exact good_encBoundary (by assumption)
  clear_value x2_0
  refine ite_ind ?_ ?_
  · assumption
  · extract_lets +onlyGivenNames -merge -useContext -underBinder x4_0 x4_1 x4_2 x4_3 x4_4
    clear_value x4_0 x4_1 x4_2 x4_3
    have hx4_4 : Good g x4_4 := by
      exact good_setEnc (by assumption)
    clear_value x4_4
    refine ite_ind ?_ ?_
    · exact good_abandonPic (by assumption)
    · refine ite_ind ?_ ?_
      · refine good_settleCtx ?_
        exact good_setEnc (by assumption)
      · exact good_takeSlot (by assumption)

theorem good_resetEnc {a0} (h : Good g s) : Good g (resetEnc a0 s) := by
  delta resetEnc
  refine good_forEach (fun _ _ _ => ?_) ?_
  · exact good_setEnc (by assumption)
  · assumption

theorem good_writeGang {a0 a1 a2} (h : Good g s) : Good g (writeGang a0 a1 a2 s) := by
  delta writeGang
  extract_lets +onlyGivenNames -merge -useContext -underBinder x2_0 x2_1
  clear_value x2_0 x2_1
  refine ite_ind ?_ ?_
  · exact good_logAccess (by assumption)
  · refine ite_ind ?_ ?_
    · exact good_logAccess (by assumption)
    · refine ite_ind ?_ ?_
      · assumption
      · refine good_refreshEnc ?_
        refine good_refreshEnc ?_
        exact good_set (by assumption)

end Sys2Proof.Machine
end

