-- ==== Sys2Proof/Laws/KeepSessions.lean ====
section
/-! SUPPORT. Every operation of Sessions.lean keeps a state good: sound, its queue untouched, nothing sent taken back. -/

namespace Sys2Proof.Machine

variable {g : Ghost} {s : State}

theorem good_setNet {a1 a2} (h : Good g s) : Good g (State.setNet s a1 a2) := by
  delta State.setNet
  refine good_upd_nets ?_
  assumption

theorem good_setPay {a1 a2} (h : Good g s) : Good g (State.setPay s a1 a2) := by
  delta State.setPay
  refine good_upd ?_
  assumption

theorem good_setSess {a1 a2} (h : Good g s) : Good g (State.setSess s a1 a2) := by
  delta State.setSess
  refine good_upd_sess ?_
  assumption

theorem good_addRef {a0} (h : Good g s) : Good g (addRef a0 s) := by
  delta addRef
  exact good_setPay (by assumption)

theorem good_countAge (h : Good g s) : Good g (countAge s) := by
  delta countAge
  refine good_upd ?_
  assumption

theorem good_sessEvent {a0 a1} (h : Good g s) : Good g (sessEvent a0 a1 s) := by
  delta sessEvent
  refine good_raise ?_
  exact good_set (by assumption)

theorem good_countDrop {a0 a1} (h : Good g s) : Good g (countDrop a0 a1 s) := by
  delta countDrop
  refine good_sessEvent ?_
  exact good_inc (by assumption)

theorem good_countPay (h : Good g s) : Good g (countPay s) := by
  delta countPay
  refine good_upd ?_
  assumption

theorem good_payTokens {a0 a1 a2} (h : Good g s) : Good g (payTokens a0 a1 a2 s) := by
  delta payTokens
  exact good_setSess (by assumption)

theorem good_showBuf (h : Good g s) : Good g (showBuf s) := by
  delta showBuf
  refine good_setSat ?_
  exact good_set (by assumption)

theorem good_freeBytes {a0 a1} (h : Good g s) : Good g (freeBytes a0 a1 s) := by
  delta freeBytes
  extract_lets +onlyGivenNames -merge -useContext -underBinder x2_0
  clear_value x2_0
  refine good_showBuf ?_
  refine good_upd ?_
  assumption

theorem good_unref {a0} (h : Good g s) : Good g (unref a0 s) := by
  delta unref
  extract_lets +onlyGivenNames -merge -useContext -underBinder x2_0
  clear_value x2_0
  refine ite_ind ?_ ?_
  · refine good_freeBytes ?_
    exact good_setPay (by assumption)
  · exact good_setPay (by assumption)

theorem good_removeRef {a0 a1} (h : Good g s) : Good g (removeRef a0 a1 s) := by
  delta removeRef
  extract_lets +onlyGivenNames -merge -useContext -underBinder x2_0 x2_1
  clear_value x2_0
  have hx2_1 : Good g x2_1 := by
    exact good_setSess (by assumption)
  clear_value x2_1
  refine good_unref ?_
  exact good_freeBytes (by assumption)

theorem good_dropLink {n t k} (h : Good g s) : Good g (dropLink n t k s) := by
  induction k generalizing s with
  | zero => exact h
  | succ k ih =>
    unfold dropLink
    split
    · exact h
    · split
      · exact h
      · exact ih (good_inc (good_removeRef (good_payTokens h)))

theorem good_dropQueued {a0 a1 a2} (h : Good g s) : Good g (dropQueued a0 a1 a2 s) := by
  delta dropQueued
  extract_lets +onlyGivenNames -merge -useContext -underBinder x2_0 x2_1 x2_2 x2_3
  clear_value x2_0
  have hx2_1 : Good g x2_1 := by
    refine good_countDrop ?_
    exact good_removeRef (by assumption)
  clear_value x2_1 x2_2
  have hx2_3 : Good g x2_3 := by
    refine good_forEach (fun _ _ _ => ?_) ?_
    · refine good_countDrop ?_
      exact good_removeRef (by assumption)
    · assumption
  clear_value x2_3
  refine ite_ind ?_ ?_
  · exact good_setSess (by assumption)
  · assumption

theorem good_enqueueRef {a0 a1 a2 a3 a4} (h : Good g s) : Good g (enqueueRef a0 a1 a2 a3 a4 s) := by
  delta enqueueRef
  refine good_countAge ?_
  exact good_setSess (by assumption)

theorem good_excNext (h : Good g s) : Good g (excNext s) := by
  delta excNext
  exact good_set (by assumption)

theorem good_excSettle {k} (h : Good g s) : Good g (excSettle k s) := by
  induction k generalizing s with
  | zero => exact h
  | succ k ih =>
    unfold excSettle
    split
    · exact ite_ind (ih (good_excNext h)) h
    · exact h

theorem good_startSessions {a0 a1} (h : Good g s) : Good2 g (startSessions a0 a1 s) := by
  delta startSessions
  extract_lets +onlyGivenNames -merge -useContext -underBinder x2_0
  have hx2_0 : Good g x2_0 := by
    refine good_forEach (fun _ _ _ => ?_) ?_
    · refine ite_ind ?_ ?_
      · exact good_setState (by assumption)
      · assumption
    · assumption
  clear_value x2_0
  refine good2_mk ?_
  assumption

theorem good_noteDom {a0 a1} (h : Good g s) : Good g (noteDom a0 a1 s) := by
  delta noteDom
  refine good_forEach (fun _ _ _ => ?_) ?_
  · exact good_setSess (by assumption)
  · assumption

theorem good_newPart (h : Good g s) : Good2 g (newPart s) := by
  delta newPart
  refine good2_mk ?_
  refine good_upd ?_
  assumption

theorem good_startPacket {a0 a1 a2} (h : Good g s) : Good g (startPacket a0 a1 a2 s) := by
  delta startPacket
  split
  · assumption
  · extract_lets +onlyGivenNames -merge -useContext -underBinder x4_0 x4_1 x4_2 x4_3
    clear_value x4_0
    have hx4_1 : Good g x4_1 := by
      refine good_payTokens ?_
      refine good_fresh ?_
      exact good_emit (by assumption)
    clear_value x4_1 x4_2
    have hx4_3 : Good g x4_3 := by
      exact good_setSess (by assumption)
    clear_value x4_3
    refine good_setNet ?_
    exact good_freeBytes (by assumption)

theorem good_pickNext_drr {a0 a1 a3} (h : Good g s) : Good g (pickNext.drr a0 a1 s a3) := by
  delta pickNext.drr
  refine ite_ind ?_ ?_
  · exact good_setNet (by assumption)
  · split
    · refine good_startPacket ?_
      exact good_setNet (by assumption)
    · exact good_setNet (by assumption)

theorem good_pickNext {a0 a1} (h : Good g s) : Good g (pickNext a0 a1 s) := by
  delta pickNext
  extract_lets +onlyGivenNames -merge -useContext -underBinder x2_0 x2_1 x2_2
  have hx2_0 : Good g x2_0 := by
    refine good_forEach (fun _ _ _ => ?_) ?_
    · exact good_ptpSettle (by assumption)
    · assumption
  clear_value x2_0
  have hx2_1 : Good g x2_1 := by
    exact good_excSettle (by assumption)
  clear_value x2_1 x2_2
  refine ite_ind ?_ ?_
  · assumption
  · refine ite_ind ?_ ?_
    · exact good_dropLink (by assumption)
    · split
      · exact good_setNet (by assumption)
      · split
        · refine good_setNet ?_
          exact good_emit (by assumption)
        · refine ite_ind ?_ ?_
          · split
            · rename_i v12_0 v12_1 q12_0
              have hv12_1 : Good g v12_1 := good2_eq q12_0 (by
                exact good_readOpen (by assumption))
              refine good_setNet ?_
              refine good_emit ?_
              exact good_excNext (by assumption)
          · exact good_pickNext_drr (by assumption)
        · exact good_pickNext_drr (by assumption)

theorem good_pickAll {a0} (h : Good g s) : Good g (pickAll a0 s) := by
  delta pickAll
  refine good_forEach (fun _ _ _ => ?_) ?_
  · refine good_forEach (fun _ _ _ => ?_) ?_
    · exact good_pickNext (by assumption)
    · assumption
  · assumption

theorem good_useBytes {a0 a1} (h : Good g s) : Good g (useBytes a0 a1 s) := by
  delta useBytes
  extract_lets +onlyGivenNames -merge -useContext -underBinder x2_0
  clear_value x2_0
  refine ite_ind ?_ ?_
  · refine good_showBuf ?_
    refine good_upd ?_
    assumption
  · extract_lets +onlyGivenNames -merge -useContext -underBinder x4_0
    have hx4_0 : Good g x4_0 := by
      refine good_showBuf ?_
      refine good_upd ?_
      assumption
    clear_value x4_0
    exact good_raiseIf (by assumption)

theorem good_storePay {a0} (h : Good g s) : Good2 g (storePay a0 s) := by
  delta storePay
  split
  · refine good2_mk ?_
    assumption
  · refine good2_mk ?_
    refine good_countPay ?_
    refine good_setPay ?_
    exact good_useBytes (by assumption)

theorem good_takeSeq {a0} (h : Good g s) : Good2 g (takeSeq a0 s) := by
  delta takeSeq
  refine good2_mk ?_
  exact good_inc (by assumption)

theorem good_pushRef {a0 a1 a2 a3} (h : Good g s) : Good g (pushRef a0 a1 a2 a3 s) := by
  delta pushRef
  extract_lets +onlyGivenNames -merge -useContext -underBinder x2_0
  clear_value x2_0
  refine good_enqueueRef ?_
  refine good_addRef ?_
  exact good_useBytes (by assumption)

theorem good_offerRef {a0 a1 a2} (h : Good g s) : Good g (offerRef a0 a1 a2 s) := by
  delta offerRef
  extract_lets +onlyGivenNames -merge -useContext -underBinder x2_0
  clear_value x2_0
  split
  · rename_i v2_0 v2_1 q2_0
    have hv2_1 : Good g v2_1 := good2_eq q2_0 (by
      refine ite_ind ?_ ?_
      · refine good2_mk ?_
        assumption
      · exact good_takeSeq (by assumption))
    refine ite_ind ?_ ?_
    · exact good_countDrop (by assumption)
    · split
      · exact good_pushRef (by assumption)
      · extract_lets +onlyGivenNames -merge -useContext -underBinder x8_0 x8_1
        clear_value x8_0
        have hx8_1 : Good g x8_1 := by
          refine ite_ind ?_ ?_
          · split
            · exact good_dropQueued (by assumption)
            · assumption
          · assumption
        clear_value x8_1
        refine ite_ind ?_ ?_
        · exact good_pushRef (by assumption)
        · refine good_countDrop ?_
          exact good_setSess (by assumption)

theorem good_offerPacket {a0 a1} (h : Good g s) : Good g (offerPacket a0 a1 s) := by
  delta offerPacket
  split
  · rename_i v2_0 q2_0
    have hv2_0 : Good g v2_0 := good2_eq q2_0 (by
      exact good_storePay (by assumption))
    extract_lets +onlyGivenNames -merge -useContext -underBinder x4_0
    have hx4_0 : Good g x4_0 := by
      refine good_raise ?_
      exact good_inc (by assumption)
    clear_value x4_0
    refine good_forEach (fun _ _ _ => ?_) ?_
    · split
      · extract_lets +onlyGivenNames -merge -useContext -underBinder x8_0 x8_1
        have hx8_0 : Good g x8_0 := by
          refine ite_ind ?_ ?_
          · assumption
          · show Good2 g _
            exact good_takeSeq (by assumption)
        clear_value x8_0 x8_1
        refine good_countDrop ?_
        exact good_setSess (by assumption)
    · assumption
  · rename_i v2_0 v2_1 q2_0
    have hv2_1 : Good g v2_1 := good2_eq q2_0 (by
      exact good_storePay (by assumption))
    refine good_unref ?_
    refine good_forEach (fun _ _ _ => ?_) ?_
    · split
      · exact good_offerRef (by assumption)
    · assumption

theorem good_ingestBlock {a0 a1 a2 a3} (h : Good g s) : Good g (ingestBlock a0 a1 a2 a3 s) := by
  delta ingestBlock
  extract_lets +onlyGivenNames -merge -useContext -underBinder x2_0
  clear_value x2_0
  refine ite_ind ?_ ?_
  · assumption
  · split
    · rename_i v4_0 v4_1 q4_0
      have hv4_1 : Good g v4_1 := good2_eq q4_0 (by
        exact good_startSessions (by assumption))
      extract_lets +onlyGivenNames -merge -useContext -underBinder x6_0
      have hx6_0 : Good g x6_0 := by
        exact good_noteDom (by assumption)
      clear_value x6_0
      split
      · rename_i v6_0 v6_1 q6_0
        have hv6_1 : Good g v6_1 := good2_eq q6_0 (by
          exact good_newPart (by assumption))
        extract_lets +onlyGivenNames -merge -useContext -underBinder x8_0
        clear_value x8_0
        refine good_pickAll ?_
        exact good_offerPacket (by assumption)

theorem good_execBlockReady {a0 a1 a2 a3} (h : Good g s) : GoodN g (execBlockReady a0 a1 a2 a3 s) := by
  delta execBlockReady
  split
  · refine goodN_next ?_
    exact good_at (by assumption)
  · rename_i v2_0 v2_1 v2_2 v2_3 q2_0
    have hv2_3 : Good g v2_3 := goodO4_eq q2_0 (by
      refine good_audCapture ?_
      exact good_at (by assumption))
    refine goodN_next ?_
    exact good_ingestBlock (by assumption)

theorem good_execPacketEligible {a0 a1} (h : Good g s) : GoodN g (execPacketEligible a0 a1 s) := by
  delta execPacketEligible
  refine goodN_next ?_
  refine good_pickNext ?_
  exact good_at (by assumption)

theorem good_ingestSegment {a0 a1} (h : Good g s) : Good g (ingestSegment a0 a1 s) := by
  delta ingestSegment
  extract_lets +onlyGivenNames -merge -useContext -underBinder x2_0 x2_1 x2_2
  clear_value x2_0 x2_1 x2_2
  refine ite_ind ?_ ?_
  · assumption
  · split
    · rename_i v4_0 v4_1 q4_0
      have hv4_1 : Good g v4_1 := good2_eq q4_0 (by
        exact good_readOpen (by assumption))
      extract_lets +onlyGivenNames -merge -useContext -underBinder x6_0 x6_1
      clear_value x6_0 x6_1
      refine ite_ind ?_ ?_
      · exact good_set (by assumption)
      · split
        · rename_i v8_0 v8_1 q8_0
          have hv8_1 : Good g v8_1 := good2_eq q8_0 (by
            refine ite_ind ?_ ?_
            · exact good_readOpen (by assumption)
            · refine good2_mk ?_
              assumption)
          extract_lets +onlyGivenNames -merge -useContext -underBinder x10_0 x10_1
          clear_value x10_0 x10_1
          split
          · rename_i v10_0 v10_1 q10_0
            have hv10_1 : Good g v10_1 := good2_eq q10_0 (by
              exact good_readOpen (by assumption))
            extract_lets +onlyGivenNames -merge -useContext -underBinder x12_0
            clear_value x12_0
            split
            · rename_i v12_0 v12_1 q12_0
              have hv12_1 : Good g v12_1 := good2_eq q12_0 (by
                exact good_startSessions (by assumption))
              extract_lets +onlyGivenNames -merge -useContext -underBinder x14_0
              have hx14_0 : Good g x14_0 := by
                exact good_noteDom (by assumption)
              clear_value x14_0
              split
              · rename_i v14_0 v14_1 q14_0
                have hv14_1 : Good g v14_1 := good2_eq q14_0 (by
                  exact good_newPart (by assumption))
                extract_lets +onlyGivenNames -merge -useContext -underBinder x16_0 x16_1
                have hx16_0 : Good g x16_0 := by
                  refine good_forEach (fun _ _ _ => ?_) ?_
                  · extract_lets +onlyGivenNames -merge -useContext -underBinder x20_0 x20_1
                    clear_value x20_0 x20_1
                    refine good_forEach (fun _ _ _ => ?_) ?_
                    · split
                      · exact good_offerPacket (by assumption)
                    · assumption
                  · assumption
                clear_value x16_0
                have hx16_1 : Good g x16_1 := by
                  refine good_forEach (fun _ _ _ => ?_) ?_
                  · exact good_setSess (by assumption)
                  · assumption
                clear_value x16_1
                refine good_pickAll ?_
                exact good_set (by assumption)

theorem good_ingestSlice {a0 a1} (h : Good g s) : Good g (ingestSlice a0 a1 s) := by
  delta ingestSlice
  extract_lets +onlyGivenNames -merge -useContext -underBinder x2_0 x2_1
  clear_value x2_0 x2_1
  refine ite_ind ?_ ?_
  · assumption
  · extract_lets +onlyGivenNames -merge -useContext -underBinder x4_0 x4_1 x4_2
    clear_value x4_0 x4_1
    have hx4_2 : ∀ y0 y1 s, Good g s → Good2 g (x4_2 y0 y1 s) := by
      intro y0 y1 s h
      unfold x4_2
      extract_lets +onlyGivenNames -merge -useContext -underBinder x6_0
      clear_value x6_0
      split
      · rename_i v6_0 v6_1 q6_0
        have hv6_1 : Good g v6_1 := good2_eq q6_0 (by
          exact good_readOpen (by assumption))
        split
        · rename_i v8_0 v8_1 q8_0
          have hv8_1 : Good g v8_1 := good2_eq q8_0 (by
            exact good_readOpen (by assumption))
          refine good2_mk ?_
          assumption
    split
    · rename_i v4_0 v4_1 q4_0
      have hv4_1 : Good g v4_1 := good2_eq q4_0 (by
        refine hx4_2 _ _ _ ?_
        assumption)
      extract_lets +onlyGivenNames -merge -useContext -underBinder x6_0
      clear_value x6_0
      split
      · rename_i v6_0 v6_1 q6_0
        have hv6_1 : Good g v6_1 := good2_eq q6_0 (by
          refine hx4_2 _ _ _ ?_
          assumption)
        extract_lets +onlyGivenNames -merge -useContext -underBinder x8_0 x8_1 x8_2 x8_3 x8_4
        clear_value x8_0 x8_1 x8_2 x8_3 x8_4
        split
        · rename_i v8_0 v8_1 q8_0
          have hv8_1 : Good g v8_1 := good2_eq q8_0 (by
            exact good_startSessions (by assumption))
          extract_lets +onlyGivenNames -merge -useContext -underBinder x10_0 x10_1 x10_2 x10_3
          have hx10_0 : Good g x10_0 := by
            exact good_noteDom (by assumption)
          clear_value x10_0 x10_1 x10_2 x10_3
          split
          · rename_i v10_0 v10_1 q10_0
            have hv10_1 : Good g v10_1 := good2_eq q10_0 (by
              exact good_newPart (by assumption))
            extract_lets +onlyGivenNames -merge -useContext -underBinder x12_0 x12_1
            clear_value x12_0
            have hx12_1 : Good g x12_1 := by
              refine good_forEach (fun _ _ _ => ?_) ?_
              · extract_lets +onlyGivenNames -merge -useContext -underBinder x16_0 x16_1
                clear_value x16_0 x16_1
                refine good_forEach (fun _ _ _ => ?_) ?_
                · split
                  · exact good_offerPacket (by assumption)
                · assumption
              · assumption
            clear_value x12_1
            refine good_pickAll ?_
            refine good_outFreed ?_
            exact good_cset (by assumption)

theorem good_execPktRecordIngest {a0 a1 a2} (h : Good g s) : GoodN g (execPktRecordIngest a0 a1 a2 s) := by
  delta execPktRecordIngest
  refine goodN_next ?_
  refine ite_ind ?_ ?_
  · refine good_ingestSegment ?_
    exact good_at (by assumption)
  · refine good_ingestSlice ?_
    exact good_at (by assumption)

theorem good_sendDone {a0} (h : Good g s) : Good g (sendDone a0 s) := by
  delta sendDone
  extract_lets +onlyGivenNames -merge -useContext -underBinder x2_0 x2_1
  clear_value x2_0
  have hx2_1 : Good g x2_1 := by
    exact good_setNet (by assumption)
  clear_value x2_1
  split
  · refine ite_ind ?_ ?_
    · exact good_unref (by assumption)
    · refine good_unref ?_
      exact good_inc (by assumption)
  · assumption

theorem good_execPktSend {a0 a1} (h : Good g s) : GoodN g (execPktSend a0 a1 s) := by
  delta execPktSend
  split
  · refine goodN_next ?_
    exact good_at (by assumption)
  · refine goodN_next ?_
    refine good_pickAll ?_
    refine good_sendDone ?_
    exact good_at (by assumption)

theorem good_sendReports {a0} (h : Good g s) : Good g (sendReports a0 s) := by
  delta sendReports
  refine ite_ind ?_ ?_
  · assumption
  · refine good_pickAll ?_
    refine good_forEach (fun _ _ _ => ?_) ?_
    · split
      · rename_i v6_0 v6_1 q6_0
        have hv6_1 : Good g v6_1 := good2_eq q6_0 (by
          exact good_newPart (by assumption))
        exact good_offerPacket (by assumption)
    · assumption

theorem good_execSenderReport {a0} (h : Good g s) : GoodN g (execSenderReport a0 s) := by
  delta execSenderReport
  refine goodN_next ?_
  refine good_sendReports ?_
  exact good_at (by assumption)

theorem good_rebase {a0 a1} (h : Good g s) : Good g (rebase a0 a1 s) := by
  delta rebase
  exact good_setSess (by assumption)

theorem good_subscribe {a0} (h : Good g s) : Good g (subscribe a0 s) := by
  delta subscribe
  extract_lets +onlyGivenNames -merge -useContext -underBinder x2_0 x2_1
  clear_value x2_0
  have hx2_1 : Good g x2_1 := by
    exact good_setSess (by assumption)
  clear_value x2_1
  refine good_setState ?_
  exact good_set (by assumption)

theorem good_unsubscribe {a0} (h : Good g s) : Good g (unsubscribe a0 s) := by
  delta unsubscribe
  extract_lets +onlyGivenNames -merge -useContext -underBinder x2_0
  have hx2_0 : Good g x2_0 := by
    refine good_forEach (fun _ _ _ => ?_) ?_
    · exact good_removeRef (by assumption)
    · assumption
  clear_value x2_0
  exact good_setState (by assumption)

theorem good_writeSess {a0 a1 a2 a3} (h : Good g s) : Good g (writeSess a0 a1 a2 a3 s) := by
  delta writeSess
  extract_lets +onlyGivenNames -merge -useContext -underBinder x2_0
  clear_value x2_0
  split
  · refine good_pickAll ?_
    refine good_set ?_
    exact good_rebase (by assumption)
  · refine ite_ind ?_ ?_
    · exact good_logAccess (by assumption)
    · refine good_pickAll ?_
      refine good_set ?_
      exact good_rebase (by assumption)
  · refine ite_ind ?_ ?_
    · exact good_logAccess (by assumption)
    · refine good_set ?_
      exact good_set (by assumption)
  · assumption

theorem good_writeSessCfg {a0 a1 a2} (h : Good g s) : Good g (writeSessCfg a0 a1 a2 s) := by
  delta writeSessCfg
  extract_lets +onlyGivenNames -merge -useContext -underBinder x2_0 x2_1
  clear_value x2_0 x2_1
  refine ite_ind ?_ ?_
  · exact good_logAccess (by assumption)
  · extract_lets +onlyGivenNames -merge -useContext -underBinder x4_0
    have hx4_0 : Good g x4_0 := by
      exact good_set (by assumption)
    clear_value x4_0
    refine ite_ind ?_ ?_
    · exact good_subscribe (by assumption)
    · refine ite_ind ?_ ?_
      · refine good_pickAll ?_
        exact good_unsubscribe (by assumption)
      · exact good_pickAll (by assumption)

end Sys2Proof.Machine
end

