-- ==== Sys2Proof/Laws/KeepDec.lean ====
section
/-! SUPPORT. Every operation of Dec.lean keeps a state good: sound, its queue untouched, nothing sent taken back. -/

namespace Sys2Proof.Machine

variable {g : Ghost} {s : State}

theorem good_setDec {a1 a2} (h : Good g s) : Good g (State.setDec s a1 a2) := by
  delta State.setDec
  refine good_upd_decs ?_
  assumption

theorem good_dset {a0 a1 a2} (h : Good g s) : Good g (dset a0 a1 a2 s) := by
  delta dset
  exact good_set (by assumption)

theorem good_showDpb {a0} (h : Good g s) : Good g (showDpb a0 s) := by
  delta showDpb
  extract_lets +onlyGivenNames -merge -useContext -underBinder x2_0
  have hx2_0 : Good g x2_0 := by
    exact good_dset (by assumption)
  clear_value x2_0
  refine good_forEach (fun _ _ _ => ?_) ?_
  · extract_lets +onlyGivenNames -merge -useContext -underBinder x4_0 x4_1
    clear_value x4_0
    have hx4_1 : ∀ y0 y1 s, Good g s → Good g (x4_1 y0 y1 s) := by
      intro y0 y1 s h
      exact good_dset (by assumption)
    split
    · refine hx4_1 _ _ _ ?_
      refine hx4_1 _ _ _ ?_
      refine hx4_1 _ _ _ ?_
      refine hx4_1 _ _ _ ?_
      refine hx4_1 _ _ _ ?_
      refine hx4_1 _ _ _ ?_
      assumption
    · refine hx4_1 _ _ _ ?_
      refine hx4_1 _ _ _ ?_
      refine hx4_1 _ _ _ ?_
      refine hx4_1 _ _ _ ?_
      refine hx4_1 _ _ _ ?_
      refine hx4_1 _ _ _ ?_
      assumption
  · assumption

theorem good_setEntry {a0 a1 a2} (h : Good g s) : Good g (setEntry a0 a1 a2 s) := by
  delta setEntry
  extract_lets +onlyGivenNames -merge -useContext -underBinder x2_0
  clear_value x2_0
  refine good_showDpb ?_
  exact good_setDec (by assumption)

theorem good_dinc {a0 a1 a2} (h : Good g s) : Good g (dinc a0 a1 a2 s) := by
  delta dinc
  exact good_dset (by assumption)

theorem good_dropEntry {a0 a1} (h : Good g s) : Good g (dropEntry a0 a1 s) := by
  delta dropEntry
  split
  · assumption
  · extract_lets +onlyGivenNames -merge -useContext -underBinder x4_0
    have hx4_0 : Good g x4_0 := by
      exact good_setEntry (by assumption)
    clear_value x4_0
    refine good_dropDec ?_
    refine ite_ind ?_ ?_
    · exact good_loseOwner (by assumption)
    · assumption

theorem good_dropUnused {a0} (h : Good g s) : Good g (dropUnused a0 s) := by
  delta dropUnused
  refine good_forEach (fun _ _ _ => ?_) ?_
  · refine ite_ind ?_ ?_
    · exact good_dropEntry (by assumption)
    · assumption
  · assumption

theorem good_decEvent {a0 a1} (h : Good g s) : Good g (decEvent a0 a1 s) := by
  delta decEvent
  refine good_raise ?_
  exact good_set (by assumption)

theorem good_outputEntry {a0 a1} (h : Good g s) : Good g (outputEntry a0 a1 s) := by
  delta outputEntry
  split
  · assumption
  · extract_lets +onlyGivenNames -merge -useContext -underBinder x4_0 x4_1 x4_2 x4_3
    clear_value x4_0 x4_1 x4_2
    have hx4_3 : Good g x4_3 := by
      exact good_setDec (by assumption)
    clear_value x4_3
    split
    · extract_lets +onlyGivenNames -merge -useContext -underBinder x6_0 x6_1 x6_2 x6_3 x6_4 x6_5 x6_6
      clear_value x6_0
      have hx6_1 : Good g x6_1 := by
        exact good_setBuf (by assumption)
      clear_value x6_1
      have hx6_2 : Good g x6_2 := by
        exact good_completeBuf (by assumption)
      clear_value x6_2
      have hx6_3 : Good g x6_3 := by
        exact good_setEntry (by assumption)
      clear_value x6_3
      have hx6_4 : Good g x6_4 := by
        exact good_dinc (by assumption)
      clear_value x6_4
      have hx6_5 : Good g x6_5 := by
        refine ite_ind ?_ ?_
        · exact good_dinc (by assumption)
        · assumption
      clear_value x6_5
      have hx6_6 : Good g x6_6 := by
        exact good_dset (by assumption)
      clear_value x6_6
      refine good_dropUnused ?_
      exact good_decEvent (by assumption)

theorem good_bump {c keep k} (h : Good g s) : Good g (bump c keep k s) := by
  induction k generalizing s with
  | zero => exact h
  | succ k ih =>
    unfold bump
    refine ite_ind h ?_
    split
    · exact ih (good_outputEntry h)
    · exact h

theorem good_fillArea {a0 a1 a2 a3 a4 a5} (h : Good g s) : Good g (fillArea a0 a1 a2 a3 a4 a5 s) := by
  delta fillArea
  refine good_forEach (fun _ _ _ => ?_) ?_
  · exact good_dramWrite (by assumption)
  · assumption

theorem good_copyArea {a0 a1 a2 a3 a4 a5 a6} (h : Good g s) : Good2 g (copyArea a0 a1 a2 a3 a4 a5 a6 s) := by
  delta copyArea
  extract_lets +onlyGivenNames -merge -useContext -underBinder x2_0 x2_1
  clear_value x2_0 x2_1
  refine ite_ind ?_ ?_
  · refine good2_mk ?_
    exact good_fillArea (by assumption)
  · refine good2_mk ?_
    refine good_forEach (fun _ _ _ => ?_) ?_
    · exact good_dramWrite (by assumption)
    · assumption

theorem good_updDecPic {a0 a1} (h : Good g s) : Good g (updDecPic a0 a1 s) := by
  delta updDecPic
  extract_lets +onlyGivenNames -merge -useContext -underBinder x2_0
  clear_value x2_0
  exact good_setDec (by assumption)

theorem good_concealCtu {a0 a1} (h : Good g s) : Good g (concealCtu a0 a1 s) := by
  delta concealCtu
  split
  · assumption
  · split
    · assumption
    · split
      · extract_lets +onlyGivenNames -merge -useContext -underBinder x8_0 x8_1
        clear_value x8_0 x8_1
        split
        · rename_i v8_0 v8_1 q8_0
          have hv8_1 : Good g v8_1 := good2_eq q8_0 (by
            split
            · exact good_copyArea (by assumption)
            · refine good2_mk ?_
              exact good_fillArea (by assumption))
          extract_lets +onlyGivenNames -merge -useContext -underBinder x10_0
          have hx10_0 : Good g x10_0 := by
            refine ite_ind ?_ ?_
            · assumption
            · exact good_inc (by assumption)
          clear_value x10_0
          exact good_updDecPic (by assumption)

theorem good_concealTo {a0 a1} (h : Good g s) : Good g (concealTo a0 a1 s) := by
  delta concealTo
  split
  · assumption
  · refine ite_ind ?_ ?_
    · assumption
    · extract_lets +onlyGivenNames -merge -useContext -underBinder x6_0
      have hx6_0 : Good g x6_0 := by
        refine good_forEach (fun _ _ _ => ?_) ?_
        · exact good_concealCtu (by assumption)
        · assumption
      clear_value x6_0
      refine good_decEvent ?_
      exact good_updDecPic (by assumption)

theorem good_emptyDpb {a0} (h : Good g s) : Good g (emptyDpb a0 s) := by
  delta emptyDpb
  refine good_forEach (fun _ _ _ => ?_) ?_
  · exact good_dropEntry (by assumption)
  · assumption

theorem good_refreshDec {a0} (h : Good g s) : Good g (refreshDec a0 s) := by
  delta refreshDec
  extract_lets +onlyGivenNames -merge -useContext -underBinder x2_0 x2_1
  have hx2_0 : Good g x2_0 := by
    exact good_set (by assumption)
  clear_value x2_0
  have hx2_1 : Good g x2_1 := by
    exact good_setSat (by assumption)
  clear_value x2_1
  exact good_setState (by assumption)

theorem good_showDec {a0 a1} (h : Good g s) : Good g (showDec a0 a1 s) := by
  delta showDec
  refine good_refreshDec ?_
  exact good_dset (by assumption)

theorem good_decDisable {a0} (h : Good g s) : Good g (decDisable a0 s) := by
  delta decDisable
  extract_lets +onlyGivenNames -merge -useContext -underBinder x2_0 x2_1 x2_2
  clear_value x2_0
  have hx2_1 : Good g x2_1 := by
    refine good_emptyDpb ?_
    exact good_setDec (by assumption)
  clear_value x2_1
  have hx2_2 : Good g x2_2 := by
    refine good_dset ?_
    exact good_setDec (by assumption)
  clear_value x2_2
  refine good_showDec ?_
  refine good_dset ?_
  exact good_dset (by assumption)

theorem good_decEnable {a0} (h : Good g s) : Good g (decEnable a0 s) := by
  delta decEnable
  refine good_showDec ?_
  exact good_setDec (by assumption)

theorem good_requestPli {a0} (h : Good g s) : Good g (requestPli a0 s) := by
  delta requestPli
  refine good_decEvent ?_
  exact good_setDec (by assumption)

theorem good_endPicture {a0} (h : Good g s) : Good g (endPicture a0 s) := by
  delta endPicture
  split
  · assumption
  · split
    · exact good_setDec (by assumption)
    · extract_lets +onlyGivenNames -merge -useContext -underBinder x6_0 x6_1 x6_2 x6_3 x6_4 x6_5 x6_6 x6_7 x6_8 x6_9 x6_10 x6_11 x6_12 x6_13 x6_14
      have hx6_0 : Good g x6_0 := by
        exact good_concealTo (by assumption)
      clear_value x6_0 x6_1 x6_2 x6_3 x6_4 x6_5 x6_6 x6_7 x6_8
      have hx6_9 : Good g x6_9 := by
        exact good_setDec (by assumption)
      clear_value x6_9
      have hx6_10 : Good g x6_10 := by
        exact good_dset (by assumption)
      clear_value x6_10
      have hx6_11 : Good g x6_11 := by
        exact good_dset (by assumption)
      clear_value x6_11
      have hx6_12 : Good g x6_12 := by
        refine ite_ind ?_ ?_
        · refine good_requestPli ?_
          exact good_dset (by assumption)
        · refine ite_ind ?_ ?_
          · exact good_dset (by assumption)
          · assumption
      clear_value x6_12
      have hx6_13 : Good g x6_13 := by
        exact good_showDec (by assumption)
      clear_value x6_13
      have hx6_14 : Good g x6_14 := by
        refine good_forEach (fun _ _ _ => ?_) ?_
        · extract_lets +onlyGivenNames -merge -useContext -underBinder x10_0
          clear_value x10_0
          refine ite_ind ?_ ?_
          · extract_lets +onlyGivenNames -merge -useContext -underBinder x12_0
            clear_value x12_0
            exact good_setEntry (by assumption)
          · split
            · exact good_setEntry (by assumption)
            · exact good_setEntry (by assumption)
        · assumption
      clear_value x6_14
      refine good_refreshDec ?_
      refine good_dropUnused ?_
      refine good_bump ?_
      exact good_dropUnused (by assumption)

theorem good_makeRoom {c k} (h : Good g s) : Good g (makeRoom c k s) := by
  induction k generalizing s with
  | zero => exact h
  | succ k ih =>
    unfold makeRoom
    refine ite_ind h ?_
    split
    · exact ih (good_outputEntry h)
    · exact h

theorem good_skipPicture {a0 a1} (h : Good g s) : Good g (skipPicture a0 a1 s) := by
  delta skipPicture
  extract_lets +onlyGivenNames -merge -useContext -underBinder x2_0
  clear_value x2_0
  exact good_setDec (by assumption)

theorem good_noBuffer {a0 a1} (h : Good g s) : Good g (noBuffer a0 a1 s) := by
  delta noBuffer
  refine good_decEvent ?_
  refine good_skipPicture ?_
  exact good_inc (by assumption)

theorem good_noteRefMissing {a0 a1} (h : Good g s) : Good g (noteRefMissing a0 a1 s) := by
  delta noteRefMissing
  refine good_forEach (fun _ _ _ => ?_) ?_
  · split
    · assumption
    · refine ite_ind ?_ ?_
      · assumption
      · extract_lets +onlyGivenNames -merge -useContext -underBinder x8_0 x8_1
        have hx8_0 : Good g x8_0 := by
          exact good_updDecPic (by assumption)
        clear_value x8_0
        have hx8_1 : Good g x8_1 := by
          exact good_inc (by assumption)
        clear_value x8_1
        refine good_decEvent ?_
        exact good_logError (by assumption)
  · assumption

theorem good_pliRetry {a0 a1} (h : Good g s) : Good g (pliRetry a0 a1 s) := by
  delta pliRetry
  refine ite_ind ?_ ?_
  · exact good_requestPli (by assumption)
  · assumption

theorem good_resetDec {a0} (h : Good g s) : Good g (resetDec a0 s) := by
  delta resetDec
  refine good_forEach (fun _ _ _ => ?_) ?_
  · refine ite_ind ?_ ?_
    · exact good_setDec (by assumption)
    · exact good_decDisable (by assumption)
  · assumption

theorem good_writeCtu {a0 a1 a2 a3} (h : Good g s) : Good g (writeCtu a0 a1 a2 a3 s) := by
  delta writeCtu
  split
  · extract_lets +onlyGivenNames -merge -useContext -underBinder x4_0 x4_1 x4_2 x4_3 x4_4
    clear_value x4_0 x4_1 x4_2 x4_3
    have hx4_4 : Good g x4_4 := by
      refine good_forEach (fun _ _ _ => ?_) ?_
      · exact good_dramWrite (by assumption)
      · assumption
    clear_value x4_4
    refine good_forEach (fun _ _ _ => ?_) ?_
    · refine ite_ind ?_ ?_
      · exact good_dramWrite (by assumption)
      · exact good_dramWrite (by assumption)
    · assumption

theorem good_walk {c k} (h : Good g s) : Good2 g (walk c k s) := by
  induction k generalizing s with
  | zero => exact h
  | succ k ih =>
    unfold walk
    extract_lets +onlyGivenNames -merge -useContext -underBinder rd wr size
    refine ite_ind (good2_mk h) ?_
    extract_lets +onlyGivenNames -merge -useContext -underBinder hdr next
    have hn : ∀ s, Good g s → Good g (next s) := fun s h => good_dset (good_setDec h)
    refine ite_ind (ih (good_dset h)) (ite_ind (good2_mk h) (ite_ind ?_ ?_))
    · exact ih (hn _ (good_setDec (good_inc h)))
    · extract_lets +onlyGivenNames -merge -useContext -underBinder x loss s1 s2
      have h1 : Good g s1 := good_setDec h
      have h2 : Good g s2 := ite_ind (good_dinc h1) h1
      clear_value s1 s2
      split
      · exact ih (hn _ (ite_ind (good_endPicture h2) h2))
      · exact good2_mk h2
      · exact ih (good_setDec (ite_ind (good_endPicture h2) h2))

theorem good_sliceDone {a0 a1 a2 a3 a4} (h : Good g s) : Good g (sliceDone a0 a1 a2 a3 a4 s) := by
  delta sliceDone
  split
  · assumption
  · extract_lets +onlyGivenNames -merge -useContext -underBinder x4_0 x4_1 x4_2 x4_3
    clear_value x4_0
    have hx4_1 : Good g x4_1 := by
      exact good_setDec (by assumption)
    clear_value x4_1
    have hx4_2 : Good g x4_2 := by
      unfold x4_2
      split
      · assumption
      · extract_lets +onlyGivenNames -merge -useContext -underBinder x8_0 x8_1 x8_2 x8_3
        clear_value x8_0 x8_1
        have hx8_2 : Good g x8_2 := by
          refine good_forEach (fun _ _ _ => ?_) ?_
          · exact good_writeCtu (by assumption)
          · assumption
        clear_value x8_2
        have hx8_3 : Good g x8_3 := by
          refine good_forEach (fun _ _ _ => ?_) ?_
          · split
            · assumption
            · refine ite_ind ?_ ?_
              · extract_lets +onlyGivenNames -merge -useContext -underBinder x16_0 x16_1
                clear_value x16_0 x16_1
                refine good_updDecPic ?_
                refine good_fillArea ?_
                exact good_inc (by assumption)
              · assumption
          · assumption
        clear_value x8_3
        exact good_updDecPic (by assumption)
    clear_value x4_2
    have hx4_3 : Good g x4_3 := by
      refine ite_ind ?_ ?_
      · exact good_dinc (by assumption)
      · assumption
    clear_value x4_3
    refine good_refreshDec ?_
    show Good2 g _
    exact good_walk (by assumption)

theorem good_unsupported {a0 a1} (h : Good g s) : Good g (unsupported a0 a1 s) := by
  delta unsupported
  extract_lets +onlyGivenNames -merge -useContext -underBinder x2_0 x2_1 x2_2 x2_3
  clear_value x2_0
  have hx2_1 : Good g x2_1 := by
    refine good_emptyDpb ?_
    exact good_setDec (by assumption)
  clear_value x2_1
  have hx2_2 : Good g x2_2 := by
    exact good_inc (by assumption)
  clear_value x2_2
  have hx2_3 : Good g x2_3 := by
    refine ite_ind ?_ ?_
    · exact good_logError (by assumption)
    · assumption
  clear_value x2_3
  refine good_showDec ?_
  exact good_decEvent (by assumption)

theorem good_startPicture {a0 a1 a2 a3} (h : Good g s) : Good g (startPicture a0 a1 a2 a3 s) := by
  delta startPicture
  refine ite_ind ?_ ?_
  · exact good_unsupported (by assumption)
  · refine ite_ind ?_ ?_
    · refine good_decEvent ?_
      refine good_skipPicture ?_
      exact good_dinc (by assumption)
    · extract_lets +onlyGivenNames -merge -useContext -underBinder x6_0 x6_1 x6_2 x6_3 x6_4
      have hx6_0 : Good g x6_0 := by
        refine ite_ind ?_ ?_
        · exact good_bump (by assumption)
        · assumption
      clear_value x6_0 x6_1
      have hx6_2 : Good g x6_2 := by
        refine ite_ind ?_ ?_
        · assumption
        · refine good_emptyDpb ?_
          exact good_setDec (by assumption)
      clear_value x6_2
      have hx6_3 : Good g x6_3 := by
        unfold x6_3
        split
        · assumption
        · extract_lets +onlyGivenNames -merge -useContext -underBinder x10_0
          clear_value x10_0
          exact good_setDec (by assumption)
      clear_value x6_3
      have hx6_4 : Good g x6_4 := by
        exact good_makeRoom (by assumption)
      clear_value x6_4
      split
      · exact good_noBuffer (by assumption)
      · split
        · rename_i v8_0 q8_0
          have hv8_0 : Good g v8_0 := good2_eq q8_0 (by
            exact good_produceBuf (by assumption))
          exact good_noBuffer (by assumption)
        · rename_i v8_0 v8_1 q8_0
          have hv8_1 : Good g v8_1 := good2_eq q8_0 (by
            exact good_produceBuf (by assumption))
          extract_lets +onlyGivenNames -merge -useContext -underBinder x10_0
          clear_value x10_0
          refine ite_ind ?_ ?_
          · refine good_noBuffer ?_
            exact good_returnBuf (by assumption)
          · extract_lets +onlyGivenNames -merge -useContext -underBinder x12_0 x12_1 x12_2 x12_3
            clear_value x12_0
            have hx12_1 : Good g x12_1 := by
              refine good_claimDec ?_
              refine good_fresh ?_
              exact good_fresh (by assumption)
            clear_value x12_1
            have hx12_2 : Good g x12_2 := by
              exact good_setEntry (by assumption)
            clear_value x12_2 x12_3
            refine good_showDec ?_
            exact good_setDec (by assumption)

theorem good_sliceStart {a0 a1 a2} (h : Good g s) : Good g (sliceStart a0 a1 a2 s) := by
  delta sliceStart
  refine ite_ind ?_ ?_
  · assumption
  · split
    · rename_i v4_0 q4_0
      have hv4_0 : Good g v4_0 := good2_eq q4_0 (by
        exact good_walk (by assumption))
      assumption
    · rename_i v4_0 v4_1 v4_2 q4_0
      have hv4_2 : Good g v4_2 := good2_eq q4_0 (by
        exact good_walk (by assumption))
      extract_lets +onlyGivenNames -merge -useContext -underBinder x6_0 x6_1 x6_2 x6_3
      clear_value x6_0
      have hx6_1 : Good g x6_1 := by
        exact good_setDec (by assumption)
      clear_value x6_1
      have hx6_2 : Good g x6_2 := by
        exact good_dinc (by assumption)
      clear_value x6_2
      have hx6_3 : ∀ s, Good g s → Good g (x6_3 s) := by
        intro s h
        refine good_refreshDec ?_
        show Good2 g _
        exact good_walk (by assumption)
      refine ite_ind ?_ ?_
      · refine hx6_3 _ ?_
        assumption
      · extract_lets +onlyGivenNames -merge -useContext -underBinder x8_0
        clear_value x8_0
        refine ite_ind ?_ ?_
        · refine hx6_3 _ ?_
          assumption
        · extract_lets +onlyGivenNames -merge -useContext -underBinder x10_0 x10_1
          have hx10_0 : Good g x10_0 := by
            refine ite_ind ?_ ?_
            · exact good_endPicture (by assumption)
            · assumption
          clear_value x10_0
          have hx10_1 : Good g x10_1 := by
            refine ite_ind ?_ ?_
            · assumption
            · exact good_startPicture (by assumption)
          clear_value x10_1
          split
          · refine hx6_3 _ ?_
            assumption
          · extract_lets +onlyGivenNames -merge -useContext -underBinder x12_0 x12_1
            have hx12_0 : Good g x12_0 := by
              exact good_noteRefMissing (by assumption)
            clear_value x12_0
            have hx12_1 : Good g x12_1 := by
              exact good_concealTo (by assumption)
            clear_value x12_1
            refine good_refreshDec ?_
            exact good_setDec (by assumption)

theorem good_writeDecCfg {a0 a1 a2} (h : Good g s) : Good g (writeDecCfg a0 a1 a2 s) := by
  delta writeDecCfg
  extract_lets +onlyGivenNames -merge -useContext -underBinder x2_0 x2_1 x2_2 x2_3
  clear_value x2_0 x2_1 x2_2 x2_3
  refine ite_ind ?_ ?_
  · exact good_logAccess (by assumption)
  · extract_lets +onlyGivenNames -merge -useContext -underBinder x4_0
    have hx4_0 : Good g x4_0 := by
      exact good_dset (by assumption)
    clear_value x4_0
    refine ite_ind ?_ ?_
    · exact good_decEnable (by assumption)
    · refine ite_ind ?_ ?_
      · exact good_decDisable (by assumption)
      · assumption

theorem good_writeDecIn {a0 a1 a2} (h : Good g s) : Good g (writeDecIn a0 a1 a2 s) := by
  delta writeDecIn
  extract_lets +onlyGivenNames -merge -useContext -underBinder x2_0
  clear_value x2_0
  refine ite_ind ?_ ?_
  · exact good_logAccess (by assumption)
  · refine ite_ind ?_ ?_
    · exact good_logAccess (by assumption)
    · refine good_refreshDec ?_
      exact good_dset (by assumption)

end Sys2Proof.Machine
end

