-- ==== Sys2Proof/Laws/KeepFlows.lean ====
section
/-! SUPPORT. Every operation of Flows.lean keeps a state good: sound, its queue untouched, nothing sent taken back. -/

namespace Sys2Proof.Machine

variable {g : Ghost} {s : State}

theorem good_setFlow {a1 a2} (h : Good g s) : Good g (State.setFlow s a1 a2) := by
  delta State.setFlow
  refine good_upd_flows ?_
  assumption

theorem good_decAppend {a0 a1} (h : Good g s) : GoodO g (decAppend a0 a1 s) := by
  delta decAppend
  extract_lets +onlyGivenNames -merge -useContext -underBinder x2_0 x2_1 x2_2 x2_3 x2_4 x2_5 x2_6
  clear_value x2_0 x2_1 x2_2 x2_3 x2_4 x2_5 x2_6
  refine ite_ind ?_ ?_
  · exact goodO_none
  · extract_lets +onlyGivenNames -merge -useContext -underBinder x4_0 x4_1 x4_2
    have hx4_0 : Good g x4_0 := by
      refine ite_ind ?_ ?_
      · exact good_dramWrite (by assumption)
      · assumption
    clear_value x4_0 x4_1
    have hx4_2 : Good g x4_2 := by
      exact good_dramWrite (by assumption)
    clear_value x4_2
    refine goodO_some ?_
    refine good_refreshDec ?_
    exact good_dset (by assumption)

theorem good_recordEnd {a0} (h : Good g s) : Good g (recordEnd a0 s) := by
  delta recordEnd
  extract_lets +onlyGivenNames -merge -useContext -underBinder x2_0
  clear_value x2_0
  split
  · assumption
  · extract_lets +onlyGivenNames -merge -useContext -underBinder x4_0
    have hx4_0 : Good g x4_0 := by
      exact good_setFlow (by assumption)
    clear_value x4_0
    split
    · rename_i v4_0 q4_0
      have hv4_0 : Good g v4_0 := goodO_eq q4_0 (by
        exact good_decAppend (by assumption))
      assumption
    · exact good_setFlow (by assumption)

theorem good_flowGap {a0} (h : Good g s) : Good g (flowGap a0 s) := by
  delta flowGap
  exact good_setFlow (by assumption)

theorem good_stampCheck {a0 a1 a2} (h : Good g s) : Good2 g (stampCheck a0 a1 a2 s) := by
  delta stampCheck
  split
  · refine good2_mk ?_
    assumption
  · extract_lets +onlyGivenNames -merge -useContext -underBinder x4_0 x4_1 x4_2 x4_3 x4_4 x4_5 x4_6 x4_7 x4_8
    clear_value x4_0 x4_1 x4_2 x4_3 x4_4
    have hx4_5 : Good g x4_5 := by
      exact good_kset (by assumption)
    clear_value x4_5
    have hx4_6 : Good g x4_6 := by
      exact good_kset (by assumption)
    clear_value x4_6 x4_7
    have hx4_8 : Good g x4_8 := by
      refine ite_ind ?_ ?_
      · refine ite_ind ?_ ?_
        · refine good_setChk ?_
          exact good_kset (by assumption)
        · assumption
      · refine good_logError ?_
        refine good_chkEvent ?_
        exact good_kset (by assumption)
    clear_value x4_8
    refine good2_mk ?_
    refine ite_ind ?_ ?_
    · exact good_chkEvent (by assumption)
    · assumption

theorem good_flowNal {a0 a1 a2 a3 a4 a5} (h : Good g s) : Good g (flowNal a0 a1 a2 a3 a4 a5 s) := by
  delta flowNal
  extract_lets +onlyGivenNames -merge -useContext -underBinder x2_0 x2_1 x2_2 x2_3 x2_4 x2_5
  clear_value x2_0 x2_1 x2_2 x2_3 x2_4
  have hx2_5 : Good g x2_5 := by
    exact good_setFlow (by assumption)
  clear_value x2_5
  split
  · assumption
  · refine ite_ind ?_ ?_
    · assumption
    · split
      · rename_i v6_0 v6_1 q6_0
        have hv6_1 : Good g v6_1 := good2_eq q6_0 (by
          exact good_stampCheck (by assumption))
        extract_lets +onlyGivenNames -merge -useContext -underBinder x8_0
        clear_value x8_0
        exact good_setFlow (by assumption)

theorem good_depacketise {a0 a1 a2} (h : Good g s) : Good g (depacketise a0 a1 a2 s) := by
  delta depacketise
  extract_lets +onlyGivenNames -merge -useContext -underBinder x2_0 x2_1 x2_2 x2_3 x2_4 x2_5 x2_6 x2_7 x2_8 x2_9 x2_10 x2_11 x2_12 x2_13
  clear_value x2_0 x2_1 x2_2 x2_3
  have hx2_4 : Good g x2_4 := by
    unfold x2_4
    split
    · refine ite_ind ?_ ?_
      · exact good_recordEnd (by assumption)
      · assumption
    · assumption
  clear_value x2_4
  have hx2_5 : Good g x2_5 := by
    unfold x2_5
    split
    · exact good_setFlow (by assumption)
    · assumption
  clear_value x2_5 x2_6 x2_7 x2_8 x2_9 x2_10 x2_11
  have hx2_12 : Good g x2_12 := by
    refine ite_ind ?_ ?_
    · exact good_flowGap (by assumption)
    · assumption
  clear_value x2_12
  have hx2_13 : ∀ y0 y1 s, Good g s → Good g (x2_13 y0 y1 s) := by
    intro y0 y1 s h
    unfold x2_13
    extract_lets +onlyGivenNames -merge -useContext -underBinder x4_0
    have hx4_0 : Good g x4_0 := by
      refine good_forEach (fun _ _ _ => ?_) ?_
      · exact good_flowNal (by assumption)
      · assumption
    clear_value x4_0
    refine ite_ind ?_ ?_
    · assumption
    · exact good_recordEnd (by assumption)
  refine ite_ind ?_ ?_
  · assumption
  · refine ite_ind ?_ ?_
    · refine hx2_13 _ _ _ ?_
      assumption
    · refine ite_ind ?_ ?_
      · refine hx2_13 _ _ _ ?_
        assumption
      · refine ite_ind ?_ ?_
        · extract_lets +onlyGivenNames -merge -useContext -underBinder x10_0 x10_1 x10_2 x10_3 x10_4 x10_5 x10_6 x10_7
          clear_value x10_0 x10_1 x10_2 x10_3
          have hx10_4 : Good g x10_4 := by
            refine ite_ind ?_ ?_
            · exact good_flowGap (by assumption)
            · assumption
          clear_value x10_4 x10_5 x10_6 x10_7
          split
          · exact good_flowGap (by assumption)
          · refine ite_ind ?_ ?_
            · refine hx2_13 _ _ _ ?_
              exact good_setFlow (by assumption)
            · exact good_setFlow (by assumption)
        · exact good_flowGap (by assumption)

theorem good_excReceive {a0 a1 a2} (h : Good g s) : Good g (excReceive a0 a1 a2 s) := by
  delta excReceive
  extract_lets +onlyGivenNames -merge -useContext -underBinder x2_0 x2_1
  clear_value x2_0 x2_1
  refine ite_ind ?_ ?_
  · refine good_raise ?_
    exact good_inc (by assumption)
  · extract_lets +onlyGivenNames -merge -useContext -underBinder x4_0 x4_1 x4_2
    clear_value x4_0 x4_1 x4_2
    refine good_raise ?_
    refine good_set ?_
    exact good_dramWrite (by assumption)

theorem good_rxBad {a0} (h : Good g s) : Good g (rxBad a0 s) := by
  delta rxBad
  exact good_inc (by assumption)

theorem good_otherReceive {a0 a1 a2 a3} (h : Good g s) : Good g (otherReceive a0 a1 a2 a3 s) := by
  delta otherReceive
  refine ite_ind ?_ ?_
  · assumption
  · split
    · exact good_rxBad (by assumption)
    · exact good_excReceive (by assumption)
    · assumption

theorem good_execExceptionRx {a0 a1 a2 a3} (h : Good g s) : GoodN g (execExceptionRx a0 a1 a2 a3 s) := by
  delta execExceptionRx
  refine goodN_next ?_
  refine good_otherReceive ?_
  exact good_at (by assumption)

theorem good_flowLeave {a0 a1} (h : Good g s) : Good g (flowLeave a0 a1 s) := by
  delta flowLeave
  extract_lets +onlyGivenNames -merge -useContext -underBinder x2_0
  clear_value x2_0
  split
  · exact good_depacketise (by assumption)
  · exact good_audReceive (by assumption)
  · exact good_excReceive (by assumption)

theorem good_flowRun {f k} (h : Good g s) : Good g (flowRun f k s) := by
  induction k generalizing s with
  | zero => exact h
  | succ k ih =>
    unfold flowRun
    extract_lets +onlyGivenNames -merge -useContext -underBinder x
    split
    · exact h
    · exact ite_ind (ih (good_flowLeave (good_setFlow h))) h

theorem good_flowEvent {a0 a1} (h : Good g s) : Good g (flowEvent a0 a1 s) := by
  delta flowEvent
  refine good_raise ?_
  exact good_set (by assumption)

theorem good_finc {a0 a1} (h : Good g s) : Good g (finc a0 a1 s) := by
  delta finc
  exact good_inc (by assumption)

theorem good_flowLost {a0} (h : Good g s) : Good g (flowLost a0 s) := by
  delta flowLost
  extract_lets +onlyGivenNames -merge -useContext -underBinder x2_0
  clear_value x2_0
  split
  · assumption
  · extract_lets +onlyGivenNames -merge -useContext -underBinder x4_0
    have hx4_0 : Good g x4_0 := by
      refine good_flowGap ?_
      exact good_setFlow (by assumption)
    clear_value x4_0
    refine good_flowEvent ?_
    exact good_finc (by assumption)

theorem good_fset {a0 a1 a2} (h : Good g s) : Good g (fset a0 a1 a2 s) := by
  delta fset
  exact good_set (by assumption)

theorem good_showFlow {a0} (h : Good g s) : Good g (showFlow a0 s) := by
  delta showFlow
  refine good_fset ?_
  exact good_fset (by assumption)

theorem good_flowTimeout {f t k} (h : Good g s) : Good g (flowTimeout f t k s) := by
  induction k generalizing s with
  | zero => exact h
  | succ k ih =>
    unfold flowTimeout
    extract_lets +onlyGivenNames -merge -useContext -underBinder x due
    exact ite_ind (ih (good_flowRun (good_flowLost h))) (good_showFlow h)

theorem good_execFlowLoss {a0 a1} (h : Good g s) : GoodN g (execFlowLoss a0 a1 s) := by
  delta execFlowLoss
  refine goodN_next ?_
  refine good_flowTimeout ?_
  exact good_at (by assumption)

theorem good_flowOverflow {f k} (h : Good g s) : Good g (flowOverflow f k s) := by
  induction k generalizing s with
  | zero => exact h
  | succ k ih =>
    unfold flowOverflow
    extract_lets +onlyGivenNames -merge -useContext -underBinder x
    split
    · exact h
    · exact ite_ind h (ih (good_flowRun (good_finc (good_flowLost h))))

theorem good_flowPlace {a0 a1 a2} (h : Good g s) : Good g (flowPlace a0 a1 a2 s) := by
  delta flowPlace
  extract_lets +onlyGivenNames -merge -useContext -underBinder x2_0 x2_1
  clear_value x2_0 x2_1
  refine ite_ind ?_ ?_
  · extract_lets +onlyGivenNames -merge -useContext -underBinder x4_0
    have hx4_0 : Good g x4_0 := by
      exact good_setFlow (by assumption)
    clear_value x4_0
    refine good_flowRun ?_
    exact good_flowLeave (by assumption)
  · refine ite_ind ?_ ?_
    · exact good_finc (by assumption)
    · refine good_flowOverflow ?_
      exact good_setFlow (by assumption)

theorem good_flowResync {a0} (h : Good g s) : Good g (flowResync a0 s) := by
  delta flowResync
  extract_lets +onlyGivenNames -merge -useContext -underBinder x2_0 x2_1
  clear_value x2_0
  have hx2_1 : Good g x2_1 := by
    refine good_flowGap ?_
    exact good_setFlow (by assumption)
  clear_value x2_1
  refine good_flowEvent ?_
  refine good_showFlow ?_
  exact good_finc (by assumption)

theorem good_flowPacket {a0 a1} (h : Good g s) : Good g (flowPacket a0 a1 s) := by
  delta flowPacket
  extract_lets +onlyGivenNames -merge -useContext -underBinder x2_0
  clear_value x2_0
  refine good_showFlow ?_
  refine good_flowPlace ?_
  refine ite_ind ?_ ?_
  · exact good_flowResync (by assumption)
  · assumption

theorem good_flowReceive {a0 a1 a2 a3} (h : Good g s) : Good g (flowReceive a0 a1 a2 a3 s) := by
  delta flowReceive
  refine ite_ind ?_ ?_
  · assumption
  · split
    · exact good_rxBad (by assumption)
    · extract_lets +onlyGivenNames -merge -useContext -underBinder x6_0
      clear_value x6_0
      exact good_flowPacket (by assumption)
    · assumption

theorem good_execFlowPacket {a0 a1 a2 a3} (h : Good g s) : GoodN g (execFlowPacket a0 a1 a2 a3 s) := by
  delta execFlowPacket
  refine goodN_next ?_
  refine good_flowReceive ?_
  exact good_at (by assumption)

theorem good_portFlows {a0} (h : Good g s) : Good g (portFlows a0 s) := by
  delta portFlows
  refine good_forEach (fun _ _ _ => ?_) ?_
  · exact good_flowResync (by assumption)
  · assumption

theorem good_linkLost {a0 a1} (h : Good g s) : Good g (linkLost a0 a1 s) := by
  delta linkLost
  extract_lets +onlyGivenNames -merge -useContext -underBinder x2_0
  have hx2_0 : Good g x2_0 := by
    refine good_setState ?_
    refine good_set ?_
    exact good_set (by assumption)
  clear_value x2_0
  refine good_pickAll ?_
  refine good_portFlows ?_
  exact good_sendDone (by assumption)

theorem good_netDown {a0} (h : Good g s) : Good g (netDown a0 s) := by
  delta netDown
  refine ite_ind ?_ ?_
  · assumption
  · refine good_logError ?_
    refine good_raise ?_
    refine good_linkLost ?_
    exact good_inc (by assumption)

theorem good_execNetLinkDown {a0 a1} (h : Good g s) : GoodN g (execNetLinkDown a0 a1 s) := by
  delta execNetLinkDown
  refine goodN_next ?_
  refine good_netDown ?_
  exact good_at (by assumption)

theorem good_netUp {a0} (h : Good g s) : Good g (netUp a0 s) := by
  delta netUp
  refine ite_ind ?_ ?_
  · assumption
  · extract_lets +onlyGivenNames -merge -useContext -underBinder x4_0 x4_1
    clear_value x4_0
    have hx4_1 : Good g x4_1 := by
      refine good_setState ?_
      refine good_set ?_
      exact good_set (by assumption)
    clear_value x4_1
    refine good_pickAll ?_
    exact good_raise (by assumption)

theorem good_execNetLinkUp {a0 a1} (h : Good g s) : GoodN g (execNetLinkUp a0 a1 s) := by
  delta execNetLinkUp
  refine goodN_next ?_
  refine good_netUp ?_
  exact good_at (by assumption)

theorem good_netDisable {a0} (h : Good g s) : Good g (netDisable a0 s) := by
  delta netDisable
  refine ite_ind ?_ ?_
  · exact good_linkLost (by assumption)
  · exact good_setState (by assumption)

theorem good_netEnable {a0} (h : Good g s) : Good g (netEnable a0 s) := by
  delta netEnable
  refine ite_ind ?_ ?_
  · exact good_setState (by assumption)
  · assumption

theorem good_writeFlowCfg {a0 a1 a2} (h : Good g s) : Good g (writeFlowCfg a0 a1 a2 s) := by
  delta writeFlowCfg
  extract_lets +onlyGivenNames -merge -useContext -underBinder x2_0 x2_1 x2_2
  clear_value x2_0 x2_1 x2_2
  refine ite_ind ?_ ?_
  · exact good_logAccess (by assumption)
  · refine ite_ind ?_ ?_
    · exact good_logAccess (by assumption)
    · extract_lets +onlyGivenNames -merge -useContext -underBinder x6_0 x6_1
      clear_value x6_0
      have hx6_1 : Good g x6_1 := by
        exact good_fset (by assumption)
      clear_value x6_1
      refine ite_ind ?_ ?_
      · assumption
      · refine good_showFlow ?_
        exact good_setFlow (by assumption)

end Sys2Proof.Machine
end

