-- ==== Sys2Proof/Laws/KeepClocks.lean ====
section
/-! SUPPORT. Every operation of Clocks.lean keeps a state good: sound, its queue untouched, nothing sent taken back. -/

namespace Sys2Proof.Machine

variable {g : Ghost} {s : State}

theorem good_setClk {a1 a2} (h : Good g s) : Good g (State.setClk s a1 a2) := by
  delta State.setClk
  refine good_upd_clocks ?_
  assumption

theorem good_clearSlew {a0} (h : Good g s) : Good g (clearSlew a0 s) := by
  delta clearSlew
  refine good_setS ?_
  exact good_set (by assumption)

theorem good_loadSlew {a0 a1 a2} (h : Good g s) : Good g (loadSlew a0 a1 a2 s) := by
  delta loadSlew
  extract_lets +onlyGivenNames -merge -useContext -underBinder x2_0 x2_1
  clear_value x2_0
  have hx2_1 : Good g x2_1 := by
    exact good_setClk (by assumption)
  clear_value x2_1
  exact good_set (by assumption)

theorem good_dropSlew {a0 a1} (h : Good g s) : Good g (dropSlew a0 a1 s) := by
  delta dropSlew
  refine good_set ?_
  exact good_setClk (by assumption)

theorem good_applyTime {a0 a1} (h : Good g s) : Good g (applyTime a0 a1 s) := by
  delta applyTime
  extract_lets +onlyGivenNames -merge -useContext -underBinder x2_0 x2_1 x2_2 x2_3 x2_4 x2_5 x2_6
  have hx2_0 : Good g x2_0 := by
    exact good_applyGroup (by assumption)
  clear_value x2_0 x2_1
  have hx2_2 : Good g x2_2 := by
    exact good_setClk (by assumption)
  clear_value x2_2 x2_3
  have hx2_4 : Good g x2_4 := by
    refine ite_ind ?_ ?_
    · assumption
    · refine good_clearSlew ?_
      exact good_loadSlew (by assumption)
  clear_value x2_4 x2_5
  have hx2_6 : Good g x2_6 := by
    refine ite_ind ?_ ?_
    · exact good_setState (by assumption)
    · refine ite_ind ?_ ?_
      · refine good_setState ?_
        refine good_set ?_
        refine good_setDom ?_
        exact good_dropSlew (by assumption)
      · assumption
  clear_value x2_6
  exact good_commitDone (by assumption)

theorem good_toTracking {a0} (h : Good g s) : Good g (toTracking a0 s) := by
  delta toTracking
  extract_lets +onlyGivenNames -merge -useContext -underBinder x2_0 x2_1
  clear_value x2_0
  have hx2_1 : Good g x2_1 := by
    refine good_setDom ?_
    exact good_setState (by assumption)
  clear_value x2_1
  refine ite_ind ?_ ?_
  · exact good_commitReject (by assumption)
  · assumption

theorem good_asymClear {a0 a1} (h : Good g s) : Good g (asymClear a0 a1 s) := by
  delta asymClear
  extract_lets +onlyGivenNames -merge -useContext -underBinder x2_0
  have hx2_0 : Good g x2_0 := by
    refine good_loadSlew ?_
    exact good_set (by assumption)
  clear_value x2_0
  refine good_raise ?_
  exact good_toTracking (by assumption)

theorem good_crossCheck {a0 a1} (h : Good g s) : Good2 g (crossCheck a0 a1 s) := by
  delta crossCheck
  extract_lets +onlyGivenNames -merge -useContext -underBinder x2_0 x2_1
  clear_value x2_0 x2_1
  refine good2_mk ?_
  exact good_setSat (by assumption)

theorem good_timeBoundary {a0 a1} (h : Good g s) : Good g (timeBoundary a0 a1 s) := by
  delta timeBoundary
  extract_lets +onlyGivenNames -merge -useContext -underBinder x2_0
  refine ite_ind ?_ ?_
  · assumption
  · refine ite_ind ?_ ?_
    · exact good_commitDefer (by assumption)
    · exact good_applyTime (by assumption)

theorem good_newInterval {a0} (h : Good g s) : Good g (newInterval a0 s) := by
  delta newInterval
  extract_lets +onlyGivenNames -merge -useContext -underBinder x2_0
  clear_value x2_0
  exact good_setDom (by assumption)

theorem good_takeMeasures {a0} (h : Good g s) : Good g (takeMeasures a0 s) := by
  delta takeMeasures
  extract_lets +onlyGivenNames -merge -useContext -underBinder x2_0 x2_1
  clear_value x2_0
  have hx2_1 : Good g x2_1 := by
    refine ite_ind ?_ ?_
    · assumption
    · exact good_set (by assumption)
  clear_value x2_1
  refine ite_ind ?_ ?_
  · assumption
  · exact good_set (by assumption)

theorem good_freezeSlew {a0 a1 a2} (h : Good g s) : Good g (freezeSlew a0 a1 a2 s) := by
  delta freezeSlew
  exact good_setClk (by assumption)

theorem good_judgeInterval {a0 a1} (h : Good g s) : Good g (judgeInterval a0 a1 s) := by
  delta judgeInterval
  extract_lets +onlyGivenNames -merge -useContext -underBinder x2_0 x2_1 x2_2
  have hx2_0 : Good g x2_0 := by
    assumption
  clear_value x2_0 x2_1
  have hx2_2 : Good g x2_2 := by
    refine good_newInterval ?_
    exact good_takeMeasures (by assumption)
  clear_value x2_2
  split
  · refine ite_ind ?_ ?_
    · extract_lets +onlyGivenNames -merge -useContext -underBinder x6_0 x6_1
      clear_value x6_0
      have hx6_1 : Good g x6_1 := by
        exact good_setDom (by assumption)
      clear_value x6_1
      refine good_raise ?_
      refine good_setState ?_
      refine good_dropSlew ?_
      exact good_inc (by assumption)
    · refine ite_ind ?_ ?_
      · extract_lets +onlyGivenNames -merge -useContext -underBinder x8_0 x8_1
        clear_value x8_0
        have hx8_1 : Good g x8_1 := by
          exact good_setDom (by assumption)
        clear_value x8_1
        refine good_raise ?_
        refine good_setState ?_
        refine good_freezeSlew ?_
        exact good_inc (by assumption)
      · assumption
  · refine ite_ind ?_ ?_
    · exact good_setDom (by assumption)
    · assumption
  · refine ite_ind ?_ ?_
    · refine ite_ind ?_ ?_
      · assumption
      · split
        · rename_i v8_0 v8_1 q8_0
          have hv8_1 : Good g v8_1 := good2_eq q8_0 (by
            exact good_crossCheck (by assumption))
          refine ite_ind ?_ ?_
          · exact good_asymClear (by assumption)
          · assumption
    · refine ite_ind ?_ ?_
      · refine good_raise ?_
        refine good_toTracking ?_
        exact good_freezeSlew (by assumption)
      · assumption
  · exact good_setDom (by assumption)

theorem good_domIntervalEnd {a0 a1} (h : Good g s) : Good g (domIntervalEnd a0 a1 s) := by
  delta domIntervalEnd
  refine good_timeBoundary ?_
  refine ite_ind ?_ ?_
  · exact good_judgeInterval (by assumption)
  · assumption

theorem good_holdEnds {a0 a1} (h : Good g s) : Good g (holdEnds a0 a1 s) := by
  delta holdEnds
  refine ite_ind ?_ ?_
  · assumption
  · refine ite_ind ?_ ?_
    · refine good_raise ?_
      refine good_setState ?_
      exact good_setDom (by assumption)
    · extract_lets +onlyGivenNames -merge -useContext -underBinder x6_0
      have hx6_0 : ∀ s, Good g s → Good g (x6_0 s) := by
        intro s h
        refine good_raise ?_
        refine good_toTracking ?_
        exact good_loadSlew (by assumption)
      refine ite_ind ?_ ?_
      · refine hx6_0 _ ?_
        assumption
      · split
        · rename_i v8_0 v8_1 q8_0
          have hv8_1 : Good g v8_1 := good2_eq q8_0 (by
            exact good_crossCheck (by assumption))
          refine ite_ind ?_ ?_
          · refine good_raise ?_
            refine good_setState ?_
            exact good_set (by assumption)
          · refine hx6_0 _ ?_
            assumption

theorem good_execHoldEnd {a0 a1} (h : Good g s) : GoodN g (execHoldEnd a0 a1 s) := by
  delta execHoldEnd
  refine goodN_next ?_
  refine good_holdEnds ?_
  exact good_at (by assumption)

theorem good_execMeasurementInterval {a0 a1} (h : Good g s) : GoodN g (execMeasurementInterval a0 a1 s) := by
  delta execMeasurementInterval
  refine goodN_next ?_
  refine good_domIntervalEnd ?_
  exact good_at (by assumption)

theorem good_ppsInEdge {a0} (h : Good g s) : Good g (ppsInEdge a0 s) := by
  delta ppsInEdge
  refine ite_ind ?_ ?_
  · assumption
  · extract_lets +onlyGivenNames -merge -useContext -underBinder x4_0 x4_1 x4_2
    have hx4_0 : Good g x4_0 := by
      unfold x4_0
      refine good_upd ?_
      assumption
    clear_value x4_0
    have hx4_1 : ∀ y0 y1 y2 y3 s, Good g s → Good g (x4_1 y0 y1 y2 y3 s) := by
      intro y0 y1 y2 y3 s h
      unfold x4_1
      extract_lets +onlyGivenNames -merge -useContext -underBinder x6_0
      clear_value x6_0
      refine good_set ?_
      exact good_set (by assumption)
    have hx4_2 : Good g x4_2 := by
      refine good_forEach (fun _ _ _ => ?_) ?_
      · refine hx4_1 _ _ _ _ _ ?_
        assumption
      · assumption
    clear_value x4_2
    refine good_raise ?_
    refine hx4_1 _ _ _ _ _ ?_
    assumption

theorem good_execPpsIn {a0} (h : Good g s) : GoodN g (execPpsIn a0 s) := by
  delta execPpsIn
  refine goodN_next ?_
  refine good_ppsInEdge ?_
  exact good_at (by assumption)

theorem good_ppsOutRise {a0} (h : Good g s) : Good g (ppsOutRise a0 s) := by
  delta ppsOutRise
  refine ite_ind ?_ ?_
  · assumption
  · refine good_upd ?_
    assumption

theorem good_execPpsOutEdge {a0} (h : Good g s) : GoodN g (execPpsOutEdge a0 s) := by
  delta execPpsOutEdge
  refine goodN_next ?_
  refine good_ppsOutRise ?_
  exact good_at (by assumption)

theorem good_ppsOutFall (h : Good g s) : Good g (ppsOutFall s) := by
  delta ppsOutFall
  refine good_upd ?_
  assumption

theorem good_execPpsOutEnd {a0} (h : Good g s) : GoodN g (execPpsOutEnd a0 s) := by
  delta execPpsOutEnd
  refine goodN_next ?_
  refine good_ppsOutFall ?_
  exact good_at (by assumption)

theorem good_ptpArrives {a0 a1 a2 a3} (h : Good g s) : Good g (ptpArrives a0 a1 a2 a3 s) := by
  delta ptpArrives
  refine ite_ind ?_ ?_
  · assumption
  · split
    · exact good_rxBad (by assumption)
    · exact good_ptpReceive (by assumption)
    · assumption

theorem good_execPtpRx {a0 a1 a2 a3} (h : Good g s) : GoodN g (execPtpRx a0 a1 a2 a3 s) := by
  delta execPtpRx
  refine goodN_next ?_
  refine good_ptpArrives ?_
  exact good_at (by assumption)

theorem good_ptpLeaves {a0 a1} (h : Good g s) : Good g (ptpLeaves a0 a1 s) := by
  delta ptpLeaves
  split
  · refine good_ptpDepart ?_
    exact good_setNet (by assumption)
  · assumption

theorem good_execPtpTxDepart {a0 a1} (h : Good g s) : GoodN g (execPtpTxDepart a0 a1 s) := by
  delta execPtpTxDepart
  refine goodN_next ?_
  refine good_ptpLeaves ?_
  exact good_at (by assumption)

theorem good_slewDone {a0 a1} (h : Good g s) : Good g (slewDone a0 a1 s) := by
  delta slewDone
  refine ite_ind ?_ ?_
  · refine good_raise ?_
    refine good_set ?_
    exact good_setClk (by assumption)
  · assumption

theorem good_execSlewDone {a0 a1} (h : Good g s) : GoodN g (execSlewDone a0 a1 s) := by
  delta execSlewDone
  refine goodN_next ?_
  refine good_slewDone ?_
  exact good_at (by assumption)

theorem good_refreshPps (h : Good g s) : Good g (refreshPps s) := by
  delta refreshPps
  refine ite_ind ?_ ?_
  · exact good_ppsOutFall (by assumption)
  · assumption

theorem good_showTime {a0 a1} (h : Good g s) : Good g (showTime a0 a1 s) := by
  delta showTime
  extract_lets +onlyGivenNames -merge -useContext -underBinder x2_0 x2_1 x2_2
  clear_value x2_0 x2_1 x2_2
  refine good_set ?_
  exact good_set (by assumption)

theorem good_snapClocks {a0} (h : Good g s) : Good g (snapClocks a0 s) := by
  delta snapClocks
  extract_lets +onlyGivenNames -merge -useContext -underBinder x2_0 x2_1
  have hx2_0 : ∀ y0 y1 y2 y3 y4 y5 s, Good g s → Good g (x2_0 y0 y1 y2 y3 y4 y5 s) := by
    intro y0 y1 y2 y3 y4 y5 s h
    unfold x2_0
    extract_lets +onlyGivenNames -merge -useContext -underBinder x4_0
    clear_value x4_0
    refine good_set ?_
    refine good_set ?_
    refine good_set ?_
    exact good_set (by assumption)
  have hx2_1 : Good g x2_1 := by
    refine good_forEach (fun _ _ _ => ?_) ?_
    · refine hx2_0 _ _ _ _ _ _ _ ?_
      assumption
    · assumption
  clear_value x2_1
  refine hx2_0 _ _ _ _ _ _ _ ?_
  assumption

theorem good_stepClock {a0 a1} (h : Good g s) : Good g (stepClock a0 a1 s) := by
  delta stepClock
  extract_lets +onlyGivenNames -merge -useContext -underBinder x2_0 x2_1 x2_2 x2_3 x2_4
  clear_value x2_0
  have hx2_1 : Good g x2_1 := by
    exact good_setClk (by assumption)
  clear_value x2_1 x2_2
  have hx2_3 : Good g x2_3 := by
    refine good_setDom ?_
    exact good_setState (by assumption)
  clear_value x2_3
  have hx2_4 : Good g x2_4 := by
    refine good_raise ?_
    exact good_set (by assumption)
  clear_value x2_4
  split
  · refine ite_ind ?_ ?_
    · exact good_trigReached (by assumption)
    · assumption
  · assumption

theorem good_writeTimeCmd {a0 a1 a2} (h : Good g s) : Good g (writeTimeCmd a0 a1 a2 s) := by
  delta writeTimeCmd
  extract_lets +onlyGivenNames -merge -useContext -underBinder x2_0 x2_1
  have hx2_0 : Good g x2_0 := by
    refine ite_ind ?_ ?_
    · assumption
    · refine ite_ind ?_ ?_
      · exact good_logAccess (by assumption)
      · exact good_stepClock (by assumption)
  clear_value x2_0
  have hx2_1 : Good g x2_1 := by
    refine ite_ind ?_ ?_
    · assumption
    · refine ite_ind ?_ ?_
      · exact good_asymClear (by assumption)
      · exact good_logAccess (by assumption)
  clear_value x2_1
  refine ite_ind ?_ ?_
  · exact good_snapClocks (by assumption)
  · assumption

theorem good_writeTimelCmd {a0 a1} (h : Good g s) : Good g (writeTimelCmd a0 a1 s) := by
  delta writeTimelCmd
  extract_lets +onlyGivenNames -merge -useContext -underBinder x2_0
  have hx2_0 : Good g x2_0 := by
    refine ite_ind ?_ ?_
    · exact good_logAccess (by assumption)
    · assumption
  clear_value x2_0
  refine ite_ind ?_ ?_
  · exact good_snapClocks (by assumption)
  · assumption

end Sys2Proof.Machine
end

