-- ==== Sys2Proof/Laws/KeepSec.lean ====
section
/-! SUPPORT. Every operation of Sec.lean keeps a state good: sound, its queue untouched, nothing sent taken back. -/

namespace Sys2Proof.Machine

variable {g : Ghost} {s : State}

theorem pageKey_eq (b : Block) (n : Nat) : pageKey b n = blkBase b / 0x1000 + n * blkPages b := by
  have h : blkBase b = blkBase b / 0x1000 * 0x1000 := by cases b <;> rfl
  simp only [pageKey, winBase]
  rw [h, ← Nat.mul_assoc, ← Nat.add_mul, Nat.mul_div_cancel _ (by decide), Nat.mul_div_cancel _ (by decide)]

theorem allPages_rise : allPages.Pairwise (fun x y => pageKey x.1 x.2 < pageKey y.1 y.2) := by
  rw [allPages, List.pairwise_flatMap]
  constructor
  · intro b _
    rw [List.pairwise_map]
    refine (List.pairwise_lt_range (n := blkCount b)).imp (fun {n m} h => ?_)
    have hp : 0 < blkPages b := by cases b <;> decide
    simp only [pageKey_eq]
    have := Nat.mul_lt_mul_of_pos_right h hp
    omega
  · have hb : allBlocks.Pairwise (fun b c => blkBase b / 0x1000 + blkCount b * blkPages b ≤ blkBase c / 0x1000) := by decide
    refine hb.imp (fun {b c} h x hx y hy => ?_)
    obtain ⟨n, hn, rfl⟩ := List.mem_map.1 hx
    obtain ⟨m, hm, rfl⟩ := List.mem_map.1 hy
    have hn := List.mem_range.1 hn
    have hp : 0 < blkPages b := by cases b <;> decide
    have := Nat.mul_lt_mul_of_pos_right hn hp
    simp only [pageKey_eq]
    omega

theorem sorted_filterMap {α β : Type} {l : List α} {k : α → Nat} {f : α → Option (Nat × β)}
    (hl : l.Pairwise (fun x y => k x < k y)) (hf : ∀ a e, f a = some e → e.1 = k a) : Tbl.sorted (l.filterMap f) = true := by
  rw [tbl_sorted_iff_pairwise, List.pairwise_filterMap]
  refine hl.imp (fun {a b} h x hx y hy => ?_)
  rw [hf a x hx, hf b y hy]
  exact h

theorem good_mapHeaders {g s} {f : Block → Nat → Header → Header} (hf : ∀ b n h, HdrOk h → HdrOk (f b n h)) (h : Good g s) :
    Good g (mapHeaders f s) := by
  refine { h with hdrs := ⟨sorted_filterMap allPages_rise (fun x e he => ?_), fun e he => ?_⟩ }
  · obtain ⟨b, n⟩ := x
    simp only at he
    split at he
    · cases he
    · cases he; rfl
  · obtain ⟨⟨b, n⟩, -, he⟩ := List.mem_filterMap.1 he
    simp only at he
    split at he
    · cases he
    · cases he; exact hf _ _ _ (hdrOk_hdr h.hdrs)

theorem rightsWord_hosts {a b c d : Nat} (ha : a < 16) (hb : b < 16) (hc : c < 16) (hd : d < 16) :
    bitsOf (rightsWord a b c d) 4 4 = bitsOf (rightsWord a b c d) 8 4 := by
  simp only [bitsOf, rightsWord, BitVec.toNat_ofNat, Nat.reducePow]
  generalize hx : a + 16 * b + 256 * c + 4096 * 7 + 65536 * d = x
  have e : (16 * a + 256 * a + 4096 * b + 65536 * c + 1048576 * 7 + 16777216 * d) % 4294967296 = 16 * a + 256 * x := by omega
  have e1 : (16 * a + 256 * x) / 16 = a + 16 * x := by omega
  have e2 : (16 * a + 256 * x) / 256 = x := by omega
  rw [e, e1, e2]
  omega

theorem good_applyRights {g s a0} (h : Good g s) : Good g (applyRights a0 s) := by
  refine good_mapHeaders (fun b n h k => ?_) h
  have hl : ∀ e ∈ rightsEntries a0, e.host < 8 ∧ e.svc < 8 ∧ e.net < 8 := by
    intro e he
    obtain ⟨i, -, rfl⟩ := List.mem_map.1 he
    exact ⟨Nat.mod_lt _ (by decide), Nat.mod_lt _ (by decide), Nat.mod_lt _ (by decide)⟩
  generalize rightsEntries a0 = l at hl ⊢
  induction l generalizing h with
  | nil => exact k
  | cons e t ih =>
    refine ih _ ?_ (fun e he => hl e (List.mem_cons_of_mem _ he))
    have := hl e (List.mem_cons_self ..)
    have hd : bitsOf h.rights 24 4 < 16 := Nat.mod_lt _ (by decide)
    refine ite_ind (P := HdrOk) ?_ ?_
    · exact ⟨rightsWord_hosts (by omega) (by omega) (by omega) hd, k.outcome, k.lost, k.owner⟩
    · exact k

theorem good_beginHandover (h : Good g s) : Good g (beginHandover s) := by
  delta beginHandover
  extract_lets +onlyGivenNames -merge -useContext -underBinder x2_0 x2_1 x2_2 x2_3 x2_4
  clear_value x2_0 x2_1
  have hx2_2 : Good g x2_2 := by
    exact good_dramWrite (by assumption)
  clear_value x2_2 x2_3
  have hx2_4 : Good g x2_4 := by
    unfold x2_4
    refine good_upd ?_
    assumption
  clear_value x2_4
  refine good_setState ?_
  exact good_set (by assumption)

theorem good_setTrial {a0 a1} (h : Good g s) : Good g (setTrial a0 a1 s) := by
  delta setTrial
  refine good_upd ?_
  assumption

theorem good_setPref {a0 a1} (h : Good g s) : Good g (setPref a0 a1 s) := by
  delta setPref
  refine good_upd ?_
  assumption

theorem good_cmdActivate {a0} (h : Good g s) : Good2 g (cmdActivate a0 s) := by
  delta cmdActivate
  extract_lets +onlyGivenNames -merge -useContext -underBinder x2_0
  clear_value x2_0
  refine ite_ind ?_ ?_
  · refine good2_mk ?_
    assumption
  · refine ite_ind ?_ ?_
    · refine good2_mk ?_
      assumption
    · refine ite_ind ?_ ?_
      · refine good2_mk ?_
        exact good_beginHandover (by assumption)
      · refine good2_mk ?_
        refine good_setTrial ?_
        exact good_setPref (by assumption)

theorem good_cmdAdvance {a0} (h : Good g s) : Good2 g (cmdAdvance a0 s) := by
  delta cmdAdvance
  refine ite_ind ?_ ?_
  · refine good2_mk ?_
    assumption
  · refine ite_ind ?_ ?_
    · refine good2_mk ?_
      assumption
    · split
      · refine good2_mk ?_
        assumption
      · refine good2_mk ?_
        refine good_upd ?_
        assumption

theorem good_cmdAttest {a0 a1} (h : Good g s) : Good2 g (cmdAttest a0 a1 s) := by
  delta cmdAttest
  refine ite_ind ?_ ?_
  · refine good2_mk ?_
    assumption
  · refine ite_ind ?_ ?_
    · refine good2_mk ?_
      assumption
    · split
      · rename_i v6_0 v6_1 q6_0
        have hv6_1 : Good g v6_1 := good2_eq q6_0 (by
          exact good_readOpen (by assumption))
        refine good2_mk ?_
        exact good_dramWrite (by assumption)

theorem good_cmdChallenge {a0} (h : Good g s) : Good2 g (cmdChallenge a0 s) := by
  delta cmdChallenge
  refine ite_ind ?_ ?_
  · refine good2_mk ?_
    assumption
  · refine ite_ind ?_ ?_
    · refine good2_mk ?_
      assumption
    · extract_lets +onlyGivenNames -merge -useContext -underBinder x6_0 x6_1 x6_2
      clear_value x6_0 x6_1
      have hx6_2 : Good g x6_2 := by
        unfold x6_2
        refine good_upd ?_
        assumption
      clear_value x6_2
      refine good2_mk ?_
      refine good_dramWrite ?_
      exact good_fresh (by assumption)

theorem good_cmdConfirm {a0} (h : Good g s) : Good2 g (cmdConfirm a0 s) := by
  delta cmdConfirm
  refine ite_ind ?_ ?_
  · refine good2_mk ?_
    assumption
  · split
    · refine good2_mk ?_
      assumption
    · refine good2_mk ?_
      refine good_setTrial ?_
      exact good_setPref (by assumption)

theorem good_cmdDone {a0} (h : Good g s) : Good g (cmdDone a0 s) := by
  delta cmdDone
  refine good_raise ?_
  exact good_set (by assumption)

theorem good_cmdImage {a0} (h : Good g s) : Good2 g (cmdImage a0 s) := by
  delta cmdImage
  split
  · rename_i v2_0 v2_1 q2_0
    have hv2_1 : Good g v2_1 := good2_eq q2_0 (by
      exact good_readOpen (by assumption))
    refine ite_ind ?_ ?_
    · refine good2_mk ?_
      assumption
    · split
      · rename_i v6_0 v6_1 q6_0
        have hv6_1 : Good g v6_1 := good2_eq q6_0 (by
          exact good_readOpen (by assumption))
        refine good2_mk ?_
        assumption

theorem good_cmdEnroll {a0} (h : Good g s) : Good2 g (cmdEnroll a0 s) := by
  delta cmdEnroll
  refine ite_ind ?_ ?_
  · refine good2_mk ?_
    assumption
  · split
    · rename_i v4_0 v4_1 q4_0
      have hv4_1 : Good g v4_1 := good2_eq q4_0 (by
        exact good_cmdImage (by assumption))
      extract_lets +onlyGivenNames -merge -useContext -underBinder x6_0
      clear_value x6_0
      refine ite_ind ?_ ?_
      · refine good2_mk ?_
        assumption
      · refine ite_ind ?_ ?_
        · refine good2_mk ?_
          assumption
        · refine ite_ind ?_ ?_
          · refine good2_mk ?_
            assumption
          · refine good2_mk ?_
            refine good_upd ?_
            assumption

theorem good_cmdIdentity {a0} (h : Good g s) : Good2 g (cmdIdentity a0 s) := by
  delta cmdIdentity
  refine ite_ind ?_ ?_
  · refine good2_mk ?_
    assumption
  · refine good2_mk ?_
    exact good_dramWrite (by assumption)

theorem good_putEntry {a0} (h : Good g s) : Good g (putEntry a0 s) := by
  delta putEntry
  extract_lets +onlyGivenNames -merge -useContext -underBinder x2_0 x2_1
  clear_value x2_1
  refine good_upd ?_
  assumption

theorem good_loadProfile {a0 a1} (h : Good g s) : Good g (loadProfile a0 a1 s) := by
  delta loadProfile
  split
  · assumption
  · extract_lets +onlyGivenNames -merge -useContext -underBinder x4_0 x4_1
    clear_value x4_0
    have hx4_1 : Good g x4_1 := by
      unfold x4_1
      refine good_upd_profiles ?_
      assumption
    clear_value x4_1
    refine good_putEntry ?_
    exact good_set (by assumption)

theorem good_loadBundle {a0 a1} (h : Good g s) : Good g (loadBundle a0 a1 s) := by
  delta loadBundle
  extract_lets +onlyGivenNames -merge -useContext -underBinder x2_0 x2_1
  clear_value x2_0
  have hx2_1 : Good g x2_1 := by
    exact good_dramWrite (by assumption)
  clear_value x2_1
  refine good_putEntry ?_
  exact good_set (by assumption)

theorem good_cmdLoad {a0} (h : Good g s) : Good2 g (cmdLoad a0 s) := by
  delta cmdLoad
  split
  · rename_i v2_0 v2_1 q2_0
    have hv2_1 : Good g v2_1 := good2_eq q2_0 (by
      exact good_cmdImage (by assumption))
    extract_lets +onlyGivenNames -merge -useContext -underBinder x4_0 x4_1
    clear_value x4_0 x4_1
    refine ite_ind ?_ ?_
    · refine good2_mk ?_
      assumption
    · refine ite_ind ?_ ?_
      · refine good2_mk ?_
        assumption
      · refine ite_ind ?_ ?_
        · refine good2_mk ?_
          assumption
        · refine ite_ind ?_ ?_
          · refine good2_mk ?_
            assumption
          · extract_lets +onlyGivenNames -merge -useContext -underBinder x12_0
            have hx12_0 : Good g x12_0 := by
              refine ite_ind ?_ ?_
              · exact good_loadProfile (by assumption)
              · refine ite_ind ?_ ?_
                · exact good_loadBundle (by assumption)
                · refine good_putEntry ?_
                  exact good_applyRights (by assumption)
            clear_value x12_0
            refine good2_mk ?_
            refine good_upd ?_
            assumption

theorem rights_withBits {v : Word} {x : Nat} : bitsOf (withBits v 24 4 x) 4 4 = bitsOf v 4 4 ∧ bitsOf (withBits v 24 4 x) 8 4 = bitsOf v 8 4 :=
  ⟨bitsOf_withBits_other (by decide) (by decide), bitsOf_withBits_other (by decide) (by decide)⟩

theorem good_writeDebugRights {g s a0} (h : Good g s) : Good g (writeDebugRights a0 s) :=
  good_mapHeaders (fun _ _ _ k => ⟨by rw [rights_withBits.1, rights_withBits.2]; exact k.hosts, k.outcome, k.lost, k.owner⟩) h

theorem good_cmdUnlock {a0} (h : Good g s) : Good2 g (cmdUnlock a0 s) := by
  delta cmdUnlock
  refine ite_ind ?_ ?_
  · refine good2_mk ?_
    assumption
  · split
    · rename_i v4_0 v4_1 q4_0
      have hv4_1 : Good g v4_1 := good2_eq q4_0 (by
        exact good_readOpen (by assumption))
      extract_lets +onlyGivenNames -merge -useContext -underBinder x6_0
      clear_value x6_0
      refine ite_ind ?_ ?_
      · refine good2_mk ?_
        assumption
      · extract_lets +onlyGivenNames -merge -useContext -underBinder x8_0 x8_1 x8_2
        clear_value x8_0
        have hx8_1 : Good g x8_1 := by
          unfold x8_1
          refine good_upd ?_
          assumption
        clear_value x8_1
        have hx8_2 : Good g x8_2 := by
          refine good_writeDebugRights ?_
          exact good_set (by assumption)
        clear_value x8_2
        refine good2_mk ?_
        exact good_raise (by assumption)

theorem good_setFlash {a0 a1 a2} (h : Good g s) : Good g (setFlash a0 a1 a2 s) := by
  delta setFlash
  refine good_upd ?_
  assumption

theorem good_cmdUpdate {a0} (h : Good g s) : Good2 g (cmdUpdate a0 s) := by
  delta cmdUpdate
  split
  · rename_i v2_0 v2_1 q2_0
    have hv2_1 : Good g v2_1 := good2_eq q2_0 (by
      exact good_cmdImage (by assumption))
    extract_lets +onlyGivenNames -merge -useContext -underBinder x4_0 x4_1 x4_2
    clear_value x4_0 x4_1 x4_2
    refine ite_ind ?_ ?_
    · refine good2_mk ?_
      assumption
    · refine ite_ind ?_ ?_
      · refine good2_mk ?_
        assumption
      · refine ite_ind ?_ ?_
        · refine good2_mk ?_
          assumption
        · refine ite_ind ?_ ?_
          · refine good2_mk ?_
            refine good_upd ?_
            assumption
          · refine ite_ind ?_ ?_
            · refine good2_mk ?_
              refine good_upd ?_
              assumption
            · extract_lets +onlyGivenNames -merge -useContext -underBinder x14_0 x14_1
              clear_value x14_0
              have hx14_1 : Good g x14_1 := by
                refine ite_ind ?_ ?_
                · exact good_setTrial (by assumption)
                · assumption
              clear_value x14_1
              refine good2_mk ?_
              exact good_setFlash (by assumption)

theorem good_setSecCopy {a0 a1 a2} (h : Good g s) : Good g (setSecCopy a0 a1 a2 s) := by
  delta setSecCopy
  refine good_upd ?_
  assumption

theorem good_secResult {a0 a1} (h : Good g s) : Good g (secResult a0 a1 s) := by
  delta secResult
  exact good_setSecCopy (by assumption)

theorem good_endSecCmd {a0 a1} (h : Good g s) : Good g (endSecCmd a0 a1 s) := by
  delta endSecCmd
  extract_lets +onlyGivenNames -merge -useContext -underBinder x2_0
  have hx2_0 : Good g x2_0 := by
    refine ite_ind ?_ ?_
    · assumption
    · exact good_logAccess (by assumption)
  clear_value x2_0
  refine good_cmdDone ?_
  exact good_secResult (by assumption)

theorem good_runSecCmd {a0 a1} (h : Good g s) : Good2 g (runSecCmd a0 a1 s) := by
  delta runSecCmd
  refine ite_ind ?_ ?_
  · refine good2_mk ?_
    assumption
  · refine ite_ind ?_ ?_
    · refine good2_mk ?_
      assumption
    · split
      · exact good_cmdLoad (by assumption)
      · exact good_cmdUpdate (by assumption)
      · exact good_cmdActivate (by assumption)
      · exact good_cmdConfirm (by assumption)
      · exact good_cmdAdvance (by assumption)
      · exact good_cmdAttest (by assumption)
      · exact good_cmdIdentity (by assumption)
      · exact good_cmdChallenge (by assumption)
      · exact good_cmdUnlock (by assumption)
      · exact good_cmdEnroll (by assumption)

theorem good_showSec (h : Good g s) : Good g (showSec s) := by
  delta showSec
  extract_lets +onlyGivenNames -merge -useContext -underBinder x2_0 x2_1 x2_2 x2_3 x2_4 x2_5 x2_6 x2_7 x2_8 x2_9
  have hx2_0 : Good g x2_0 := by
    refine good_forEach (fun _ _ _ => ?_) ?_
    · extract_lets +onlyGivenNames -merge -useContext -underBinder x6_0
      have hx6_0 : Good g x6_0 := by
        exact good_set (by assumption)
      clear_value x6_0
      refine ite_ind ?_ ?_
      · extract_lets +onlyGivenNames -merge -useContext -underBinder x8_0 x8_1 x8_2
        have hx8_0 : Good g x8_0 := by
          exact good_set (by assumption)
        clear_value x8_0
        have hx8_1 : Good g x8_1 := by
          exact good_set (by assumption)
        clear_value x8_1
        have hx8_2 : Good g x8_2 := by
          exact good_set (by assumption)
        clear_value x8_2
        exact good_set (by assumption)
      · exact good_set (by assumption)
    · assumption
  clear_value x2_0
  have hx2_1 : Good g x2_1 := by
    refine good_forEach (fun _ _ _ => ?_) ?_
    · exact good_set (by assumption)
    · assumption
  clear_value x2_1
  have hx2_2 : Good g x2_2 := by
    refine good_forEach (fun _ _ _ => ?_) ?_
    · exact good_set (by assumption)
    · assumption
  clear_value x2_2
  have hx2_3 : Good g x2_3 := by
    exact good_set (by assumption)
  clear_value x2_3
  have hx2_4 : Good g x2_4 := by
    exact good_set (by assumption)
  clear_value x2_4
  have hx2_5 : Good g x2_5 := by
    exact good_set (by assumption)
  clear_value x2_5
  have hx2_6 : Good g x2_6 := by
    exact good_set (by assumption)
  clear_value x2_6
  have hx2_7 : Good g x2_7 := by
    exact good_set (by assumption)
  clear_value x2_7
  have hx2_8 : Good g x2_8 := by
    exact good_set (by assumption)
  clear_value x2_8
  have hx2_9 : Good g x2_9 := by
    exact good_set (by assumption)
  clear_value x2_9
  exact good_set (by assumption)

theorem good_execSecCmd {a0 a1} (h : Good g s) : Good g (execSecCmd a0 a1 s) := by
  delta execSecCmd
  refine ite_ind ?_ ?_
  · assumption
  · split
    · assumption
    · refine ite_ind ?_ ?_
      · assumption
      · split
        · rename_i v8_0 v8_1 q8_0
          have hv8_1 : Good g v8_1 := good2_eq q8_0 (by
            refine good_runSecCmd ?_
            refine good_upd ?_
            assumption)
          refine good_endSecCmd ?_
          exact good_showSec (by assumption)

theorem good_execActivate {a0} (h : Good g s) : GoodN g (execActivate a0 s) := by
  delta execActivate
  refine goodN_next ?_
  refine good_execSecCmd ?_
  exact good_at (by assumption)

theorem good_execAdvance {a0} (h : Good g s) : GoodN g (execAdvance a0 s) := by
  delta execAdvance
  refine goodN_next ?_
  refine good_execSecCmd ?_
  exact good_at (by assumption)

theorem good_execAttest {a0} (h : Good g s) : GoodN g (execAttest a0 s) := by
  delta execAttest
  refine goodN_next ?_
  refine good_execSecCmd ?_
  exact good_at (by assumption)

theorem good_execConfirm {a0} (h : Good g s) : GoodN g (execConfirm a0 s) := by
  delta execConfirm
  refine goodN_next ?_
  refine good_execSecCmd ?_
  exact good_at (by assumption)

theorem good_execDebugChallenge {a0} (h : Good g s) : GoodN g (execDebugChallenge a0 s) := by
  delta execDebugChallenge
  refine goodN_next ?_
  refine good_execSecCmd ?_
  exact good_at (by assumption)

theorem good_execDebugUnlock {a0} (h : Good g s) : GoodN g (execDebugUnlock a0 s) := by
  delta execDebugUnlock
  refine goodN_next ?_
  refine good_execSecCmd ?_
  exact good_at (by assumption)

theorem good_execEncoderHoldEnd {a0} (h : Good g s) : GoodN g (execEncoderHoldEnd a0 s) := by
  delta execEncoderHoldEnd
  refine goodN_next ?_
  extract_lets +onlyGivenNames -merge -useContext -underBinder x2_0
  have hx2_0 : Good g x2_0 := by
    exact good_at (by assumption)
  clear_value x2_0
  refine good_upd ?_
  assumption

theorem good_execEnroll {a0} (h : Good g s) : GoodN g (execEnroll a0 s) := by
  delta execEnroll
  refine goodN_next ?_
  refine good_execSecCmd ?_
  exact good_at (by assumption)

theorem good_setRunning {a0 a1} (h : Good g s) : Good g (setRunning a0 a1 s) := by
  delta setRunning
  refine good_upd ?_
  assumption

theorem good_runFirmware {a0} (h : Good g s) : Good g (runFirmware a0 s) := by
  delta runFirmware
  refine good_putEntry ?_
  exact good_setRunning (by assumption)

theorem good_handoverFail (h : Good g s) : Good g (handoverFail s) := by
  delta handoverFail
  refine ite_ind ?_ ?_
  · assumption
  · extract_lets +onlyGivenNames -merge -useContext -underBinder x4_0 x4_1 x4_2
    clear_value x4_0 x4_1
    have hx4_2 : Good g x4_2 := by
      refine good_runFirmware ?_
      exact good_setFlash (by assumption)
    clear_value x4_2
    refine good_raise ?_
    refine good_showSec ?_
    refine good_setState ?_
    exact good_set (by assumption)

theorem good_execHandoverTimeout {a0} (h : Good g s) : GoodN g (execHandoverTimeout a0 s) := by
  delta execHandoverTimeout
  refine goodN_next ?_
  refine good_handoverFail ?_
  exact good_at (by assumption)

theorem good_execIdentity {a0} (h : Good g s) : GoodN g (execIdentity a0 s) := by
  delta execIdentity
  refine goodN_next ?_
  refine good_execSecCmd ?_
  exact good_at (by assumption)

theorem good_execLoad {a0} (h : Good g s) : GoodN g (execLoad a0 s) := by
  delta execLoad
  refine goodN_next ?_
  refine good_execSecCmd ?_
  exact good_at (by assumption)

theorem good_handoverStart (h : Good g s) : Good g (handoverStart s) := by
  delta handoverStart
  refine ite_ind ?_ ?_
  · assumption
  · refine good_showSec ?_
    refine good_runFirmware ?_
    exact good_set (by assumption)

theorem good_execQuiesceTimeout {a0} (h : Good g s) : GoodN g (execQuiesceTimeout a0 s) := by
  delta execQuiesceTimeout
  refine goodN_next ?_
  refine good_handoverStart ?_
  exact good_at (by assumption)

theorem good_execUpdate {a0} (h : Good g s) : GoodN g (execUpdate a0 s) := by
  delta execUpdate
  refine goodN_next ?_
  refine good_execSecCmd ?_
  exact good_at (by assumption)

theorem good_handoverEnd (h : Good g s) : Good g (handoverEnd s) := by
  delta handoverEnd
  refine ite_ind ?_ ?_
  · assumption
  · extract_lets +onlyGivenNames -merge -useContext -underBinder x4_0 x4_1 x4_2
    clear_value x4_0
    have hx4_1 : Good g x4_1 := by
      unfold x4_1
      refine good_upd ?_
      assumption
    clear_value x4_1
    have hx4_2 : Good g x4_2 := by
      refine good_setTrial ?_
      exact good_setPref (by assumption)
    clear_value x4_2
    refine good_raise ?_
    refine good_showSec ?_
    refine good_setState ?_
    exact good_set (by assumption)

theorem good_imageInvalid {a0} (h : Good g s) : Good g (imageInvalid a0 s) := by
  delta imageInvalid
  refine good_raise ?_
  exact good_set (by assumption)

theorem good_writeRetirement (h : Good g s) : Good g (writeRetirement s) := by
  delta writeRetirement
  extract_lets +onlyGivenNames -merge -useContext -underBinder x2_0
  clear_value x2_0
  refine good_upd ?_
  assumption

theorem good_noteRetirement {a0} (h : Good g s) : Good g (noteRetirement a0 s) := by
  delta noteRetirement
  extract_lets +onlyGivenNames -merge -useContext -underBinder x2_0
  refine ite_ind ?_ ?_
  · assumption
  · exact good_writeRetirement (by assumption)

theorem good_secEndQueue {a0} (h : Good g s) : Good g (secEndQueue a0 s) := by
  delta secEndQueue
  refine good_upd ?_
  assumption

theorem good_secReattached (h : Good g s) : Good g (secReattached s) := by
  delta secReattached
  refine good_forEach (fun _ _ _ => ?_) ?_
  · exact good_cmdDone (by assumption)
  · refine good_upd ?_
    assumption

theorem good_secWarm (h : Good g s) : Good g (secWarm s) := by
  delta secWarm
  extract_lets +onlyGivenNames -merge -useContext -underBinder x2_0 x2_1
  have hx2_0 : Good g x2_0 := by
    refine good_secEndQueue ?_
    refine good_forEach (fun _ _ _ => ?_) ?_
    · exact good_secResult (by assumption)
    · assumption
  clear_value x2_0
  have hx2_1 : Good g x2_1 := by
    refine ite_ind ?_ ?_
    · assumption
    · refine good_setRunning ?_
      exact good_set (by assumption)
  clear_value x2_1
  exact good_setState (by assumption)

theorem good_writeDefaultRights {g s} (h : Good g s) : Good g (writeDefaultRights s) := by
  refine good_mapHeaders (fun b _ _ k => ⟨?_, k.outcome, k.lost, k.owner⟩) h
  change bitsOf (defaultRights b) 4 4 = bitsOf (defaultRights b) 8 4
  cases b <;> decide

theorem good_writeHandover {a0 a1 a2} (h : Good g s) : Good g (writeHandover a0 a1 a2 s) := by
  delta writeHandover
  refine ite_ind ?_ ?_
  · exact good_logAccess (by assumption)
  · extract_lets +onlyGivenNames -merge -useContext -underBinder x4_0 x4_1
    have hx4_0 : Good g x4_0 := by
      exact good_set (by assumption)
    clear_value x4_0
    have hx4_1 : Good g x4_1 := by
      refine ite_ind ?_ ?_
      · exact good_handoverStart (by assumption)
      · assumption
    clear_value x4_1
    refine ite_ind ?_ ?_
    · exact good_handoverEnd (by assumption)
    · assumption

theorem good_writeSecCmd {a0 a1} (h : Good g s) : Good g (writeSecCmd a0 a1 s) := by
  delta writeSecCmd
  refine ite_ind ?_ ?_
  · exact good_logAccess (by assumption)
  · extract_lets +onlyGivenNames -merge -useContext -underBinder x4_0 x4_1
    clear_value x4_0 x4_1
    refine good_setSecCopy ?_
    refine good_upd ?_
    assumption

end Sys2Proof.Machine
end

