-- ==== Sys2Proof/Laws/KeepDdr.lean ====
section
/-! SUPPORT. Every operation of Ddr.lean keeps a state good: sound, its queue untouched, nothing sent taken back. -/

namespace Sys2Proof.Machine

variable {g : Ghost} {s : State}

theorem good_showDdrc {a0} (h : Good g s) : Good g (showDdrc a0 s) := by
  delta showDdrc
  refine ite_ind ?_ ?_
  · assumption
  · exact good_setState (by assumption)

theorem good_setSubState {a0 a1} (h : Good g s) : Good g (setSubState a0 a1 s) := by
  delta setSubState
  exact good_set (by assumption)

theorem good_ddrcEnable {a0} (h : Good g s) : Good g (ddrcEnable a0 s) := by
  delta ddrcEnable
  extract_lets +onlyGivenNames -merge -useContext -underBinder x2_0 x2_1
  have hx2_0 : Good g x2_0 := by
    exact good_setState (by assumption)
  clear_value x2_0
  have hx2_1 : Good g x2_1 := by
    exact good_set (by assumption)
  clear_value x2_1
  refine good_showDdrc ?_
  refine good_forEach (fun _ _ _ => ?_) ?_
  · exact good_setSubState (by assumption)
  · assumption

theorem good_ddrcDisable {a0} (h : Good g s) : Good g (ddrcDisable a0 s) := by
  delta ddrcDisable
  refine good_setState ?_
  refine good_forEach (fun _ _ _ => ?_) ?_
  · exact good_setSubState (by assumption)
  · assumption

theorem good_applyDdrc {a0} (h : Good g s) : Good g (applyDdrc a0 s) := by
  delta applyDdrc
  extract_lets +onlyGivenNames -merge -useContext -underBinder x2_0 x2_1 x2_2 x2_3
  clear_value x2_0
  have hx2_1 : Good g x2_1 := by
    exact good_applyGroup (by assumption)
  clear_value x2_1 x2_2
  have hx2_3 : Good g x2_3 := by
    refine ite_ind ?_ ?_
    · exact good_ddrcEnable (by assumption)
    · refine ite_ind ?_ ?_
      · exact good_ddrcDisable (by assumption)
      · assumption
  clear_value x2_3
  exact good_commitDone (by assumption)

theorem good_showMem (h : Good g s) : Good g (showMem s) := by
  delta showMem
  extract_lets +onlyGivenNames -merge -useContext -underBinder x2_0 x2_1 x2_2
  clear_value x2_0 x2_1
  have hx2_2 : Good g x2_2 := by
    exact good_setState (by assumption)
  clear_value x2_2
  split
  · exact good_set (by assumption)
  · extract_lets +onlyGivenNames -merge -useContext -underBinder x4_0
    have hx4_0 : Good g x4_0 := by
      refine good_set ?_
      exact good_set (by assumption)
    clear_value x4_0
    refine good_set ?_
    exact good_set (by assumption)

theorem good_relineNext {k} (h : Good g s) : Good g (relineNext k s) := by
  induction k generalizing s with
  | zero => exact h
  | succ k ih =>
    unfold relineNext
    split
    · extract_lets +onlyGivenNames -merge -useContext -underBinder s1 s2
      have h2 : Good g s2 := good_upd h
      clear_value s2
      split
      · exact good_showMem (good_upd h2)
      · exact ih (good_raise (good_upd h2))
    · exact good_showMem h

theorem good_retire {a0} (h : Good g s) : Good g (retire a0 s) := by
  delta retire
  refine ite_ind ?_ ?_
  · assumption
  · refine good_relineNext ?_
    refine good_raise ?_
    refine good_upd ?_
    assumption

theorem good_autoRetire {a0} (h : Good g s) : Good g (autoRetire a0 s) := by
  delta autoRetire
  refine ite_ind ?_ ?_
  · exact good_retire (by assumption)
  · assumption

theorem good_ddrcResume (h : Good g s) : Good g (ddrcResume s) := by
  delta ddrcResume
  refine good_forEach (fun _ _ _ => ?_) ?_
  · refine ite_ind ?_ ?_
    · refine good_showDdrc ?_
      exact good_setState (by assumption)
    · assumption
  · assumption

theorem good_readCorrected {a0} (h : Good g s) : Good g (readCorrected a0 s) := by
  delta readCorrected
  extract_lets +onlyGivenNames -merge -useContext -underBinder x2_0 x2_1 x2_2 x2_3 x2_4 x2_5 x2_6
  clear_value x2_0
  have hx2_1 : Good g x2_1 := by
    refine good_raise ?_
    exact good_inc (by assumption)
  clear_value x2_1 x2_2 x2_3 x2_4 x2_5
  have hx2_6 : Good g x2_6 := by
    unfold x2_6
    refine good_upd ?_
    assumption
  clear_value x2_6
  refine ite_ind ?_ ?_
  · exact good_autoRetire (by assumption)
  · assumption

theorem good_poisonLine {a0} (h : Good g s) : Good g (poisonLine a0 s) := by
  delta poisonLine
  refine good_incSat ?_
  refine good_upd ?_
  assumption

theorem good_readUncorrectable {a0 a1 a2} (h : Good g s) : Good g (readUncorrectable a0 a1 a2 s) := by
  delta readUncorrectable
  extract_lets +onlyGivenNames -merge -useContext -underBinder x2_0 x2_1 x2_2 x2_3
  clear_value x2_0
  have hx2_1 : Good g x2_1 := by
    refine good_raise ?_
    exact good_inc (by assumption)
  clear_value x2_1
  have hx2_2 : Good g x2_2 := by
    exact good_logError (by assumption)
  clear_value x2_2
  have hx2_3 : Good g x2_3 := by
    unfold x2_3
    split
    · refine good_poisonLine ?_
      exact good_logMem (by assumption)
    · refine good_incSat ?_
      exact good_logMem (by assumption)
  clear_value x2_3
  exact good_autoRetire (by assumption)

theorem good_diagnosisDone {a0 a1} (h : Good g s) : Good g (diagnosisDone a0 a1 s) := by
  delta diagnosisDone
  split
  · assumption
  · extract_lets +onlyGivenNames -merge -useContext -underBinder x4_0 x4_1
    clear_value x4_0
    have hx4_1 : Good g x4_1 := by
      unfold x4_1
      refine good_upd ?_
      assumption
    clear_value x4_1
    split
    · extract_lets +onlyGivenNames -merge -useContext -underBinder x6_0 x6_1 x6_2
      clear_value x6_0
      have hx6_1 : Good g x6_1 := by
        exact good_set (by assumption)
      clear_value x6_1
      have hx6_2 : Good g x6_2 := by
        refine good_raise ?_
        exact good_set (by assumption)
      clear_value x6_2
      refine good_autoRetire ?_
      exact good_readCorrected (by assumption)
    · exact good_readUncorrectable (by assumption)

theorem good_setRole {a0 a1} (h : Good g s) : Good g (setRole a0 a1 s) := by
  delta setRole
  exact good_set (by assumption)

theorem good_failSub {a0} (h : Good g s) : Good g (failSub a0 s) := by
  delta failSub
  extract_lets +onlyGivenNames -merge -useContext -underBinder x2_0 x2_1 x2_2
  clear_value x2_0
  have hx2_1 : Good g x2_1 := by
    refine good_raise ?_
    exact good_setSubState (by assumption)
  clear_value x2_1
  have hx2_2 : Good g x2_2 := by
    refine good_forEach (fun _ _ _ => ?_) ?_
    · refine ite_ind ?_ ?_
      · exact good_setRole (by assumption)
      · assumption
    · assumption
  clear_value x2_2
  refine good_forEach (fun _ _ _ => ?_) ?_
  · exact good_retire (by assumption)
  · assumption

theorem good_freqAbort (h : Good g s) : Good g (freqAbort s) := by
  delta freqAbort
  refine ite_ind ?_ ?_
  · assumption
  · extract_lets +onlyGivenNames -merge -useContext -underBinder x4_0 x4_1
    clear_value x4_0
    have hx4_1 : Good g x4_1 := by
      refine good_ddrcResume ?_
      refine good_upd ?_
      assumption
    clear_value x4_1
    refine good_showMem ?_
    refine good_raise ?_
    exact good_inc (by assumption)

theorem good_freqEnd {a0} (h : Good g s) : Good g (freqEnd a0 s) := by
  delta freqEnd
  extract_lets +onlyGivenNames -merge -useContext -underBinder x2_0 x2_1
  clear_value x2_0
  have hx2_1 : Good g x2_1 := by
    unfold x2_1
    refine good_upd ?_
    assumption
  clear_value x2_1
  refine good_showMem ?_
  refine good_raise ?_
  refine good_set ?_
  exact good_set (by assumption)

theorem good_freqStart {a0 a1 f} (hf : ∀ s, Good g s → Good g (f s)) (h : Good g s) : Good g (freqStart a0 a1 f s) := by
  delta freqStart
  refine ite_ind ?_ ?_
  · refine hf _ ?_
    exact good_freqEnd (by assumption)
  · extract_lets +onlyGivenNames -merge -useContext -underBinder x4_0 x4_1
    clear_value x4_0
    have hx4_1 : Good g x4_1 := by
      unfold x4_1
      refine good_upd ?_
      assumption
    clear_value x4_1
    refine good_showMem ?_
    refine good_set ?_
    exact good_set (by assumption)

theorem good_trackNext {a0} (h : Good g s) : Good g (trackNext a0 s) := by
  delta trackNext
  refine ite_ind ?_ ?_
  · refine good_freqStart (fun _ _ => ?_) ?_
    · exact good_logError (by assumption)
    · refine good_upd ?_
      assumption
  · assumption

theorem good_freqDone {a0 a1 a2} (h : Good g s) : Good g (freqDone a0 a1 a2 s) := by
  delta freqDone
  refine ite_ind ?_ ?_
  · assumption
  · extract_lets +onlyGivenNames -merge -useContext -underBinder x4_0 x4_1 x4_2 x4_3 x4_4 x4_5 x4_6
    have hx4_0 : Good g x4_0 := by
      exact good_ddrcResume (by assumption)
    clear_value x4_0 x4_1
    have hx4_2 : Good g x4_2 := by
      unfold x4_2
      refine good_upd ?_
      assumption
    clear_value x4_2
    have hx4_3 : Good g x4_3 := by
      refine good_set ?_
      exact good_set (by assumption)
    clear_value x4_3
    have hx4_4 : Good g x4_4 := by
      refine good_forEach (fun _ _ _ => ?_) ?_
      · exact good_set (by assumption)
      · assumption
    clear_value x4_4
    have hx4_5 : Good g x4_5 := by
      refine good_logError ?_
      exact good_freqEnd (by assumption)
    clear_value x4_5
    have hx4_6 : Good g x4_6 := by
      refine ite_ind ?_ ?_
      · refine good_showMem ?_
        refine good_raise ?_
        exact good_set (by assumption)
      · refine good_forEach (fun _ _ _ => ?_) ?_
        · refine good_failSub ?_
          exact good_raise (by assumption)
        · assumption
    clear_value x4_6
    exact good_trackNext (by assumption)

theorem good_freqMargin (h : Good g s) : Good g (freqMargin s) := by
  delta freqMargin
  refine ite_ind ?_ ?_
  · assumption
  · extract_lets +onlyGivenNames -merge -useContext -underBinder x4_0 x4_1
    clear_value x4_0
    have hx4_1 : Good g x4_1 := by
      unfold x4_1
      refine good_upd ?_
      assumption
    clear_value x4_1
    refine good_showMem ?_
    refine good_forEach (fun _ _ _ => ?_) ?_
    · extract_lets +onlyGivenNames -merge -useContext -underBinder x6_0 x6_1
      have hx6_1 : Good g x6_1 := by
        refine ite_ind ?_ ?_
        · exact good_applyDdrc (by assumption)
        · assumption
      clear_value x6_1
      refine ite_ind ?_ ?_
      · exact good_setState (by assumption)
      · assumption
    · assumption

theorem good_freqTimeout (h : Good g s) : Good g (freqTimeout s) := by
  delta freqTimeout
  refine ite_ind ?_ ?_
  · exact good_freqEnd (by assumption)
  · assumption

theorem good_readMismatch {a0 a1 a2} (h : Good g s) : Good g (readMismatch a0 a1 a2 s) := by
  delta readMismatch
  extract_lets +onlyGivenNames -merge -useContext -underBinder x2_0 x2_1
  clear_value x2_0
  have hx2_1 : Good g x2_1 := by
    refine good_raise ?_
    exact good_inc (by assumption)
  clear_value x2_1
  refine good_autoRetire ?_
  refine good_logMem ?_
  exact good_logError (by assumption)

theorem good_readDone {a0 a1 a2 a3 a4} (h : Good g s) : Good g (readDone a0 a1 a2 a3 a4 s) := by
  delta readDone
  extract_lets +onlyGivenNames -merge -useContext -underBinder x2_0 x2_1 x2_2 x2_3 x2_4 x2_5 x2_6 x2_7
  clear_value x2_0 x2_1 x2_2 x2_3 x2_4 x2_5 x2_6
  have hx2_7 : Good g x2_7 := by
    refine ite_ind ?_ ?_
    · exact good_fresh (by assumption)
    · assumption
  clear_value x2_7
  split
  · assumption
  · exact good_readCorrected (by assumption)
  · refine ite_ind ?_ ?_
    · exact good_readUncorrectable (by assumption)
    · refine good_upd ?_
      assumption
  · exact good_readMismatch (by assumption)
  · exact good_inc (by assumption)

theorem good_lineRead {a0 a1 a2 a3} (h : Good g s) : Good g (lineRead a0 a1 a2 a3 s) := by
  delta lineRead
  refine ite_ind ?_ ?_
  · assumption
  · split
    · extract_lets +onlyGivenNames -merge -useContext -underBinder x6_0
      clear_value x6_0
      refine ite_ind ?_ ?_
      · exact good_inc (by assumption)
      · exact good_readDone (by assumption)

theorem good_mr4 {a0 a1} (h : Good g s) : Good g (mr4 a0 a1 s) := by
  delta mr4
  refine ite_ind ?_ ?_
  · assumption
  · extract_lets +onlyGivenNames -merge -useContext -underBinder x4_0 x4_1
    clear_value x4_0 x4_1
    refine good_raiseIf ?_
    exact good_set (by assumption)

theorem good_poisonLines {a0} (h : Good g s) : Good g (poisonLines a0 s) := by
  delta poisonLines
  refine good_incSat ?_
  refine good_upd ?_
  assumption

theorem good_relineDone {a0} (h : Good g s) : Good g (relineDone a0 s) := by
  delta relineDone
  extract_lets +onlyGivenNames -merge -useContext -underBinder x2_0 x2_1 x2_2
  clear_value x2_0 x2_1
  have hx2_2 : Good g x2_2 := by
    refine good_setRole ?_
    refine good_setRole ?_
    refine good_upd ?_
    assumption
  clear_value x2_2
  refine good_relineNext ?_
  refine good_raise ?_
  exact good_inc (by assumption)

theorem good_scrubRead {a0 a1 a2} (h : Good g s) : Good g (scrubRead a0 a1 a2 s) := by
  delta scrubRead
  refine ite_ind ?_ ?_
  · assumption
  · split
    · exact good_lineRead (by assumption)
    · refine ite_ind ?_ ?_
      · assumption
      · extract_lets +onlyGivenNames -merge -useContext -underBinder x8_0
        clear_value x8_0
        refine ite_ind ?_ ?_
        · assumption
        · refine ite_ind ?_ ?_
          · exact good_readCorrected (by assumption)
          · refine ite_ind ?_ ?_
            · exact good_readUncorrectable (by assumption)
            · refine good_upd ?_
              assumption

theorem good_segmentDone {a0} (h : Good g s) : Good g (segmentDone a0 s) := by
  delta segmentDone
  split
  · assumption
  · refine ite_ind ?_ ?_
    · assumption
    · extract_lets +onlyGivenNames -merge -useContext -underBinder x6_0 x6_1 x6_2 x6_3 x6_4 x6_5
      clear_value x6_0 x6_1
      have hx6_2 : Good g x6_2 := by
        exact good_poisonLines (by assumption)
      clear_value x6_2 x6_3 x6_4
      have hx6_5 : Good g x6_5 := by
        unfold x6_5
        refine good_upd ?_
        assumption
      clear_value x6_5
      refine ite_ind ?_ ?_
      · exact good_showMem (by assumption)
      · refine good_relineDone ?_
        exact good_showMem (by assumption)

theorem good_trackTick {a0 a1 a2} (h : Good g s) : Good g (trackTick a0 a1 a2 s) := by
  delta trackTick
  refine ite_ind ?_ ?_
  · assumption
  · refine good_trackNext ?_
    refine good_raise ?_
    refine good_upd ?_
    assumption

theorem good_trainingDone {a0 a1} (h : Good g s) : Good g (trainingDone a0 a1 s) := by
  delta trainingDone
  refine ite_ind ?_ ?_
  · assumption
  · refine ite_ind ?_ ?_
    · refine good_showDdrc ?_
      exact good_setSubState (by assumption)
    · refine good_showDdrc ?_
      refine good_failSub ?_
      refine good_logError ?_
      exact good_raise (by assumption)

theorem good_writeFreq {a0 a1 a2} (h : Good g s) : Good g (writeFreq a0 a1 a2 s) := by
  delta writeFreq
  refine ite_ind ?_ ?_
  · exact good_logAccess (by assumption)
  · extract_lets +onlyGivenNames -merge -useContext -underBinder x4_0
    have hx4_0 : Good g x4_0 := by
      exact good_set (by assumption)
    clear_value x4_0
    refine ite_ind ?_ ?_
    · refine good_freqStart (fun _ _ => ?_) ?_
      · exact good_logAccess (by assumption)
      · assumption
    · assumption

theorem good_writeMap {a0 a1} (h : Good g s) : Good g (writeMap a0 a1 s) := by
  delta writeMap
  extract_lets +onlyGivenNames -merge -useContext -underBinder x2_0
  clear_value x2_0
  refine ite_ind ?_ ?_
  · exact good_logAccess (by assumption)
  · refine ite_ind ?_ ?_
    · exact good_logAccess (by assumption)
    · refine good_set ?_
      exact good_set (by assumption)

theorem good_writeReline {a0 a1} (h : Good g s) : Good g (writeReline a0 a1 s) := by
  delta writeReline
  extract_lets +onlyGivenNames -merge -useContext -underBinder x2_0
  clear_value x2_0
  refine ite_ind ?_ ?_
  · exact good_logAccess (by assumption)
  · extract_lets +onlyGivenNames -merge -useContext -underBinder x4_0
    have hx4_0 : Good g x4_0 := by
      exact good_set (by assumption)
    clear_value x4_0
    refine ite_ind ?_ ?_
    · exact good_retire (by assumption)
    · assumption

theorem good_writeRoles {a0 a1} (h : Good g s) : Good g (writeRoles a0 a1 s) := by
  delta writeRoles
  refine ite_ind ?_ ?_
  · exact good_logAccess (by assumption)
  · refine ite_ind ?_ ?_
    · exact good_logAccess (by assumption)
    · extract_lets +onlyGivenNames -merge -useContext -underBinder x6_0 x6_1 x6_2
      have hx6_0 : Good g x6_0 := by
        exact good_set (by assumption)
      clear_value x6_0 x6_1 x6_2
      refine good_relineNext ?_
      refine good_upd ?_
      assumption

end Sys2Proof.Machine
end

