-- ==== Sys2Proof/Laws/KeepHostPorts.lean ====
section
/-! SUPPORT. Every operation of HostPorts.lean keeps a state good: sound, its queue untouched, nothing sent taken back. -/

namespace Sys2Proof.Machine

variable {g : Ghost} {s : State}

theorem good_completeUr {a0} (h : Good g s) : Good g (completeUr a0 s) := by
  delta completeUr
  refine good_emit ?_
  exact good_inc (by assumption)

theorem good_bar2Read {a0 a1 a2} (h : Good g s) : Good g (bar2Read a0 a1 a2 s) := by
  delta bar2Read
  refine ite_ind ?_ ?_
  · assumption
  · refine ite_ind ?_ ?_
    · exact good_completeUr (by assumption)
    · split
      · rename_i v6_0 v6_1 v6_2 q6_0
        have hv6_2 : Good g v6_2 := good3_eq q6_0 (by
          exact good_dramRead (by assumption))
        extract_lets +onlyGivenNames -merge -useContext -underBinder x8_0
        have hx8_0 : Good g x8_0 := by
          refine ite_ind ?_ ?_
          · exact good_inc (by assumption)
          · assumption
        clear_value x8_0
        exact good_emit (by assumption)

theorem good_bar2Write {a0 a1 a2 a3} (h : Good g s) : Good g (bar2Write a0 a1 a2 a3 s) := by
  delta bar2Write
  refine ite_ind ?_ ?_
  · assumption
  · refine ite_ind ?_ ?_
    · exact good_completeUr (by assumption)
    · refine ite_ind ?_ ?_
      · exact good_dramPoison (by assumption)
      · exact good_dramWrite (by assumption)

theorem good_execBar2Read {a0 a1 a2 a3} (h : Good g s) : GoodN g (execBar2Read a0 a1 a2 a3 s) := by
  delta execBar2Read
  refine goodN_next ?_
  refine good_bar2Read ?_
  exact good_at (by assumption)

theorem good_execBar2Write {a0 a1 a2 a3 a4} (h : Good g s) : GoodN g (execBar2Write a0 a1 a2 a3 a4 s) := by
  delta execBar2Write
  refine goodN_next ?_
  refine good_bar2Write ?_
  exact good_at (by assumption)

theorem good_flrEnd {a0} (h : Good g s) : Good g (flrEnd a0 s) := by
  delta flrEnd
  refine ite_ind ?_ ?_
  · exact good_setState (by assumption)
  · assumption

theorem good_execFlrEnd {a0 a1} (h : Good g s) : GoodN g (execFlrEnd a0 a1 s) := by
  delta execFlrEnd
  refine goodN_next ?_
  refine good_flrEnd ?_
  exact good_at (by assumption)

theorem good_hostLinkUp {a0 a1 a2 a3} (h : Good g s) : Good g (hostLinkUp a0 a1 a2 a3 s) := by
  delta hostLinkUp
  refine ite_ind ?_ ?_
  · assumption
  · extract_lets +onlyGivenNames -merge -useContext -underBinder x4_0 x4_1 x4_2
    clear_value x4_0 x4_1
    have hx4_2 : Good g x4_2 := by
      refine good_set ?_
      refine good_set ?_
      refine good_set ?_
      exact good_set (by assumption)
    clear_value x4_2
    refine ite_ind ?_ ?_
    · refine good_raise ?_
      exact good_setState (by assumption)
    · exact good_raiseIf (by assumption)

theorem good_execHostLinkUp {a0 a1 a2 a3 a4} (h : Good g s) : GoodN g (execHostLinkUp a0 a1 a2 a3 a4 s) := by
  delta execHostLinkUp
  refine goodN_next ?_
  refine good_hostLinkUp ?_
  exact good_at (by assumption)

theorem good_leaseLapse {a0 a1} (h : Good g s) : Good g (leaseLapse a0 a1 s) := by
  delta leaseLapse
  extract_lets +onlyGivenNames -merge -useContext -underBinder x2_0
  refine ite_ind ?_ ?_
  · assumption
  · refine good_forEach (fun _ _ _ => ?_) ?_
    · split
      · extract_lets +onlyGivenNames -merge -useContext -underBinder x8_0
        refine good_raise ?_
        refine good_setHdr (fun k => ?_) ?_
        · exact ⟨k.hosts, k.outcome, k.lost, Nat.zero_le _⟩
        · assumption
    · assumption

theorem good_execLeaseLapsed {a0 a1 a2} (h : Good g s) : GoodN g (execLeaseLapsed a0 a1 a2 s) := by
  delta execLeaseLapsed
  refine goodN_next ?_
  refine good_leaseLapse ?_
  exact good_at (by assumption)

theorem good_msixEnable {a0} (h : Good g s) : Good g (msixEnable a0 s) := by
  delta msixEnable
  extract_lets +onlyGivenNames -merge -useContext -underBinder x2_0 x2_1
  clear_value x2_0
  have hx2_1 : Good g x2_1 := by
    exact good_setPort (by assumption)
  clear_value x2_1
  refine good_forEach (fun _ _ _ => ?_) ?_
  · exact good_sendMsix (by assumption)
  · assumption

theorem good_execMsixEnable {a0 a1} (h : Good g s) : GoodN g (execMsixEnable a0 a1 s) := by
  delta execMsixEnable
  refine goodN_next ?_
  refine good_msixEnable ?_
  exact good_at (by assumption)

theorem good_unmask {a0 a1} (h : Good g s) : Good g (unmask a0 a1 s) := by
  delta unmask
  extract_lets +onlyGivenNames -merge -useContext -underBinder x2_0 x2_1
  clear_value x2_0
  have hx2_1 : Good g x2_1 := by
    exact good_setPort (by assumption)
  clear_value x2_1
  refine ite_ind ?_ ?_
  · exact good_sendMsix (by assumption)
  · assumption

theorem good_execMsixUnmask {a0 a1 a2} (h : Good g s) : GoodN g (execMsixUnmask a0 a1 a2 s) := by
  delta execMsixUnmask
  refine goodN_next ?_
  refine good_unmask ?_
  exact good_at (by assumption)

theorem good_execResizableBarWrite {a0 a1 a2} (h : Good g s) : GoodN g (execResizableBarWrite a0 a1 a2 s) := by
  delta execResizableBarWrite
  refine goodN_next ?_
  refine good_set ?_
  exact good_at (by assumption)

theorem good_showHeld (h : Good g s) : Good g (showHeld s) := by
  delta showHeld
  exact good_set (by assumption)

theorem good_thmLapse {a0} (h : Good g s) : Good g (thmLapse a0 s) := by
  delta thmLapse
  extract_lets +onlyGivenNames -merge -useContext -underBinder x2_0
  clear_value x2_0
  refine ite_ind ?_ ?_
  · assumption
  · extract_lets +onlyGivenNames -merge -useContext -underBinder x4_0 x4_1
    have hx4_0 : Good g x4_0 := by
      unfold x4_0
      refine good_upd_thmTimers ?_
      assumption
    clear_value x4_0
    have hx4_1 : Good g x4_1 := by
      refine good_set ?_
      exact good_set (by assumption)
    clear_value x4_1
    refine good_raise ?_
    refine good_showHeld ?_
    exact good_set (by assumption)

theorem good_execThimbleLapsed {a0 a1} (h : Good g s) : GoodN g (execThimbleLapsed a0 a1 s) := by
  delta execThimbleLapsed
  refine goodN_next ?_
  refine good_thmLapse ?_
  exact good_at (by assumption)

theorem good_linkGone {a0} (h : Good g s) : Good g (linkGone a0 s) := by
  delta linkGone
  refine good_set ?_
  refine good_set ?_
  refine good_set ?_
  exact good_set (by assumption)

theorem good_startTimers {a0} (h : Good g s) : Good g (startTimers a0 s) := by
  refine { h with hdrs := ⟨?_, fun e he => ?_⟩ }
  · exact tbl_sorted_iff_pairwise.2 ((tbl_sorted_iff_pairwise.1 h.hdrs.1).map _ (fun _ _ k => k))
  · obtain ⟨x, hx, rfl⟩ := List.mem_map.1 he
    have k := h.hdrs.2 x hx
    exact ite_ind ⟨k.hosts, k.outcome, k.lost, k.owner⟩ k

theorem good_loseOrigin {a0} (h : Good g s) : Good g (loseOrigin a0 s) := by
  delta loseOrigin
  extract_lets +onlyGivenNames -merge -useContext -underBinder x2_0
  have hx2_0 : Good g x2_0 := good_startTimers h
  exact good_upd_allTimers hx2_0

theorem good_ownerWrote {a0 a1 a2} (h : Good g s) : Good g (ownerWrote a0 a1 a2 s) := by
  delta ownerWrote
  refine ite_ind ?_ ?_
  · assumption
  · refine good_forEach (fun _ _ _ => ?_) ?_
    · refine good_setHdr (fun k => ?_) ?_
      · exact ⟨k.hosts, k.outcome, k.lost, k.owner⟩
      · assumption
    · assumption

theorem good_releaseKeeper (h : Good g s) : Good g (releaseKeeper s) := by
  delta releaseKeeper
  refine good_showHeld ?_
  refine good_forEach (fun _ _ _ => ?_) ?_
  · exact good_set (by assumption)
  · assumption

theorem good_resetFunction {a0} (h : Good g s) : Good g (resetFunction a0 s) := by
  delta resetFunction
  refine good_set ?_
  exact good_setPort (by assumption)

theorem good_thmTouched {a0 a1} (h : Good g s) : Good g (thmTouched a0 a1 s) := by
  delta thmTouched
  refine ite_ind ?_ ?_
  · refine good_upd_thmTimers ?_
    assumption
  · assumption

theorem good_writeThm {a0 a1 a2} (h : Good g s) : Good g (writeThm a0 a1 a2 s) := by
  delta writeThm
  extract_lets +onlyGivenNames -merge -useContext -underBinder x2_0 x2_1 x2_2 x2_3
  clear_value x2_0 x2_1 x2_2 x2_3
  refine ite_ind ?_ ?_
  · refine good_logAccess ?_
    exact good_set (by assumption)
  · extract_lets +onlyGivenNames -merge -useContext -underBinder x4_0
    have hx4_0 : Good g x4_0 := by
      exact good_thmTouched (by assumption)
    clear_value x4_0
    refine ite_ind ?_ ?_
    · exact good_logAccess (by assumption)
    · refine ite_ind ?_ ?_
      · refine ite_ind ?_ ?_
        · extract_lets +onlyGivenNames -merge -useContext -underBinder x10_0
          have hx10_0 : Good g x10_0 := by
            refine good_inc ?_
            exact good_set (by assumption)
          clear_value x10_0
          refine good_showHeld ?_
          exact good_set (by assumption)
        · refine ite_ind ?_ ?_
          · exact good_set (by assumption)
          · exact good_inc (by assumption)
      · refine ite_ind ?_ ?_
        · refine ite_ind ?_ ?_
          · refine good_showHeld ?_
            extract_lets +onlyGivenNames -merge -useContext -underBinder x12_0
            have hx12_0 : Good g x12_0 := by
              exact good_set (by assumption)
            clear_value x12_0
            refine good_upd_timersOf hx4_0 ?_
            assumption
          · exact good_logAccess (by assumption)
        · assumption

end Sys2Proof.Machine
end

