-- ==== Sys2Proof/Laws/KeepFeed.lean ====
section
/-! SUPPORT. Every operation of Feed.lean keeps a state good: sound, its queue untouched, nothing sent taken back. -/

namespace Sys2Proof.Machine

variable {g : Ghost} {s : State}

theorem good_setDirect {a1 a2} (h : Good g s) : Good g (State.setDirect s a1 a2) := by
  delta State.setDirect
  refine good_upd_directs ?_
  assumption

theorem good_updDirect {a0 a1 a2 a3} (h : Good g s) : Good g (updDirect a0 a1 a2 a3 s) := by
  delta updDirect
  exact good_setDirect (by assumption)

theorem good_directCut {a0 a1} (h : Good g s) : Good g (directCut a0 a1 s) := by
  delta directCut
  refine good_forEach (fun _ _ _ => ?_) ?_
  · refine ite_ind ?_ ?_
    · exact good_updDirect (by assumption)
    · assumption
  · assumption

theorem good_directRow {a0 a1 a2 a3 a4 a5} (h : Good g s) : Good g (directRow a0 a1 a2 a3 a4 a5 s) := by
  delta directRow
  refine ite_ind ?_ ?_
  · assumption
  · exact good_updDirect (by assumption)

theorem good_directStart {a0 a1 a2} (h : Good g s) : Good g (directStart a0 a1 a2 s) := by
  delta directStart
  refine good_forEach (fun _ _ _ => ?_) ?_
  · exact good_setDirect (by assumption)
  · assumption

theorem good_dropTap {a0 a1 a2} (h : Good g s) : Good g (dropTap a0 a1 a2 s) := by
  delta dropTap
  split
  · exact good_returnBuf (by assumption)
  · exact good_directCut (by assumption)
  · exact good_abandonFrame (by assumption)
  · exact good_segAbandon (by assumption)

theorem good_dropOutputs {a0 a1} (h : Good g s) : Good g (dropOutputs a0 a1 s) := by
  delta dropOutputs
  split
  · assumption
  · extract_lets +onlyGivenNames -merge -useContext -underBinder x4_0 x4_1
    have hx4_0 : Good g x4_0 := by
      exact good_updFrame (by assumption)
    clear_value x4_0
    have hx4_1 : Good g x4_1 := by
      refine good_forEach (fun _ _ _ => ?_) ?_
      · exact good_dropTap (by assumption)
      · assumption
    clear_value x4_1
    refine good_forEach (fun _ _ _ => ?_) ?_
    · exact good_returnBuf (by assumption)
    · assumption

theorem good_purge {a0} (h : Good g s) : Good g (purge a0 s) := by
  delta purge
  extract_lets +onlyGivenNames -merge -useContext -underBinder x2_0
  clear_value x2_0
  exact good_setStrm (by assumption)

end Sys2Proof.Machine
end

