-- ==== Sys2Proof/Laws/KeepSched.lean ====
section
/-! SUPPORT. Every operation of Sched.lean keeps a state good: sound, its queue untouched, nothing sent taken back. -/

namespace Sys2Proof.Machine

variable {g : Ghost} {s : State}

theorem good_benchEvent {a0 a1 a2} (h : Good g s) : Good g (benchEvent a0 a1 a2 s) := by
  delta benchEvent
  refine good_raise ?_
  exact good_set (by assumption)

theorem good_place (h : Good g s) : Good g (place s) := by
  delta place
  extract_lets +onlyGivenNames -merge -useContext -underBinder x2_0 x2_1 x2_2
  clear_value x2_0
  have hx2_1 : Good g x2_1 := by
    exact good_set (by assumption)
  clear_value x2_1
  have hx2_2 : Good g x2_2 := by
    exact good_set (by assumption)
  clear_value x2_2
  refine good_forEach (fun _ _ _ => ?_) ?_
  · split
    · extract_lets +onlyGivenNames -merge -useContext -underBinder x6_0
      have hx6_0 : Good g x6_0 := by
        refine good_set ?_
        exact good_set (by assumption)
      clear_value x6_0
      refine good_set ?_
      exact good_set (by assumption)
    · extract_lets +onlyGivenNames -merge -useContext -underBinder x6_0 x6_1 x6_2 x6_3 x6_4
      clear_value x6_0 x6_1
      have hx6_2 : Good g x6_2 := by
        exact good_setStrm (by assumption)
      clear_value x6_2
      have hx6_3 : Good g x6_3 := by
        refine good_set ?_
        exact good_set (by assumption)
      clear_value x6_3
      have hx6_4 : Good g x6_4 := by
        exact good_set (by assumption)
      clear_value x6_4
      exact good_setSat (by assumption)
  · assumption

theorem good_refreshBench {a0} (h : Good g s) : Good g (refreshBench a0 s) := by
  delta refreshBench
  extract_lets +onlyGivenNames -merge -useContext -underBinder x2_0 x2_1 x2_2 x2_3 x2_4 x2_5 x2_6 x2_7 x2_8 x2_9
  clear_value x2_0 x2_1 x2_2
  have hx2_3 : Good g x2_3 := by
    exact good_set (by assumption)
  clear_value x2_3
  have hx2_4 : Good g x2_4 := by
    exact good_set (by assumption)
  clear_value x2_4
  have hx2_5 : Good g x2_5 := by
    exact good_set (by assumption)
  clear_value x2_5
  have hx2_6 : Good g x2_6 := by
    exact good_set (by assumption)
  clear_value x2_6
  have hx2_7 : Good g x2_7 := by
    exact good_set (by assumption)
  clear_value x2_7
  have hx2_8 : Good g x2_8 := by
    exact good_set (by assumption)
  clear_value x2_8
  have hx2_9 : Good g x2_9 := by
    refine good_setState ?_
    exact good_set (by assumption)
  clear_value x2_9
  exact good_setState (by assumption)

theorem good_refreshStrm {a0} (h : Good g s) : Good g (refreshStrm a0 s) := by
  delta refreshStrm
  extract_lets +onlyGivenNames -merge -useContext -underBinder x2_0 x2_1
  clear_value x2_0 x2_1
  exact good_setState (by assumption)

theorem good_refreshArrivals {a0 a1} (h : Good g s) : Good g (refreshArrivals a0 a1 s) := by
  delta refreshArrivals
  extract_lets +onlyGivenNames -merge -useContext -underBinder x2_0
  clear_value x2_0
  exact good_setStrm (by assumption)

theorem good_strmShown {a0 a1} (h : Good g s) : Good g (strmShown a0 a1 s) := by
  delta strmShown
  refine good_forEach (fun _ _ _ => ?_) ?_
  · exact good_refreshBench (by assumption)
  · refine good_refreshStrm ?_
    refine good_refreshPace ?_
    exact good_refreshArrivals (by assumption)

theorem good_dropFifo {a0 a1} (h : Good g s) : Good g (dropFifo a0 a1 s) := by
  delta dropFifo
  refine good_forEach (fun _ _ _ => ?_) ?_
  · refine ite_ind ?_ ?_
    · extract_lets +onlyGivenNames -merge -useContext -underBinder x6_0
      clear_value x6_0
      exact good_setBench (by assumption)
    · assumption
  · assumption

theorem good_refreshStage (h : Good g s) : Good g (refreshStage s) := by
  delta refreshStage
  exact good_set (by assumption)

theorem good_endFrame {a0 a1} (h : Good g s) : Good g (endFrame a0 a1 s) := by
  delta endFrame
  extract_lets +onlyGivenNames -merge -useContext -underBinder x2_0 x2_1 x2_2 x2_3
  have hx2_0 : Good g x2_0 := by
    exact good_dropOutputs (by assumption)
  clear_value x2_0
  have hx2_1 : Good g x2_1 := by
    exact good_dropFifo (by assumption)
  clear_value x2_1
  have hx2_2 : Good g x2_2 := by
    exact good_updFrame (by assumption)
  clear_value x2_2
  have hx2_3 : Good g x2_3 := by
    refine good_forEach (fun _ _ _ => ?_) ?_
    · extract_lets +onlyGivenNames -merge -useContext -underBinder x6_0
      refine ite_ind ?_ ?_
      · refine good_refreshBench ?_
        exact good_setBench (by assumption)
      · assumption
    · assumption
  clear_value x2_3
  refine good_refreshStrm ?_
  refine good_refreshStage ?_
  exact good_purge (by assumption)

theorem good_strmSettled {a0 a1} (h : Good g s) : Good g (strmSettled a0 a1 s) := by
  delta strmSettled
  extract_lets +onlyGivenNames -merge -useContext -underBinder x2_0 x2_1 x2_2 x2_3 x2_4 x2_5 x2_6 x2_7 x2_8 x2_9 x2_10 x2_11 x2_12 x2_13
  clear_value x2_1 x2_3 x2_4 x2_5
  have hx2_6 : Good g x2_6 := by
    exact good_setStrm (by assumption)
  clear_value x2_6
  have hx2_7 : Good g x2_7 := by
    exact good_set (by assumption)
  clear_value x2_7
  have hx2_8 : Good g x2_8 := by
    refine ite_ind ?_ ?_
    · exact good_set (by assumption)
    · assumption
  clear_value x2_8
  have hx2_9 : Good g x2_9 := by
    exact good_set (by assumption)
  clear_value x2_9
  have hx2_10 : Good g x2_10 := by
    refine ite_ind ?_ ?_
    · refine good_set ?_
      exact good_set (by assumption)
    · assumption
  clear_value x2_10
  have hx2_11 : Good g x2_11 := by
    refine ite_ind ?_ ?_
    · split
      · extract_lets +onlyGivenNames -merge -useContext -underBinder x8_0
        clear_value x8_0
        exact good_setAsm (by assumption)
      · assumption
    · assumption
  clear_value x2_11
  have hx2_12 : Good g x2_12 := by
    exact good_clearShed (by assumption)
  clear_value x2_12
  have hx2_13 : Good g x2_13 := by
    refine ite_ind ?_ ?_
    · assumption
    · refine good_forEach (fun _ _ _ => ?_) ?_
      · exact good_endFrame (by assumption)
      · assumption
  clear_value x2_13
  exact good_raiseIf (by assumption)

theorem good_settleStrm {a0 a1 a2} (h : Good g s) : Good g (settleStrm a0 a1 a2 s) := by
  delta settleStrm
  refine good_strmShown ?_
  refine good_commitDone ?_
  exact good_strmSettled (by assumption)

theorem good_evalStrm {a0 a1} (h : Good g s) : Good g (evalStrm a0 a1 s) := by
  delta evalStrm
  extract_lets +onlyGivenNames -merge -useContext -underBinder x2_0
  have hx2_0 : Good g x2_0 := by
    refine good_place ?_
    exact good_applyGroup (by assumption)
  clear_value x2_0
  refine ite_ind ?_ ?_
  · exact good_commitReject (by assumption)
  · refine ite_ind ?_ ?_
    · exact good_commitReject (by assumption)
    · exact good_settleStrm (by assumption)

theorem good_strmBoundary {a0 a1 a2} (h : Good g s) : Good g (strmBoundary a0 a1 a2 s) := by
  delta strmBoundary
  extract_lets +onlyGivenNames -merge -useContext -underBinder x2_0
  refine ite_ind ?_ ?_
  · exact good_evalStrm (by assumption)
  · assumption

theorem good_lutmEvent {a0 a1} (h : Good g s) : Good g (lutmEvent a0 a1 s) := by
  delta lutmEvent
  refine good_raise ?_
  exact good_set (by assumption)

theorem good_loadGrid {a0} (h : Good g s) : Good g (loadGrid a0 s) := by
  delta loadGrid
  refine ite_ind ?_ ?_
  · assumption
  · extract_lets +onlyGivenNames -merge -useContext -underBinder x4_0
    clear_value x4_0
    split
    · exact good_setStrm (by assumption)
    · refine ite_ind ?_ ?_
      · refine good_lutmEvent ?_
        exact good_inc (by assumption)
      · assumption

theorem good_choiceLoop {b t k} (h : Good g s) : Good g (choiceLoop b t k s) := by
  induction k generalizing s with
  | zero => exact h
  | succ k ih =>
    unfold choiceLoop
    refine ite_ind h ?_
    split
    · exact h
    · rename_i n _
      extract_lets +onlyGivenNames -merge -useContext -underBinder first s1
      have h1 : Good g s1 := good_strmBoundary h
      clear_value s1
      split
      · exact ih h1
      · extract_lets +onlyGivenNames -merge -useContext -underBinder s2
        exact good_refreshBench (good_setBench (ite_ind (good_loadGrid h1) h1))

theorem good_choose {a0 a1} (h : Good g s) : Good g (choose a0 a1 s) := by
  delta choose
  exact good_choiceLoop (by assumption)

theorem good_kick {a0} (h : Good g s) : Good g (kick a0 s) := by
  delta kick
  refine good_forEach (fun _ _ _ => ?_) ?_
  · refine ite_ind ?_ ?_
    · exact good_choose (by assumption)
    · assumption
  · assumption

theorem good_strmStops {a0 a1} (h : Good g s) : Good g (strmStops a0 a1 s) := by
  delta strmStops
  extract_lets +onlyGivenNames -merge -useContext -underBinder x2_0
  refine ite_ind ?_ ?_
  · exact good_evalStrm (by assumption)
  · assumption

theorem good_shutEvent {a0 a1} (h : Good g s) : Good g (shutEvent a0 a1 s) := by
  delta shutEvent
  refine good_raise ?_
  exact good_set (by assumption)

theorem good_dropFrame {a0 a1} (h : Good g s) : Good g (dropFrame a0 a1 s) := by
  delta dropFrame
  refine good_shutEvent ?_
  refine good_inc ?_
  exact good_endFrame (by assumption)

theorem good_doomFrame {a0 a1 a2} (h : Good g s) : Good g (doomFrame a0 a1 a2 s) := by
  delta doomFrame
  refine ite_ind ?_ ?_
  · exact good_updFrame (by assumption)
  · refine ite_ind ?_ ?_
    · exact good_dropFrame (by assumption)
    · exact good_endFrame (by assumption)

theorem good_deadlineExpired {a0 a1} (h : Good g s) : Good g (deadlineExpired a0 a1 s) := by
  delta deadlineExpired
  split
  · assumption
  · refine ite_ind ?_ ?_
    · assumption
    · refine good_kick ?_
      refine good_strmStops ?_
      exact good_doomFrame (by assumption)

theorem good_evtEvent {a0 a1 a2} (h : Good g s) : Good g (evtEvent a0 a1 a2 s) := by
  delta evtEvent
  refine good_raise ?_
  refine good_set ?_
  exact good_set (by assumption)

theorem good_overflow {a0 a1 a2} (h : Good g s) : Good g (overflow a0 a1 a2 s) := by
  delta overflow
  extract_lets +onlyGivenNames -merge -useContext -underBinder x2_0
  have hx2_0 : Good g x2_0 := by
    exact good_inc (by assumption)
  clear_value x2_0
  refine ite_ind ?_ ?_
  · extract_lets +onlyGivenNames -merge -useContext -underBinder x4_0
    have hx4_0 : Good g x4_0 := by
      refine good_flagFrame ?_
      exact good_shutEvent (by assumption)
    clear_value x4_0
    exact good_updFrame (by assumption)
  · refine good_doomFrame ?_
    exact good_shutEvent (by assumption)

theorem good_queueRows {n f k} (h : Good g s) : Good g (queueRows n f k s) := by
  induction k generalizing s with
  | zero => exact h
  | succ k ih =>
    unfold queueRows
    split
    · exact h
    · extract_lets +onlyGivenNames -merge -useContext -underBinder b
      exact ite_ind h (ite_ind (good_overflow h) (ih (good_updFrame (good_setBench h))))

theorem good_rowsChanged {a0 a1 a2} (h : Good g s) : Good g (rowsChanged a0 a1 a2 s) := by
  delta rowsChanged
  refine ite_ind ?_ ?_
  · refine good_refreshStrm ?_
    exact good_queueRows (by assumption)
  · refine good_refreshStrm ?_
    refine good_kick ?_
    refine good_refreshStage ?_
    exact good_refreshArrivals (by assumption)

theorem good_exposureEnds {a0 a1 a2 a3} (h : Good g s) : Good g (exposureEnds a0 a1 a2 a3 s) := by
  delta exposureEnds
  refine good_rowsChanged ?_
  exact good_updFrame (by assumption)

theorem good_reserveSegs {a0 a1} (h : Good g s) : Good g (reserveSegs a0 a1 s) := by
  delta reserveSegs
  extract_lets +onlyGivenNames -merge -useContext -underBinder x2_0 x2_1
  clear_value x2_0 x2_1
  refine good_forEach (fun _ _ _ => ?_) ?_
  · extract_lets +onlyGivenNames -merge -useContext -underBinder x4_0
    clear_value x4_0
    split
    · refine ite_ind ?_ ?_
      · assumption
      · exact good_segReserve (by assumption)
  · assumption

theorem good_rowArrives {a0 a1 a2 a3 a4 a5 a6 a7} (h : Good g s) : Good g (rowArrives a0 a1 a2 a3 a4 a5 a6 a7 s) := by
  delta rowArrives
  split
  · assumption
  · refine ite_ind ?_ ?_
    · assumption
    · extract_lets +onlyGivenNames -merge -useContext -underBinder x6_0 x6_1
      refine ite_ind ?_ ?_
      · refine good_rowsChanged ?_
        exact good_updFrame (by assumption)
      · extract_lets +onlyGivenNames -merge -useContext -underBinder x8_0
        clear_value x8_0
        refine ite_ind ?_ ?_
        · refine good_kick ?_
          exact good_overflow (by assumption)
        · extract_lets +onlyGivenNames -merge -useContext -underBinder x10_0 x10_1 x10_2 x10_3
          clear_value x10_0 x10_1
          have hx10_2 : Good g x10_2 := by
            exact good_setStrm (by assumption)
          clear_value x10_2 x10_3
          refine ite_ind ?_ ?_
          · extract_lets +onlyGivenNames -merge -useContext -underBinder x12_0 x12_1
            clear_value x12_0 x12_1
            split
            · rename_i v12_0 v12_1 v12_2 q12_0
              have hv12_2 : Good g v12_2 := good3_eq q12_0 (by
                refine ite_ind ?_ ?_
                · exact good_stageEncode (by assumption)
                · refine good3_mk ?_
                  assumption)
              extract_lets +onlyGivenNames -merge -useContext -underBinder x14_0
              have hx14_0 : Good g x14_0 := by
                refine good_dramWrite ?_
                refine good_upd_stageIdx ?_
                assumption
              clear_value x14_0
              refine good_rowsChanged ?_
              exact good_updFrame (by assumption)
          · refine good_rowsChanged ?_
            exact good_updFrame (by assumption)

theorem good_rowLost {a0 a1 a2 a3 a4} (h : Good g s) : Good g (rowLost a0 a1 a2 a3 a4 s) := by
  delta rowLost
  refine good_rowsChanged ?_
  exact good_updFrame (by assumption)

theorem good_tapTake {a0 a1 a2} (h : Good g s) : Good g (tapTake a0 a1 a2 s) := by
  delta tapTake
  extract_lets +onlyGivenNames -merge -useContext -underBinder x2_0 x2_1 x2_2 x2_3
  clear_value x2_0 x2_1 x2_2
  have hx2_3 : ∀ y0 s, Good g s → Good g (x2_3 y0 s) := by
    intro y0 s h
    exact good_updFrame (by assumption)
  refine ite_ind ?_ ?_
  · refine hx2_3 _ _ ?_
    assumption
  · split
    · rename_i v4_0 q4_0
      have hv4_0 : Good g v4_0 := good2_eq q4_0 (by
        exact good_produceBuf (by assumption))
      refine good_evtEvent ?_
      exact good_inc (by assumption)
    · rename_i v4_0 v4_1 q4_0
      have hv4_1 : Good g v4_1 := good2_eq q4_0 (by
        exact good_produceBuf (by assumption))
      refine ite_ind ?_ ?_
      · refine hx2_3 _ _ ?_
        assumption
      · refine good_evtEvent ?_
        refine good_inc ?_
        exact good_returnBuf (by assumption)

theorem good_statClaim {a0 a1} (h : Good g s) : Good g (statClaim a0 a1 s) := by
  delta statClaim
  refine ite_ind ?_ ?_
  · assumption
  · extract_lets +onlyGivenNames -merge -useContext -underBinder x4_0 x4_1 x4_2
    clear_value x4_0 x4_1 x4_2
    refine ite_ind ?_ ?_
    · refine good_evtEvent ?_
      exact good_inc (by assumption)
    · exact good_updFrame (by assumption)

theorem good_startFrame {a0 a1 a2} (h : Good g s) : Good g (startFrame a0 a1 a2 s) := by
  delta startFrame
  extract_lets +onlyGivenNames -merge -useContext -underBinder x2_0 x2_1 x2_2 x2_3 x2_4 x2_5 x2_6 x2_7 x2_8 x2_9
  clear_value x2_0 x2_1 x2_2 x2_3
  have hx2_4 : Good g x2_4 := by
    exact good_updCtx (by assumption)
  clear_value x2_4
  have hx2_5 : Good g x2_5 := by
    exact good_set (by assumption)
  clear_value x2_5
  have hx2_6 : Good g x2_6 := by
    refine ite_ind ?_ ?_
    · refine good_benchEvent ?_
      exact good_inc (by assumption)
    · assumption
  clear_value x2_6
  have hx2_7 : Good g x2_7 := by
    exact good_set (by assumption)
  clear_value x2_7
  have hx2_8 : Good g x2_8 := by
    exact good_updFrame (by assumption)
  clear_value x2_8
  have hx2_9 : Good g x2_9 := by
    refine good_forEach (fun _ _ _ => ?_) ?_
    · exact good_tapTake (by assumption)
    · assumption
  clear_value x2_9
  exact good_statClaim (by assumption)

theorem good_startStripe {a0 a1} (h : Good g s) : Good g (startStripe a0 a1 s) := by
  delta startStripe
  split
  · assumption
  · split
    · refine good_refreshBench ?_
      exact good_setBench (by assumption)
    · extract_lets +onlyGivenNames -merge -useContext -underBinder x6_0 x6_1 x6_2 x6_3 x6_4 x6_5
      clear_value x6_0 x6_1
      have hx6_2 : Good g x6_2 := by
        exact good_setBench (by assumption)
      clear_value x6_2
      have hx6_3 : Good g x6_3 := by
        refine ite_ind ?_ ?_
        · exact good_startFrame (by assumption)
        · assumption
      clear_value x6_3
      have hx6_4 : Good g x6_4 := by
        unfold x6_4
        split
        · exact good_reserveSegs (by assumption)
        · assumption
      clear_value x6_4
      have hx6_5 : Good g x6_5 := by
        refine good_refreshStrm ?_
        exact good_refreshBench (by assumption)
      clear_value x6_5
      refine ite_ind ?_ ?_
      · exact good_choose (by assumption)
      · assumption

theorem good_swapDone {a0 a1} (h : Good g s) : Good g (swapDone a0 a1 s) := by
  delta swapDone
  extract_lets +onlyGivenNames -merge -useContext -underBinder x2_0
  clear_value x2_0
  split
  · assumption
  · refine ite_ind ?_ ?_
    · assumption
    · refine ite_ind ?_ ?_
      · exact good_setBench (by assumption)
      · refine good_startStripe ?_
        exact good_inc (by assumption)

end Sys2Proof.Machine
end

