-- ==== Sys2Proof/Laws/KeepBench.lean ====
section
/-! SUPPORT. Every operation of Bench.lean keeps a state good: sound, its queue untouched, nothing sent taken back. -/

namespace Sys2Proof.Machine

variable {g : Ghost} {s : State}

theorem good_readBack {a0 a1 a2 a3 a4} (h : Good g s) : Good g (readBack a0 a1 a2 a3 a4 s) := by
  delta readBack
  split
  · assumption
  · extract_lets +onlyGivenNames -merge -useContext -underBinder x4_0 x4_1
    clear_value x4_0 x4_1
    refine ite_ind ?_ ?_
    · assumption
    · extract_lets +onlyGivenNames -merge -useContext -underBinder x6_0 x6_1 x6_2 x6_3
      clear_value x6_0 x6_1 x6_2 x6_3
      split
      · rename_i v6_0 v6_1 v6_2 q6_0
        have hv6_2 : Good g v6_2 := good3_eq q6_0 (by
          exact good_dramRead (by assumption))
        split
        · rename_i v8_0 v8_1 q8_0
          have hv8_1 : Good g v8_1 := good2_eq q8_0 (by
            refine ite_ind ?_ ?_
            · refine good2_mk ?_
              assumption
            · refine ite_ind ?_ ?_
              · refine good2_mk ?_
                assumption
              · exact good_stageDecode (by assumption))
          extract_lets +onlyGivenNames -merge -useContext -underBinder x10_0 x10_1
          have hx10_0 : Good g x10_0 := by
            unfold x10_0
            split
            · assumption
            · refine good_benchEvent ?_
              exact good_flagFrame (by assumption)
          clear_value x10_0 x10_1
          exact good_updFrame (by assumption)

theorem good_takeRow {a0 a1 a2 a3 a4} (h : Good g s) : Good2 g (takeRow a0 a1 a2 a3 a4 s) := by
  delta takeRow
  extract_lets +onlyGivenNames -merge -useContext -underBinder x2_0
  have hx2_0 : Good g x2_0 := by
    exact good_readBack (by assumption)
  clear_value x2_0
  split
  · refine good2_mk ?_
    assumption
  · refine ite_ind ?_ ?_
    · refine good2_mk ?_
      assumption
    · extract_lets +onlyGivenNames -merge -useContext -underBinder x6_0 x6_1
      clear_value x6_0
      have hx6_1 : Good g x6_1 := by
        exact good_updFrame (by assumption)
      clear_value x6_1
      refine good2_mk ?_
      exact good_updCtx (by assumption)

theorem good_takeRows {a0 a1 a2 a3} (h : Good g s) : Good2 g (takeRows a0 a1 a2 a3 s) := by
  delta takeRows
  refine foldl_ind (fun _ _ _ => ?_) ?_
  · split
    · rename_i v4_0 v4_1 q4_0
      have hv4_1 : Good g v4_1 := good2_eq q4_0 (by
        refine good_takeRow ?_
        show Good2 g _
        assumption)
      refine good2_mk ?_
      assumption
  · refine good2_mk ?_
    assumption

theorem good_noteMissing {a0 a1 a2 a3} (h : Good g s) : Good g (noteMissing a0 a1 a2 a3 s) := by
  delta noteMissing
  extract_lets +onlyGivenNames -merge -useContext -underBinder x2_0
  clear_value x2_0
  refine ite_ind ?_ ?_
  · assumption
  · extract_lets +onlyGivenNames -merge -useContext -underBinder x4_0 x4_1 x4_2
    have hx4_1 : Good g x4_1 := by
      refine good_flagFrame ?_
      exact good_updCtx (by assumption)
    clear_value x4_1
    have hx4_2 : Good g x4_2 := by
      exact good_set (by assumption)
    clear_value x4_2
    refine ite_ind ?_ ?_
    · refine good_benchEvent ?_
      exact good_inc (by assumption)
    · assumption

theorem good_tapDeliver {a0 a1 a2 a3 a4 a5 a6} (h : Good g s) : Good g (tapDeliver a0 a1 a2 a3 a4 a5 a6 s) := by
  delta tapDeliver
  split
  · extract_lets +onlyGivenNames -merge -useContext -underBinder x4_0 x4_1
    clear_value x4_0
    have hx4_1 : Good g x4_1 := by
      exact good_dramWrite (by assumption)
    clear_value x4_1
    split
    · exact good_dramWrite (by assumption)
    · assumption
  · exact good_directRow (by assumption)
  · refine good_encRow ?_
    refine ite_ind ?_ ?_
    · exact good_pictureStart (by assumption)
    · assumption
  · assumption

theorem good_tapFinish {a0 a1 a2} (h : Good g s) : Good g (tapFinish a0 a1 a2 s) := by
  delta tapFinish
  extract_lets +onlyGivenNames -merge -useContext -underBinder x2_0
  have hx2_0 : Good g x2_0 := by
    exact good_updFrame (by assumption)
  clear_value x2_0
  refine ite_ind ?_ ?_
  · assumption
  · exact good_inc (by assumption)

theorem good_codeTaps {a0 a1 a2 a3 a4 a5} (h : Good g s) : Good g (codeTaps a0 a1 a2 a3 a4 a5 s) := by
  delta codeTaps
  split
  · assumption
  · refine good_forEach (fun _ _ _ => ?_) ?_
    · extract_lets +onlyGivenNames -merge -useContext -underBinder x6_0
      clear_value x6_0
      refine ite_ind ?_ ?_
      · assumption
      · extract_lets +onlyGivenNames -merge -useContext -underBinder x8_0
        clear_value x8_0
        split
        · rename_i v8_0 v8_1 q8_0
          have hv8_1 : Good g v8_1 := good2_eq q8_0 (by
            split
            · refine good2_mk ?_
              assumption
            · refine good2_mk ?_
              exact good_fresh (by assumption))
          extract_lets +onlyGivenNames -merge -useContext -underBinder x10_0
          have hx10_0 : Good g x10_0 := by
            refine ite_ind ?_ ?_
            · exact good_segRow (by assumption)
            · exact good_tapDeliver (by assumption)
          clear_value x10_0
          refine ite_ind ?_ ?_
          · exact good_tapFinish (by assumption)
          · assumption
    · assumption

theorem good_yuvIn {a0 a1 a2 a3} (h : Good g s) : Good2 g (yuvIn a0 a1 a2 a3 s) := by
  delta yuvIn
  extract_lets +onlyGivenNames -merge -useContext -underBinder x2_0 x2_1
  clear_value x2_0
  have hx2_1 : Good g x2_1 := by
    exact good_updCtx (by assumption)
  clear_value x2_1
  refine good2_mk ?_
  assumption

theorem good_rawIn {b n p r a e} (h : Good2 g a) : Good2 g (rawIn b n p r a e) := by
  delta rawIn
  split
  · exact h
  · extract_lets +onlyGivenNames -merge -useContext -underBinder up
    split
    extract_lets +onlyGivenNames -merge -useContext -underBinder s1 s2
    have h1 : Good g s1 := good_updCtx h
    exact good2_mk (good_raiseIf (ite_ind (good_set h1) h1))

theorem good_rawRow {a0 a1 a2 a3 a4} (h : Good g s) : Good2 g (rawRow a0 a1 a2 a3 a4 s) := by
  delta rawRow
  extract_lets +onlyGivenNames -merge -useContext -underBinder p
  split
  · rename_i corr s' q
    have hs : Good g s' := good2_eq q (foldl_ind (fun _ _ k => good_rawIn k) (good2_mk h))
    extract_lets +onlyGivenNames -merge -useContext -underBinder f s1 s2
    have h1 : Good g s1 := good_updCtx hs
    have h2 : Good g s2 := good_forEach (fun _ _ k => good_updCtx k) h1
    exact good2_mk h2

theorem good_tnrRow {a0 a1 a2 a3} (h : Good g s) : Good2 g (tnrRow a0 a1 a2 a3 s) := by
  delta tnrRow
  refine ite_ind ?_ ?_
  · refine good2_mk ?_
    assumption
  · extract_lets +onlyGivenNames -merge -useContext -underBinder x4_0 x4_1
    clear_value x4_0 x4_1
    split
    · extract_lets +onlyGivenNames -merge -useContext -underBinder x6_0 x6_1 x6_2 x6_3
      clear_value x6_0 x6_1
      have hx6_2 : Good g x6_2 := by
        refine ite_ind ?_ ?_
        · exact good_lutmEvent (by assumption)
        · assumption
      clear_value x6_2 x6_3
      split
      · split
        · extract_lets +onlyGivenNames -merge -useContext -underBinder x10_0
          have hx10_0 : Good g x10_0 := by
            exact good_dramWrite (by assumption)
          clear_value x10_0
          refine good2_mk ?_
          exact good_dramWrite (by assumption)

theorem good_refreshPins (h : Good g s) : Good g (refreshPins s) := by
  delta refreshPins
  exact good_set (by assumption)

theorem good_evalRule {a0 a1} (h : Good g s) : Good g (evalRule a0 a1 s) := by
  delta evalRule
  extract_lets +onlyGivenNames -merge -useContext -underBinder x2_0
  clear_value x2_0
  split
  · extract_lets +onlyGivenNames -merge -useContext -underBinder x4_0 x4_1 x4_2 x4_3 x4_4 x4_5 x4_6 x4_7 x4_8 x4_9
    clear_value x4_1 x4_2 x4_3 x4_4 x4_5
    have hx4_6 : Good g x4_6 := by
      exact good_setStrm (by assumption)
    clear_value x4_6
    have hx4_7 : Good g x4_7 := by
      exact good_set (by assumption)
    clear_value x4_7 x4_8
    have hx4_9 : Good g x4_9 := by
      refine ite_ind ?_ ?_
      · exact good_set (by assumption)
      · assumption
    clear_value x4_9
    refine good_refreshPins ?_
    refine ite_ind ?_ ?_
    · exact good_evtEvent (by assumption)
    · assumption

theorem good_rulesAt {a0 a1 a2} (h : Good g s) : Good g (rulesAt a0 a1 a2 s) := by
  delta rulesAt
  refine ite_ind ?_ ?_
  · assumption
  · refine good_forEach (fun _ _ _ => ?_) ?_
    · exact good_evalRule (by assumption)
    · assumption

theorem good_updTap {a0 a1 a2 a3} (h : Good g s) : Good g (updTap a0 a1 a2 a3 s) := by
  delta updTap
  exact good_updFrame (by assumption)

theorem good_tapEmit {a0 a1 a2 a3 a4} (h : Good g s) : Good g (tapEmit a0 a1 a2 a3 a4 s) := by
  delta tapEmit
  split
  · assumption
  · extract_lets +onlyGivenNames -merge -useContext -underBinder x4_0 x4_1 x4_2
    clear_value x4_0 x4_1 x4_2
    split
    · extract_lets +onlyGivenNames -merge -useContext -underBinder x6_0 x6_1 x6_2
      have hx6_0 : Good g x6_0 := by
        exact good_updCtx (by assumption)
      clear_value x6_0
      have hx6_1 : Good g x6_1 := by
        exact good_tapDeliver (by assumption)
      clear_value x6_1
      have hx6_2 : Good g x6_2 := by
        exact good_updTap (by assumption)
      clear_value x6_2
      refine ite_ind ?_ ?_
      · exact good_tapFinish (by assumption)
      · assumption

theorem good_tapRow {a0 a1 a2 a3 a4 a5} (h : Good g s) : Good g (tapRow a0 a1 a2 a3 a4 a5 s) := by
  delta tapRow
  split
  · assumption
  · extract_lets +onlyGivenNames -merge -useContext -underBinder x4_0
    clear_value x4_0
    refine ite_ind ?_ ?_
    · assumption
    · extract_lets +onlyGivenNames -merge -useContext -underBinder x6_0 x6_1 x6_2 x6_3 x6_4
      clear_value x6_0 x6_1
      have hx6_3 : Good g x6_3 := by
        exact good_updCtx (by assumption)
      clear_value x6_3 x6_4
      refine good_forEach (fun _ _ _ => ?_) ?_
      · exact good_tapEmit (by assumption)
      · assumption

theorem good_pixelRow {a0 a1 a2 a3 a4} (h : Good g s) : Good g (pixelRow a0 a1 a2 a3 a4 s) := by
  delta pixelRow
  split
  · assumption
  · extract_lets +onlyGivenNames -merge -useContext -underBinder x4_0 x4_1 x4_2
    clear_value x4_0 x4_1
    have hx4_2 : Good g x4_2 := by
      exact good_updCtx (by assumption)
    clear_value x4_2
    split
    · rename_i v4_0 v4_1 q4_0
      have hv4_1 : Good g v4_1 := good2_eq q4_0 (by
        exact good_tnrRow (by assumption))
      extract_lets +onlyGivenNames -merge -useContext -underBinder x6_0
      have hx6_0 : Good g x6_0 := by
        exact good_rulesAt (by assumption)
      clear_value x6_0
      refine good_forEach (fun _ _ _ => ?_) ?_
      · exact good_tapRow (by assumption)
      · assumption

theorem good_processRow {a0 a1 a2 a3 a4 a5} (h : Good g s) : Good g (processRow a0 a1 a2 a3 a4 a5 s) := by
  delta processRow
  split
  · rename_i v2_0 v2_1 q2_0
    have hv2_1 : Good g v2_1 := good2_eq q2_0 (by
      exact good_takeRows (by assumption))
    extract_lets +onlyGivenNames -merge -useContext -underBinder x4_0 x4_1
    have hx4_0 : Good g x4_0 := by
      exact good_noteMissing (by assumption)
    clear_value x4_0
    have hx4_1 : Good g x4_1 := by
      exact good_codeTaps (by assumption)
    clear_value x4_1
    split
    · assumption
    · split
      · rename_i v6_0 v6_1 q6_0
        have hv6_1 : Good g v6_1 := good2_eq q6_0 (by
          refine ite_ind ?_ ?_
          · exact good_yuvIn (by assumption)
          · exact good_rawRow (by assumption))
        extract_lets +onlyGivenNames -merge -useContext -underBinder x8_0
        have hx8_0 : Good g x8_0 := by
          exact good_updCtx (by assumption)
        clear_value x8_0
        refine good_forEach (fun _ _ _ => ?_) ?_
        · exact good_pixelRow (by assumption)
        · assumption

theorem good_frameReports {a0} (h : Good g s) : Good g (frameReports a0 s) := by
  delta frameReports
  extract_lets +onlyGivenNames -merge -useContext -underBinder x2_0 x2_1 x2_2 x2_3 x2_4
  clear_value x2_0
  have hx2_1 : Good g x2_1 := by
    exact good_setSat (by assumption)
  clear_value x2_1
  have hx2_2 : Good g x2_2 := by
    exact good_setSat (by assumption)
  clear_value x2_2
  have hx2_3 : Good g x2_3 := by
    exact good_setSat (by assumption)
  clear_value x2_3
  have hx2_4 : Good g x2_4 := by
    exact good_set (by assumption)
  clear_value x2_4
  refine ite_ind ?_ ?_
  · assumption
  · extract_lets +onlyGivenNames -merge -useContext -underBinder x4_0
    have hx4_0 : Good g x4_0 := by
      exact good_setSat (by assumption)
    clear_value x4_0
    refine ite_ind ?_ ?_
    · exact good_shutEvent (by assumption)
    · assumption

theorem good_framePartial {a0 a1} (h : Good g s) : Good g (framePartial a0 a1 s) := by
  delta framePartial
  split
  · assumption
  · extract_lets +onlyGivenNames -merge -useContext -underBinder x4_0 x4_1 x4_2
    have hx4_0 : Good g x4_0 := by
      refine good_forEach (fun _ _ _ => ?_) ?_
      · refine ite_ind ?_ ?_
        · exact good_tapFinish (by assumption)
        · exact good_dropTap (by assumption)
      · assumption
    clear_value x4_0 x4_1
    have hx4_2 : Good g x4_2 := by
      refine good_forEach (fun _ _ _ => ?_) ?_
      · exact good_returnBuf (by assumption)
      · assumption
    clear_value x4_2
    exact good_updFrame (by assumption)

theorem good_frameDone {a0 a1} (h : Good g s) : Good g (frameDone a0 a1 s) := by
  delta frameDone
  extract_lets +onlyGivenNames -merge -useContext -underBinder x2_0 x2_1 x2_2 x2_3 x2_4 x2_5 x2_6 x2_7 x2_8
  clear_value x2_0 x2_1 x2_2
  have hx2_3 : Good g x2_3 := by
    refine ite_ind ?_ ?_
    · exact good_set (by assumption)
    · assumption
  clear_value x2_3 x2_4
  have hx2_5 : Good g x2_5 := by
    exact good_updFrame (by assumption)
  clear_value x2_5 x2_6 x2_7
  have hx2_8 : Good g x2_8 := by
    refine ite_ind ?_ ?_
    · refine good_updFrame ?_
      exact good_setStrm (by assumption)
    · assumption
  clear_value x2_8
  refine ite_ind ?_ ?_
  · refine good_set ?_
    exact good_setStrm (by assumption)
  · assumption

theorem good_finishFrame {a0 a1 a2} (h : Good g s) : Good g (finishFrame a0 a1 a2 s) := by
  delta finishFrame
  extract_lets +onlyGivenNames -merge -useContext -underBinder x2_0 x2_1 x2_2 x2_3
  clear_value x2_0
  have hx2_1 : Good g x2_1 := by
    exact good_frameReports (by assumption)
  clear_value x2_1
  have hx2_2 : Good g x2_2 := by
    refine ite_ind ?_ ?_
    · exact good_framePartial (by assumption)
    · exact good_frameDone (by assumption)
  clear_value x2_2
  have hx2_3 : Good g x2_3 := by
    exact good_updFrame (by assumption)
  clear_value x2_3
  refine good_refreshStage ?_
  refine good_purge ?_
  exact good_strmStops (by assumption)

theorem good_class0Done {a0 a1 a2 a3 a4 a5} (h : Good g s) : Good g (class0Done a0 a1 a2 a3 a4 a5 s) := by
  delta class0Done
  extract_lets +onlyGivenNames -merge -useContext -underBinder x2_0 x2_1 x2_2 x2_3
  have hx2_0 : Good g x2_0 := by
    exact good_processRow (by assumption)
  clear_value x2_0 x2_1
  have hx2_2 : Good g x2_2 := by
    exact good_setBench (by assumption)
  clear_value x2_2
  have hx2_3 : Good g x2_3 := by
    unfold x2_3
    split
    · assumption
    · extract_lets +onlyGivenNames -merge -useContext -underBinder x6_0 x6_1
      clear_value x6_0
      have hx6_1 : Good g x6_1 := by
        refine ite_ind ?_ ?_
        · exact good_inc (by assumption)
        · assumption
      clear_value x6_1
      refine ite_ind ?_ ?_
      · exact good_finishFrame (by assumption)
      · refine ite_ind ?_ ?_
        · refine good_strmStops ?_
          exact good_endFrame (by assumption)
        · assumption
  clear_value x2_3
  refine good_refreshStrm ?_
  exact good_refreshBench (by assumption)

theorem good_benchRowDone {a0 a1 a2} (h : Good g s) : Good g (benchRowDone a0 a1 a2 s) := by
  delta benchRowDone
  extract_lets +onlyGivenNames -merge -useContext -underBinder x2_0
  clear_value x2_0
  split
  · exact good_class0Done (by assumption)
  · split
    · assumption
    · split
      · assumption
      · refine ite_ind ?_ ?_
        · assumption
        · extract_lets +onlyGivenNames -merge -useContext -underBinder x10_0 x10_1 x10_2 x10_3
          clear_value x10_0
          have hx10_1 : Good g x10_1 := by
            exact good_processRow (by assumption)
          clear_value x10_1 x10_2
          have hx10_3 : Good g x10_3 := by
            exact good_setBench (by assumption)
          clear_value x10_3
          refine good_refreshStage ?_
          refine ite_ind ?_ ?_
          · exact good_choose (by assumption)
          · assumption

theorem good_class0RowTake {a0 a1} (h : Good g s) : Good g (class0RowTake a0 a1 s) := by
  delta class0RowTake
  extract_lets +onlyGivenNames -merge -useContext -underBinder x2_0
  clear_value x2_0
  split
  · extract_lets +onlyGivenNames -merge -useContext -underBinder x4_0
    have hx4_0 : Good g x4_0 := by
      refine ite_ind ?_ ?_
      · exact good_strmBoundary (by assumption)
      · assumption
    clear_value x4_0
    refine ite_ind ?_ ?_
    · extract_lets +onlyGivenNames -merge -useContext -underBinder x6_0 x6_1
      have hx6_0 : Good g x6_0 := by
        refine ite_ind ?_ ?_
        · refine good_startFrame ?_
          exact good_loadGrid (by assumption)
        · assumption
      clear_value x6_0
      have hx6_1 : Good g x6_1 := by
        unfold x6_1
        split
        · refine ite_ind ?_ ?_
          · exact good_reserveSegs (by assumption)
          · assumption
        · assumption
      clear_value x6_1
      refine good_refreshStrm ?_
      refine good_refreshBench ?_
      exact good_setBench (by assumption)
    · assumption
  · assumption

theorem good_flushFrame {a0 a1 a2} (h : Good g s) : Good g (flushFrame a0 a1 a2 s) := by
  delta flushFrame
  split
  · assumption
  · extract_lets +onlyGivenNames -merge -useContext -underBinder x4_0 x4_1 x4_2 x4_3 x4_4 x4_5 x4_6 x4_7
    clear_value x4_0 x4_1 x4_2 x4_3
    have hx4_4 : Good g x4_4 := by
      refine good_forEach (fun _ _ _ => ?_) ?_
      · refine ite_ind ?_ ?_
        · extract_lets +onlyGivenNames -merge -useContext -underBinder x10_0
          clear_value x10_0
          exact good_setZraw (by assumption)
        · assumption
      · assumption
    clear_value x4_4 x4_5 x4_6 x4_7
    refine good_finishFrame ?_
    refine good_forEach (fun _ _ _ => ?_) ?_
    · exact good_pixelRow (by assumption)
    · assumption

theorem good_frameTruncated {a0 a1 a2 a3} (h : Good g s) : Good g (frameTruncated a0 a1 a2 a3 s) := by
  delta frameTruncated
  split
  · assumption
  · refine ite_ind ?_ ?_
    · assumption
    · extract_lets +onlyGivenNames -merge -useContext -underBinder x6_0 x6_1
      have hx6_0 : Good g x6_0 := by
        refine good_directCut ?_
        refine good_forEach (fun _ _ _ => ?_) ?_
        · exact good_dropTap (by assumption)
        · assumption
      clear_value x6_0
      have hx6_1 : Good g x6_1 := by
        exact good_updFrame (by assumption)
      clear_value x6_1
      refine ite_ind ?_ ?_
      · refine good_kick ?_
        refine good_strmStops ?_
        exact good_doomFrame (by assumption)
      · refine ite_ind ?_ ?_
        · refine good_kick ?_
          exact good_flushFrame (by assumption)
        · exact good_rowsChanged (by assumption)

theorem good_nextStripe {a0 a1} (h : Good g s) : Good g (nextStripe a0 a1 s) := by
  delta nextStripe
  split
  · exact good_startStripe (by assumption)
  · exact good_refreshBench (by assumption)
  · refine good_refreshBench ?_
    exact good_choose (by assumption)

theorem good_stripeComplete {a0 a1 a2 a3} (h : Good g s) : Good g (stripeComplete a0 a1 a2 a3 s) := by
  delta stripeComplete
  extract_lets +onlyGivenNames -merge -useContext -underBinder x2_0
  clear_value x2_0
  split
  · assumption
  · refine ite_ind ?_ ?_
    · assumption
    · extract_lets +onlyGivenNames -merge -useContext -underBinder x6_0 x6_1 x6_2
      have hx6_0 : Good g x6_0 := by
        exact good_updCtx (by assumption)
      clear_value x6_0
      have hx6_1 : Good g x6_1 := by
        refine good_inc ?_
        exact good_setBench (by assumption)
      clear_value x6_1
      have hx6_2 : Good g x6_2 := by
        unfold x6_2
        split
        · assumption
        · extract_lets +onlyGivenNames -merge -useContext -underBinder x10_0 x10_1
          have hx10_0 : Good g x10_0 := by
            refine ite_ind ?_ ?_
            · refine good_shutEvent ?_
              refine good_inc ?_
              exact good_flagFrame (by assumption)
            · assumption
          clear_value x10_0
          have hx10_1 : Good g x10_1 := by
            exact good_updFrame (by assumption)
          clear_value x10_1
          refine ite_ind ?_ ?_
          · refine good_strmStops ?_
            exact good_dropFrame (by assumption)
          · refine ite_ind ?_ ?_
            · refine good_strmStops ?_
              exact good_endFrame (by assumption)
            · refine ite_ind ?_ ?_
              · refine ite_ind ?_ ?_
                · exact good_finishFrame (by assumption)
                · exact good_flushFrame (by assumption)
              · assumption
      clear_value x6_2
      refine good_kick ?_
      refine good_nextStripe ?_
      exact good_refreshStrm (by assumption)

end Sys2Proof.Machine
end

