-- ==== Sys2Proof/Laws/KeepRecords.lean ====
section
/-! SUPPORT. Every operation of Records.lean keeps a state good: sound, its queue untouched, nothing sent taken back. -/

namespace Sys2Proof.Machine

variable {g : Ghost} {s : State}

theorem good_gridReady {a0} (h : Good g s) : Good g (gridReady a0 s) := by
  delta gridReady
  split
  · assumption
  · extract_lets +onlyGivenNames -merge -useContext -underBinder x4_0 x4_1 x4_2 x4_3 x4_4
    clear_value x4_0
    have hx4_1 : Good g x4_1 := by
      exact good_set (by assumption)
    clear_value x4_1
    have hx4_2 : Good g x4_2 := by
      exact good_dramWrite (by assumption)
    clear_value x4_2 x4_3
    have hx4_4 : Good g x4_4 := by
      exact good_setStrm (by assumption)
    clear_value x4_4
    refine good_purge ?_
    refine good_lutmEvent ?_
    exact good_updFrame (by assumption)

theorem good_setLutValid {a0 a1} (h : Good g s) : Good g (setLutValid a0 a1 s) := by
  delta setLutValid
  refine ite_ind ?_ ?_
  · exact good_set (by assumption)
  · exact good_set (by assumption)

theorem good_lutLoad {a0} (h : Good g s) : Good g (lutLoad a0 s) := by
  delta lutLoad
  extract_lets +onlyGivenNames -merge -useContext -underBinder x2_0
  have hx2_0 : Good g x2_0 := by
    refine good_set ?_
    exact good_set (by assumption)
  clear_value x2_0
  refine good_setState ?_
  exact good_setLutValid (by assumption)

theorem good_lutLoaded {a0 a1 a2} (h : Good g s) : Good g (lutLoaded a0 a1 a2 s) := by
  delta lutLoaded
  extract_lets +onlyGivenNames -merge -useContext -underBinder x2_0 x2_1 x2_2 x2_3 x2_4
  clear_value x2_0 x2_1
  have hx2_2 : Good g x2_2 := by
    refine good_setState ?_
    exact good_set (by assumption)
  clear_value x2_2
  have hx2_3 : Good g x2_3 := by
    exact good_set (by assumption)
  clear_value x2_3
  have hx2_4 : Good g x2_4 := by
    exact good_set (by assumption)
  clear_value x2_4
  refine ite_ind ?_ ?_
  · refine good_raise ?_
    exact good_logError (by assumption)
  · refine good_raise ?_
    refine good_setLutValid ?_
    refine good_upd_lutSlots ?_
    assumption

theorem good_lutLoadEnd (h : Good g s) : Good g (lutLoadEnd s) := by
  delta lutLoadEnd
  refine ite_ind ?_ ?_
  · assumption
  · extract_lets +onlyGivenNames -merge -useContext -underBinder x4_0 x4_1 x4_2
    clear_value x4_0 x4_1
    have hx4_2 : Good3 g x4_2 := by
      exact good_dramRead (by assumption)
    clear_value x4_2
    refine good_lutLoaded ?_
    show Good3 g _
    assumption

theorem good_pinFailsafe {a0} (h : Good g s) : Good g (pinFailsafe a0 s) := by
  delta pinFailsafe
  refine ite_ind ?_ ?_
  · assumption
  · extract_lets +onlyGivenNames -merge -useContext -underBinder x4_0
    have hx4_0 : Good g x4_0 := by
      exact good_set (by assumption)
    clear_value x4_0
    refine good_raise ?_
    refine good_refreshPins ?_
    exact good_set (by assumption)

theorem good_segReady {a0} (h : Good g s) : Good g (segReady a0 s) := by
  delta segReady
  split
  · assumption
  · extract_lets +onlyGivenNames -merge -useContext -underBinder x4_0
    clear_value x4_0
    refine ite_ind ?_ ?_
    · assumption
    · refine good_purge ?_
      exact good_segWrite (by assumption)

theorem good_statsReady {a0} (h : Good g s) : Good g (statsReady a0 s) := by
  delta statsReady
  split
  · assumption
  · split
    · assumption
    · extract_lets +onlyGivenNames -merge -useContext -underBinder x6_0 x6_1 x6_2 x6_3 x6_4
      clear_value x6_0
      have hx6_1 : Good g x6_1 := by
        exact good_dramWrite (by assumption)
      clear_value x6_1 x6_2
      have hx6_3 : Good g x6_3 := by
        exact good_updFrame (by assumption)
      clear_value x6_3
      have hx6_4 : Good g x6_4 := by
        refine ite_ind ?_ ?_
        · refine good_evtEvent ?_
          exact good_set (by assumption)
        · assumption
      clear_value x6_4
      exact good_purge (by assumption)

theorem good_tapComplete {a0 a1} (h : Good g s) : Good g (tapComplete a0 a1 s) := by
  delta tapComplete
  split
  · assumption
  · split
    · assumption
    · extract_lets +onlyGivenNames -merge -useContext -underBinder x6_0 x6_1
      have hx6_0 : Good g x6_0 := by
        exact good_updFrame (by assumption)
      clear_value x6_0
      have hx6_1 : Good g x6_1 := by
        exact good_inc (by assumption)
      clear_value x6_1
      refine good_purge ?_
      exact good_completeBuf (by assumption)

end Sys2Proof.Machine
end

