-- ==== Sys2Proof/Laws/KeepCam.lean ====
section
/-! SUPPORT. Every operation of Cam.lean keeps a state good: sound, its queue untouched, nothing sent taken back. -/

namespace Sys2Proof.Machine

variable {g : Ghost} {s : State}

theorem good_phyRestart {a0} (h : Good g s) : Good g (phyRestart a0 s) := by
  delta phyRestart
  extract_lets +onlyGivenNames -merge -useContext -underBinder x2_0 x2_1 x2_2
  have hx2_1 : Good g x2_1 := by
    exact good_set (by assumption)
  clear_value x2_1
  have hx2_2 : Good g x2_2 := by
    refine good_set ?_
    refine good_set ?_
    exact good_set (by assumption)
  clear_value x2_2
  exact good_setState (by assumption)

theorem good_putAsm {a0 a1 a2} (h : Good g s) : Good g (putAsm a0 a1 a2 s) := by
  delta putAsm
  extract_lets +onlyGivenNames -merge -useContext -underBinder x2_0
  have hx2_0 : Good g x2_0 := by
    exact good_setAsm (by assumption)
  clear_value x2_0
  refine ite_ind ?_ ?_
  · exact good_setState (by assumption)
  · exact good_set (by assumption)

theorem good_entApplied {a0 a1 a2 a3} (h : Good g s) : Good g (entApplied a0 a1 a2 a3 s) := by
  delta entApplied
  extract_lets +onlyGivenNames -merge -useContext -underBinder x2_0 x2_1 x2_2
  clear_value x2_0 x2_1 x2_2
  refine ite_ind ?_ ?_
  · exact good_putAsm (by assumption)
  · refine ite_ind ?_ ?_
    · exact good_putAsm (by assumption)
    · exact good_putAsm (by assumption)

theorem good_applyPort {a0 a1} (h : Good g s) : Good g (applyPort a0 a1 s) := by
  delta applyPort
  extract_lets +onlyGivenNames -merge -useContext -underBinder x2_0 x2_1 x2_2 x2_3 x2_4 x2_5 x2_6
  clear_value x2_0 x2_1 x2_2 x2_3
  have hx2_4 : Good g x2_4 := by
    exact good_applyGroup (by assumption)
  clear_value x2_4
  have hx2_5 : Good g x2_5 := by
    refine ite_ind ?_ ?_
    · exact good_phyRestart (by assumption)
    · assumption
  clear_value x2_5
  have hx2_6 : Good g x2_6 := by
    refine good_forEach (fun _ _ _ => ?_) ?_
    · exact good_entApplied (by assumption)
    · assumption
  clear_value x2_6
  refine good_kick ?_
  exact good_commitDone (by assumption)

theorem good_portBoundary {a0 a1} (h : Good g s) : Good g (portBoundary a0 a1 s) := by
  delta portBoundary
  extract_lets +onlyGivenNames -merge -useContext -underBinder x2_0
  refine ite_ind ?_ ?_
  · exact good_applyPort (by assumption)
  · assumption

theorem good_setEnt {a0 a1 a2 a3 a4} (h : Good g s) : Good g (setEnt a0 a1 a2 a3 a4 s) := by
  delta setEnt
  exact good_set (by assumption)

theorem good_entEvent {a0 a1 a2} (h : Good g s) : Good g (entEvent a0 a1 a2 s) := by
  delta entEvent
  refine good_raise ?_
  refine ite_ind ?_ ?_
  · assumption
  · exact good_set (by assumption)

theorem good_incEnt {a0 a1 a2 a3 a4} (h : Good g s) : Good g (incEnt a0 a1 a2 a3 a4 s) := by
  delta incEnt
  exact good_incBy (by assumption)

theorem good_intervalCheck {a0 a1 a2 a3 a4} (h : Good g s) : Good3 g (intervalCheck a0 a1 a2 a3 a4 s) := by
  delta intervalCheck
  extract_lets +onlyGivenNames -merge -useContext -underBinder x2_0
  clear_value x2_0
  split
  · refine good3_mk ?_
    assumption
  · extract_lets +onlyGivenNames -merge -useContext -underBinder x4_0 x4_1 x4_2 x4_3
    clear_value x4_0 x4_1
    have hx4_2 : Good g x4_2 := by
      exact good_setEnt (by assumption)
    clear_value x4_2
    have hx4_3 : Good g x4_3 := by
      exact good_setEnt (by assumption)
    clear_value x4_3
    refine ite_ind ?_ ?_
    · refine good3_mk ?_
      assumption
    · split
      · extract_lets +onlyGivenNames -merge -useContext -underBinder x8_0 x8_1
        clear_value x8_0
        refine ite_ind ?_ ?_
        · refine good3_mk ?_
          refine good_entEvent ?_
          exact good_incEnt (by assumption)
        · extract_lets +onlyGivenNames -merge -useContext -underBinder x10_0 x10_1 x10_2 x10_3
          clear_value x10_0 x10_1 x10_2 x10_3
          refine ite_ind ?_ ?_
          · refine good3_mk ?_
            exact good_entEvent (by assumption)
          · refine good3_mk ?_
            assumption

theorem good_shedFrame {a0} (h : Good g s) : Good3 g (shedFrame a0 s) := by
  delta shedFrame
  extract_lets +onlyGivenNames -merge -useContext -underBinder x2_0
  clear_value x2_0
  split
  · extract_lets +onlyGivenNames -merge -useContext -underBinder x4_0
    have hx4_0 : Good g x4_0 := by
      refine good_forEach (fun _ _ _ => ?_) ?_
      · exact good_doomFrame (by assumption)
      · assumption
    clear_value x4_0
    refine good3_mk ?_
    exact good_setStrm (by assumption)
  · refine ite_ind ?_ ?_
    · refine good3_mk ?_
      exact good_setStrm (by assumption)
    · refine good3_mk ?_
      exact good_setStrm (by assumption)
  · refine good3_mk ?_
    exact good_setStrm (by assumption)

theorem good_openFrame {a0 a1 a2 a3} (h : Good g s) : Good g (openFrame a0 a1 a2 a3 s) := by
  delta openFrame
  extract_lets +onlyGivenNames -merge -useContext -underBinder x2_0
  clear_value x2_0
  split
  · rename_i v2_0 v2_1 v2_2 q2_0
    have hv2_2 : Good g v2_2 := good3_eq q2_0 (by
      exact good_intervalCheck (by assumption))
    extract_lets +onlyGivenNames -merge -useContext -underBinder x4_0 x4_1 x4_2 x4_3 x4_4
    clear_value x4_0
    have hx4_1 : Good g x4_1 := by
      exact good_set (by assumption)
    clear_value x4_1
    have hx4_2 : Good g x4_2 := by
      exact good_setEnt (by assumption)
    clear_value x4_2 x4_3
    have hx4_4 : Good g x4_4 := by
      exact good_putAsm (by assumption)
    clear_value x4_4
    split
    · rename_i v4_0 v4_1 v4_2 v4_3 q4_0
      have hv4_3 : Good g v4_3 := good4_eq q4_0 (by
        exact good_captureFrame (by assumption))
      split
      · rename_i v6_0 v6_1 v6_2 q6_0
        have hv6_2 : Good g v6_2 := good3_eq q6_0 (by
          refine ite_ind ?_ ?_
          · exact good_shedFrame (by assumption)
          · refine good3_mk ?_
            assumption)
        extract_lets +onlyGivenNames -merge -useContext -underBinder x8_0 x8_1 x8_2 x8_3 x8_4 x8_5 x8_6 x8_7 x8_8
        clear_value x8_0 x8_1 x8_2 x8_3 x8_4 x8_5 x8_6
        have hx8_7 : Good g x8_7 := by
          exact good_setStrm (by assumption)
        clear_value x8_7
        have hx8_8 : Good g x8_8 := by
          refine ite_ind ?_ ?_
          · assumption
          · exact good_directStart (by assumption)
        clear_value x8_8
        refine good_kick ?_
        refine good_purge ?_
        exact good_entEvent (by assumption)

theorem good_joinFrame {a0 a1 a2 a3} (h : Good g s) : Good g (joinFrame a0 a1 a2 a3 s) := by
  delta joinFrame
  extract_lets +onlyGivenNames -merge -useContext -underBinder x2_0 x2_1
  clear_value x2_0 x2_1
  split
  · assumption
  · extract_lets +onlyGivenNames -merge -useContext -underBinder x4_0
    clear_value x4_0
    split
    · assumption
    · extract_lets +onlyGivenNames -merge -useContext -underBinder x6_0
      clear_value x6_0
      refine ite_ind ?_ ?_
      · assumption
      · extract_lets +onlyGivenNames -merge -useContext -underBinder x8_0 x8_1 x8_2
        have hx8_0 : Good g x8_0 := by
          exact good_setEnt (by assumption)
        clear_value x8_0
        have hx8_1 : Good g x8_1 := by
          exact good_updFrame (by assumption)
        clear_value x8_1 x8_2
        refine good_entEvent ?_
        exact good_putAsm (by assumption)

theorem good_actStart {a0 a1 a2 a3} (h : Good g s) : Good g (actStart a0 a1 a2 a3 s) := by
  delta actStart
  extract_lets +onlyGivenNames -merge -useContext -underBinder x2_0
  have hx2_0 : Good g x2_0 := by
    exact good_portBoundary (by assumption)
  clear_value x2_0
  refine ite_ind ?_ ?_
  · assumption
  · refine ite_ind ?_ ?_
    · exact good_openFrame (by assumption)
    · exact good_joinFrame (by assumption)

theorem good_closeAsm {a0 a1 a2 a3 a4} (h : Good g s) : Good g (closeAsm a0 a1 a2 a3 a4 s) := by
  delta closeAsm
  extract_lets +onlyGivenNames -merge -useContext -underBinder x2_0
  clear_value x2_0
  exact good_putAsm (by assumption)

theorem good_compareAlive {a0 a1 a2 a3} (h : Good g s) : Good3 g (compareAlive a0 a1 a2 a3 s) := by
  delta compareAlive
  split
  · extract_lets +onlyGivenNames -merge -useContext -underBinder x4_0
    clear_value x4_0
    refine ite_ind ?_ ?_
    · refine good3_mk ?_
      exact good_entEvent (by assumption)
    · refine ite_ind ?_ ?_
      · refine good3_mk ?_
        exact good_incEnt (by assumption)
      · refine good3_mk ?_
        assumption
  · refine good3_mk ?_
    assumption
  · refine good3_mk ?_
    assumption

theorem good_giveRow {a0 a1 a2 a3 a4 a5 a6 a7} (h : Good g s) : Good g (giveRow a0 a1 a2 a3 a4 a5 a6 a7 s) := by
  delta giveRow
  extract_lets +onlyGivenNames -merge -useContext -underBinder x2_0 x2_1 x2_2 x2_3 x2_4 x2_5
  clear_value x2_0 x2_1 x2_2 x2_3
  have hx2_4 : Good g x2_4 := by
    exact good_putAsm (by assumption)
  clear_value x2_4
  have hx2_5 : Good g x2_5 := by
    refine ite_ind ?_ ?_
    · exact good_updFrame (by assumption)
    · assumption
  clear_value x2_5
  exact good_rowArrives (by assumption)

theorem good_discardLine {a0 a1 a2 a3 a4 a5} (h : Good g s) : Good g (discardLine a0 a1 a2 a3 a4 a5 s) := by
  delta discardLine
  extract_lets +onlyGivenNames -merge -useContext -underBinder x2_0 x2_1 x2_2 x2_3 x2_4
  clear_value x2_0 x2_1
  have hx2_2 : Good g x2_2 := by
    exact good_incEnt (by assumption)
  clear_value x2_2
  have hx2_3 : Good g x2_3 := by
    refine good_entEvent ?_
    exact good_flagFrame (by assumption)
  clear_value x2_3
  have hx2_4 : Good g x2_4 := by
    exact good_putAsm (by assumption)
  clear_value x2_4
  refine ite_ind ?_ ?_
  · exact good_closeAsm (by assumption)
  · refine ite_ind ?_ ?_
    · extract_lets +onlyGivenNames -merge -useContext -underBinder x6_0
      clear_value x6_0
      exact good_giveRow (by assumption)
    · refine good_rowLost ?_
      exact good_putAsm (by assumption)

theorem good_unmappedPacket {a0} (h : Good g s) : Good g (unmappedPacket a0 s) := by
  delta unmappedPacket
  refine good_raise ?_
  exact good_inc (by assumption)

theorem good_metaAppend {a0 a1 a2 a3} (h : Good g s) : Good g (metaAppend a0 a1 a2 a3 s) := by
  delta metaAppend
  extract_lets +onlyGivenNames -merge -useContext -underBinder x2_0
  clear_value x2_0
  split
  · assumption
  · extract_lets +onlyGivenNames -merge -useContext -underBinder x4_0 x4_1 x4_2
    clear_value x4_0 x4_1
    have hx4_2 : Good g x4_2 := by
      exact good_updFrame (by assumption)
    clear_value x4_2
    refine ite_ind ?_ ?_
    · assumption
    · refine good_evtEvent ?_
      exact good_inc (by assumption)

theorem good_embeddedData {a0 a1 a2 a3} (h : Good g s) : Good g (embeddedData a0 a1 a2 a3 s) := by
  delta embeddedData
  extract_lets +onlyGivenNames -merge -useContext -underBinder x2_0
  clear_value x2_0
  split
  · exact good_unmappedPacket (by assumption)
  · extract_lets +onlyGivenNames -merge -useContext -underBinder x4_0
    clear_value x4_0
    refine ite_ind ?_ ?_
    · assumption
    · extract_lets +onlyGivenNames -merge -useContext -underBinder x6_0
      clear_value x6_0
      refine good_metaAppend ?_
      exact good_putAsm (by assumption)

theorem good_settleFrame {a0 a1 a2} (h : Good g s) : Good g (settleFrame a0 a1 a2 s) := by
  delta settleFrame
  extract_lets +onlyGivenNames -merge -useContext -underBinder x2_0 x2_1 x2_2
  clear_value x2_0 x2_1 x2_2
  split
  · split
    · rename_i v4_0 v4_1 v4_2 q4_0
      have hv4_2 : Good g v4_2 := good3_eq q4_0 (by
        exact good_compareAlive (by assumption))
      extract_lets +onlyGivenNames -merge -useContext -underBinder x6_0 x6_1 x6_2 x6_3
      have hx6_0 : Good g x6_0 := by
        exact good_setEnt (by assumption)
      clear_value x6_0
      have hx6_1 : Good g x6_1 := by
        exact good_setEnt (by assumption)
      clear_value x6_1
      have hx6_2 : Good g x6_2 := by
        refine ite_ind ?_ ?_
        · refine good_entEvent ?_
          exact good_incEnt (by assumption)
        · assumption
      clear_value x6_2 x6_3
      split
      · rename_i v6_0 v6_1 q6_0
        have hv6_1 : Good g v6_1 := good2_eq q6_0 (by
          split
          · exact good_compareEcho (by assumption)
          · refine good2_mk ?_
            assumption)
        extract_lets +onlyGivenNames -merge -useContext -underBinder x8_0 x8_1 x8_2 x8_3 x8_4
        have hx8_0 : Good g x8_0 := by
          refine ite_ind ?_ ?_
          · refine good_entEvent ?_
            exact good_incEnt (by assumption)
          · exact good_entEvent (by assumption)
        clear_value x8_0
        have hx8_1 : Good g x8_1 := by
          exact good_putAsm (by assumption)
        clear_value x8_1
        have hx8_2 : Good g x8_2 := by
          exact good_updFrame (by assumption)
        clear_value x8_2
        have hx8_3 : Good g x8_3 := by
          exact good_exposureEnds (by assumption)
        clear_value x8_3
        refine good_purge ?_
        refine ite_ind ?_ ?_
        · exact good_frameTruncated (by assumption)
        · assumption

theorem good_frameClose {a0 a1 a2} (h : Good g s) : Good g (frameClose a0 a1 a2 s) := by
  delta frameClose
  extract_lets +onlyGivenNames -merge -useContext -underBinder x2_0
  clear_value x2_0
  refine ite_ind ?_ ?_
  · assumption
  · extract_lets +onlyGivenNames -merge -useContext -underBinder x4_0 x4_1 x4_2 x4_3 x4_4 x4_5
    clear_value x4_0
    have hx4_1 : Good g x4_1 := by
      refine ite_ind ?_ ?_
      · assumption
      · exact good_entEvent (by assumption)
    clear_value x4_1
    have hx4_2 : Good g x4_2 := by
      refine ite_ind ?_ ?_
      · exact good_settleFrame (by assumption)
      · refine good_exposureEnds ?_
        exact good_putAsm (by assumption)
    clear_value x4_2 x4_3
    have hx4_4 : Good g x4_4 := by
      exact good_putAsm (by assumption)
    clear_value x4_4
    have hx4_5 : Good g x4_5 := by
      exact good_portBoundary (by assumption)
    clear_value x4_5
    split
    · refine ite_ind ?_ ?_
      · exact good_actStart (by assumption)
      · assumption
    · assumption

theorem good_frameEnd {a0 a1 a2} (h : Good g s) : Good g (frameEnd a0 a1 a2 s) := by
  delta frameEnd
  extract_lets +onlyGivenNames -merge -useContext -underBinder x2_0
  clear_value x2_0
  refine ite_ind ?_ ?_
  · exact good_closeAsm (by assumption)
  · assumption

theorem good_frameStart {a0 a1 a2 a3 a4} (h : Good g s) : Good g (frameStart a0 a1 a2 a3 a4 s) := by
  delta frameStart
  extract_lets +onlyGivenNames -merge -useContext -underBinder x2_0
  clear_value x2_0
  split
  · exact good_actStart (by assumption)
  · exact good_closeAsm (by assumption)
  · refine ite_ind ?_ ?_
    · assumption
    · exact good_putAsm (by assumption)
  · assumption

theorem good_hdrMissing {a0 a1 a2} (h : Good g s) : Good g (hdrMissing a0 a1 a2 s) := by
  delta hdrMissing
  extract_lets +onlyGivenNames -merge -useContext -underBinder x2_0 x2_1
  clear_value x2_0 x2_1
  split
  · assumption
  · extract_lets +onlyGivenNames -merge -useContext -underBinder x4_0
    clear_value x4_0
    split
    · assumption
    · extract_lets +onlyGivenNames -merge -useContext -underBinder x6_0
      clear_value x6_0
      refine ite_ind ?_ ?_
      · assumption
      · refine good_entEvent ?_
        exact good_exposureEnds (by assumption)

theorem good_lineReceived {a0 a1 a2 a3 a4 a5 a6 a7 a8} (h : Good g s) : Good g (lineReceived a0 a1 a2 a3 a4 a5 a6 a7 a8 s) := by
  delta lineReceived
  extract_lets +onlyGivenNames -merge -useContext -underBinder x2_0 x2_1
  clear_value x2_0 x2_1
  refine ite_ind ?_ ?_
  · assumption
  · extract_lets +onlyGivenNames -merge -useContext -underBinder x4_0
    clear_value x4_0
    refine ite_ind ?_ ?_
    · refine ite_ind ?_ ?_
      · extract_lets +onlyGivenNames -merge -useContext -underBinder x8_0 x8_1 x8_2
        have hx8_0 : Good g x8_0 := by
          exact good_incEnt (by assumption)
        clear_value x8_0
        have hx8_1 : Good g x8_1 := by
          refine good_entEvent ?_
          exact good_flagFrame (by assumption)
        clear_value x8_1
        have hx8_2 : Good g x8_2 := by
          exact good_putAsm (by assumption)
        clear_value x8_2
        refine ite_ind ?_ ?_
        · exact good_closeAsm (by assumption)
        · assumption
      · extract_lets +onlyGivenNames -merge -useContext -underBinder x8_0
        clear_value x8_0
        refine good_metaAppend ?_
        exact good_putAsm (by assumption)
    · refine ite_ind ?_ ?_
      · refine good_incEnt ?_
        exact good_putAsm (by assumption)
      · refine ite_ind ?_ ?_
        · exact good_discardLine (by assumption)
        · extract_lets +onlyGivenNames -merge -useContext -underBinder x10_0 x10_1 x10_2
          clear_value x10_0 x10_1 x10_2
          exact good_giveRow (by assumption)

theorem good_lineTimeout {a0 a1 a2 a3} (h : Good g s) : Good g (lineTimeout a0 a1 a2 a3 s) := by
  delta lineTimeout
  extract_lets +onlyGivenNames -merge -useContext -underBinder x2_0 x2_1
  clear_value x2_0 x2_1
  refine ite_ind ?_ ?_
  · exact good_closeAsm (by assumption)
  · assumption

theorem good_noFrame {a0 a1 a2} (h : Good g s) : Good g (noFrame a0 a1 a2 s) := by
  delta noFrame
  extract_lets +onlyGivenNames -merge -useContext -underBinder x2_0 x2_1
  clear_value x2_0 x2_1
  refine ite_ind ?_ ?_
  · assumption
  · refine good_entEvent ?_
    exact good_putAsm (by assumption)

theorem good_packetError {a0 a1} (h : Good g s) : Good g (packetError a0 a1 s) := by
  delta packetError
  split
  · exact good_inc (by assumption)
  · refine good_raise ?_
    exact good_inc (by assumption)
  · exact good_inc (by assumption)
  · exact good_unmappedPacket (by assumption)

theorem good_pclkGlitch {a0 a1} (h : Good g s) : Good g (pclkGlitch a0 a1 s) := by
  delta pclkGlitch
  extract_lets +onlyGivenNames -merge -useContext -underBinder x2_0 x2_1
  clear_value x2_0 x2_1
  refine ite_ind ?_ ?_
  · assumption
  · extract_lets +onlyGivenNames -merge -useContext -underBinder x4_0
    have hx4_0 : Good g x4_0 := by
      refine ite_ind ?_ ?_
      · exact good_flagFrame (by assumption)
      · assumption
    clear_value x4_0
    exact good_entEvent (by assumption)

theorem good_phyDeskew {a0} (h : Good g s) : Good g (phyDeskew a0 s) := by
  delta phyDeskew
  refine ite_ind ?_ ?_
  · exact good_set (by assumption)
  · assumption

theorem good_phyError {a0 a1} (h : Good g s) : Good g (phyError a0 a1 s) := by
  delta phyError
  refine good_raise ?_
  refine ite_ind ?_ ?_
  · exact good_inc (by assumption)
  · assumption

theorem good_phyLanes {a0 a1 a2 a3} (h : Good g s) : Good g (phyLanes a0 a1 a2 a3 s) := by
  delta phyLanes
  extract_lets +onlyGivenNames -merge -useContext -underBinder x2_0 x2_1
  have hx2_0 : Good g x2_0 := by
    exact good_set (by assumption)
  clear_value x2_0
  have hx2_1 : Good g x2_1 := by
    refine good_set ?_
    exact good_set (by assumption)
  clear_value x2_1
  exact good_setState (by assumption)

theorem good_resetPort {a0 a1} (h : Good g s) : Good g (resetPort a0 a1 s) := by
  delta resetPort
  refine good_forEach (fun _ _ _ => ?_) ?_
  · extract_lets +onlyGivenNames -merge -useContext -underBinder x4_0 x4_1 x4_2 x4_3 x4_4
    clear_value x4_0 x4_1 x4_2
    have hx4_3 : Good g x4_3 := by
      exact good_updFrame (by assumption)
    clear_value x4_3
    have hx4_4 : Good g x4_4 := by
      refine ite_ind ?_ ?_
      · refine ite_ind ?_ ?_
        · refine good_purge ?_
          refine good_frameTruncated ?_
          exact good_exposureEnds (by assumption)
        · exact good_exposureEnds (by assumption)
      · assumption
    clear_value x4_4
    exact good_setAsm (by assumption)
  · assumption

end Sys2Proof.Machine
end

