-- ==== Sys2Proof/Laws/KeepCompose.lean ====
section
/-! SUPPORT. Every operation of Compose.lean keeps a state good: sound, its queue untouched, nothing sent taken back. -/

namespace Sys2Proof.Machine

variable {g : Ghost} {s : State}

theorem good_setHead {a1 a2} (h : Good g s) : Good g (State.setHead s a1 a2) := by
  delta State.setHead
  refine good_upd_heads ?_
  assumption

theorem good_setLay {a1 a2} (h : Good g s) : Good g (State.setLay s a1 a2) := by
  delta State.setLay
  refine good_upd_lays ?_
  assumption

end Sys2Proof.Machine
end

