-- ==== Sys2Proof/Laws/KeepPorts.lean ====
section
/-! SUPPORT. Every operation of Ports.lean keeps a state good: sound, its queue untouched, nothing sent taken back. -/

namespace Sys2Proof.Machine

variable {g : Ghost} {s : State}

theorem good_setDpo {a1 a2} (h : Good g s) : Good g (State.setDpo s a1 a2) := by
  delta State.setDpo
  refine good_upd_dpos ?_
  assumption

theorem good_dpoEvent {a0 a1} (h : Good g s) : Good g (dpoEvent a0 a1 s) := by
  delta dpoEvent
  exact good_raise (by assumption)

theorem good_showLink {a0 a1} (h : Good g s) : Good g (showLink a0 a1 s) := by
  delta showLink
  split
  · refine good_set ?_
    exact good_set (by assumption)

theorem good_showDpo {a0 a1} (h : Good g s) : Good g (showDpo a0 a1 s) := by
  delta showDpo
  exact good_setState (by assumption)

theorem good_ladderDone {a0} (h : Good g s) : Good g (ladderDone a0 s) := by
  delta ladderDone
  extract_lets +onlyGivenNames -merge -useContext -underBinder x2_0 x2_1
  clear_value x2_0
  have hx2_1 : Good g x2_1 := by
    exact good_setDpo (by assumption)
  clear_value x2_1
  refine good_dpoEvent ?_
  refine good_showDpo ?_
  exact good_logError (by assumption)

theorem good_attemptEnd {a0 a1} (h : Good g s) : Good g (attemptEnd a0 a1 s) := by
  delta attemptEnd
  extract_lets +onlyGivenNames -merge -useContext -underBinder x2_0
  clear_value x2_0
  refine ite_ind ?_ ?_
  · assumption
  · split
    · assumption
    · refine ite_ind ?_ ?_
      · extract_lets +onlyGivenNames -merge -useContext -underBinder x8_0 x8_1
        have hx8_0 : Good g x8_0 := by
          refine good_dpoEvent ?_
          refine good_showLink ?_
          exact good_setDpo (by assumption)
        clear_value x8_0
        have hx8_1 : Good g x8_1 := by
          refine ite_ind ?_ ?_
          · refine good_dpoEvent ?_
            exact good_inc (by assumption)
          · assumption
        clear_value x8_1
        refine ite_ind ?_ ?_
        · exact good_setDpo (by assumption)
        · exact good_showDpo (by assumption)
      · extract_lets +onlyGivenNames -merge -useContext -underBinder x8_0
        have hx8_0 : Good g x8_0 := by
          refine good_inc ?_
          exact good_setDpo (by assumption)
        clear_value x8_0
        refine ite_ind ?_ ?_
        · exact good_ladderDone (by assumption)
        · assumption

theorem good_auxBegin {a0} (h : Good g s) : Good g (auxBegin a0 s) := by
  delta auxBegin
  split
  · extract_lets +onlyGivenNames -merge -useContext -underBinder x4_0 x4_1 x4_2 x4_3
    clear_value x4_0 x4_1 x4_2
    have hx4_3 : Good g x4_3 := by
      exact good_setDpo (by assumption)
    clear_value x4_3
    exact good_emit (by assumption)
  · assumption

theorem good_auxEnd {a0 a1 a2} (h : Good g s) : Good g (auxEnd a0 a1 a2 s) := by
  delta auxEnd
  extract_lets +onlyGivenNames -merge -useContext -underBinder x2_0 x2_1 x2_2 x2_3
  clear_value x2_0
  have hx2_1 : Good g x2_1 := by
    exact good_setDpo (by assumption)
  clear_value x2_1
  have hx2_2 : Good g x2_2 := by
    refine good_set ?_
    refine good_set ?_
    exact good_set (by assumption)
  clear_value x2_2
  have hx2_3 : Good g x2_3 := by
    refine ite_ind ?_ ?_
    · exact good_logError (by assumption)
    · assumption
  clear_value x2_3
  exact good_dpoEvent (by assumption)

theorem good_auxDone {a0 a1 a2} (h : Good g s) : Good g (auxDone a0 a1 a2 s) := by
  delta auxDone
  split
  · refine ite_ind ?_ ?_
    · exact good_auxEnd (by assumption)
    · extract_lets +onlyGivenNames -merge -useContext -underBinder x6_0 x6_1 x6_2 x6_3
      clear_value x6_0 x6_1 x6_2
      have hx6_3 : Good g x6_3 := by
        refine good_forEach (fun _ _ _ => ?_) ?_
        · exact good_set (by assumption)
        · assumption
      clear_value x6_3
      exact good_auxEnd (by assumption)
  · assumption

theorem good_auxRun {a0} (h : Good g s) : Good g (auxRun a0 s) := by
  delta auxRun
  refine ite_ind ?_ ?_
  · assumption
  · exact good_auxBegin (by assumption)

theorem good_beginLadder {a0} (h : Good g s) : Good g (beginLadder a0 s) := by
  delta beginLadder
  extract_lets +onlyGivenNames -merge -useContext -underBinder x2_0 x2_1 x2_2
  clear_value x2_0 x2_1
  have hx2_2 : Good g x2_2 := by
    exact good_setDpo (by assumption)
  clear_value x2_2
  refine ite_ind ?_ ?_
  · exact good_ladderDone (by assumption)
  · assumption

theorem good_enterTraining {a0 a1 a2} (h : Good g s) : Good g (enterTraining a0 a1 a2 s) := by
  delta enterTraining
  extract_lets +onlyGivenNames -merge -useContext -underBinder x2_0 x2_1 x2_2
  clear_value x2_0
  have hx2_1 : Good g x2_1 := by
    refine good_showLink ?_
    exact good_setDpo (by assumption)
  clear_value x2_1
  have hx2_2 : Good g x2_2 := by
    exact good_showDpo (by assumption)
  clear_value x2_2
  refine ite_ind ?_ ?_
  · exact good_beginLadder (by assumption)
  · assumption

theorem good_blankPort {a0} (h : Good g s) : Good g (blankPort a0 s) := by
  delta blankPort
  extract_lets +onlyGivenNames -merge -useContext -underBinder x2_0 x2_1
  clear_value x2_0
  have hx2_1 : Good g x2_1 := by
    refine good_dpoEvent ?_
    exact good_setDpo (by assumption)
  clear_value x2_1
  exact good_enterTraining (by assumption)

theorem good_capsRead {a0 a1 a2 a3} (h : Good g s) : Good g (capsRead a0 a1 a2 a3 s) := by
  delta capsRead
  refine ite_ind ?_ ?_
  · assumption
  · refine ite_ind ?_ ?_
    · refine good_beginLadder ?_
      refine good_set ?_
      exact good_set (by assumption)
    · refine good_ladderDone ?_
      exact good_setDpo (by assumption)

theorem good_execAuxDone {a0 a1 a2 a3} (h : Good g s) : GoodN g (execAuxDone a0 a1 a2 a3 s) := by
  delta execAuxDone
  refine goodN_next ?_
  refine good_auxDone ?_
  exact good_at (by assumption)

theorem good_execAuxRun {a0 a1} (h : Good g s) : GoodN g (execAuxRun a0 a1 s) := by
  delta execAuxRun
  refine goodN_next ?_
  refine good_auxRun ?_
  exact good_at (by assumption)

theorem good_execCapReadDone {a0 a1 a2 a3 a4} (h : Good g s) : GoodN g (execCapReadDone a0 a1 a2 a3 a4 s) := by
  delta execCapReadDone
  refine goodN_next ?_
  refine good_capsRead ?_
  exact good_at (by assumption)

theorem good_hpdIrq {a0 a1} (h : Good g s) : Good g (hpdIrq a0 a1 s) := by
  delta hpdIrq
  refine ite_ind ?_ ?_
  · assumption
  · extract_lets +onlyGivenNames -merge -useContext -underBinder x4_0
    have hx4_0 : Good g x4_0 := by
      exact good_inc (by assumption)
    clear_value x4_0
    refine ite_ind ?_ ?_
    · refine good_enterTraining ?_
      exact good_inc (by assumption)
    · exact good_dpoEvent (by assumption)

theorem good_execHpdIrq {a0 a1 a2} (h : Good g s) : GoodN g (execHpdIrq a0 a1 a2 s) := by
  delta execHpdIrq
  refine goodN_next ?_
  refine good_hpdIrq ?_
  exact good_at (by assumption)

theorem good_plugIn {a0} (h : Good g s) : Good g (plugIn a0 s) := by
  delta plugIn
  refine good_dpoEvent ?_
  exact good_enterTraining (by assumption)

theorem good_hpdPlug {a0} (h : Good g s) : Good g (hpdPlug a0 s) := by
  delta hpdPlug
  refine ite_ind ?_ ?_
  · assumption
  · extract_lets +onlyGivenNames -merge -useContext -underBinder x4_0
    have hx4_0 : Good g x4_0 := by
      exact good_set (by assumption)
    clear_value x4_0
    refine ite_ind ?_ ?_
    · assumption
    · split
      · exact good_plugIn (by assumption)
      · exact good_enterTraining (by assumption)
      · assumption

theorem good_execHpdPlug {a0 a1} (h : Good g s) : GoodN g (execHpdPlug a0 a1 s) := by
  delta execHpdPlug
  refine goodN_next ?_
  refine good_hpdPlug ?_
  exact good_at (by assumption)

theorem good_idleEnd {a0} (h : Good g s) : Good g (idleEnd a0 s) := by
  delta idleEnd
  refine ite_ind ?_ ?_
  · assumption
  · exact good_beginLadder (by assumption)

theorem good_execIdlePatternEnd {a0 a1} (h : Good g s) : GoodN g (execIdlePatternEnd a0 a1 s) := by
  delta execIdlePatternEnd
  refine goodN_next ?_
  refine good_idleEnd ?_
  exact good_at (by assumption)

theorem good_linkRetry {a0 a1} (h : Good g s) : Good g (linkRetry a0 a1 s) := by
  delta linkRetry
  refine ite_ind ?_ ?_
  · exact good_enterTraining (by assumption)
  · assumption

theorem good_execLinkRetry {a0 a1} (h : Good g s) : GoodN g (execLinkRetry a0 a1 s) := by
  delta execLinkRetry
  refine goodN_next ?_
  refine good_linkRetry ?_
  exact good_at (by assumption)

theorem good_execTrainAttemptEnd {a0 a1 a2} (h : Good g s) : GoodN g (execTrainAttemptEnd a0 a1 a2 s) := by
  delta execTrainAttemptEnd
  refine goodN_next ?_
  refine good_attemptEnd ?_
  exact good_at (by assumption)

theorem good_hpdUnplug {a0} (h : Good g s) : Good g (hpdUnplug a0 s) := by
  delta hpdUnplug
  refine ite_ind ?_ ?_
  · assumption
  · extract_lets +onlyGivenNames -merge -useContext -underBinder x4_0 x4_1
    have hx4_0 : Good g x4_0 := by
      exact good_set (by assumption)
    clear_value x4_0 x4_1
    refine ite_ind ?_ ?_
    · assumption
    · extract_lets +onlyGivenNames -merge -useContext -underBinder x6_0 x6_1 x6_2
      clear_value x6_0
      have hx6_1 : Good g x6_1 := by
        refine good_dpoEvent ?_
        refine good_showLink ?_
        exact good_setDpo (by assumption)
      clear_value x6_1
      have hx6_2 : Good g x6_2 := by
        refine ite_ind ?_ ?_
        · exact good_logError (by assumption)
        · assumption
      clear_value x6_2
      exact good_showDpo (by assumption)

theorem good_portDisable {a0} (h : Good g s) : Good g (portDisable a0 s) := by
  delta portDisable
  refine ite_ind ?_ ?_
  · assumption
  · refine good_showDpo ?_
    refine good_showLink ?_
    exact good_setDpo (by assumption)

theorem good_portEnable {a0} (h : Good g s) : Good g (portEnable a0 s) := by
  delta portEnable
  refine ite_ind ?_ ?_
  · assumption
  · extract_lets +onlyGivenNames -merge -useContext -underBinder x4_0
    have hx4_0 : Good g x4_0 := by
      exact good_showDpo (by assumption)
    clear_value x4_0
    refine ite_ind ?_ ?_
    · exact good_plugIn (by assumption)
    · assumption

theorem good_portFrame {a0} (h : Good g s) : Good g (portFrame a0 s) := by
  delta portFrame
  extract_lets +onlyGivenNames -merge -useContext -underBinder x2_0
  clear_value x2_0
  refine ite_ind ?_ ?_
  · assumption
  · extract_lets +onlyGivenNames -merge -useContext -underBinder x4_0
    have hx4_0 : Good g x4_0 := by
      refine good_showDpo ?_
      exact good_setDpo (by assumption)
    clear_value x4_0
    refine ite_ind ?_ ?_
    · exact good_dpoEvent (by assumption)
    · assumption

theorem good_portLeave {a0} (h : Good g s) : Good g (portLeave a0 s) := by
  delta portLeave
  refine ite_ind ?_ ?_
  · assumption
  · extract_lets +onlyGivenNames -merge -useContext -underBinder x4_0
    clear_value x4_0
    refine good_showDpo ?_
    refine good_showLink ?_
    exact good_setDpo (by assumption)

theorem good_portRetimed {a0} (h : Good g s) : Good g (portRetimed a0 s) := by
  delta portRetimed
  refine ite_ind ?_ ?_
  · assumption
  · refine ite_ind ?_ ?_
    · assumption
    · exact good_blankPort (by assumption)

theorem good_portReturn {a0} (h : Good g s) : Good g (portReturn a0 s) := by
  delta portReturn
  refine ite_ind ?_ ?_
  · assumption
  · extract_lets +onlyGivenNames -merge -useContext -underBinder x4_0 x4_1
    clear_value x4_0
    have hx4_1 : Good g x4_1 := by
      exact good_setDpo (by assumption)
    clear_value x4_1
    refine ite_ind ?_ ?_
    · exact good_showDpo (by assumption)
    · refine ite_ind ?_ ?_
      · exact good_enterTraining (by assumption)
      · exact good_showDpo (by assumption)

theorem good_portStart {a0} (h : Good g s) : Good g (portStart a0 s) := by
  delta portStart
  refine ite_ind ?_ ?_
  · assumption
  · refine ite_ind ?_ ?_
    · exact good_setDpo (by assumption)
    · exact good_blankPort (by assumption)

theorem good_portStop {a0} (h : Good g s) : Good g (portStop a0 s) := by
  delta portStop
  refine ite_ind ?_ ?_
  · assumption
  · refine ite_ind ?_ ?_
    · refine good_showDpo ?_
      exact good_setDpo (by assumption)
    · assumption

theorem good_writeAux {a0 a1 a2} (h : Good g s) : Good g (writeAux a0 a1 a2 s) := by
  delta writeAux
  refine ite_ind ?_ ?_
  · exact good_logAccess (by assumption)
  · refine ite_ind ?_ ?_
    · assumption
    · refine ite_ind ?_ ?_
      · exact good_auxEnd (by assumption)
      · extract_lets +onlyGivenNames -merge -useContext -underBinder x8_0 x8_1
        clear_value x8_0
        have hx8_1 : Good g x8_1 := by
          refine good_set ?_
          exact good_setDpo (by assumption)
        clear_value x8_1
        refine ite_ind ?_ ?_
        · assumption
        · exact good_auxBegin (by assumption)

end Sys2Proof.Machine
end

