-- ==== Sys2Proof/Laws/KeepHeads.lean ====
section
/-! SUPPORT. Every operation of Heads.lean keeps a state good: sound, its queue untouched, nothing sent taken back. -/

namespace Sys2Proof.Machine

variable {g : Ghost} {s : State}

theorem good_readTables {a0} (h : Good g s) : Good g (readTables a0 s) := by
  delta readTables
  extract_lets +onlyGivenNames -merge -useContext -underBinder x2_0
  have hx2_0 : Good g x2_0 := by
    exact good_applyGroup (by assumption)
  clear_value x2_0
  refine good_forEach (fun _ _ _ => ?_) ?_
  · refine ite_ind ?_ ?_
    · show Good3 g _
      exact good_dramRead (by assumption)
    · assumption
  · assumption

theorem good_applyLay {a0 a1 a2} (h : Good g s) : Good g (applyLay a0 a1 a2 s) := by
  delta applyLay
  extract_lets +onlyGivenNames -merge -useContext -underBinder x2_0 x2_1 x2_2 x2_3 x2_4
  clear_value x2_0 x2_1 x2_2 x2_3
  have hx2_4 : Good g x2_4 := by
    refine ite_ind ?_ ?_
    · exact good_setDirect (by assumption)
    · assumption
  clear_value x2_4
  refine ite_ind ?_ ?_
  · exact good_setLay (by assumption)
  · refine ite_ind ?_ ?_
    · exact good_setLay (by assumption)
    · refine ite_ind ?_ ?_
      · exact good_setLay (by assumption)
      · exact good_setLay (by assumption)

theorem good_judgeSkips {a0} (h : Good g s) : Good g (judgeSkips a0 s) := by
  delta judgeSkips
  extract_lets +onlyGivenNames -merge -useContext -underBinder x2_0 x2_1 x2_2
  clear_value x2_0 x2_1
  have hx2_2 : Good g x2_2 := by
    refine good_forEach (fun _ _ _ => ?_) ?_
    · exact good_setLay (by assumption)
    · assumption
  clear_value x2_2
  exact good_raiseIf (by assumption)

theorem good_setClock {a0 a1} (h : Good g s) : Good g (setClock a0 a1 s) := by
  delta setClock
  refine good_setSat ?_
  exact good_setHead (by assumption)

theorem good_beginBlank {a0 a1} (h : Good g s) : Good g (beginBlank a0 a1 s) := by
  delta beginBlank
  extract_lets +onlyGivenNames -merge -useContext -underBinder x2_0
  clear_value x2_0
  exact good_setHead (by assumption)

theorem good_restartRef {a0 a1} (h : Good g s) : Good g (restartRef a0 a1 s) := by
  delta restartRef
  extract_lets +onlyGivenNames -merge -useContext -underBinder x2_0 x2_1
  clear_value x2_0
  have hx2_1 : Good g x2_1 := by
    exact good_setHead (by assumption)
  clear_value x2_1
  refine ite_ind ?_ ?_
  · refine good_setClock ?_
    exact good_setState (by assumption)
  · exact good_setState (by assumption)

theorem good_headEvent {a0 a1} (h : Good g s) : Good g (headEvent a0 a1 s) := by
  delta headEvent
  exact good_raise (by assumption)

theorem good_startHead {a0 a1} (h : Good g s) : Good g (startHead a0 a1 s) := by
  delta startHead
  extract_lets +onlyGivenNames -merge -useContext -underBinder x2_0 x2_1 x2_2 x2_3 x2_4
  clear_value x2_0
  have hx2_1 : Good g x2_1 := by
    exact good_setHead (by assumption)
  clear_value x2_1
  have hx2_2 : Good g x2_2 := by
    exact good_setClock (by assumption)
  clear_value x2_2
  have hx2_3 : Good g x2_3 := by
    refine good_beginBlank ?_
    exact good_restartRef (by assumption)
  clear_value x2_3
  have hx2_4 : Good g x2_4 := by
    refine good_forEach (fun _ _ _ => ?_) ?_
    · exact good_setLay (by assumption)
    · assumption
  clear_value x2_4
  refine good_headEvent ?_
  refine good_forEach (fun _ _ _ => ?_) ?_
  · exact good_portStart (by assumption)
  · assumption

theorem good_stopHead {a0} (h : Good g s) : Good g (stopHead a0 s) := by
  delta stopHead
  extract_lets +onlyGivenNames -merge -useContext -underBinder x2_0 x2_1
  clear_value x2_0
  have hx2_1 : Good g x2_1 := by
    refine good_setState ?_
    exact good_setHead (by assumption)
  clear_value x2_1
  refine good_forEach (fun _ _ _ => ?_) ?_
  · exact good_portStop (by assumption)
  · exact good_set (by assumption)

theorem good_layerEvent {a0 a1} (h : Good g s) : Good g (layerEvent a0 a1 s) := by
  delta layerEvent
  refine good_headEvent ?_
  exact good_set (by assumption)

theorem good_feedLook {a0 a1 a2 a3} (h : Good g s) : Good3 g (feedLook a0 a1 a2 a3 s) := by
  delta feedLook
  extract_lets +onlyGivenNames -merge -useContext -underBinder x2_0 x2_1 x2_2
  clear_value x2_0 x2_1
  have hx2_2 : Good g x2_2 := by
    exact good_setBuf (by assumption)
  clear_value x2_2
  refine ite_ind ?_ ?_
  · refine good3_mk ?_
    assumption
  · refine ite_ind ?_ ?_
    · refine good3_mk ?_
      refine good_raise ?_
      refine good_inc ?_
      exact good_set (by assumption)
    · refine ite_ind ?_ ?_
      · refine good3_mk ?_
        assumption
      · refine good3_mk ?_
        refine good_layerEvent ?_
        exact good_inc (by assumption)

theorem good_feedTake {a0} (h : Good g s) : Good2 g (feedTake a0 s) := by
  delta feedTake
  extract_lets +onlyGivenNames -merge -useContext -underBinder x2_0
  have hx2_0 : Good g x2_0 := by
    exact good_set (by assumption)
  clear_value x2_0
  split
  · rename_i v2_0 v2_1 v2_2 q2_0
    have hv2_2 : Good g v2_2 := good3_eq q2_0 (by
      refine foldl_ind (fun _ _ _ => ?_) ?_
      · refine good_feedLook ?_
        show Good3 g _
        assumption
      · refine good3_mk ?_
        assumption)
    split
    · refine good2_mk ?_
      assumption
    · extract_lets +onlyGivenNames -merge -useContext -underBinder x6_0 x6_1 x6_2
      have hx6_0 : Good g x6_0 := by
        exact good_incBy (by assumption)
      clear_value x6_0 x6_1
      have hx6_2 : Good g x6_2 := by
        exact good_setLay (by assumption)
      clear_value x6_2
      refine good2_mk ?_
      assumption

theorem good_showLay {a0} (h : Good g s) : Good g (showLay a0 s) := by
  delta showLay
  extract_lets +onlyGivenNames -merge -useContext -underBinder x2_0 x2_1 x2_2
  clear_value x2_0
  have hx2_1 : Good g x2_1 := by
    exact good_set (by assumption)
  clear_value x2_1
  have hx2_2 : Good g x2_2 := by
    exact good_set (by assumption)
  clear_value x2_2
  exact good_setState (by assumption)

theorem good_settleLay {a0 a1} (h : Good g s) : Good g (settleLay a0 a1 s) := by
  delta settleLay
  extract_lets +onlyGivenNames -merge -useContext -underBinder x2_0 x2_1
  clear_value x2_0 x2_1
  split
  · rename_i v2_0 v2_1 q2_0
    have hv2_1 : Good g v2_1 := good2_eq q2_0 (by
      refine ite_ind ?_ ?_
      · refine ite_ind ?_ ?_
        · exact good_feedTake (by assumption)
        · refine good2_mk ?_
          assumption
      · extract_lets +onlyGivenNames -merge -useContext -underBinder x8_0
        clear_value x8_0
        refine good2_mk ?_
        exact good_setLay (by assumption))
    extract_lets +onlyGivenNames -merge -useContext -underBinder x4_0 x4_1 x4_2 x4_3 x4_4 x4_5 x4_6 x4_7 x4_8
    clear_value x4_0 x4_1 x4_2 x4_3
    have hx4_4 : Good g x4_4 := by
      exact good_setLay (by assumption)
    clear_value x4_4
    have hx4_5 : Good g x4_5 := by
      unfold x4_5
      split
      · exact good_claimFetch (by assumption)
      · assumption
    clear_value x4_5
    have hx4_6 : Good g x4_6 := by
      refine ite_ind ?_ ?_
      · assumption
      · split
        · exact good_dropFetch (by assumption)
        · assumption
    clear_value x4_6
    have hx4_7 : Good g x4_7 := by
      refine good_forEach (fun _ _ _ => ?_) ?_
      · exact good_loseOwner (by assumption)
      · assumption
    clear_value x4_7
    have hx4_8 : Good g x4_8 := by
      unfold x4_8
      split
      · refine ite_ind ?_ ?_
        · exact good_set (by assumption)
        · assumption
      · assumption
    clear_value x4_8
    refine good_showLay ?_
    exact good_set (by assumption)

theorem good_dropUnfed (h : Good g s) : Good g (dropUnfed s) := by
  delta dropUnfed
  refine good_forEach (fun _ _ _ => ?_) ?_
  · exact good_loseOwner (by assumption)
  · assumption

theorem good_refreshFrayPin (h : Good g s) : Good g (refreshFrayPin s) := by
  delta refreshFrayPin
  extract_lets +onlyGivenNames -merge -useContext -underBinder x2_0
  clear_value x2_0
  refine good_upd ?_
  assumption

theorem good_setStale {a0 a1 a2} (h : Good g s) : Good g (setStale a0 a1 a2 s) := by
  delta setStale
  refine ite_ind ?_ ?_
  · assumption
  · extract_lets +onlyGivenNames -merge -useContext -underBinder x4_0 x4_1 x4_2 x4_3
    have hx4_0 : Good g x4_0 := by
      exact good_set (by assumption)
    clear_value x4_0
    have hx4_1 : Good g x4_1 := by
      refine ite_ind ?_ ?_
      · refine good_raise ?_
        refine good_inc ?_
        exact good_logError (by assumption)
      · exact good_raise (by assumption)
    clear_value x4_1 x4_2
    have hx4_3 : Good g x4_3 := by
      exact good_set (by assumption)
    clear_value x4_3
    refine good_raise ?_
    exact good_set (by assumption)

theorem good_frayVblank {a0 a1} (h : Good g s) : Good g (frayVblank a0 a1 s) := by
  delta frayVblank
  extract_lets +onlyGivenNames -merge -useContext -underBinder x2_0 x2_1 x2_2 x2_3 x2_4 x2_5 x2_6 x2_7 x2_8 x2_9
  clear_value x2_0 x2_1
  have hx2_2 : Good g x2_2 := by
    unfold x2_2
    split
    · refine ite_ind ?_ ?_
      · extract_lets +onlyGivenNames -merge -useContext -underBinder x8_0 x8_1
        have hx8_0 : Good g x8_0 := by
          refine ite_ind ?_ ?_
          · exact good_inc (by assumption)
          · assumption
        clear_value x8_0
        have hx8_1 : Good g x8_1 := by
          refine ite_ind ?_ ?_
          · exact good_inc (by assumption)
          · assumption
        clear_value x8_1
        exact good_setLay (by assumption)
      · assumption
    · assumption
  clear_value x2_2 x2_3 x2_4 x2_5
  have hx2_6 : Good g x2_6 := by
    exact good_setSat (by assumption)
  clear_value x2_6
  have hx2_7 : Good g x2_7 := by
    refine ite_ind ?_ ?_
    · exact good_setStale (by assumption)
    · exact good_setStale (by assumption)
  clear_value x2_7 x2_8 x2_9
  exact good_set (by assumption)

theorem good_applyHead {a0 a1} (h : Good g s) : Good g (applyHead a0 a1 s) := by
  delta applyHead
  extract_lets +onlyGivenNames -merge -useContext -underBinder x2_0 x2_1 x2_2 x2_3 x2_4 x2_5 x2_6 x2_7 x2_8 x2_9 x2_10 x2_11 x2_12 x2_13
  have hx2_0 : Good g x2_0 := by
    refine good_commitDone ?_
    exact good_applyGroup (by assumption)
  clear_value x2_0 x2_1
  have hx2_2 : Good g x2_2 := by
    exact good_setHead (by assumption)
  clear_value x2_2
  have hx2_3 : Good g x2_3 := by
    refine good_set ?_
    exact good_set (by assumption)
  clear_value x2_3
  have hx2_4 : Good g x2_4 := by
    refine good_forEach (fun _ _ _ => ?_) ?_
    · exact good_applyLay (by assumption)
    · assumption
  clear_value x2_4
  have hx2_5 : Good g x2_5 := by
    refine good_refreshPace ?_
    exact good_judgeSkips (by assumption)
  clear_value x2_5 x2_6
  have hx2_7 : Good g x2_7 := by
    exact good_raiseIf (by assumption)
  clear_value x2_7 x2_8 x2_9
  have hx2_10 : Good g x2_10 := by
    refine ite_ind ?_ ?_
    · refine good_forEach (fun _ _ _ => ?_) ?_
      · exact good_portRetimed (by assumption)
      · refine good_beginBlank ?_
        refine good_setClock ?_
        exact good_setHead (by assumption)
    · assumption
  clear_value x2_10
  have hx2_11 : Good g x2_11 := by
    refine ite_ind ?_ ?_
    · refine ite_ind ?_ ?_
      · exact good_startHead (by assumption)
      · refine ite_ind ?_ ?_
        · exact good_restartRef (by assumption)
        · assumption
    · refine ite_ind ?_ ?_
      · exact good_stopHead (by assumption)
      · assumption
  clear_value x2_11
  have hx2_12 : Good g x2_12 := by
    refine good_forEach (fun _ _ _ => ?_) ?_
    · exact good_settleLay (by assumption)
    · assumption
  clear_value x2_12
  have hx2_13 : Good g x2_13 := by
    exact good_dropUnfed (by assumption)
  clear_value x2_13
  refine good_refreshFrayPin ?_
  refine good_forEach (fun _ _ _ => ?_) ?_
  · refine ite_ind ?_ ?_
    · exact good_frayVblank (by assumption)
    · refine ite_ind ?_ ?_
      · assumption
      · exact good_setStale (by assumption)
  · assumption

theorem good_evaluateHead {a0 a1} (h : Good g s) : Good g (evaluateHead a0 a1 s) := by
  delta evaluateHead
  extract_lets +onlyGivenNames -merge -useContext -underBinder x2_0
  have hx2_0 : Good g x2_0 := by
    exact good_readTables (by assumption)
  clear_value x2_0
  split
  · exact good_commitReject (by assumption)
  · split
    · exact good_commitReject (by assumption)
    · extract_lets +onlyGivenNames -merge -useContext -underBinder x6_0
      have hx6_0 : Good g x6_0 := by
        exact good_set (by assumption)
      clear_value x6_0
      split
      · exact good_applyHead (by assumption)
      · extract_lets +onlyGivenNames -merge -useContext -underBinder x8_0 x8_1
        clear_value x8_0 x8_1
        refine ite_ind ?_ ?_
        · extract_lets +onlyGivenNames -merge -useContext -underBinder x10_0 x10_1 x10_2
          have hx10_0 : Good g x10_0 := by
            refine good_inc ?_
            exact good_setHead (by assumption)
          clear_value x10_0
          have hx10_2 : Good g x10_2 := by
            refine good_setHdr (fun k => ?_) ?_
            · exact ⟨k.hosts, (fun e => nomatch e), k.lost, k.owner⟩
            · assumption
          clear_value x10_2
          refine good_headEvent ?_
          exact good_raise (by assumption)
        · extract_lets +onlyGivenNames -merge -useContext -underBinder x10_0 x10_1
          have hx10_0 : Good g x10_0 := by
            exact good_setHead (by assumption)
          clear_value x10_0
          have hx10_1 : Good g x10_1 := by
            exact good_setSat (by assumption)
          clear_value x10_1
          refine good_layerEvent ?_
          refine good_commitDefer ?_
          exact good_inc (by assumption)

theorem good_afterCompletions {a0} (h : Good g s) : Good g (afterCompletions a0 s) := by
  delta afterCompletions
  extract_lets +onlyGivenNames -merge -useContext -underBinder x2_0
  clear_value x2_0
  refine ite_ind ?_ ?_
  · assumption
  · refine good_forEach (fun _ _ _ => ?_) ?_
    · extract_lets +onlyGivenNames -merge -useContext -underBinder x6_0
      refine ite_ind ?_ ?_
      · assumption
      · extract_lets +onlyGivenNames -merge -useContext -underBinder x8_0
        have hx8_0 : Good g x8_0 := by
          exact good_applyGroup (by assumption)
        clear_value x8_0
        refine ite_ind ?_ ?_
        · exact good_evaluateHead (by assumption)
        · assumption
    · assumption

theorem good_missRow {a0} (h : Good g s) : Good g (missRow a0 s) := by
  delta missRow
  extract_lets +onlyGivenNames -merge -useContext -underBinder x2_0 x2_1 x2_2 x2_3
  clear_value x2_0
  have hx2_1 : Good g x2_1 := by
    unfold x2_1
    split
    · exact good_updDirect (by assumption)
    · assumption
  clear_value x2_1
  have hx2_2 : Good g x2_2 := by
    exact good_setLay (by assumption)
  clear_value x2_2
  have hx2_3 : Good g x2_3 := by
    refine good_inc ?_
    exact good_inc (by assumption)
  clear_value x2_3
  refine good_showLay ?_
  exact good_layerEvent (by assumption)

theorem good_directLineStart {a0 a1} (h : Good g s) : Good g (directLineStart a0 a1 s) := by
  delta directLineStart
  extract_lets +onlyGivenNames -merge -useContext -underBinder x2_0 x2_1
  clear_value x2_0 x2_1
  refine ite_ind ?_ ?_
  · assumption
  · split
    · refine ite_ind ?_ ?_
      · exact good_missRow (by assumption)
      · assumption
    · refine ite_ind ?_ ?_
      · exact good_missRow (by assumption)
      · refine ite_ind ?_ ?_
        · extract_lets +onlyGivenNames -merge -useContext -underBinder x10_0
          clear_value x10_0
          refine good_set ?_
          exact good_setLay (by assumption)
        · assumption

theorem good_pickDirect {a0 a1} (h : Good g s) : Good g (pickDirect a0 a1 s) := by
  delta pickDirect
  extract_lets +onlyGivenNames -merge -useContext -underBinder x2_0 x2_1 x2_2 x2_3 x2_4 x2_5
  clear_value x2_0 x2_1 x2_2 x2_3 x2_4
  have hx2_5 : Good g x2_5 := by
    exact good_setDirect (by assumption)
  clear_value x2_5
  exact good_setLay (by assumption)

theorem good_headFrame {a0 a1} (h : Good g s) : Good g (headFrame a0 a1 s) := by
  delta headFrame
  extract_lets +onlyGivenNames -merge -useContext -underBinder x2_0
  clear_value x2_0
  refine ite_ind ?_ ?_
  · assumption
  · extract_lets +onlyGivenNames -merge -useContext -underBinder x4_0 x4_1 x4_2 x4_3 x4_4 x4_5
    have hx4_0 : Good g x4_0 := by
      exact good_setHead (by assumption)
    clear_value x4_0 x4_1
    have hx4_2 : Good g x4_2 := by
      refine good_set ?_
      exact good_set (by assumption)
    clear_value x4_2
    have hx4_3 : Good g x4_3 := by
      exact good_inc (by assumption)
    clear_value x4_3
    have hx4_4 : Good g x4_4 := by
      refine good_forEach (fun _ _ _ => ?_) ?_
      · exact good_portFrame (by assumption)
      · assumption
    clear_value x4_4
    have hx4_5 : Good g x4_5 := by
      refine good_forEach (fun _ _ _ => ?_) ?_
      · split
        · exact good_setChk (by assumption)
        · assumption
      · assumption
    clear_value x4_5
    refine good_forEach (fun _ _ _ => ?_) ?_
    · refine good_showLay ?_
      refine ite_ind ?_ ?_
      · exact good_pickDirect (by assumption)
      · assumption
    · assumption

theorem good_execHeadFrameStart {a0 a1} (h : Good g s) : GoodN g (execHeadFrameStart a0 a1 s) := by
  delta execHeadFrameStart
  refine goodN_next ?_
  refine good_headFrame ?_
  exact good_at (by assumption)

theorem good_fetchLine {a0 a1} (h : Good g s) : Good g (fetchLine a0 a1 s) := by
  delta fetchLine
  split
  · assumption
  · extract_lets +onlyGivenNames -merge -useContext -underBinder x4_0 x4_1 x4_2 x4_3 x4_4
    clear_value x4_0 x4_1 x4_3 x4_4
    refine ite_ind ?_ ?_
    · assumption
    · extract_lets +onlyGivenNames -merge -useContext -underBinder x6_0
      have hx6_0 : Good g x6_0 := by
        refine good_incBy ?_
        exact good_incBy (by assumption)
      clear_value x6_0
      refine good_layerEvent ?_
      exact good_setHead (by assumption)

theorem good_reportMargin {a0 a1} (h : Good g s) : Good g (reportMargin a0 a1 s) := by
  delta reportMargin
  extract_lets +onlyGivenNames -merge -useContext -underBinder x2_0 x2_1 x2_2 x2_3
  clear_value x2_0 x2_1 x2_2 x2_3
  refine good_set ?_
  exact good_setHead (by assumption)

theorem good_sendLine {a0 a1 a2} (h : Good g s) : Good g (sendLine a0 a1 a2 s) := by
  delta sendLine
  extract_lets +onlyGivenNames -merge -useContext -underBinder x2_0 x2_1 x2_2
  clear_value x2_0 x2_1
  have hx2_2 : Good g x2_2 := by
    unfold x2_2
    split
    · refine ite_ind ?_ ?_
      · exact good_setChk (by assumption)
      · assumption
    · assumption
  clear_value x2_2
  exact good_emit (by assumption)

theorem good_lineStart {a0 a1 a2 a3} (h : Good g s) : Good g (lineStart a0 a1 a2 a3 s) := by
  delta lineStart
  extract_lets +onlyGivenNames -merge -useContext -underBinder x2_0
  clear_value x2_0
  refine ite_ind ?_ ?_
  · assumption
  · extract_lets +onlyGivenNames -merge -useContext -underBinder x4_0 x4_1 x4_2 x4_3 x4_4 x4_5 x4_6 x4_7 x4_8 x4_9
    have hx4_0 : Good g x4_0 := by
      exact good_setHead (by assumption)
    clear_value x4_0
    have hx4_1 : Good g x4_1 := by
      refine good_forEach (fun _ _ _ => ?_) ?_
      · extract_lets +onlyGivenNames -merge -useContext -underBinder x8_0
        clear_value x8_0
        refine ite_ind ?_ ?_
        · assumption
        · refine ite_ind ?_ ?_
          · exact good_directLineStart (by assumption)
          · refine ite_ind ?_ ?_
            · exact good_fetchLine (by assumption)
            · assumption
      · assumption
    clear_value x4_1
    have hx4_2 : Good g x4_2 := by
      exact good_reportMargin (by assumption)
    clear_value x4_2 x4_3 x4_4 x4_5
    have hx4_6 : Good g x4_6 := by
      exact good_setHead (by assumption)
    clear_value x4_6
    have hx4_7 : Good g x4_7 := by
      exact good_incSat (by assumption)
    clear_value x4_7
    have hx4_8 : Good g x4_8 := by
      refine ite_ind ?_ ?_
      · refine ite_ind ?_ ?_
        · refine good_headEvent ?_
          exact good_inc (by assumption)
        · assumption
      · assumption
    clear_value x4_8 x4_9
    refine ite_ind ?_ ?_
    · assumption
    · extract_lets +onlyGivenNames -merge -useContext -underBinder x6_0
      clear_value x6_0
      refine good_forEach (fun _ _ _ => ?_) ?_
      · exact good_sendLine (by assumption)
      · assumption

theorem good_execRasterLineStart {a0 a1 a2 a3 a4} (h : Good g s) : GoodN g (execRasterLineStart a0 a1 a2 a3 a4 s) := by
  delta execRasterLineStart
  refine goodN_next ?_
  refine good_lineStart ?_
  exact good_at (by assumption)

theorem good_refLost {a0} (h : Good g s) : Good g (refLost a0 s) := by
  delta refLost
  extract_lets +onlyGivenNames -merge -useContext -underBinder x2_0
  clear_value x2_0
  refine ite_ind ?_ ?_
  · assumption
  · refine good_headEvent ?_
    refine good_setState ?_
    exact good_setHead (by assumption)

theorem good_execRefLost {a0 a1} (h : Good g s) : GoodN g (execRefLost a0 a1 s) := by
  delta execRefLost
  refine goodN_next ?_
  refine good_refLost ?_
  exact good_at (by assumption)

theorem good_steer {a0 a1} (h : Good g s) : Good g (steer a0 a1 s) := by
  delta steer
  extract_lets +onlyGivenNames -merge -useContext -underBinder x2_0 x2_1 x2_2 x2_3 x2_4
  clear_value x2_0 x2_1 x2_2 x2_3 x2_4
  refine good_setClock ?_
  refine good_setHead ?_
  exact good_fresh (by assumption)

theorem good_pullIn {a0 a1 a2} (h : Good g s) : Good g (pullIn a0 a1 a2 s) := by
  delta pullIn
  extract_lets +onlyGivenNames -merge -useContext -underBinder x2_0 x2_1 x2_2
  clear_value x2_0 x2_1 x2_2
  refine ite_ind ?_ ?_
  · extract_lets +onlyGivenNames -merge -useContext -underBinder x4_0 x4_1
    clear_value x4_0 x4_1
    exact good_setHead (by assumption)
  · exact good_steer (by assumption)

theorem good_refTarget {a0 a1} (h : Good g s) : Good g (refTarget a0 a1 s) := by
  delta refTarget
  extract_lets +onlyGivenNames -merge -useContext -underBinder x2_0
  clear_value x2_0
  refine ite_ind ?_ ?_
  · assumption
  · extract_lets +onlyGivenNames -merge -useContext -underBinder x4_0 x4_1 x4_2
    clear_value x4_0 x4_1 x4_2
    refine ite_ind ?_ ?_
    · refine good_headEvent ?_
      exact good_inc (by assumption)
    · extract_lets +onlyGivenNames -merge -useContext -underBinder x6_0 x6_1 x6_2 x6_3 x6_4 x6_5
      clear_value x6_0 x6_1
      have hx6_2 : Good g x6_2 := by
        exact good_setHead (by assumption)
      clear_value x6_2
      have hx6_3 : Good g x6_3 := by
        refine ite_ind ?_ ?_
        · exact good_setState (by assumption)
        · assumption
      clear_value x6_3 x6_4
      have hx6_5 : Good g x6_5 := by
        exact good_set (by assumption)
      clear_value x6_5
      refine ite_ind ?_ ?_
      · refine ite_ind ?_ ?_
        · exact good_steer (by assumption)
        · refine good_pullIn ?_
          refine good_headEvent ?_
          refine good_setState ?_
          exact good_setHead (by assumption)
      · extract_lets +onlyGivenNames -merge -useContext -underBinder x8_0 x8_1
        clear_value x8_0
        have hx8_1 : Good g x8_1 := by
          exact good_setHead (by assumption)
        clear_value x8_1
        refine ite_ind ?_ ?_
        · refine good_steer ?_
          refine good_headEvent ?_
          refine good_setState ?_
          exact good_setHead (by assumption)
        · exact good_pullIn (by assumption)

theorem good_execRefTarget {a0 a1} (h : Good g s) : GoodN g (execRefTarget a0 a1 s) := by
  delta execRefTarget
  refine goodN_next ?_
  refine good_refTarget ?_
  exact good_at (by assumption)

theorem good_sendSecondary {a0 a1 a2} (h : Good g s) : Good g (sendSecondary a0 a1 a2 s) := by
  delta sendSecondary
  refine ite_ind ?_ ?_
  · assumption
  · extract_lets +onlyGivenNames -merge -useContext -underBinder x4_0 x4_1
    have hx4_0 : Good g x4_0 := by
      exact good_emit (by assumption)
    clear_value x4_0
    have hx4_1 : Good g x4_1 := by
      refine ite_ind ?_ ?_
      · exact good_emit (by assumption)
      · assumption
    clear_value x4_1
    split
    · assumption
    · refine ite_ind ?_ ?_
      · assumption
      · extract_lets +onlyGivenNames -merge -useContext -underBinder x8_0 x8_1 x8_2 x8_3 x8_4 x8_5
        clear_value x8_0 x8_1 x8_2 x8_3
        have hx8_4 : Good g x8_4 := by
          refine good_kset ?_
          exact good_setChk (by assumption)
        clear_value x8_4
        have hx8_5 : Good g x8_5 := by
          refine good_kset ?_
          exact good_kset (by assumption)
        clear_value x8_5
        exact good_emit (by assumption)

theorem good_headVblank {a0 a1} (h : Good g s) : Good g (headVblank a0 a1 s) := by
  delta headVblank
  refine ite_ind ?_ ?_
  · assumption
  · extract_lets +onlyGivenNames -merge -useContext -underBinder x4_0 x4_1 x4_2 x4_3 x4_4 x4_5 x4_6
    have hx4_0 : Good g x4_0 := by
      assumption
    clear_value x4_0
    have hx4_1 : Good g x4_1 := by
      exact good_set (by assumption)
    clear_value x4_1
    have hx4_2 : Good g x4_2 := by
      refine good_headEvent ?_
      exact good_beginBlank (by assumption)
    clear_value x4_2
    have hx4_4 : Good g x4_4 := by
      refine ite_ind ?_ ?_
      · exact good_evaluateHead (by assumption)
      · assumption
    clear_value x4_4
    have hx4_5 : Good g x4_5 := by
      refine good_forEach (fun _ _ _ => ?_) ?_
      · exact good_settleLay (by assumption)
      · assumption
    clear_value x4_5
    have hx4_6 : Good g x4_6 := by
      refine ite_ind ?_ ?_
      · refine good_refreshFrayPin ?_
        refine good_forEach (fun _ _ _ => ?_) ?_
        · exact good_frayVblank (by assumption)
        · assumption
      · assumption
    clear_value x4_6
    refine good_forEach (fun _ _ _ => ?_) ?_
    · exact good_sendSecondary (by assumption)
    · assumption

theorem good_execVblank {a0 a1} (h : Good g s) : GoodN g (execVblank a0 a1 s) := by
  delta execVblank
  refine goodN_next ?_
  refine good_headVblank ?_
  exact good_at (by assumption)

theorem good_headStaged {a0} (h : Good g s) : Good g (headStaged a0 s) := by
  delta headStaged
  refine ite_ind ?_ ?_
  · assumption
  · exact good_evaluateHead (by assumption)

theorem good_resetLayPre {a0} (h : Good g s) : Good g (resetLayPre a0 s) := by
  delta resetLayPre
  extract_lets +onlyGivenNames -merge -useContext -underBinder x2_0 x2_1 x2_2 x2_3 x2_4
  clear_value x2_0 x2_1
  have hx2_2 : Good g x2_2 := by
    exact good_setLay (by assumption)
  clear_value x2_2
  have hx2_3 : Good g x2_3 := by
    unfold x2_3
    split
    · exact good_dropFetch (by assumption)
    · assumption
  clear_value x2_3
  have hx2_4 : Good g x2_4 := by
    unfold x2_4
    split
    · exact good_loseOwner (by assumption)
    · assumption
  clear_value x2_4
  refine good_setStale ?_
  exact good_setDirect (by assumption)

theorem good_streamLost {a0} (h : Good g s) : Good g (streamLost a0 s) := by
  delta streamLost
  refine good_forEach (fun _ _ _ => ?_) ?_
  · exact good_refLost (by assumption)
  · assumption

end Sys2Proof.Machine
end

