-- ==== Sys2Proof/Laws/KeepIntake.lean ====
section
/-! SUPPORT. Every operation of Intake.lean keeps a state good: sound, its queue untouched, nothing sent taken back. -/

namespace Sys2Proof.Machine

variable {g : Ghost} {s : State}

theorem good_afterStops {a0} (h : Good g s) : Good g (afterStops a0 s) := by
  delta afterStops
  refine good_forEach (fun _ _ _ => ?_) ?_
  · exact good_streamLost (by assumption)
  · assumption

theorem good_headsFollow {a0} (h : Good g s) : Good g (headsFollow a0 s) := by
  delta headsFollow
  refine good_afterCompletions ?_
  exact good_afterStops (by assumption)

theorem good_execBenchRowDone {a0 a1 a2} (h : Good g s) : GoodN g (execBenchRowDone a0 a1 a2 s) := by
  delta execBenchRowDone
  refine goodN_next ?_
  refine good_headsFollow ?_
  refine good_benchRowDone ?_
  exact good_at (by assumption)

theorem good_execClass0RowTake {a0 a1} (h : Good g s) : GoodN g (execClass0RowTake a0 a1 s) := by
  delta execClass0RowTake
  refine goodN_next ?_
  refine good_headsFollow ?_
  refine good_class0RowTake ?_
  exact good_at (by assumption)

theorem good_execDeadlineExpired {a0 a1} (h : Good g s) : GoodN g (execDeadlineExpired a0 a1 s) := by
  delta execDeadlineExpired
  refine goodN_next ?_
  refine good_headsFollow ?_
  refine good_deadlineExpired ?_
  exact good_at (by assumption)

theorem good_execDecSliceDone {a0 a1 a2 a3 a4 a5} (h : Good g s) : GoodN g (execDecSliceDone a0 a1 a2 a3 a4 a5 s) := by
  delta execDecSliceDone
  refine goodN_next ?_
  refine good_headsFollow ?_
  refine good_sliceDone ?_
  exact good_at (by assumption)

theorem good_execDecSliceStart {a0 a1 a2} (h : Good g s) : GoodN g (execDecSliceStart a0 a1 a2 s) := by
  delta execDecSliceStart
  refine goodN_next ?_
  refine good_headsFollow ?_
  refine good_sliceStart ?_
  exact good_at (by assumption)

theorem good_execDeskewSequence {a0 a1} (h : Good g s) : GoodN g (execDeskewSequence a0 a1 s) := by
  delta execDeskewSequence
  refine goodN_next ?_
  refine good_headsFollow ?_
  refine good_phyDeskew ?_
  exact good_at (by assumption)

theorem good_execEmbeddedData {a0 a1 a2 a3 a4} (h : Good g s) : GoodN g (execEmbeddedData a0 a1 a2 a3 a4 s) := by
  delta execEmbeddedData
  refine goodN_next ?_
  refine good_headsFollow ?_
  refine good_embeddedData ?_
  exact good_at (by assumption)

theorem good_execFrameClose {a0 a1 a2} (h : Good g s) : GoodN g (execFrameClose a0 a1 a2 s) := by
  delta execFrameClose
  refine goodN_next ?_
  refine good_headsFollow ?_
  refine good_frameClose ?_
  exact good_at (by assumption)

theorem good_execFrameEnd {a0 a1 a2 a3} (h : Good g s) : GoodN g (execFrameEnd a0 a1 a2 a3 s) := by
  delta execFrameEnd
  refine goodN_next ?_
  refine good_headsFollow ?_
  refine good_frameEnd ?_
  exact good_at (by assumption)

theorem good_execFrameStart {a0 a1 a2 a3 a4} (h : Good g s) : GoodN g (execFrameStart a0 a1 a2 a3 a4 s) := by
  delta execFrameStart
  refine goodN_next ?_
  refine good_headsFollow ?_
  refine good_frameStart ?_
  exact good_at (by assumption)

theorem good_execGridReady {a0 a1} (h : Good g s) : GoodN g (execGridReady a0 a1 s) := by
  delta execGridReady
  refine goodN_next ?_
  refine good_headsFollow ?_
  refine good_gridReady ?_
  exact good_at (by assumption)

theorem good_execHdrMissing {a0 a1 a2} (h : Good g s) : GoodN g (execHdrMissing a0 a1 a2 s) := by
  delta execHdrMissing
  refine goodN_next ?_
  refine good_headsFollow ?_
  refine good_hdrMissing ?_
  exact good_at (by assumption)

theorem good_execLineReceived {a0 a1 a2 a3 a4 a5 a6 a7 a8} (h : Good g s) : GoodN g (execLineReceived a0 a1 a2 a3 a4 a5 a6 a7 a8 s) := by
  delta execLineReceived
  refine goodN_next ?_
  refine good_headsFollow ?_
  refine good_lineReceived ?_
  exact good_at (by assumption)

theorem good_execLineTimeout {a0 a1 a2 a3} (h : Good g s) : GoodN g (execLineTimeout a0 a1 a2 a3 s) := by
  delta execLineTimeout
  refine goodN_next ?_
  refine good_headsFollow ?_
  refine good_lineTimeout ?_
  exact good_at (by assumption)

theorem good_execLutLoadEnd {a0} (h : Good g s) : GoodN g (execLutLoadEnd a0 s) := by
  delta execLutLoadEnd
  refine goodN_next ?_
  refine good_headsFollow ?_
  refine good_lutLoadEnd ?_
  exact good_at (by assumption)

theorem good_noFrameLost {a0 a1 a2} (h : Good g s) : Good g (noFrameLost a0 a1 a2 s) := by
  delta noFrameLost
  extract_lets +onlyGivenNames -merge -useContext -underBinder x2_0 x2_1
  clear_value x2_0
  have hx2_1 : Good g x2_1 := by
    exact good_noFrame (by assumption)
  clear_value x2_1
  refine ite_ind ?_ ?_
  · exact good_streamLost (by assumption)
  · assumption

theorem good_execNoFrame {a0 a1 a2} (h : Good g s) : GoodN g (execNoFrame a0 a1 a2 s) := by
  delta execNoFrame
  refine goodN_next ?_
  refine good_headsFollow ?_
  refine good_noFrameLost ?_
  exact good_at (by assumption)

theorem good_execPacketError {a0 a1 a2} (h : Good g s) : GoodN g (execPacketError a0 a1 a2 s) := by
  delta execPacketError
  refine goodN_next ?_
  refine good_headsFollow ?_
  refine good_packetError ?_
  exact good_at (by assumption)

theorem good_execPclkGlitch {a0 a1 a2} (h : Good g s) : GoodN g (execPclkGlitch a0 a1 a2 s) := by
  delta execPclkGlitch
  refine goodN_next ?_
  refine good_headsFollow ?_
  refine good_pclkGlitch ?_
  exact good_at (by assumption)

theorem good_execPhyError {a0 a1 a2} (h : Good g s) : GoodN g (execPhyError a0 a1 a2 s) := by
  delta execPhyError
  refine goodN_next ?_
  refine good_headsFollow ?_
  refine good_phyError ?_
  exact good_at (by assumption)

theorem good_execPinFailsafe {a0 a1} (h : Good g s) : GoodN g (execPinFailsafe a0 a1 s) := by
  delta execPinFailsafe
  refine goodN_next ?_
  refine good_headsFollow ?_
  refine good_pinFailsafe ?_
  exact good_at (by assumption)

theorem good_execPliRetry {a0 a1} (h : Good g s) : GoodN g (execPliRetry a0 a1 s) := by
  delta execPliRetry
  refine goodN_next ?_
  refine good_headsFollow ?_
  refine good_pliRetry ?_
  exact good_at (by assumption)

theorem good_execSegReady {a0 a1} (h : Good g s) : GoodN g (execSegReady a0 a1 s) := by
  delta execSegReady
  refine goodN_next ?_
  refine good_headsFollow ?_
  refine good_segReady ?_
  exact good_at (by assumption)

theorem good_stagedRowRead {a0 a1 a2} (h : Good g s) : Good g (stagedRowRead a0 a1 a2 s) := by
  delta stagedRowRead
  split
  · assumption
  · split
    · assumption
    · exact good_readBack (by assumption)

theorem good_execStagedRowRead {a0 a1 a2 a3} (h : Good g s) : GoodN g (execStagedRowRead a0 a1 a2 a3 s) := by
  delta execStagedRowRead
  refine goodN_next ?_
  refine good_headsFollow ?_
  refine good_stagedRowRead ?_
  exact good_at (by assumption)

theorem good_execStatsReady {a0 a1} (h : Good g s) : GoodN g (execStatsReady a0 a1 s) := by
  delta execStatsReady
  refine goodN_next ?_
  refine good_headsFollow ?_
  refine good_statsReady ?_
  exact good_at (by assumption)

theorem good_execStripeComplete {a0 a1 a2 a3} (h : Good g s) : GoodN g (execStripeComplete a0 a1 a2 a3 s) := by
  delta execStripeComplete
  refine goodN_next ?_
  refine good_headsFollow ?_
  refine good_stripeComplete ?_
  exact good_at (by assumption)

theorem good_execSwapDone {a0 a1} (h : Good g s) : GoodN g (execSwapDone a0 a1 s) := by
  delta execSwapDone
  refine goodN_next ?_
  refine good_headsFollow ?_
  refine good_swapDone ?_
  exact good_at (by assumption)

theorem good_execTapBufferComplete {a0 a1 a2} (h : Good g s) : GoodN g (execTapBufferComplete a0 a1 a2 s) := by
  delta execTapBufferComplete
  refine goodN_next ?_
  refine good_headsFollow ?_
  refine good_tapComplete ?_
  exact good_at (by assumption)

theorem good_execUlpsEntryExit {a0 a1 a2 a3 a4} (h : Good g s) : GoodN g (execUlpsEntryExit a0 a1 a2 a3 a4 s) := by
  delta execUlpsEntryExit
  refine goodN_next ?_
  refine good_headsFollow ?_
  refine good_phyLanes ?_
  exact good_at (by assumption)

end Sys2Proof.Machine
end

