-- ==== Sys2Proof/Laws/KeepSuper.lean ====
section
/-! SUPPORT. Every operation of Super.lean keeps a state good: sound, its queue untouched, nothing sent taken back. -/

namespace Sys2Proof.Machine

variable {g : Ghost} {s : State}

theorem good_bootEnd {a0} (h : Good g s) : Good g (bootEnd a0 s) := by
  delta bootEnd
  extract_lets +onlyGivenNames -merge -useContext -underBinder x2_0 x2_1
  clear_value x2_0
  have hx2_1 : Good g x2_1 := by
    unfold x2_1
    refine good_upd ?_
    assumption
  clear_value x2_1
  refine good_forEach (fun _ _ _ => ?_) ?_
  · exact good_imageInvalid (by assumption)
  · refine good_showSec ?_
    exact good_setState (by assumption)

theorem good_bootEntry {a0 a1} (h : Good g s) : Good2 g (bootEntry a0 a1 s) := by
  delta bootEntry
  extract_lets +onlyGivenNames -merge -useContext -underBinder x2_0 x2_1
  clear_value x2_0 x2_1
  refine ite_ind ?_ ?_
  · refine good2_mk ?_
    assumption
  · refine ite_ind ?_ ?_
    · refine good2_mk ?_
      assumption
    · refine good2_mk ?_
      refine ite_ind ?_ ?_
      · exact good_loadProfile (by assumption)
      · exact good_loadBundle (by assumption)

theorem good_bootMemory (h : Good g s) : Good2 g (bootMemory s) := by
  delta bootMemory
  split
  · extract_lets +onlyGivenNames -merge -useContext -underBinder x4_0 x4_1 x4_2 x4_3 x4_4 x4_5 x4_6 x4_7
    have hx4_0 : Good g x4_0 := by
      refine good_forEach (fun _ _ _ => ?_) ?_
      · exact good_set (by assumption)
      · assumption
    clear_value x4_0
    have hx4_1 : Good g x4_1 := by
      exact good_set (by assumption)
    clear_value x4_1
    have hx4_2 : Good g x4_2 := by
      unfold x4_2
      split
      · refine good_setRole ?_
        exact good_setRole (by assumption)
      · assumption
    clear_value x4_2 x4_3 x4_4
    have hx4_5 : Good g x4_5 := by
      refine good_set ?_
      exact good_set (by assumption)
    clear_value x4_5 x4_6
    have hx4_7 : Good g x4_7 := by
      unfold x4_7
      refine good_upd ?_
      assumption
    clear_value x4_7
    refine good2_mk ?_
    refine good_forEach (fun _ _ _ => ?_) ?_
    · refine good_ddrcEnable ?_
      refine good_setHdr (fun k => ?_) ?_
      · exact ⟨k.hosts, k.outcome, k.lost, k.owner⟩
      · assumption
    · assumption

theorem good_bootSelect {a0} (h : Good g s) : Good2 g (bootSelect a0 s) := by
  delta bootSelect
  extract_lets +onlyGivenNames -merge -useContext -underBinder x2_0 x2_1 x2_2 x2_3 x2_4
  clear_value x2_0
  have hx2_1 : Good g x2_1 := by
    refine ite_ind ?_ ?_
    · refine good_setTrial ?_
      exact good_setPref (by assumption)
    · assumption
  clear_value x2_1 x2_2 x2_3
  have hx2_4 : Good g x2_4 := by
    exact good_setRunning (by assumption)
  clear_value x2_4
  refine good2_mk ?_
  refine ite_ind ?_ ?_
  · exact good_setTrial (by assumption)
  · assumption

theorem good_bootStore (h : Good g s) : Good2 g (bootStore s) := by
  delta bootStore
  refine forEach_ind (fun _ _ _ => ?_) ?_
  · refine good_bootEntry ?_
    show Good2 g _
    assumption
  · refine good2_mk ?_
    assumption

theorem regsOk_windows {t : Tbl Word} {b : Bool} (h : regsOk t) :
    regsOk (windowOf .sup t ++ (if b then windowOf .svb t else [])) := by
  have low : ∀ e ∈ windowOf .sup t, e.1 < 0x2000 := by
    intro e he
    have := (List.mem_filter.1 he).2
    simp only [Bool.and_eq_true, decide_eq_true_eq] at this
    exact this.2
  have high : ∀ e ∈ windowOf .svb t, 0x2000 ≤ e.1 := by
    intro e he
    have := (List.mem_filter.1 he).2
    simp only [Bool.and_eq_true, decide_eq_true_eq] at this
    exact Nat.le_trans (by decide) this.1
  have h1 : regsOk (windowOf .sup t) := regsOk_filter h
  have h2 : regsOk (windowOf .svb t) := regsOk_filter h
  cases b
  · simpa using h1
  · refine ⟨tbl_sorted_iff_pairwise.2 (List.pairwise_append.2
      ⟨tbl_sorted_iff_pairwise.1 h1.1, tbl_sorted_iff_pairwise.1 h2.1, fun x hx y hy => ?_⟩), fun e he => ?_⟩
    · exact Nat.lt_of_lt_of_le (low x hx) (high y hy)
    · rcases List.mem_append.1 he with he | he
      · exact h1.2 e he
      · exact h2.2 e he

theorem hdrsOk_nil : hdrsOk [] := ⟨rfl, fun _ h => nomatch h⟩

theorem good_coldBase {a0 a1} (h : Good g s) : Good g (coldBase a0 a1 s) :=
  { h with dram := rfl, regs := regsOk_windows h.regs, stag := regsOk_nil, hdrs := hdrsOk_nil, tables := tables_reset }

theorem good_latchRecord (h : Good g s) : Good2 g (latchRecord s) := by
  delta latchRecord
  split
  · rename_i v2_0 v2_1 q2_0
    have hv2_1 : Good g v2_1 := good2_eq q2_0 (by
      exact good_bootSelect (by assumption))
    split
    · extract_lets +onlyGivenNames -merge -useContext -underBinder x6_0 x6_1 x6_2
      have hx6_0 : Good g x6_0 := by
        exact good_set (by assumption)
      clear_value x6_0
      have hx6_1 : Good g x6_1 := by
        refine good_set ?_
        exact good_set (by assumption)
      clear_value x6_1
      have hx6_2 : Good g x6_2 := by
        exact good_set (by assumption)
      clear_value x6_2
      refine good2_mk ?_
      refine good_upd ?_
      assumption

theorem good_showFault (h : Good g s) : Good g (showFault s) := by
  delta showFault
  extract_lets +onlyGivenNames -merge -useContext -underBinder x2_0 x2_1 x2_2
  clear_value x2_0 x2_1
  have hx2_2 : Good g x2_2 := by
    exact good_set (by assumption)
  clear_value x2_2
  refine good_upd ?_
  assumption

theorem good_svbLink {a0 a1} (h : Good g s) : Good g (svbLink a0 a1 s) := by
  delta svbLink
  refine good_set ?_
  exact good_set (by assumption)

theorem good_svEngage (h : Good g s) : Good g (svEngage s) := by
  delta svEngage
  extract_lets +onlyGivenNames -merge -useContext -underBinder x2_0 x2_1 x2_2 x2_3 x2_4 x2_5 x2_6
  have hx2_0 : Good g x2_0 := by
    exact good_inc (by assumption)
  clear_value x2_0
  have hx2_1 : Good g x2_1 := by
    exact good_inc (by assumption)
  clear_value x2_1 x2_2 x2_3 x2_4
  have hx2_5 : Good g x2_5 := by
    unfold x2_5
    refine good_upd ?_
    assumption
  clear_value x2_5
  have hx2_6 : Good g x2_6 := by
    refine good_svbLink ?_
    refine good_set ?_
    exact good_set (by assumption)
  clear_value x2_6
  refine good_raise ?_
  refine good_portLeave ?_
  exact good_setState (by assumption)

theorem good_svDisengage (h : Good g s) : Good g (svDisengage s) := by
  delta svDisengage
  extract_lets +onlyGivenNames -merge -useContext -underBinder x2_0 x2_1 x2_2 x2_3
  clear_value x2_0 x2_1
  have hx2_2 : Good g x2_2 := by
    unfold x2_2
    refine good_upd ?_
    assumption
  clear_value x2_2
  have hx2_3 : Good g x2_3 := by
    refine good_svbLink ?_
    refine good_set ?_
    exact good_set (by assumption)
  clear_value x2_3
  refine good_raise ?_
  refine good_portReturn ?_
  exact good_setState (by assumption)

theorem good_evalCauses (h : Good g s) : Good g (evalCauses s) := by
  delta evalCauses
  extract_lets +onlyGivenNames -merge -useContext -underBinder x2_0
  clear_value x2_0
  refine good_showFault ?_
  refine ite_ind ?_ ?_
  · exact good_svEngage (by assumption)
  · refine ite_ind ?_ ?_
    · exact good_svDisengage (by assumption)
    · assumption

theorem good_setCause {a0 a1} (h : Good g s) : Good g (setCause a0 a1 s) := by
  delta setCause
  refine good_evalCauses ?_
  exact good_set (by assumption)

theorem good_enterRecovery (h : Good g s) : Good g (enterRecovery s) := by
  delta enterRecovery
  refine good_setCause ?_
  refine good_set ?_
  exact good_setState (by assumption)

theorem good_measureRunning {a0} (h : Good g s) : Good g (measureRunning a0 s) := by
  delta measureRunning
  split
  · exact good_putEntry (by assumption)
  · assumption

theorem good_measureRetirement (h : Good g s) : Good g (measureRetirement s) := by
  delta measureRetirement
  split
  · exact good_putEntry (by assumption)
  · assumption

theorem good_loadFirmware (h : Good g s) : Good g (loadFirmware s) := by
  delta loadFirmware
  split
  · extract_lets +onlyGivenNames -merge -useContext -underBinder x4_0
    clear_value x4_0
    exact good_dramWrite (by assumption)
  · assumption

theorem good_coldBoot (h : Good g s) : Good g (coldBoot s) := by
  delta coldBoot
  split
  · rename_i v2_0 v2_1 q2_0
    have hv2_1 : Good g v2_1 := good2_eq q2_0 (by
      exact good_latchRecord (by assumption))
    extract_lets +onlyGivenNames -merge -useContext -underBinder x4_0
    have hx4_0 : Good g x4_0 := by
      exact good_evalCauses (by assumption)
    clear_value x4_0
    split
    · rename_i v4_0 v4_1 q4_0
      have hv4_1 : Good g v4_1 := good2_eq q4_0 (by
        exact good_bootSelect (by assumption))
      refine ite_ind ?_ ?_
      · exact good_enterRecovery (by assumption)
      · extract_lets +onlyGivenNames -merge -useContext -underBinder x8_0 x8_1
        clear_value x8_0
        have hx8_1 : Good g x8_1 := by
          unfold x8_1
          refine good_upd ?_
          assumption
        clear_value x8_1
        split
        · rename_i v8_0 v8_1 q8_0
          have hv8_1 : Good g v8_1 := good2_eq q8_0 (by
            exact good_bootSelect (by assumption))
          split
          · rename_i v10_0 v10_1 q10_0
            have hv10_1 : Good g v10_1 := good2_eq q10_0 (by
              exact good_bootSelect (by assumption))
            split
            · rename_i v12_0 v12_1 q12_0
              have hv12_1 : Good g v12_1 := good2_eq q12_0 (by
                exact good_bootMemory (by assumption))
              extract_lets +onlyGivenNames -merge -useContext -underBinder x14_0 x14_1 x14_2
              have hx14_0 : Good g x14_0 := by
                exact good_writeDefaultRights (by assumption)
              clear_value x14_0
              have hx14_1 : Good g x14_1 := by
                unfold x14_1
                split
                · exact good_applyRights (by assumption)
                · assumption
              clear_value x14_1
              have hx14_2 : Good g x14_2 := by
                refine good_measureRunning ?_
                refine good_measureRunning ?_
                refine good_measureRetirement ?_
                refine good_measureRunning ?_
                exact good_measureRunning (by assumption)
              clear_value x14_2
              split
              · rename_i v14_0 v14_1 q14_0
                have hv14_1 : Good g v14_1 := good2_eq q14_0 (by
                  refine good_bootStore ?_
                  exact good_loadFirmware (by assumption))
                extract_lets +onlyGivenNames -merge -useContext -underBinder x16_0 x16_1 x16_2
                clear_value x16_0
                have hx16_1 : Good g x16_1 := by
                  unfold x16_1
                  refine good_upd ?_
                  assumption
                clear_value x16_1 x16_2
                exact good_bootEnd (by assumption)

theorem good_refreshMisses (h : Good g s) : Good g (refreshMisses s) := by
  delta refreshMisses
  extract_lets +onlyGivenNames -merge -useContext -underBinder x2_0
  clear_value x2_0
  refine good_set ?_
  refine good_upd ?_
  assumption

theorem good_coldReset {a0} (h : Good g s) : Good g (coldReset a0 s) := by
  delta coldReset
  extract_lets +onlyGivenNames -merge -useContext -underBinder x2_0 x2_1 x2_2 x2_3 x2_4 x2_5
  clear_value x2_0
  have hx2_1 : Good g x2_1 := by
    exact good_coldBase (by assumption)
  clear_value x2_1 x2_2
  have hx2_3 : Good g x2_3 := by
    refine good_set ?_
    exact good_set (by assumption)
  clear_value x2_3
  have hx2_4 : Good g x2_4 := by
    refine good_set ?_
    refine good_set ?_
    exact good_set (by assumption)
  clear_value x2_4
  have hx2_5 : Good g x2_5 := by
    exact good_refreshMisses (by assumption)
  clear_value x2_5
  refine ite_ind ?_ ?_
  · assumption
  · extract_lets +onlyGivenNames -merge -useContext -underBinder x4_0 x4_1 x4_2 x4_3
    clear_value x4_0 x4_1 x4_2
    have hx4_3 : Good g x4_3 := by
      unfold x4_3
      refine good_upd ?_
      assumption
    clear_value x4_3
    refine good_portLeave ?_
    refine good_svbLink ?_
    exact good_set (by assumption)

theorem good_complexReset (h : Good g s) : Good g (complexReset s) := by
  delta complexReset
  extract_lets +onlyGivenNames -merge -useContext -underBinder x2_0 x2_1
  clear_value x2_0
  have hx2_1 : Good g x2_1 := by
    unfold x2_1
    refine good_upd ?_
    assumption
  clear_value x2_1
  refine good_showMem ?_
  refine good_releaseKeeper ?_
  exact good_secWarm (by assumption)

theorem good_countHot {a0} (h : Good g s) : Good g (countHot a0 s) := by
  delta countHot
  refine good_upd ?_
  assumption

theorem good_memFollow {a0} (h : Good g s) : Good g (memFollow a0 s) := by
  delta memFollow
  extract_lets +onlyGivenNames -merge -useContext -underBinder x2_0
  have hx2_0 : Good g x2_0 := by
    exact good_noteRetirement (by assumption)
  clear_value x2_0
  refine ite_ind ?_ ?_
  · exact good_setCause (by assumption)
  · assumption

theorem good_execDdrcTrainingDone {a0 a1 a2} (h : Good g s) : GoodN g (execDdrcTrainingDone a0 a1 a2 s) := by
  delta execDdrcTrainingDone
  refine goodN_next ?_
  refine good_memFollow ?_
  refine good_trainingDone ?_
  exact good_at (by assumption)

theorem good_execDiagnosisDone {a0 a1 a2} (h : Good g s) : GoodN g (execDiagnosisDone a0 a1 a2 s) := by
  delta execDiagnosisDone
  refine goodN_next ?_
  refine good_memFollow ?_
  refine good_diagnosisDone ?_
  exact good_at (by assumption)

theorem good_execDramReadDone {a0 a1 a2 a3 a4} (h : Good g s) : GoodN g (execDramReadDone a0 a1 a2 a3 a4 s) := by
  delta execDramReadDone
  refine goodN_next ?_
  refine good_memFollow ?_
  refine good_lineRead ?_
  exact good_at (by assumption)

theorem good_warmReset {a0} (h : Good g s) : Good g (warmReset a0 s) := by
  delta warmReset
  extract_lets +onlyGivenNames -merge -useContext -underBinder x2_0 x2_1
  have hx2_0 : Good g x2_0 := by
    refine good_inc ?_
    exact good_set (by assumption)
  clear_value x2_0
  have hx2_1 : Good g x2_1 := by
    refine good_setState ?_
    exact good_set (by assumption)
  clear_value x2_1
  refine good_showFault ?_
  exact good_complexReset (by assumption)

theorem good_supMiss (h : Good g s) : Good g (supMiss s) := by
  delta supMiss
  extract_lets +onlyGivenNames -merge -useContext -underBinder x2_0
  clear_value x2_0
  refine ite_ind ?_ ?_
  · assumption
  · extract_lets +onlyGivenNames -merge -useContext -underBinder x4_0 x4_1 x4_2
    clear_value x4_0
    have hx4_1 : Good g x4_1 := by
      unfold x4_1
      refine good_upd ?_
      assumption
    clear_value x4_1
    have hx4_2 : Good g x4_2 := by
      refine good_raise ?_
      refine good_refreshMisses ?_
      exact good_inc (by assumption)
    clear_value x4_2
    refine ite_ind ?_ ?_
    · refine good_raise ?_
      refine good_setCause ?_
      refine good_complexReset ?_
      exact good_setState (by assumption)
    · refine good_warmReset ?_
      exact good_setCause (by assumption)

theorem good_windowMiss {a0} (h : Good g s) : Good g (windowMiss a0 s) := by
  delta windowMiss
  extract_lets +onlyGivenNames -merge -useContext -underBinder x2_0
  clear_value x2_0
  refine ite_ind ?_ ?_
  · exact good_supMiss (by assumption)
  · assumption

theorem good_execFirstHeartbeatTimeout {a0} (h : Good g s) : GoodN g (execFirstHeartbeatTimeout a0 s) := by
  delta execFirstHeartbeatTimeout
  refine goodN_next ?_
  refine good_windowMiss ?_
  exact good_at (by assumption)

theorem good_execFreqAbort {a0} (h : Good g s) : GoodN g (execFreqAbort a0 s) := by
  delta execFreqAbort
  refine goodN_next ?_
  refine good_memFollow ?_
  refine good_freqAbort ?_
  exact good_at (by assumption)

theorem good_execFreqChangeDone {a0 a1 a2 a3} (h : Good g s) : GoodN g (execFreqChangeDone a0 a1 a2 a3 s) := by
  delta execFreqChangeDone
  refine goodN_next ?_
  refine good_memFollow ?_
  refine good_freqDone ?_
  exact good_at (by assumption)

theorem good_execFreqMarginMet {a0} (h : Good g s) : GoodN g (execFreqMarginMet a0 s) := by
  delta execFreqMarginMet
  refine goodN_next ?_
  refine good_memFollow ?_
  refine good_freqMargin ?_
  exact good_at (by assumption)

theorem good_execFreqTimeout {a0} (h : Good g s) : GoodN g (execFreqTimeout a0 s) := by
  delta execFreqTimeout
  refine goodN_next ?_
  refine good_memFollow ?_
  refine good_freqTimeout ?_
  exact good_at (by assumption)

theorem good_intervalMiss {a0} (h : Good g s) : Good g (intervalMiss a0 s) := by
  delta intervalMiss
  refine ite_ind ?_ ?_
  · exact good_supMiss (by assumption)
  · assumption

theorem good_execHbMiss {a0} (h : Good g s) : GoodN g (execHbMiss a0 s) := by
  delta execHbMiss
  refine goodN_next ?_
  refine good_intervalMiss ?_
  exact good_at (by assumption)

theorem good_svbWait {a0} (h : Good g s) : Good g (svbWait a0 s) := by
  delta svbWait
  refine good_svbLink ?_
  refine good_setState ?_
  refine good_upd ?_
  assumption

theorem good_svbUnplug {a0} (h : Good g s) : Good g (svbUnplug a0 s) := by
  delta svbUnplug
  refine ite_ind ?_ ?_
  · refine good_svbWait ?_
    exact good_inc (by assumption)
  · assumption

theorem good_execHpdUnplug {a0 a1} (h : Good g s) : GoodN g (execHpdUnplug a0 a1 s) := by
  delta execHpdUnplug
  refine goodN_next ?_
  refine good_svbUnplug ?_
  refine good_hpdUnplug ?_
  exact good_at (by assumption)

theorem good_warmSelect {a0} (h : Good g s) : Good g (warmSelect a0 s) := by
  delta warmSelect
  extract_lets +onlyGivenNames -merge -useContext -underBinder x2_0
  clear_value x2_0
  exact good_setRunning (by assumption)

theorem good_warmBoot (h : Good g s) : Good g (warmBoot s) := by
  delta warmBoot
  extract_lets +onlyGivenNames -merge -useContext -underBinder x2_0
  have hx2_0 : Good g x2_0 := by
    exact good_warmSelect (by assumption)
  clear_value x2_0
  refine ite_ind ?_ ?_
  · exact good_enterRecovery (by assumption)
  · extract_lets +onlyGivenNames -merge -useContext -underBinder x4_0 x4_1
    clear_value x4_0
    have hx4_1 : Good g x4_1 := by
      unfold x4_1
      refine good_upd ?_
      assumption
    clear_value x4_1
    refine good_bootEnd ?_
    refine good_loadFirmware ?_
    refine good_measureRunning ?_
    refine good_measureRunning ?_
    exact good_warmSelect (by assumption)

theorem good_mgmtResetEnd {a0} (h : Good g s) : Good g (mgmtResetEnd a0 s) := by
  delta mgmtResetEnd
  refine ite_ind ?_ ?_
  · assumption
  · refine good_showMem ?_
    refine good_warmBoot ?_
    refine good_upd ?_
    assumption

theorem good_execMgmtResetEnd {a0} (h : Good g s) : GoodN g (execMgmtResetEnd a0 s) := by
  delta execMgmtResetEnd
  refine goodN_next ?_
  refine good_mgmtResetEnd ?_
  exact good_at (by assumption)

theorem good_execMr4Poll {a0 a1 a2} (h : Good g s) : GoodN g (execMr4Poll a0 a1 a2 s) := by
  delta execMr4Poll
  refine goodN_next ?_
  refine good_memFollow ?_
  refine good_mr4 ?_
  exact good_at (by assumption)

theorem good_powerBase (h : Good g s) : Good g (powerBase s) :=
  { h with dram := rfl, regs := regsOk_nil, stag := regsOk_nil, hdrs := hdrsOk_nil, tables := tables_reset }

theorem good_powerOn (h : Good g s) : Good g (powerOn s) := by
  delta powerOn
  extract_lets +onlyGivenNames -merge -useContext -underBinder x2_0
  clear_value x2_0
  refine ite_ind ?_ ?_
  · refine good_set ?_
    refine good_set ?_
    exact good_powerBase (by assumption)
  · exact good_powerBase (by assumption)

theorem good_execPowerOnReset {a0} (h : Good g s) : GoodN g (execPowerOnReset a0 s) := by
  delta execPowerOnReset
  refine goodN_next ?_
  refine good_powerOn ?_
  exact good_at (by assumption)

theorem good_quadStale {a0 a1} (h : Good g s) : Good g (quadStale a0 a1 s) := by
  delta quadStale
  refine ite_ind ?_ ?_
  · assumption
  · extract_lets +onlyGivenNames -merge -useContext -underBinder x4_0
    have hx4_0 : Good g x4_0 := by
      exact good_set (by assumption)
    clear_value x4_0
    refine good_raise ?_
    exact good_inc (by assumption)

theorem good_execQuadStale {a0 a1} (h : Good g s) : GoodN g (execQuadStale a0 a1 s) := by
  delta execQuadStale
  refine goodN_next ?_
  refine good_quadStale ?_
  exact good_at (by assumption)

theorem good_tripOn (h : Good g s) : Good g (tripOn s) := by
  delta tripOn
  extract_lets +onlyGivenNames -merge -useContext -underBinder x2_0 x2_1
  clear_value x2_0
  have hx2_1 : Good g x2_1 := by
    unfold x2_1
    refine good_upd ?_
    assumption
  clear_value x2_1
  refine good_setCause ?_
  exact good_setState (by assumption)

theorem good_leaveReset {a0} (h : Good g s) : Good g (leaveReset a0 s) := by
  delta leaveReset
  refine good_upd ?_
  assumption

theorem good_released {a0} (h : Good g s) : Good g (released a0 s) := by
  delta released
  refine ite_ind ?_ ?_
  · exact good_tripOn (by assumption)
  · refine good_coldBoot ?_
    refine good_refreshFrayPin ?_
    refine good_showFault ?_
    refine good_setState ?_
    exact good_leaveReset (by assumption)

theorem good_liftResetN (h : Good g s) : Good g (liftResetN s) := by
  delta liftResetN
  refine good_upd ?_
  assumption

theorem good_resetRelease {a0} (h : Good g s) : Good g (resetRelease a0 s) := by
  delta resetRelease
  refine ite_ind ?_ ?_
  · assumption
  · refine good_released ?_
    exact good_liftResetN (by assumption)

theorem good_resetAssert (h : Good g s) : Good g (resetAssert s) := by
  delta resetAssert
  extract_lets +onlyGivenNames -merge -useContext -underBinder x2_0 x2_1 x2_2 x2_3 x2_4
  clear_value x2_0 x2_1
  have hx2_2 : Good g x2_2 := by
    refine good_coldReset ?_
    refine good_upd ?_
    assumption
  clear_value x2_2
  have hx2_3 : Good g x2_3 := by
    exact good_set (by assumption)
  clear_value x2_3
  have hx2_4 : Good g x2_4 := by
    exact good_set (by assumption)
  clear_value x2_4
  exact good_setState (by assumption)

theorem good_recoveryImage {a0 a1} (h : Good g s) : Good g (recoveryImage a0 a1 s) := by
  delta recoveryImage
  refine ite_ind ?_ ?_
  · assumption
  · extract_lets +onlyGivenNames -merge -useContext -underBinder x4_0
    clear_value x4_0
    refine ite_ind ?_ ?_
    · exact good_logError (by assumption)
    · refine ite_ind ?_ ?_
      · exact good_logError (by assumption)
      · refine good_resetRelease ?_
        refine good_resetAssert ?_
        exact good_setFlash (by assumption)

theorem good_execRecoveryImage {a0 a1} (h : Good g s) : GoodN g (execRecoveryImage a0 a1 s) := by
  delta execRecoveryImage
  refine goodN_next ?_
  refine good_recoveryImage ?_
  exact good_at (by assumption)

theorem good_execRefresh {a0 a1} (h : Good g s) : GoodN g (execRefresh a0 a1 s) := by
  delta execRefresh
  refine goodN_next ?_
  exact good_at (by assumption)

theorem good_execRelineSegmentDone {a0 a1} (h : Good g s) : GoodN g (execRelineSegmentDone a0 a1 s) := by
  delta execRelineSegmentDone
  refine goodN_next ?_
  refine good_memFollow ?_
  refine good_segmentDone ?_
  exact good_at (by assumption)

theorem good_execResetNAssert {a0} (h : Good g s) : GoodN g (execResetNAssert a0 s) := by
  delta execResetNAssert
  refine goodN_next ?_
  refine good_resetAssert ?_
  exact good_at (by assumption)

theorem good_execResetNRelease {a0} (h : Good g s) : GoodN g (execResetNRelease a0 s) := by
  delta execResetNRelease
  refine goodN_next ?_
  refine good_resetRelease ?_
  exact good_at (by assumption)

theorem good_safeviewPin {a0} (h : Good g s) : Good g (safeviewPin a0 s) := by
  delta safeviewPin
  extract_lets +onlyGivenNames -merge -useContext -underBinder x2_0 x2_1
  clear_value x2_0
  have hx2_1 : Good g x2_1 := by
    unfold x2_1
    refine good_upd ?_
    assumption
  clear_value x2_1
  refine good_setCause ?_
  exact good_set (by assumption)

theorem good_execSafeviewReqRelease {a0} (h : Good g s) : GoodN g (execSafeviewReqRelease a0 s) := by
  delta execSafeviewReqRelease
  refine goodN_next ?_
  refine good_safeviewPin ?_
  exact good_at (by assumption)

theorem good_execSafeviewRequest {a0} (h : Good g s) : GoodN g (execSafeviewRequest a0 s) := by
  delta execSafeviewRequest
  refine goodN_next ?_
  refine good_safeviewPin ?_
  exact good_at (by assumption)

theorem good_execScrubLine {a0 a1 a2 a3} (h : Good g s) : GoodN g (execScrubLine a0 a1 a2 a3 s) := by
  delta execScrubLine
  refine goodN_next ?_
  refine good_memFollow ?_
  refine good_scrubRead ?_
  exact good_at (by assumption)

theorem good_svbBegin {a0 a1} (h : Good g s) : Good g (svbBegin a0 a1 s) := by
  delta svbBegin
  refine ite_ind ?_ ?_
  · exact good_svbWait (by assumption)
  · extract_lets +onlyGivenNames -merge -useContext -underBinder x4_0
    clear_value x4_0
    refine ite_ind ?_ ?_
    · refine good_raise ?_
      exact good_svbWait (by assumption)
    · refine good_setState ?_
      refine good_upd ?_
      assumption

theorem good_svbIdleEnd {a0 a1} (h : Good g s) : Good g (svbIdleEnd a0 a1 s) := by
  delta svbIdleEnd
  refine ite_ind ?_ ?_
  · exact good_svbBegin (by assumption)
  · assumption

theorem good_execSvbIdleEnd {a0 a1 a2} (h : Good g s) : GoodN g (execSvbIdleEnd a0 a1 a2 s) := by
  delta execSvbIdleEnd
  refine goodN_next ?_
  refine good_svbIdleEnd ?_
  exact good_at (by assumption)

theorem good_svbRetry {a0 a1} (h : Good g s) : Good g (svbRetry a0 a1 s) := by
  delta svbRetry
  refine ite_ind ?_ ?_
  · exact good_svbBegin (by assumption)
  · assumption

theorem good_execSvbRetry {a0 a1 a2} (h : Good g s) : GoodN g (execSvbRetry a0 a1 a2 s) := by
  delta execSvbRetry
  refine goodN_next ?_
  refine good_svbRetry ?_
  exact good_at (by assumption)

theorem good_svbSourceRow {a0 a1 a2 a3} (h : Good g s) : Good g (svbSourceRow a0 a1 a2 a3 s) := by
  delta svbSourceRow
  extract_lets +onlyGivenNames -merge -useContext -underBinder x2_0
  clear_value x2_0
  refine ite_ind ?_ ?_
  · assumption
  · extract_lets +onlyGivenNames -merge -useContext -underBinder x4_0 x4_1 x4_2 x4_3
    clear_value x4_0
    have hx4_1 : Good g x4_1 := by
      refine ite_ind ?_ ?_
      · exact good_inc (by assumption)
      · assumption
    clear_value x4_1 x4_2
    have hx4_3 : Good g x4_3 := by
      unfold x4_3
      refine good_upd ?_
      assumption
    clear_value x4_3
    refine ite_ind ?_ ?_
    · refine good_raise ?_
      exact good_set (by assumption)
    · assumption

theorem good_execSvbSourceRow {a0 a1 a2 a3 a4} (h : Good g s) : GoodN g (execSvbSourceRow a0 a1 a2 a3 a4 s) := by
  delta execSvbSourceRow
  refine goodN_next ?_
  refine good_svbSourceRow ?_
  exact good_at (by assumption)

theorem good_svbAttempt {a0} (h : Good g s) : Good g (svbAttempt a0 s) := by
  delta svbAttempt
  refine ite_ind ?_ ?_
  · assumption
  · split
    · assumption
    · refine ite_ind ?_ ?_
      · extract_lets +onlyGivenNames -merge -useContext -underBinder x8_0 x8_1
        clear_value x8_0
        have hx8_1 : Good g x8_1 := by
          unfold x8_1
          refine good_upd ?_
          assumption
        clear_value x8_1
        refine good_raise ?_
        refine good_svbLink ?_
        exact good_setState (by assumption)
      · extract_lets +onlyGivenNames -merge -useContext -underBinder x8_0 x8_1
        clear_value x8_0
        have hx8_1 : Good g x8_1 := by
          refine good_inc ?_
          refine good_upd ?_
          assumption
        clear_value x8_1
        refine ite_ind ?_ ?_
        · refine good_raise ?_
          exact good_svbWait (by assumption)
        · assumption

theorem good_execSvbTrainAttemptEnd {a0 a1} (h : Good g s) : GoodN g (execSvbTrainAttemptEnd a0 a1 s) := by
  delta execSvbTrainAttemptEnd
  refine goodN_next ?_
  refine good_svbAttempt ?_
  exact good_at (by assumption)

theorem good_thermalTrip {a0} (h : Good g s) : Good g (thermalTrip a0 s) := by
  delta thermalTrip
  refine ite_ind ?_ ?_
  · assumption
  · refine good_tripOn ?_
    refine good_coldReset ?_
    refine good_inc ?_
    exact good_set (by assumption)

theorem good_thermalShow {a0 a1 a2} (h : Good g s) : Good g (thermalShow a0 a1 a2 s) := by
  delta thermalShow
  extract_lets +onlyGivenNames -merge -useContext -underBinder x2_0 x2_1 x2_2 x2_3 x2_4
  have hx2_0 : Good g x2_0 := by
    refine ite_ind ?_ ?_
    · assumption
    · refine good_forEach (fun _ _ _ => ?_) ?_
      · refine good_set ?_
        exact good_set (by assumption)
      · assumption
  clear_value x2_0
  have hx2_1 : Good g x2_1 := by
    refine good_set ?_
    exact good_set (by assumption)
  clear_value x2_1 x2_2
  have hx2_3 : Good g x2_3 := by
    exact good_set (by assumption)
  clear_value x2_3 x2_4
  refine ite_ind ?_ ?_
  · refine good_raise ?_
    exact good_set (by assumption)
  · refine ite_ind ?_ ?_
    · refine good_raise ?_
      exact good_set (by assumption)
    · assumption

theorem good_thermalSample {a0} (h : Good g s) : Good g (thermalSample a0 s) := by
  delta thermalSample
  extract_lets +onlyGivenNames -merge -useContext -underBinder x2_0 x2_1 x2_2
  clear_value x2_0 x2_1 x2_2
  refine good_thermalTrip ?_
  refine good_countHot ?_
  exact good_thermalShow (by assumption)

theorem good_execThermalSample {a0 a1} (h : Good g s) : GoodN g (execThermalSample a0 a1 s) := by
  delta execThermalSample
  refine goodN_next ?_
  refine good_thermalSample ?_
  exact good_at (by assumption)

theorem good_execTrackTick {a0 a1 a2 a3} (h : Good g s) : GoodN g (execTrackTick a0 a1 a2 a3 s) := by
  delta execTrackTick
  refine goodN_next ?_
  refine good_memFollow ?_
  refine good_trackTick ?_
  exact good_at (by assumption)

theorem good_heartbeat {a0} (h : Good g s) : Good g (heartbeat a0 s) := by
  delta heartbeat
  extract_lets +onlyGivenNames -merge -useContext -underBinder x2_0
  clear_value x2_0
  refine ite_ind ?_ ?_
  · assumption
  · refine ite_ind ?_ ?_
    · exact good_supMiss (by assumption)
    · extract_lets +onlyGivenNames -merge -useContext -underBinder x6_0 x6_1 x6_2 x6_3 x6_4 x6_5
      clear_value x6_0
      have hx6_1 : Good g x6_1 := by
        exact good_set (by assumption)
      clear_value x6_1 x6_2
      have hx6_3 : Good g x6_3 := by
        unfold x6_3
        refine good_upd ?_
        assumption
      clear_value x6_3
      have hx6_4 : Good g x6_4 := by
        refine good_refreshMisses ?_
        exact good_setState (by assumption)
      clear_value x6_4
      have hx6_5 : Good g x6_5 := by
        refine ite_ind ?_ ?_
        · refine good_secReattached ?_
          exact good_raise (by assumption)
        · assumption
      clear_value x6_5
      exact good_showFault (by assumption)

theorem good_showAges {a0} (h : Good g s) : Good g (showAges a0 s) := by
  delta showAges
  refine good_forEach (fun _ _ _ => ?_) ?_
  · exact good_set (by assumption)
  · exact good_refreshMisses (by assumption)

theorem good_writeSupCtrl {a0} (h : Good g s) : Good g (writeSupCtrl a0 s) := by
  delta writeSupCtrl
  extract_lets +onlyGivenNames -merge -useContext -underBinder x2_0 x2_1 x2_2
  have hx2_0 : Good g x2_0 := by
    exact good_set (by assumption)
  clear_value x2_0
  have hx2_1 : Good g x2_1 := by
    refine ite_ind ?_ ?_
    · refine good_evalCauses ?_
      refine ite_ind ?_ ?_
      · assumption
      · exact good_set (by assumption)
    · assumption
  clear_value x2_1 x2_2
  refine ite_ind ?_ ?_
  · exact good_warmReset (by assumption)
  · assumption

end Sys2Proof.Machine
end

