-- ==== Sys2Proof/Laws/KeepRings.lean ====
section
/-! SUPPORT. Every operation of Rings.lean keeps a state good: sound, its queue untouched, nothing sent taken back. -/

namespace Sys2Proof.Machine

variable {g : Ghost} {s : State}

theorem good_rset {a0 a1 a2 a3} (h : Good g s) : Good g (rset a0 a1 a2 a3 s) := by
  delta rset
  exact good_set (by assumption)

theorem good_descCount {a0 a1 a2} (h : Good g s) : Good g (descCount a0 a1 a2 s) := by
  delta descCount
  extract_lets +onlyGivenNames -merge -useContext -underBinder x2_0
  have hx2_0 : Good g x2_0 := by
    exact good_rset (by assumption)
  clear_value x2_0
  exact good_rset (by assumption)

theorem good_descStatus {a0 a1 a2 a3} (h : Good g s) : Good g (descStatus a0 a1 a2 a3 s) := by
  delta descStatus
  extract_lets +onlyGivenNames -merge -useContext -underBinder x2_0 x2_1
  clear_value x2_0 x2_1
  refine ite_ind ?_ ?_
  · exact good_dramWrite (by assumption)
  · exact good_emit (by assumption)

theorem good_ringEvent {a0 a1 a2} (h : Good g s) : Good g (ringEvent a0 a1 a2 s) := by
  delta ringEvent
  refine good_raise ?_
  exact good_set (by assumption)

theorem good_stopRing {a0 a1} (h : Good g s) : Good g (stopRing a0 a1 s) := by
  delta stopRing
  refine ite_ind ?_ ?_
  · assumption
  · extract_lets +onlyGivenNames -merge -useContext -underBinder x4_0 x4_1
    have hx4_0 : Good g x4_0 := by
      refine ite_ind ?_ ?_
      · refine good_descCount ?_
        refine ite_ind ?_ ?_
        · exact good_descStatus (by assumption)
        · assumption
      · assumption
    clear_value x4_0
    have hx4_1 : Good g x4_1 := by
      refine good_rset ?_
      exact good_rset (by assumption)
    clear_value x4_1
    exact good_ringEvent (by assumption)

theorem good_stopRings {a0} (h : Good g s) : Good g (stopRings a0 s) := by
  delta stopRings
  refine good_forEach (fun _ _ _ => ?_) ?_
  · exact good_stopRing (by assumption)
  · assumption

theorem good_hostFlr {a0} (h : Good g s) : Good g (hostFlr a0 s) := by
  delta hostFlr
  refine ite_ind ?_ ?_
  · assumption
  · extract_lets +onlyGivenNames -merge -useContext -underBinder x4_0 x4_1
    have hx4_0 : Good g x4_0 := by
      refine good_resetFunction ?_
      exact good_setState (by assumption)
    clear_value x4_0
    have hx4_1 : Good g x4_1 := by
      refine good_raise ?_
      exact good_inc (by assumption)
    clear_value x4_1
    refine good_loseOrigin ?_
    exact good_stopRings (by assumption)

theorem good_execFlr {a0 a1} (h : Good g s) : GoodN g (execFlr a0 a1 s) := by
  delta execFlr
  refine goodN_next ?_
  refine good_hostFlr ?_
  exact good_at (by assumption)

theorem good_hostLinkDown {a0} (h : Good g s) : Good g (hostLinkDown a0 s) := by
  delta hostLinkDown
  refine ite_ind ?_ ?_
  · assumption
  · extract_lets +onlyGivenNames -merge -useContext -underBinder x4_0 x4_1
    have hx4_0 : Good g x4_0 := by
      refine good_resetFunction ?_
      refine good_setState ?_
      exact good_linkGone (by assumption)
    clear_value x4_0
    have hx4_1 : Good g x4_1 := by
      refine good_logError ?_
      refine good_raise ?_
      exact good_inc (by assumption)
    clear_value x4_1
    refine good_loseOrigin ?_
    exact good_stopRings (by assumption)

theorem good_execHostLinkDown {a0 a1} (h : Good g s) : GoodN g (execHostLinkDown a0 a1 s) := by
  delta execHostLinkDown
  refine goodN_next ?_
  refine good_hostLinkDown ?_
  exact good_at (by assumption)

theorem good_headNext {a0 a1} (h : Good g s) : Good g (headNext a0 a1 s) := by
  delta headNext
  exact good_rset (by assumption)

theorem good_resetDma {a0} (h : Good g s) : Good g (resetDma a0 s) := by
  delta resetDma
  refine good_forEach (fun _ _ _ => ?_) ?_
  · refine good_rset ?_
    exact good_rset (by assumption)
  · exact good_stopRings (by assumption)

theorem good_writeRingCfg {a0 a1 a2 a3} (h : Good g s) : Good g (writeRingCfg a0 a1 a2 a3 s) := by
  delta writeRingCfg
  extract_lets +onlyGivenNames -merge -useContext -underBinder x2_0 x2_1
  clear_value x2_0 x2_1
  refine ite_ind ?_ ?_
  · refine ite_ind ?_ ?_
    · exact good_logAccess (by assumption)
    · extract_lets +onlyGivenNames -merge -useContext -underBinder x6_0
      have hx6_0 : Good g x6_0 := by
        exact good_rset (by assumption)
      clear_value x6_0
      refine ite_ind ?_ ?_
      · exact good_rset (by assumption)
      · assumption
  · refine ite_ind ?_ ?_
    · exact good_logAccess (by assumption)
    · extract_lets +onlyGivenNames -merge -useContext -underBinder x6_0 x6_1
      clear_value x6_0
      have hx6_1 : Good g x6_1 := by
        exact good_rset (by assumption)
      clear_value x6_1
      refine ite_ind ?_ ?_
      · assumption
      · exact good_rset (by assumption)

theorem good_writeRingBase {a0 a1 a2 a3 a4} (h : Good g s) : Good g (writeRingBase a0 a1 a2 a3 a4 s) := by
  delta writeRingBase
  extract_lets +onlyGivenNames -merge -useContext -underBinder x2_0
  clear_value x2_0
  refine ite_ind ?_ ?_
  · exact good_logAccess (by assumption)
  · refine ite_ind ?_ ?_
    · refine ite_ind ?_ ?_
      · exact good_rset (by assumption)
      · exact good_logAccess (by assumption)
    · exact good_rset (by assumption)

theorem good_writeRingTail {a0 a1 a2 a3} (h : Good g s) : Good g (writeRingTail a0 a1 a2 a3 s) := by
  delta writeRingTail
  refine ite_ind ?_ ?_
  · exact good_logAccess (by assumption)
  · exact good_rset (by assumption)

theorem good_writeRingCtrl {a0 a1 a2 a3} (h : Good g s) : Good g (writeRingCtrl a0 a1 a2 a3 s) := by
  delta writeRingCtrl
  extract_lets +onlyGivenNames -merge -useContext -underBinder x2_0 x2_1 x2_2
  clear_value x2_0 x2_1 x2_2
  refine ite_ind ?_ ?_
  · exact good_logAccess (by assumption)
  · refine ite_ind ?_ ?_
    · assumption
    · refine ite_ind ?_ ?_
      · exact good_logAccess (by assumption)
      · extract_lets +onlyGivenNames -merge -useContext -underBinder x8_0
        have hx8_0 : Good g x8_0 := by
          refine ite_ind ?_ ?_
          · exact good_headNext (by assumption)
          · assumption
        clear_value x8_0
        exact good_rset (by assumption)

theorem good_writeRing {a0 a1 a2 a3} (h : Good g s) : Good g (writeRing a0 a1 a2 a3 s) := by
  delta writeRing
  extract_lets +onlyGivenNames -merge -useContext -underBinder x2_0
  clear_value x2_0
  split
  · exact good_writeRingCfg (by assumption)
  · exact good_writeRingBase (by assumption)
  · exact good_writeRingBase (by assumption)
  · exact good_writeRingTail (by assumption)
  · exact good_writeRingCtrl (by assumption)
  · assumption

end Sys2Proof.Machine
end

