-- ==== Sys2Proof/Laws/KeepSoftReset.lean ====
section
/-! SUPPORT. Every operation of SoftReset.lean keeps a state good: sound, its queue untouched, nothing sent taken back. -/

namespace Sys2Proof.Machine

variable {g : Ghost} {s : State}

theorem good_benchForgets {a0 a1 a2} (h : Good g s) : Good g (benchForgets a0 a1 a2 s) := by
  delta benchForgets
  extract_lets +onlyGivenNames -merge -useContext -underBinder x2_0 x2_1 x2_2
  clear_value x2_0 x2_1 x2_2
  exact good_setBench (by assumption)

theorem good_keepingWords {a0 a1 a2 f} (hf : ∀ s, Good g s → Good g (f s)) (h : Good g s) : Good g (keepingWords a0 a1 a2 f s) := by
  delta keepingWords
  refine good_forEach (fun _ _ _ => ?_) ?_
  · exact good_setWord (by assumption)
  · refine hf _ ?_
    assumption

theorem good_outOfService {a0 a1} (h : Good g s) : Good g (outOfService a0 a1 s) := by
  delta outOfService
  refine good_setHdr (fun k => ?_) ?_
  · exact ⟨k.hosts, k.outcome, k.lost, k.owner⟩
  · assumption

theorem good_softCam {a0} (h : Good g s) : Good g (softCam a0 s) := by
  delta softCam
  extract_lets +onlyGivenNames -merge -useContext -underBinder x2_0 x2_1 x2_2
  clear_value x2_0 x2_1
  have hx2_2 : Good g x2_2 := by
    exact good_resetPort (by assumption)
  clear_value x2_2
  refine good_kick ?_
  refine good_outOfService ?_
  refine good_keepingWords (fun _ _ => ?_) ?_
  · exact good_clearWindow (by assumption)
  · assumption

theorem good_resetPlain {a0 a1} (h : Good g s) : Good g (resetPlain a0 a1 s) := by
  delta resetPlain
  refine good_outOfService ?_
  exact good_clearWindow (by assumption)

theorem good_softCctl {a0} (h : Good g s) : Good g (softCctl a0 s) := by
  delta softCctl
  refine good_resetPlain ?_
  exact good_resetCctl (by assumption)

theorem good_softEnc {a0} (h : Good g s) : Good g (softEnc a0 s) := by
  delta softEnc
  extract_lets +onlyGivenNames -merge -useContext -underBinder x2_0
  have hx2_0 : Good g x2_0 := by
    refine good_forEach (fun _ _ _ => ?_) ?_
    · extract_lets +onlyGivenNames -merge -useContext -underBinder x6_0
      clear_value x6_0
      refine good_showCtx ?_
      refine good_setS ?_
      exact good_set (by assumption)
    · exact good_resetEnc (by assumption)
  clear_value x2_0
  exact good_refreshPace (by assumption)

theorem good_softDec {a0} (h : Good g s) : Good g (softDec a0 s) := by
  delta softDec
  refine good_forEach (fun _ _ _ => ?_) ?_
  · exact good_dset (by assumption)
  · exact good_resetDec (by assumption)

theorem good_softAud {a0} (h : Good g s) : Good g (softAud a0 s) := by
  delta softAud
  refine good_outOfService ?_
  exact good_audDisable (by assumption)

theorem good_softTime {a0} (h : Good g s) : Good g (softTime a0 s) := by
  delta softTime
  refine good_resetPlain ?_
  refine good_setDom ?_
  exact good_dropSlew (by assumption)

theorem good_softDpo {a0} (h : Good g s) : Good g (softDpo a0 s) := by
  delta softDpo
  extract_lets +onlyGivenNames -merge -useContext -underBinder x2_0 x2_1 x2_2 x2_3 x2_4 x2_5
  clear_value x2_0 x2_1
  have hx2_2 : Good g x2_2 := by
    exact good_portDisable (by assumption)
  clear_value x2_2 x2_3
  have hx2_4 : Good g x2_4 := by
    exact good_setDpo (by assumption)
  clear_value x2_4
  have hx2_5 : Good g x2_5 := by
    refine good_set ?_
    exact good_resetPlain (by assumption)
  clear_value x2_5
  refine ite_ind ?_ ?_
  · exact good_setState (by assumption)
  · assumption

theorem good_softStrm {a0} (h : Good g s) : Good g (softStrm a0 s) := by
  delta softStrm
  extract_lets +onlyGivenNames -merge -useContext -underBinder x2_0 x2_1 x2_2 x2_3 x2_4 x2_5
  clear_value x2_0
  have hx2_1 : Good g x2_1 := by
    refine good_forEach (fun _ _ _ => ?_) ?_
    · exact good_benchForgets (by assumption)
    · assumption
  clear_value x2_1
  have hx2_2 : Good g x2_2 := by
    refine good_strmSettled ?_
    refine good_place ?_
    exact good_outOfService (by assumption)
  clear_value x2_2
  have hx2_3 : Good g x2_3 := by
    refine good_keepingWords (fun _ _ => ?_) ?_
    · exact good_clearWindow (by assumption)
    · assumption
  clear_value x2_3 x2_4
  have hx2_5 : Good g x2_5 := by
    exact good_setStrm (by assumption)
  clear_value x2_5
  refine good_kick ?_
  refine good_refreshStage ?_
  exact good_strmShown (by assumption)

theorem good_softHead {a0} (h : Good g s) : Good g (softHead a0 s) := by
  delta softHead
  extract_lets +onlyGivenNames -merge -useContext -underBinder x2_0 x2_1 x2_2 x2_3 x2_4
  have hx2_0 : Good g x2_0 := by
    refine good_setHead ?_
    exact good_stopHead (by assumption)
  clear_value x2_0
  have hx2_1 : Good g x2_1 := by
    exact good_resetPlain (by assumption)
  clear_value x2_1
  have hx2_2 : Good g x2_2 := by
    refine good_forEach (fun _ _ _ => ?_) ?_
    · exact good_discardStaged (by assumption)
    · assumption
  clear_value x2_2
  have hx2_3 : Good g x2_3 := by
    refine good_forEach (fun _ _ _ => ?_) ?_
    · exact good_settleLay (by assumption)
    · assumption
  clear_value x2_3
  have hx2_4 : Good g x2_4 := by
    refine good_refreshPace ?_
    exact good_dropUnfed (by assumption)
  clear_value x2_4
  refine good_refreshFrayPin ?_
  refine good_forEach (fun _ _ _ => ?_) ?_
  · refine ite_ind ?_ ?_
    · assumption
    · exact good_setStale (by assumption)
  · assumption

theorem good_softLayer {a0} (h : Good g s) : Good g (softLayer a0 s) := by
  delta softLayer
  extract_lets +onlyGivenNames -merge -useContext -underBinder x2_0
  have hx2_0 : Good g x2_0 := by
    refine good_resetPlain ?_
    exact good_resetLayPre (by assumption)
  clear_value x2_0
  refine good_refreshPace ?_
  refine good_refreshFrayPin ?_
  refine good_dropUnfed ?_
  exact good_showLay (by assumption)

theorem good_softBench {a0} (h : Good g s) : Good g (softBench a0 s) := by
  delta softBench
  refine good_setWord ?_
  refine good_setWord ?_
  exact good_setWord (by assumption)

theorem good_softHost {a0} (h : Good g s) : Good g (softHost a0 s) := by
  delta softHost
  refine good_set ?_
  refine good_set ?_
  exact good_setWord (by assumption)

theorem good_softAmclk (h : Good g s) : Good g (softAmclk s) := by
  delta softAmclk
  refine good_resetPlain ?_
  refine good_upd ?_
  assumption

theorem good_softNet {a0} (h : Good g s) : Good g (softNet a0 s) := by
  delta softNet
  refine good_setNet ?_
  refine good_resetPlain ?_
  exact good_netDisable (by assumption)

theorem good_softSession {a0} (h : Good g s) : Good g (softSession a0 s) := by
  delta softSession
  extract_lets +onlyGivenNames -merge -useContext -underBinder x2_0
  have hx2_0 : Good g x2_0 := by
    refine ite_ind ?_ ?_
    · exact good_unsubscribe (by assumption)
    · assumption
  clear_value x2_0
  refine good_pickAll ?_
  refine good_setSess ?_
  exact good_resetPlain (by assumption)

theorem good_resetBlock {a0 a1} (h : Good g s) : Good g (resetBlock a0 a1 s) := by
  delta resetBlock
  split
  · exact good_softCam (by assumption)
  · exact good_softCam (by assumption)
  · exact good_softCctl (by assumption)
  · exact good_softEnc (by assumption)
  · exact good_softDec (by assumption)
  · exact good_softAud (by assumption)
  · exact good_resetDma (by assumption)
  · assumption
  · exact good_softTime (by assumption)
  · refine good_refreshPps ?_
    exact good_resetPlain (by assumption)
  · exact good_softDpo (by assumption)
  · exact good_softStrm (by assumption)
  · exact good_softHead (by assumption)
  · exact good_softLayer (by assumption)
  · exact good_softBench (by assumption)
  · exact good_softHost (by assumption)
  · refine good_showMem ?_
    exact good_resetPlain (by assumption)
  · exact good_softAmclk (by assumption)
  · refine good_setZraw ?_
    exact good_resetPlain (by assumption)
  · exact good_softNet (by assumption)
  · exact good_softSession (by assumption)
  · exact good_resetPlain (by assumption)
  · assumption
  · assumption
  · assumption
  · assumption
  · assumption
  · assumption
  · assumption
  · assumption
  · assumption
  · assumption
  · assumption
  · assumption

theorem good_resetHeader {a0 a1} (h : Good g s) : Good g (resetHeader a0 a1 s) := by
  delta resetHeader
  extract_lets +onlyGivenNames -merge -useContext -underBinder x2_0
  refine good_setHdr (fun k => ?_) ?_
  · exact ⟨k.hosts, (fun e => nomatch e), (fun e => nomatch e), k.owner⟩
  · assumption

theorem good_softReset {a0 a1} (h : Good g s) : Good g (softReset a0 a1 s) := by
  delta softReset
  refine good_resetBlock ?_
  exact good_resetHeader (by assumption)

end Sys2Proof.Machine
end

