-- ==== Sys2Proof/Laws/KeepWrites.lean ====
section
/-! SUPPORT. Every operation of Writes.lean keeps a state good: sound, its queue untouched, nothing sent taken back. -/

namespace Sys2Proof.Machine

variable {g : Ghost} {s : State}

theorem good_writeSec {a0 a1 a2 a3} (h : Good g s) : Good g (writeSec a0 a1 a2 a3 s) := by
  delta writeSec
  split
  · exact good_writeSecCmd (by assumption)
  · exact good_writeHandover (by assumption)
  · exact good_setSecCopy (by assumption)

theorem good_writeEnc {a0 a1 a2 a3 a4} (h : Good g s) : Good g (writeEnc a0 a1 a2 a3 a4 s) := by
  delta writeEnc
  refine ite_ind ?_ ?_
  · exact good_writeGang (by assumption)
  · extract_lets +onlyGivenNames -merge -useContext -underBinder x4_0
    have hx4_0 : Good g x4_0 := by
      exact good_storeFields (by assumption)
    clear_value x4_0
    refine ite_ind ?_ ?_
    · exact good_outFreed (by assumption)
    · assumption

theorem good_writeDec {a0 a1 a2 a3 a4} (h : Good g s) : Good g (writeDec a0 a1 a2 a3 a4 s) := by
  delta writeDec
  refine ite_ind ?_ ?_
  · exact good_storeFields (by assumption)
  · extract_lets +onlyGivenNames -merge -useContext -underBinder x4_0
    clear_value x4_0
    split
    · exact good_writeDecCfg (by assumption)
    · exact good_writeDecIn (by assumption)
    · exact good_storeFields (by assumption)

theorem good_writePool {a0 a1 a2 a3} (h : Good g s) : Good g (writePool a0 a1 a2 a3 s) := by
  delta writePool
  refine ite_ind ?_ ?_
  · exact good_poolCommand (by assumption)
  · refine ite_ind ?_ ?_
    · exact good_setPoolCopy (by assumption)
    · refine ite_ind ?_ ?_
      · exact good_logAccess (by assumption)
      · exact good_storeFields (by assumption)

theorem good_writePkt {a0 a1 a2 a3} (h : Good g s) : Good g (writePkt a0 a1 a2 a3 s) := by
  delta writePkt
  refine ite_ind ?_ ?_
  · refine ite_ind ?_ ?_
    · exact good_writeFlowCfg (by assumption)
    · exact good_storeFields (by assumption)
  · refine good_pickAll ?_
    refine good_showBuf ?_
    exact good_storeFields (by assumption)

theorem good_writeMemx {a0 a1 a2 a3 a4} (h : Good g s) : Good g (writeMemx a0 a1 a2 a3 a4 s) := by
  delta writeMemx
  split
  · exact good_writeMap (by assumption)
  · exact good_writeRoles (by assumption)
  · exact good_writeFreq (by assumption)
  · exact good_writeReline (by assumption)
  · exact good_storeFields (by assumption)

theorem good_writeEffect {a0 a1 a2 a3 a4 a5 a6} (h : Good g s) : Good g (writeEffect a0 a1 a2 a3 a4 a5 a6 s) := by
  delta writeEffect
  extract_lets +onlyGivenNames -merge -useContext -underBinder x2_0 x2_1
  clear_value x2_0
  have hx2_1 : ∀ s, Good g s → Good g (x2_1 s) := by
    intro s h
    exact good_storeFields (by assumption)
  split
  · refine ite_ind ?_ ?_
    · exact good_writeMode (by assumption)
    · refine good_refreshPace ?_
      refine hx2_1 _ ?_
      assumption
  · refine ite_ind ?_ ?_
    · exact good_heartbeat (by assumption)
    · refine ite_ind ?_ ?_
      · exact good_writeSupCtrl (by assumption)
      · refine hx2_1 _ ?_
        assumption
  · refine ite_ind ?_ ?_
    · exact good_writeThm (by assumption)
    · assumption
  · refine good_refreshPins ?_
    refine hx2_1 _ ?_
    assumption
  · exact good_writeSec (by assumption)
  · exact good_writeRing (by assumption)
  · split
    · exact good_pushCmd (by assumption)
    · exact good_popResult (by assumption)
    · exact good_trigFire (by assumption)
    · exact good_xferStart (by assumption)
    · refine hx2_1 _ ?_
      assumption
  · refine ite_ind ?_ ?_
    · refine ite_ind ?_ ?_
      · exact good_lutLoad (by assumption)
      · assumption
    · refine hx2_1 _ ?_
      assumption
  · refine good_refreshZraw ?_
    refine hx2_1 _ ?_
    assumption
  · exact good_writeEnc (by assumption)
  · exact good_writeDec (by assumption)
  · exact good_writePool (by assumption)
  · refine ite_ind ?_ ?_
    · exact good_writeAux (by assumption)
    · refine hx2_1 _ ?_
      assumption
  · refine ite_ind ?_ ?_
    · exact good_writeChk (by assumption)
    · refine hx2_1 _ ?_
      assumption
  · exact good_writePkt (by assumption)
  · refine ite_ind ?_ ?_
    · exact good_writeTimeCmd (by assumption)
    · refine ite_ind ?_ ?_
      · refine good_pickAll ?_
        refine hx2_1 _ ?_
        assumption
      · refine hx2_1 _ ?_
        assumption
  · refine ite_ind ?_ ?_
    · exact good_writeTimelCmd (by assumption)
    · refine good_refreshPps ?_
      refine hx2_1 _ ?_
      assumption
  · refine ite_ind ?_ ?_
    · exact good_writeAudCtrl (by assumption)
    · refine hx2_1 _ ?_
      assumption
  · refine ite_ind ?_ ?_
    · exact good_writeStart (by assumption)
    · refine hx2_1 _ ?_
      assumption
  · refine good_showMem ?_
    refine hx2_1 _ ?_
    assumption
  · exact good_writeMemx (by assumption)
  · split
    · exact good_writeSessCfg (by assumption)
    · exact good_writeSess (by assumption)
    · exact good_writeSess (by assumption)
    · exact good_writeSess (by assumption)
    · refine hx2_1 _ ?_
      assumption
  · refine hx2_1 _ ?_
    assumption
  · refine hx2_1 _ ?_
    assumption
  · refine hx2_1 _ ?_
    assumption
  · refine hx2_1 _ ?_
    assumption
  · refine hx2_1 _ ?_
    assumption
  · refine hx2_1 _ ?_
    assumption
  · refine hx2_1 _ ?_
    assumption
  · refine hx2_1 _ ?_
    assumption
  · refine hx2_1 _ ?_
    assumption
  · refine hx2_1 _ ?_
    assumption
  · refine hx2_1 _ ?_
    assumption
  · refine hx2_1 _ ?_
    assumption

theorem good_writeBlock {a0 a1 a2 a3 a4 a5 a6} (h : Good g s) : Good g (writeBlock a0 a1 a2 a3 a4 a5 a6 s) := by
  delta writeBlock
  extract_lets +onlyGivenNames -merge -useContext -underBinder x2_0 x2_1
  clear_value x2_0 x2_1
  refine ite_ind ?_ ?_
  · exact good_logAccess (by assumption)
  · refine ite_ind ?_ ?_
    · exact good_logAccess (by assumption)
    · refine ite_ind ?_ ?_
      · exact good_logAccess (by assumption)
      · exact good_writeEffect (by assumption)

end Sys2Proof.Machine
end

