-- ==== Sys2Proof/Laws/KeepBus.lean ====
section
/-! SUPPORT. Every operation of Bus.lean keeps a state good: sound, its queue untouched, nothing sent taken back. -/

namespace Sys2Proof.Machine

variable {g : Ghost} {s : State}

theorem good_busStep {a0 f} (hf : ∀ s, Good g s → Good g (f s)) (h : Good g s) : Good g (busStep a0 f s) := by
  delta busStep
  refine good_headsFollow ?_
  refine good_memFollow ?_
  refine hf _ ?_
  exact good_at (by assumption)

theorem good_clearError {a0 a1 a2} (h : Good g s) : Good g (clearError a0 a1 a2 s) := by
  delta clearError
  extract_lets +onlyGivenNames -merge -useContext -underBinder x2_0
  refine ite_ind ?_ ?_
  · refine good_setHdr (fun k => ?_) ?_
    · exact ⟨k.hosts, k.outcome, (fun e => nomatch e), k.owner⟩
    · assumption
  · assumption

theorem good_clearPending {a0 a1 a2} (h : Good g s) : Good g (clearPending a0 a1 a2 s) := by
  delta clearPending
  extract_lets +onlyGivenNames -merge -useContext -underBinder x2_0 x2_1 x2_2
  have hx2_2 : Good g x2_2 := by
    refine good_setHdr (fun k => ?_) ?_
    · exact ⟨k.hosts, k.outcome, k.lost, k.owner⟩
    · assumption
  clear_value x2_2
  refine ite_ind ?_ ?_
  · exact good_notify (by assumption)
  · assumption

theorem good_enableNow {a0 a1 a2 a3} (h : Good g s) : Good g (enableNow a0 a1 a2 a3 s) := by
  delta enableNow
  extract_lets +onlyGivenNames -merge -useContext -underBinder x2_0
  have hx2_0 : ∀ s, Good g s → Good g (x2_0 s) := by
    intro s h
    refine good_setHdr (fun k => ?_) ?_
    · exact ⟨k.hosts, k.outcome, k.lost, k.owner⟩
    · assumption
  split
  · refine ite_ind ?_ ?_
    · exact good_ctlEnable (by assumption)
    · exact good_ctlDisable (by assumption)
  · refine ite_ind ?_ ?_
    · extract_lets +onlyGivenNames -merge -useContext -underBinder x6_0
      clear_value x6_0
      refine ite_ind ?_ ?_
      · exact good_logAccess (by assumption)
      · refine good_portEnable ?_
        refine hx2_0 _ ?_
        assumption
    · refine good_portDisable ?_
      refine hx2_0 _ ?_
      assumption
  · refine good_pickAll ?_
    refine ite_ind ?_ ?_
    · refine good_netEnable ?_
      refine hx2_0 _ ?_
      assumption
    · refine good_netDisable ?_
      refine hx2_0 _ ?_
      assumption
  · refine ite_ind ?_ ?_
    · refine good_audEnable ?_
      refine hx2_0 _ ?_
      assumption
    · refine good_audDisable ?_
      refine hx2_0 _ ?_
      assumption
  · refine good_refreshZraw ?_
    refine hx2_0 _ ?_
    assumption
  · refine hx2_0 _ ?_
    assumption

theorem good_freshCommit {a0 a1} (h : Good g s) : Good g (freshCommit a0 a1 s) := by
  delta freshCommit
  split
  · refine good_set ?_
    refine good_set ?_
    exact good_setHead (by assumption)
  · exact good_dropCommits (by assumption)
  · assumption

theorem good_freshStatus {a0 a1} (h : Good g s) : Good g (freshStatus a0 a1 s) := by
  delta freshStatus
  split
  · exact good_showTime (by assumption)
  · exact good_showAges (by assumption)
  · exact good_showAges (by assumption)
  · exact good_audShowPos (by assumption)
  · assumption

theorem good_partialWrite {a0 a1} (h : Good g s) : Good g (partialWrite a0 a1 s) := by
  delta partialWrite
  extract_lets +onlyGivenNames -merge -useContext -underBinder x2_0 x2_1
  clear_value x2_0 x2_1
  refine good_forEach (fun _ _ _ => ?_) ?_
  · refine good_logAccess ?_
    exact good_ownerWrote (by assumption)
  · assumption

theorem good_refuseAccess {a0 a1 a2 a3 a4} (h : Good g s) : Good g (refuseAccess a0 a1 a2 a3 a4 s) := by
  delta refuseAccess
  extract_lets +onlyGivenNames -merge -useContext -underBinder x2_0 x2_1
  have hx2_1 : Good g x2_1 := by
    refine ite_ind ?_ ?_
    · refine good_setHdr (fun k => ?_) ?_
      · exact ⟨k.hosts, k.outcome, k.lost, k.owner⟩
      · assumption
    · assumption
  clear_value x2_1
  exact good_logAccess (by assumption)

theorem good_setFrozen {a0 a1 a2} (h : Good g s) : Good g (setFrozen a0 a1 a2 s) := by
  delta setFrozen
  extract_lets +onlyGivenNames -merge -useContext -underBinder x2_0
  refine ite_ind ?_ ?_
  · assumption
  · refine good_setHdr (fun k => ?_) ?_
    · exact ⟨k.hosts, k.outcome, k.lost, k.owner⟩
    · assumption

theorem good_writePageCtrl {a0 a1 a2 a3 a4} (h : Good g s) : Good g (writePageCtrl a0 a1 a2 a3 a4 s) := by
  delta writePageCtrl
  extract_lets +onlyGivenNames -merge -useContext -underBinder x2_0 x2_1 x2_2 x2_3
  clear_value x2_0 x2_1 x2_2 x2_3
  refine ite_ind ?_ ?_
  · exact good_logAccess (by assumption)
  · refine ite_ind ?_ ?_
    · exact good_logAccess (by assumption)
    · extract_lets +onlyGivenNames -merge -useContext -underBinder x6_0 x6_1
      have hx6_0 : Good g x6_0 := by
        refine ite_ind ?_ ?_
        · exact good_softReset (by assumption)
        · assumption
      clear_value x6_0 x6_1
      refine ite_ind ?_ ?_
      · exact good_setFrozen (by assumption)
      · refine ite_ind ?_ ?_
        · refine good_setFrozen ?_
          refine good_setHdr (fun k => ?_) ?_
          · exact ⟨k.hosts, k.outcome, k.lost, k.owner⟩
          · assumption
        · extract_lets +onlyGivenNames -merge -useContext -underBinder x10_0
          have hx10_0 : Good g x10_0 := by
            exact good_enableNow (by assumption)
          clear_value x10_0
          refine ite_ind ?_ ?_
          · exact good_setFrozen (by assumption)
          · assumption

theorem good_writeEvEnable {a0 a1 a2} (h : Good g s) : Good g (writeEvEnable a0 a1 a2 s) := by
  delta writeEvEnable
  extract_lets +onlyGivenNames -merge -useContext -underBinder x2_0 x2_1 x2_2
  have hx2_2 : Good g x2_2 := by
    refine good_setHdr (fun k => ?_) ?_
    · exact ⟨k.hosts, k.outcome, k.lost, k.owner⟩
    · assumption
  clear_value x2_2
  refine ite_ind ?_ ?_
  · exact good_notify (by assumption)
  · assumption

theorem good_writeCommit {a0 a1 a2 a3 a4} (h : Good g s) : Good g (writeCommit a0 a1 a2 a3 a4 s) := by
  delta writeCommit
  refine ite_ind ?_ ?_
  · refine ite_ind ?_ ?_
    · refine good_freshCommit ?_
      exact good_commitAbort (by assumption)
    · assumption
  · refine ite_ind ?_ ?_
    · assumption
    · refine ite_ind ?_ ?_
      · exact good_logAccess (by assumption)
      · refine good_freshCommit ?_
        exact good_commitRequest (by assumption)

theorem origin_code {o : Origin} : o.code ≤ 6 := by cases o <;> decide

theorem good_writeLease {a0 a1 a2 a3 a4} (h : Good g s) : Good g (writeLease a0 a1 a2 a3 a4 s) := by
  delta writeLease
  extract_lets +onlyGivenNames -merge -useContext -underBinder x2_0 x2_1 x2_2
  clear_value x2_0 x2_1
  refine ite_ind ?_ ?_
  · exact good_logAccess (by assumption)
  · refine ite_ind ?_ ?_
    · refine ite_ind ?_ ?_
      · refine good_setHdr (fun k => ?_) ?_
        · exact ⟨k.hosts, k.outcome, k.lost, k.owner⟩
        · assumption
      · refine good_forEach (fun _ _ _ => ?_) ?_
        · refine good_setHdr (fun k => ?_) ?_
          · exact ⟨k.hosts, k.outcome, k.lost, Nat.zero_le _⟩
          · assumption
        · refine good_setHdr (fun k => ?_) ?_
          · exact ⟨k.hosts, k.outcome, k.lost, k.owner⟩
          · assumption
    · split
      · exact good_logAccess (by assumption)
      · rename_i hw
        have hw : x2_0 = a0.code := Decidable.not_not.1 hw
        refine ite_ind ?_ ?_
        · refine good_forEach (fun _ _ _ => ?_) ?_
          · refine good_setHdr (fun k => ?_) ?_
            · exact ⟨k.hosts, k.outcome, k.lost, hw ▸ origin_code⟩
            · assumption
          · assumption
        · refine ite_ind ?_ ?_
          · assumption
          · exact good_logAccess (by assumption)

theorem bitsOf_extract {v : Word} {lo w : Nat} : bitsOf v lo w = (v.extractLsb' lo w).toNat := by
  rw [BitVec.extractLsb'_toNat, Nat.shiftRight_eq_div_pow, bitsOf]

theorem rights_field {v : Word} {lo : Nat} (hl : lo = 4 ∨ lo = 8) :
    bitsOf ((v &&& 0x07077770) ||| 0x00700000) lo 4 = bitsOf v lo 3 := by
  rw [bitsOf_extract, bitsOf_extract]
  have e : ((v &&& 0x07077770) ||| 0x00700000).extractLsb' lo 4 = (v.extractLsb' lo 3).setWidth 4 := by
    rcases hl with rfl | rfl
    all_goals
      ext i hi
      match i, hi with
      | 0, _ | 1, _ | 2, _ | 3, _ => simp
  rw [e, BitVec.toNat_setWidth, Nat.mod_eq_of_lt]
  exact Nat.lt_trans (v.extractLsb' lo 3).isLt (by decide)

theorem rights_mask {v : Word} (h : bitsOf v 4 3 = bitsOf v 8 3) :
    bitsOf ((v &&& 0x07077770) ||| 0x00700000) 4 4 = bitsOf ((v &&& 0x07077770) ||| 0x00700000) 8 4 := by
  rw [rights_field (.inl rfl), rights_field (.inr rfl), h]

theorem good_writeRights {a0 a1 a2 a3 a4} (h : Good g s) : Good g (writeRights a0 a1 a2 a3 a4 s) := by
  delta writeRights
  refine ite_ind ?_ ?_
  · assumption
  · split
    · exact good_logAccess (by assumption)
    · rename_i hv
      refine good_setHdr (fun k => ?_) ?_
      · exact ⟨rights_mask (Decidable.not_not.1 hv), k.outcome, k.lost, k.owner⟩
      · assumption

theorem good_writeHeader {a0 a1 a2 a3 a4} (h : Good g s) : Good g (writeHeader a0 a1 a2 a3 a4 s) := by
  delta writeHeader
  split
  · exact good_writePageCtrl (by assumption)
  · exact good_writeEvEnable (by assumption)
  · exact good_clearPending (by assumption)
  · refine good_setHdr (fun k => ?_) ?_
    · exact ⟨k.hosts, k.outcome, k.lost, k.owner⟩
    · assumption
  · exact good_writeCommit (by assumption)
  · exact good_writeLease (by assumption)
  · exact good_clearError (by assumption)
  · exact good_writeRights (by assumption)
  · assumption

theorem good_writeAt {a0 a1 a2 a3 a4 a5} (h : Good g s) : Good g (writeAt a0 a1 a2 a3 a4 a5 s) := by
  delta writeAt
  refine ite_ind ?_ ?_
  · assumption
  · extract_lets +onlyGivenNames -merge -useContext -underBinder x4_0 x4_1
    have hx4_0 : Good g x4_0 := by
      exact good_ownerWrote (by assumption)
    clear_value x4_0 x4_1
    refine ite_ind ?_ ?_
    · exact good_refuseAccess (by assumption)
    · refine ite_ind ?_ ?_
      · exact good_writeHeader (by assumption)
      · split
        · exact good_writeBlock (by assumption)
        · assumption

theorem good_writeReg {a0 a1 a2 a3} (h : Good g s) : Good g (writeReg a0 a1 a2 a3 s) := by
  delta writeReg
  split
  · exact good_writeAt (by assumption)
  · assumption

theorem good_writeAccess {a0 a1 a2 a3 a4} (h : Good g s) : Good g (writeAccess a0 a1 a2 a3 a4 s) := by
  delta writeAccess
  extract_lets +onlyGivenNames -merge -useContext -underBinder x2_0 x2_1
  clear_value x2_0 x2_1
  refine ite_ind ?_ ?_
  · refine good_forEach (fun _ _ _ => ?_) ?_
    · exact good_writeReg (by assumption)
    · assumption
  · exact good_partialWrite (by assumption)

end Sys2Proof.Machine
end

