-- ==== Sys2Proof/Laws/KeepCommands.lean ====
section
/-! SUPPORT. Every operation of Commands.lean keeps a state good: sound, its queue untouched, nothing sent taken back. -/

namespace Sys2Proof.Machine

variable {g : Ghost} {s : State}

theorem good_wrote {a0 a1 a2 a3} (h : Good g s) : GoodN g (wrote a0 a1 a2 a3 s) := by
  delta wrote
  refine goodN_next ?_
  refine good_busStep (fun _ _ => ?_) ?_
  · exact good_writeReg (by assumption)
  · assumption

theorem good_execAbort {a0 a1 a2} (h : Good g s) : GoodN g (execAbort a0 a1 a2 s) := by
  delta execAbort
  exact good_wrote (by assumption)

theorem good_execAudArm {a0 a1 a2} (h : Good g s) : GoodN g (execAudArm a0 a1 a2 s) := by
  delta execAudArm
  exact good_wrote (by assumption)

theorem good_execAudDisable {a0 a1 a2} (h : Good g s) : GoodN g (execAudDisable a0 a1 a2 s) := by
  delta execAudDisable
  exact good_wrote (by assumption)

theorem good_execAudEnable {a0 a1 a2} (h : Good g s) : GoodN g (execAudEnable a0 a1 a2 s) := by
  delta execAudEnable
  exact good_wrote (by assumption)

theorem good_execAudStop {a0 a1 a2} (h : Good g s) : GoodN g (execAudStop a0 a1 a2 s) := by
  delta execAudStop
  exact good_wrote (by assumption)

theorem good_execAuxStart {a0 a1 a2 a3 a4 a5} (h : Good g s) : GoodN g (execAuxStart a0 a1 a2 a3 a4 a5 s) := by
  delta execAuxStart
  exact good_wrote (by assumption)

theorem good_execBpoolAlloc {a0 a1 a2} (h : Good g s) : GoodN g (execBpoolAlloc a0 a1 a2 s) := by
  delta execBpoolAlloc
  exact good_wrote (by assumption)

theorem good_execBpoolComplete {a0 a1 a2} (h : Good g s) : GoodN g (execBpoolComplete a0 a1 a2 s) := by
  delta execBpoolComplete
  exact good_wrote (by assumption)

theorem good_execBpoolRead {a0 a1 a2} (h : Good g s) : GoodN g (execBpoolRead a0 a1 a2 s) := by
  delta execBpoolRead
  exact good_wrote (by assumption)

theorem good_execBpoolRelease {a0 a1 a2} (h : Good g s) : GoodN g (execBpoolRelease a0 a1 a2 s) := by
  delta execBpoolRelease
  exact good_wrote (by assumption)

theorem good_execBpoolWrite {a0 a1 a2} (h : Good g s) : GoodN g (execBpoolWrite a0 a1 a2 s) := by
  delta execBpoolWrite
  exact good_wrote (by assumption)

theorem good_execCctlDisable {a0 a1 a2} (h : Good g s) : GoodN g (execCctlDisable a0 a1 a2 s) := by
  delta execCctlDisable
  exact good_wrote (by assumption)

theorem good_execCctlEnable {a0 a1 a2} (h : Good g s) : GoodN g (execCctlEnable a0 a1 a2 s) := by
  delta execCctlEnable
  exact good_wrote (by assumption)

theorem good_execChkCfgWrite {a0 a1 a2 a3} (h : Good g s) : GoodN g (execChkCfgWrite a0 a1 a2 a3 s) := by
  delta execChkCfgWrite
  exact good_wrote (by assumption)

theorem good_execCmdPush {a0 a1 a2 a3 a4} (h : Good g s) : GoodN g (execCmdPush a0 a1 a2 a3 a4 s) := by
  delta execCmdPush
  exact good_wrote (by assumption)

theorem good_execCommit {a0 a1 a2} (h : Good g s) : GoodN g (execCommit a0 a1 a2 s) := by
  delta execCommit
  exact good_wrote (by assumption)

theorem good_execDecCtxDisable {a0 a1 a2} (h : Good g s) : GoodN g (execDecCtxDisable a0 a1 a2 s) := by
  delta execDecCtxDisable
  exact good_wrote (by assumption)

theorem good_execDecCtxEnable {a0 a1 a2} (h : Good g s) : GoodN g (execDecCtxEnable a0 a1 a2 s) := by
  delta execDecCtxEnable
  exact good_wrote (by assumption)

theorem good_execDecInWrWrite {a0 a1 a2 a3} (h : Good g s) : GoodN g (execDecInWrWrite a0 a1 a2 a3 s) := by
  delta execDecInWrWrite
  exact good_wrote (by assumption)

theorem good_execDmaResume {a0 a1 a2 a3} (h : Good g s) : GoodN g (execDmaResume a0 a1 a2 a3 s) := by
  delta execDmaResume
  exact good_wrote (by assumption)

theorem good_execDmaRingDisable {a0 a1 a2 a3} (h : Good g s) : GoodN g (execDmaRingDisable a0 a1 a2 a3 s) := by
  delta execDmaRingDisable
  exact good_wrote (by assumption)

theorem good_execDmaRingEnable {a0 a1 a2 a3} (h : Good g s) : GoodN g (execDmaRingEnable a0 a1 a2 a3 s) := by
  delta execDmaRingEnable
  exact good_wrote (by assumption)

theorem good_execDmaSkip {a0 a1 a2 a3} (h : Good g s) : GoodN g (execDmaSkip a0 a1 a2 a3 s) := by
  delta execDmaSkip
  exact good_wrote (by assumption)

theorem good_execDmaSubmit {a0 a1 a2 a3 a4} (h : Good g s) : GoodN g (execDmaSubmit a0 a1 a2 a3 a4 s) := by
  delta execDmaSubmit
  exact good_wrote (by assumption)

theorem good_execDpoDisable {a0 a1 a2} (h : Good g s) : GoodN g (execDpoDisable a0 a1 a2 s) := by
  delta execDpoDisable
  exact good_wrote (by assumption)

theorem good_execDpoEnable {a0 a1 a2} (h : Good g s) : GoodN g (execDpoEnable a0 a1 a2 s) := by
  delta execDpoEnable
  exact good_wrote (by assumption)

theorem good_execEncOutRdWrite {a0 a1 a2 a3} (h : Good g s) : GoodN g (execEncOutRdWrite a0 a1 a2 a3 s) := by
  delta execEncOutRdWrite
  exact good_wrote (by assumption)

theorem good_execErrorCodeClear {a0 a1 a2 a3} (h : Good g s) : GoodN g (execErrorCodeClear a0 a1 a2 a3 s) := by
  delta execErrorCodeClear
  exact good_wrote (by assumption)

theorem good_execEventEnableWrite {a0 a1 a2 a3} (h : Good g s) : GoodN g (execEventEnableWrite a0 a1 a2 a3 s) := by
  delta execEventEnableWrite
  exact good_wrote (by assumption)

theorem good_execEventPendingClear {a0 a1 a2 a3} (h : Good g s) : GoodN g (execEventPendingClear a0 a1 a2 a3 s) := by
  delta execEventPendingClear
  exact good_wrote (by assumption)

theorem good_execExcTxSubmit {a0 a1 a2} (h : Good g s) : GoodN g (execExcTxSubmit a0 a1 a2 s) := by
  delta execExcTxSubmit
  exact good_wrote (by assumption)

theorem good_execFreqGo {a0 a1 a2 a3} (h : Good g s) : GoodN g (execFreqGo a0 a1 a2 a3 s) := by
  delta execFreqGo
  refine goodN_next ?_
  refine good_busStep (fun _ _ => ?_) ?_
  · exact good_writeReg (by assumption)
  · assumption

theorem good_execGangWrite {a0 a1 a2 a3} (h : Good g s) : GoodN g (execGangWrite a0 a1 a2 a3 s) := by
  delta execGangWrite
  exact good_wrote (by assumption)

theorem good_execHandoverDone {a0 a1} (h : Good g s) : GoodN g (execHandoverDone a0 a1 s) := by
  delta execHandoverDone
  exact good_wrote (by assumption)

theorem good_execHandoverQuiesced {a0 a1} (h : Good g s) : GoodN g (execHandoverQuiesced a0 a1 s) := by
  delta execHandoverQuiesced
  exact good_wrote (by assumption)

theorem good_execHeartbeat {a0 a1 a2} (h : Good g s) : GoodN g (execHeartbeat a0 a1 a2 s) := by
  delta execHeartbeat
  exact good_wrote (by assumption)

theorem good_execJobSubmit {a0 a1 a2 a3} (h : Good g s) : GoodN g (execJobSubmit a0 a1 a2 a3 s) := by
  delta execJobSubmit
  exact good_wrote (by assumption)

theorem good_execLeaseWrite {a0 a1 a2 a3 a4} (h : Good g s) : GoodN g (execLeaseWrite a0 a1 a2 a3 a4 s) := by
  delta execLeaseWrite
  exact good_wrote (by assumption)

theorem good_execLutLoad {a0 a1 a2} (h : Good g s) : GoodN g (execLutLoad a0 a1 a2 s) := by
  delta execLutLoad
  exact good_wrote (by assumption)

theorem good_execModeRequest {a0 a1 a2} (h : Good g s) : GoodN g (execModeRequest a0 a1 a2 s) := by
  delta execModeRequest
  exact good_wrote (by assumption)

theorem good_execPageEnableWrite {a0 a1 a2 a3 a4} (h : Good g s) : GoodN g (execPageEnableWrite a0 a1 a2 a3 a4 s) := by
  delta execPageEnableWrite
  exact good_wrote (by assumption)

theorem good_execPageFreeze {a0 a1 a2 a3 a4} (h : Good g s) : GoodN g (execPageFreeze a0 a1 a2 a3 a4 s) := by
  delta execPageFreeze
  exact good_wrote (by assumption)

theorem good_execPartitionWrite {a0 a1 a2} (h : Good g s) : GoodN g (execPartitionWrite a0 a1 a2 s) := by
  delta execPartitionWrite
  exact good_wrote (by assumption)

theorem good_execPtpTxSubmit {a0 a1 a2 a3} (h : Good g s) : GoodN g (execPtpTxSubmit a0 a1 a2 a3 s) := by
  delta execPtpTxSubmit
  exact good_wrote (by assumption)

theorem good_execRegisterWrite {a0 a1 a2 a3 a4 a5} (h : Good g s) : GoodN g (execRegisterWrite a0 a1 a2 a3 a4 a5 s) := by
  delta execRegisterWrite
  refine goodN_next ?_
  refine good_busStep (fun _ _ => ?_) ?_
  · exact good_writeAccess (by assumption)
  · assumption

theorem good_execRelease {a0 a1} (h : Good g s) : GoodN g (execRelease a0 a1 s) := by
  delta execRelease
  exact good_wrote (by assumption)

theorem good_execRelineGo {a0 a1 a2} (h : Good g s) : GoodN g (execRelineGo a0 a1 a2 s) := by
  delta execRelineGo
  exact good_wrote (by assumption)

theorem good_execResultPop {a0 a1 a2} (h : Good g s) : GoodN g (execResultPop a0 a1 a2 s) := by
  delta execResultPop
  exact good_wrote (by assumption)

theorem good_execRightsWrite {a0 a1 a2 a3} (h : Good g s) : GoodN g (execRightsWrite a0 a1 a2 a3 s) := by
  delta execRightsWrite
  exact good_wrote (by assumption)

theorem good_execSessionEnable {a0 a1 a2 a3} (h : Good g s) : GoodN g (execSessionEnable a0 a1 a2 a3 s) := by
  delta execSessionEnable
  exact good_wrote (by assumption)

theorem good_execSoftReset {a0 a1 a2 a3 a4} (h : Good g s) : GoodN g (execSoftReset a0 a1 a2 a3 a4 s) := by
  delta execSoftReset
  exact good_wrote (by assumption)

theorem good_execStartGo {a0 a1 a2 a3} (h : Good g s) : GoodN g (execStartGo a0 a1 a2 a3 s) := by
  delta execStartGo
  exact good_wrote (by assumption)

theorem good_execThimbleAcquire {a0 a1 a2 a3} (h : Good g s) : GoodN g (execThimbleAcquire a0 a1 a2 a3 s) := by
  delta execThimbleAcquire
  exact good_wrote (by assumption)

theorem good_execThimbleRelease {a0 a1 a2} (h : Good g s) : GoodN g (execThimbleRelease a0 a1 a2 s) := by
  delta execThimbleRelease
  exact good_wrote (by assumption)

theorem good_execTimeAccept {a0 a1 a2} (h : Good g s) : GoodN g (execTimeAccept a0 a1 a2 s) := by
  delta execTimeAccept
  exact good_wrote (by assumption)

theorem good_execTimeSnap {a0 a1 a2} (h : Good g s) : GoodN g (execTimeSnap a0 a1 a2 s) := by
  delta execTimeSnap
  exact good_wrote (by assumption)

theorem good_execTimeStep {a0 a1 a2} (h : Good g s) : GoodN g (execTimeStep a0 a1 a2 s) := by
  delta execTimeStep
  exact good_wrote (by assumption)

theorem good_execTrigFire {a0 a1 a2} (h : Good g s) : GoodN g (execTrigFire a0 a1 a2 s) := by
  delta execTrigFire
  exact good_wrote (by assumption)

theorem good_execWarm {a0 a1} (h : Good g s) : GoodN g (execWarm a0 a1 s) := by
  delta execWarm
  exact good_wrote (by assumption)

theorem good_execXferStart {a0 a1 a2 a3 a4 a5} (h : Good g s) : GoodN g (execXferStart a0 a1 a2 a3 a4 a5 s) := by
  delta execXferStart
  exact good_wrote (by assumption)

end Sys2Proof.Machine
end

