-- ==== Sys2Proof/Laws/KeepDma.lean ====
section
/-! SUPPORT. Every operation of Dma.lean keeps a state good: sound, its queue untouched, nothing sent taken back. -/

namespace Sys2Proof.Machine

variable {g : Ghost} {s : State}

theorem good_copyIn {who d lost k left l} (h : Good g s) : Good g (copyIn who d lost left k l s) := by
  induction left generalizing s k l with
  | zero => exact h
  | succ left ih =>
    unfold copyIn
    extract_lets +onlyGivenNames -merge -useContext -underBinder a
    exact ite_ind (ih (good_dramWrite h)) (good_dramPoison (good_dramWrite h))

theorem good_copyRows {a0 f} (hf : ∀ y0 y1 s, Good g s → Good g (f y0 y1 s)) (h : Good g s) : Good2 g (copyRows a0 f s) := by
  delta copyRows
  refine foldl_ind (fun _ _ _ => ?_) ?_
  · extract_lets +onlyGivenNames -merge -useContext -underBinder x4_0
    clear_value x4_0
    refine good2_mk ?_
    refine hf _ _ _ ?_
    show Good2 g _
    assumption
  · refine good2_mk ?_
    assumption

theorem good_endDescriptor {a0 a1 a2 a3 a4 a5} (h : Good g s) : Good g (endDescriptor a0 a1 a2 a3 a4 a5 s) := by
  delta endDescriptor
  extract_lets +onlyGivenNames -merge -useContext -underBinder x2_0 x2_1 x2_2
  have hx2_0 : Good g x2_0 := by
    refine good_descCount ?_
    exact good_descStatus (by assumption)
  clear_value x2_0
  have hx2_1 : Good g x2_1 := by
    refine ite_ind ?_ ?_
    · refine good_ringEvent ?_
      refine good_logError ?_
      exact good_rset (by assumption)
    · exact good_headNext (by assumption)
  clear_value x2_1
  have hx2_2 : Good g x2_2 := by
    refine ite_ind ?_ ?_
    · exact good_ringEvent (by assumption)
    · assumption
  clear_value x2_2
  refine ite_ind ?_ ?_
  · exact good_rset (by assumption)
  · assumption

theorem good_fetchDescriptor {a0 a1 a2} (h : Good g s) : Good3 g (fetchDescriptor a0 a1 a2 s) := by
  delta fetchDescriptor
  refine ite_ind ?_ ?_
  · exact good_dramRead (by assumption)
  · refine good3_mk ?_
    assumption

theorem good_rowToHost {a0 a1 a2 a3} (h : Good g s) : Good g (rowToHost a0 a1 a2 a3 s) := by
  delta rowToHost
  extract_lets +onlyGivenNames -merge -useContext -underBinder x2_0
  clear_value x2_0
  split
  · rename_i v2_0 v2_1 v2_2 q2_0
    have hv2_2 : Good g v2_2 := good3_eq q2_0 (by
      exact good_dramRead (by assumption))
    refine good_forEach (fun _ _ _ => ?_) ?_
    · exact good_emit (by assumption)
    · assumption

theorem good_rowToDram {a0 a1 a2 a3} (h : Good g s) : Good g (rowToDram a0 a1 a2 a3 s) := by
  delta rowToDram
  extract_lets +onlyGivenNames -merge -useContext -underBinder x2_0
  clear_value x2_0
  split
  · rename_i v2_0 v2_1 v2_2 q2_0
    have hv2_2 : Good g v2_2 := good3_eq q2_0 (by
      exact good_dramRead (by assumption))
    refine good_forEach (fun _ _ _ => ?_) ?_
    · exact good_dramPoison (by assumption)
    · exact good_dramWrite (by assumption)

theorem good_runDescriptor {a0 a1 a2 a3 a4 a5} (h : Good g s) : Good4 g (runDescriptor a0 a1 a2 a3 a4 a5 s) := by
  delta runDescriptor
  extract_lets +onlyGivenNames -merge -useContext -underBinder x2_0 x2_1
  clear_value x2_0 x2_1
  refine ite_ind ?_ ?_
  · refine good4_mk ?_
    assumption
  · refine ite_ind ?_ ?_
    · refine good4_mk ?_
      assumption
    · refine ite_ind ?_ ?_
      · extract_lets +onlyGivenNames -merge -useContext -underBinder x8_0
        have hx8_0 : Good g x8_0 := by
          exact good_copyIn (by assumption)
        clear_value x8_0
        refine ite_ind ?_ ?_
        · refine good4_mk ?_
          assumption
        · refine good4_mk ?_
          assumption
      · refine ite_ind ?_ ?_
        · split
          · rename_i v10_0 v10_1 q10_0
            have hv10_1 : Good g v10_1 := good2_eq q10_0 (by
              refine good_copyRows (fun _ _ _ _ => ?_) ?_
              · exact good_rowToHost (by assumption)
              · assumption)
            refine good4_mk ?_
            assumption
        · refine ite_ind ?_ ?_
          · split
            · rename_i v12_0 v12_1 q12_0
              have hv12_1 : Good g v12_1 := good2_eq q12_0 (by
                refine good_copyRows (fun _ _ _ _ => ?_) ?_
                · exact good_rowToDram (by assumption)
                · assumption)
              refine good4_mk ?_
              assumption
          · extract_lets +onlyGivenNames -merge -useContext -underBinder x12_0 x12_1 x12_2 x12_3
            clear_value x12_0 x12_1 x12_2
            have hx12_3 : Good g x12_3 := by
              refine good_busStep (fun _ _ => ?_) ?_
              · exact good_writeReg (by assumption)
              · assumption
            clear_value x12_3
            refine good4_mk ?_
            assumption

theorem good_ringStep {a0 a1 a2 a3 a4 a5 a6 a7} (h : Good g s) : Good g (ringStep a0 a1 a2 a3 a4 a5 a6 a7 s) := by
  delta ringStep
  refine ite_ind ?_ ?_
  · assumption
  · split
    · rename_i v4_0 v4_1 v4_2 q4_0
      have hv4_2 : Good g v4_2 := good3_eq q4_0 (by
        exact good_fetchDescriptor (by assumption))
      refine ite_ind ?_ ?_
      · refine ite_ind ?_ ?_
        · exact good_endDescriptor (by assumption)
        · assumption
      · extract_lets +onlyGivenNames -merge -useContext -underBinder x8_0
        clear_value x8_0
        refine ite_ind ?_ ?_
        · assumption
        · split
          · rename_i v10_0 v10_1 v10_2 v10_3 q10_0
            have hv10_3 : Good g v10_3 := good4_eq q10_0 (by
              exact good_runDescriptor (by assumption))
            refine ite_ind ?_ ?_
            · assumption
            · exact good_endDescriptor (by assumption)

theorem good_execDmaDramToDram {a0 a1 a2 a3} (h : Good g s) : GoodN g (execDmaDramToDram a0 a1 a2 a3 s) := by
  delta execDmaDramToDram
  refine goodN_next ?_
  refine good_ringStep ?_
  exact good_at (by assumption)

theorem good_execDmaDramToHost {a0 a1 a2 a3} (h : Good g s) : GoodN g (execDmaDramToHost a0 a1 a2 a3 s) := by
  delta execDmaDramToHost
  refine goodN_next ?_
  refine good_ringStep ?_
  exact good_at (by assumption)

theorem good_execDmaHostToDram {a0 a1 a2 a3 a4 a5} (h : Good g s) : GoodN g (execDmaHostToDram a0 a1 a2 a3 a4 a5 s) := by
  delta execDmaHostToDram
  refine goodN_next ?_
  refine good_ringStep ?_
  exact good_at (by assumption)

theorem good_execDmaRegisterWrite {a0 a1 a2 a3 a4} (h : Good g s) : GoodN g (execDmaRegisterWrite a0 a1 a2 a3 a4 s) := by
  delta execDmaRegisterWrite
  refine goodN_next ?_
  refine good_ringStep ?_
  exact good_at (by assumption)

end Sys2Proof.Machine
end

