-- ==== Sys2Proof/Laws/KeepPanel.lean ====
section
/-! SUPPORT. Every operation of Panel.lean keeps a state good: sound, its queue untouched, nothing sent taken back. -/

namespace Sys2Proof.Machine

variable {g : Ghost} {s : State}

theorem good_sendReply {a0 a1 a2} (h : Good g s) : Good g (sendReply a0 a1 a2 s) := by
  delta sendReply
  extract_lets +onlyGivenNames -merge -useContext -underBinder x2_0 x2_1
  clear_value x2_0 x2_1
  refine good_pickAll ?_
  refine good_setNet ?_
  exact good_fresh (by assumption)

theorem good_panelWrites {demand a l k} (h : Good g s) : Good3 g (panelWrites demand a l k s) := by
  induction l generalizing s a k with
  | nil => exact h
  | cons v t ih =>
    unfold panelWrites
    extract_lets +onlyGivenNames -merge -useContext -underBinder code s'
    have hs : Good g s' := good_writeReg h
    exact ite_ind (ih hs) hs

theorem good_panelRun {a0 a1} (h : Good g s) : Good4 g (panelRun a0 a1 s) := by
  delta panelRun
  refine ite_ind ?_ ?_
  · refine good4_mk ?_
    assumption
  · refine ite_ind ?_ ?_
    · refine good4_mk ?_
      assumption
    · refine ite_ind ?_ ?_
      · refine good4_mk ?_
        assumption
      · split
        · rename_i v8_0 v8_1 v8_2 q8_0
          have hv8_2 : Good g v8_2 := good3_eq q8_0 (by
            exact good_panelWrites (by assumption))
          refine good4_mk ?_
          assumption

theorem good_panelTake {a0 a1 a2 a3} (h : Good g s) : Good g (panelTake a0 a1 a2 a3 s) := by
  delta panelTake
  extract_lets +onlyGivenNames -merge -useContext -underBinder x2_0 x2_1
  clear_value x2_0
  have hx2_1 : Good g x2_1 := by
    unfold x2_1
    refine good_upd ?_
    assumption
  clear_value x2_1
  split
  · exact good_sendReply (by assumption)
  · split
    · rename_i v4_0 v4_1 v4_2 v4_3 q4_0
      have hv4_3 : Good g v4_3 := good4_eq q4_0 (by
        exact good_panelRun (by assumption))
      extract_lets +onlyGivenNames -merge -useContext -underBinder x6_0 x6_1
      clear_value x6_0 x6_1
      refine good_sendReply ?_
      refine good_upd ?_
      assumption

theorem good_panelReceive {a0 a1 a2 a3 a4} (h : Good g s) : Good g (panelReceive a0 a1 a2 a3 a4 s) := by
  delta panelReceive
  refine ite_ind ?_ ?_
  · assumption
  · split
    · exact good_rxBad (by assumption)
    · split
      · refine ite_ind ?_ ?_
        · exact good_panelTake (by assumption)
        · assumption
      · assumption
    · assumption

theorem good_execCmdEcho {a0 a1 a2 a3} (h : Good g s) : GoodN g (execCmdEcho a0 a1 a2 a3 s) := by
  delta execCmdEcho
  refine goodN_next ?_
  refine good_busStep (fun _ _ => ?_) ?_
  · exact good_panelReceive (by assumption)
  · assumption

theorem good_execCmdRead {a0 a1 a2 a3} (h : Good g s) : GoodN g (execCmdRead a0 a1 a2 a3 s) := by
  delta execCmdRead
  refine goodN_next ?_
  refine good_busStep (fun _ _ => ?_) ?_
  · exact good_panelReceive (by assumption)
  · assumption

theorem good_panelRefuse {a0 a1 a2} (h : Good g s) : Good g (panelRefuse a0 a1 a2 s) := by
  delta panelRefuse
  refine ite_ind ?_ ?_
  · assumption
  · split
    · exact good_rxBad (by assumption)
    · split
      · refine good_raise ?_
        exact good_inc (by assumption)
      · exact good_inc (by assumption)
      · assumption
    · assumption

theorem good_execCmdRefused {a0 a1 a2 a3} (h : Good g s) : GoodN g (execCmdRefused a0 a1 a2 a3 s) := by
  delta execCmdRefused
  refine goodN_next ?_
  refine good_busStep (fun _ _ => ?_) ?_
  · exact good_panelRefuse (by assumption)
  · assumption

theorem good_execCmdWrite {a0 a1 a2 a3 a4} (h : Good g s) : GoodN g (execCmdWrite a0 a1 a2 a3 a4 s) := by
  delta execCmdWrite
  refine goodN_next ?_
  refine good_busStep (fun _ _ => ?_) ?_
  · exact good_panelReceive (by assumption)
  · assumption

end Sys2Proof.Machine
end

