-- ==== Sys2Proof/Laws/KeepStaged.lean ====
section
/-! SUPPORT. Every operation of Staged.lean keeps a state good: sound, its queue untouched, nothing sent taken back. -/

namespace Sys2Proof.Machine

variable {g : Ghost} {s : State}

theorem good_checkPassed {a0 a1} (h : Good g s) : Good g (checkPassed a0 a1 s) := by
  delta checkPassed
  refine good_setHdr (fun k => ?_) ?_
  · exact ⟨k.hosts, k.outcome, k.lost, k.owner⟩
  · assumption

theorem good_stagedPort {a0 a1} (h : Good g s) : Good g (stagedPort a0 a1 s) := by
  delta stagedPort
  extract_lets +onlyGivenNames -merge -useContext -underBinder x2_0 x2_1
  clear_value x2_0 x2_1
  split
  · exact good_commitReject (by assumption)
  · refine good_portBoundary ?_
    exact good_checkPassed (by assumption)

theorem good_readTable {want : Bool} {a n : Nat} {bad : List Nat → Option (Nat × Nat)} {put : List Nat → Tables → Tables}
    {r : Reading} (h : Good3 g r) : Good3 g (readTable want a n bad put r) := by
  delta readTable
  refine ite_ind h ?_
  split
  · rename_i data p s' q
    have hs : Good g s' := good3_eq q (good_dramRead h)
    extract_lets +onlyGivenNames -merge -useContext -underBinder v
    refine ite_ind (good3_mk hs) ?_
    split
    · exact good3_mk hs
    · exact good3_mk hs

theorem good_readStreamTables {s' : State} {n : Nat} (h : Good g s) : Good3 g (readStreamTables s s' n) := by
  delta readStreamTables
  extract_lets +onlyGivenNames -merge -useContext -underBinder none' addr lo hi r0 r1 r2 r3 r4 r5
  have h0 : Good3 g r0 := good3_mk h
  have h4 : Good3 g r4 := good_readTable (good_readTable (good_readTable (good_readTable h0)))
  refine forEach_ind (fun _ _ k => ?_) ?_
  · exact good_readTable k
  · exact forEach_ind (fun _ _ k => good_readTable k) h4

theorem good_stagedStrm {a0 a1} (h : Good g s) : Good g (stagedStrm a0 a1 s) := by
  delta stagedStrm
  extract_lets +onlyGivenNames -merge -useContext -underBinder s'
  clear_value s'
  split
  · exact good_commitReject h
  · split
    · rename_i c d tables s1 q
      exact good_commitReject (good3_eq q (good_readStreamTables h))
    · rename_i tables s1 q
      have hs : Good g s1 := good3_eq q (good_readStreamTables h)
      refine ite_ind (good_commitReject hs) (ite_ind (good_commitReject hs) ?_)
      extract_lets +onlyGivenNames -merge -useContext -underBinder x s2 hd
      have h2 : Good g s2 := good_checkPassed (good_setStrm hs)
      exact ite_ind (good_evalStrm h2) h2

theorem good_stagedEnc {a0} (h : Good g s) : Good g (stagedEnc a0 s) := by
  delta stagedEnc
  split
  · refine good_commitReject ?_
    exact good_dropCommits (by assumption)
  · extract_lets +onlyGivenNames -merge -useContext -underBinder x4_0 x4_1 x4_2 x4_3 x4_4
    have hx4_0 : Good g x4_0 := by
      exact good_checkPassed (by assumption)
    clear_value x4_0 x4_1 x4_3
    have hx4_4 : Good g x4_4 := by
      refine good_forEach (fun _ _ _ => ?_) ?_
      · exact good_applyCtx (by assumption)
      · assumption
    clear_value x4_4
    refine good_encCommitEnd ?_
    refine good_forEach (fun _ _ _ => ?_) ?_
    · exact good_setEnc (by assumption)
    · assumption

theorem good_stagedHead {a0} (h : Good g s) : Good g (stagedHead a0 s) := by
  delta stagedHead
  extract_lets +onlyGivenNames -merge -useContext -underBinder x2_0
  have hx2_0 : Good g x2_0 := by
    exact good_readTables (by assumption)
  clear_value x2_0
  split
  · exact good_commitReject (by assumption)
  · refine good_headStaged ?_
    exact good_checkPassed (by assumption)

theorem good_stagedTime {a0} (h : Good g s) : Good g (stagedTime a0 s) := by
  delta stagedTime
  refine ite_ind ?_ ?_
  · exact good_checkPassed (by assumption)
  · exact good_commitReject (by assumption)

theorem good_stagedDdrc {a0} (h : Good g s) : Good g (stagedDdrc a0 s) := by
  delta stagedDdrc
  extract_lets +onlyGivenNames -merge -useContext -underBinder x2_0
  have hx2_0 : Good g x2_0 := by
    exact good_checkPassed (by assumption)
  clear_value x2_0
  refine ite_ind ?_ ?_
  · exact good_applyDdrc (by assumption)
  · assumption

theorem good_stagedCheck {a0 a1 a2} (h : Good g s) : Good g (stagedCheck a0 a1 a2 s) := by
  delta stagedCheck
  extract_lets +onlyGivenNames -merge -useContext -underBinder x2_0
  refine ite_ind ?_ ?_
  · assumption
  · split
    · exact good_stagedPort (by assumption)
    · exact good_stagedPort (by assumption)
    · exact good_stagedStrm (by assumption)
    · exact good_stagedEnc (by assumption)
    · exact good_stagedHead (by assumption)
    · exact good_stagedTime (by assumption)
    · exact good_stagedDdrc (by assumption)
    · assumption

theorem good_execStagedCheck {a0 a1 a2} (h : Good g s) : GoodN g (execStagedCheck a0 a1 a2 s) := by
  delta execStagedCheck
  refine goodN_next ?_
  refine good_busStep (fun _ _ => ?_) ?_
  · exact good_stagedCheck (by assumption)
  · assumption

theorem good_withPending {a1} (h : Good g s) : Good g (withPending s a1) := by
  delta withPending
  extract_lets +onlyGivenNames -merge -useContext -underBinder x2_0
  refine ite_ind ?_ ?_
  · exact good_applyGroup (by assumption)
  · assumption

end Sys2Proof.Machine
end

