-- ==== Sys2Proof/Laws/KeepDispatch.lean ====
section
/-! SUPPORT. Every operation of Dispatch.lean keeps a state good: sound, its queue untouched, nothing sent taken back. -/

namespace Sys2Proof.Machine

variable {g : Ghost} {s : State}

theorem good_exec {a0} (h : Good g s) : GoodN g (exec a0 s) := by
  delta exec
  split
  · exact good_execRegisterWrite (by assumption)
  · exact good_execErrorCodeClear (by assumption)
  · exact good_execEventPendingClear (by assumption)
  · exact good_execEventEnableWrite (by assumption)
  · exact good_execMsixUnmask (by assumption)
  · exact good_execLeaseWrite (by assumption)
  · exact good_execLeaseLapsed (by assumption)
  · exact good_execCommit (by assumption)
  · exact good_execAbort (by assumption)
  · exact good_execStagedCheck (by assumption)
  · exact good_execSoftReset (by assumption)
  · exact good_execPageEnableWrite (by assumption)
  · exact good_execPageFreeze (by assumption)
  · exact good_execRightsWrite (by assumption)
  · exact good_execModeRequest (by assumption)
  · exact good_execRampDone (by assumption)
  · exact good_execPaceIntervalEnd (by assumption)
  · exact good_execRestoreStep (by assumption)
  · exact good_execFrameStart (by assumption)
  · exact good_execLineReceived (by assumption)
  · exact good_execPclkGlitch (by assumption)
  · exact good_execFrameEnd (by assumption)
  · exact good_execLineTimeout (by assumption)
  · exact good_execFrameClose (by assumption)
  · exact good_execNoFrame (by assumption)
  · exact good_execHdrMissing (by assumption)
  · exact good_execEmbeddedData (by assumption)
  · exact good_execPacketError (by assumption)
  · exact good_execPhyError (by assumption)
  · exact good_execCctlEnable (by assumption)
  · exact good_execInitDone (by assumption)
  · exact good_execCctlDisable (by assumption)
  · exact good_execStopSequenceDone (by assumption)
  · exact good_execBusTransactionEnd (by assumption)
  · exact good_execCmdPush (by assumption)
  · exact good_execWriteWindow (by assumption)
  · exact good_execSafeEnd (by assumption)
  · exact good_execResultPop (by assumption)
  · exact good_execXferStart (by assumption)
  · exact good_execXferDone (by assumption)
  · exact good_execTrigFire (by assumption)
  · exact good_execFsyncEdge (by assumption)
  · exact good_execFsyncPulseEnd (by assumption)
  · exact good_execTrigRise (by assumption)
  · exact good_execTrigPulseEnd (by assumption)
  · exact good_execStrobePulse (by assumption)
  · exact good_execSwapDone (by assumption)
  · exact good_execBenchRowDone (by assumption)
  · exact good_execClass0RowTake (by assumption)
  · exact good_execStripeComplete (by assumption)
  · exact good_execDeadlineExpired (by assumption)
  · exact good_execStagedRowRead (by assumption)
  · exact good_execGridReady (by assumption)
  · exact good_execLutLoad (by assumption)
  · exact good_execLutLoadEnd (by assumption)
  · exact good_execPartitionWrite (by assumption)
  · exact good_execTapBufferComplete (by assumption)
  · exact good_execPinFailsafe (by assumption)
  · exact good_execStatsReady (by assumption)
  · exact good_execSegReady (by assumption)
  · exact good_execJobSubmit (by assumption)
  · exact good_execPixelEncodeJob (by assumption)
  · exact good_execPixelDecodeJob (by assumption)
  · exact good_execByteCompressJob (by assumption)
  · exact good_execByteDecompressJob (by assumption)
  · exact good_execCtuRowDone (by assumption)
  · exact good_execEncOutRdWrite (by assumption)
  · exact good_execStallTimeout (by assumption)
  · exact good_execGangWrite (by assumption)
  · exact good_execDecCtxEnable (by assumption)
  · exact good_execDecCtxDisable (by assumption)
  · exact good_execDecInWrWrite (by assumption)
  · exact good_execDecSliceStart (by assumption)
  · exact good_execDecSliceDone (by assumption)
  · exact good_execPliRetry (by assumption)
  · exact good_execVblank (by assumption)
  · exact good_execRasterLineStart (by assumption)
  · exact good_execBpoolAlloc (by assumption)
  · exact good_execBpoolComplete (by assumption)
  · exact good_execBpoolRelease (by assumption)
  · exact good_execBpoolWrite (by assumption)
  · exact good_execBpoolRead (by assumption)
  · exact good_execHeadFrameStart (by assumption)
  · exact good_execRefTarget (by assumption)
  · exact good_execRefLost (by assumption)
  · exact good_execDpoEnable (by assumption)
  · exact good_execDpoDisable (by assumption)
  · exact good_execHpdPlug (by assumption)
  · exact good_execHpdUnplug (by assumption)
  · exact good_execHpdIrq (by assumption)
  · exact good_execCapReadDone (by assumption)
  · exact good_execTrainAttemptEnd (by assumption)
  · exact good_execIdlePatternEnd (by assumption)
  · exact good_execLinkRetry (by assumption)
  · exact good_execAuxStart (by assumption)
  · exact good_execAuxRun (by assumption)
  · exact good_execAuxDone (by assumption)
  · exact good_execChkCfgWrite (by assumption)
  · exact good_execNetLinkDown (by assumption)
  · exact good_execNetLinkUp (by assumption)
  · exact good_execPktRecordIngest (by assumption)
  · exact good_execPktSend (by assumption)
  · exact good_execFlowPacket (by assumption)
  · exact good_execFlowLoss (by assumption)
  · exact good_execExceptionRx (by assumption)
  · exact good_execExcTxSubmit (by assumption)
  · exact good_execSenderReport (by assumption)
  · exact good_execSessionEnable (by assumption)
  · exact good_execCmdEcho (by assumption)
  · exact good_execCmdRead (by assumption)
  · exact good_execCmdWrite (by assumption)
  · exact good_execCmdRefused (by assumption)
  · exact good_execMeasurementInterval (by assumption)
  · exact good_execHoldEnd (by assumption)
  · exact good_execSlewDone (by assumption)
  · exact good_execTimeStep (by assumption)
  · exact good_execTimeAccept (by assumption)
  · exact good_execTimeSnap (by assumption)
  · exact good_execPtpRx (by assumption)
  · exact good_execPtpTxSubmit (by assumption)
  · exact good_execPtpTxDepart (by assumption)
  · exact good_execPpsIn (by assumption)
  · exact good_execPpsOutEdge (by assumption)
  · exact good_execPpsOutEnd (by assumption)
  · exact good_execAudEnable (by assumption)
  · exact good_execAudDisable (by assumption)
  · exact good_execAudArm (by assumption)
  · exact good_execAudStop (by assumption)
  · exact good_execStartGo (by assumption)
  · exact good_execSilentStart (by assumption)
  · exact good_execStartFired (by assumption)
  · exact good_execStopComplete (by assumption)
  · exact good_execBlockReady (by assumption)
  · exact good_execOutputBlock (by assumption)
  · exact good_execHoldLimit (by assumption)
  · exact good_execClockLost (by assumption)
  · exact good_execClockBack (by assumption)
  · exact good_execAudRateMeasure (by assumption)
  · exact good_execDdrcTrainingDone (by assumption)
  · exact good_execTrackTick (by assumption)
  · exact good_execMr4Poll (by assumption)
  · exact good_execRefresh (by assumption)
  · exact good_execScrubLine (by assumption)
  · exact good_execDramReadDone (by assumption)
  · exact good_execDiagnosisDone (by assumption)
  · exact good_execFreqGo (by assumption)
  · exact good_execFreqMarginMet (by assumption)
  · exact good_execFreqTimeout (by assumption)
  · exact good_execFreqAbort (by assumption)
  · exact good_execFreqChangeDone (by assumption)
  · exact good_execRelineGo (by assumption)
  · exact good_execRelineSegmentDone (by assumption)
  · exact good_execHostLinkDown (by assumption)
  · exact good_execHostLinkUp (by assumption)
  · exact good_execFlr (by assumption)
  · exact good_execMsixEnable (by assumption)
  · exact good_execBar2Read (by assumption)
  · exact good_execBar2Write (by assumption)
  · exact good_execThimbleAcquire (by assumption)
  · exact good_execThimbleRelease (by assumption)
  · exact good_execThimbleLapsed (by assumption)
  · exact good_execDmaRingEnable (by assumption)
  · exact good_execDmaRingDisable (by assumption)
  · exact good_execDmaSubmit (by assumption)
  · exact good_execDmaHostToDram (by assumption)
  · exact good_execDmaDramToHost (by assumption)
  · exact good_execDmaDramToDram (by assumption)
  · exact good_execDmaRegisterWrite (by assumption)
  · exact good_execDmaResume (by assumption)
  · exact good_execDmaSkip (by assumption)
  · exact good_execLoad (by assumption)
  · exact good_execUpdate (by assumption)
  · exact good_execActivate (by assumption)
  · exact good_execConfirm (by assumption)
  · exact good_execAdvance (by assumption)
  · exact good_execAttest (by assumption)
  · exact good_execIdentity (by assumption)
  · exact good_execDebugChallenge (by assumption)
  · exact good_execDebugUnlock (by assumption)
  · exact good_execEnroll (by assumption)
  · exact good_execHandoverQuiesced (by assumption)
  · exact good_execQuiesceTimeout (by assumption)
  · exact good_execHandoverDone (by assumption)
  · exact good_execEncoderHoldEnd (by assumption)
  · exact good_execHandoverTimeout (by assumption)
  · exact good_execRecoveryImage (by assumption)
  · exact good_execPowerOnReset (by assumption)
  · exact good_execResetNAssert (by assumption)
  · exact good_execResetNRelease (by assumption)
  · exact good_execWarm (by assumption)
  · exact good_execMgmtResetEnd (by assumption)
  · exact good_execHeartbeat (by assumption)
  · exact good_execHbMiss (by assumption)
  · exact good_execFirstHeartbeatTimeout (by assumption)
  · exact good_execRelease (by assumption)
  · exact good_execSafeviewRequest (by assumption)
  · exact good_execSafeviewReqRelease (by assumption)
  · exact good_execThermalSample (by assumption)
  · exact good_execSvbIdleEnd (by assumption)
  · exact good_execSvbTrainAttemptEnd (by assumption)
  · exact good_execSvbRetry (by assumption)
  · exact good_execSvbSourceRow (by assumption)
  · exact good_execQuadStale (by assumption)
  · exact good_execUlpsEntryExit (by assumption)
  · exact good_execDeskewSequence (by assumption)
  · exact good_execSequenceDelayEnd (by assumption)
  · exact good_execPacketEligible (by assumption)
  · exact good_execFlrEnd (by assumption)
  · exact good_execResizableBarWrite (by assumption)

end Sys2Proof.Machine
end

