-- ==== Sys2Proof/Laws/Within.lean ====
section
/-! SUPPORT. `Within`: which parts of a state an operation may write. A set of parts is a number: bit i stands for the registers
of block i (both copies), bit 34 + i for its page headers, and bits 68 up for the other fields of `State`, in their order
there. Only pages of instances that exist are spoken of. The queue is never written. -/

namespace Sys2Proof.Machine

/-- The place of a block in the BAR0 map. -/
def blkIdx : Block → Nat
  | .glb => 0
  | .sup => 1
  | .thm => 2
  | .pace => 3
  | .evt => 4
  | .svc => 5
  | .sec => 6
  | .host => 7
  | .dma => 8
  | .camp => 9
  | .cams => 10
  | .cctl => 11
  | .shut => 12
  | .bench => 13
  | .svb => 14
  | .lutm => 15
  | .strm => 16
  | .zraw => 17
  | .enc => 18
  | .dec => 19
  | .bpool => 20
  | .head => 21
  | .layer => 22
  | .dpo => 23
  | .chk => 24
  | .net => 25
  | .pkt => 26
  | .time => 27
  | .timel => 28
  | .aud => 29
  | .amclk => 30
  | .ddrc => 31
  | .memx => 32
  | .session => 33

/-- The part: the registers of a block. -/
def partW (b : Block) : Nat := 2 ^ blkIdx b

/-- The part: the page headers of a block. -/
def partH (b : Block) : Nat := 2 ^ (34 + blkIdx b)

/-- The parts that a commit of an owning page takes in besides: a head's layers. -/
def partG (b : Block) : Nat :=
  match b with
  | .head => partW .layer ||| partH .layer
  | _ => 0

/-- The parts of `a` lie in `b`. -/
def sub (a b : Nat) : Bool := a &&& b == a

theorem sub_trans {a b c : Nat} (h : sub a b = true) (k : sub b c = true) : sub a c = true := by
  simp only [sub, beq_iff_eq] at h k ⊢
  rw [← h, Nat.and_assoc, k]

/-- The same with the known part first. -/
theorem sub_of {a b c : Nat} (k : sub b c = true) (h : sub a b = true) : sub a c = true := sub_trans h k

theorem sub_allW (b : Block) : sub (partW b) 17179869183 = true := by cases b <;> rfl
theorem sub_allH (b : Block) : sub (partH b) 295147905162172956672 = true := by cases b <;> rfl

theorem sub_allG (b : Block) : sub (partG b) 72057594042122240 = true := by cases b <;> rfl

theorem sub_portW {p L : Nat} (a : sub (partW .camp) L = true) (b : sub (partW .cams) L = true) :
    sub (partW (if p < 40 then .camp else .cams)) L = true := by split <;> assumption

theorem sub_portH {p L : Nat} (a : sub (partH .camp) L = true) (b : sub (partH .cams) L = true) :
    sub (partH (if p < 40 then .camp else .cams)) L = true := by split <;> assumption

theorem sub_portG {p L : Nat} : sub (partG (if p < 40 then .camp else .cams)) L = true := by
  have e : ∀ a, sub 0 a = true := fun a => by simp [sub]
  split <;> exact e _

/-- The parts of a state that `Within` speaks of. -/
structure WithinOf (L : Nat) (s0 : State) (pending : List Instr) (regs stag : Tbl Word) (hdrs : Tbl Header)
    (dram : List Host.Cell)
    (poison : List Nat)
    (now : Nat)
    (free : Nat)
    (sent : List Emit)
    (pace : Pace)
    (asms : Tbl Asm)
    (strms : Tbl Strm)
    (benches : Tbl Bench)
    (lutSlots : Tbl (List Nat))
    (profiles : Tbl Profile)
    (ctls : Tbl Ctl)
    (directs : Tbl (List DirectFrame))
    (zraws : Tbl Zraw)
    (stageIdx : Tbl Nat)
    (encs : Tbl EncCtx)
    (decs : Tbl DecCtx)
    (pool : Bpool)
    (lays : Tbl Lay)
    (heads : Tbl Head)
    (dpos : Tbl Dpo)
    (chks : Tbl ChkUnit)
    (nets : Tbl NetPort)
    (sess : Tbl Sess)
    (flows : Tbl Flow)
    (pkt : Pkt)
    (clocks : Tbl Clock)
    (doms : Tbl TimeDom)
    (ppsIn : Nat)
    (ppsRise : Nat)
    (auds : Tbl Aud)
    (trigger : Option Trigger)
    (mem : Mem)
    (ports : Tbl HostPort)
    (thmTimers : List Nat)
    (sec : Sec)
    (pins : Pins)
    (sup : Sup) : Prop where
  queue : pending = s0.pending
  regs : ∀ b n off, n < blkCount b → off < blkPages b * 0x1000 → sub (partW b) L = true ∨
    (Tbl.get (resetWord b n off) regs (addrOf b n off) = s0.word b n off ∧
     Tbl.get (resetWord b n off) stag (addrOf b n off) = s0.wordS b n off)
  hdrs : ∀ b n, n < blkCount b → sub (partH b) L = true ∨ Tbl.get Header.reset hdrs (pageKey b n) = s0.hdr b n
  dram : sub 295147905179352825856 L = true ∨ dram = s0.dram
  poison : sub 590295810358705651712 L = true ∨ poison = s0.poison
  now : sub 1180591620717411303424 L = true ∨ now = s0.now
  free : sub 2361183241434822606848 L = true ∨ free = s0.free
  sent : sub 4722366482869645213696 L = true ∨ sent = s0.sent
  pace : sub 9444732965739290427392 L = true ∨ pace = s0.pace
  asms : sub 18889465931478580854784 L = true ∨ asms = s0.asms
  strms : sub 37778931862957161709568 L = true ∨ strms = s0.strms
  benches : sub 75557863725914323419136 L = true ∨ benches = s0.benches
  lutSlots : sub 151115727451828646838272 L = true ∨ lutSlots = s0.lutSlots
  profiles : sub 302231454903657293676544 L = true ∨ profiles = s0.profiles
  ctls : sub 604462909807314587353088 L = true ∨ ctls = s0.ctls
  directs : sub 1208925819614629174706176 L = true ∨ directs = s0.directs
  zraws : sub 2417851639229258349412352 L = true ∨ zraws = s0.zraws
  stageIdx : sub 4835703278458516698824704 L = true ∨ stageIdx = s0.stageIdx
  encs : sub 9671406556917033397649408 L = true ∨ encs = s0.encs
  decs : sub 19342813113834066795298816 L = true ∨ decs = s0.decs
  pool : sub 38685626227668133590597632 L = true ∨ pool = s0.pool
  lays : sub 77371252455336267181195264 L = true ∨ lays = s0.lays
  heads : sub 154742504910672534362390528 L = true ∨ heads = s0.heads
  dpos : sub 309485009821345068724781056 L = true ∨ dpos = s0.dpos
  chks : sub 618970019642690137449562112 L = true ∨ chks = s0.chks
  nets : sub 1237940039285380274899124224 L = true ∨ nets = s0.nets
  sess : sub 2475880078570760549798248448 L = true ∨ sess = s0.sess
  flows : sub 4951760157141521099596496896 L = true ∨ flows = s0.flows
  pkt : sub 9903520314283042199192993792 L = true ∨ pkt = s0.pkt
  clocks : sub 19807040628566084398385987584 L = true ∨ clocks = s0.clocks
  doms : sub 39614081257132168796771975168 L = true ∨ doms = s0.doms
  ppsIn : sub 79228162514264337593543950336 L = true ∨ ppsIn = s0.ppsIn
  ppsRise : sub 158456325028528675187087900672 L = true ∨ ppsRise = s0.ppsRise
  auds : sub 316912650057057350374175801344 L = true ∨ auds = s0.auds
  trigger : sub 633825300114114700748351602688 L = true ∨ trigger = s0.trigger
  mem : sub 1267650600228229401496703205376 L = true ∨ mem = s0.mem
  ports : sub 2535301200456458802993406410752 L = true ∨ ports = s0.ports
  thmTimers : sub 5070602400912917605986812821504 L = true ∨ thmTimers = s0.thmTimers
  sec : sub 10141204801825835211973625643008 L = true ∨ sec = s0.sec
  pins : sub 20282409603651670423947251286016 L = true ∨ pins = s0.pins
  sup : sub 40564819207303340847894502572032 L = true ∨ sup = s0.sup

/-- A state differs from `s0` in the parts of `L` at most. -/
def Within (L : Nat) (s0 s : State) : Prop :=
  WithinOf L s0 s.pending s.regs s.stag s.hdrs s.dram s.poison s.now s.free s.sent s.pace s.asms s.strms s.benches s.lutSlots s.profiles s.ctls s.directs s.zraws s.stageIdx s.encs s.decs s.pool s.lays s.heads s.dpos s.chks s.nets s.sess s.flows s.pkt s.clocks s.doms s.ppsIn s.ppsRise s.auds s.trigger s.mem s.ports s.thmTimers s.sec s.pins s.sup

/-- A pair whose state differs so. -/
def Within2 {α : Type} (L : Nat) (s0 : State) (p : α × State) : Prop := Within L s0 p.2

/-- A triple whose state differs so. -/
def Within3 {α β : Type} (L : Nat) (s0 : State) (p : α × β × State) : Prop := Within L s0 p.2.2

/-- A quadruple whose state differs so. -/
def Within4 {α β γ : Type} (L : Nat) (s0 : State) (p : α × β × γ × State) : Prop := Within L s0 p.2.2.2

/-- An optional state that differs so. -/
def WithinO (L : Nat) (s0 : State) (o : Option State) : Prop := ∀ s, o = some s → Within L s0 s

/-- An optional pair whose state differs so. -/
def WithinO2 {α : Type} (L : Nat) (s0 : State) (o : Option (α × State)) : Prop := ∀ p, o = some p → Within L s0 p.2

/-- An optional quadruple whose state differs so. -/
def WithinO4 {α β γ : Type} (L : Nat) (s0 : State) (o : Option (α × β × γ × State)) : Prop :=
  ∀ p, o = some p → Within L s0 p.2.2.2

/-- An outcome whose next state differs so; no other outcome occurs. -/
def WithinN (L : Nat) (s0 : State) (r : Host.Outcome State Fault Refusal) : Prop := ∃ t, r = .next t ∧ Within L s0 t

variable {L : Nat} {s0 s : State}

theorem within_refl : Within L s s where
  queue := rfl
  regs := fun _ _ _ _ _ => .inr ⟨rfl, rfl⟩
  hdrs := fun _ _ _ => .inr rfl
  dram := .inr rfl
  poison := .inr rfl
  now := .inr rfl
  free := .inr rfl
  sent := .inr rfl
  pace := .inr rfl
  asms := .inr rfl
  strms := .inr rfl
  benches := .inr rfl
  lutSlots := .inr rfl
  profiles := .inr rfl
  ctls := .inr rfl
  directs := .inr rfl
  zraws := .inr rfl
  stageIdx := .inr rfl
  encs := .inr rfl
  decs := .inr rfl
  pool := .inr rfl
  lays := .inr rfl
  heads := .inr rfl
  dpos := .inr rfl
  chks := .inr rfl
  nets := .inr rfl
  sess := .inr rfl
  flows := .inr rfl
  pkt := .inr rfl
  clocks := .inr rfl
  doms := .inr rfl
  ppsIn := .inr rfl
  ppsRise := .inr rfl
  auds := .inr rfl
  trigger := .inr rfl
  mem := .inr rfl
  ports := .inr rfl
  thmTimers := .inr rfl
  sec := .inr rfl
  pins := .inr rfl
  sup := .inr rfl

theorem within2_mk {α : Type} {a : α} (h : Within L s0 s) : Within2 L s0 (a, s) := h
theorem within3_mk {α β : Type} {a : α} {b : β} (h : Within L s0 s) : Within3 L s0 (a, b, s) := h
theorem within4_mk {α β γ : Type} {a : α} {b : β} {c : γ} (h : Within L s0 s) : Within4 L s0 (a, b, c, s) := h
theorem withinO_none : WithinO L s0 none := fun _ h => nomatch h
theorem withinO_some (h : Within L s0 s) : WithinO L s0 (some s) := fun _ e => Option.some.inj e ▸ h
theorem withinO2_none {α : Type} : WithinO2 (α := α) L s0 none := fun _ h => nomatch h
theorem withinO2_some {α : Type} {a : α} (h : Within L s0 s) : WithinO2 L s0 (some (a, s)) :=
  fun _ e => Option.some.inj e ▸ h
theorem withinO4_none {α β γ : Type} : WithinO4 (α := α) (β := β) (γ := γ) L s0 none := fun _ h => nomatch h
theorem withinO4_some {α β γ : Type} {a : α} {b : β} {c : γ} (h : Within L s0 s) : WithinO4 L s0 (some (a, b, c, s)) :=
  fun _ e => Option.some.inj e ▸ h
theorem withinN_next (h : Within L s0 s) : WithinN L s0 (.next s) := ⟨s, rfl, h⟩

theorem within2_eq {α : Type} {p : α × State} {a : α} (e : p = (a, s)) (h : Within2 L s0 p) : Within L s0 s := by
  subst e; exact h
theorem within3_eq {α β : Type} {p : α × β × State} {a : α} {b : β} (e : p = (a, b, s)) (h : Within3 L s0 p) :
    Within L s0 s := by subst e; exact h
theorem within4_eq {α β γ : Type} {p : α × β × γ × State} {a : α} {b : β} {c : γ} (e : p = (a, b, c, s))
    (h : Within4 L s0 p) : Within L s0 s := by subst e; exact h
theorem withinO_eq {o : Option State} (e : o = some s) (h : WithinO L s0 o) : Within L s0 s := h _ e
theorem withinO2_eq {α : Type} {o : Option (α × State)} {a : α} (e : o = some (a, s)) (h : WithinO2 L s0 o) :
    Within L s0 s := h _ e
theorem withinO4_eq {α β γ : Type} {o : Option (α × β × γ × State)} {a : α} {b : β} {c : γ} (e : o = some (a, b, c, s))
    (h : WithinO4 L s0 o) : Within L s0 s := h _ e

theorem within_forEach {α : Type} {l : List α} {f : α → State → State} (hf : ∀ a s, Within L s0 s → Within L s0 (f a s))
    (h : Within L s0 s) : Within L s0 (forEach l f s) := forEach_ind hf h

/-- What holds of every element of a list may be used in the fold over it. -/
theorem forEach_mem {α σ : Type} {P : σ → Prop} {l : List α} {f : α → σ → σ} {s : σ} (hf : ∀ a ∈ l, ∀ s, P s → P (f a s))
    (h : P s) : P (forEach l f s) := by
  induction l generalizing s with
  | nil => exact h
  | cons a t ih =>
    exact ih (fun b hb => hf b (List.mem_cons_of_mem _ hb)) (hf a (List.mem_cons_self ..) s h)

/-! ### The operations that write registers and headers -/

theorem within_setWord {b : Block} {n off : Nat} {v : Word} (hb : sub (partW b) L = true) (h : Within L s0 s) :
    Within L s0 (s.setWord b n off v) := by
  rw [State.setWord]
  split
  · rename_i hn
    refine { h with regs := fun c m o hm ho => ?_ }
    rcases h.regs c m o hm ho with k | k
    · exact .inl k
    · by_cases e : (c, m, o) = (b, n, off)
      · cases e; exact .inl hb
      · refine .inr ⟨(tbl_get_put_other fun a => e ?_).trans k.1, k.2⟩
        obtain ⟨rfl, rfl, rfl⟩ := addrOf_inj hm ho hn.1 hn.2 a
        rfl
  · exact h

theorem within_setWordS {b : Block} {n off : Nat} {v : Word} (hb : sub (partW b) L = true) (h : Within L s0 s) :
    Within L s0 (s.setWordS b n off v) := by
  rw [State.setWordS]
  split
  · rename_i hn
    refine { h with regs := fun c m o hm ho => ?_ }
    rcases h.regs c m o hm ho with k | k
    · exact .inl k
    · by_cases e : (c, m, o) = (b, n, off)
      · cases e; exact .inl hb
      · refine .inr ⟨k.1, (tbl_get_put_other fun a => e ?_).trans k.2⟩
        obtain ⟨rfl, rfl, rfl⟩ := addrOf_inj hm ho hn.1 hn.2 a
        rfl
  · exact h

theorem within_setHdr {b : Block} {n : Nat} {x : Header} (hb : sub (partH b) L = true) (h : Within L s0 s) :
    Within L s0 (s.setHdr b n x) := by
  rw [State.setHdr]
  split
  · rename_i hn
    refine { h with hdrs := fun c m hm => ?_ }
    rcases h.hdrs c m hm with k | k
    · exact .inl k
    · by_cases e : (c, m) = (b, n)
      · cases e; exact .inl hb
      · refine .inr ((tbl_get_put_other fun a => e ?_).trans k)
        obtain ⟨rfl, rfl⟩ := pageKey_inj hm hn a
        rfl
  · exact h

theorem within_set {n : Nat} {f : Fld} {x : Nat} (hb : sub (partW f.blk) L = true) (h : Within L s0 s) :
    Within L s0 (s.set n f x) := within_setWord hb h
theorem within_setS {n : Nat} {f : Fld} {x : Nat} (hb : sub (partW f.blk) L = true) (h : Within L s0 s) :
    Within L s0 (s.setS n f x) := within_setWordS hb h
theorem within_inc {n : Nat} {f : Fld} (hb : sub (partW f.blk) L = true) (h : Within L s0 s) :
    Within L s0 (s.inc n f) := within_setWord hb h
theorem within_incBy {n : Nat} {f : Fld} {k : Nat} (hb : sub (partW f.blk) L = true) (h : Within L s0 s) :
    Within L s0 (s.incBy n f k) := within_setWord hb h
theorem within_incSat {n : Nat} {f : Fld} {k : Nat} (hb : sub (partW f.blk) L = true) (h : Within L s0 s) :
    Within L s0 (s.incSat n f k) := within_setWord hb h
theorem within_setSat {n : Nat} {f : Fld} {x : Nat} (hb : sub (partW f.blk) L = true) (h : Within L s0 s) :
    Within L s0 (s.setSat n f x) := within_setWord hb h
theorem within_setState {b : Block} {n v : Nat} (hb : sub (partH b) L = true) (h : Within L s0 s) :
    Within L s0 (s.setState b n v) := within_setHdr hb h

/-- An address in the window of an instance, if it is a register of one that exists, is a register of that instance. -/
theorem window_block {b c : Block} {n m o : Nat} (hm : m < blkCount c) (ho : o < blkPages c * 0x1000)
    (h1 : winBase b n ≤ addrOf c m o)
    (h2 : addrOf c m o < winBase b n + (if n < blkCount b then blkPages b * 0x1000 else 0)) : c = b := by
  by_cases hn : n < blkCount b
  · rw [if_pos hn] at h2
    refine (addrOf_inj (n := m) (m := n) (off := o) (o := addrOf c m o - winBase b n) hm ho hn (by omega) ?_).1
    simp only [addrOf] at *
    omega
  · rw [if_neg hn] at h2
    omega

theorem within_clearWindow {b : Block} {n : Nat} (hb : sub (partW b) L = true) (h : Within L s0 s) :
    Within L s0 (s.clearWindow b n) := by
  refine { h with regs := fun c m o hm ho => ?_ }
  rcases h.regs c m o hm ho with k | k
  · exact .inl k
  · by_cases e : winBase b n ≤ addrOf c m o ∧
        addrOf c m o < winBase b n + (if n < blkCount b then blkPages b * 0x1000 else 0)
    · rw [window_block hm ho e.1 e.2]; exact .inl hb
    · refine .inr ⟨Eq.trans ?_ k.1, Eq.trans ?_ k.2⟩ <;>
      · simp only [State.clearWindow]
        rw [tbl_get_dropIf, if_neg]
        simpa using e

theorem mem_windowKeys {b : Block} {n a : Nat} (h : a ∈ s.windowKeys b n) :
    winBase b n ≤ a ∧ a < winBase b n + (if n < blkCount b then blkPages b * 0x1000 else 0) := by
  simp only [State.windowKeys, List.mem_filter, Bool.and_eq_true, decide_eq_true_eq] at h
  exact h.2

theorem within_applyAt {a : Nat} {b : Block} {n : Nat} (ha : winBase b n ≤ a ∧
    a < winBase b n + (if n < blkCount b then blkPages b * 0x1000 else 0)) (hb : sub (partW b) L = true)
    (h : Within L s0 s) : Within L s0 (applyAt a s) := by
  rw [applyAt]
  refine ite_ind h { h with regs := fun c m o hm ho => ?_ }
  rcases h.regs c m o hm ho with k | k
  · exact .inl k
  · by_cases e : addrOf c m o = a
    · subst e; rw [window_block hm ho ha.1 ha.2]; exact .inl hb
    · exact .inr ⟨(tbl_get_put_other e).trans k.1, k.2⟩

theorem within_discardAt {a : Nat} {b : Block} {n : Nat} (ha : winBase b n ≤ a ∧
    a < winBase b n + (if n < blkCount b then blkPages b * 0x1000 else 0)) (hb : sub (partW b) L = true)
    (h : Within L s0 s) : Within L s0 (discardAt a s) := by
  refine { h with regs := fun c m o hm ho => ?_ }
  rcases h.regs c m o hm ho with k | k
  · exact .inl k
  · by_cases e : addrOf c m o = a
    · subst e; rw [window_block hm ho ha.1 ha.2]; exact .inl hb
    · exact .inr ⟨k.1, (tbl_get_put_other e).trans k.2⟩

/-- The pages of a commit group: the owner's own, and a head's layers. -/
theorem group_blocks {b : Block} {n : Nat} {x : Block × Nat} (h : x ∈ commitGroup b n) :
    x.1 = b ∨ (b = .head ∧ x.1 = .layer) := by
  cases b <;> simp only [commitGroup, List.mem_cons, List.mem_map, List.not_mem_nil, or_false] at h
  case head =>
    rcases h with rfl | ⟨a, -, rfl⟩
    · exact .inl rfl
    · exact .inr ⟨rfl, rfl⟩
  all_goals exact .inl (h ▸ rfl)

theorem within_applyStaged {b : Block} {n : Nat} (hw : sub (partW b) L = true) (hh : sub (partH b) L = true)
    (h : Within L s0 s) : Within L s0 (s.applyStaged b n) :=
  within_setHdr hh (forEach_mem (P := Within L s0) (fun _ ha _ => within_applyAt (mem_windowKeys ha) hw) h)

theorem within_discardStaged {b : Block} {n : Nat} (hw : sub (partW b) L = true) (hh : sub (partH b) L = true)
    (h : Within L s0 s) : Within L s0 (s.discardStaged b n) :=
  within_setHdr hh (forEach_mem (P := Within L s0) (fun _ ha _ => within_discardAt (mem_windowKeys ha) hw) h)

theorem within_applyGroup {b : Block} {n : Nat} (hw : sub (partW b) L = true) (hh : sub (partH b) L = true)
    (hg : sub (partG b) L = true) (h : Within L s0 s) : Within L s0 (applyGroup b n s) := by
  refine forEach_mem (P := Within L s0) (fun x hx s h => ?_) h
  rcases group_blocks hx with e | ⟨e, e'⟩
  · exact within_applyStaged (e ▸ hw) (e ▸ hh) h
  · subst e
    exact within_applyStaged (e' ▸ sub_trans (b := partG .head) rfl hg) (e' ▸ sub_trans (b := partG .head) rfl hg) h

theorem within_discardGroup {b : Block} {n : Nat} (hw : sub (partW b) L = true) (hh : sub (partH b) L = true)
    (hg : sub (partG b) L = true) (h : Within L s0 s) : Within L s0 (discardGroup b n s) := by
  refine forEach_mem (P := Within L s0) (fun x hx s h => ?_) h
  rcases group_blocks hx with e | ⟨e, e'⟩
  · exact within_discardStaged (e ▸ hw) (e ▸ hh) h
  · subst e
    exact within_discardStaged (e' ▸ sub_trans (b := partG .head) rfl hg) (e' ▸ sub_trans (b := partG .head) rfl hg) h

/-- With every part allowed only the queue counts. -/
theorem within_all (hL : sub 81129638414606681695789005144063 L = true) (hq : s.pending = s0.pending) : Within L s0 s where
  queue := hq
  regs := fun b _ _ _ _ => .inl (sub_of hL (sub_trans (sub_allW b) rfl))
  hdrs := fun b _ _ => .inl (sub_of hL (sub_trans (sub_allH b) rfl))
  dram := .inl (sub_of hL rfl)
  poison := .inl (sub_of hL rfl)
  now := .inl (sub_of hL rfl)
  free := .inl (sub_of hL rfl)
  sent := .inl (sub_of hL rfl)
  pace := .inl (sub_of hL rfl)
  asms := .inl (sub_of hL rfl)
  strms := .inl (sub_of hL rfl)
  benches := .inl (sub_of hL rfl)
  lutSlots := .inl (sub_of hL rfl)
  profiles := .inl (sub_of hL rfl)
  ctls := .inl (sub_of hL rfl)
  directs := .inl (sub_of hL rfl)
  zraws := .inl (sub_of hL rfl)
  stageIdx := .inl (sub_of hL rfl)
  encs := .inl (sub_of hL rfl)
  decs := .inl (sub_of hL rfl)
  pool := .inl (sub_of hL rfl)
  lays := .inl (sub_of hL rfl)
  heads := .inl (sub_of hL rfl)
  dpos := .inl (sub_of hL rfl)
  chks := .inl (sub_of hL rfl)
  nets := .inl (sub_of hL rfl)
  sess := .inl (sub_of hL rfl)
  flows := .inl (sub_of hL rfl)
  pkt := .inl (sub_of hL rfl)
  clocks := .inl (sub_of hL rfl)
  doms := .inl (sub_of hL rfl)
  ppsIn := .inl (sub_of hL rfl)
  ppsRise := .inl (sub_of hL rfl)
  auds := .inl (sub_of hL rfl)
  trigger := .inl (sub_of hL rfl)
  mem := .inl (sub_of hL rfl)
  ports := .inl (sub_of hL rfl)
  thmTimers := .inl (sub_of hL rfl)
  sec := .inl (sub_of hL rfl)
  pins := .inl (sub_of hL rfl)
  sup := .inl (sub_of hL rfl)

theorem within_upd_now {now'} (hL : sub 1180591620717411303424 L = true) (h : Within L s0 s) :
    Within L s0 { s with now := now' } :=
  { h with now := .inl (sub_of hL rfl) }

theorem within_upd_sent {sent'} (hL : sub 4722366482869645213696 L = true) (h : Within L s0 s) :
    Within L s0 { s with sent := sent' } :=
  { h with sent := .inl (sub_of hL rfl) }

theorem within_upd_free {free'} (hL : sub 2361183241434822606848 L = true) (h : Within L s0 s) :
    Within L s0 { s with free := free' } :=
  { h with free := .inl (sub_of hL rfl) }

theorem within_upd_ports {ports'} (hL : sub 2535301200456458802993406410752 L = true) (h : Within L s0 s) :
    Within L s0 { s with ports := ports' } :=
  { h with ports := .inl (sub_of hL rfl) }

theorem within_upd_poison {poison'} (hL : sub 590295810358705651712 L = true) (h : Within L s0 s) :
    Within L s0 { s with poison := poison' } :=
  { h with poison := .inl (sub_of hL rfl) }

theorem within_upd_dram_poison {dram' poison'} (hL : sub 885443715538058477568 L = true) (h : Within L s0 s) :
    Within L s0 { s with dram := dram', poison := poison' } :=
  { h with dram := .inl (sub_of hL rfl), poison := .inl (sub_of hL rfl) }

theorem within_upd_pace {pace'} (hL : sub 9444732965739290427392 L = true) (h : Within L s0 s) :
    Within L s0 { s with pace := pace' } :=
  { h with pace := .inl (sub_of hL rfl) }

theorem within_upd_ctls {ctls'} (hL : sub 604462909807314587353088 L = true) (h : Within L s0 s) :
    Within L s0 { s with ctls := ctls' } :=
  { h with ctls := .inl (sub_of hL rfl) }

theorem within_upd_pins {pins'} (hL : sub 20282409603651670423947251286016 L = true) (h : Within L s0 s) :
    Within L s0 { s with pins := pins' } :=
  { h with pins := .inl (sub_of hL rfl) }

theorem within_upd_zraws {zraws'} (hL : sub 2417851639229258349412352 L = true) (h : Within L s0 s) :
    Within L s0 { s with zraws := zraws' } :=
  { h with zraws := .inl (sub_of hL rfl) }

theorem within_upd_auds {auds'} (hL : sub 316912650057057350374175801344 L = true) (h : Within L s0 s) :
    Within L s0 { s with auds := auds' } :=
  { h with auds := .inl (sub_of hL rfl) }

theorem within_upd_trigger {trigger'} (hL : sub 633825300114114700748351602688 L = true) (h : Within L s0 s) :
    Within L s0 { s with trigger := trigger' } :=
  { h with trigger := .inl (sub_of hL rfl) }

theorem within_upd_doms {doms'} (hL : sub 39614081257132168796771975168 L = true) (h : Within L s0 s) :
    Within L s0 { s with doms := doms' } :=
  { h with doms := .inl (sub_of hL rfl) }

theorem within_upd_chks {chks'} (hL : sub 618970019642690137449562112 L = true) (h : Within L s0 s) :
    Within L s0 { s with chks := chks' } :=
  { h with chks := .inl (sub_of hL rfl) }

theorem within_upd_pool {pool'} (hL : sub 38685626227668133590597632 L = true) (h : Within L s0 s) :
    Within L s0 { s with pool := pool' } :=
  { h with pool := .inl (sub_of hL rfl) }

theorem within_upd_asms {asms'} (hL : sub 18889465931478580854784 L = true) (h : Within L s0 s) :
    Within L s0 { s with asms := asms' } :=
  { h with asms := .inl (sub_of hL rfl) }

theorem within_upd_benches {benches'} (hL : sub 75557863725914323419136 L = true) (h : Within L s0 s) :
    Within L s0 { s with benches := benches' } :=
  { h with benches := .inl (sub_of hL rfl) }

theorem within_upd_strms {strms'} (hL : sub 37778931862957161709568 L = true) (h : Within L s0 s) :
    Within L s0 { s with strms := strms' } :=
  { h with strms := .inl (sub_of hL rfl) }

theorem within_upd_encs {encs'} (hL : sub 9671406556917033397649408 L = true) (h : Within L s0 s) :
    Within L s0 { s with encs := encs' } :=
  { h with encs := .inl (sub_of hL rfl) }

theorem within_upd_nets {nets'} (hL : sub 1237940039285380274899124224 L = true) (h : Within L s0 s) :
    Within L s0 { s with nets := nets' } :=
  { h with nets := .inl (sub_of hL rfl) }

theorem within_upd_pkt {pkt'} (hL : sub 9903520314283042199192993792 L = true) (h : Within L s0 s) :
    Within L s0 { s with pkt := pkt' } :=
  { h with pkt := .inl (sub_of hL rfl) }

theorem within_upd_sess {sess'} (hL : sub 2475880078570760549798248448 L = true) (h : Within L s0 s) :
    Within L s0 { s with sess := sess' } :=
  { h with sess := .inl (sub_of hL rfl) }

theorem within_upd_decs {decs'} (hL : sub 19342813113834066795298816 L = true) (h : Within L s0 s) :
    Within L s0 { s with decs := decs' } :=
  { h with decs := .inl (sub_of hL rfl) }

theorem within_upd_flows {flows'} (hL : sub 4951760157141521099596496896 L = true) (h : Within L s0 s) :
    Within L s0 { s with flows := flows' } :=
  { h with flows := .inl (sub_of hL rfl) }

theorem within_upd_clocks {clocks'} (hL : sub 19807040628566084398385987584 L = true) (h : Within L s0 s) :
    Within L s0 { s with clocks := clocks' } :=
  { h with clocks := .inl (sub_of hL rfl) }

theorem within_upd_ppsIn {ppsIn'} (hL : sub 79228162514264337593543950336 L = true) (h : Within L s0 s) :
    Within L s0 { s with ppsIn := ppsIn' } :=
  { h with ppsIn := .inl (sub_of hL rfl) }

theorem within_upd_ppsRise_pins {ppsRise' pins'} (hL : sub 20440865928680199099134339186688 L = true) (h : Within L
      s0 s) :
    Within L s0 { s with ppsRise := ppsRise', pins := pins' } :=
  { h with ppsRise := .inl (sub_of hL rfl), pins := .inl (sub_of hL rfl) }

theorem within_upd_sec {sec'} (hL : sub 10141204801825835211973625643008 L = true) (h : Within L s0 s) :
    Within L s0 { s with sec := sec' } :=
  { h with sec := .inl (sub_of hL rfl) }

theorem within_upd_profiles {profiles'} (hL : sub 302231454903657293676544 L = true) (h : Within L s0 s) :
    Within L s0 { s with profiles := profiles' } :=
  { h with profiles := .inl (sub_of hL rfl) }

theorem within_upd_mem {mem'} (hL : sub 1267650600228229401496703205376 L = true) (h : Within L s0 s) :
    Within L s0 { s with mem := mem' } :=
  { h with mem := .inl (sub_of hL rfl) }

theorem within_upd_thmTimers {thmTimers'} (hL : sub 5070602400912917605986812821504 L = true) (h : Within L s0 s) :
    Within L s0 { s with thmTimers := thmTimers' } :=
  { h with thmTimers := .inl (sub_of hL rfl) }

theorem within_upd_directs {directs'} (hL : sub 1208925819614629174706176 L = true) (h : Within L s0 s) :
    Within L s0 { s with directs := directs' } :=
  { h with directs := .inl (sub_of hL rfl) }

theorem within_upd_stageIdx {stageIdx'} (hL : sub 4835703278458516698824704 L = true) (h : Within L s0 s) :
    Within L s0 { s with stageIdx := stageIdx' } :=
  { h with stageIdx := .inl (sub_of hL rfl) }

theorem within_upd_lutSlots {lutSlots'} (hL : sub 151115727451828646838272 L = true) (h : Within L s0 s) :
    Within L s0 { s with lutSlots := lutSlots' } :=
  { h with lutSlots := .inl (sub_of hL rfl) }

theorem within_upd_heads {heads'} (hL : sub 154742504910672534362390528 L = true) (h : Within L s0 s) :
    Within L s0 { s with heads := heads' } :=
  { h with heads := .inl (sub_of hL rfl) }

theorem within_upd_lays {lays'} (hL : sub 77371252455336267181195264 L = true) (h : Within L s0 s) :
    Within L s0 { s with lays := lays' } :=
  { h with lays := .inl (sub_of hL rfl) }

theorem within_upd_dpos {dpos'} (hL : sub 309485009821345068724781056 L = true) (h : Within L s0 s) :
    Within L s0 { s with dpos := dpos' } :=
  { h with dpos := .inl (sub_of hL rfl) }

theorem within_upd_sup {sup'} (hL : sub 40564819207303340847894502572032 L = true) (h : Within L s0 s) :
    Within L s0 { s with sup := sup' } :=
  { h with sup := .inl (sub_of hL rfl) }

theorem within_upd_pins_sup {pins' sup'} (hL : sub 60847228810955011271841753858048 L = true) (h : Within L s0 s) :
    Within L s0 { s with pins := pins', sup := sup' } :=
  { h with pins := .inl (sub_of hL rfl), sup := .inl (sub_of hL rfl) }

/-! ### What a frame says of reads -/

theorem within_word {b : Block} {n off : Nat} (h : Within L s0 s) (hb : sub (partW b) L = false) (hn : n < blkCount b)
    (ho : off < blkPages b * 0x1000) : s.word b n off = s0.word b n off :=
  ((h.regs b n off hn ho).resolve_left (by simp [hb])).1

theorem within_wordS {b : Block} {n off : Nat} (h : Within L s0 s) (hb : sub (partW b) L = false) (hn : n < blkCount b)
    (ho : off < blkPages b * 0x1000) : s.wordS b n off = s0.wordS b n off :=
  ((h.regs b n off hn ho).resolve_left (by simp [hb])).2

theorem within_hdr {b : Block} {n : Nat} (h : Within L s0 s) (hb : sub (partH b) L = false) (hn : n < blkCount b) :
    s.hdr b n = s0.hdr b n := (h.hdrs b n hn).resolve_left (by simp [hb])

theorem within_get {n : Nat} {f : Fld} (h : Within L s0 s) (hb : sub (partW f.blk) L = false) (hn : n < blkCount f.blk)
    (ho : f.off < blkPages f.blk * 0x1000) : s.get n f = s0.get n f := by
  rw [State.get, State.get, within_word h hb hn ho]

theorem within_getS {n : Nat} {f : Fld} (h : Within L s0 s) (hb : sub (partW f.blk) L = false) (hn : n < blkCount f.blk)
    (ho : f.off < blkPages f.blk * 0x1000) : s.getS n f = s0.getS n f := by
  rw [State.getS, State.getS, within_wordS h hb hn ho]

end Sys2Proof.Machine
end

