-- ==== Sys2Proof/Laws/State.lean ====
section
/-! SUPPORT. One lemma per field per update of a state, so that no proof unfolds a record update: what each write leaves
alone, and that a table entry just written is the one read. -/

namespace Sys2Proof.Machine

variable {s : State} {b c : Block} {n m o off : Nat} {f : Fld} {v : Word}

/-! ### `emit` -/

@[simp] theorem emit_regs {e} : (s.emit e).regs = s.regs := rfl
@[simp] theorem emit_stag {e} : (s.emit e).stag = s.stag := rfl
@[simp] theorem emit_hdrs {e} : (s.emit e).hdrs = s.hdrs := rfl
@[simp] theorem emit_dram {e} : (s.emit e).dram = s.dram := rfl
@[simp] theorem emit_poison {e} : (s.emit e).poison = s.poison := rfl
@[simp] theorem emit_now {e} : (s.emit e).now = s.now := rfl
@[simp] theorem emit_free {e} : (s.emit e).free = s.free := rfl
@[simp] theorem emit_pace {e} : (s.emit e).pace = s.pace := rfl
@[simp] theorem emit_asms {e} : (s.emit e).asms = s.asms := rfl
@[simp] theorem emit_strms {e} : (s.emit e).strms = s.strms := rfl
@[simp] theorem emit_benches {e} : (s.emit e).benches = s.benches := rfl
@[simp] theorem emit_lutSlots {e} : (s.emit e).lutSlots = s.lutSlots := rfl
@[simp] theorem emit_profiles {e} : (s.emit e).profiles = s.profiles := rfl
@[simp] theorem emit_ctls {e} : (s.emit e).ctls = s.ctls := rfl
@[simp] theorem emit_directs {e} : (s.emit e).directs = s.directs := rfl
@[simp] theorem emit_zraws {e} : (s.emit e).zraws = s.zraws := rfl
@[simp] theorem emit_stageIdx {e} : (s.emit e).stageIdx = s.stageIdx := rfl
@[simp] theorem emit_encs {e} : (s.emit e).encs = s.encs := rfl
@[simp] theorem emit_decs {e} : (s.emit e).decs = s.decs := rfl
@[simp] theorem emit_pool {e} : (s.emit e).pool = s.pool := rfl
@[simp] theorem emit_lays {e} : (s.emit e).lays = s.lays := rfl
@[simp] theorem emit_heads {e} : (s.emit e).heads = s.heads := rfl
@[simp] theorem emit_dpos {e} : (s.emit e).dpos = s.dpos := rfl
@[simp] theorem emit_chks {e} : (s.emit e).chks = s.chks := rfl
@[simp] theorem emit_nets {e} : (s.emit e).nets = s.nets := rfl
@[simp] theorem emit_sess {e} : (s.emit e).sess = s.sess := rfl
@[simp] theorem emit_flows {e} : (s.emit e).flows = s.flows := rfl
@[simp] theorem emit_pkt {e} : (s.emit e).pkt = s.pkt := rfl
@[simp] theorem emit_clocks {e} : (s.emit e).clocks = s.clocks := rfl
@[simp] theorem emit_doms {e} : (s.emit e).doms = s.doms := rfl
@[simp] theorem emit_ppsIn {e} : (s.emit e).ppsIn = s.ppsIn := rfl
@[simp] theorem emit_ppsRise {e} : (s.emit e).ppsRise = s.ppsRise := rfl
@[simp] theorem emit_auds {e} : (s.emit e).auds = s.auds := rfl
@[simp] theorem emit_trigger {e} : (s.emit e).trigger = s.trigger := rfl
@[simp] theorem emit_mem {e} : (s.emit e).mem = s.mem := rfl
@[simp] theorem emit_ports {e} : (s.emit e).ports = s.ports := rfl
@[simp] theorem emit_thmTimers {e} : (s.emit e).thmTimers = s.thmTimers := rfl
@[simp] theorem emit_sec {e} : (s.emit e).sec = s.sec := rfl
@[simp] theorem emit_pins {e} : (s.emit e).pins = s.pins := rfl
@[simp] theorem emit_sup {e} : (s.emit e).sup = s.sup := rfl
@[simp] theorem emit_pending {e} : (s.emit e).pending = s.pending := rfl
@[simp] theorem emit_word {e} : (s.emit e).word b m o = s.word b m o := rfl
@[simp] theorem emit_wordS {e} : (s.emit e).wordS b m o = s.wordS b m o := rfl
@[simp] theorem emit_hdr {e} : (s.emit e).hdr b m = s.hdr b m := rfl
@[simp] theorem emit_get {e} : (s.emit e).get m f = s.get m f := rfl
@[simp] theorem emit_getS {e} : (s.emit e).getS m f = s.getS m f := rfl
@[simp] theorem emit_stateOf {e} : (s.emit e).stateOf b m = s.stateOf b m := rfl
@[simp] theorem emit_enabled {e} : (s.emit e).enabled b m = s.enabled b m := rfl
@[simp] theorem emit_flag {e} : (s.emit e).flag m f = s.flag m f := rfl

/-! ### `at` -/

@[simp] theorem at_regs {t} : (s.at t).regs = s.regs := rfl
@[simp] theorem at_stag {t} : (s.at t).stag = s.stag := rfl
@[simp] theorem at_hdrs {t} : (s.at t).hdrs = s.hdrs := rfl
@[simp] theorem at_dram {t} : (s.at t).dram = s.dram := rfl
@[simp] theorem at_poison {t} : (s.at t).poison = s.poison := rfl
@[simp] theorem at_free {t} : (s.at t).free = s.free := rfl
@[simp] theorem at_sent {t} : (s.at t).sent = s.sent := rfl
@[simp] theorem at_pace {t} : (s.at t).pace = s.pace := rfl
@[simp] theorem at_asms {t} : (s.at t).asms = s.asms := rfl
@[simp] theorem at_strms {t} : (s.at t).strms = s.strms := rfl
@[simp] theorem at_benches {t} : (s.at t).benches = s.benches := rfl
@[simp] theorem at_lutSlots {t} : (s.at t).lutSlots = s.lutSlots := rfl
@[simp] theorem at_profiles {t} : (s.at t).profiles = s.profiles := rfl
@[simp] theorem at_ctls {t} : (s.at t).ctls = s.ctls := rfl
@[simp] theorem at_directs {t} : (s.at t).directs = s.directs := rfl
@[simp] theorem at_zraws {t} : (s.at t).zraws = s.zraws := rfl
@[simp] theorem at_stageIdx {t} : (s.at t).stageIdx = s.stageIdx := rfl
@[simp] theorem at_encs {t} : (s.at t).encs = s.encs := rfl
@[simp] theorem at_decs {t} : (s.at t).decs = s.decs := rfl
@[simp] theorem at_pool {t} : (s.at t).pool = s.pool := rfl
@[simp] theorem at_lays {t} : (s.at t).lays = s.lays := rfl
@[simp] theorem at_heads {t} : (s.at t).heads = s.heads := rfl
@[simp] theorem at_dpos {t} : (s.at t).dpos = s.dpos := rfl
@[simp] theorem at_chks {t} : (s.at t).chks = s.chks := rfl
@[simp] theorem at_nets {t} : (s.at t).nets = s.nets := rfl
@[simp] theorem at_sess {t} : (s.at t).sess = s.sess := rfl
@[simp] theorem at_flows {t} : (s.at t).flows = s.flows := rfl
@[simp] theorem at_pkt {t} : (s.at t).pkt = s.pkt := rfl
@[simp] theorem at_clocks {t} : (s.at t).clocks = s.clocks := rfl
@[simp] theorem at_doms {t} : (s.at t).doms = s.doms := rfl
@[simp] theorem at_ppsIn {t} : (s.at t).ppsIn = s.ppsIn := rfl
@[simp] theorem at_ppsRise {t} : (s.at t).ppsRise = s.ppsRise := rfl
@[simp] theorem at_auds {t} : (s.at t).auds = s.auds := rfl
@[simp] theorem at_trigger {t} : (s.at t).trigger = s.trigger := rfl
@[simp] theorem at_mem {t} : (s.at t).mem = s.mem := rfl
@[simp] theorem at_ports {t} : (s.at t).ports = s.ports := rfl
@[simp] theorem at_thmTimers {t} : (s.at t).thmTimers = s.thmTimers := rfl
@[simp] theorem at_sec {t} : (s.at t).sec = s.sec := rfl
@[simp] theorem at_pins {t} : (s.at t).pins = s.pins := rfl
@[simp] theorem at_sup {t} : (s.at t).sup = s.sup := rfl
@[simp] theorem at_pending {t} : (s.at t).pending = s.pending := rfl
@[simp] theorem at_word {t} : (s.at t).word b m o = s.word b m o := rfl
@[simp] theorem at_wordS {t} : (s.at t).wordS b m o = s.wordS b m o := rfl
@[simp] theorem at_hdr {t} : (s.at t).hdr b m = s.hdr b m := rfl
@[simp] theorem at_get {t} : (s.at t).get m f = s.get m f := rfl
@[simp] theorem at_getS {t} : (s.at t).getS m f = s.getS m f := rfl
@[simp] theorem at_stateOf {t} : (s.at t).stateOf b m = s.stateOf b m := rfl
@[simp] theorem at_enabled {t} : (s.at t).enabled b m = s.enabled b m := rfl
@[simp] theorem at_flag {t} : (s.at t).flag m f = s.flag m f := rfl

/-! ### `fresh` -/

@[simp] theorem fresh_regs : s.fresh.regs = s.regs := rfl
@[simp] theorem fresh_stag : s.fresh.stag = s.stag := rfl
@[simp] theorem fresh_hdrs : s.fresh.hdrs = s.hdrs := rfl
@[simp] theorem fresh_dram : s.fresh.dram = s.dram := rfl
@[simp] theorem fresh_poison : s.fresh.poison = s.poison := rfl
@[simp] theorem fresh_now : s.fresh.now = s.now := rfl
@[simp] theorem fresh_sent : s.fresh.sent = s.sent := rfl
@[simp] theorem fresh_pace : s.fresh.pace = s.pace := rfl
@[simp] theorem fresh_asms : s.fresh.asms = s.asms := rfl
@[simp] theorem fresh_strms : s.fresh.strms = s.strms := rfl
@[simp] theorem fresh_benches : s.fresh.benches = s.benches := rfl
@[simp] theorem fresh_lutSlots : s.fresh.lutSlots = s.lutSlots := rfl
@[simp] theorem fresh_profiles : s.fresh.profiles = s.profiles := rfl
@[simp] theorem fresh_ctls : s.fresh.ctls = s.ctls := rfl
@[simp] theorem fresh_directs : s.fresh.directs = s.directs := rfl
@[simp] theorem fresh_zraws : s.fresh.zraws = s.zraws := rfl
@[simp] theorem fresh_stageIdx : s.fresh.stageIdx = s.stageIdx := rfl
@[simp] theorem fresh_encs : s.fresh.encs = s.encs := rfl
@[simp] theorem fresh_decs : s.fresh.decs = s.decs := rfl
@[simp] theorem fresh_pool : s.fresh.pool = s.pool := rfl
@[simp] theorem fresh_lays : s.fresh.lays = s.lays := rfl
@[simp] theorem fresh_heads : s.fresh.heads = s.heads := rfl
@[simp] theorem fresh_dpos : s.fresh.dpos = s.dpos := rfl
@[simp] theorem fresh_chks : s.fresh.chks = s.chks := rfl
@[simp] theorem fresh_nets : s.fresh.nets = s.nets := rfl
@[simp] theorem fresh_sess : s.fresh.sess = s.sess := rfl
@[simp] theorem fresh_flows : s.fresh.flows = s.flows := rfl
@[simp] theorem fresh_pkt : s.fresh.pkt = s.pkt := rfl
@[simp] theorem fresh_clocks : s.fresh.clocks = s.clocks := rfl
@[simp] theorem fresh_doms : s.fresh.doms = s.doms := rfl
@[simp] theorem fresh_ppsIn : s.fresh.ppsIn = s.ppsIn := rfl
@[simp] theorem fresh_ppsRise : s.fresh.ppsRise = s.ppsRise := rfl
@[simp] theorem fresh_auds : s.fresh.auds = s.auds := rfl
@[simp] theorem fresh_trigger : s.fresh.trigger = s.trigger := rfl
@[simp] theorem fresh_mem : s.fresh.mem = s.mem := rfl
@[simp] theorem fresh_ports : s.fresh.ports = s.ports := rfl
@[simp] theorem fresh_thmTimers : s.fresh.thmTimers = s.thmTimers := rfl
@[simp] theorem fresh_sec : s.fresh.sec = s.sec := rfl
@[simp] theorem fresh_pins : s.fresh.pins = s.pins := rfl
@[simp] theorem fresh_sup : s.fresh.sup = s.sup := rfl
@[simp] theorem fresh_pending : s.fresh.pending = s.pending := rfl
@[simp] theorem fresh_word : s.fresh.word b m o = s.word b m o := rfl
@[simp] theorem fresh_wordS : s.fresh.wordS b m o = s.wordS b m o := rfl
@[simp] theorem fresh_hdr : s.fresh.hdr b m = s.hdr b m := rfl
@[simp] theorem fresh_get : s.fresh.get m f = s.get m f := rfl
@[simp] theorem fresh_getS : s.fresh.getS m f = s.getS m f := rfl
@[simp] theorem fresh_stateOf : s.fresh.stateOf b m = s.stateOf b m := rfl
@[simp] theorem fresh_enabled : s.fresh.enabled b m = s.enabled b m := rfl
@[simp] theorem fresh_flag : s.fresh.flag m f = s.flag m f := rfl

/-! ### `setPort` -/

@[simp] theorem setPort_regs {x} : (s.setPort n x).regs = s.regs := rfl
@[simp] theorem setPort_stag {x} : (s.setPort n x).stag = s.stag := rfl
@[simp] theorem setPort_hdrs {x} : (s.setPort n x).hdrs = s.hdrs := rfl
@[simp] theorem setPort_dram {x} : (s.setPort n x).dram = s.dram := rfl
@[simp] theorem setPort_poison {x} : (s.setPort n x).poison = s.poison := rfl
@[simp] theorem setPort_now {x} : (s.setPort n x).now = s.now := rfl
@[simp] theorem setPort_free {x} : (s.setPort n x).free = s.free := rfl
@[simp] theorem setPort_sent {x} : (s.setPort n x).sent = s.sent := rfl
@[simp] theorem setPort_pace {x} : (s.setPort n x).pace = s.pace := rfl
@[simp] theorem setPort_asms {x} : (s.setPort n x).asms = s.asms := rfl
@[simp] theorem setPort_strms {x} : (s.setPort n x).strms = s.strms := rfl
@[simp] theorem setPort_benches {x} : (s.setPort n x).benches = s.benches := rfl
@[simp] theorem setPort_lutSlots {x} : (s.setPort n x).lutSlots = s.lutSlots := rfl
@[simp] theorem setPort_profiles {x} : (s.setPort n x).profiles = s.profiles := rfl
@[simp] theorem setPort_ctls {x} : (s.setPort n x).ctls = s.ctls := rfl
@[simp] theorem setPort_directs {x} : (s.setPort n x).directs = s.directs := rfl
@[simp] theorem setPort_zraws {x} : (s.setPort n x).zraws = s.zraws := rfl
@[simp] theorem setPort_stageIdx {x} : (s.setPort n x).stageIdx = s.stageIdx := rfl
@[simp] theorem setPort_encs {x} : (s.setPort n x).encs = s.encs := rfl
@[simp] theorem setPort_decs {x} : (s.setPort n x).decs = s.decs := rfl
@[simp] theorem setPort_pool {x} : (s.setPort n x).pool = s.pool := rfl
@[simp] theorem setPort_lays {x} : (s.setPort n x).lays = s.lays := rfl
@[simp] theorem setPort_heads {x} : (s.setPort n x).heads = s.heads := rfl
@[simp] theorem setPort_dpos {x} : (s.setPort n x).dpos = s.dpos := rfl
@[simp] theorem setPort_chks {x} : (s.setPort n x).chks = s.chks := rfl
@[simp] theorem setPort_nets {x} : (s.setPort n x).nets = s.nets := rfl
@[simp] theorem setPort_sess {x} : (s.setPort n x).sess = s.sess := rfl
@[simp] theorem setPort_flows {x} : (s.setPort n x).flows = s.flows := rfl
@[simp] theorem setPort_pkt {x} : (s.setPort n x).pkt = s.pkt := rfl
@[simp] theorem setPort_clocks {x} : (s.setPort n x).clocks = s.clocks := rfl
@[simp] theorem setPort_doms {x} : (s.setPort n x).doms = s.doms := rfl
@[simp] theorem setPort_ppsIn {x} : (s.setPort n x).ppsIn = s.ppsIn := rfl
@[simp] theorem setPort_ppsRise {x} : (s.setPort n x).ppsRise = s.ppsRise := rfl
@[simp] theorem setPort_auds {x} : (s.setPort n x).auds = s.auds := rfl
@[simp] theorem setPort_trigger {x} : (s.setPort n x).trigger = s.trigger := rfl
@[simp] theorem setPort_mem {x} : (s.setPort n x).mem = s.mem := rfl
@[simp] theorem setPort_thmTimers {x} : (s.setPort n x).thmTimers = s.thmTimers := rfl
@[simp] theorem setPort_sec {x} : (s.setPort n x).sec = s.sec := rfl
@[simp] theorem setPort_pins {x} : (s.setPort n x).pins = s.pins := rfl
@[simp] theorem setPort_sup {x} : (s.setPort n x).sup = s.sup := rfl
@[simp] theorem setPort_pending {x} : (s.setPort n x).pending = s.pending := rfl
@[simp] theorem setPort_word {x} : (s.setPort n x).word b m o = s.word b m o := rfl
@[simp] theorem setPort_wordS {x} : (s.setPort n x).wordS b m o = s.wordS b m o := rfl
@[simp] theorem setPort_hdr {x} : (s.setPort n x).hdr b m = s.hdr b m := rfl
@[simp] theorem setPort_get {x} : (s.setPort n x).get m f = s.get m f := rfl
@[simp] theorem setPort_getS {x} : (s.setPort n x).getS m f = s.getS m f := rfl
@[simp] theorem setPort_stateOf {x} : (s.setPort n x).stateOf b m = s.stateOf b m := rfl
@[simp] theorem setPort_enabled {x} : (s.setPort n x).enabled b m = s.enabled b m := rfl
@[simp] theorem setPort_flag {x} : (s.setPort n x).flag m f = s.flag m f := rfl

/-! ### `setAud` -/

@[simp] theorem setAud_regs {x} : (s.setAud n x).regs = s.regs := rfl
@[simp] theorem setAud_stag {x} : (s.setAud n x).stag = s.stag := rfl
@[simp] theorem setAud_hdrs {x} : (s.setAud n x).hdrs = s.hdrs := rfl
@[simp] theorem setAud_dram {x} : (s.setAud n x).dram = s.dram := rfl
@[simp] theorem setAud_poison {x} : (s.setAud n x).poison = s.poison := rfl
@[simp] theorem setAud_now {x} : (s.setAud n x).now = s.now := rfl
@[simp] theorem setAud_free {x} : (s.setAud n x).free = s.free := rfl
@[simp] theorem setAud_sent {x} : (s.setAud n x).sent = s.sent := rfl
@[simp] theorem setAud_pace {x} : (s.setAud n x).pace = s.pace := rfl
@[simp] theorem setAud_asms {x} : (s.setAud n x).asms = s.asms := rfl
@[simp] theorem setAud_strms {x} : (s.setAud n x).strms = s.strms := rfl
@[simp] theorem setAud_benches {x} : (s.setAud n x).benches = s.benches := rfl
@[simp] theorem setAud_lutSlots {x} : (s.setAud n x).lutSlots = s.lutSlots := rfl
@[simp] theorem setAud_profiles {x} : (s.setAud n x).profiles = s.profiles := rfl
@[simp] theorem setAud_ctls {x} : (s.setAud n x).ctls = s.ctls := rfl
@[simp] theorem setAud_directs {x} : (s.setAud n x).directs = s.directs := rfl
@[simp] theorem setAud_zraws {x} : (s.setAud n x).zraws = s.zraws := rfl
@[simp] theorem setAud_stageIdx {x} : (s.setAud n x).stageIdx = s.stageIdx := rfl
@[simp] theorem setAud_encs {x} : (s.setAud n x).encs = s.encs := rfl
@[simp] theorem setAud_decs {x} : (s.setAud n x).decs = s.decs := rfl
@[simp] theorem setAud_pool {x} : (s.setAud n x).pool = s.pool := rfl
@[simp] theorem setAud_lays {x} : (s.setAud n x).lays = s.lays := rfl
@[simp] theorem setAud_heads {x} : (s.setAud n x).heads = s.heads := rfl
@[simp] theorem setAud_dpos {x} : (s.setAud n x).dpos = s.dpos := rfl
@[simp] theorem setAud_chks {x} : (s.setAud n x).chks = s.chks := rfl
@[simp] theorem setAud_nets {x} : (s.setAud n x).nets = s.nets := rfl
@[simp] theorem setAud_sess {x} : (s.setAud n x).sess = s.sess := rfl
@[simp] theorem setAud_flows {x} : (s.setAud n x).flows = s.flows := rfl
@[simp] theorem setAud_pkt {x} : (s.setAud n x).pkt = s.pkt := rfl
@[simp] theorem setAud_clocks {x} : (s.setAud n x).clocks = s.clocks := rfl
@[simp] theorem setAud_doms {x} : (s.setAud n x).doms = s.doms := rfl
@[simp] theorem setAud_ppsIn {x} : (s.setAud n x).ppsIn = s.ppsIn := rfl
@[simp] theorem setAud_ppsRise {x} : (s.setAud n x).ppsRise = s.ppsRise := rfl
@[simp] theorem setAud_trigger {x} : (s.setAud n x).trigger = s.trigger := rfl
@[simp] theorem setAud_mem {x} : (s.setAud n x).mem = s.mem := rfl
@[simp] theorem setAud_ports {x} : (s.setAud n x).ports = s.ports := rfl
@[simp] theorem setAud_thmTimers {x} : (s.setAud n x).thmTimers = s.thmTimers := rfl
@[simp] theorem setAud_sec {x} : (s.setAud n x).sec = s.sec := rfl
@[simp] theorem setAud_pins {x} : (s.setAud n x).pins = s.pins := rfl
@[simp] theorem setAud_sup {x} : (s.setAud n x).sup = s.sup := rfl
@[simp] theorem setAud_pending {x} : (s.setAud n x).pending = s.pending := rfl
@[simp] theorem setAud_word {x} : (s.setAud n x).word b m o = s.word b m o := rfl
@[simp] theorem setAud_wordS {x} : (s.setAud n x).wordS b m o = s.wordS b m o := rfl
@[simp] theorem setAud_hdr {x} : (s.setAud n x).hdr b m = s.hdr b m := rfl
@[simp] theorem setAud_get {x} : (s.setAud n x).get m f = s.get m f := rfl
@[simp] theorem setAud_getS {x} : (s.setAud n x).getS m f = s.getS m f := rfl
@[simp] theorem setAud_stateOf {x} : (s.setAud n x).stateOf b m = s.stateOf b m := rfl
@[simp] theorem setAud_enabled {x} : (s.setAud n x).enabled b m = s.enabled b m := rfl
@[simp] theorem setAud_flag {x} : (s.setAud n x).flag m f = s.flag m f := rfl

/-! ### `setCtl` -/

@[simp] theorem setCtl_regs {x} : (s.setCtl n x).regs = s.regs := rfl
@[simp] theorem setCtl_stag {x} : (s.setCtl n x).stag = s.stag := rfl
@[simp] theorem setCtl_hdrs {x} : (s.setCtl n x).hdrs = s.hdrs := rfl
@[simp] theorem setCtl_dram {x} : (s.setCtl n x).dram = s.dram := rfl
@[simp] theorem setCtl_poison {x} : (s.setCtl n x).poison = s.poison := rfl
@[simp] theorem setCtl_now {x} : (s.setCtl n x).now = s.now := rfl
@[simp] theorem setCtl_free {x} : (s.setCtl n x).free = s.free := rfl
@[simp] theorem setCtl_sent {x} : (s.setCtl n x).sent = s.sent := rfl
@[simp] theorem setCtl_pace {x} : (s.setCtl n x).pace = s.pace := rfl
@[simp] theorem setCtl_asms {x} : (s.setCtl n x).asms = s.asms := rfl
@[simp] theorem setCtl_strms {x} : (s.setCtl n x).strms = s.strms := rfl
@[simp] theorem setCtl_benches {x} : (s.setCtl n x).benches = s.benches := rfl
@[simp] theorem setCtl_lutSlots {x} : (s.setCtl n x).lutSlots = s.lutSlots := rfl
@[simp] theorem setCtl_profiles {x} : (s.setCtl n x).profiles = s.profiles := rfl
@[simp] theorem setCtl_directs {x} : (s.setCtl n x).directs = s.directs := rfl
@[simp] theorem setCtl_zraws {x} : (s.setCtl n x).zraws = s.zraws := rfl
@[simp] theorem setCtl_stageIdx {x} : (s.setCtl n x).stageIdx = s.stageIdx := rfl
@[simp] theorem setCtl_encs {x} : (s.setCtl n x).encs = s.encs := rfl
@[simp] theorem setCtl_decs {x} : (s.setCtl n x).decs = s.decs := rfl
@[simp] theorem setCtl_pool {x} : (s.setCtl n x).pool = s.pool := rfl
@[simp] theorem setCtl_lays {x} : (s.setCtl n x).lays = s.lays := rfl
@[simp] theorem setCtl_heads {x} : (s.setCtl n x).heads = s.heads := rfl
@[simp] theorem setCtl_dpos {x} : (s.setCtl n x).dpos = s.dpos := rfl
@[simp] theorem setCtl_chks {x} : (s.setCtl n x).chks = s.chks := rfl
@[simp] theorem setCtl_nets {x} : (s.setCtl n x).nets = s.nets := rfl
@[simp] theorem setCtl_sess {x} : (s.setCtl n x).sess = s.sess := rfl
@[simp] theorem setCtl_flows {x} : (s.setCtl n x).flows = s.flows := rfl
@[simp] theorem setCtl_pkt {x} : (s.setCtl n x).pkt = s.pkt := rfl
@[simp] theorem setCtl_clocks {x} : (s.setCtl n x).clocks = s.clocks := rfl
@[simp] theorem setCtl_doms {x} : (s.setCtl n x).doms = s.doms := rfl
@[simp] theorem setCtl_ppsIn {x} : (s.setCtl n x).ppsIn = s.ppsIn := rfl
@[simp] theorem setCtl_ppsRise {x} : (s.setCtl n x).ppsRise = s.ppsRise := rfl
@[simp] theorem setCtl_auds {x} : (s.setCtl n x).auds = s.auds := rfl
@[simp] theorem setCtl_trigger {x} : (s.setCtl n x).trigger = s.trigger := rfl
@[simp] theorem setCtl_mem {x} : (s.setCtl n x).mem = s.mem := rfl
@[simp] theorem setCtl_ports {x} : (s.setCtl n x).ports = s.ports := rfl
@[simp] theorem setCtl_thmTimers {x} : (s.setCtl n x).thmTimers = s.thmTimers := rfl
@[simp] theorem setCtl_sec {x} : (s.setCtl n x).sec = s.sec := rfl
@[simp] theorem setCtl_pins {x} : (s.setCtl n x).pins = s.pins := rfl
@[simp] theorem setCtl_sup {x} : (s.setCtl n x).sup = s.sup := rfl
@[simp] theorem setCtl_pending {x} : (s.setCtl n x).pending = s.pending := rfl
@[simp] theorem setCtl_word {x} : (s.setCtl n x).word b m o = s.word b m o := rfl
@[simp] theorem setCtl_wordS {x} : (s.setCtl n x).wordS b m o = s.wordS b m o := rfl
@[simp] theorem setCtl_hdr {x} : (s.setCtl n x).hdr b m = s.hdr b m := rfl
@[simp] theorem setCtl_get {x} : (s.setCtl n x).get m f = s.get m f := rfl
@[simp] theorem setCtl_getS {x} : (s.setCtl n x).getS m f = s.getS m f := rfl
@[simp] theorem setCtl_stateOf {x} : (s.setCtl n x).stateOf b m = s.stateOf b m := rfl
@[simp] theorem setCtl_enabled {x} : (s.setCtl n x).enabled b m = s.enabled b m := rfl
@[simp] theorem setCtl_flag {x} : (s.setCtl n x).flag m f = s.flag m f := rfl

/-! ### `setChk` -/

@[simp] theorem setChk_regs {x} : (s.setChk n x).regs = s.regs := rfl
@[simp] theorem setChk_stag {x} : (s.setChk n x).stag = s.stag := rfl
@[simp] theorem setChk_hdrs {x} : (s.setChk n x).hdrs = s.hdrs := rfl
@[simp] theorem setChk_dram {x} : (s.setChk n x).dram = s.dram := rfl
@[simp] theorem setChk_poison {x} : (s.setChk n x).poison = s.poison := rfl
@[simp] theorem setChk_now {x} : (s.setChk n x).now = s.now := rfl
@[simp] theorem setChk_free {x} : (s.setChk n x).free = s.free := rfl
@[simp] theorem setChk_sent {x} : (s.setChk n x).sent = s.sent := rfl
@[simp] theorem setChk_pace {x} : (s.setChk n x).pace = s.pace := rfl
@[simp] theorem setChk_asms {x} : (s.setChk n x).asms = s.asms := rfl
@[simp] theorem setChk_strms {x} : (s.setChk n x).strms = s.strms := rfl
@[simp] theorem setChk_benches {x} : (s.setChk n x).benches = s.benches := rfl
@[simp] theorem setChk_lutSlots {x} : (s.setChk n x).lutSlots = s.lutSlots := rfl
@[simp] theorem setChk_profiles {x} : (s.setChk n x).profiles = s.profiles := rfl
@[simp] theorem setChk_ctls {x} : (s.setChk n x).ctls = s.ctls := rfl
@[simp] theorem setChk_directs {x} : (s.setChk n x).directs = s.directs := rfl
@[simp] theorem setChk_zraws {x} : (s.setChk n x).zraws = s.zraws := rfl
@[simp] theorem setChk_stageIdx {x} : (s.setChk n x).stageIdx = s.stageIdx := rfl
@[simp] theorem setChk_encs {x} : (s.setChk n x).encs = s.encs := rfl
@[simp] theorem setChk_decs {x} : (s.setChk n x).decs = s.decs := rfl
@[simp] theorem setChk_pool {x} : (s.setChk n x).pool = s.pool := rfl
@[simp] theorem setChk_lays {x} : (s.setChk n x).lays = s.lays := rfl
@[simp] theorem setChk_heads {x} : (s.setChk n x).heads = s.heads := rfl
@[simp] theorem setChk_dpos {x} : (s.setChk n x).dpos = s.dpos := rfl
@[simp] theorem setChk_nets {x} : (s.setChk n x).nets = s.nets := rfl
@[simp] theorem setChk_sess {x} : (s.setChk n x).sess = s.sess := rfl
@[simp] theorem setChk_flows {x} : (s.setChk n x).flows = s.flows := rfl
@[simp] theorem setChk_pkt {x} : (s.setChk n x).pkt = s.pkt := rfl
@[simp] theorem setChk_clocks {x} : (s.setChk n x).clocks = s.clocks := rfl
@[simp] theorem setChk_doms {x} : (s.setChk n x).doms = s.doms := rfl
@[simp] theorem setChk_ppsIn {x} : (s.setChk n x).ppsIn = s.ppsIn := rfl
@[simp] theorem setChk_ppsRise {x} : (s.setChk n x).ppsRise = s.ppsRise := rfl
@[simp] theorem setChk_auds {x} : (s.setChk n x).auds = s.auds := rfl
@[simp] theorem setChk_trigger {x} : (s.setChk n x).trigger = s.trigger := rfl
@[simp] theorem setChk_mem {x} : (s.setChk n x).mem = s.mem := rfl
@[simp] theorem setChk_ports {x} : (s.setChk n x).ports = s.ports := rfl
@[simp] theorem setChk_thmTimers {x} : (s.setChk n x).thmTimers = s.thmTimers := rfl
@[simp] theorem setChk_sec {x} : (s.setChk n x).sec = s.sec := rfl
@[simp] theorem setChk_pins {x} : (s.setChk n x).pins = s.pins := rfl
@[simp] theorem setChk_sup {x} : (s.setChk n x).sup = s.sup := rfl
@[simp] theorem setChk_pending {x} : (s.setChk n x).pending = s.pending := rfl
@[simp] theorem setChk_word {x} : (s.setChk n x).word b m o = s.word b m o := rfl
@[simp] theorem setChk_wordS {x} : (s.setChk n x).wordS b m o = s.wordS b m o := rfl
@[simp] theorem setChk_hdr {x} : (s.setChk n x).hdr b m = s.hdr b m := rfl
@[simp] theorem setChk_get {x} : (s.setChk n x).get m f = s.get m f := rfl
@[simp] theorem setChk_getS {x} : (s.setChk n x).getS m f = s.getS m f := rfl
@[simp] theorem setChk_stateOf {x} : (s.setChk n x).stateOf b m = s.stateOf b m := rfl
@[simp] theorem setChk_enabled {x} : (s.setChk n x).enabled b m = s.enabled b m := rfl
@[simp] theorem setChk_flag {x} : (s.setChk n x).flag m f = s.flag m f := rfl

/-! ### `setClk` -/

@[simp] theorem setClk_regs {x} : (s.setClk n x).regs = s.regs := rfl
@[simp] theorem setClk_stag {x} : (s.setClk n x).stag = s.stag := rfl
@[simp] theorem setClk_hdrs {x} : (s.setClk n x).hdrs = s.hdrs := rfl
@[simp] theorem setClk_dram {x} : (s.setClk n x).dram = s.dram := rfl
@[simp] theorem setClk_poison {x} : (s.setClk n x).poison = s.poison := rfl
@[simp] theorem setClk_now {x} : (s.setClk n x).now = s.now := rfl
@[simp] theorem setClk_free {x} : (s.setClk n x).free = s.free := rfl
@[simp] theorem setClk_sent {x} : (s.setClk n x).sent = s.sent := rfl
@[simp] theorem setClk_pace {x} : (s.setClk n x).pace = s.pace := rfl
@[simp] theorem setClk_asms {x} : (s.setClk n x).asms = s.asms := rfl
@[simp] theorem setClk_strms {x} : (s.setClk n x).strms = s.strms := rfl
@[simp] theorem setClk_benches {x} : (s.setClk n x).benches = s.benches := rfl
@[simp] theorem setClk_lutSlots {x} : (s.setClk n x).lutSlots = s.lutSlots := rfl
@[simp] theorem setClk_profiles {x} : (s.setClk n x).profiles = s.profiles := rfl
@[simp] theorem setClk_ctls {x} : (s.setClk n x).ctls = s.ctls := rfl
@[simp] theorem setClk_directs {x} : (s.setClk n x).directs = s.directs := rfl
@[simp] theorem setClk_zraws {x} : (s.setClk n x).zraws = s.zraws := rfl
@[simp] theorem setClk_stageIdx {x} : (s.setClk n x).stageIdx = s.stageIdx := rfl
@[simp] theorem setClk_encs {x} : (s.setClk n x).encs = s.encs := rfl
@[simp] theorem setClk_decs {x} : (s.setClk n x).decs = s.decs := rfl
@[simp] theorem setClk_pool {x} : (s.setClk n x).pool = s.pool := rfl
@[simp] theorem setClk_lays {x} : (s.setClk n x).lays = s.lays := rfl
@[simp] theorem setClk_heads {x} : (s.setClk n x).heads = s.heads := rfl
@[simp] theorem setClk_dpos {x} : (s.setClk n x).dpos = s.dpos := rfl
@[simp] theorem setClk_chks {x} : (s.setClk n x).chks = s.chks := rfl
@[simp] theorem setClk_nets {x} : (s.setClk n x).nets = s.nets := rfl
@[simp] theorem setClk_sess {x} : (s.setClk n x).sess = s.sess := rfl
@[simp] theorem setClk_flows {x} : (s.setClk n x).flows = s.flows := rfl
@[simp] theorem setClk_pkt {x} : (s.setClk n x).pkt = s.pkt := rfl
@[simp] theorem setClk_doms {x} : (s.setClk n x).doms = s.doms := rfl
@[simp] theorem setClk_ppsIn {x} : (s.setClk n x).ppsIn = s.ppsIn := rfl
@[simp] theorem setClk_ppsRise {x} : (s.setClk n x).ppsRise = s.ppsRise := rfl
@[simp] theorem setClk_auds {x} : (s.setClk n x).auds = s.auds := rfl
@[simp] theorem setClk_trigger {x} : (s.setClk n x).trigger = s.trigger := rfl
@[simp] theorem setClk_mem {x} : (s.setClk n x).mem = s.mem := rfl
@[simp] theorem setClk_ports {x} : (s.setClk n x).ports = s.ports := rfl
@[simp] theorem setClk_thmTimers {x} : (s.setClk n x).thmTimers = s.thmTimers := rfl
@[simp] theorem setClk_sec {x} : (s.setClk n x).sec = s.sec := rfl
@[simp] theorem setClk_pins {x} : (s.setClk n x).pins = s.pins := rfl
@[simp] theorem setClk_sup {x} : (s.setClk n x).sup = s.sup := rfl
@[simp] theorem setClk_pending {x} : (s.setClk n x).pending = s.pending := rfl
@[simp] theorem setClk_word {x} : (s.setClk n x).word b m o = s.word b m o := rfl
@[simp] theorem setClk_wordS {x} : (s.setClk n x).wordS b m o = s.wordS b m o := rfl
@[simp] theorem setClk_hdr {x} : (s.setClk n x).hdr b m = s.hdr b m := rfl
@[simp] theorem setClk_get {x} : (s.setClk n x).get m f = s.get m f := rfl
@[simp] theorem setClk_getS {x} : (s.setClk n x).getS m f = s.getS m f := rfl
@[simp] theorem setClk_stateOf {x} : (s.setClk n x).stateOf b m = s.stateOf b m := rfl
@[simp] theorem setClk_enabled {x} : (s.setClk n x).enabled b m = s.enabled b m := rfl
@[simp] theorem setClk_flag {x} : (s.setClk n x).flag m f = s.flag m f := rfl

/-! ### `setLay` -/

@[simp] theorem setLay_regs {x} : (s.setLay n x).regs = s.regs := rfl
@[simp] theorem setLay_stag {x} : (s.setLay n x).stag = s.stag := rfl
@[simp] theorem setLay_hdrs {x} : (s.setLay n x).hdrs = s.hdrs := rfl
@[simp] theorem setLay_dram {x} : (s.setLay n x).dram = s.dram := rfl
@[simp] theorem setLay_poison {x} : (s.setLay n x).poison = s.poison := rfl
@[simp] theorem setLay_now {x} : (s.setLay n x).now = s.now := rfl
@[simp] theorem setLay_free {x} : (s.setLay n x).free = s.free := rfl
@[simp] theorem setLay_sent {x} : (s.setLay n x).sent = s.sent := rfl
@[simp] theorem setLay_pace {x} : (s.setLay n x).pace = s.pace := rfl
@[simp] theorem setLay_asms {x} : (s.setLay n x).asms = s.asms := rfl
@[simp] theorem setLay_strms {x} : (s.setLay n x).strms = s.strms := rfl
@[simp] theorem setLay_benches {x} : (s.setLay n x).benches = s.benches := rfl
@[simp] theorem setLay_lutSlots {x} : (s.setLay n x).lutSlots = s.lutSlots := rfl
@[simp] theorem setLay_profiles {x} : (s.setLay n x).profiles = s.profiles := rfl
@[simp] theorem setLay_ctls {x} : (s.setLay n x).ctls = s.ctls := rfl
@[simp] theorem setLay_directs {x} : (s.setLay n x).directs = s.directs := rfl
@[simp] theorem setLay_zraws {x} : (s.setLay n x).zraws = s.zraws := rfl
@[simp] theorem setLay_stageIdx {x} : (s.setLay n x).stageIdx = s.stageIdx := rfl
@[simp] theorem setLay_encs {x} : (s.setLay n x).encs = s.encs := rfl
@[simp] theorem setLay_decs {x} : (s.setLay n x).decs = s.decs := rfl
@[simp] theorem setLay_pool {x} : (s.setLay n x).pool = s.pool := rfl
@[simp] theorem setLay_heads {x} : (s.setLay n x).heads = s.heads := rfl
@[simp] theorem setLay_dpos {x} : (s.setLay n x).dpos = s.dpos := rfl
@[simp] theorem setLay_chks {x} : (s.setLay n x).chks = s.chks := rfl
@[simp] theorem setLay_nets {x} : (s.setLay n x).nets = s.nets := rfl
@[simp] theorem setLay_sess {x} : (s.setLay n x).sess = s.sess := rfl
@[simp] theorem setLay_flows {x} : (s.setLay n x).flows = s.flows := rfl
@[simp] theorem setLay_pkt {x} : (s.setLay n x).pkt = s.pkt := rfl
@[simp] theorem setLay_clocks {x} : (s.setLay n x).clocks = s.clocks := rfl
@[simp] theorem setLay_doms {x} : (s.setLay n x).doms = s.doms := rfl
@[simp] theorem setLay_ppsIn {x} : (s.setLay n x).ppsIn = s.ppsIn := rfl
@[simp] theorem setLay_ppsRise {x} : (s.setLay n x).ppsRise = s.ppsRise := rfl
@[simp] theorem setLay_auds {x} : (s.setLay n x).auds = s.auds := rfl
@[simp] theorem setLay_trigger {x} : (s.setLay n x).trigger = s.trigger := rfl
@[simp] theorem setLay_mem {x} : (s.setLay n x).mem = s.mem := rfl
@[simp] theorem setLay_ports {x} : (s.setLay n x).ports = s.ports := rfl
@[simp] theorem setLay_thmTimers {x} : (s.setLay n x).thmTimers = s.thmTimers := rfl
@[simp] theorem setLay_sec {x} : (s.setLay n x).sec = s.sec := rfl
@[simp] theorem setLay_pins {x} : (s.setLay n x).pins = s.pins := rfl
@[simp] theorem setLay_sup {x} : (s.setLay n x).sup = s.sup := rfl
@[simp] theorem setLay_pending {x} : (s.setLay n x).pending = s.pending := rfl
@[simp] theorem setLay_word {x} : (s.setLay n x).word b m o = s.word b m o := rfl
@[simp] theorem setLay_wordS {x} : (s.setLay n x).wordS b m o = s.wordS b m o := rfl
@[simp] theorem setLay_hdr {x} : (s.setLay n x).hdr b m = s.hdr b m := rfl
@[simp] theorem setLay_get {x} : (s.setLay n x).get m f = s.get m f := rfl
@[simp] theorem setLay_getS {x} : (s.setLay n x).getS m f = s.getS m f := rfl
@[simp] theorem setLay_stateOf {x} : (s.setLay n x).stateOf b m = s.stateOf b m := rfl
@[simp] theorem setLay_enabled {x} : (s.setLay n x).enabled b m = s.enabled b m := rfl
@[simp] theorem setLay_flag {x} : (s.setLay n x).flag m f = s.flag m f := rfl

/-! ### `setHead` -/

@[simp] theorem setHead_regs {x} : (s.setHead n x).regs = s.regs := rfl
@[simp] theorem setHead_stag {x} : (s.setHead n x).stag = s.stag := rfl
@[simp] theorem setHead_hdrs {x} : (s.setHead n x).hdrs = s.hdrs := rfl
@[simp] theorem setHead_dram {x} : (s.setHead n x).dram = s.dram := rfl
@[simp] theorem setHead_poison {x} : (s.setHead n x).poison = s.poison := rfl
@[simp] theorem setHead_now {x} : (s.setHead n x).now = s.now := rfl
@[simp] theorem setHead_free {x} : (s.setHead n x).free = s.free := rfl
@[simp] theorem setHead_sent {x} : (s.setHead n x).sent = s.sent := rfl
@[simp] theorem setHead_pace {x} : (s.setHead n x).pace = s.pace := rfl
@[simp] theorem setHead_asms {x} : (s.setHead n x).asms = s.asms := rfl
@[simp] theorem setHead_strms {x} : (s.setHead n x).strms = s.strms := rfl
@[simp] theorem setHead_benches {x} : (s.setHead n x).benches = s.benches := rfl
@[simp] theorem setHead_lutSlots {x} : (s.setHead n x).lutSlots = s.lutSlots := rfl
@[simp] theorem setHead_profiles {x} : (s.setHead n x).profiles = s.profiles := rfl
@[simp] theorem setHead_ctls {x} : (s.setHead n x).ctls = s.ctls := rfl
@[simp] theorem setHead_directs {x} : (s.setHead n x).directs = s.directs := rfl
@[simp] theorem setHead_zraws {x} : (s.setHead n x).zraws = s.zraws := rfl
@[simp] theorem setHead_stageIdx {x} : (s.setHead n x).stageIdx = s.stageIdx := rfl
@[simp] theorem setHead_encs {x} : (s.setHead n x).encs = s.encs := rfl
@[simp] theorem setHead_decs {x} : (s.setHead n x).decs = s.decs := rfl
@[simp] theorem setHead_pool {x} : (s.setHead n x).pool = s.pool := rfl
@[simp] theorem setHead_lays {x} : (s.setHead n x).lays = s.lays := rfl
@[simp] theorem setHead_dpos {x} : (s.setHead n x).dpos = s.dpos := rfl
@[simp] theorem setHead_chks {x} : (s.setHead n x).chks = s.chks := rfl
@[simp] theorem setHead_nets {x} : (s.setHead n x).nets = s.nets := rfl
@[simp] theorem setHead_sess {x} : (s.setHead n x).sess = s.sess := rfl
@[simp] theorem setHead_flows {x} : (s.setHead n x).flows = s.flows := rfl
@[simp] theorem setHead_pkt {x} : (s.setHead n x).pkt = s.pkt := rfl
@[simp] theorem setHead_clocks {x} : (s.setHead n x).clocks = s.clocks := rfl
@[simp] theorem setHead_doms {x} : (s.setHead n x).doms = s.doms := rfl
@[simp] theorem setHead_ppsIn {x} : (s.setHead n x).ppsIn = s.ppsIn := rfl
@[simp] theorem setHead_ppsRise {x} : (s.setHead n x).ppsRise = s.ppsRise := rfl
@[simp] theorem setHead_auds {x} : (s.setHead n x).auds = s.auds := rfl
@[simp] theorem setHead_trigger {x} : (s.setHead n x).trigger = s.trigger := rfl
@[simp] theorem setHead_mem {x} : (s.setHead n x).mem = s.mem := rfl
@[simp] theorem setHead_ports {x} : (s.setHead n x).ports = s.ports := rfl
@[simp] theorem setHead_thmTimers {x} : (s.setHead n x).thmTimers = s.thmTimers := rfl
@[simp] theorem setHead_sec {x} : (s.setHead n x).sec = s.sec := rfl
@[simp] theorem setHead_pins {x} : (s.setHead n x).pins = s.pins := rfl
@[simp] theorem setHead_sup {x} : (s.setHead n x).sup = s.sup := rfl
@[simp] theorem setHead_pending {x} : (s.setHead n x).pending = s.pending := rfl
@[simp] theorem setHead_word {x} : (s.setHead n x).word b m o = s.word b m o := rfl
@[simp] theorem setHead_wordS {x} : (s.setHead n x).wordS b m o = s.wordS b m o := rfl
@[simp] theorem setHead_hdr {x} : (s.setHead n x).hdr b m = s.hdr b m := rfl
@[simp] theorem setHead_get {x} : (s.setHead n x).get m f = s.get m f := rfl
@[simp] theorem setHead_getS {x} : (s.setHead n x).getS m f = s.getS m f := rfl
@[simp] theorem setHead_stateOf {x} : (s.setHead n x).stateOf b m = s.stateOf b m := rfl
@[simp] theorem setHead_enabled {x} : (s.setHead n x).enabled b m = s.enabled b m := rfl
@[simp] theorem setHead_flag {x} : (s.setHead n x).flag m f = s.flag m f := rfl

/-! ### `setDec` -/

@[simp] theorem setDec_regs {x} : (s.setDec n x).regs = s.regs := rfl
@[simp] theorem setDec_stag {x} : (s.setDec n x).stag = s.stag := rfl
@[simp] theorem setDec_hdrs {x} : (s.setDec n x).hdrs = s.hdrs := rfl
@[simp] theorem setDec_dram {x} : (s.setDec n x).dram = s.dram := rfl
@[simp] theorem setDec_poison {x} : (s.setDec n x).poison = s.poison := rfl
@[simp] theorem setDec_now {x} : (s.setDec n x).now = s.now := rfl
@[simp] theorem setDec_free {x} : (s.setDec n x).free = s.free := rfl
@[simp] theorem setDec_sent {x} : (s.setDec n x).sent = s.sent := rfl
@[simp] theorem setDec_pace {x} : (s.setDec n x).pace = s.pace := rfl
@[simp] theorem setDec_asms {x} : (s.setDec n x).asms = s.asms := rfl
@[simp] theorem setDec_strms {x} : (s.setDec n x).strms = s.strms := rfl
@[simp] theorem setDec_benches {x} : (s.setDec n x).benches = s.benches := rfl
@[simp] theorem setDec_lutSlots {x} : (s.setDec n x).lutSlots = s.lutSlots := rfl
@[simp] theorem setDec_profiles {x} : (s.setDec n x).profiles = s.profiles := rfl
@[simp] theorem setDec_ctls {x} : (s.setDec n x).ctls = s.ctls := rfl
@[simp] theorem setDec_directs {x} : (s.setDec n x).directs = s.directs := rfl
@[simp] theorem setDec_zraws {x} : (s.setDec n x).zraws = s.zraws := rfl
@[simp] theorem setDec_stageIdx {x} : (s.setDec n x).stageIdx = s.stageIdx := rfl
@[simp] theorem setDec_encs {x} : (s.setDec n x).encs = s.encs := rfl
@[simp] theorem setDec_pool {x} : (s.setDec n x).pool = s.pool := rfl
@[simp] theorem setDec_lays {x} : (s.setDec n x).lays = s.lays := rfl
@[simp] theorem setDec_heads {x} : (s.setDec n x).heads = s.heads := rfl
@[simp] theorem setDec_dpos {x} : (s.setDec n x).dpos = s.dpos := rfl
@[simp] theorem setDec_chks {x} : (s.setDec n x).chks = s.chks := rfl
@[simp] theorem setDec_nets {x} : (s.setDec n x).nets = s.nets := rfl
@[simp] theorem setDec_sess {x} : (s.setDec n x).sess = s.sess := rfl
@[simp] theorem setDec_flows {x} : (s.setDec n x).flows = s.flows := rfl
@[simp] theorem setDec_pkt {x} : (s.setDec n x).pkt = s.pkt := rfl
@[simp] theorem setDec_clocks {x} : (s.setDec n x).clocks = s.clocks := rfl
@[simp] theorem setDec_doms {x} : (s.setDec n x).doms = s.doms := rfl
@[simp] theorem setDec_ppsIn {x} : (s.setDec n x).ppsIn = s.ppsIn := rfl
@[simp] theorem setDec_ppsRise {x} : (s.setDec n x).ppsRise = s.ppsRise := rfl
@[simp] theorem setDec_auds {x} : (s.setDec n x).auds = s.auds := rfl
@[simp] theorem setDec_trigger {x} : (s.setDec n x).trigger = s.trigger := rfl
@[simp] theorem setDec_mem {x} : (s.setDec n x).mem = s.mem := rfl
@[simp] theorem setDec_ports {x} : (s.setDec n x).ports = s.ports := rfl
@[simp] theorem setDec_thmTimers {x} : (s.setDec n x).thmTimers = s.thmTimers := rfl
@[simp] theorem setDec_sec {x} : (s.setDec n x).sec = s.sec := rfl
@[simp] theorem setDec_pins {x} : (s.setDec n x).pins = s.pins := rfl
@[simp] theorem setDec_sup {x} : (s.setDec n x).sup = s.sup := rfl
@[simp] theorem setDec_pending {x} : (s.setDec n x).pending = s.pending := rfl
@[simp] theorem setDec_word {x} : (s.setDec n x).word b m o = s.word b m o := rfl
@[simp] theorem setDec_wordS {x} : (s.setDec n x).wordS b m o = s.wordS b m o := rfl
@[simp] theorem setDec_hdr {x} : (s.setDec n x).hdr b m = s.hdr b m := rfl
@[simp] theorem setDec_get {x} : (s.setDec n x).get m f = s.get m f := rfl
@[simp] theorem setDec_getS {x} : (s.setDec n x).getS m f = s.getS m f := rfl
@[simp] theorem setDec_stateOf {x} : (s.setDec n x).stateOf b m = s.stateOf b m := rfl
@[simp] theorem setDec_enabled {x} : (s.setDec n x).enabled b m = s.enabled b m := rfl
@[simp] theorem setDec_flag {x} : (s.setDec n x).flag m f = s.flag m f := rfl

/-! ### `setEnc` -/

@[simp] theorem setEnc_regs {x} : (s.setEnc n x).regs = s.regs := rfl
@[simp] theorem setEnc_stag {x} : (s.setEnc n x).stag = s.stag := rfl
@[simp] theorem setEnc_hdrs {x} : (s.setEnc n x).hdrs = s.hdrs := rfl
@[simp] theorem setEnc_dram {x} : (s.setEnc n x).dram = s.dram := rfl
@[simp] theorem setEnc_poison {x} : (s.setEnc n x).poison = s.poison := rfl
@[simp] theorem setEnc_now {x} : (s.setEnc n x).now = s.now := rfl
@[simp] theorem setEnc_free {x} : (s.setEnc n x).free = s.free := rfl
@[simp] theorem setEnc_sent {x} : (s.setEnc n x).sent = s.sent := rfl
@[simp] theorem setEnc_pace {x} : (s.setEnc n x).pace = s.pace := rfl
@[simp] theorem setEnc_asms {x} : (s.setEnc n x).asms = s.asms := rfl
@[simp] theorem setEnc_strms {x} : (s.setEnc n x).strms = s.strms := rfl
@[simp] theorem setEnc_benches {x} : (s.setEnc n x).benches = s.benches := rfl
@[simp] theorem setEnc_lutSlots {x} : (s.setEnc n x).lutSlots = s.lutSlots := rfl
@[simp] theorem setEnc_profiles {x} : (s.setEnc n x).profiles = s.profiles := rfl
@[simp] theorem setEnc_ctls {x} : (s.setEnc n x).ctls = s.ctls := rfl
@[simp] theorem setEnc_directs {x} : (s.setEnc n x).directs = s.directs := rfl
@[simp] theorem setEnc_zraws {x} : (s.setEnc n x).zraws = s.zraws := rfl
@[simp] theorem setEnc_stageIdx {x} : (s.setEnc n x).stageIdx = s.stageIdx := rfl
@[simp] theorem setEnc_decs {x} : (s.setEnc n x).decs = s.decs := rfl
@[simp] theorem setEnc_pool {x} : (s.setEnc n x).pool = s.pool := rfl
@[simp] theorem setEnc_lays {x} : (s.setEnc n x).lays = s.lays := rfl
@[simp] theorem setEnc_heads {x} : (s.setEnc n x).heads = s.heads := rfl
@[simp] theorem setEnc_dpos {x} : (s.setEnc n x).dpos = s.dpos := rfl
@[simp] theorem setEnc_chks {x} : (s.setEnc n x).chks = s.chks := rfl
@[simp] theorem setEnc_nets {x} : (s.setEnc n x).nets = s.nets := rfl
@[simp] theorem setEnc_sess {x} : (s.setEnc n x).sess = s.sess := rfl
@[simp] theorem setEnc_flows {x} : (s.setEnc n x).flows = s.flows := rfl
@[simp] theorem setEnc_pkt {x} : (s.setEnc n x).pkt = s.pkt := rfl
@[simp] theorem setEnc_clocks {x} : (s.setEnc n x).clocks = s.clocks := rfl
@[simp] theorem setEnc_doms {x} : (s.setEnc n x).doms = s.doms := rfl
@[simp] theorem setEnc_ppsIn {x} : (s.setEnc n x).ppsIn = s.ppsIn := rfl
@[simp] theorem setEnc_ppsRise {x} : (s.setEnc n x).ppsRise = s.ppsRise := rfl
@[simp] theorem setEnc_auds {x} : (s.setEnc n x).auds = s.auds := rfl
@[simp] theorem setEnc_trigger {x} : (s.setEnc n x).trigger = s.trigger := rfl
@[simp] theorem setEnc_mem {x} : (s.setEnc n x).mem = s.mem := rfl
@[simp] theorem setEnc_ports {x} : (s.setEnc n x).ports = s.ports := rfl
@[simp] theorem setEnc_thmTimers {x} : (s.setEnc n x).thmTimers = s.thmTimers := rfl
@[simp] theorem setEnc_sec {x} : (s.setEnc n x).sec = s.sec := rfl
@[simp] theorem setEnc_pins {x} : (s.setEnc n x).pins = s.pins := rfl
@[simp] theorem setEnc_sup {x} : (s.setEnc n x).sup = s.sup := rfl
@[simp] theorem setEnc_pending {x} : (s.setEnc n x).pending = s.pending := rfl
@[simp] theorem setEnc_word {x} : (s.setEnc n x).word b m o = s.word b m o := rfl
@[simp] theorem setEnc_wordS {x} : (s.setEnc n x).wordS b m o = s.wordS b m o := rfl
@[simp] theorem setEnc_hdr {x} : (s.setEnc n x).hdr b m = s.hdr b m := rfl
@[simp] theorem setEnc_get {x} : (s.setEnc n x).get m f = s.get m f := rfl
@[simp] theorem setEnc_getS {x} : (s.setEnc n x).getS m f = s.getS m f := rfl
@[simp] theorem setEnc_stateOf {x} : (s.setEnc n x).stateOf b m = s.stateOf b m := rfl
@[simp] theorem setEnc_enabled {x} : (s.setEnc n x).enabled b m = s.enabled b m := rfl
@[simp] theorem setEnc_flag {x} : (s.setEnc n x).flag m f = s.flag m f := rfl

/-! ### `setDirect` -/

@[simp] theorem setDirect_regs {x} : (s.setDirect n x).regs = s.regs := rfl
@[simp] theorem setDirect_stag {x} : (s.setDirect n x).stag = s.stag := rfl
@[simp] theorem setDirect_hdrs {x} : (s.setDirect n x).hdrs = s.hdrs := rfl
@[simp] theorem setDirect_dram {x} : (s.setDirect n x).dram = s.dram := rfl
@[simp] theorem setDirect_poison {x} : (s.setDirect n x).poison = s.poison := rfl
@[simp] theorem setDirect_now {x} : (s.setDirect n x).now = s.now := rfl
@[simp] theorem setDirect_free {x} : (s.setDirect n x).free = s.free := rfl
@[simp] theorem setDirect_sent {x} : (s.setDirect n x).sent = s.sent := rfl
@[simp] theorem setDirect_pace {x} : (s.setDirect n x).pace = s.pace := rfl
@[simp] theorem setDirect_asms {x} : (s.setDirect n x).asms = s.asms := rfl
@[simp] theorem setDirect_strms {x} : (s.setDirect n x).strms = s.strms := rfl
@[simp] theorem setDirect_benches {x} : (s.setDirect n x).benches = s.benches := rfl
@[simp] theorem setDirect_lutSlots {x} : (s.setDirect n x).lutSlots = s.lutSlots := rfl
@[simp] theorem setDirect_profiles {x} : (s.setDirect n x).profiles = s.profiles := rfl
@[simp] theorem setDirect_ctls {x} : (s.setDirect n x).ctls = s.ctls := rfl
@[simp] theorem setDirect_zraws {x} : (s.setDirect n x).zraws = s.zraws := rfl
@[simp] theorem setDirect_stageIdx {x} : (s.setDirect n x).stageIdx = s.stageIdx := rfl
@[simp] theorem setDirect_encs {x} : (s.setDirect n x).encs = s.encs := rfl
@[simp] theorem setDirect_decs {x} : (s.setDirect n x).decs = s.decs := rfl
@[simp] theorem setDirect_pool {x} : (s.setDirect n x).pool = s.pool := rfl
@[simp] theorem setDirect_lays {x} : (s.setDirect n x).lays = s.lays := rfl
@[simp] theorem setDirect_heads {x} : (s.setDirect n x).heads = s.heads := rfl
@[simp] theorem setDirect_dpos {x} : (s.setDirect n x).dpos = s.dpos := rfl
@[simp] theorem setDirect_chks {x} : (s.setDirect n x).chks = s.chks := rfl
@[simp] theorem setDirect_nets {x} : (s.setDirect n x).nets = s.nets := rfl
@[simp] theorem setDirect_sess {x} : (s.setDirect n x).sess = s.sess := rfl
@[simp] theorem setDirect_flows {x} : (s.setDirect n x).flows = s.flows := rfl
@[simp] theorem setDirect_pkt {x} : (s.setDirect n x).pkt = s.pkt := rfl
@[simp] theorem setDirect_clocks {x} : (s.setDirect n x).clocks = s.clocks := rfl
@[simp] theorem setDirect_doms {x} : (s.setDirect n x).doms = s.doms := rfl
@[simp] theorem setDirect_ppsIn {x} : (s.setDirect n x).ppsIn = s.ppsIn := rfl
@[simp] theorem setDirect_ppsRise {x} : (s.setDirect n x).ppsRise = s.ppsRise := rfl
@[simp] theorem setDirect_auds {x} : (s.setDirect n x).auds = s.auds := rfl
@[simp] theorem setDirect_trigger {x} : (s.setDirect n x).trigger = s.trigger := rfl
@[simp] theorem setDirect_mem {x} : (s.setDirect n x).mem = s.mem := rfl
@[simp] theorem setDirect_ports {x} : (s.setDirect n x).ports = s.ports := rfl
@[simp] theorem setDirect_thmTimers {x} : (s.setDirect n x).thmTimers = s.thmTimers := rfl
@[simp] theorem setDirect_sec {x} : (s.setDirect n x).sec = s.sec := rfl
@[simp] theorem setDirect_pins {x} : (s.setDirect n x).pins = s.pins := rfl
@[simp] theorem setDirect_sup {x} : (s.setDirect n x).sup = s.sup := rfl
@[simp] theorem setDirect_pending {x} : (s.setDirect n x).pending = s.pending := rfl
@[simp] theorem setDirect_word {x} : (s.setDirect n x).word b m o = s.word b m o := rfl
@[simp] theorem setDirect_wordS {x} : (s.setDirect n x).wordS b m o = s.wordS b m o := rfl
@[simp] theorem setDirect_hdr {x} : (s.setDirect n x).hdr b m = s.hdr b m := rfl
@[simp] theorem setDirect_get {x} : (s.setDirect n x).get m f = s.get m f := rfl
@[simp] theorem setDirect_getS {x} : (s.setDirect n x).getS m f = s.getS m f := rfl
@[simp] theorem setDirect_stateOf {x} : (s.setDirect n x).stateOf b m = s.stateOf b m := rfl
@[simp] theorem setDirect_enabled {x} : (s.setDirect n x).enabled b m = s.enabled b m := rfl
@[simp] theorem setDirect_flag {x} : (s.setDirect n x).flag m f = s.flag m f := rfl

/-! ### `setFlow` -/

@[simp] theorem setFlow_regs {x} : (s.setFlow n x).regs = s.regs := rfl
@[simp] theorem setFlow_stag {x} : (s.setFlow n x).stag = s.stag := rfl
@[simp] theorem setFlow_hdrs {x} : (s.setFlow n x).hdrs = s.hdrs := rfl
@[simp] theorem setFlow_dram {x} : (s.setFlow n x).dram = s.dram := rfl
@[simp] theorem setFlow_poison {x} : (s.setFlow n x).poison = s.poison := rfl
@[simp] theorem setFlow_now {x} : (s.setFlow n x).now = s.now := rfl
@[simp] theorem setFlow_free {x} : (s.setFlow n x).free = s.free := rfl
@[simp] theorem setFlow_sent {x} : (s.setFlow n x).sent = s.sent := rfl
@[simp] theorem setFlow_pace {x} : (s.setFlow n x).pace = s.pace := rfl
@[simp] theorem setFlow_asms {x} : (s.setFlow n x).asms = s.asms := rfl
@[simp] theorem setFlow_strms {x} : (s.setFlow n x).strms = s.strms := rfl
@[simp] theorem setFlow_benches {x} : (s.setFlow n x).benches = s.benches := rfl
@[simp] theorem setFlow_lutSlots {x} : (s.setFlow n x).lutSlots = s.lutSlots := rfl
@[simp] theorem setFlow_profiles {x} : (s.setFlow n x).profiles = s.profiles := rfl
@[simp] theorem setFlow_ctls {x} : (s.setFlow n x).ctls = s.ctls := rfl
@[simp] theorem setFlow_directs {x} : (s.setFlow n x).directs = s.directs := rfl
@[simp] theorem setFlow_zraws {x} : (s.setFlow n x).zraws = s.zraws := rfl
@[simp] theorem setFlow_stageIdx {x} : (s.setFlow n x).stageIdx = s.stageIdx := rfl
@[simp] theorem setFlow_encs {x} : (s.setFlow n x).encs = s.encs := rfl
@[simp] theorem setFlow_decs {x} : (s.setFlow n x).decs = s.decs := rfl
@[simp] theorem setFlow_pool {x} : (s.setFlow n x).pool = s.pool := rfl
@[simp] theorem setFlow_lays {x} : (s.setFlow n x).lays = s.lays := rfl
@[simp] theorem setFlow_heads {x} : (s.setFlow n x).heads = s.heads := rfl
@[simp] theorem setFlow_dpos {x} : (s.setFlow n x).dpos = s.dpos := rfl
@[simp] theorem setFlow_chks {x} : (s.setFlow n x).chks = s.chks := rfl
@[simp] theorem setFlow_nets {x} : (s.setFlow n x).nets = s.nets := rfl
@[simp] theorem setFlow_sess {x} : (s.setFlow n x).sess = s.sess := rfl
@[simp] theorem setFlow_pkt {x} : (s.setFlow n x).pkt = s.pkt := rfl
@[simp] theorem setFlow_clocks {x} : (s.setFlow n x).clocks = s.clocks := rfl
@[simp] theorem setFlow_doms {x} : (s.setFlow n x).doms = s.doms := rfl
@[simp] theorem setFlow_ppsIn {x} : (s.setFlow n x).ppsIn = s.ppsIn := rfl
@[simp] theorem setFlow_ppsRise {x} : (s.setFlow n x).ppsRise = s.ppsRise := rfl
@[simp] theorem setFlow_auds {x} : (s.setFlow n x).auds = s.auds := rfl
@[simp] theorem setFlow_trigger {x} : (s.setFlow n x).trigger = s.trigger := rfl
@[simp] theorem setFlow_mem {x} : (s.setFlow n x).mem = s.mem := rfl
@[simp] theorem setFlow_ports {x} : (s.setFlow n x).ports = s.ports := rfl
@[simp] theorem setFlow_thmTimers {x} : (s.setFlow n x).thmTimers = s.thmTimers := rfl
@[simp] theorem setFlow_sec {x} : (s.setFlow n x).sec = s.sec := rfl
@[simp] theorem setFlow_pins {x} : (s.setFlow n x).pins = s.pins := rfl
@[simp] theorem setFlow_sup {x} : (s.setFlow n x).sup = s.sup := rfl
@[simp] theorem setFlow_pending {x} : (s.setFlow n x).pending = s.pending := rfl
@[simp] theorem setFlow_word {x} : (s.setFlow n x).word b m o = s.word b m o := rfl
@[simp] theorem setFlow_wordS {x} : (s.setFlow n x).wordS b m o = s.wordS b m o := rfl
@[simp] theorem setFlow_hdr {x} : (s.setFlow n x).hdr b m = s.hdr b m := rfl
@[simp] theorem setFlow_get {x} : (s.setFlow n x).get m f = s.get m f := rfl
@[simp] theorem setFlow_getS {x} : (s.setFlow n x).getS m f = s.getS m f := rfl
@[simp] theorem setFlow_stateOf {x} : (s.setFlow n x).stateOf b m = s.stateOf b m := rfl
@[simp] theorem setFlow_enabled {x} : (s.setFlow n x).enabled b m = s.enabled b m := rfl
@[simp] theorem setFlow_flag {x} : (s.setFlow n x).flag m f = s.flag m f := rfl

/-! ### `setStrm` -/

@[simp] theorem setStrm_regs {x} : (s.setStrm n x).regs = s.regs := rfl
@[simp] theorem setStrm_stag {x} : (s.setStrm n x).stag = s.stag := rfl
@[simp] theorem setStrm_hdrs {x} : (s.setStrm n x).hdrs = s.hdrs := rfl
@[simp] theorem setStrm_dram {x} : (s.setStrm n x).dram = s.dram := rfl
@[simp] theorem setStrm_poison {x} : (s.setStrm n x).poison = s.poison := rfl
@[simp] theorem setStrm_now {x} : (s.setStrm n x).now = s.now := rfl
@[simp] theorem setStrm_free {x} : (s.setStrm n x).free = s.free := rfl
@[simp] theorem setStrm_sent {x} : (s.setStrm n x).sent = s.sent := rfl
@[simp] theorem setStrm_pace {x} : (s.setStrm n x).pace = s.pace := rfl
@[simp] theorem setStrm_asms {x} : (s.setStrm n x).asms = s.asms := rfl
@[simp] theorem setStrm_benches {x} : (s.setStrm n x).benches = s.benches := rfl
@[simp] theorem setStrm_lutSlots {x} : (s.setStrm n x).lutSlots = s.lutSlots := rfl
@[simp] theorem setStrm_profiles {x} : (s.setStrm n x).profiles = s.profiles := rfl
@[simp] theorem setStrm_ctls {x} : (s.setStrm n x).ctls = s.ctls := rfl
@[simp] theorem setStrm_directs {x} : (s.setStrm n x).directs = s.directs := rfl
@[simp] theorem setStrm_zraws {x} : (s.setStrm n x).zraws = s.zraws := rfl
@[simp] theorem setStrm_stageIdx {x} : (s.setStrm n x).stageIdx = s.stageIdx := rfl
@[simp] theorem setStrm_encs {x} : (s.setStrm n x).encs = s.encs := rfl
@[simp] theorem setStrm_decs {x} : (s.setStrm n x).decs = s.decs := rfl
@[simp] theorem setStrm_pool {x} : (s.setStrm n x).pool = s.pool := rfl
@[simp] theorem setStrm_lays {x} : (s.setStrm n x).lays = s.lays := rfl
@[simp] theorem setStrm_heads {x} : (s.setStrm n x).heads = s.heads := rfl
@[simp] theorem setStrm_dpos {x} : (s.setStrm n x).dpos = s.dpos := rfl
@[simp] theorem setStrm_chks {x} : (s.setStrm n x).chks = s.chks := rfl
@[simp] theorem setStrm_nets {x} : (s.setStrm n x).nets = s.nets := rfl
@[simp] theorem setStrm_sess {x} : (s.setStrm n x).sess = s.sess := rfl
@[simp] theorem setStrm_flows {x} : (s.setStrm n x).flows = s.flows := rfl
@[simp] theorem setStrm_pkt {x} : (s.setStrm n x).pkt = s.pkt := rfl
@[simp] theorem setStrm_clocks {x} : (s.setStrm n x).clocks = s.clocks := rfl
@[simp] theorem setStrm_doms {x} : (s.setStrm n x).doms = s.doms := rfl
@[simp] theorem setStrm_ppsIn {x} : (s.setStrm n x).ppsIn = s.ppsIn := rfl
@[simp] theorem setStrm_ppsRise {x} : (s.setStrm n x).ppsRise = s.ppsRise := rfl
@[simp] theorem setStrm_auds {x} : (s.setStrm n x).auds = s.auds := rfl
@[simp] theorem setStrm_trigger {x} : (s.setStrm n x).trigger = s.trigger := rfl
@[simp] theorem setStrm_mem {x} : (s.setStrm n x).mem = s.mem := rfl
@[simp] theorem setStrm_ports {x} : (s.setStrm n x).ports = s.ports := rfl
@[simp] theorem setStrm_thmTimers {x} : (s.setStrm n x).thmTimers = s.thmTimers := rfl
@[simp] theorem setStrm_sec {x} : (s.setStrm n x).sec = s.sec := rfl
@[simp] theorem setStrm_pins {x} : (s.setStrm n x).pins = s.pins := rfl
@[simp] theorem setStrm_sup {x} : (s.setStrm n x).sup = s.sup := rfl
@[simp] theorem setStrm_pending {x} : (s.setStrm n x).pending = s.pending := rfl
@[simp] theorem setStrm_word {x} : (s.setStrm n x).word b m o = s.word b m o := rfl
@[simp] theorem setStrm_wordS {x} : (s.setStrm n x).wordS b m o = s.wordS b m o := rfl
@[simp] theorem setStrm_hdr {x} : (s.setStrm n x).hdr b m = s.hdr b m := rfl
@[simp] theorem setStrm_get {x} : (s.setStrm n x).get m f = s.get m f := rfl
@[simp] theorem setStrm_getS {x} : (s.setStrm n x).getS m f = s.getS m f := rfl
@[simp] theorem setStrm_stateOf {x} : (s.setStrm n x).stateOf b m = s.stateOf b m := rfl
@[simp] theorem setStrm_enabled {x} : (s.setStrm n x).enabled b m = s.enabled b m := rfl
@[simp] theorem setStrm_flag {x} : (s.setStrm n x).flag m f = s.flag m f := rfl

/-! ### `setBench` -/

@[simp] theorem setBench_regs {x} : (s.setBench n x).regs = s.regs := rfl
@[simp] theorem setBench_stag {x} : (s.setBench n x).stag = s.stag := rfl
@[simp] theorem setBench_hdrs {x} : (s.setBench n x).hdrs = s.hdrs := rfl
@[simp] theorem setBench_dram {x} : (s.setBench n x).dram = s.dram := rfl
@[simp] theorem setBench_poison {x} : (s.setBench n x).poison = s.poison := rfl
@[simp] theorem setBench_now {x} : (s.setBench n x).now = s.now := rfl
@[simp] theorem setBench_free {x} : (s.setBench n x).free = s.free := rfl
@[simp] theorem setBench_sent {x} : (s.setBench n x).sent = s.sent := rfl
@[simp] theorem setBench_pace {x} : (s.setBench n x).pace = s.pace := rfl
@[simp] theorem setBench_asms {x} : (s.setBench n x).asms = s.asms := rfl
@[simp] theorem setBench_strms {x} : (s.setBench n x).strms = s.strms := rfl
@[simp] theorem setBench_lutSlots {x} : (s.setBench n x).lutSlots = s.lutSlots := rfl
@[simp] theorem setBench_profiles {x} : (s.setBench n x).profiles = s.profiles := rfl
@[simp] theorem setBench_ctls {x} : (s.setBench n x).ctls = s.ctls := rfl
@[simp] theorem setBench_directs {x} : (s.setBench n x).directs = s.directs := rfl
@[simp] theorem setBench_zraws {x} : (s.setBench n x).zraws = s.zraws := rfl
@[simp] theorem setBench_stageIdx {x} : (s.setBench n x).stageIdx = s.stageIdx := rfl
@[simp] theorem setBench_encs {x} : (s.setBench n x).encs = s.encs := rfl
@[simp] theorem setBench_decs {x} : (s.setBench n x).decs = s.decs := rfl
@[simp] theorem setBench_pool {x} : (s.setBench n x).pool = s.pool := rfl
@[simp] theorem setBench_lays {x} : (s.setBench n x).lays = s.lays := rfl
@[simp] theorem setBench_heads {x} : (s.setBench n x).heads = s.heads := rfl
@[simp] theorem setBench_dpos {x} : (s.setBench n x).dpos = s.dpos := rfl
@[simp] theorem setBench_chks {x} : (s.setBench n x).chks = s.chks := rfl
@[simp] theorem setBench_nets {x} : (s.setBench n x).nets = s.nets := rfl
@[simp] theorem setBench_sess {x} : (s.setBench n x).sess = s.sess := rfl
@[simp] theorem setBench_flows {x} : (s.setBench n x).flows = s.flows := rfl
@[simp] theorem setBench_pkt {x} : (s.setBench n x).pkt = s.pkt := rfl
@[simp] theorem setBench_clocks {x} : (s.setBench n x).clocks = s.clocks := rfl
@[simp] theorem setBench_doms {x} : (s.setBench n x).doms = s.doms := rfl
@[simp] theorem setBench_ppsIn {x} : (s.setBench n x).ppsIn = s.ppsIn := rfl
@[simp] theorem setBench_ppsRise {x} : (s.setBench n x).ppsRise = s.ppsRise := rfl
@[simp] theorem setBench_auds {x} : (s.setBench n x).auds = s.auds := rfl
@[simp] theorem setBench_trigger {x} : (s.setBench n x).trigger = s.trigger := rfl
@[simp] theorem setBench_mem {x} : (s.setBench n x).mem = s.mem := rfl
@[simp] theorem setBench_ports {x} : (s.setBench n x).ports = s.ports := rfl
@[simp] theorem setBench_thmTimers {x} : (s.setBench n x).thmTimers = s.thmTimers := rfl
@[simp] theorem setBench_sec {x} : (s.setBench n x).sec = s.sec := rfl
@[simp] theorem setBench_pins {x} : (s.setBench n x).pins = s.pins := rfl
@[simp] theorem setBench_sup {x} : (s.setBench n x).sup = s.sup := rfl
@[simp] theorem setBench_pending {x} : (s.setBench n x).pending = s.pending := rfl
@[simp] theorem setBench_word {x} : (s.setBench n x).word b m o = s.word b m o := rfl
@[simp] theorem setBench_wordS {x} : (s.setBench n x).wordS b m o = s.wordS b m o := rfl
@[simp] theorem setBench_hdr {x} : (s.setBench n x).hdr b m = s.hdr b m := rfl
@[simp] theorem setBench_get {x} : (s.setBench n x).get m f = s.get m f := rfl
@[simp] theorem setBench_getS {x} : (s.setBench n x).getS m f = s.getS m f := rfl
@[simp] theorem setBench_stateOf {x} : (s.setBench n x).stateOf b m = s.stateOf b m := rfl
@[simp] theorem setBench_enabled {x} : (s.setBench n x).enabled b m = s.enabled b m := rfl
@[simp] theorem setBench_flag {x} : (s.setBench n x).flag m f = s.flag m f := rfl

/-! ### `setAsm` -/

@[simp] theorem setAsm_regs {x} : (s.setAsm n x).regs = s.regs := rfl
@[simp] theorem setAsm_stag {x} : (s.setAsm n x).stag = s.stag := rfl
@[simp] theorem setAsm_hdrs {x} : (s.setAsm n x).hdrs = s.hdrs := rfl
@[simp] theorem setAsm_dram {x} : (s.setAsm n x).dram = s.dram := rfl
@[simp] theorem setAsm_poison {x} : (s.setAsm n x).poison = s.poison := rfl
@[simp] theorem setAsm_now {x} : (s.setAsm n x).now = s.now := rfl
@[simp] theorem setAsm_free {x} : (s.setAsm n x).free = s.free := rfl
@[simp] theorem setAsm_sent {x} : (s.setAsm n x).sent = s.sent := rfl
@[simp] theorem setAsm_pace {x} : (s.setAsm n x).pace = s.pace := rfl
@[simp] theorem setAsm_strms {x} : (s.setAsm n x).strms = s.strms := rfl
@[simp] theorem setAsm_benches {x} : (s.setAsm n x).benches = s.benches := rfl
@[simp] theorem setAsm_lutSlots {x} : (s.setAsm n x).lutSlots = s.lutSlots := rfl
@[simp] theorem setAsm_profiles {x} : (s.setAsm n x).profiles = s.profiles := rfl
@[simp] theorem setAsm_ctls {x} : (s.setAsm n x).ctls = s.ctls := rfl
@[simp] theorem setAsm_directs {x} : (s.setAsm n x).directs = s.directs := rfl
@[simp] theorem setAsm_zraws {x} : (s.setAsm n x).zraws = s.zraws := rfl
@[simp] theorem setAsm_stageIdx {x} : (s.setAsm n x).stageIdx = s.stageIdx := rfl
@[simp] theorem setAsm_encs {x} : (s.setAsm n x).encs = s.encs := rfl
@[simp] theorem setAsm_decs {x} : (s.setAsm n x).decs = s.decs := rfl
@[simp] theorem setAsm_pool {x} : (s.setAsm n x).pool = s.pool := rfl
@[simp] theorem setAsm_lays {x} : (s.setAsm n x).lays = s.lays := rfl
@[simp] theorem setAsm_heads {x} : (s.setAsm n x).heads = s.heads := rfl
@[simp] theorem setAsm_dpos {x} : (s.setAsm n x).dpos = s.dpos := rfl
@[simp] theorem setAsm_chks {x} : (s.setAsm n x).chks = s.chks := rfl
@[simp] theorem setAsm_nets {x} : (s.setAsm n x).nets = s.nets := rfl
@[simp] theorem setAsm_sess {x} : (s.setAsm n x).sess = s.sess := rfl
@[simp] theorem setAsm_flows {x} : (s.setAsm n x).flows = s.flows := rfl
@[simp] theorem setAsm_pkt {x} : (s.setAsm n x).pkt = s.pkt := rfl
@[simp] theorem setAsm_clocks {x} : (s.setAsm n x).clocks = s.clocks := rfl
@[simp] theorem setAsm_doms {x} : (s.setAsm n x).doms = s.doms := rfl
@[simp] theorem setAsm_ppsIn {x} : (s.setAsm n x).ppsIn = s.ppsIn := rfl
@[simp] theorem setAsm_ppsRise {x} : (s.setAsm n x).ppsRise = s.ppsRise := rfl
@[simp] theorem setAsm_auds {x} : (s.setAsm n x).auds = s.auds := rfl
@[simp] theorem setAsm_trigger {x} : (s.setAsm n x).trigger = s.trigger := rfl
@[simp] theorem setAsm_mem {x} : (s.setAsm n x).mem = s.mem := rfl
@[simp] theorem setAsm_ports {x} : (s.setAsm n x).ports = s.ports := rfl
@[simp] theorem setAsm_thmTimers {x} : (s.setAsm n x).thmTimers = s.thmTimers := rfl
@[simp] theorem setAsm_sec {x} : (s.setAsm n x).sec = s.sec := rfl
@[simp] theorem setAsm_pins {x} : (s.setAsm n x).pins = s.pins := rfl
@[simp] theorem setAsm_sup {x} : (s.setAsm n x).sup = s.sup := rfl
@[simp] theorem setAsm_pending {x} : (s.setAsm n x).pending = s.pending := rfl
@[simp] theorem setAsm_word {x} : (s.setAsm n x).word b m o = s.word b m o := rfl
@[simp] theorem setAsm_wordS {x} : (s.setAsm n x).wordS b m o = s.wordS b m o := rfl
@[simp] theorem setAsm_hdr {x} : (s.setAsm n x).hdr b m = s.hdr b m := rfl
@[simp] theorem setAsm_get {x} : (s.setAsm n x).get m f = s.get m f := rfl
@[simp] theorem setAsm_getS {x} : (s.setAsm n x).getS m f = s.getS m f := rfl
@[simp] theorem setAsm_stateOf {x} : (s.setAsm n x).stateOf b m = s.stateOf b m := rfl
@[simp] theorem setAsm_enabled {x} : (s.setAsm n x).enabled b m = s.enabled b m := rfl
@[simp] theorem setAsm_flag {x} : (s.setAsm n x).flag m f = s.flag m f := rfl

/-! ### `setDpo` -/

@[simp] theorem setDpo_regs {x} : (s.setDpo n x).regs = s.regs := rfl
@[simp] theorem setDpo_stag {x} : (s.setDpo n x).stag = s.stag := rfl
@[simp] theorem setDpo_hdrs {x} : (s.setDpo n x).hdrs = s.hdrs := rfl
@[simp] theorem setDpo_dram {x} : (s.setDpo n x).dram = s.dram := rfl
@[simp] theorem setDpo_poison {x} : (s.setDpo n x).poison = s.poison := rfl
@[simp] theorem setDpo_now {x} : (s.setDpo n x).now = s.now := rfl
@[simp] theorem setDpo_free {x} : (s.setDpo n x).free = s.free := rfl
@[simp] theorem setDpo_sent {x} : (s.setDpo n x).sent = s.sent := rfl
@[simp] theorem setDpo_pace {x} : (s.setDpo n x).pace = s.pace := rfl
@[simp] theorem setDpo_asms {x} : (s.setDpo n x).asms = s.asms := rfl
@[simp] theorem setDpo_strms {x} : (s.setDpo n x).strms = s.strms := rfl
@[simp] theorem setDpo_benches {x} : (s.setDpo n x).benches = s.benches := rfl
@[simp] theorem setDpo_lutSlots {x} : (s.setDpo n x).lutSlots = s.lutSlots := rfl
@[simp] theorem setDpo_profiles {x} : (s.setDpo n x).profiles = s.profiles := rfl
@[simp] theorem setDpo_ctls {x} : (s.setDpo n x).ctls = s.ctls := rfl
@[simp] theorem setDpo_directs {x} : (s.setDpo n x).directs = s.directs := rfl
@[simp] theorem setDpo_zraws {x} : (s.setDpo n x).zraws = s.zraws := rfl
@[simp] theorem setDpo_stageIdx {x} : (s.setDpo n x).stageIdx = s.stageIdx := rfl
@[simp] theorem setDpo_encs {x} : (s.setDpo n x).encs = s.encs := rfl
@[simp] theorem setDpo_decs {x} : (s.setDpo n x).decs = s.decs := rfl
@[simp] theorem setDpo_pool {x} : (s.setDpo n x).pool = s.pool := rfl
@[simp] theorem setDpo_lays {x} : (s.setDpo n x).lays = s.lays := rfl
@[simp] theorem setDpo_heads {x} : (s.setDpo n x).heads = s.heads := rfl
@[simp] theorem setDpo_chks {x} : (s.setDpo n x).chks = s.chks := rfl
@[simp] theorem setDpo_nets {x} : (s.setDpo n x).nets = s.nets := rfl
@[simp] theorem setDpo_sess {x} : (s.setDpo n x).sess = s.sess := rfl
@[simp] theorem setDpo_flows {x} : (s.setDpo n x).flows = s.flows := rfl
@[simp] theorem setDpo_pkt {x} : (s.setDpo n x).pkt = s.pkt := rfl
@[simp] theorem setDpo_clocks {x} : (s.setDpo n x).clocks = s.clocks := rfl
@[simp] theorem setDpo_doms {x} : (s.setDpo n x).doms = s.doms := rfl
@[simp] theorem setDpo_ppsIn {x} : (s.setDpo n x).ppsIn = s.ppsIn := rfl
@[simp] theorem setDpo_ppsRise {x} : (s.setDpo n x).ppsRise = s.ppsRise := rfl
@[simp] theorem setDpo_auds {x} : (s.setDpo n x).auds = s.auds := rfl
@[simp] theorem setDpo_trigger {x} : (s.setDpo n x).trigger = s.trigger := rfl
@[simp] theorem setDpo_mem {x} : (s.setDpo n x).mem = s.mem := rfl
@[simp] theorem setDpo_ports {x} : (s.setDpo n x).ports = s.ports := rfl
@[simp] theorem setDpo_thmTimers {x} : (s.setDpo n x).thmTimers = s.thmTimers := rfl
@[simp] theorem setDpo_sec {x} : (s.setDpo n x).sec = s.sec := rfl
@[simp] theorem setDpo_pins {x} : (s.setDpo n x).pins = s.pins := rfl
@[simp] theorem setDpo_sup {x} : (s.setDpo n x).sup = s.sup := rfl
@[simp] theorem setDpo_pending {x} : (s.setDpo n x).pending = s.pending := rfl
@[simp] theorem setDpo_word {x} : (s.setDpo n x).word b m o = s.word b m o := rfl
@[simp] theorem setDpo_wordS {x} : (s.setDpo n x).wordS b m o = s.wordS b m o := rfl
@[simp] theorem setDpo_hdr {x} : (s.setDpo n x).hdr b m = s.hdr b m := rfl
@[simp] theorem setDpo_get {x} : (s.setDpo n x).get m f = s.get m f := rfl
@[simp] theorem setDpo_getS {x} : (s.setDpo n x).getS m f = s.getS m f := rfl
@[simp] theorem setDpo_stateOf {x} : (s.setDpo n x).stateOf b m = s.stateOf b m := rfl
@[simp] theorem setDpo_enabled {x} : (s.setDpo n x).enabled b m = s.enabled b m := rfl
@[simp] theorem setDpo_flag {x} : (s.setDpo n x).flag m f = s.flag m f := rfl

/-! ### `setDom` -/

@[simp] theorem setDom_regs {x} : (s.setDom n x).regs = s.regs := rfl
@[simp] theorem setDom_stag {x} : (s.setDom n x).stag = s.stag := rfl
@[simp] theorem setDom_hdrs {x} : (s.setDom n x).hdrs = s.hdrs := rfl
@[simp] theorem setDom_dram {x} : (s.setDom n x).dram = s.dram := rfl
@[simp] theorem setDom_poison {x} : (s.setDom n x).poison = s.poison := rfl
@[simp] theorem setDom_now {x} : (s.setDom n x).now = s.now := rfl
@[simp] theorem setDom_free {x} : (s.setDom n x).free = s.free := rfl
@[simp] theorem setDom_sent {x} : (s.setDom n x).sent = s.sent := rfl
@[simp] theorem setDom_pace {x} : (s.setDom n x).pace = s.pace := rfl
@[simp] theorem setDom_asms {x} : (s.setDom n x).asms = s.asms := rfl
@[simp] theorem setDom_strms {x} : (s.setDom n x).strms = s.strms := rfl
@[simp] theorem setDom_benches {x} : (s.setDom n x).benches = s.benches := rfl
@[simp] theorem setDom_lutSlots {x} : (s.setDom n x).lutSlots = s.lutSlots := rfl
@[simp] theorem setDom_profiles {x} : (s.setDom n x).profiles = s.profiles := rfl
@[simp] theorem setDom_ctls {x} : (s.setDom n x).ctls = s.ctls := rfl
@[simp] theorem setDom_directs {x} : (s.setDom n x).directs = s.directs := rfl
@[simp] theorem setDom_zraws {x} : (s.setDom n x).zraws = s.zraws := rfl
@[simp] theorem setDom_stageIdx {x} : (s.setDom n x).stageIdx = s.stageIdx := rfl
@[simp] theorem setDom_encs {x} : (s.setDom n x).encs = s.encs := rfl
@[simp] theorem setDom_decs {x} : (s.setDom n x).decs = s.decs := rfl
@[simp] theorem setDom_pool {x} : (s.setDom n x).pool = s.pool := rfl
@[simp] theorem setDom_lays {x} : (s.setDom n x).lays = s.lays := rfl
@[simp] theorem setDom_heads {x} : (s.setDom n x).heads = s.heads := rfl
@[simp] theorem setDom_dpos {x} : (s.setDom n x).dpos = s.dpos := rfl
@[simp] theorem setDom_chks {x} : (s.setDom n x).chks = s.chks := rfl
@[simp] theorem setDom_nets {x} : (s.setDom n x).nets = s.nets := rfl
@[simp] theorem setDom_sess {x} : (s.setDom n x).sess = s.sess := rfl
@[simp] theorem setDom_flows {x} : (s.setDom n x).flows = s.flows := rfl
@[simp] theorem setDom_pkt {x} : (s.setDom n x).pkt = s.pkt := rfl
@[simp] theorem setDom_clocks {x} : (s.setDom n x).clocks = s.clocks := rfl
@[simp] theorem setDom_ppsIn {x} : (s.setDom n x).ppsIn = s.ppsIn := rfl
@[simp] theorem setDom_ppsRise {x} : (s.setDom n x).ppsRise = s.ppsRise := rfl
@[simp] theorem setDom_auds {x} : (s.setDom n x).auds = s.auds := rfl
@[simp] theorem setDom_trigger {x} : (s.setDom n x).trigger = s.trigger := rfl
@[simp] theorem setDom_mem {x} : (s.setDom n x).mem = s.mem := rfl
@[simp] theorem setDom_ports {x} : (s.setDom n x).ports = s.ports := rfl
@[simp] theorem setDom_thmTimers {x} : (s.setDom n x).thmTimers = s.thmTimers := rfl
@[simp] theorem setDom_sec {x} : (s.setDom n x).sec = s.sec := rfl
@[simp] theorem setDom_pins {x} : (s.setDom n x).pins = s.pins := rfl
@[simp] theorem setDom_sup {x} : (s.setDom n x).sup = s.sup := rfl
@[simp] theorem setDom_pending {x} : (s.setDom n x).pending = s.pending := rfl
@[simp] theorem setDom_word {x} : (s.setDom n x).word b m o = s.word b m o := rfl
@[simp] theorem setDom_wordS {x} : (s.setDom n x).wordS b m o = s.wordS b m o := rfl
@[simp] theorem setDom_hdr {x} : (s.setDom n x).hdr b m = s.hdr b m := rfl
@[simp] theorem setDom_get {x} : (s.setDom n x).get m f = s.get m f := rfl
@[simp] theorem setDom_getS {x} : (s.setDom n x).getS m f = s.getS m f := rfl
@[simp] theorem setDom_stateOf {x} : (s.setDom n x).stateOf b m = s.stateOf b m := rfl
@[simp] theorem setDom_enabled {x} : (s.setDom n x).enabled b m = s.enabled b m := rfl
@[simp] theorem setDom_flag {x} : (s.setDom n x).flag m f = s.flag m f := rfl

/-! ### `setSess` -/

@[simp] theorem setSess_regs {x} : (s.setSess n x).regs = s.regs := rfl
@[simp] theorem setSess_stag {x} : (s.setSess n x).stag = s.stag := rfl
@[simp] theorem setSess_hdrs {x} : (s.setSess n x).hdrs = s.hdrs := rfl
@[simp] theorem setSess_dram {x} : (s.setSess n x).dram = s.dram := rfl
@[simp] theorem setSess_poison {x} : (s.setSess n x).poison = s.poison := rfl
@[simp] theorem setSess_now {x} : (s.setSess n x).now = s.now := rfl
@[simp] theorem setSess_free {x} : (s.setSess n x).free = s.free := rfl
@[simp] theorem setSess_sent {x} : (s.setSess n x).sent = s.sent := rfl
@[simp] theorem setSess_pace {x} : (s.setSess n x).pace = s.pace := rfl
@[simp] theorem setSess_asms {x} : (s.setSess n x).asms = s.asms := rfl
@[simp] theorem setSess_strms {x} : (s.setSess n x).strms = s.strms := rfl
@[simp] theorem setSess_benches {x} : (s.setSess n x).benches = s.benches := rfl
@[simp] theorem setSess_lutSlots {x} : (s.setSess n x).lutSlots = s.lutSlots := rfl
@[simp] theorem setSess_profiles {x} : (s.setSess n x).profiles = s.profiles := rfl
@[simp] theorem setSess_ctls {x} : (s.setSess n x).ctls = s.ctls := rfl
@[simp] theorem setSess_directs {x} : (s.setSess n x).directs = s.directs := rfl
@[simp] theorem setSess_zraws {x} : (s.setSess n x).zraws = s.zraws := rfl
@[simp] theorem setSess_stageIdx {x} : (s.setSess n x).stageIdx = s.stageIdx := rfl
@[simp] theorem setSess_encs {x} : (s.setSess n x).encs = s.encs := rfl
@[simp] theorem setSess_decs {x} : (s.setSess n x).decs = s.decs := rfl
@[simp] theorem setSess_pool {x} : (s.setSess n x).pool = s.pool := rfl
@[simp] theorem setSess_lays {x} : (s.setSess n x).lays = s.lays := rfl
@[simp] theorem setSess_heads {x} : (s.setSess n x).heads = s.heads := rfl
@[simp] theorem setSess_dpos {x} : (s.setSess n x).dpos = s.dpos := rfl
@[simp] theorem setSess_chks {x} : (s.setSess n x).chks = s.chks := rfl
@[simp] theorem setSess_nets {x} : (s.setSess n x).nets = s.nets := rfl
@[simp] theorem setSess_flows {x} : (s.setSess n x).flows = s.flows := rfl
@[simp] theorem setSess_pkt {x} : (s.setSess n x).pkt = s.pkt := rfl
@[simp] theorem setSess_clocks {x} : (s.setSess n x).clocks = s.clocks := rfl
@[simp] theorem setSess_doms {x} : (s.setSess n x).doms = s.doms := rfl
@[simp] theorem setSess_ppsIn {x} : (s.setSess n x).ppsIn = s.ppsIn := rfl
@[simp] theorem setSess_ppsRise {x} : (s.setSess n x).ppsRise = s.ppsRise := rfl
@[simp] theorem setSess_auds {x} : (s.setSess n x).auds = s.auds := rfl
@[simp] theorem setSess_trigger {x} : (s.setSess n x).trigger = s.trigger := rfl
@[simp] theorem setSess_mem {x} : (s.setSess n x).mem = s.mem := rfl
@[simp] theorem setSess_ports {x} : (s.setSess n x).ports = s.ports := rfl
@[simp] theorem setSess_thmTimers {x} : (s.setSess n x).thmTimers = s.thmTimers := rfl
@[simp] theorem setSess_sec {x} : (s.setSess n x).sec = s.sec := rfl
@[simp] theorem setSess_pins {x} : (s.setSess n x).pins = s.pins := rfl
@[simp] theorem setSess_sup {x} : (s.setSess n x).sup = s.sup := rfl
@[simp] theorem setSess_pending {x} : (s.setSess n x).pending = s.pending := rfl
@[simp] theorem setSess_word {x} : (s.setSess n x).word b m o = s.word b m o := rfl
@[simp] theorem setSess_wordS {x} : (s.setSess n x).wordS b m o = s.wordS b m o := rfl
@[simp] theorem setSess_hdr {x} : (s.setSess n x).hdr b m = s.hdr b m := rfl
@[simp] theorem setSess_get {x} : (s.setSess n x).get m f = s.get m f := rfl
@[simp] theorem setSess_getS {x} : (s.setSess n x).getS m f = s.getS m f := rfl
@[simp] theorem setSess_stateOf {x} : (s.setSess n x).stateOf b m = s.stateOf b m := rfl
@[simp] theorem setSess_enabled {x} : (s.setSess n x).enabled b m = s.enabled b m := rfl
@[simp] theorem setSess_flag {x} : (s.setSess n x).flag m f = s.flag m f := rfl

/-! ### `setNet` -/

@[simp] theorem setNet_regs {x} : (s.setNet n x).regs = s.regs := rfl
@[simp] theorem setNet_stag {x} : (s.setNet n x).stag = s.stag := rfl
@[simp] theorem setNet_hdrs {x} : (s.setNet n x).hdrs = s.hdrs := rfl
@[simp] theorem setNet_dram {x} : (s.setNet n x).dram = s.dram := rfl
@[simp] theorem setNet_poison {x} : (s.setNet n x).poison = s.poison := rfl
@[simp] theorem setNet_now {x} : (s.setNet n x).now = s.now := rfl
@[simp] theorem setNet_free {x} : (s.setNet n x).free = s.free := rfl
@[simp] theorem setNet_sent {x} : (s.setNet n x).sent = s.sent := rfl
@[simp] theorem setNet_pace {x} : (s.setNet n x).pace = s.pace := rfl
@[simp] theorem setNet_asms {x} : (s.setNet n x).asms = s.asms := rfl
@[simp] theorem setNet_strms {x} : (s.setNet n x).strms = s.strms := rfl
@[simp] theorem setNet_benches {x} : (s.setNet n x).benches = s.benches := rfl
@[simp] theorem setNet_lutSlots {x} : (s.setNet n x).lutSlots = s.lutSlots := rfl
@[simp] theorem setNet_profiles {x} : (s.setNet n x).profiles = s.profiles := rfl
@[simp] theorem setNet_ctls {x} : (s.setNet n x).ctls = s.ctls := rfl
@[simp] theorem setNet_directs {x} : (s.setNet n x).directs = s.directs := rfl
@[simp] theorem setNet_zraws {x} : (s.setNet n x).zraws = s.zraws := rfl
@[simp] theorem setNet_stageIdx {x} : (s.setNet n x).stageIdx = s.stageIdx := rfl
@[simp] theorem setNet_encs {x} : (s.setNet n x).encs = s.encs := rfl
@[simp] theorem setNet_decs {x} : (s.setNet n x).decs = s.decs := rfl
@[simp] theorem setNet_pool {x} : (s.setNet n x).pool = s.pool := rfl
@[simp] theorem setNet_lays {x} : (s.setNet n x).lays = s.lays := rfl
@[simp] theorem setNet_heads {x} : (s.setNet n x).heads = s.heads := rfl
@[simp] theorem setNet_dpos {x} : (s.setNet n x).dpos = s.dpos := rfl
@[simp] theorem setNet_chks {x} : (s.setNet n x).chks = s.chks := rfl
@[simp] theorem setNet_sess {x} : (s.setNet n x).sess = s.sess := rfl
@[simp] theorem setNet_flows {x} : (s.setNet n x).flows = s.flows := rfl
@[simp] theorem setNet_pkt {x} : (s.setNet n x).pkt = s.pkt := rfl
@[simp] theorem setNet_clocks {x} : (s.setNet n x).clocks = s.clocks := rfl
@[simp] theorem setNet_doms {x} : (s.setNet n x).doms = s.doms := rfl
@[simp] theorem setNet_ppsIn {x} : (s.setNet n x).ppsIn = s.ppsIn := rfl
@[simp] theorem setNet_ppsRise {x} : (s.setNet n x).ppsRise = s.ppsRise := rfl
@[simp] theorem setNet_auds {x} : (s.setNet n x).auds = s.auds := rfl
@[simp] theorem setNet_trigger {x} : (s.setNet n x).trigger = s.trigger := rfl
@[simp] theorem setNet_mem {x} : (s.setNet n x).mem = s.mem := rfl
@[simp] theorem setNet_ports {x} : (s.setNet n x).ports = s.ports := rfl
@[simp] theorem setNet_thmTimers {x} : (s.setNet n x).thmTimers = s.thmTimers := rfl
@[simp] theorem setNet_sec {x} : (s.setNet n x).sec = s.sec := rfl
@[simp] theorem setNet_pins {x} : (s.setNet n x).pins = s.pins := rfl
@[simp] theorem setNet_sup {x} : (s.setNet n x).sup = s.sup := rfl
@[simp] theorem setNet_pending {x} : (s.setNet n x).pending = s.pending := rfl
@[simp] theorem setNet_word {x} : (s.setNet n x).word b m o = s.word b m o := rfl
@[simp] theorem setNet_wordS {x} : (s.setNet n x).wordS b m o = s.wordS b m o := rfl
@[simp] theorem setNet_hdr {x} : (s.setNet n x).hdr b m = s.hdr b m := rfl
@[simp] theorem setNet_get {x} : (s.setNet n x).get m f = s.get m f := rfl
@[simp] theorem setNet_getS {x} : (s.setNet n x).getS m f = s.getS m f := rfl
@[simp] theorem setNet_stateOf {x} : (s.setNet n x).stateOf b m = s.stateOf b m := rfl
@[simp] theorem setNet_enabled {x} : (s.setNet n x).enabled b m = s.enabled b m := rfl
@[simp] theorem setNet_flag {x} : (s.setNet n x).flag m f = s.flag m f := rfl

/-! ### `setZraw` -/

@[simp] theorem setZraw_regs {x} : (s.setZraw n x).regs = s.regs := rfl
@[simp] theorem setZraw_stag {x} : (s.setZraw n x).stag = s.stag := rfl
@[simp] theorem setZraw_hdrs {x} : (s.setZraw n x).hdrs = s.hdrs := rfl
@[simp] theorem setZraw_dram {x} : (s.setZraw n x).dram = s.dram := rfl
@[simp] theorem setZraw_poison {x} : (s.setZraw n x).poison = s.poison := rfl
@[simp] theorem setZraw_now {x} : (s.setZraw n x).now = s.now := rfl
@[simp] theorem setZraw_free {x} : (s.setZraw n x).free = s.free := rfl
@[simp] theorem setZraw_sent {x} : (s.setZraw n x).sent = s.sent := rfl
@[simp] theorem setZraw_pace {x} : (s.setZraw n x).pace = s.pace := rfl
@[simp] theorem setZraw_asms {x} : (s.setZraw n x).asms = s.asms := rfl
@[simp] theorem setZraw_strms {x} : (s.setZraw n x).strms = s.strms := rfl
@[simp] theorem setZraw_benches {x} : (s.setZraw n x).benches = s.benches := rfl
@[simp] theorem setZraw_lutSlots {x} : (s.setZraw n x).lutSlots = s.lutSlots := rfl
@[simp] theorem setZraw_profiles {x} : (s.setZraw n x).profiles = s.profiles := rfl
@[simp] theorem setZraw_ctls {x} : (s.setZraw n x).ctls = s.ctls := rfl
@[simp] theorem setZraw_directs {x} : (s.setZraw n x).directs = s.directs := rfl
@[simp] theorem setZraw_stageIdx {x} : (s.setZraw n x).stageIdx = s.stageIdx := rfl
@[simp] theorem setZraw_encs {x} : (s.setZraw n x).encs = s.encs := rfl
@[simp] theorem setZraw_decs {x} : (s.setZraw n x).decs = s.decs := rfl
@[simp] theorem setZraw_pool {x} : (s.setZraw n x).pool = s.pool := rfl
@[simp] theorem setZraw_lays {x} : (s.setZraw n x).lays = s.lays := rfl
@[simp] theorem setZraw_heads {x} : (s.setZraw n x).heads = s.heads := rfl
@[simp] theorem setZraw_dpos {x} : (s.setZraw n x).dpos = s.dpos := rfl
@[simp] theorem setZraw_chks {x} : (s.setZraw n x).chks = s.chks := rfl
@[simp] theorem setZraw_nets {x} : (s.setZraw n x).nets = s.nets := rfl
@[simp] theorem setZraw_sess {x} : (s.setZraw n x).sess = s.sess := rfl
@[simp] theorem setZraw_flows {x} : (s.setZraw n x).flows = s.flows := rfl
@[simp] theorem setZraw_pkt {x} : (s.setZraw n x).pkt = s.pkt := rfl
@[simp] theorem setZraw_clocks {x} : (s.setZraw n x).clocks = s.clocks := rfl
@[simp] theorem setZraw_doms {x} : (s.setZraw n x).doms = s.doms := rfl
@[simp] theorem setZraw_ppsIn {x} : (s.setZraw n x).ppsIn = s.ppsIn := rfl
@[simp] theorem setZraw_ppsRise {x} : (s.setZraw n x).ppsRise = s.ppsRise := rfl
@[simp] theorem setZraw_auds {x} : (s.setZraw n x).auds = s.auds := rfl
@[simp] theorem setZraw_trigger {x} : (s.setZraw n x).trigger = s.trigger := rfl
@[simp] theorem setZraw_mem {x} : (s.setZraw n x).mem = s.mem := rfl
@[simp] theorem setZraw_ports {x} : (s.setZraw n x).ports = s.ports := rfl
@[simp] theorem setZraw_thmTimers {x} : (s.setZraw n x).thmTimers = s.thmTimers := rfl
@[simp] theorem setZraw_sec {x} : (s.setZraw n x).sec = s.sec := rfl
@[simp] theorem setZraw_pins {x} : (s.setZraw n x).pins = s.pins := rfl
@[simp] theorem setZraw_sup {x} : (s.setZraw n x).sup = s.sup := rfl
@[simp] theorem setZraw_pending {x} : (s.setZraw n x).pending = s.pending := rfl
@[simp] theorem setZraw_word {x} : (s.setZraw n x).word b m o = s.word b m o := rfl
@[simp] theorem setZraw_wordS {x} : (s.setZraw n x).wordS b m o = s.wordS b m o := rfl
@[simp] theorem setZraw_hdr {x} : (s.setZraw n x).hdr b m = s.hdr b m := rfl
@[simp] theorem setZraw_get {x} : (s.setZraw n x).get m f = s.get m f := rfl
@[simp] theorem setZraw_getS {x} : (s.setZraw n x).getS m f = s.getS m f := rfl
@[simp] theorem setZraw_stateOf {x} : (s.setZraw n x).stateOf b m = s.stateOf b m := rfl
@[simp] theorem setZraw_enabled {x} : (s.setZraw n x).enabled b m = s.enabled b m := rfl
@[simp] theorem setZraw_flag {x} : (s.setZraw n x).flag m f = s.flag m f := rfl

/-! ### `setBuf` -/

@[simp] theorem setBuf_regs {x} : (s.setBuf n x).regs = s.regs := rfl
@[simp] theorem setBuf_stag {x} : (s.setBuf n x).stag = s.stag := rfl
@[simp] theorem setBuf_hdrs {x} : (s.setBuf n x).hdrs = s.hdrs := rfl
@[simp] theorem setBuf_dram {x} : (s.setBuf n x).dram = s.dram := rfl
@[simp] theorem setBuf_poison {x} : (s.setBuf n x).poison = s.poison := rfl
@[simp] theorem setBuf_now {x} : (s.setBuf n x).now = s.now := rfl
@[simp] theorem setBuf_free {x} : (s.setBuf n x).free = s.free := rfl
@[simp] theorem setBuf_sent {x} : (s.setBuf n x).sent = s.sent := rfl
@[simp] theorem setBuf_pace {x} : (s.setBuf n x).pace = s.pace := rfl
@[simp] theorem setBuf_asms {x} : (s.setBuf n x).asms = s.asms := rfl
@[simp] theorem setBuf_strms {x} : (s.setBuf n x).strms = s.strms := rfl
@[simp] theorem setBuf_benches {x} : (s.setBuf n x).benches = s.benches := rfl
@[simp] theorem setBuf_lutSlots {x} : (s.setBuf n x).lutSlots = s.lutSlots := rfl
@[simp] theorem setBuf_profiles {x} : (s.setBuf n x).profiles = s.profiles := rfl
@[simp] theorem setBuf_ctls {x} : (s.setBuf n x).ctls = s.ctls := rfl
@[simp] theorem setBuf_directs {x} : (s.setBuf n x).directs = s.directs := rfl
@[simp] theorem setBuf_zraws {x} : (s.setBuf n x).zraws = s.zraws := rfl
@[simp] theorem setBuf_stageIdx {x} : (s.setBuf n x).stageIdx = s.stageIdx := rfl
@[simp] theorem setBuf_encs {x} : (s.setBuf n x).encs = s.encs := rfl
@[simp] theorem setBuf_decs {x} : (s.setBuf n x).decs = s.decs := rfl
@[simp] theorem setBuf_lays {x} : (s.setBuf n x).lays = s.lays := rfl
@[simp] theorem setBuf_heads {x} : (s.setBuf n x).heads = s.heads := rfl
@[simp] theorem setBuf_dpos {x} : (s.setBuf n x).dpos = s.dpos := rfl
@[simp] theorem setBuf_chks {x} : (s.setBuf n x).chks = s.chks := rfl
@[simp] theorem setBuf_nets {x} : (s.setBuf n x).nets = s.nets := rfl
@[simp] theorem setBuf_sess {x} : (s.setBuf n x).sess = s.sess := rfl
@[simp] theorem setBuf_flows {x} : (s.setBuf n x).flows = s.flows := rfl
@[simp] theorem setBuf_pkt {x} : (s.setBuf n x).pkt = s.pkt := rfl
@[simp] theorem setBuf_clocks {x} : (s.setBuf n x).clocks = s.clocks := rfl
@[simp] theorem setBuf_doms {x} : (s.setBuf n x).doms = s.doms := rfl
@[simp] theorem setBuf_ppsIn {x} : (s.setBuf n x).ppsIn = s.ppsIn := rfl
@[simp] theorem setBuf_ppsRise {x} : (s.setBuf n x).ppsRise = s.ppsRise := rfl
@[simp] theorem setBuf_auds {x} : (s.setBuf n x).auds = s.auds := rfl
@[simp] theorem setBuf_trigger {x} : (s.setBuf n x).trigger = s.trigger := rfl
@[simp] theorem setBuf_mem {x} : (s.setBuf n x).mem = s.mem := rfl
@[simp] theorem setBuf_ports {x} : (s.setBuf n x).ports = s.ports := rfl
@[simp] theorem setBuf_thmTimers {x} : (s.setBuf n x).thmTimers = s.thmTimers := rfl
@[simp] theorem setBuf_sec {x} : (s.setBuf n x).sec = s.sec := rfl
@[simp] theorem setBuf_pins {x} : (s.setBuf n x).pins = s.pins := rfl
@[simp] theorem setBuf_sup {x} : (s.setBuf n x).sup = s.sup := rfl
@[simp] theorem setBuf_pending {x} : (s.setBuf n x).pending = s.pending := rfl
@[simp] theorem setBuf_word {x} : (s.setBuf n x).word b m o = s.word b m o := rfl
@[simp] theorem setBuf_wordS {x} : (s.setBuf n x).wordS b m o = s.wordS b m o := rfl
@[simp] theorem setBuf_hdr {x} : (s.setBuf n x).hdr b m = s.hdr b m := rfl
@[simp] theorem setBuf_get {x} : (s.setBuf n x).get m f = s.get m f := rfl
@[simp] theorem setBuf_getS {x} : (s.setBuf n x).getS m f = s.getS m f := rfl
@[simp] theorem setBuf_stateOf {x} : (s.setBuf n x).stateOf b m = s.stateOf b m := rfl
@[simp] theorem setBuf_enabled {x} : (s.setBuf n x).enabled b m = s.enabled b m := rfl
@[simp] theorem setBuf_flag {x} : (s.setBuf n x).flag m f = s.flag m f := rfl

/-! ### `setWord` -/

@[simp] theorem setWord_stag : (s.setWord b n off v).stag = s.stag := by rw [State.setWord]; split <;> rfl
@[simp] theorem setWord_hdrs : (s.setWord b n off v).hdrs = s.hdrs := by rw [State.setWord]; split <;> rfl
@[simp] theorem setWord_dram : (s.setWord b n off v).dram = s.dram := by rw [State.setWord]; split <;> rfl
@[simp] theorem setWord_poison : (s.setWord b n off v).poison = s.poison := by rw [State.setWord]; split <;> rfl
@[simp] theorem setWord_now : (s.setWord b n off v).now = s.now := by rw [State.setWord]; split <;> rfl
@[simp] theorem setWord_free : (s.setWord b n off v).free = s.free := by rw [State.setWord]; split <;> rfl
@[simp] theorem setWord_sent : (s.setWord b n off v).sent = s.sent := by rw [State.setWord]; split <;> rfl
@[simp] theorem setWord_pace : (s.setWord b n off v).pace = s.pace := by rw [State.setWord]; split <;> rfl
@[simp] theorem setWord_asms : (s.setWord b n off v).asms = s.asms := by rw [State.setWord]; split <;> rfl
@[simp] theorem setWord_strms : (s.setWord b n off v).strms = s.strms := by rw [State.setWord]; split <;> rfl
@[simp] theorem setWord_benches : (s.setWord b n off v).benches = s.benches := by rw [State.setWord]; split <;> rfl
@[simp] theorem setWord_lutSlots : (s.setWord b n off v).lutSlots = s.lutSlots := by rw [State.setWord]; split <;> rfl
@[simp] theorem setWord_profiles : (s.setWord b n off v).profiles = s.profiles := by rw [State.setWord]; split <;> rfl
@[simp] theorem setWord_ctls : (s.setWord b n off v).ctls = s.ctls := by rw [State.setWord]; split <;> rfl
@[simp] theorem setWord_directs : (s.setWord b n off v).directs = s.directs := by rw [State.setWord]; split <;> rfl
@[simp] theorem setWord_zraws : (s.setWord b n off v).zraws = s.zraws := by rw [State.setWord]; split <;> rfl
@[simp] theorem setWord_stageIdx : (s.setWord b n off v).stageIdx = s.stageIdx := by rw [State.setWord]; split <;> rfl
@[simp] theorem setWord_encs : (s.setWord b n off v).encs = s.encs := by rw [State.setWord]; split <;> rfl
@[simp] theorem setWord_decs : (s.setWord b n off v).decs = s.decs := by rw [State.setWord]; split <;> rfl
@[simp] theorem setWord_pool : (s.setWord b n off v).pool = s.pool := by rw [State.setWord]; split <;> rfl
@[simp] theorem setWord_lays : (s.setWord b n off v).lays = s.lays := by rw [State.setWord]; split <;> rfl
@[simp] theorem setWord_heads : (s.setWord b n off v).heads = s.heads := by rw [State.setWord]; split <;> rfl
@[simp] theorem setWord_dpos : (s.setWord b n off v).dpos = s.dpos := by rw [State.setWord]; split <;> rfl
@[simp] theorem setWord_chks : (s.setWord b n off v).chks = s.chks := by rw [State.setWord]; split <;> rfl
@[simp] theorem setWord_nets : (s.setWord b n off v).nets = s.nets := by rw [State.setWord]; split <;> rfl
@[simp] theorem setWord_sess : (s.setWord b n off v).sess = s.sess := by rw [State.setWord]; split <;> rfl
@[simp] theorem setWord_flows : (s.setWord b n off v).flows = s.flows := by rw [State.setWord]; split <;> rfl
@[simp] theorem setWord_pkt : (s.setWord b n off v).pkt = s.pkt := by rw [State.setWord]; split <;> rfl
@[simp] theorem setWord_clocks : (s.setWord b n off v).clocks = s.clocks := by rw [State.setWord]; split <;> rfl
@[simp] theorem setWord_doms : (s.setWord b n off v).doms = s.doms := by rw [State.setWord]; split <;> rfl
@[simp] theorem setWord_ppsIn : (s.setWord b n off v).ppsIn = s.ppsIn := by rw [State.setWord]; split <;> rfl
@[simp] theorem setWord_ppsRise : (s.setWord b n off v).ppsRise = s.ppsRise := by rw [State.setWord]; split <;> rfl
@[simp] theorem setWord_auds : (s.setWord b n off v).auds = s.auds := by rw [State.setWord]; split <;> rfl
@[simp] theorem setWord_trigger : (s.setWord b n off v).trigger = s.trigger := by rw [State.setWord]; split <;> rfl
@[simp] theorem setWord_mem : (s.setWord b n off v).mem = s.mem := by rw [State.setWord]; split <;> rfl
@[simp] theorem setWord_ports : (s.setWord b n off v).ports = s.ports := by rw [State.setWord]; split <;> rfl
@[simp] theorem setWord_thmTimers : (s.setWord b n off v).thmTimers = s.thmTimers := by rw [State.setWord]; split <;> rfl
@[simp] theorem setWord_sec : (s.setWord b n off v).sec = s.sec := by rw [State.setWord]; split <;> rfl
@[simp] theorem setWord_pins : (s.setWord b n off v).pins = s.pins := by rw [State.setWord]; split <;> rfl
@[simp] theorem setWord_sup : (s.setWord b n off v).sup = s.sup := by rw [State.setWord]; split <;> rfl
@[simp] theorem setWord_pending : (s.setWord b n off v).pending = s.pending := by rw [State.setWord]; split <;> rfl

/-! ### `setWordS` -/

@[simp] theorem setWordS_regs : (s.setWordS b n off v).regs = s.regs := by rw [State.setWordS]; split <;> rfl
@[simp] theorem setWordS_hdrs : (s.setWordS b n off v).hdrs = s.hdrs := by rw [State.setWordS]; split <;> rfl
@[simp] theorem setWordS_dram : (s.setWordS b n off v).dram = s.dram := by rw [State.setWordS]; split <;> rfl
@[simp] theorem setWordS_poison : (s.setWordS b n off v).poison = s.poison := by rw [State.setWordS]; split <;> rfl
@[simp] theorem setWordS_now : (s.setWordS b n off v).now = s.now := by rw [State.setWordS]; split <;> rfl
@[simp] theorem setWordS_free : (s.setWordS b n off v).free = s.free := by rw [State.setWordS]; split <;> rfl
@[simp] theorem setWordS_sent : (s.setWordS b n off v).sent = s.sent := by rw [State.setWordS]; split <;> rfl
@[simp] theorem setWordS_pace : (s.setWordS b n off v).pace = s.pace := by rw [State.setWordS]; split <;> rfl
@[simp] theorem setWordS_asms : (s.setWordS b n off v).asms = s.asms := by rw [State.setWordS]; split <;> rfl
@[simp] theorem setWordS_strms : (s.setWordS b n off v).strms = s.strms := by rw [State.setWordS]; split <;> rfl
@[simp] theorem setWordS_benches : (s.setWordS b n off v).benches = s.benches := by rw [State.setWordS]; split <;> rfl
@[simp] theorem setWordS_lutSlots : (s.setWordS b n off v).lutSlots = s.lutSlots := by rw [State.setWordS]; split <;> rfl
@[simp] theorem setWordS_profiles : (s.setWordS b n off v).profiles = s.profiles := by rw [State.setWordS]; split <;> rfl
@[simp] theorem setWordS_ctls : (s.setWordS b n off v).ctls = s.ctls := by rw [State.setWordS]; split <;> rfl
@[simp] theorem setWordS_directs : (s.setWordS b n off v).directs = s.directs := by rw [State.setWordS]; split <;> rfl
@[simp] theorem setWordS_zraws : (s.setWordS b n off v).zraws = s.zraws := by rw [State.setWordS]; split <;> rfl
@[simp] theorem setWordS_stageIdx : (s.setWordS b n off v).stageIdx = s.stageIdx := by rw [State.setWordS]; split <;> rfl
@[simp] theorem setWordS_encs : (s.setWordS b n off v).encs = s.encs := by rw [State.setWordS]; split <;> rfl
@[simp] theorem setWordS_decs : (s.setWordS b n off v).decs = s.decs := by rw [State.setWordS]; split <;> rfl
@[simp] theorem setWordS_pool : (s.setWordS b n off v).pool = s.pool := by rw [State.setWordS]; split <;> rfl
@[simp] theorem setWordS_lays : (s.setWordS b n off v).lays = s.lays := by rw [State.setWordS]; split <;> rfl
@[simp] theorem setWordS_heads : (s.setWordS b n off v).heads = s.heads := by rw [State.setWordS]; split <;> rfl
@[simp] theorem setWordS_dpos : (s.setWordS b n off v).dpos = s.dpos := by rw [State.setWordS]; split <;> rfl
@[simp] theorem setWordS_chks : (s.setWordS b n off v).chks = s.chks := by rw [State.setWordS]; split <;> rfl
@[simp] theorem setWordS_nets : (s.setWordS b n off v).nets = s.nets := by rw [State.setWordS]; split <;> rfl
@[simp] theorem setWordS_sess : (s.setWordS b n off v).sess = s.sess := by rw [State.setWordS]; split <;> rfl
@[simp] theorem setWordS_flows : (s.setWordS b n off v).flows = s.flows := by rw [State.setWordS]; split <;> rfl
@[simp] theorem setWordS_pkt : (s.setWordS b n off v).pkt = s.pkt := by rw [State.setWordS]; split <;> rfl
@[simp] theorem setWordS_clocks : (s.setWordS b n off v).clocks = s.clocks := by rw [State.setWordS]; split <;> rfl
@[simp] theorem setWordS_doms : (s.setWordS b n off v).doms = s.doms := by rw [State.setWordS]; split <;> rfl
@[simp] theorem setWordS_ppsIn : (s.setWordS b n off v).ppsIn = s.ppsIn := by rw [State.setWordS]; split <;> rfl
@[simp] theorem setWordS_ppsRise : (s.setWordS b n off v).ppsRise = s.ppsRise := by rw [State.setWordS]; split <;> rfl
@[simp] theorem setWordS_auds : (s.setWordS b n off v).auds = s.auds := by rw [State.setWordS]; split <;> rfl
@[simp] theorem setWordS_trigger : (s.setWordS b n off v).trigger = s.trigger := by rw [State.setWordS]; split <;> rfl
@[simp] theorem setWordS_mem : (s.setWordS b n off v).mem = s.mem := by rw [State.setWordS]; split <;> rfl
@[simp] theorem setWordS_ports : (s.setWordS b n off v).ports = s.ports := by rw [State.setWordS]; split <;> rfl
@[simp] theorem setWordS_thmTimers : (s.setWordS b n off v).thmTimers = s.thmTimers := by rw [State.setWordS]; split <;> rfl
@[simp] theorem setWordS_sec : (s.setWordS b n off v).sec = s.sec := by rw [State.setWordS]; split <;> rfl
@[simp] theorem setWordS_pins : (s.setWordS b n off v).pins = s.pins := by rw [State.setWordS]; split <;> rfl
@[simp] theorem setWordS_sup : (s.setWordS b n off v).sup = s.sup := by rw [State.setWordS]; split <;> rfl
@[simp] theorem setWordS_pending : (s.setWordS b n off v).pending = s.pending := by rw [State.setWordS]; split <;> rfl

/-! ### `setHdr` -/

@[simp] theorem setHdr_regs {x} : (s.setHdr b n x).regs = s.regs := by rw [State.setHdr]; split <;> rfl
@[simp] theorem setHdr_stag {x} : (s.setHdr b n x).stag = s.stag := by rw [State.setHdr]; split <;> rfl
@[simp] theorem setHdr_dram {x} : (s.setHdr b n x).dram = s.dram := by rw [State.setHdr]; split <;> rfl
@[simp] theorem setHdr_poison {x} : (s.setHdr b n x).poison = s.poison := by rw [State.setHdr]; split <;> rfl
@[simp] theorem setHdr_now {x} : (s.setHdr b n x).now = s.now := by rw [State.setHdr]; split <;> rfl
@[simp] theorem setHdr_free {x} : (s.setHdr b n x).free = s.free := by rw [State.setHdr]; split <;> rfl
@[simp] theorem setHdr_sent {x} : (s.setHdr b n x).sent = s.sent := by rw [State.setHdr]; split <;> rfl
@[simp] theorem setHdr_pace {x} : (s.setHdr b n x).pace = s.pace := by rw [State.setHdr]; split <;> rfl
@[simp] theorem setHdr_asms {x} : (s.setHdr b n x).asms = s.asms := by rw [State.setHdr]; split <;> rfl
@[simp] theorem setHdr_strms {x} : (s.setHdr b n x).strms = s.strms := by rw [State.setHdr]; split <;> rfl
@[simp] theorem setHdr_benches {x} : (s.setHdr b n x).benches = s.benches := by rw [State.setHdr]; split <;> rfl
@[simp] theorem setHdr_lutSlots {x} : (s.setHdr b n x).lutSlots = s.lutSlots := by rw [State.setHdr]; split <;> rfl
@[simp] theorem setHdr_profiles {x} : (s.setHdr b n x).profiles = s.profiles := by rw [State.setHdr]; split <;> rfl
@[simp] theorem setHdr_ctls {x} : (s.setHdr b n x).ctls = s.ctls := by rw [State.setHdr]; split <;> rfl
@[simp] theorem setHdr_directs {x} : (s.setHdr b n x).directs = s.directs := by rw [State.setHdr]; split <;> rfl
@[simp] theorem setHdr_zraws {x} : (s.setHdr b n x).zraws = s.zraws := by rw [State.setHdr]; split <;> rfl
@[simp] theorem setHdr_stageIdx {x} : (s.setHdr b n x).stageIdx = s.stageIdx := by rw [State.setHdr]; split <;> rfl
@[simp] theorem setHdr_encs {x} : (s.setHdr b n x).encs = s.encs := by rw [State.setHdr]; split <;> rfl
@[simp] theorem setHdr_decs {x} : (s.setHdr b n x).decs = s.decs := by rw [State.setHdr]; split <;> rfl
@[simp] theorem setHdr_pool {x} : (s.setHdr b n x).pool = s.pool := by rw [State.setHdr]; split <;> rfl
@[simp] theorem setHdr_lays {x} : (s.setHdr b n x).lays = s.lays := by rw [State.setHdr]; split <;> rfl
@[simp] theorem setHdr_heads {x} : (s.setHdr b n x).heads = s.heads := by rw [State.setHdr]; split <;> rfl
@[simp] theorem setHdr_dpos {x} : (s.setHdr b n x).dpos = s.dpos := by rw [State.setHdr]; split <;> rfl
@[simp] theorem setHdr_chks {x} : (s.setHdr b n x).chks = s.chks := by rw [State.setHdr]; split <;> rfl
@[simp] theorem setHdr_nets {x} : (s.setHdr b n x).nets = s.nets := by rw [State.setHdr]; split <;> rfl
@[simp] theorem setHdr_sess {x} : (s.setHdr b n x).sess = s.sess := by rw [State.setHdr]; split <;> rfl
@[simp] theorem setHdr_flows {x} : (s.setHdr b n x).flows = s.flows := by rw [State.setHdr]; split <;> rfl
@[simp] theorem setHdr_pkt {x} : (s.setHdr b n x).pkt = s.pkt := by rw [State.setHdr]; split <;> rfl
@[simp] theorem setHdr_clocks {x} : (s.setHdr b n x).clocks = s.clocks := by rw [State.setHdr]; split <;> rfl
@[simp] theorem setHdr_doms {x} : (s.setHdr b n x).doms = s.doms := by rw [State.setHdr]; split <;> rfl
@[simp] theorem setHdr_ppsIn {x} : (s.setHdr b n x).ppsIn = s.ppsIn := by rw [State.setHdr]; split <;> rfl
@[simp] theorem setHdr_ppsRise {x} : (s.setHdr b n x).ppsRise = s.ppsRise := by rw [State.setHdr]; split <;> rfl
@[simp] theorem setHdr_auds {x} : (s.setHdr b n x).auds = s.auds := by rw [State.setHdr]; split <;> rfl
@[simp] theorem setHdr_trigger {x} : (s.setHdr b n x).trigger = s.trigger := by rw [State.setHdr]; split <;> rfl
@[simp] theorem setHdr_mem {x} : (s.setHdr b n x).mem = s.mem := by rw [State.setHdr]; split <;> rfl
@[simp] theorem setHdr_ports {x} : (s.setHdr b n x).ports = s.ports := by rw [State.setHdr]; split <;> rfl
@[simp] theorem setHdr_thmTimers {x} : (s.setHdr b n x).thmTimers = s.thmTimers := by rw [State.setHdr]; split <;> rfl
@[simp] theorem setHdr_sec {x} : (s.setHdr b n x).sec = s.sec := by rw [State.setHdr]; split <;> rfl
@[simp] theorem setHdr_pins {x} : (s.setHdr b n x).pins = s.pins := by rw [State.setHdr]; split <;> rfl
@[simp] theorem setHdr_sup {x} : (s.setHdr b n x).sup = s.sup := by rw [State.setHdr]; split <;> rfl
@[simp] theorem setHdr_pending {x} : (s.setHdr b n x).pending = s.pending := by rw [State.setHdr]; split <;> rfl

/-! ### An entry just written -/

theorem port_setPort {x} (h : Tbl.wf HostPort.reset s.ports = true) : (s.setPort n x).port n = x :=
  tbl_get_put_same (tbl_wf_sorted h)
theorem port_setPort_other {x} (h : m ≠ n) : (s.setPort n x).port m = s.port m := tbl_get_put_other h
theorem aud_setAud {x} (h : Tbl.wf Aud.reset s.auds = true) : (s.setAud n x).aud n = x :=
  tbl_get_put_same (tbl_wf_sorted h)
theorem aud_setAud_other {x} (h : m ≠ n) : (s.setAud n x).aud m = s.aud m := tbl_get_put_other h
theorem ctl_setCtl {x} (h : Tbl.wf Ctl.reset s.ctls = true) : (s.setCtl n x).ctl n = x :=
  tbl_get_put_same (tbl_wf_sorted h)
theorem ctl_setCtl_other {x} (h : m ≠ n) : (s.setCtl n x).ctl m = s.ctl m := tbl_get_put_other h
theorem chk_setChk {x} (h : Tbl.wf ChkUnit.reset s.chks = true) : (s.setChk n x).chk n = x :=
  tbl_get_put_same (tbl_wf_sorted h)
theorem chk_setChk_other {x} (h : m ≠ n) : (s.setChk n x).chk m = s.chk m := tbl_get_put_other h
theorem clk_setClk {x} (h : Tbl.wf Clock.reset s.clocks = true) : (s.setClk n x).clk n = x :=
  tbl_get_put_same (tbl_wf_sorted h)
theorem clk_setClk_other {x} (h : m ≠ n) : (s.setClk n x).clk m = s.clk m := tbl_get_put_other h
theorem lay_setLay {x} (h : Tbl.wf Lay.reset s.lays = true) : (s.setLay n x).lay n = x :=
  tbl_get_put_same (tbl_wf_sorted h)
theorem lay_setLay_other {x} (h : m ≠ n) : (s.setLay n x).lay m = s.lay m := tbl_get_put_other h
theorem head_setHead {x} (h : Tbl.wf Head.reset s.heads = true) : (s.setHead n x).head n = x :=
  tbl_get_put_same (tbl_wf_sorted h)
theorem head_setHead_other {x} (h : m ≠ n) : (s.setHead n x).head m = s.head m := tbl_get_put_other h
theorem dec_setDec {x} (h : Tbl.wf DecCtx.reset s.decs = true) : (s.setDec n x).dec n = x :=
  tbl_get_put_same (tbl_wf_sorted h)
theorem dec_setDec_other {x} (h : m ≠ n) : (s.setDec n x).dec m = s.dec m := tbl_get_put_other h
theorem enc_setEnc {x} (h : Tbl.wf EncCtx.reset s.encs = true) : (s.setEnc n x).enc n = x :=
  tbl_get_put_same (tbl_wf_sorted h)
theorem enc_setEnc_other {x} (h : m ≠ n) : (s.setEnc n x).enc m = s.enc m := tbl_get_put_other h
theorem direct_setDirect {x} (h : Tbl.wf [] s.directs = true) : (s.setDirect n x).direct n = x :=
  tbl_get_put_same (tbl_wf_sorted h)
theorem direct_setDirect_other {x} (h : m ≠ n) : (s.setDirect n x).direct m = s.direct m := tbl_get_put_other h
theorem flow_setFlow {x} (h : Tbl.wf Flow.reset s.flows = true) : (s.setFlow n x).flow n = x :=
  tbl_get_put_same (tbl_wf_sorted h)
theorem flow_setFlow_other {x} (h : m ≠ n) : (s.setFlow n x).flow m = s.flow m := tbl_get_put_other h
theorem strm_setStrm {x} (h : Tbl.wf Strm.reset s.strms = true) : (s.setStrm n x).strm n = x :=
  tbl_get_put_same (tbl_wf_sorted h)
theorem strm_setStrm_other {x} (h : m ≠ n) : (s.setStrm n x).strm m = s.strm m := tbl_get_put_other h
theorem bench_setBench {x} (h : Tbl.wf Bench.reset s.benches = true) : (s.setBench n x).bench n = x :=
  tbl_get_put_same (tbl_wf_sorted h)
theorem bench_setBench_other {x} (h : m ≠ n) : (s.setBench n x).bench m = s.bench m := tbl_get_put_other h
theorem asm_setAsm {x} (h : Tbl.wf Asm.reset s.asms = true) : (s.setAsm n x).asm n = x :=
  tbl_get_put_same (tbl_wf_sorted h)
theorem asm_setAsm_other {x} (h : m ≠ n) : (s.setAsm n x).asm m = s.asm m := tbl_get_put_other h
theorem dpo_setDpo {x} (h : Tbl.wf Dpo.reset s.dpos = true) : (s.setDpo n x).dpo n = x :=
  tbl_get_put_same (tbl_wf_sorted h)
theorem dpo_setDpo_other {x} (h : m ≠ n) : (s.setDpo n x).dpo m = s.dpo m := tbl_get_put_other h
theorem dom_setDom {x} (h : Tbl.wf TimeDom.reset s.doms = true) : (s.setDom n x).dom n = x :=
  tbl_get_put_same (tbl_wf_sorted h)
theorem dom_setDom_other {x} (h : m ≠ n) : (s.setDom n x).dom m = s.dom m := tbl_get_put_other h
theorem sessOf_setSess {x} (h : Tbl.wf Sess.reset s.sess = true) : (s.setSess n x).sessOf n = x :=
  tbl_get_put_same (tbl_wf_sorted h)
theorem sessOf_setSess_other {x} (h : m ≠ n) : (s.setSess n x).sessOf m = s.sessOf m := tbl_get_put_other h
theorem net_setNet {x} (h : Tbl.wf NetPort.reset s.nets = true) : (s.setNet n x).net n = x :=
  tbl_get_put_same (tbl_wf_sorted h)
theorem net_setNet_other {x} (h : m ≠ n) : (s.setNet n x).net m = s.net m := tbl_get_put_other h
theorem zraw_setZraw {x} (h : Tbl.wf Zraw.reset s.zraws = true) : (s.setZraw n x).zraw n = x :=
  tbl_get_put_same (tbl_wf_sorted h)
theorem zraw_setZraw_other {x} (h : m ≠ n) : (s.setZraw n x).zraw m = s.zraw m := tbl_get_put_other h
theorem buf_setBuf {x} (h : Tbl.wf Buf.reset s.pool.bufs = true) : (s.setBuf n x).buf n = x :=
  tbl_get_put_same (tbl_wf_sorted h)
theorem buf_setBuf_other {x} (h : m ≠ n) : (s.setBuf n x).buf m = s.buf m := tbl_get_put_other h

end Sys2Proof.Machine
end

