-- ==== Sys2Proof/Laws/Bus.lean ====
section
/-! SUPPORT. What a register access does, said once: a write that reaches an instance finds the part as `onBus` has it, passes or
fails the checks of R28 there, and then does what the register's own write does. -/

namespace Sys2Proof.Machine

variable {s : State} {o : Origin} {b : Block} {n t : Nat}

theorem good_of_inv (h : Inv s) : Good ⟨s.pending, s.sent, s.free⟩ s :=
  ⟨rfl, List.suffix_rfl, Nat.le_refl _, h.dram, h.regs, h.stag, h.hdrs, h.tables⟩

theorem inv_of_good {g : Ghost} (h : Good g s) : Inv s := ⟨h.dram, h.regs, h.stag, h.hdrs, h.tables⟩

/-- A header written is the one read, whether or not its table is sorted elsewhere: of an instance that exists. -/
theorem hdr_setHdr {c : Block} {m : Nat} {x : Header} (hs : Tbl.sorted s.hdrs = true) (hm : m < blkCount c) :
    (s.setHdr b n x).hdr c m = if (c, m) = (b, n) then x else s.hdr c m := by
  split
  · rename_i e
    cases e
    exact hdr_setHdr_same hs hm
  · rename_i e
    exact hdr_setHdr_other hm e

theorem sorted_setHdr {x : Header} (hs : Tbl.sorted s.hdrs = true) : Tbl.sorted (s.setHdr b n x).hdrs = true := by
  rw [State.setHdr]
  split
  · exact tbl_sorted_put hs
  · exact hs

/-- A write that reaches an instance changes no header but for a lease timer. -/
theorem onBus_hdr {c : Block} {m : Nat} (hs : Tbl.sorted s.hdrs = true) (hm : m < blkCount c) :
    ∃ l, (onBus o b n t s).hdr c m = { s.hdr c m with leaseTimer := l } := by
  rw [onBus, ownerWrote]
  split
  · exact ⟨(s.hdr c m).leaseTimer, rfl⟩
  · have key : ∀ (l : List (Block × Nat)) (y : State), Tbl.sorted y.hdrs = true →
        (∃ k, y.hdr c m = { s.hdr c m with leaseTimer := k }) →
        ∃ k, (forEach l (fun x r => r.setHdr x.1 x.2 { r.hdr x.1 x.2 with leaseTimer := false }) y).hdr c m =
          { s.hdr c m with leaseTimer := k } := by
      intro l
      induction l with
      | nil => exact fun _ _ h => h
      | cons a l ih =>
        intro y hy ⟨k, hk⟩
        refine ih _ (sorted_setHdr hy) ?_
        rw [hdr_setHdr hy hm]
        split
        · rename_i e
          have e1 : c = a.1 := congrArg Prod.fst e
          have e2 : m = a.2 := congrArg Prod.snd e
          subst e1 e2
          exact ⟨false, by rw [hk]⟩
        · exact ⟨k, hk⟩
    exact key _ _ hs ⟨_, rfl⟩

theorem onBus_regs : (onBus o b n t s).regs = s.regs := by
  have : ∀ l (y : State), (forEach l (fun (x : Block × Nat) r => r.setHdr x.1 x.2 { r.hdr x.1 x.2 with leaseTimer := false }) y).regs =
      y.regs := by
    intro l
    induction l with
    | nil => exact fun _ => rfl
    | cons a l ih => intro y; exact (ih _).trans (setHdr_regs ..)
  rw [onBus, ownerWrote]
  split
  · rfl
  · exact this _ _

theorem onBus_stag : (onBus o b n t s).stag = s.stag := by
  have : ∀ l (y : State), (forEach l (fun (x : Block × Nat) r => r.setHdr x.1 x.2 { r.hdr x.1 x.2 with leaseTimer := false }) y).stag =
      y.stag := by
    intro l
    induction l with
    | nil => exact fun _ => rfl
    | cons a l ih => intro y; exact (ih _).trans (setHdr_stag ..)
  rw [onBus, ownerWrote]
  split
  · rfl
  · exact this _ _

theorem inv_onBus (h : Inv s) : Inv (onBus o b n t s) := inv_of_good (good_ownerWrote (good_at (good_of_inv h)))

/-- The checks before state and range see what they saw before the write reached the instance. -/
theorem accessCode_onBus {off r : Nat} (hs : Tbl.sorted s.hdrs = true) (hn : n < blkCount b) :
    accessCode (onBus o b n t s) o b n off r = accessCode s o b n off r := by
  obtain ⟨l, hl⟩ := onBus_hdr (o := o) (b := b) (n := n) (t := t) hs hn
  unfold accessCode
  rw [hl]
  rfl

/-- A write of a whole register of an instance that exists. -/
theorem writeReg_addr {d off : Nat} {v : Word} (hs : Tbl.sorted s.hdrs = true) (hn : n < blkCount b)
    (ho : off < blkPages b * 0x1000) (hr : isRegister b off = true) :
    writeReg o d (addrOf b n off) v (s.at t) =
      if accessCode s o b n off (if off % 0x1000 = 0x1C then 2 else 1) ≠ 0 then
        refuseAccess o b n off (accessCode s o b n off (if off % 0x1000 = 0x1C then 2 else 1)) (onBus o b n t s)
      else if inHeader off then writeHeader o b n off v (onBus o b n t s)
      else match findRow off (regRows b) with
        | some (row, _) => writeBlock o d b n off row v (onBus o b n t s)
        | none => onBus o b n t s := by
  rw [writeReg, locate_addrOf hn ho]
  simp only [writeAt, hr, Bool.not_true, Bool.false_eq_true, if_false]
  rw [← onBus, accessCode_onBus hs hn]
  all_goals rfl

theorem isRegister_page {p : Page} {off : Nat} (h : off < 0x34) : isRegister p.blk (pageOff p off) = true := by
  have e : pageOff p off % 0x1000 = off := by simp only [pageOff]; omega
  have h1 : off < 0x40 := by omega
  simp only [isRegister, inHeader, e, h1, h, decide_true, if_true]

theorem pageOff_lt {p : Page} {off : Nat} (hp : PageOk p) (h : off < 0x1000) : pageOff p off < blkPages p.blk * 0x1000 := by
  have := hp.2
  have e : 0x1000 * p.pg + off < (p.pg + 1) * 0x1000 := by omega
  exact Nat.lt_of_lt_of_le e (Nat.mul_le_mul_right _ this)

/-- A granted write of a header register through any page of an instance's window. -/
theorem wrote_header {p : Page} {off v : Nat} (hs : Tbl.sorted s.hdrs = true) (hp : PageOk p) (h : off < 0x34)
    (ha : accessCode s o p.blk p.inst (pageOff p off) (if off = 0x1C then 2 else 1) = 0) :
    wrote o (pageAddr p off) v t s =
      .next (after s (writeHeader o p.blk p.inst (pageOff p off) (BitVec.ofNat 32 v) (onBus o p.blk p.inst t s))) := by
  have e : pageOff p off % 0x1000 = off := by simp only [pageOff]; omega
  rw [wrote, busStep, pageAddr, if_pos ⟨hp.1, hp.2⟩]
  change Host.Outcome.next (after s (writeReg o 0 (addrOf p.blk p.inst (pageOff p off)) _ (s.at t))) = _
  rw [writeReg_addr hs hp.1 (pageOff_lt hp (by omega)) (isRegister_page h), e, ha]
  have h1 : inHeader (pageOff p off) = true := by
    have : off < 0x40 := by omega
    simp only [inHeader, e, this, decide_true]
  rw [if_neg (by simp), if_pos h1]

end Sys2Proof.Machine
end

