-- ==== Sys2Proof/Laws/Sound.lean ====
section
/-! SUPPORT. `Inv` as a test that evaluates: a concrete state that passes it is sound. -/

namespace Sys2Proof.Machine

/-- A table of registers passes: keys rising, no entry at its reset value. -/
def regsTest (t : Tbl Word) : Bool := Tbl.sorted t && t.all (fun e => e.2 != resetAt e.1)

/-- A header passes. -/
def hdrTest (h : Header) : Bool :=
  bitsOf h.rights 4 4 == bitsOf h.rights 8 4 && (!h.pendingCommit || h.outcome == 1 || h.outcome == 3) &&
    (!h.errLost || h.errCode != 0) && decide (h.owner ≤ 6)

/-- The other tables pass. -/
def tablesTest (s : State) : Bool :=
  Tbl.wf Asm.reset s.asms && Tbl.wf Strm.reset s.strms && Tbl.wf Bench.reset s.benches && Tbl.wf [] s.lutSlots &&
  Tbl.wf Profile.empty s.profiles && Tbl.wf Ctl.reset s.ctls && Tbl.wf [] s.directs && Tbl.wf Zraw.reset s.zraws &&
  Tbl.wf 0 s.stageIdx && Tbl.wf EncCtx.reset s.encs && Tbl.wf DecCtx.reset s.decs && Tbl.wf Lay.reset s.lays &&
  Tbl.wf Head.reset s.heads && Tbl.wf Dpo.reset s.dpos && Tbl.wf ChkUnit.reset s.chks && Tbl.wf NetPort.reset s.nets &&
  Tbl.wf Sess.reset s.sess && Tbl.wf Flow.reset s.flows && Tbl.wf Clock.reset s.clocks && Tbl.wf TimeDom.reset s.doms &&
  Tbl.wf Aud.reset s.auds && Tbl.wf HostPort.reset s.ports && Tbl.wf Buf.reset s.pool.bufs && Tbl.wf [] s.pool.lists &&
  decide (s.thmTimers.Pairwise (fun a b => a < b))

/-- A state passes. -/
def soundTest (s : State) : Bool :=
  Memory.wf s.dram && regsTest s.regs && regsTest s.stag && (Tbl.sorted s.hdrs && s.hdrs.all (fun e => hdrTest e.2)) &&
    tablesTest s

theorem regsOk_of_test {t : Tbl Word} (h : regsTest t = true) : regsOk t := by
  simp only [regsTest, Bool.and_eq_true, List.all_eq_true, bne_iff_ne] at h
  exact h

theorem hdrOk_of_test {h : Header} (k : hdrTest h = true) : HdrOk h := by
  simp only [hdrTest, Bool.and_eq_true, Bool.or_eq_true, beq_iff_eq, bne_iff_ne, decide_eq_true_eq,
    Bool.not_eq_true'] at k
  obtain ⟨⟨⟨a, b⟩, c⟩, d⟩ := k
  refine ⟨a, fun p => ?_, fun p => ?_, d⟩
  · rcases b with (b | b) | b
    · simp [p] at b
    · exact .inl b
    · exact .inr b
  · rcases c with c | c
    · simp [p] at c
    · exact c

/-- A state that passes the test is sound. -/
theorem inv_of_test {s : State} (h : soundTest s = true) : Inv s := by
  simp only [soundTest, Bool.and_eq_true] at h
  obtain ⟨⟨⟨⟨a, b⟩, c⟩, d⟩, e⟩ := h
  simp only [tablesTest, Bool.and_eq_true, decide_eq_true_eq] at e
  obtain ⟨⟨⟨⟨⟨⟨⟨⟨⟨⟨⟨⟨⟨⟨⟨⟨⟨⟨⟨⟨⟨⟨⟨⟨e1, e2⟩, e3⟩, e4⟩, e5⟩, e6⟩, e7⟩, e8⟩, e9⟩, e10⟩, e11⟩, e12⟩, e13⟩, e14⟩, e15⟩, e16⟩,
    e17⟩, e18⟩, e19⟩, e20⟩, e21⟩, e22⟩, e23⟩, e24⟩, e25⟩ := e
  exact ⟨a, regsOk_of_test b, regsOk_of_test c, ⟨d.1, fun x hx => hdrOk_of_test (List.all_eq_true.1 d.2 x hx)⟩,
    ⟨e1, e2, e3, e4, e5, e6, e7, e8, e9, e10, e11, e12, e13, e14, e15, e16, e17, e18, e19, e20, e21, e22, e23, e24, e25⟩⟩

end Sys2Proof.Machine
end

