-- ==== Sys2Proof/Laws/WithinOps.lean ====
section
/-! SUPPORT. Which parts of a state each operation of Ops.lean may write. -/

namespace Sys2Proof.Machine

variable {L : Nat} {s0 s : State}

theorem within_at {a1} (hL : sub 1180591620717411303424 L = true) (h : Within L s0 s) : Within L s0 (State.at s a1)
      := by
  delta State.at
  refine within_upd_now (sub_of hL rfl) ?_
  assumption

theorem within_emit {a1} (hL : sub 4722366482869645213696 L = true) (h : Within L s0 s) : Within L s0 (State.emit s
      a1) := by
  delta State.emit
  refine within_upd_sent (sub_of hL rfl) ?_
  assumption

theorem within_fresh (hL : sub 2361183241434822606848 L = true) (h : Within L s0 s) : Within L s0 (State.fresh s)
      := by
  delta State.fresh
  refine within_upd_free (sub_of hL rfl) ?_
  assumption

theorem within_setPort {a1 a2} (hL : sub 2535301200456458802993406410752 L = true) (h : Within L s0 s) : Within L
      s0 (State.setPort s a1 a2) := by
  delta State.setPort
  refine within_upd_ports (sub_of hL rfl) ?_
  assumption

theorem within_commitAbort {a0 a1} (q1_0 : sub (partH a0) L = true) (q0_0 : sub (partW a0) L = true) (q2_0 : sub
      (partG a0) L = true) (h : Within L s0 s) : Within L s0 (commitAbort a0 a1 s) := by
  delta commitAbort
  extract_lets +onlyGivenNames -merge -useContext -underBinder x2_0 x2_1
  have hx2_1 : Within L s0 x2_1 := by
    refine ite_ind ?_ ?_
    · exact within_setHdr q1_0 (by assumption)
    · assumption
  clear_value x2_1
  exact within_discardGroup q0_0 q1_0 q2_0 (by assumption)

theorem within_sendMsix {a0 a1} (hL : sub 2535301205178825285863051624448 L = true) (h : Within L s0 s) : Within L
      s0 (sendMsix a0 a1 s) := by
  delta sendMsix
  extract_lets +onlyGivenNames -merge -useContext -underBinder x2_0
  clear_value x2_0
  refine ite_ind ?_ ?_
  · assumption
  · refine ite_ind ?_ ?_
    · exact within_emit (sub_of hL rfl) (by assumption)
    · exact within_setPort (sub_of hL rfl) (by assumption)

theorem within_notify {a0 a1} (hL : sub 2535301205178825285863051624448 L = true) (h : Within L s0 s) : Within L s0
      (notify a0 a1 s) := by
  delta notify
  extract_lets +onlyGivenNames -merge -useContext -underBinder x2_0 x2_1 x2_2 x2_3
  clear_value x2_0 x2_1
  have hx2_2 : Within L s0 x2_2 := by
    refine ite_ind ?_ ?_
    · exact within_sendMsix (sub_of hL rfl) (by assumption)
    · assumption
  clear_value x2_2
  have hx2_3 : Within L s0 x2_3 := by
    refine ite_ind ?_ ?_
    · exact within_sendMsix (sub_of hL rfl) (by assumption)
    · assumption
  clear_value x2_3
  refine ite_ind ?_ ?_
  · exact within_emit (sub_of hL rfl) (by assumption)
  · assumption

theorem within_raise {a0 a1 a2} (hL : sub 2535301205178825285863051624448 L = true) (q1_0 : sub (partH a0) L =
      true) (h : Within L s0 s) : Within L s0 (raise a0 a1 a2 s) := by
  delta raise
  extract_lets +onlyGivenNames -merge -useContext -underBinder x2_0 x2_1 x2_2
  have hx2_2 : Within L s0 x2_2 := by
    exact within_setHdr q1_0 (by assumption)
  clear_value x2_2
  refine ite_ind ?_ ?_
  · exact within_notify (sub_of hL rfl) (by assumption)
  · assumption

theorem within_raiseIf {a0 a1 a2 a3} (hL : sub 2535301205178825285863051624448 L = true) (q1_1 : sub (partH a1) L =
      true) (h : Within L s0 s) : Within L s0 (raiseIf a0 a1 a2 a3 s) := by
  delta raiseIf
  refine ite_ind ?_ ?_
  · exact within_raise (sub_of hL rfl) q1_1 (by assumption)
  · assumption

theorem within_commitDefer {a0 a1 a2} (hL : sub 2535301205178825285863051624448 L = true) (q1_0 : sub (partH a0) L
      = true) (h : Within L s0 s) : Within L s0 (commitDefer a0 a1 a2 s) := by
  delta commitDefer
  extract_lets +onlyGivenNames -merge -useContext -underBinder x2_0 x2_1
  have hx2_1 : Within L s0 x2_1 := by
    exact within_setHdr q1_0 (by assumption)
  clear_value x2_1
  exact within_raiseIf (sub_of hL rfl) q1_0 (by assumption)

theorem within_commitDone {a0 a1} (hL : sub 2535301205178825285863051624448 L = true) (q1_0 : sub (partH a0) L =
      true) (h : Within L s0 s) : Within L s0 (commitDone a0 a1 s) := by
  delta commitDone
  extract_lets +onlyGivenNames -merge -useContext -underBinder x2_0 x2_1
  have hx2_1 : Within L s0 x2_1 := by
    exact within_setHdr q1_0 (by assumption)
  clear_value x2_1
  exact within_raise (sub_of hL rfl) q1_0 (by assumption)

theorem within_logAccess {a0 a1 a2 a3 a4 a5} (hL : sub 2535301205178825285863051624448 L = true) (q1_0 : sub (partH
      a0) L = true) (h : Within L s0 s) : Within L s0 (logAccess a0 a1 a2 a3 a4 a5 s) := by
  delta logAccess
  extract_lets +onlyGivenNames -merge -useContext -underBinder x2_0
  refine ite_ind ?_ ?_
  · exact within_setHdr q1_0 (by assumption)
  · refine within_raise (sub_of hL rfl) q1_0 ?_
    exact within_setHdr q1_0 (by assumption)

theorem within_logError {a0 a1 a2 a3} (hL : sub 2535301205178825285863051624448 L = true) (q1_0 : sub (partH a0) L
      = true) (h : Within L s0 s) : Within L s0 (logError a0 a1 a2 a3 s) := by
  delta logError
  exact within_logAccess (sub_of hL rfl) q1_0 (by assumption)

theorem within_commitReject {a0 a1 a2 a3} (hL : sub 2535301205178825285863051624448 L = true) (q1_0 : sub (partH
      a0) L = true) (h : Within L s0 s) : Within L s0 (commitReject a0 a1 a2 a3 s) := by
  delta commitReject
  extract_lets +onlyGivenNames -merge -useContext -underBinder x2_0 x2_1 x2_2
  have hx2_1 : Within L s0 x2_1 := by
    exact within_setHdr q1_0 (by assumption)
  clear_value x2_1
  have hx2_2 : Within L s0 x2_2 := by
    exact within_logError (sub_of hL rfl) q1_0 (by assumption)
  clear_value x2_2
  exact within_raise (sub_of hL rfl) q1_0 (by assumption)

theorem within_commitRequest {a0 a1} (q1_0 : sub (partH a0) L = true) (h : Within L s0 s) : Within L s0
      (commitRequest a0 a1 s) := by
  delta commitRequest
  extract_lets +onlyGivenNames -merge -useContext -underBinder x2_0
  exact within_setHdr q1_0 (by assumption)

theorem within_logMem {a0 a1 a2 a3} (hL : sub 4294967296 L = true) (h : Within L s0 s) : Within L s0 (logMem a0 a1
      a2 a3 s) := by
  delta logMem
  extract_lets +onlyGivenNames -merge -useContext -underBinder x2_0 x2_1 x2_2 x2_3
  have hx2_0 : Within L s0 x2_0 := by
    exact within_set (sub_of hL rfl) (by assumption)
  clear_value x2_0
  have hx2_1 : Within L s0 x2_1 := by
    exact within_set (sub_of hL rfl) (by assumption)
  clear_value x2_1
  have hx2_2 : Within L s0 x2_2 := by
    exact within_set (sub_of hL rfl) (by assumption)
  clear_value x2_2
  have hx2_3 : Within L s0 x2_3 := by
    exact within_set (sub_of hL rfl) (by assumption)
  clear_value x2_3
  exact within_set (sub_of hL rfl) (by assumption)

theorem within_dramPoison {a0 a1 a2} (hL : sub 590295810363000619008 L = true) (h : Within L s0 s) : Within L s0
      (dramPoison a0 a1 a2 s) := by
  delta dramPoison
  refine ite_ind ?_ ?_
  · assumption
  · refine ite_ind ?_ ?_
    · exact within_logMem (sub_of hL rfl) (by assumption)
    · extract_lets +onlyGivenNames -merge -useContext -underBinder x6_0
      clear_value x6_0
      refine within_upd_poison (sub_of hL rfl) ?_
      assumption

theorem within_dramRead {a0 a1 a2} (hL : sub 4294967296 L = true) (h : Within L s0 s) : Within3 L s0 (dramRead a0
      a1 a2 s) := by
  delta dramRead
  extract_lets +onlyGivenNames -merge -useContext -underBinder x2_0 x2_1
  clear_value x2_0
  have hx2_1 : Within L s0 x2_1 := by
    refine ite_ind ?_ ?_
    · exact within_logMem (sub_of hL rfl) (by assumption)
    · assumption
  clear_value x2_1
  refine within3_mk ?_
  assumption

theorem within_dramWrite {a0 a1 a2} (hL : sub 885443715542353444864 L = true) (h : Within L s0 s) : Within L s0
      (dramWrite a0 a1 a2 s) := by
  delta dramWrite
  refine ite_ind ?_ ?_
  · assumption
  · refine ite_ind ?_ ?_
    · exact within_logMem (sub_of hL rfl) (by assumption)
    · extract_lets +onlyGivenNames -merge -useContext -underBinder x6_0 x6_1
      clear_value x6_0 x6_1
      refine within_upd_dram_poison (sub_of hL rfl) ?_
      assumption

theorem within_storeFields {a0 a1 a2 a3 a4} (q0_0 : sub (partW a0) L = true) (h : Within L s0 s) : Within L s0
      (storeFields a0 a1 a2 a3 a4 s) := by
  delta storeFields
  extract_lets +onlyGivenNames -merge -useContext -underBinder x2_0 x2_1 x2_2
  clear_value x2_0 x2_1
  have hx2_2 : Within L s0 x2_2 := by
    refine ite_ind ?_ ?_
    · assumption
    · exact within_setWord q0_0 (by assumption)
  clear_value x2_2
  refine ite_ind ?_ ?_
  · assumption
  · exact within_setWordS q0_0 (by assumption)

end Sys2Proof.Machine
end

