-- ==== Sys2Proof/Laws/WithinPace.lean ====
section
/-! SUPPORT. Which parts of a state each operation of Pace.lean may write. -/

namespace Sys2Proof.Machine

variable {L : Nat} {s0 s : State}

theorem within_setShed {a0 a1} (hL : sub 8 L = true) (h : Within L s0 s) : Within L s0 (setShed a0 a1 s) := by
  delta setShed
  exact within_set (sub_of (a := partW .pace) hL rfl) (by assumption)

theorem within_refreshShed (hL : sub 8 L = true) (h : Within L s0 s) : Within L s0 (refreshShed s) := by
  delta refreshShed
  extract_lets +onlyGivenNames -merge -useContext -underBinder x2_0 x2_1
  clear_value x2_0
  have hx2_1 : Within L s0 x2_1 := by
    exact within_set (sub_of hL rfl) (by assumption)
  clear_value x2_1
  refine ite_ind ?_ ?_
  · assumption
  · exact within_set (sub_of hL rfl) (by assumption)

theorem within_clearShed {a0} (hL : sub 9444732965739290427400 L = true) (h : Within L s0 s) : Within L s0
      (clearShed a0 s) := by
  delta clearShed
  extract_lets +onlyGivenNames -merge -useContext -underBinder x2_0
  have hx2_0 : Within L s0 x2_0 := by
    exact within_setShed (sub_of hL rfl) (by assumption)
  clear_value x2_0
  refine within_refreshShed (sub_of hL rfl) ?_
  refine within_upd_pace (sub_of hL rfl) ?_
  assumption

theorem within_countStep {a0 a1} (hL : sub 2535301205178825286000490577928 L = true) (h : Within L s0 s) : Within L
      s0 (countStep a0 a1 s) := by
  delta countStep
  extract_lets +onlyGivenNames -merge -useContext -underBinder x2_0 x2_1
  have hx2_0 : Within L s0 x2_0 := by
    exact within_inc (sub_of hL rfl) (by assumption)
  clear_value x2_0
  have hx2_1 : Within L s0 x2_1 := by
    exact within_set (sub_of hL rfl) (by assumption)
  clear_value x2_1
  refine within_raise (sub_of hL rfl) (sub_of hL rfl) ?_
  exact within_refreshShed (sub_of hL rfl) (by assumption)

theorem within_enterCondition {a0 a1 a2} (hL : sub 2535301205178825286000490577928 L = true) (h : Within L s0 s) :
      Within L s0 (enterCondition a0 a1 a2 s) := by
  delta enterCondition
  split
  · assumption
  · refine within_raise (sub_of hL rfl) (sub_of hL rfl) ?_
    exact within_set (sub_of hL rfl) (by assumption)

theorem within_shedStep {a0} (hL : sub 2535301214623558251739781005320 L = true) (h : Within L s0 s) : Within L s0
      (shedStep a0 s) := by
  delta shedStep
  extract_lets +onlyGivenNames -merge -useContext -underBinder x2_0 x2_1 x2_2
  have hx2_0 : Within L s0 x2_0 := by
    exact within_setShed (sub_of hL rfl) (by assumption)
  clear_value x2_0 x2_1
  have hx2_2 : Within L s0 x2_2 := by
    unfold x2_2
    refine within_upd_pace (sub_of hL rfl) ?_
    assumption
  clear_value x2_2
  exact within_countStep (sub_of hL rfl) (by assumption)

theorem within_shedPass {a0 a1 a2} (hL : sub 2535301214623558251739781005320 L = true) (h : Within L s0 s) :
      Within2 L s0 (shedPass a0 a1 a2 s) := by
  delta shedPass
  refine foldl_ind (fun _ _ _ => ?_) ?_
  · refine ite_ind ?_ ?_
    · assumption
    · refine within2_mk ?_
      refine within_shedStep (sub_of hL rfl) ?_
      show Within2 L s0 _
      assumption
  · refine within2_mk ?_
    assumption

theorem within_shed {a0 a1} (hL : sub 2535301214623558251739781005320 L = true) (h : Within L s0 s) : Within L s0
      (shed a0 a1 s) := by
  delta shed
  show Within2 L s0 _
  refine foldl_ind (fun _ _ _ => ?_) ?_
  · extract_lets +onlyGivenNames -merge -useContext -underBinder x4_0 x4_1
    clear_value x4_0
    have hx4_1 : Within2 L s0 x4_1 := by
      refine within_shedPass (sub_of hL rfl) ?_
      show Within2 L s0 _
      assumption
    clear_value x4_1
    refine within_shedPass (sub_of hL rfl) ?_
    show Within2 L s0 _
    assumption
  · refine within2_mk ?_
    assumption

theorem within_shedCheck {a0 a1 a2} (hL : sub 2535301214623558251739781005320 L = true) (h : Within L s0 s) :
      Within L s0 (shedCheck a0 a1 a2 s) := by
  delta shedCheck
  extract_lets +onlyGivenNames -merge -useContext -underBinder x2_0
  clear_value x2_0
  refine ite_ind ?_ ?_
  · refine within_upd_pace (sub_of hL rfl) ?_
    assumption
  · extract_lets +onlyGivenNames -merge -useContext -underBinder x4_0
    clear_value x4_0
    refine ite_ind ?_ ?_
    · refine within_upd_pace (sub_of hL rfl) ?_
      assumption
    · extract_lets +onlyGivenNames -merge -useContext -underBinder x6_0 x6_1
      clear_value x6_0
      have hx6_1 : Within L s0 x6_1 := by
        unfold x6_1
        refine within_upd_pace (sub_of hL rfl) ?_
        assumption
      clear_value x6_1
      exact within_shed (sub_of hL rfl) (by assumption)

theorem within_refreshPace (hL : sub 8 L = true) (h : Within L s0 s) : Within L s0 (refreshPace s) := by
  delta refreshPace
  extract_lets +onlyGivenNames -merge -useContext -underBinder x2_0 x2_1 x2_2
  clear_value x2_0
  have hx2_1 : Within L s0 x2_1 := by
    exact within_setSat (sub_of hL rfl) (by assumption)
  clear_value x2_1
  have hx2_2 : Within L s0 x2_2 := by
    exact within_setSat (sub_of hL rfl) (by assumption)
  clear_value x2_2
  refine within_forEach (fun _ _ _ => ?_) ?_
  · extract_lets +onlyGivenNames -merge -useContext -underBinder x4_0 x4_1 x4_2 x4_3
    clear_value x4_0
    have hx4_1 : Within L s0 x4_1 := by
      exact within_set (sub_of (a := partW .pace) hL rfl) (by assumption)
    clear_value x4_1
    have hx4_2 : Within L s0 x4_2 := by
      exact within_setSat (sub_of (a := partW .pace) hL rfl) (by assumption)
    clear_value x4_2 x4_3
    exact within_set (sub_of (a := partW .pace) hL rfl) (by assumption)
  · assumption

theorem within_judgePace {a0} (hL : sub 2535301214623558251739781005320 L = true) (h : Within L s0 s) : Within L s0
      (judgePace a0 s) := by
  delta judgePace
  extract_lets +onlyGivenNames -merge -useContext -underBinder x2_0 x2_1 x2_2 x2_3 x2_4 x2_5 x2_6 x2_7
  clear_value x2_1 x2_2 x2_3 x2_4 x2_5 x2_6
  have hx2_7 : Within L s0 x2_7 := by
    unfold x2_7
    refine within_upd_pace (sub_of hL rfl) ?_
    assumption
  clear_value x2_7
  refine within_enterCondition (sub_of hL rfl) ?_
  exact within_enterCondition (sub_of hL rfl) (by assumption)

theorem within_intervalEnd {a0 a1 a2} (hL : sub 2535301215804149872457192308744 L = true) (h : Within L s0 s) :
      Within L s0 (intervalEnd a0 a1 a2 s) := by
  delta intervalEnd
  extract_lets +onlyGivenNames -merge -useContext -underBinder x2_0 x2_1 x2_2 x2_3 x2_4 x2_5 x2_6 x2_7 x2_8
  have hx2_0 : Within L s0 x2_0 := by
    exact within_at (sub_of hL rfl) (by assumption)
  clear_value x2_0 x2_1 x2_2
  have hx2_3 : Within L s0 x2_3 := by
    unfold x2_3
    refine within_upd_pace (sub_of hL rfl) ?_
    assumption
  clear_value x2_3
  have hx2_4 : Within L s0 x2_4 := by
    refine within_forEach (fun _ _ _ => ?_) ?_
    · extract_lets +onlyGivenNames -merge -useContext -underBinder x6_0
      have hx6_0 : Within L s0 x6_0 := by
        exact within_setSat (sub_of (a := partW .pace) hL rfl) (by assumption)
      clear_value x6_0
      exact within_setSat (sub_of (a := partW .pace) hL rfl) (by assumption)
    · assumption
  clear_value x2_4
  have hx2_5 : Within L s0 x2_5 := by
    exact within_shedCheck (sub_of hL rfl) (by assumption)
  clear_value x2_5
  have hx2_6 : Within L s0 x2_6 := by
    refine within_forEach (fun _ _ _ => ?_) ?_
    · extract_lets +onlyGivenNames -merge -useContext -underBinder x6_0
      clear_value x6_0
      refine ite_ind ?_ ?_
      · assumption
      · exact within_shedCheck (sub_of hL rfl) (by assumption)
    · assumption
  clear_value x2_6 x2_7
  have hx2_8 : Within L s0 x2_8 := by
    refine ite_ind ?_ ?_
    · split
      · assumption
      · refine within_upd_pace (sub_of hL rfl) ?_
        assumption
    · refine within_upd_pace (sub_of hL rfl) ?_
      assumption
  clear_value x2_8
  refine within_refreshPace (sub_of hL rfl) ?_
  exact within_judgePace (sub_of hL rfl) (by assumption)

theorem within_execPaceIntervalEnd {a0 a1 a2} (hL : sub 2535301215804149872457192308744 L = true) (h : Within L s0
      s) : WithinN L s0 (execPaceIntervalEnd a0 a1 a2 s) := by
  delta execPaceIntervalEnd
  refine withinN_next ?_
  exact within_intervalEnd (sub_of hL rfl) (by assumption)

theorem within_rampDone {a0} (hL : sub 2535301215804149872457192308744 L = true) (h : Within L s0 s) : Within L s0
      (rampDone a0 s) := by
  delta rampDone
  extract_lets +onlyGivenNames -merge -useContext -underBinder x2_0
  have hx2_0 : Within L s0 x2_0 := by
    exact within_at (sub_of hL rfl) (by assumption)
  clear_value x2_0
  refine ite_ind ?_ ?_
  · assumption
  · extract_lets +onlyGivenNames -merge -useContext -underBinder x4_0 x4_1 x4_2 x4_3
    have hx4_0 : Within L s0 x4_0 := by
      exact within_setState (sub_of hL rfl) (by assumption)
    clear_value x4_0
    have hx4_1 : Within L s0 x4_1 := by
      exact within_set (sub_of hL rfl) (by assumption)
    clear_value x4_1 x4_2
    have hx4_3 : Within L s0 x4_3 := by
      unfold x4_3
      refine within_upd_pace (sub_of hL rfl) ?_
      assumption
    clear_value x4_3
    refine within_raise (sub_of hL rfl) (sub_of hL rfl) ?_
    exact within_refreshPace (sub_of hL rfl) (by assumption)

theorem within_execRampDone {a0} (hL : sub 2535301215804149872457192308744 L = true) (h : Within L s0 s) : WithinN
      L s0 (execRampDone a0 s) := by
  delta execRampDone
  refine withinN_next ?_
  exact within_rampDone (sub_of hL rfl) (by assumption)

theorem within_restoreStep {a0} (hL : sub 2535301215804149872457192308744 L = true) (h : Within L s0 s) : Within L
      s0 (restoreStep a0 s) := by
  delta restoreStep
  extract_lets +onlyGivenNames -merge -useContext -underBinder x2_0
  have hx2_0 : Within L s0 x2_0 := by
    exact within_at (sub_of hL rfl) (by assumption)
  clear_value x2_0
  split
  · refine ite_ind ?_ ?_
    · assumption
    · extract_lets +onlyGivenNames -merge -useContext -underBinder x6_0 x6_1 x6_2
      have hx6_0 : Within L s0 x6_0 := by
        exact within_setShed (sub_of hL rfl) (by assumption)
      clear_value x6_0 x6_1
      have hx6_2 : Within L s0 x6_2 := by
        unfold x6_2
        refine within_upd_pace (sub_of hL rfl) ?_
        assumption
      clear_value x6_2
      refine within_refreshPace (sub_of hL rfl) ?_
      exact within_countStep (sub_of hL rfl) (by assumption)
  · assumption

theorem within_execRestoreStep {a0} (hL : sub 2535301215804149872457192308744 L = true) (h : Within L s0 s) :
      WithinN L s0 (execRestoreStep a0 s) := by
  delta execRestoreStep
  refine withinN_next ?_
  exact within_restoreStep (sub_of hL rfl) (by assumption)

theorem within_writeMode {a0 a1} (hL : sub 2535301214623558251739781005320 L = true) (h : Within L s0 s) : Within L
      s0 (writeMode a0 a1 s) := by
  delta writeMode
  extract_lets +onlyGivenNames -merge -useContext -underBinder x2_0
  clear_value x2_0
  refine ite_ind ?_ ?_
  · exact within_logAccess (sub_of hL rfl) (sub_of hL rfl) (by assumption)
  · refine ite_ind ?_ ?_
    · exact within_set (sub_of hL rfl) (by assumption)
    · split
      · exact within_logAccess (sub_of hL rfl) (sub_of hL rfl) (by assumption)
      · extract_lets +onlyGivenNames -merge -useContext -underBinder x8_0 x8_1 x8_2 x8_3
        clear_value x8_0
        have hx8_1 : Within L s0 x8_1 := by
          unfold x8_1
          refine within_upd_pace (sub_of hL rfl) ?_
          assumption
        clear_value x8_1
        have hx8_2 : Within L s0 x8_2 := by
          exact within_set (sub_of hL rfl) (by assumption)
        clear_value x8_2
        have hx8_3 : Within L s0 x8_3 := by
          exact within_set (sub_of hL rfl) (by assumption)
        clear_value x8_3
        refine within_refreshPace (sub_of hL rfl) ?_
        exact within_setState (sub_of hL rfl) (by assumption)

end Sys2Proof.Machine
end

