-- ==== Sys2Proof/Laws/WithinCctl.lean ====
section
/-! SUPPORT. Which parts of a state each operation of Cctl.lean may write. -/

namespace Sys2Proof.Machine

variable {L : Nat} {s0 s : State}

theorem within_setCtl {a1 a2} (hL : sub 604462909807314587353088 L = true) (h : Within L s0 s) : Within L s0
      (State.setCtl s a1 a2) := by
  delta State.setCtl
  refine within_upd_ctls (sub_of hL rfl) ?_
  assumption

theorem within_refreshCtl {a0} (hL : sub 2048 L = true) (h : Within L s0 s) : Within L s0 (refreshCtl a0 s) := by
  delta refreshCtl
  extract_lets +onlyGivenNames -merge -useContext -underBinder x2_0 x2_1 x2_2
  clear_value x2_0
  have hx2_1 : Within L s0 x2_1 := by
    exact within_set (sub_of hL rfl) (by assumption)
  clear_value x2_1
  have hx2_2 : Within L s0 x2_2 := by
    exact within_set (sub_of hL rfl) (by assumption)
  clear_value x2_2
  split
  · extract_lets +onlyGivenNames -merge -useContext -underBinder x4_0 x4_1
    have hx4_0 : Within L s0 x4_0 := by
      exact within_set (sub_of hL rfl) (by assumption)
    clear_value x4_0
    have hx4_1 : Within L s0 x4_1 := by
      exact within_set (sub_of hL rfl) (by assumption)
    clear_value x4_1
    exact within_set (sub_of hL rfl) (by assumption)
  · extract_lets +onlyGivenNames -merge -useContext -underBinder x4_0 x4_1
    have hx4_0 : Within L s0 x4_0 := by
      exact within_set (sub_of hL rfl) (by assumption)
    clear_value x4_0
    have hx4_1 : Within L s0 x4_1 := by
      exact within_set (sub_of hL rfl) (by assumption)
    clear_value x4_1
    exact within_set (sub_of hL rfl) (by assumption)

theorem within_pushResult {a0 a1} (hL : sub 2535301809641735128362011068416 L = true) (h : Within L s0 s) : Within
      L s0 (pushResult a0 a1 s) := by
  delta pushResult
  extract_lets +onlyGivenNames -merge -useContext -underBinder x2_0 x2_1 x2_2
  clear_value x2_0 x2_1
  have hx2_2 : Within L s0 x2_2 := by
    refine ite_ind ?_ ?_
    · exact within_setCtl (sub_of hL rfl) (by assumption)
    · refine within_inc (sub_of hL rfl) ?_
      exact within_setCtl (sub_of hL rfl) (by assumption)
  clear_value x2_2
  refine within_raiseIf (sub_of hL rfl) (sub_of hL rfl) ?_
  exact within_refreshCtl (sub_of hL rfl) (by assumption)

theorem within_failSet {a0 a1 a2} (hL : sub 2535301809641735128362011068416 L = true) (h : Within L s0 s) : Within
      L s0 (failSet a0 a1 a2 s) := by
  delta failSet
  extract_lets +onlyGivenNames -merge -useContext -underBinder x2_0
  clear_value x2_0
  split
  · assumption
  · refine ite_ind ?_ ?_
    · assumption
    · extract_lets +onlyGivenNames -merge -useContext -underBinder x6_0 x6_1 x6_2
      clear_value x6_0
      have hx6_1 : Within L s0 x6_1 := by
        exact within_setCtl (sub_of hL rfl) (by assumption)
      clear_value x6_1
      have hx6_2 : Within L s0 x6_2 := by
        refine within_forEach (fun _ _ _ => ?_) ?_
        · extract_lets +onlyGivenNames -merge -useContext -underBinder x10_0
          clear_value x10_0
          refine ite_ind ?_ ?_
          · refine within_refreshCtl (sub_of hL rfl) ?_
            exact within_setCtl (sub_of hL rfl) (by assumption)
          · exact within_pushResult (sub_of hL rfl) (by assumption)
        · assumption
      clear_value x6_2
      exact within_raise (sub_of hL rfl) (sub_of hL rfl) (by assumption)

theorem within_busFailure {a0 a1 a2} (hL : sub 2535301809641735128362011068416 L = true) (h : Within L s0 s) :
      Within L s0 (busFailure a0 a1 a2 s) := by
  delta busFailure
  extract_lets +onlyGivenNames -merge -useContext -underBinder x2_0 x2_1
  have hx2_0 : Within L s0 x2_0 := by
    refine within_raise (sub_of hL rfl) (sub_of hL rfl) ?_
    exact within_inc (sub_of hL rfl) (by assumption)
  clear_value x2_0 x2_1
  split
  · refine ite_ind ?_ ?_
    · refine within_setState (sub_of hL rfl) ?_
      exact within_setCtl (sub_of hL rfl) (by assumption)
    · assumption
  · exact within_setCtl (sub_of hL rfl) (by assumption)
  · exact within_failSet (sub_of hL rfl) (by assumption)
  · exact within_failSet (sub_of hL rfl) (by assumption)
  · exact within_setCtl (sub_of hL rfl) (by assumption)

theorem within_captureFrame {a0 a1 a2} (hL : sub 2535301812002918369796833675264 L = true) (h : Within L s0 s) :
      Within4 L s0 (captureFrame a0 a1 a2 s) := by
  delta captureFrame
  extract_lets +onlyGivenNames -merge -useContext -underBinder x2_0
  clear_value x2_0
  split
  · refine within4_mk ?_
    exact within_fresh (sub_of hL rfl) (by assumption)
  · extract_lets +onlyGivenNames -merge -useContext -underBinder x4_0 x4_1 x4_2 x4_3 x4_4 x4_5 x4_6
    clear_value x4_0 x4_1 x4_2 x4_3 x4_4 x4_5
    have hx4_6 : Within L s0 x4_6 := by
      exact within_setCtl (sub_of hL rfl) (by assumption)
    clear_value x4_6
    refine ite_ind ?_ ?_
    · split
      · extract_lets +onlyGivenNames -merge -useContext -underBinder x8_0
        have hx8_0 : Within L s0 x8_0 := by
          exact within_set (sub_of hL rfl) (by assumption)
        clear_value x8_0
        refine within4_mk ?_
        assumption
      · refine within4_mk ?_
        exact within_raise (sub_of hL rfl) (sub_of hL rfl) (by assumption)
    · refine within4_mk ?_
      assumption

theorem within_compareEcho {a0 a1 a2} (hL : sub 2535301205178825321047423715328 L = true) (h : Within L s0 s) :
      Within2 L s0 (compareEcho a0 a1 a2 s) := by
  delta compareEcho
  split
  · refine within2_mk ?_
    assumption
  · refine ite_ind ?_ ?_
    · refine within2_mk ?_
      refine within_raise (sub_of hL rfl) (sub_of hL rfl) ?_
      exact within_inc (sub_of hL rfl) (by assumption)
    · refine within2_mk ?_
      assumption

theorem within_setTrig {a0 a1} (hL : sub 20282409603651670423947251286016 L = true) (h : Within L s0 s) : Within L
      s0 (setTrig a0 a1 s) := by
  delta setTrig
  refine within_upd_pins (sub_of hL rfl) ?_
  assumption

theorem within_ctlDisable {a0} (hL : sub 22817711413293405552309262354432 L = true) (h : Within L s0 s) : Within L
      s0 (ctlDisable a0 s) := by
  delta ctlDisable
  extract_lets +onlyGivenNames -merge -useContext -underBinder x2_0 x2_1 x2_2 x2_3
  clear_value x2_0
  have hx2_2 : Within L s0 x2_2 := by
    exact within_setHdr (sub_of hL rfl) (by assumption)
  clear_value x2_2 x2_3
  refine ite_ind ?_ ?_
  · extract_lets +onlyGivenNames -merge -useContext -underBinder x4_0 x4_1
    clear_value x4_0 x4_1
    refine within_setState (sub_of hL rfl) ?_
    exact within_setCtl (sub_of hL rfl) (by assumption)
  · refine ite_ind ?_ ?_
    · extract_lets +onlyGivenNames -merge -useContext -underBinder x6_0 x6_1 x6_2 x6_3
      clear_value x6_0
      have hx6_1 : Within L s0 x6_1 := by
        exact within_setCtl (sub_of hL rfl) (by assumption)
      clear_value x6_1
      have hx6_2 : Within L s0 x6_2 := by
        refine within_forEach (fun _ _ _ => ?_) ?_
        · exact within_pushResult (sub_of hL rfl) (by assumption)
        · assumption
      clear_value x6_2
      have hx6_3 : Within L s0 x6_3 := by
        refine within_forEach (fun _ _ _ => ?_) ?_
        · exact within_failSet (sub_of hL rfl) (by assumption)
        · assumption
      clear_value x6_3
      refine within_refreshCtl (sub_of hL rfl) ?_
      exact within_setState (sub_of hL rfl) (by assumption)
    · refine ite_ind ?_ ?_
      · refine within_setTrig (sub_of hL rfl) ?_
        exact within_setState (sub_of hL rfl) (by assumption)
      · assumption

theorem within_ctlEnable {a0 a1} (hL : sub 2535301809641735128362011066368 L = true) (h : Within L s0 s) : Within L
      s0 (ctlEnable a0 a1 s) := by
  delta ctlEnable
  extract_lets +onlyGivenNames -merge -useContext -underBinder x2_0 x2_1
  clear_value x2_0 x2_1
  refine ite_ind ?_ ?_
  · exact within_logAccess (sub_of hL rfl) (sub_of hL rfl) (by assumption)
  · refine ite_ind ?_ ?_
    · assumption
    · refine ite_ind ?_ ?_
      · exact within_logAccess (sub_of hL rfl) (sub_of hL rfl) (by assumption)
      · refine ite_ind ?_ ?_
        · exact within_logAccess (sub_of hL rfl) (sub_of hL rfl) (by assumption)
        · extract_lets +onlyGivenNames -merge -useContext -underBinder x10_0 x10_1
          have hx10_1 : Within L s0 x10_1 := by
            exact within_setHdr (sub_of hL rfl) (by assumption)
          clear_value x10_1
          exact within_setCtl (sub_of hL rfl) (by assumption)

theorem within_transactionEnd {a0 a1 a2} (hL : sub 2535301809641735128362011068416 L = true) (h : Within L s0 s) :
      Within L s0 (transactionEnd a0 a1 a2 s) := by
  delta transactionEnd
  extract_lets +onlyGivenNames -merge -useContext -underBinder x2_0
  clear_value x2_0
  split
  · assumption
  · refine ite_ind ?_ ?_
    · assumption
    · refine ite_ind ?_ ?_
      · extract_lets +onlyGivenNames -merge -useContext -underBinder x8_0
        have hx8_0 : Within L s0 x8_0 := by
          exact within_setCtl (sub_of hL rfl) (by assumption)
        clear_value x8_0
        split
        · exact within_setCtl (sub_of hL rfl) (by assumption)
        · assumption
      · refine ite_ind ?_ ?_
        · exact within_setCtl (sub_of hL rfl) (by assumption)
        · refine within_busFailure (sub_of hL rfl) ?_
          exact within_setCtl (sub_of hL rfl) (by assumption)

theorem within_execBusTransactionEnd {a0 a1 a2 a3} (hL : sub 2535301810822326749079422371840 L = true) (h : Within
      L s0 s) : WithinN L s0 (execBusTransactionEnd a0 a1 a2 a3 s) := by
  delta execBusTransactionEnd
  refine withinN_next ?_
  refine within_transactionEnd (sub_of hL rfl) ?_
  exact within_at (sub_of hL rfl) (by assumption)

theorem within_fsyncEdge {a0} (hL : sub 20282409603651670423947251286016 L = true) (h : Within L s0 s) : Within L
      s0 (fsyncEdge a0 s) := by
  delta fsyncEdge
  refine ite_ind ?_ ?_
  · refine within_upd_pins (sub_of hL rfl) ?_
    assumption
  · assumption

theorem within_execFsyncEdge {a0 a1} (hL : sub 20282409604832262044664662589440 L = true) (h : Within L s0 s) :
      WithinN L s0 (execFsyncEdge a0 a1 s) := by
  delta execFsyncEdge
  refine withinN_next ?_
  refine within_fsyncEdge (sub_of hL rfl) ?_
  exact within_at (sub_of hL rfl) (by assumption)

theorem within_fsyncLow {a0} (hL : sub 20282409603651670423947251286016 L = true) (h : Within L s0 s) : Within L s0
      (fsyncLow a0 s) := by
  delta fsyncLow
  refine within_upd_pins (sub_of hL rfl) ?_
  assumption

theorem within_execFsyncPulseEnd {a0 a1} (hL : sub 20282409604832262044664662589440 L = true) (h : Within L s0 s) :
      WithinN L s0 (execFsyncPulseEnd a0 a1 s) := by
  delta execFsyncPulseEnd
  refine withinN_next ?_
  refine within_fsyncLow (sub_of hL rfl) ?_
  exact within_at (sub_of hL rfl) (by assumption)

theorem within_initDone {a0} (hL : sub 2535301809641735128362011066368 L = true) (h : Within L s0 s) : Within L s0
      (initDone a0 s) := by
  delta initDone
  extract_lets +onlyGivenNames -merge -useContext -underBinder x2_0
  clear_value x2_0
  refine ite_ind ?_ ?_
  · extract_lets +onlyGivenNames -merge -useContext -underBinder x4_0 x4_1
    clear_value x4_0 x4_1
    refine within_raise (sub_of hL rfl) (sub_of hL rfl) ?_
    refine within_setState (sub_of hL rfl) ?_
    exact within_setCtl (sub_of hL rfl) (by assumption)
  · assumption

theorem within_execInitDone {a0 a1} (hL : sub 2535301810822326749079422369792 L = true) (h : Within L s0 s) :
      WithinN L s0 (execInitDone a0 a1 s) := by
  delta execInitDone
  refine withinN_next ?_
  refine within_initDone (sub_of hL rfl) ?_
  exact within_at (sub_of hL rfl) (by assumption)

theorem within_safeEnd {a0} (hL : sub 2535301809641735128362011068416 L = true) (h : Within L s0 s) : Within L s0
      (safeEnd a0 s) := by
  delta safeEnd
  extract_lets +onlyGivenNames -merge -useContext -underBinder x2_0
  clear_value x2_0
  refine ite_ind ?_ ?_
  · assumption
  · extract_lets +onlyGivenNames -merge -useContext -underBinder x4_0 x4_1 x4_2 x4_3
    clear_value x4_0
    have hx4_1 : Within L s0 x4_1 := by
      exact within_setCtl (sub_of hL rfl) (by assumption)
    clear_value x4_1
    have hx4_2 : Within L s0 x4_2 := by
      refine within_forEach (fun _ _ _ => ?_) ?_
      · exact within_failSet (sub_of hL rfl) (by assumption)
      · assumption
    clear_value x4_2 x4_3
    refine ite_ind ?_ ?_
    · exact within_setCtl (sub_of hL rfl) (by assumption)
    · assumption

theorem within_execSafeEnd {a0 a1} (hL : sub 2535301810822326749079422371840 L = true) (h : Within L s0 s) :
      WithinN L s0 (execSafeEnd a0 a1 s) := by
  delta execSafeEnd
  refine withinN_next ?_
  refine within_safeEnd (sub_of hL rfl) ?_
  exact within_at (sub_of hL rfl) (by assumption)

theorem within_sequenceDelayEnd {a0} (hL : sub 604462909807314587353088 L = true) (h : Within L s0 s) : Within L s0
      (sequenceDelayEnd a0 s) := by
  delta sequenceDelayEnd
  exact within_setCtl (sub_of hL rfl) (by assumption)

theorem within_execSequenceDelayEnd {a0 a1} (hL : sub 605643501428031998656512 L = true) (h : Within L s0 s) :
      WithinN L s0 (execSequenceDelayEnd a0 a1 s) := by
  delta execSequenceDelayEnd
  refine withinN_next ?_
  refine within_sequenceDelayEnd (sub_of hL rfl) ?_
  exact within_at (sub_of hL rfl) (by assumption)

theorem within_stopDone {a0} (hL : sub 20282410208114580266446210727936 L = true) (h : Within L s0 s) : Within L s0
      (stopDone a0 s) := by
  delta stopDone
  extract_lets +onlyGivenNames -merge -useContext -underBinder x2_0
  clear_value x2_0
  refine ite_ind ?_ ?_
  · refine within_setTrig (sub_of hL rfl) ?_
    refine within_setState (sub_of hL rfl) ?_
    exact within_setCtl (sub_of hL rfl) (by assumption)
  · assumption

theorem within_execStopSequenceDone {a0 a1} (hL : sub 20282410209295171887163622031360 L = true) (h : Within L s0
      s) : WithinN L s0 (execStopSequenceDone a0 a1 s) := by
  delta execStopSequenceDone
  refine withinN_next ?_
  refine within_stopDone (sub_of hL rfl) ?_
  exact within_at (sub_of hL rfl) (by assumption)

theorem within_execStrobePulse {a0 a1 a2} (hL : sub 605643501428031998656512 L = true) (h : Within L s0 s) :
      WithinN L s0 (execStrobePulse a0 a1 a2 s) := by
  delta execStrobePulse
  extract_lets +onlyGivenNames -merge -useContext -underBinder x2_0 x2_1
  have hx2_0 : Within L s0 x2_0 := by
    exact within_at (sub_of hL rfl) (by assumption)
  clear_value x2_0 x2_1
  refine withinN_next ?_
  exact within_setCtl (sub_of hL rfl) (by assumption)

theorem within_execTrigPulseEnd {a0 a1} (hL : sub 20282409604832262044664662589440 L = true) (h : Within L s0 s) :
      WithinN L s0 (execTrigPulseEnd a0 a1 s) := by
  delta execTrigPulseEnd
  refine withinN_next ?_
  refine within_setTrig (sub_of hL rfl) ?_
  exact within_at (sub_of hL rfl) (by assumption)

theorem within_trigRise {a0} (hL : sub 20282409603651670423947251286016 L = true) (h : Within L s0 s) : Within L s0
      (trigRise a0 s) := by
  delta trigRise
  extract_lets +onlyGivenNames -merge -useContext -underBinder x2_0
  clear_value x2_0
  refine ite_ind ?_ ?_
  · assumption
  · exact within_setTrig (sub_of hL rfl) (by assumption)

theorem within_execTrigRise {a0 a1} (hL : sub 20282409604832262044664662589440 L = true) (h : Within L s0 s) :
      WithinN L s0 (execTrigRise a0 a1 s) := by
  delta execTrigRise
  refine withinN_next ?_
  refine ite_ind ?_ ?_
  · refine within_trigRise (sub_of hL rfl) ?_
    exact within_at (sub_of hL rfl) (by assumption)
  · exact within_at (sub_of hL rfl) (by assumption)

theorem within_writeWindow {a0} (hL : sub 2535301809641735128362011068416 L = true) (h : Within L s0 s) : Within L
      s0 (writeWindow a0 s) := by
  delta writeWindow
  refine ite_ind ?_ ?_
  · assumption
  · extract_lets +onlyGivenNames -merge -useContext -underBinder x4_0 x4_1 x4_2 x4_3 x4_4 x4_5 x4_6 x4_7
    clear_value x4_0 x4_1 x4_2 x4_3 x4_4 x4_5 x4_6 x4_7
    refine ite_ind ?_ ?_
    · exact within_setCtl (sub_of hL rfl) (by assumption)
    · extract_lets +onlyGivenNames -merge -useContext -underBinder x6_0 x6_1 x6_2 x6_3 x6_4 x6_5 x6_6 x6_7 x6_8
      clear_value x6_0 x6_1 x6_2 x6_3 x6_4 x6_5 x6_6 x6_7 x6_8
      refine ite_ind ?_ ?_
      · exact within_setCtl (sub_of hL rfl) (by assumption)
      · extract_lets +onlyGivenNames -merge -useContext -underBinder x8_0 x8_1 x8_2 x8_3 x8_4 x8_5
        clear_value x8_0 x8_1 x8_3
        have hx8_4 : Within L s0 x8_4 := by
          exact within_setCtl (sub_of hL rfl) (by assumption)
        clear_value x8_4
        have hx8_5 : Within L s0 x8_5 := by
          refine within_forEach (fun _ _ _ => ?_) ?_
          · extract_lets +onlyGivenNames -merge -useContext -underBinder x12_0
            have hx12_0 : Within L s0 x12_0 := by
              refine ite_ind ?_ ?_
              · assumption
              · exact within_inc (sub_of hL rfl) (by assumption)
            clear_value x12_0
            exact within_pushResult (sub_of hL rfl) (by assumption)
          · assumption
        clear_value x8_5
        exact within_refreshCtl (sub_of hL rfl) (by assumption)

theorem within_execWriteWindow {a0 a1} (hL : sub 2535301810822326749079422371840 L = true) (h : Within L s0 s) :
      WithinN L s0 (execWriteWindow a0 a1 s) := by
  delta execWriteWindow
  refine withinN_next ?_
  refine within_writeWindow (sub_of hL rfl) ?_
  exact within_at (sub_of hL rfl) (by assumption)

theorem within_xferDone {a0 a1} (hL : sub 2535301809641735128362011068416 L = true) (h : Within L s0 s) : Within L
      s0 (xferDone a0 a1 s) := by
  delta xferDone
  extract_lets +onlyGivenNames -merge -useContext -underBinder x2_0
  clear_value x2_0
  split
  · assumption
  · extract_lets +onlyGivenNames -merge -useContext -underBinder x4_0 x4_1 x4_2 x4_3 x4_4
    have hx4_0 : Within L s0 x4_0 := by
      exact within_setCtl (sub_of hL rfl) (by assumption)
    clear_value x4_0
    have hx4_1 : Within L s0 x4_1 := by
      exact within_set (sub_of hL rfl) (by assumption)
    clear_value x4_1
    have hx4_2 : Within L s0 x4_2 := by
      exact within_set (sub_of hL rfl) (by assumption)
    clear_value x4_2
    have hx4_3 : Within L s0 x4_3 := by
      exact within_set (sub_of hL rfl) (by assumption)
    clear_value x4_3
    have hx4_4 : Within L s0 x4_4 := by
      refine ite_ind ?_ ?_
      · refine within_forEach (fun _ _ _ => ?_) ?_
        · exact within_set (sub_of (a := partW .cctl) hL rfl) (by assumption)
        · assumption
      · assumption
    clear_value x4_4
    exact within_raise (sub_of hL rfl) (sub_of hL rfl) (by assumption)

theorem within_execXferDone {a0 a1 a2} (hL : sub 2535301810822326749079422371840 L = true) (h : Within L s0 s) :
      WithinN L s0 (execXferDone a0 a1 a2 s) := by
  delta execXferDone
  refine withinN_next ?_
  refine within_xferDone (sub_of hL rfl) ?_
  exact within_at (sub_of hL rfl) (by assumption)

theorem within_popResult {a0 a1} (hL : sub 604462909807314587355136 L = true) (h : Within L s0 s) : Within L s0
      (popResult a0 a1 s) := by
  delta popResult
  refine ite_ind ?_ ?_
  · refine within_refreshCtl (sub_of hL rfl) ?_
    exact within_setCtl (sub_of hL rfl) (by assumption)
  · assumption

theorem within_pushCmd {a0 a1 a2} (hL : sub 2535301809641735128362011068416 L = true) (h : Within L s0 s) : Within
      L s0 (pushCmd a0 a1 a2 s) := by
  delta pushCmd
  extract_lets +onlyGivenNames -merge -useContext -underBinder x2_0 x2_1 x2_2
  clear_value x2_0 x2_1 x2_2
  refine ite_ind ?_ ?_
  · exact within_logAccess (sub_of hL rfl) (sub_of hL rfl) (by assumption)
  · refine ite_ind ?_ ?_
    · exact within_logAccess (sub_of hL rfl) (sub_of hL rfl) (by assumption)
    · refine ite_ind ?_ ?_
      · exact within_logAccess (sub_of hL rfl) (sub_of hL rfl) (by assumption)
      · extract_lets +onlyGivenNames -merge -useContext -underBinder x8_0
        clear_value x8_0
        refine within_refreshCtl (sub_of hL rfl) ?_
        exact within_setCtl (sub_of hL rfl) (by assumption)

theorem within_resetCctl {a0} (hL : sub 20282410208114580231261838639104 L = true) (h : Within L s0 s) : Within L
      s0 (resetCctl a0 s) := by
  delta resetCctl
  refine within_setTrig (sub_of hL rfl) ?_
  exact within_setCtl (sub_of hL rfl) (by assumption)

theorem within_trigFire {a0 a1} (hL : sub 20282409603651670423947251286016 L = true) (h : Within L s0 s) : Within L
      s0 (trigFire a0 a1 s) := by
  delta trigFire
  refine ite_ind ?_ ?_
  · exact within_trigRise (sub_of hL rfl) (by assumption)
  · assumption

theorem within_xferStart {a0 a1 a2 a3} (hL : sub 2535301809641735128362011068416 L = true) (h : Within L s0 s) :
      Within L s0 (xferStart a0 a1 a2 a3 s) := by
  delta xferStart
  refine ite_ind ?_ ?_
  · assumption
  · extract_lets +onlyGivenNames -merge -useContext -underBinder x4_0
    clear_value x4_0
    refine ite_ind ?_ ?_
    · exact within_logAccess (sub_of hL rfl) (sub_of hL rfl) (by assumption)
    · extract_lets +onlyGivenNames -merge -useContext -underBinder x6_0 x6_1 x6_2
      clear_value x6_0
      have hx6_1 : Within L s0 x6_1 := by
        exact within_set (sub_of hL rfl) (by assumption)
      clear_value x6_1 x6_2
      refine ite_ind ?_ ?_
      · exact within_setCtl (sub_of hL rfl) (by assumption)
      · exact within_setCtl (sub_of hL rfl) (by assumption)

end Sys2Proof.Machine
end

