-- ==== Sys2Proof/Laws/WithinZraw.lean ====
section
/-! SUPPORT. Which parts of a state each operation of Zraw.lean may write. -/

namespace Sys2Proof.Machine

variable {L : Nat} {s0 s : State}

theorem within_setZraw {a1 a2} (hL : sub 2417851639229258349412352 L = true) (h : Within L s0 s) : Within L s0
      (State.setZraw s a1 a2) := by
  delta State.setZraw
  refine within_upd_zraws (sub_of hL rfl) ?_
  assumption

theorem within_countBytes {a0 a1 a2} (hL : sub 2417851639229258349543424 L = true) (h : Within L s0 s) : Within L
      s0 (countBytes a0 a1 a2 s) := by
  delta countBytes
  extract_lets +onlyGivenNames -merge -useContext -underBinder x2_0 x2_1 x2_2
  clear_value x2_0 x2_1
  have hx2_2 : Within L s0 x2_2 := by
    exact within_setZraw (sub_of hL rfl) (by assumption)
  clear_value x2_2
  refine within_set (sub_of hL rfl) ?_
  exact within_set (sub_of hL rfl) (by assumption)

theorem within_refreshZraw {a0} (hL : sub 2251799813685248 L = true) (h : Within L s0 s) : Within L s0 (refreshZraw
      a0 s) := by
  delta refreshZraw
  extract_lets +onlyGivenNames -merge -useContext -underBinder x2_0
  clear_value x2_0
  exact within_setState (sub_of hL rfl) (by assumption)

theorem within_jobDone {a0 a1} (hL : sub 2535303626277093723898390904832 L = true) (h : Within L s0 s) : Within L
      s0 (jobDone a0 a1 s) := by
  delta jobDone
  extract_lets +onlyGivenNames -merge -useContext -underBinder x2_0
  clear_value x2_0
  refine ite_ind ?_ ?_
  · assumption
  · extract_lets +onlyGivenNames -merge -useContext -underBinder x4_0 x4_1 x4_2
    clear_value x4_0 x4_1 x4_2
    refine ite_ind ?_ ?_
    · assumption
    · extract_lets +onlyGivenNames -merge -useContext -underBinder x6_0 x6_1 x6_2 x6_3 x6_4 x6_5 x6_6 x6_7
      clear_value x6_0
      have hx6_1 : Within L s0 x6_1 := by
        refine within_forEach (fun _ _ _ => ?_) ?_
        · exact within_dramWrite (sub_of hL rfl) (by assumption)
        · assumption
      clear_value x6_1
      have hx6_2 : Within L s0 x6_2 := by
        refine ite_ind ?_ ?_
        · assumption
        · refine within_fresh (sub_of hL rfl) ?_
          exact within_dramWrite (sub_of hL rfl) (by assumption)
      clear_value x6_2
      have hx6_3 : Within L s0 x6_3 := by
        unfold x6_3
        split
        · exact within_dramWrite (sub_of hL rfl) (by assumption)
        · assumption
      clear_value x6_3
      have hx6_4 : Within L s0 x6_4 := by
        refine ite_ind ?_ ?_
        · exact within_countBytes (sub_of hL rfl) (by assumption)
        · assumption
      clear_value x6_4
      have hx6_5 : Within L s0 x6_5 := by
        exact within_dramWrite (sub_of hL rfl) (by assumption)
      clear_value x6_5
      have hx6_6 : Within L s0 x6_6 := by
        exact within_set (sub_of hL rfl) (by assumption)
      clear_value x6_6
      have hx6_7 : Within L s0 x6_7 := by
        refine ite_ind ?_ ?_
        · exact within_inc (sub_of hL rfl) (by assumption)
        · assumption
      clear_value x6_7
      refine within_raiseIf (sub_of hL rfl) (sub_of hL rfl) ?_
      refine within_raise (sub_of hL rfl) (sub_of hL rfl) ?_
      exact within_refreshZraw (sub_of hL rfl) (by assumption)

theorem within_execByteCompressJob {a0 a1} (hL : sub 2535303627457685344615802208256 L = true) (h : Within L s0 s)
      : WithinN L s0 (execByteCompressJob a0 a1 s) := by
  delta execByteCompressJob
  refine withinN_next ?_
  refine within_jobDone (sub_of hL rfl) ?_
  exact within_at (sub_of hL rfl) (by assumption)

theorem within_execByteDecompressJob {a0 a1} (hL : sub 2535303627457685344615802208256 L = true) (h : Within L s0
      s) : WithinN L s0 (execByteDecompressJob a0 a1 s) := by
  delta execByteDecompressJob
  refine withinN_next ?_
  refine within_jobDone (sub_of hL rfl) ?_
  exact within_at (sub_of hL rfl) (by assumption)

theorem within_execPixelDecodeJob {a0 a1} (hL : sub 2535303627457685344615802208256 L = true) (h : Within L s0 s) :
      WithinN L s0 (execPixelDecodeJob a0 a1 s) := by
  delta execPixelDecodeJob
  refine withinN_next ?_
  refine within_jobDone (sub_of hL rfl) ?_
  exact within_at (sub_of hL rfl) (by assumption)

theorem within_execPixelEncodeJob {a0 a1} (hL : sub 2535303627457685344615802208256 L = true) (h : Within L s0 s) :
      WithinN L s0 (execPixelEncodeJob a0 a1 s) := by
  delta execPixelEncodeJob
  refine withinN_next ?_
  refine within_jobDone (sub_of hL rfl) ?_
  exact within_at (sub_of hL rfl) (by assumption)

theorem within_segAbandon {a0 a1 a2} (hL : sub 2417851641481058163097600 L = true) (h : Within L s0 s) : Within L
      s0 (segAbandon a0 a1 a2 s) := by
  delta segAbandon
  extract_lets +onlyGivenNames -merge -useContext -underBinder x2_0
  clear_value x2_0
  refine within_refreshZraw (sub_of hL rfl) ?_
  exact within_setZraw (sub_of hL rfl) (by assumption)

theorem within_segLose {a0 a1 a2} (hL : sub 2535303623030466766921214853120 L = true) (h : Within L s0 s) : Within
      L s0 (segLose a0 a1 a2 s) := by
  delta segLose
  extract_lets +onlyGivenNames -merge -useContext -underBinder x2_0 x2_1
  clear_value x2_0
  have hx2_1 : Within L s0 x2_1 := by
    exact within_setZraw (sub_of hL rfl) (by assumption)
  clear_value x2_1
  refine within_raise (sub_of hL rfl) (sub_of hL rfl) ?_
  exact within_inc (sub_of hL rfl) (by assumption)

theorem within_segMark {a0 a1} (hL : sub 885443715542353444864 L = true) (h : Within L s0 s) : Within L s0 (segMark
      a0 a1 s) := by
  delta segMark
  refine ite_ind ?_ ?_
  · exact within_dramWrite (sub_of hL rfl) (by assumption)
  · assumption

theorem within_segReserve {a0 a1} (hL : sub 2535303623915910482463568297984 L = true) (h : Within L s0 s) : Within
      L s0 (segReserve a0 a1 s) := by
  delta segReserve
  extract_lets +onlyGivenNames -merge -useContext -underBinder x2_0
  clear_value x2_0
  refine ite_ind ?_ ?_
  · assumption
  · extract_lets +onlyGivenNames -merge -useContext -underBinder x4_0 x4_1 x4_2 x4_3 x4_4 x4_5 x4_6
    clear_value x4_0 x4_1 x4_2 x4_3 x4_5 x4_6
    refine ite_ind ?_ ?_
    · exact within_segLose (sub_of hL rfl) (by assumption)
    · extract_lets +onlyGivenNames -merge -useContext -underBinder x6_0
      have hx6_0 : Within L s0 x6_0 := by
        refine ite_ind ?_ ?_
        · exact within_segMark (sub_of hL rfl) (by assumption)
        · assumption
      clear_value x6_0
      refine within_refreshZraw (sub_of hL rfl) ?_
      exact within_setZraw (sub_of hL rfl) (by assumption)

theorem within_segRow {a0 a1 a2 a3 a4} (hL : sub 2535303623030466766921214853120 L = true) (h : Within L s0 s) :
      Within L s0 (segRow a0 a1 a2 a3 a4 s) := by
  delta segRow
  extract_lets +onlyGivenNames -merge -useContext -underBinder x2_0
  clear_value x2_0
  refine ite_ind ?_ ?_
  · assumption
  · refine ite_ind ?_ ?_
    · extract_lets +onlyGivenNames -merge -useContext -underBinder x6_0
      clear_value x6_0
      refine within_refreshZraw (sub_of hL rfl) ?_
      refine within_segLose (sub_of hL rfl) ?_
      exact within_setZraw (sub_of hL rfl) (by assumption)
    · extract_lets +onlyGivenNames -merge -useContext -underBinder x6_0
      clear_value x6_0
      split
      · assumption
      · refine ite_ind ?_ ?_
        · exact within_setZraw (sub_of hL rfl) (by assumption)
        · assumption

theorem within_segWrite {a0 a1} (hL : sub 2535303623915910482463568297984 L = true) (h : Within L s0 s) : Within L
      s0 (segWrite a0 a1 s) := by
  delta segWrite
  extract_lets +onlyGivenNames -merge -useContext -underBinder x2_0
  clear_value x2_0
  split
  · assumption
  · extract_lets +onlyGivenNames -merge -useContext -underBinder x4_0 x4_1 x4_2 x4_3 x4_4 x4_5 x4_6 x4_7
    clear_value x4_0 x4_1
    have hx4_2 : Within L s0 x4_2 := by
      exact within_dramWrite (sub_of hL rfl) (by assumption)
    clear_value x4_2
    have hx4_3 : Within L s0 x4_3 := by
      exact within_set (sub_of hL rfl) (by assumption)
    clear_value x4_3
    have hx4_4 : Within L s0 x4_4 := by
      exact within_countBytes (sub_of hL rfl) (by assumption)
    clear_value x4_4 x4_5
    have hx4_6 : Within L s0 x4_6 := by
      exact within_setZraw (sub_of hL rfl) (by assumption)
    clear_value x4_6
    have hx4_7 : Within L s0 x4_7 := by
      unfold x4_7
      split
      · refine ite_ind ?_ ?_
        · exact within_segMark (sub_of hL rfl) (by assumption)
        · assumption
      · assumption
    clear_value x4_7
    refine within_raise (sub_of hL rfl) (sub_of hL rfl) ?_
    exact within_refreshZraw (sub_of hL rfl) (by assumption)

theorem within_stageDecode {a0 a1 a2} (hL : sub 2535301205178827537662865440768 L = true) (h : Within L s0 s) :
      Within2 L s0 (stageDecode a0 a1 a2 s) := by
  delta stageDecode
  extract_lets +onlyGivenNames -merge -useContext -underBinder x2_0
  clear_value x2_0
  split
  · refine within2_mk ?_
    assumption
  · extract_lets +onlyGivenNames -merge -useContext -underBinder x4_0
    clear_value x4_0
    refine within2_mk ?_
    refine within_raise (sub_of hL rfl) (sub_of hL rfl) ?_
    exact within_inc (sub_of hL rfl) (by assumption)

theorem within_stageEncode {a0 a1 a2 a3 a4} (hL : sub 2535303623030466766921214853120 L = true) (h : Within L s0 s)
      : Within3 L s0 (stageEncode a0 a1 a2 a3 a4 s) := by
  delta stageEncode
  split
  · refine ite_ind ?_ ?_
    · extract_lets +onlyGivenNames -merge -useContext -underBinder x6_0
      clear_value x6_0
      refine within3_mk ?_
      refine within_raise (sub_of hL rfl) (sub_of hL rfl) ?_
      exact within_inc (sub_of hL rfl) (by assumption)
    · refine within3_mk ?_
      exact within_inc (sub_of hL rfl) (by assumption)
  · extract_lets +onlyGivenNames -merge -useContext -underBinder x4_0 x4_1 x4_2
    clear_value x4_0 x4_1
    have hx4_2 : Within L s0 x4_2 := by
      exact within_countBytes (sub_of hL rfl) (by assumption)
    clear_value x4_2
    refine ite_ind ?_ ?_
    · refine within3_mk ?_
      assumption
    · refine within3_mk ?_
      exact within_inc (sub_of hL rfl) (by assumption)

end Sys2Proof.Machine
end

