-- ==== Sys2Proof/Laws/WithinAudio.lean ====
section
/-! SUPPORT. Which parts of a state each operation of Audio.lean may write. -/

namespace Sys2Proof.Machine

variable {L : Nat} {s0 s : State}

theorem within_setAud {a1 a2} (hL : sub 316912650057057350374175801344 L = true) (h : Within L s0 s) : Within L s0
      (State.setAud s a1 a2) := by
  delta State.setAud
  refine within_upd_auds (sub_of hL rfl) ?_
  assumption

theorem within_audShowPos {a0} (hL : sub 536870912 L = true) (h : Within L s0 s) : Within L s0 (audShowPos a0 s) := by
  delta audShowPos
  exact within_set (sub_of hL rfl) (by assumption)

theorem within_audCapture {a0 a1 a2} (hL : sub 2852213856130549723816972517376 L = true) (h : Within L s0 s) :
      WithinO4 L s0 (audCapture a0 a1 a2 s) := by
  delta audCapture
  extract_lets +onlyGivenNames -merge -useContext -underBinder x2_0 x2_1 x2_2
  clear_value x2_0 x2_1 x2_2
  refine ite_ind ?_ ?_
  · exact withinO4_none
  · extract_lets +onlyGivenNames -merge -useContext -underBinder x4_0
    clear_value x4_0
    split
    · extract_lets +onlyGivenNames -merge -useContext -underBinder x6_0 x6_1 x6_2 x6_3 x6_4 x6_5 x6_6 x6_7
      clear_value x6_0 x6_1 x6_2
      have hx6_3 : Within L s0 x6_3 := by
        exact within_setAud (sub_of hL rfl) (by assumption)
      clear_value x6_3
      have hx6_4 : Within L s0 x6_4 := by
        exact within_audShowPos (sub_of hL rfl) (by assumption)
      clear_value x6_4 x6_5
      have hx6_6 : Within L s0 x6_6 := by
        exact within_dramWrite (sub_of hL rfl) (by assumption)
      clear_value x6_6
      have hx6_7 : Within L s0 x6_7 := by
        refine ite_ind ?_ ?_
        · refine within_raise (sub_of hL rfl) (sub_of hL rfl) ?_
          exact within_inc (sub_of hL rfl) (by assumption)
        · refine within_raise (sub_of hL rfl) (sub_of hL rfl) ?_
          exact within_set (sub_of hL rfl) (by assumption)
      clear_value x6_7
      refine withinO4_some ?_
      assumption

theorem within_audClockBack {a0} (hL : sub 2852213855245106008274619072512 L = true) (h : Within L s0 s) : Within L
      s0 (audClockBack a0 s) := by
  delta audClockBack
  refine ite_ind ?_ ?_
  · assumption
  · refine within_raise (sub_of hL rfl) (sub_of hL rfl) ?_
    refine within_setAud (sub_of hL rfl) ?_
    exact within_set (sub_of hL rfl) (by assumption)

theorem within_audClockLost {a0 a1} (hL : sub 2852213855245106008274619072512 L = true) (h : Within L s0 s) :
      Within L s0 (audClockLost a0 a1 s) := by
  delta audClockLost
  refine ite_ind ?_ ?_
  · assumption
  · extract_lets +onlyGivenNames -merge -useContext -underBinder x4_0 x4_1 x4_2
    clear_value x4_0
    have hx4_1 : Within L s0 x4_1 := by
      refine ite_ind ?_ ?_
      · exact within_emit (sub_of hL rfl) (by assumption)
      · assumption
    clear_value x4_1
    have hx4_2 : Within L s0 x4_2 := by
      exact within_setAud (sub_of hL rfl) (by assumption)
    clear_value x4_2
    refine within_raise (sub_of hL rfl) (sub_of hL rfl) ?_
    refine within_set (sub_of hL rfl) ?_
    refine within_inc (sub_of hL rfl) ?_
    exact within_set (sub_of hL rfl) (by assumption)

theorem within_audDisable {a0} (hL : sub 316912650066280722411567448064 L = true) (h : Within L s0 s) : Within L s0
      (audDisable a0 s) := by
  delta audDisable
  extract_lets +onlyGivenNames -merge -useContext -underBinder x2_0
  have hx2_0 : Within L s0 x2_0 := by
    refine within_set (sub_of hL rfl) ?_
    exact within_set (sub_of hL rfl) (by assumption)
  clear_value x2_0
  refine within_setState (sub_of hL rfl) ?_
  exact within_setAud (sub_of hL rfl) (by assumption)

theorem within_audEmit {a0 a1} (hL : sub 4722366482869645213696 L = true) (h : Within L s0 s) : Within L s0
      (audEmit a0 a1 s) := by
  delta audEmit
  refine ite_ind ?_ ?_
  · assumption
  · exact within_emit (sub_of hL rfl) (by assumption)

theorem within_audEnable {a0} (hL : sub 9223372036854775808 L = true) (h : Within L s0 s) : Within L s0 (audEnable
      a0 s) := by
  delta audEnable
  refine ite_ind ?_ ?_
  · exact within_setState (sub_of hL rfl) (by assumption)
  · assumption

theorem within_audFlush {a0} (hL : sub 316912650942501065917066117120 L = true) (h : Within L s0 s) : Within L s0
      (audFlush a0 s) := by
  delta audFlush
  extract_lets +onlyGivenNames -merge -useContext -underBinder x2_0
  clear_value x2_0
  refine ite_ind ?_ ?_
  · assumption
  · extract_lets +onlyGivenNames -merge -useContext -underBinder x4_0 x4_1
    clear_value x4_0
    have hx4_1 : Within L s0 x4_1 := by
      exact within_setAud (sub_of hL rfl) (by assumption)
    clear_value x4_1
    refine ite_ind ?_ ?_
    · assumption
    · extract_lets +onlyGivenNames -merge -useContext -underBinder x6_0 x6_1 x6_2
      clear_value x6_0 x6_1
      have hx6_2 : Within L s0 x6_2 := by
        exact within_dramWrite (sub_of hL rfl) (by assumption)
      clear_value x6_2
      exact within_set (sub_of hL rfl) (by assumption)

theorem within_audHoldLimit {a0} (hL : sub 316912654779423833244357885952 L = true) (h : Within L s0 s) : Within L
      s0 (audHoldLimit a0 s) := by
  delta audHoldLimit
  extract_lets +onlyGivenNames -merge -useContext -underBinder x2_0
  clear_value x2_0
  split
  · refine ite_ind ?_ ?_
    · extract_lets +onlyGivenNames -merge -useContext -underBinder x6_0
      clear_value x6_0
      refine within_audEmit (sub_of hL rfl) ?_
      refine within_audShowPos (sub_of hL rfl) ?_
      exact within_setAud (sub_of hL rfl) (by assumption)
    · assumption
  · assumption

theorem within_audMeasure {a0 a1} (hL : sub 2852213855245106008274619072512 L = true) (h : Within L s0 s) : Within
      L s0 (audMeasure a0 a1 s) := by
  delta audMeasure
  refine ite_ind ?_ ?_
  · assumption
  · extract_lets +onlyGivenNames -merge -useContext -underBinder x4_0 x4_1 x4_2
    clear_value x4_0
    have hx4_1 : Within L s0 x4_1 := by
      exact within_set (sub_of hL rfl) (by assumption)
    clear_value x4_1
    have hx4_2 : Within L s0 x4_2 := by
      exact within_setAud (sub_of hL rfl) (by assumption)
    clear_value x4_2
    split
    · assumption
    · refine ite_ind ?_ ?_
      · exact within_raise (sub_of hL rfl) (sub_of hL rfl) (by assumption)
      · assumption

theorem within_readOpen {a0 a1 a2} (hL : sub 2361183241439117574144 L = true) (h : Within L s0 s) : Within2 L s0
      (readOpen a0 a1 a2 s) := by
  delta readOpen
  split
  · rename_i v2_0 v2_1 v2_2 q2_0
    have hv2_2 : Within L s0 v2_2 := within3_eq q2_0 (by
      exact within_dramRead (sub_of hL rfl) (by assumption))
    refine ite_ind ?_ ?_
    · refine within2_mk ?_
      exact within_fresh (sub_of hL rfl) (by assumption)
    · refine within2_mk ?_
      assumption

theorem within_audTake {n pos k} (hL : sub 2361183241439654445056 L = true) (h : Within L s0 s) : Within2 L s0
      (audTake n pos k s) := by
  induction k generalizing s with
  | zero => exact h
  | succ k ih =>
    unfold audTake
    extract_lets +onlyGivenNames -merge -useContext -underBinder dev
    refine ite_ind (within2_mk h) ?_
    split
    · rename_i b s' q
      have hs : Within L s0 s' := within2_eq q (within_readOpen (sub_of hL (by rfl)) h)
      extract_lets +onlyGivenNames -merge -useContext -underBinder d
      refine ite_ind (within2_mk hs) ?_
      extract_lets +onlyGivenNames -merge -useContext -underBinder s2
      have h2 : Within L s0 s2 := within_set (sub_of hL (by rfl)) hs
      exact ite_ind (ih (within_inc (sub_of hL (by rfl)) h2)) (within2_mk h2)

theorem within_audOutBlock {a0 a1} (hL : sub 2852213858491732965251795124224 L = true) (h : Within L s0 s) : Within
      L s0 (audOutBlock a0 a1 s) := by
  delta audOutBlock
  extract_lets +onlyGivenNames -merge -useContext -underBinder x2_0
  clear_value x2_0
  refine ite_ind ?_ ?_
  · assumption
  · extract_lets +onlyGivenNames -merge -useContext -underBinder x4_0
    have hx4_0 : Within L s0 x4_0 := by
      refine ite_ind ?_ ?_
      · exact within_audFlush (sub_of hL rfl) (by assumption)
      · assumption
    clear_value x4_0
    split
    · rename_i v4_0 v4_1 q4_0
      have hv4_1 : Within L s0 v4_1 := within2_eq q4_0 (by
        exact within_audTake (sub_of hL rfl) (by assumption))
      extract_lets +onlyGivenNames -merge -useContext -underBinder x6_0
      clear_value x6_0
      split
      · extract_lets +onlyGivenNames -merge -useContext -underBinder x8_0
        have hx8_0 : Within L s0 x8_0 := by
          exact within_setAud (sub_of hL rfl) (by assumption)
        clear_value x8_0
        refine within_audEmit (sub_of hL rfl) ?_
        refine within_audShowPos (sub_of hL rfl) ?_
        exact within_set (sub_of hL rfl) (by assumption)
      · extract_lets +onlyGivenNames -merge -useContext -underBinder x8_0
        have hx8_0 : Within L s0 x8_0 := by
          refine within_audShowPos (sub_of hL rfl) ?_
          exact within_setAud (sub_of hL rfl) (by assumption)
        clear_value x8_0
        refine ite_ind ?_ ?_
        · assumption
        · extract_lets +onlyGivenNames -merge -useContext -underBinder x10_0 x10_1 x10_2 x10_3
          clear_value x10_0 x10_1
          have hx10_2 : Within L s0 x10_2 := by
            exact within_setAud (sub_of hL rfl) (by assumption)
          clear_value x10_2
          have hx10_3 : Within L s0 x10_3 := by
            refine within_raise (sub_of hL rfl) (sub_of hL rfl) ?_
            refine within_inc (sub_of hL rfl) ?_
            exact within_set (sub_of hL rfl) (by assumption)
          clear_value x10_3
          exact within_audEmit (sub_of hL rfl) (by assumption)

theorem within_audPut {a0 a1 a2} (hL : sub 316912650942501065917066117120 L = true) (h : Within L s0 s) : Within L
      s0 (audPut a0 a1 a2 s) := by
  delta audPut
  extract_lets +onlyGivenNames -merge -useContext -underBinder x2_0 x2_1 x2_2 x2_3
  clear_value x2_0
  have hx2_1 : Within L s0 x2_1 := by
    refine ite_ind ?_ ?_
    · exact within_audFlush (sub_of hL rfl) (by assumption)
    · assumption
  clear_value x2_1 x2_2
  have hx2_3 : Within L s0 x2_3 := by
    exact within_setAud (sub_of hL rfl) (by assumption)
  clear_value x2_3
  refine ite_ind ?_ ?_
  · assumption
  · exact within_audFlush (sub_of hL rfl) (by assumption)

theorem within_audReceive {a0 a1 a2} (hL : sub 316912650942501065917066117120 L = true) (h : Within L s0 s) :
      Within L s0 (audReceive a0 a1 a2 s) := by
  delta audReceive
  extract_lets +onlyGivenNames -merge -useContext -underBinder x2_0 x2_1
  clear_value x2_0 x2_1
  refine ite_ind ?_ ?_
  · assumption
  · refine ite_ind ?_ ?_
    · exact within_inc (sub_of hL rfl) (by assumption)
    · extract_lets +onlyGivenNames -merge -useContext -underBinder x6_0 x6_1
      clear_value x6_0 x6_1
      refine within_forEach (fun _ _ _ => ?_) ?_
      · exact within_audPut (sub_of hL rfl) (by assumption)
      · assumption

theorem within_audRun {a0 a1 a2} (hL : sub 2852213855245106008274619072512 L = true) (h : Within L s0 s) : Within L
      s0 (audRun a0 a1 a2 s) := by
  delta audRun
  extract_lets +onlyGivenNames -merge -useContext -underBinder x2_0 x2_1 x2_2 x2_3 x2_4 x2_5
  clear_value x2_0 x2_1 x2_2 x2_3
  have hx2_4 : Within L s0 x2_4 := by
    exact within_setAud (sub_of hL rfl) (by assumption)
  clear_value x2_4
  have hx2_5 : Within L s0 x2_5 := by
    refine within_set (sub_of hL rfl) ?_
    exact within_set (sub_of hL rfl) (by assumption)
  clear_value x2_5
  refine within_raise (sub_of hL rfl) (sub_of hL rfl) ?_
  refine within_audShowPos (sub_of hL rfl) ?_
  exact within_setState (sub_of hL rfl) (by assumption)

theorem within_audStopped {a0} (hL : sub 2535301205188048657899906400256 L = true) (h : Within L s0 s) : Within L
      s0 (audStopped a0 s) := by
  delta audStopped
  refine ite_ind ?_ ?_
  · refine within_raise (sub_of hL rfl) (sub_of hL rfl) ?_
    exact within_setState (sub_of hL rfl) (by assumption)
  · assumption

theorem within_audTrigFire {a0} (hL : sub 3486039155377667453097753968640 L = true) (h : Within L s0 s) : Within L
      s0 (audTrigFire a0 s) := by
  delta audTrigFire
  split
  · assumption
  · extract_lets +onlyGivenNames -merge -useContext -underBinder x4_0
    have hx4_0 : Within L s0 x4_0 := by
      refine within_forEach (fun _ _ _ => ?_) ?_
      · refine ite_ind ?_ ?_
        · assumption
        · refine ite_ind ?_ ?_
          · exact within_audRun (sub_of hL rfl) (by assumption)
          · refine ite_ind ?_ ?_
            · exact within_setState (sub_of hL rfl) (by assumption)
            · assumption
      · refine within_upd_trigger (sub_of hL rfl) ?_
        assumption
    clear_value x4_0
    refine within_raise (sub_of hL rfl) (sub_of hL rfl) ?_
    exact within_set (sub_of hL rfl) (by assumption)

theorem within_execAudRateMeasure {a0 a1 a2} (hL : sub 2852213856425697628992030375936 L = true) (h : Within L s0
      s) : WithinN L s0 (execAudRateMeasure a0 a1 a2 s) := by
  delta execAudRateMeasure
  refine withinN_next ?_
  refine within_audMeasure (sub_of hL rfl) ?_
  exact within_at (sub_of hL rfl) (by assumption)

theorem within_execClockBack {a0 a1} (hL : sub 2852213856425697628992030375936 L = true) (h : Within L s0 s) :
      WithinN L s0 (execClockBack a0 a1 s) := by
  delta execClockBack
  refine withinN_next ?_
  refine within_audClockBack (sub_of hL rfl) ?_
  exact within_at (sub_of hL rfl) (by assumption)

theorem within_execClockLost {a0 a1 a2} (hL : sub 2852213856425697628992030375936 L = true) (h : Within L s0 s) :
      WithinN L s0 (execClockLost a0 a1 a2 s) := by
  delta execClockLost
  refine withinN_next ?_
  refine within_audClockLost (sub_of hL rfl) ?_
  exact within_at (sub_of hL rfl) (by assumption)

theorem within_execHoldLimit {a0 a1} (hL : sub 316912655960015453961769189376 L = true) (h : Within L s0 s) :
      WithinN L s0 (execHoldLimit a0 a1 s) := by
  delta execHoldLimit
  refine withinN_next ?_
  refine within_audHoldLimit (sub_of hL rfl) ?_
  exact within_at (sub_of hL rfl) (by assumption)

theorem within_execOutputBlock {a0 a1 a2} (hL : sub 2852213859672324585969206427648 L = true) (h : Within L s0 s) :
      WithinN L s0 (execOutputBlock a0 a1 a2 s) := by
  delta execOutputBlock
  refine withinN_next ?_
  refine within_audOutBlock (sub_of hL rfl) ?_
  exact within_at (sub_of hL rfl) (by assumption)

theorem within_silentStart {a0} (hL : sub 9223372036854775808 L = true) (h : Within L s0 s) : Within L s0
      (silentStart a0 s) := by
  delta silentStart
  split
  · refine ite_ind ?_ ?_
    · exact within_setState (sub_of hL rfl) (by assumption)
    · assumption
  · assumption

theorem within_execSilentStart {a0 a1} (hL : sub 1189814992754266079232 L = true) (h : Within L s0 s) : WithinN L
      s0 (execSilentStart a0 a1 s) := by
  delta execSilentStart
  refine withinN_next ?_
  refine within_silentStart (sub_of hL rfl) ?_
  exact within_at (sub_of hL rfl) (by assumption)

theorem within_trigReached {a0} (hL : sub 3486039155377667453097753968640 L = true) (h : Within L s0 s) : Within L
      s0 (trigReached a0 s) := by
  delta trigReached
  split
  · refine ite_ind ?_ ?_
    · exact within_audTrigFire (sub_of hL rfl) (by assumption)
    · assumption
  · assumption

theorem within_silentOver {a0 a1} (hL : sub 2852213855245106008274619072512 L = true) (h : Within L s0 s) : Within
      L s0 (silentOver a0 a1 s) := by
  delta silentOver
  refine ite_ind ?_ ?_
  · exact within_audRun (sub_of hL rfl) (by assumption)
  · assumption

theorem within_execStartFired {a0 a1} (hL : sub 3486039156558259073815165272064 L = true) (h : Within L s0 s) :
      WithinN L s0 (execStartFired a0 a1 s) := by
  delta execStartFired
  split
  · refine withinN_next ?_
    refine within_trigReached (sub_of hL rfl) ?_
    exact within_at (sub_of hL rfl) (by assumption)
  · refine withinN_next ?_
    refine within_silentOver (sub_of hL rfl) ?_
    exact within_at (sub_of hL rfl) (by assumption)

theorem within_execStopComplete {a0 a1} (hL : sub 2535301206368640278617317703680 L = true) (h : Within L s0 s) :
      WithinN L s0 (execStopComplete a0 a1 s) := by
  delta execStopComplete
  refine withinN_next ?_
  refine within_audStopped (sub_of hL rfl) ?_
  exact within_at (sub_of hL rfl) (by assumption)

theorem within_writeAudCtrl {a0 a1 a2} (hL : sub 2852213855245106008274619072512 L = true) (h : Within L s0 s) :
      Within L s0 (writeAudCtrl a0 a1 a2 s) := by
  delta writeAudCtrl
  extract_lets +onlyGivenNames -merge -useContext -underBinder x2_0
  have hx2_0 : Within L s0 x2_0 := by
    refine ite_ind ?_ ?_
    · refine ite_ind ?_ ?_
      · exact within_logAccess (sub_of hL rfl) (sub_of hL rfl) (by assumption)
      · refine ite_ind ?_ ?_
        · exact within_logAccess (sub_of hL rfl) (sub_of hL rfl) (by assumption)
        · exact within_setState (sub_of hL rfl) (by assumption)
    · assumption
  clear_value x2_0
  refine ite_ind ?_ ?_
  · refine ite_ind ?_ ?_
    · exact within_setState (sub_of hL rfl) (by assumption)
    · refine ite_ind ?_ ?_
      · extract_lets +onlyGivenNames -merge -useContext -underBinder x8_0 x8_1
        clear_value x8_0
        have hx8_1 : Within L s0 x8_1 := by
          refine within_setState (sub_of hL rfl) ?_
          exact within_setAud (sub_of hL rfl) (by assumption)
        clear_value x8_1
        refine ite_ind ?_ ?_
        · refine within_audEmit (sub_of hL rfl) ?_
          exact within_set (sub_of hL rfl) (by assumption)
        · assumption
      · assumption
  · assumption

theorem within_writeStart {a0 a1} (hL : sub 3169126505311386730686186520576 L = true) (h : Within L s0 s) : Within
      L s0 (writeStart a0 a1 s) := by
  delta writeStart
  extract_lets +onlyGivenNames -merge -useContext -underBinder x2_0 x2_1 x2_2
  clear_value x2_0 x2_1
  have hx2_2 : ∀ s, Within L s0 s → Within L s0 (x2_2 s) := by
    intro s h
    refine within_set (sub_of hL rfl) ?_
    exact within_set (sub_of hL rfl) (by assumption)
  refine ite_ind ?_ ?_
  · refine hx2_2 _ ?_
    assumption
  · refine ite_ind ?_ ?_
    · exact within_logAccess (sub_of hL rfl) (sub_of hL rfl) (by assumption)
    · refine within_set (sub_of hL rfl) ?_
      refine hx2_2 _ ?_
      refine within_upd_trigger (sub_of hL rfl) ?_
      assumption

end Sys2Proof.Machine
end

