-- ==== Sys2Proof/Laws/WithinPtp.lean ====
section
/-! SUPPORT. Which parts of a state each operation of Ptp.lean may write. -/

namespace Sys2Proof.Machine

variable {L : Nat} {s0 s : State}

theorem within_setDom {a1 a2} (hL : sub 39614081257132168796771975168 L = true) (h : Within L s0 s) : Within L s0
      (State.setDom s a1 a2) := by
  delta State.setDom
  refine within_upd_doms (sub_of hL rfl) ?_
  assumption

theorem within_ptpDeliver {a0 a1 a2 a3 a4 a5 a6} (hL : sub 2574915287323707013211524956160 L = true) (h : Within L
      s0 s) : Within L s0 (ptpDeliver a0 a1 a2 a3 a4 a5 a6 s) := by
  delta ptpDeliver
  extract_lets +onlyGivenNames -merge -useContext -underBinder x2_0 x2_1 x2_2 x2_3
  clear_value x2_0
  have hx2_1 : Within L s0 x2_1 := by
    refine ite_ind ?_ ?_
    · exact within_setDom (sub_of hL rfl) (by assumption)
    · assumption
  clear_value x2_1 x2_2 x2_3
  refine ite_ind ?_ ?_
  · refine within_raise (sub_of hL rfl) (sub_of hL rfl) ?_
    exact within_inc (sub_of hL rfl) (by assumption)
  · extract_lets +onlyGivenNames -merge -useContext -underBinder x4_0 x4_1 x4_2
    clear_value x4_0 x4_1 x4_2
    refine within_raise (sub_of hL rfl) (sub_of hL rfl) ?_
    refine within_set (sub_of hL rfl) ?_
    exact within_dramWrite (sub_of hL rfl) (by assumption)

theorem within_slotDone {a0 a1 a2 a3 a4} (hL : sub 2535301206066574844414752980992 L = true) (h : Within L s0 s) :
      Within L s0 (slotDone a0 a1 a2 a3 a4 s) := by
  delta slotDone
  extract_lets +onlyGivenNames -merge -useContext -underBinder x2_0 x2_1 x2_2 x2_3
  have hx2_0 : Within L s0 x2_0 := by
    unfold x2_0
    split
    · exact within_dramWrite (sub_of hL rfl) (by assumption)
    · assumption
  clear_value x2_0
  have hx2_1 : Within L s0 x2_1 := by
    exact within_dramWrite (sub_of hL rfl) (by assumption)
  clear_value x2_1
  have hx2_2 : Within L s0 x2_2 := by
    refine ite_ind ?_ ?_
    · exact within_inc (sub_of hL rfl) (by assumption)
    · assumption
  clear_value x2_2
  have hx2_3 : Within L s0 x2_3 := by
    exact within_set (sub_of hL rfl) (by assumption)
  clear_value x2_3
  exact within_raiseIf (sub_of hL rfl) (sub_of hL rfl) (by assumption)

theorem within_ptpDepart {a0 a1 a2} (hL : sub 2574915289684890254646347563008 L = true) (h : Within L s0 s) :
      Within L s0 (ptpDepart a0 a1 a2 s) := by
  delta ptpDepart
  split
  · assumption
  · split
    · rename_i v4_0 v4_1 q4_0
      have hv4_1 : Within L s0 v4_1 := within2_eq q4_0 (by
        exact within_readOpen (sub_of hL rfl) (by assumption))
      split
      · rename_i v6_0 v6_1 q6_0
        have hv6_1 : Within L s0 v6_1 := within2_eq q6_0 (by
          refine ite_ind ?_ ?_
          · exact within_readOpen (sub_of hL rfl) (by assumption)
          · refine within2_mk ?_
            assumption)
        extract_lets +onlyGivenNames -merge -useContext -underBinder x8_0 x8_1 x8_2 x8_3 x8_4
        clear_value x8_0 x8_1 x8_2
        have hx8_3 : Within L s0 x8_3 := by
          refine ite_ind ?_ ?_
          · exact within_setDom (sub_of hL rfl) (by assumption)
          · assumption
        clear_value x8_3
        have hx8_4 : Within L s0 x8_4 := by
          exact within_emit (sub_of hL rfl) (by assumption)
        clear_value x8_4
        exact within_slotDone (sub_of hL rfl) (by assumption)

theorem within_ptpReceive {a0 a1 a2} (hL : sub 2574915287323707013211793391616 L = true) (h : Within L s0 s) :
      Within L s0 (ptpReceive a0 a1 a2 s) := by
  delta ptpReceive
  split
  · assumption
  · extract_lets +onlyGivenNames -merge -useContext -underBinder x4_0
    clear_value x4_0
    refine ite_ind ?_ ?_
    · exact within_inc (sub_of hL rfl) (by assumption)
    · refine within_forEach (fun _ _ _ => ?_) ?_
      · exact within_ptpDeliver (sub_of hL rfl) (by assumption)
      · assumption

theorem within_ptpSettle {d k} (hL : sub 2535301206066574844414752980992 L = true) (h : Within L s0 s) : Within L
      s0 (ptpSettle d k s) := by
  induction k generalizing s with
  | zero => exact h
  | succ k ih =>
    unfold ptpSettle
    split
    · exact h
    · extract_lets +onlyGivenNames -merge -useContext -underBinder b report
      exact ite_ind (ih (within_slotDone (sub_of hL (by rfl)) h)) (ite_ind (ih (within_slotDone (sub_of hL (by
      rfl)) h)) h)

end Sys2Proof.Machine
end

