-- ==== Sys2Proof/Laws/WithinChk.lean ====
section
/-! SUPPORT. Which parts of a state each operation of Chk.lean may write. -/

namespace Sys2Proof.Machine

variable {L : Nat} {s0 s : State}

theorem within_setChk {a1 a2} (hL : sub 618970019642690137449562112 L = true) (h : Within L s0 s) : Within L s0
      (State.setChk s a1 a2) := by
  delta State.setChk
  refine within_upd_chks (sub_of hL rfl) ?_
  assumption

theorem within_chkEvent {a0 a1} (hL : sub 2535301205179113516239220113408 L = true) (h : Within L s0 s) : Within L
      s0 (chkEvent a0 a1 s) := by
  delta chkEvent
  refine within_raise (sub_of hL rfl) (sub_of hL rfl) ?_
  exact within_set (sub_of hL rfl) (by assumption)

theorem within_kset {a0 a1 a2} (q0_1 : sub (partW a1.blk) L = true) (h : Within L s0 s) : Within L s0 (kset a0 a1
      a2 s) := by
  delta kset
  exact within_set q0_1 (by assumption)

theorem within_writeChk {a0 a1 a2} (hL : sub 2535920175198756206376669675520 L = true) (h : Within L s0 s) : Within
      L s0 (writeChk a0 a1 a2 s) := by
  delta writeChk
  extract_lets +onlyGivenNames -merge -useContext -underBinder x2_0 x2_1 x2_2 x2_3 x2_4 x2_5 x2_6
  clear_value x2_0 x2_1 x2_2 x2_3 x2_4 x2_5 x2_6
  refine ite_ind ?_ ?_
  · exact within_logAccess (sub_of hL rfl) (sub_of hL rfl) (by assumption)
  · refine ite_ind ?_ ?_
    · exact within_logAccess (sub_of hL rfl) (sub_of hL rfl) (by assumption)
    · split
      · exact within_logAccess (sub_of hL rfl) (sub_of hL rfl) (by assumption)
      · extract_lets +onlyGivenNames -merge -useContext -underBinder x8_0 x8_1
        have hx8_0 : Within L s0 x8_0 := by
          exact within_kset (sub_of hL rfl) (by assumption)
        clear_value x8_0
        have hx8_1 : Within L s0 x8_1 := by
          refine ite_ind ?_ ?_
          · assumption
          · exact within_setChk (sub_of hL rfl) (by assumption)
        clear_value x8_1
        exact within_set (sub_of hL rfl) (by assumption)

end Sys2Proof.Machine
end

