-- ==== Sys2Proof/Laws/WithinBpool.lean ====
section
/-! SUPPORT. Which parts of a state each operation of Bpool.lean may write. -/

namespace Sys2Proof.Machine

variable {L : Nat} {s0 s : State}

theorem within_setBuf {a1 a2} (hL : sub 38685626227668133590597632 L = true) (h : Within L s0 s) : Within L s0
      (State.setBuf s a1 a2) := by
  delta State.setBuf
  refine within_upd_pool (sub_of hL rfl) ?_
  assumption

theorem within_claimDec {a0} (hL : sub 38685626227668133590597632 L = true) (h : Within L s0 s) : Within L s0
      (claimDec a0 s) := by
  delta claimDec
  extract_lets +onlyGivenNames -merge -useContext -underBinder x2_0
  clear_value x2_0
  exact within_setBuf (sub_of hL rfl) (by assumption)

theorem within_claimFetch {a0 a1} (hL : sub 38685626227668133590597632 L = true) (h : Within L s0 s) : Within L s0
      (claimFetch a0 a1 s) := by
  delta claimFetch
  extract_lets +onlyGivenNames -merge -useContext -underBinder x2_0
  clear_value x2_0
  exact within_setBuf (sub_of hL rfl) (by assumption)

theorem within_poolEvent {a0 a1 a2} (hL : sub 2535301205178843300261562155008 L = true) (h : Within L s0 s) :
      Within L s0 (poolEvent a0 a1 a2 s) := by
  delta poolEvent
  extract_lets +onlyGivenNames -merge -useContext -underBinder x2_0 x2_1
  have hx2_0 : Within L s0 x2_0 := by
    unfold x2_0
    split
    · exact within_set (sub_of hL rfl) (by assumption)
    · assumption
  clear_value x2_0
  have hx2_1 : Within L s0 x2_1 := by
    unfold x2_1
    split
    · exact within_set (sub_of hL rfl) (by assumption)
    · assumption
  clear_value x2_1
  exact within_raise (sub_of hL rfl) (sub_of hL rfl) (by assumption)

theorem within_setFreeList {a0 a1} (hL : sub 38685626227668133591646208 L = true) (h : Within L s0 s) : Within L s0
      (setFreeList a0 a1 s) := by
  delta setFreeList
  refine within_set (sub_of (a := partW .bpool) hL rfl) ?_
  refine within_upd_pool (sub_of hL rfl) ?_
  assumption

theorem within_settleBuf {a0} (hL : sub 38685626227668133591646208 L = true) (h : Within L s0 s) : Within L s0
      (settleBuf a0 s) := by
  delta settleBuf
  extract_lets +onlyGivenNames -merge -useContext -underBinder x2_0
  clear_value x2_0
  refine ite_ind ?_ ?_
  · refine within_setFreeList (sub_of hL rfl) ?_
    exact within_setBuf (sub_of hL rfl) (by assumption)
  · assumption

theorem within_loseOwner {a0} (hL : sub 2535339890805070968395152752640 L = true) (h : Within L s0 s) : Within L s0
      (loseOwner a0 s) := by
  delta loseOwner
  extract_lets +onlyGivenNames -merge -useContext -underBinder x2_0 x2_1 x2_2
  clear_value x2_0
  have hx2_1 : Within L s0 x2_1 := by
    exact within_setBuf (sub_of hL rfl) (by assumption)
  clear_value x2_1
  have hx2_2 : Within L s0 x2_2 := by
    refine ite_ind ?_ ?_
    · assumption
    · exact within_poolEvent (sub_of hL rfl) (by assumption)
  clear_value x2_2
  exact within_settleBuf (sub_of hL rfl) (by assumption)

theorem within_cqAppend {a0 a1 a2} (hL : sub 2535339891690514683937506197504 L = true) (h : Within L s0 s) :
      Within2 L s0 (cqAppend a0 a1 a2 s) := by
  delta cqAppend
  extract_lets +onlyGivenNames -merge -useContext -underBinder x2_0 x2_1
  clear_value x2_0 x2_1
  refine ite_ind ?_ ?_
  · refine within2_mk ?_
    refine within_poolEvent (sub_of hL rfl) ?_
    refine within_upd_pool (sub_of hL rfl) ?_
    assumption
  · extract_lets +onlyGivenNames -merge -useContext -underBinder x4_0 x4_1
    clear_value x4_0
    have hx4_1 : Within L s0 x4_1 := by
      exact within_dramWrite (sub_of hL rfl) (by assumption)
    clear_value x4_1
    refine within2_mk ?_
    refine within_poolEvent (sub_of hL rfl) ?_
    exact within_set (sub_of hL rfl) (by assumption)

theorem within_handOver {a0 a1} (hL : sub 2535339891690514683937506197504 L = true) (h : Within L s0 s) : Within L
      s0 (handOver a0 a1 s) := by
  delta handOver
  extract_lets +onlyGivenNames -merge -useContext -underBinder x2_0 x2_1
  clear_value x2_0 x2_1
  refine ite_ind ?_ ?_
  · split
    · exact within_setBuf (sub_of hL rfl) (by assumption)
    · refine within_loseOwner (sub_of hL rfl) ?_
      exact within_setBuf (sub_of hL rfl) (by assumption)
  · extract_lets +onlyGivenNames -merge -useContext -underBinder x4_0
    have hx4_0 : Within L s0 x4_0 := by
      exact within_setBuf (sub_of hL rfl) (by assumption)
    clear_value x4_0
    split
    · rename_i v4_0 v4_1 q4_0
      have hv4_1 : Within L s0 v4_1 := within2_eq q4_0 (by
        exact within_cqAppend (sub_of hL rfl) (by assumption))
      refine ite_ind ?_ ?_
      · assumption
      · exact within_loseOwner (sub_of hL rfl) (by assumption)

theorem within_countDone (hL : sub 38685626227668133590597632 L = true) (h : Within L s0 s) : Within L s0
      (countDone s) := by
  delta countDone
  refine within_upd_pool (sub_of hL rfl) ?_
  assumption

theorem within_completeBuf {a0 a1} (hL : sub 2535339891690514683937506197504 L = true) (h : Within L s0 s) : Within
      L s0 (completeBuf a0 a1 s) := by
  delta completeBuf
  refine within_handOver (sub_of hL rfl) ?_
  refine within_countDone (sub_of hL rfl) ?_
  exact within_dramWrite (sub_of hL rfl) (by assumption)

theorem within_dropDec {a0} (hL : sub 38685626227668133591646208 L = true) (h : Within L s0 s) : Within L s0
      (dropDec a0 s) := by
  delta dropDec
  extract_lets +onlyGivenNames -merge -useContext -underBinder x2_0
  clear_value x2_0
  refine within_settleBuf (sub_of hL rfl) ?_
  exact within_setBuf (sub_of hL rfl) (by assumption)

theorem within_dropFetch {a0 a1} (hL : sub 38685626227668133591646208 L = true) (h : Within L s0 s) : Within L s0
      (dropFetch a0 a1 s) := by
  delta dropFetch
  extract_lets +onlyGivenNames -merge -useContext -underBinder x2_0
  clear_value x2_0
  refine within_settleBuf (sub_of hL rfl) ?_
  exact within_setBuf (sub_of hL rfl) (by assumption)

theorem within_takeBuf {a0 a1} (hL : sub 38685626227668133591646208 L = true) (h : Within L s0 s) : WithinO2 L s0
      (takeBuf a0 a1 s) := by
  delta takeBuf
  split
  · exact withinO2_none
  · refine withinO2_some ?_
    refine within_setBuf (sub_of hL rfl) ?_
    exact within_setFreeList (sub_of hL rfl) (by assumption)

theorem within_setPoolCopy {a0 a1 a2} (hL : sub 38685626227668133590597632 L = true) (h : Within L s0 s) : Within L
      s0 (setPoolCopy a0 a1 a2 s) := by
  delta setPoolCopy
  refine within_upd_pool (sub_of hL rfl) ?_
  assumption

theorem within_poolResult {a0 a1 a2} (hL : sub 38685626227668133590597632 L = true) (h : Within L s0 s) : Within L
      s0 (poolResult a0 a1 a2 s) := by
  delta poolResult
  exact within_setPoolCopy (sub_of hL rfl) (by assumption)

theorem within_poolRefuse {a0 a1 a2} (hL : sub 2535339890805070968395151704064 L = true) (h : Within L s0 s) :
      Within L s0 (poolRefuse a0 a1 a2 s) := by
  delta poolRefuse
  refine within_poolResult (sub_of hL rfl) ?_
  exact within_logAccess (sub_of hL rfl) (sub_of hL rfl) (by assumption)

theorem within_poolWrite {a0 a1} (hL : sub 2535339890805070968395152752640 L = true) (h : Within L s0 s) : Within L
      s0 (poolWrite a0 a1 s) := by
  delta poolWrite
  extract_lets +onlyGivenNames -merge -useContext -underBinder x2_0 x2_1
  clear_value x2_0 x2_1
  refine ite_ind ?_ ?_
  · exact within_poolRefuse (sub_of hL rfl) (by assumption)
  · refine ite_ind ?_ ?_
    · exact within_poolRefuse (sub_of hL rfl) (by assumption)
    · extract_lets +onlyGivenNames -merge -useContext -underBinder x6_0 x6_1
      have hx6_0 : Within L s0 x6_0 := by
        exact within_setFreeList (sub_of hL rfl) (by assumption)
      clear_value x6_0
      have hx6_1 : Within L s0 x6_1 := by
        exact within_setBuf (sub_of hL rfl) (by assumption)
      clear_value x6_1
      refine within_poolResult (sub_of hL rfl) ?_
      exact within_setFreeList (sub_of hL rfl) (by assumption)

theorem within_poolRead {a0 a1} (hL : sub 38685626227668133590597632 L = true) (h : Within L s0 s) : Within L s0
      (poolRead a0 a1 s) := by
  delta poolRead
  extract_lets +onlyGivenNames -merge -useContext -underBinder x2_0 x2_1 x2_2 x2_3 x2_4 x2_5 x2_6 x2_7
  clear_value x2_0
  have hx2_1 : Within L s0 x2_1 := by
    exact within_setPoolCopy (sub_of hL rfl) (by assumption)
  clear_value x2_1
  have hx2_2 : Within L s0 x2_2 := by
    exact within_setPoolCopy (sub_of hL rfl) (by assumption)
  clear_value x2_2
  have hx2_3 : Within L s0 x2_3 := by
    exact within_setPoolCopy (sub_of hL rfl) (by assumption)
  clear_value x2_3
  have hx2_4 : Within L s0 x2_4 := by
    exact within_setPoolCopy (sub_of hL rfl) (by assumption)
  clear_value x2_4
  have hx2_5 : Within L s0 x2_5 := by
    exact within_setPoolCopy (sub_of hL rfl) (by assumption)
  clear_value x2_5
  have hx2_6 : Within L s0 x2_6 := by
    exact within_setPoolCopy (sub_of hL rfl) (by assumption)
  clear_value x2_6
  have hx2_7 : Within L s0 x2_7 := by
    exact within_setPoolCopy (sub_of hL rfl) (by assumption)
  clear_value x2_7
  exact within_poolResult (sub_of hL rfl) (by assumption)

theorem within_poolCommand {a0 a1} (hL : sub 2535339890805070968395152752640 L = true) (h : Within L s0 s) : Within
      L s0 (poolCommand a0 a1 s) := by
  delta poolCommand
  extract_lets +onlyGivenNames -merge -useContext -underBinder x2_0 x2_1 x2_2 x2_3
  clear_value x2_0 x2_1 x2_2 x2_3
  refine ite_ind ?_ ?_
  · split
    · rename_i v4_0 v4_1 q4_0
      have hv4_1 : Within L s0 v4_1 := withinO2_eq q4_0 (by
        exact within_takeBuf (sub_of hL rfl) (by assumption))
      exact within_poolResult (sub_of hL rfl) (by assumption)
    · exact within_poolRefuse (sub_of hL rfl) (by assumption)
  · refine ite_ind ?_ ?_
    · refine ite_ind ?_ ?_
      · refine within_poolResult (sub_of hL rfl) ?_
        exact within_setBuf (sub_of hL rfl) (by assumption)
      · exact within_poolRefuse (sub_of hL rfl) (by assumption)
    · refine ite_ind ?_ ?_
      · refine ite_ind ?_ ?_
        · refine within_poolResult (sub_of hL rfl) ?_
          exact within_loseOwner (sub_of hL rfl) (by assumption)
        · exact within_poolRefuse (sub_of hL rfl) (by assumption)
      · refine ite_ind ?_ ?_
        · exact within_poolWrite (sub_of hL rfl) (by assumption)
        · refine ite_ind ?_ ?_
          · exact within_poolRead (sub_of hL rfl) (by assumption)
          · exact within_logAccess (sub_of hL rfl) (sub_of hL rfl) (by assumption)

theorem within_produceBuf {a0 a1} (hL : sub 2535339890805070968395152752640 L = true) (h : Within L s0 s) : Within2
      L s0 (produceBuf a0 a1 s) := by
  delta produceBuf
  split
  · rename_i v2_0 v2_1 q2_0
    have hv2_1 : Within L s0 v2_1 := withinO2_eq q2_0 (by
      exact within_takeBuf (sub_of hL rfl) (by assumption))
    refine within2_mk ?_
    assumption
  · refine within2_mk ?_
    exact within_poolEvent (sub_of hL rfl) (by assumption)

theorem within_returnBuf {a0} (hL : sub 2535339890805070968395152752640 L = true) (h : Within L s0 s) : Within L s0
      (returnBuf a0 s) := by
  delta returnBuf
  exact within_loseOwner (sub_of hL rfl) (by assumption)

end Sys2Proof.Machine
end

