-- ==== Sys2Proof/Laws/WithinFrames.lean ====
section
/-! SUPPORT. Which parts of a state each operation of Frames.lean may write. -/

namespace Sys2Proof.Machine

variable {L : Nat} {s0 s : State}

theorem within_setAsm {a1 a2} (hL : sub 18889465931478580854784 L = true) (h : Within L s0 s) : Within L s0
      (State.setAsm s a1 a2) := by
  delta State.setAsm
  refine within_upd_asms (sub_of hL rfl) ?_
  assumption

theorem within_setBench {a1 a2} (hL : sub 75557863725914323419136 L = true) (h : Within L s0 s) : Within L s0
      (State.setBench s a1 a2) := by
  delta State.setBench
  refine within_upd_benches (sub_of hL rfl) ?_
  assumption

theorem within_setStrm {a1 a2} (hL : sub 37778931862957161709568 L = true) (h : Within L s0 s) : Within L s0
      (State.setStrm s a1 a2) := by
  delta State.setStrm
  refine within_upd_strms (sub_of hL rfl) ?_
  assumption

theorem within_updFrame {a0 a1 a2} (hL : sub 37778931862957161709568 L = true) (h : Within L s0 s) : Within L s0
      (updFrame a0 a1 a2 s) := by
  delta updFrame
  extract_lets +onlyGivenNames -merge -useContext -underBinder x2_0
  clear_value x2_0
  exact within_setStrm (sub_of hL rfl) (by assumption)

theorem within_flagFrame {a0 a1 a2} (hL : sub 37778931862957161709568 L = true) (h : Within L s0 s) : Within L s0
      (flagFrame a0 a1 a2 s) := by
  delta flagFrame
  exact within_updFrame (sub_of hL rfl) (by assumption)

theorem within_updCtx {a0 a1} (hL : sub 37778931862957161709568 L = true) (h : Within L s0 s) : Within L s0 (updCtx
      a0 a1 s) := by
  delta updCtx
  exact within_setStrm (sub_of hL rfl) (by assumption)

end Sys2Proof.Machine
end

