-- ==== Sys2Proof/Laws/WithinEnc.lean ====
section
/-! SUPPORT. Which parts of a state each operation of Enc.lean may write. -/

namespace Sys2Proof.Machine

variable {L : Nat} {s0 s : State}

theorem within_setEnc {a1 a2} (hL : sub 9671406556917033397649408 L = true) (h : Within L s0 s) : Within L s0
      (State.setEnc s a1 a2) := by
  delta State.setEnc
  refine within_upd_encs (sub_of hL rfl) ?_
  assumption

theorem within_cset {a0 a1 a2} (q0_1 : sub (partW a1.blk) L = true) (h : Within L s0 s) : Within L s0 (cset a0 a1
      a2 s) := by
  delta cset
  exact within_set q0_1 (by assumption)

theorem within_clearValid {a0 a1} (hL : sub 885443715542353444864 L = true) (h : Within L s0 s) : Within L s0
      (clearValid a0 a1 s) := by
  delta clearValid
  extract_lets +onlyGivenNames -merge -useContext -underBinder x2_0
  clear_value x2_0
  exact within_dramWrite (sub_of hL rfl) (by assumption)

theorem within_endSlot {a0 a1} (hL : sub 885443715542353707008 L = true) (h : Within L s0 s) : Within L s0 (endSlot
      a0 a1 s) := by
  delta endSlot
  refine ite_ind ?_ ?_
  · assumption
  · refine within_cset (sub_of hL rfl) ?_
    exact within_clearValid (sub_of hL rfl) (by assumption)

theorem within_encEvent {a0 a1} (hL : sub 2535301205178829789462679257088 L = true) (h : Within L s0 s) : Within L
      s0 (encEvent a0 a1 s) := by
  delta encEvent
  refine within_raise (sub_of hL rfl) (sub_of hL rfl) ?_
  exact within_set (sub_of hL rfl) (by assumption)

theorem within_recoveryPending {a0} (hL : sub 2535301206064273505005032701952 L = true) (h : Within L s0 s) :
      Within L s0 (recoveryPending a0 s) := by
  delta recoveryPending
  refine ite_ind ?_ ?_
  · assumption
  · extract_lets +onlyGivenNames -merge -useContext -underBinder x4_0 x4_1
    have hx4_0 : Within L s0 x4_0 := by
      exact within_cset (sub_of hL rfl) (by assumption)
    clear_value x4_0
    have hx4_1 : Within L s0 x4_1 := by
      exact within_cset (sub_of hL rfl) (by assumption)
    clear_value x4_1
    refine within_encEvent (sub_of hL rfl) ?_
    refine within_forEach (fun _ _ _ => ?_) ?_
    · exact within_clearValid (sub_of hL rfl) (by assumption)
    · assumption

theorem within_refreshEnc {a0} (hL : sub 4503599627632640 L = true) (h : Within L s0 s) : Within L s0 (refreshEnc
      a0 s) := by
  delta refreshEnc
  extract_lets +onlyGivenNames -merge -useContext -underBinder x2_0 x2_1 x2_2 x2_3 x2_4
  clear_value x2_0
  have hx2_1 : Within L s0 x2_1 := by
    exact within_setSat (sub_of hL rfl) (by assumption)
  clear_value x2_1
  have hx2_2 : Within L s0 x2_2 := by
    exact within_set (sub_of hL rfl) (by assumption)
  clear_value x2_2
  have hx2_3 : Within L s0 x2_3 := by
    exact within_set (sub_of hL rfl) (by assumption)
  clear_value x2_3 x2_4
  exact within_setState (sub_of hL rfl) (by assumption)

theorem within_showCtx {a0 a1} (hL : sub 4503599627632640 L = true) (h : Within L s0 s) : Within L s0 (showCtx a0
      a1 s) := by
  delta showCtx
  refine within_refreshEnc (sub_of hL rfl) ?_
  exact within_cset (sub_of hL rfl) (by assumption)

theorem within_settleCtx {a0} (hL : sub 4503599627632640 L = true) (h : Within L s0 s) : Within L s0 (settleCtx a0
      s) := by
  delta settleCtx
  extract_lets +onlyGivenNames -merge -useContext -underBinder x2_0
  clear_value x2_0
  refine ite_ind ?_ ?_
  · assumption
  · exact within_showCtx (sub_of hL rfl) (by assumption)

theorem within_abandonPic {a0 a1 a2} (hL : sub 2535310877470830422038430351360 L = true) (h : Within L s0 s) :
      Within L s0 (abandonPic a0 a1 a2 s) := by
  delta abandonPic
  extract_lets +onlyGivenNames -merge -useContext -underBinder x2_0 x2_1 x2_2 x2_3 x2_4 x2_5 x2_6 x2_7
  clear_value x2_0
  have hx2_1 : Within L s0 x2_1 := by
    exact within_setEnc (sub_of hL rfl) (by assumption)
  clear_value x2_1
  have hx2_2 : Within L s0 x2_2 := by
    exact within_cset (sub_of hL rfl) (by assumption)
  clear_value x2_2
  have hx2_3 : Within L s0 x2_3 := by
    exact within_inc (sub_of hL rfl) (by assumption)
  clear_value x2_3
  have hx2_4 : Within L s0 x2_4 := by
    refine ite_ind ?_ ?_
    · assumption
    · exact within_endSlot (sub_of hL rfl) (by assumption)
  clear_value x2_4
  have hx2_5 : Within L s0 x2_5 := by
    exact within_encEvent (sub_of hL rfl) (by assumption)
  clear_value x2_5
  have hx2_6 : Within L s0 x2_6 := by
    exact within_recoveryPending (sub_of hL rfl) (by assumption)
  clear_value x2_6
  have hx2_7 : Within L s0 x2_7 := by
    refine ite_ind ?_ ?_
    · exact within_cset (sub_of hL rfl) (by assumption)
    · assumption
  clear_value x2_7
  exact within_settleCtx (sub_of hL rfl) (by assumption)

theorem within_abandonFrame {a0 a1 a2 a3} (hL : sub 2535310877470830422038430351360 L = true) (h : Within L s0 s) :
      Within L s0 (abandonFrame a0 a1 a2 a3 s) := by
  delta abandonFrame
  split
  · exact within_abandonPic (sub_of hL rfl) (by assumption)
  · assumption

theorem within_emptyRecon {a0} (hL : sub 2535310877470830422038430351360 L = true) (h : Within L s0 s) : Within L
      s0 (emptyRecon a0 s) := by
  delta emptyRecon
  extract_lets +onlyGivenNames -merge -useContext -underBinder x2_0 x2_1
  clear_value x2_0
  have hx2_1 : Within L s0 x2_1 := by
    exact within_setEnc (sub_of hL rfl) (by assumption)
  clear_value x2_1
  refine within_recoveryPending (sub_of hL rfl) ?_
  exact within_cset (sub_of hL rfl) (by assumption)

theorem within_applyCtx {a0} (hL : sub 2535310877470830422038430351360 L = true) (h : Within L s0 s) : Within L s0
      (applyCtx a0 s) := by
  delta applyCtx
  extract_lets +onlyGivenNames -merge -useContext -underBinder was shape s1 src s2 now
  have h1 : Within L s0 s1 := by
    refine forEach_mem (P := Within L s0) (fun a ha s h => ?_) h
    exact within_applyAt (mem_windowKeys (List.mem_filter.1 ha).1) (sub_of hL rfl) h
  clear_value s1
  have h2 : Within L s0 s2 := within_setEnc (sub_of hL rfl) h1
  clear_value s2
  refine ite_ind ?_ (ite_ind ?_ (ite_ind ?_ ?_))
  · exact within_showCtx (sub_of hL rfl) (within_emptyRecon (sub_of hL rfl) (within_setEnc (sub_of hL rfl) h2))
  · exact within_showCtx (sub_of hL rfl) (within_setEnc (sub_of hL rfl) h2)
  · exact within_emptyRecon (sub_of hL rfl) h2
  · exact within_refreshEnc (sub_of hL rfl) h2

theorem within_updPic {a0 a1 a2 a3} (hL : sub 9671406556917033397649408 L = true) (h : Within L s0 s) : Within L s0
      (updPic a0 a1 a2 a3 s) := by
  delta updPic
  extract_lets +onlyGivenNames -merge -useContext -underBinder x2_0
  clear_value x2_0
  exact within_setEnc (sub_of hL rfl) (by assumption)

theorem within_outWrite {a0 a1} (hL : sub 885443715542353707008 L = true) (h : Within L s0 s) : Within L s0
      (outWrite a0 a1 s) := by
  delta outWrite
  extract_lets +onlyGivenNames -merge -useContext -underBinder x2_0 x2_1 x2_2 x2_3 x2_4 x2_5
  clear_value x2_0 x2_1 x2_2 x2_3
  have hx2_4 : Within L s0 x2_4 := by
    exact within_dramWrite (sub_of hL rfl) (by assumption)
  clear_value x2_4
  have hx2_5 : Within L s0 x2_5 := by
    exact within_dramWrite (sub_of hL rfl) (by assumption)
  clear_value x2_5
  exact within_cset (sub_of hL rfl) (by assumption)

theorem within_stampUnits {a0 a1 a2} (hL : sub 16777216 L = true) (h : Within L s0 s) : Within L s0 (stampUnits a0
      a1 a2 s) := by
  delta stampUnits
  refine within_forEach (fun _ _ _ => ?_) ?_
  · extract_lets +onlyGivenNames -merge -useContext -underBinder x4_0
    clear_value x4_0
    refine ite_ind ?_ ?_
    · extract_lets +onlyGivenNames -merge -useContext -underBinder x6_0 x6_1
      have hx6_0 : Within L s0 x6_0 := by
        refine ite_ind ?_ ?_
        · exact within_inc (sub_of (a := partW .chk) hL rfl) (by assumption)
        · assumption
      clear_value x6_0
      have hx6_1 : Within L s0 x6_1 := by
        exact within_inc (sub_of (a := partW .chk) hL rfl) (by assumption)
      clear_value x6_1
      exact within_set (sub_of (a := partW .chk) hL rfl) (by assumption)
    · assumption
  · assumption

theorem within_takeSlot {a0 a1} (hL : sub 2535310877470830422038430351360 L = true) (h : Within L s0 s) : Within L
      s0 (takeSlot a0 a1 s) := by
  delta takeSlot
  extract_lets +onlyGivenNames -merge -useContext -underBinder x2_0 x2_1 x2_2 x2_3 x2_4 x2_5 x2_6 x2_7 x2_8 x2_9 x2_10 x2_11 x2_12 x2_13
  clear_value x2_0 x2_1 x2_2 x2_3 x2_4 x2_5 x2_6 x2_7 x2_8 x2_9 x2_10 x2_11 x2_12
  have hx2_13 : ∀ y0 s, Within L s0 s → Within L s0 (x2_13 y0 s) := by
    intro y0 s h
    unfold x2_13
    extract_lets +onlyGivenNames -merge -useContext -underBinder x4_0 x4_1
    clear_value x4_0 x4_1
    exact within_setEnc (sub_of hL rfl) (by assumption)
  refine ite_ind ?_ ?_
  · extract_lets +onlyGivenNames -merge -useContext -underBinder x4_0
    have hx4_0 : Within L s0 x4_0 := by
      refine within_encEvent (sub_of hL rfl) ?_
      exact within_cset (sub_of hL rfl) (by assumption)
    clear_value x4_0
    refine within_abandonPic (sub_of hL rfl) ?_
    refine hx2_13 _ _ ?_
    assumption
  · extract_lets +onlyGivenNames -merge -useContext -underBinder x4_0 x4_1 x4_2 x4_3 x4_4 x4_5 x4_6 x4_7 x4_8 x4_9 x4_10 x4_11
    clear_value x4_0 x4_1
    have hx4_2 : Within L s0 x4_2 := by
      exact within_setEnc (sub_of hL rfl) (by assumption)
    clear_value x4_2
    have hx4_3 : Within L s0 x4_3 := by
      refine ite_ind ?_ ?_
      · exact within_cset (sub_of hL rfl) (by assumption)
      · assumption
    clear_value x4_3 x4_4 x4_5
    have hx4_6 : Within L s0 x4_6 := by
      refine ite_ind ?_ ?_
      · assumption
      · exact within_cset (sub_of hL rfl) (by assumption)
    clear_value x4_6 x4_7 x4_8 x4_9
    have hx4_10 : Within L s0 x4_10 := by
      refine ite_ind ?_ ?_
      · refine within_encEvent (sub_of hL rfl) ?_
        refine within_encEvent (sub_of hL rfl) ?_
        exact within_inc (sub_of hL rfl) (by assumption)
      · assumption
    clear_value x4_10 x4_11
    refine within_settleCtx (sub_of hL rfl) ?_
    refine hx2_13 _ _ ?_
    assumption

theorem within_releaseStored {a0} (hL : sub 2535310877470830422038430351360 L = true) (h : Within L s0 s) : Within
      L s0 (releaseStored a0 s) := by
  delta releaseStored
  extract_lets +onlyGivenNames -merge -useContext -underBinder x2_0
  clear_value x2_0
  refine ite_ind ?_ ?_
  · split
    · refine ite_ind ?_ ?_
      · exact within_takeSlot (sub_of hL rfl) (by assumption)
      · assumption
    · assumption
  · assumption

theorem within_pictureDone {a0 a1} (hL : sub 2535310877470830422038430351360 L = true) (h : Within L s0 s) : Within
      L s0 (pictureDone a0 a1 s) := by
  delta pictureDone
  extract_lets +onlyGivenNames -merge -useContext -underBinder x2_0 x2_1 x2_2 x2_3 x2_4 x2_5 x2_6 x2_7 x2_8 x2_9
  clear_value x2_0 x2_1
  have hx2_2 : Within L s0 x2_2 := by
    exact within_setEnc (sub_of hL rfl) (by assumption)
  clear_value x2_2
  have hx2_3 : Within L s0 x2_3 := by
    refine ite_ind ?_ ?_
    · refine within_cset (sub_of hL rfl) ?_
      exact within_cset (sub_of hL rfl) (by assumption)
    · assumption
  clear_value x2_3
  have hx2_4 : Within L s0 x2_4 := by
    exact within_cset (sub_of hL rfl) (by assumption)
  clear_value x2_4
  have hx2_5 : Within L s0 x2_5 := by
    refine ite_ind ?_ ?_
    · assumption
    · exact within_inc (sub_of hL rfl) (by assumption)
  clear_value x2_5
  have hx2_6 : Within L s0 x2_6 := by
    exact within_cset (sub_of hL rfl) (by assumption)
  clear_value x2_6
  have hx2_7 : Within L s0 x2_7 := by
    exact within_cset (sub_of hL rfl) (by assumption)
  clear_value x2_7
  have hx2_8 : Within L s0 x2_8 := by
    refine ite_ind ?_ ?_
    · exact within_cset (sub_of hL rfl) (by assumption)
    · assumption
  clear_value x2_8
  have hx2_9 : Within L s0 x2_9 := by
    refine within_encEvent (sub_of hL rfl) ?_
    exact within_endSlot (sub_of hL rfl) (by assumption)
  clear_value x2_9
  exact within_settleCtx (sub_of hL rfl) (by assumption)

theorem within_releaseSlice {a0 a1 a2} (hL : sub 2535310877470830422038447128576 L = true) (h : Within L s0 s) :
      Within L s0 (releaseSlice a0 a1 a2 s) := by
  delta releaseSlice
  extract_lets +onlyGivenNames -merge -useContext -underBinder x2_0 x2_1
  clear_value x2_0 x2_1
  split
  · assumption
  · extract_lets +onlyGivenNames -merge -useContext -underBinder x4_0 x4_1 x4_2 x4_3
    clear_value x4_0 x4_1 x4_3
    refine ite_ind ?_ ?_
    · extract_lets +onlyGivenNames -merge -useContext -underBinder x6_0
      clear_value x6_0
      refine ite_ind ?_ ?_
      · assumption
      · refine within_encEvent (sub_of hL rfl) ?_
        refine within_showCtx (sub_of hL rfl) ?_
        exact within_cset (sub_of hL rfl) (by assumption)
    · extract_lets +onlyGivenNames -merge -useContext -underBinder x6_0 x6_1 x6_2 x6_3 x6_4 x6_5
      clear_value x6_0 x6_1 x6_2 x6_3 x6_4 x6_5
      refine ite_ind ?_ ?_
      · refine within_encEvent (sub_of hL rfl) ?_
        refine within_showCtx (sub_of hL rfl) ?_
        exact within_cset (sub_of hL rfl) (by assumption)
      · extract_lets +onlyGivenNames -merge -useContext -underBinder x8_0 x8_1 x8_2 x8_3 x8_4 x8_5 x8_6 x8_7 x8_8
        have hx8_0 : Within L s0 x8_0 := by
          exact within_outWrite (sub_of hL rfl) (by assumption)
        clear_value x8_0 x8_1
        have hx8_2 : Within L s0 x8_2 := by
          exact within_setEnc (sub_of hL rfl) (by assumption)
        clear_value x8_2
        have hx8_3 : Within L s0 x8_3 := by
          exact within_stampUnits (sub_of hL rfl) (by assumption)
        clear_value x8_3 x8_4 x8_5
        have hx8_6 : Within L s0 x8_6 := by
          refine ite_ind ?_ ?_
          · refine within_encEvent (sub_of hL rfl) ?_
            exact within_inc (sub_of hL rfl) (by assumption)
          · assumption
        clear_value x8_6 x8_7
        have hx8_8 : Within L s0 x8_8 := by
          exact within_updPic (sub_of hL rfl) (by assumption)
        clear_value x8_8
        refine ite_ind ?_ ?_
        · refine within_releaseStored (sub_of hL rfl) ?_
          exact within_pictureDone (sub_of hL rfl) (by assumption)
        · assumption

theorem within_ctuRowDone {a0 a1 a2 a3 a4} (hL : sub 2535310877470830422038447128576 L = true) (h : Within L s0 s)
      : Within L s0 (ctuRowDone a0 a1 a2 a3 a4 s) := by
  delta ctuRowDone
  extract_lets +onlyGivenNames -merge -useContext -underBinder x2_0
  clear_value x2_0
  refine ite_ind ?_ ?_
  · assumption
  · split
    · assumption
    · split
      · assumption
      · extract_lets +onlyGivenNames -merge -useContext -underBinder x8_0 x8_1 x8_2
        clear_value x8_0 x8_1 x8_2
        refine ite_ind ?_ ?_
        · assumption
        · extract_lets +onlyGivenNames -merge -useContext -underBinder x10_0 x10_1 x10_2 x10_3
          clear_value x10_0 x10_1 x10_2 x10_3
          split
          · extract_lets +onlyGivenNames -merge -useContext -underBinder x12_0 x12_1 x12_2 x12_3 x12_4 x12_5 x12_6 x12_7 x12_8
            clear_value x12_0 x12_1 x12_2 x12_3
            have hx12_4 : Within L s0 x12_4 := by
              refine within_raiseIf (sub_of hL rfl) (sub_of hL rfl) ?_
              refine ite_ind ?_ ?_
              · exact within_set (sub_of hL rfl) (by assumption)
              · assumption
            clear_value x12_4 x12_5 x12_6
            have hx12_7 : Within L s0 x12_7 := by
              exact within_updPic (sub_of hL rfl) (by assumption)
            clear_value x12_7
            have hx12_8 : Within L s0 x12_8 := by
              exact within_releaseSlice (sub_of hL rfl) (by assumption)
            clear_value x12_8
            split
            · refine ite_ind ?_ ?_
              · assumption
              · exact within_releaseSlice (sub_of hL rfl) (by assumption)
            · assumption

theorem within_dropCommits {a0} (hL : sub 9671406556917033397649408 L = true) (h : Within L s0 s) : Within L s0
      (dropCommits a0 s) := by
  delta dropCommits
  refine within_forEach (fun _ _ _ => ?_) ?_
  · exact within_setEnc (sub_of hL rfl) (by assumption)
  · assumption

theorem within_encCommitEnd {a0} (hL : sub 2535301205178829789462678994952 L = true) (h : Within L s0 s) : Within L
      s0 (encCommitEnd a0 s) := by
  delta encCommitEnd
  refine ite_ind ?_ ?_
  · exact within_refreshPace (sub_of hL rfl) (by assumption)
  · extract_lets +onlyGivenNames -merge -useContext -underBinder x4_0 x4_1
    have hx4_1 : Within L s0 x4_1 := by
      exact within_setHdr (sub_of hL rfl) (by assumption)
    clear_value x4_1
    refine within_refreshPace (sub_of hL rfl) ?_
    exact within_commitDone (sub_of hL rfl) (sub_of hL rfl) (by assumption)

theorem within_encBoundary {a0} (hL : sub 2535310877470830422038430351368 L = true) (h : Within L s0 s) : Within L
      s0 (encBoundary a0 s) := by
  delta encBoundary
  refine ite_ind ?_ ?_
  · assumption
  · extract_lets +onlyGivenNames -merge -useContext -underBinder x4_0
    have hx4_0 : Within L s0 x4_0 := by
      exact within_applyCtx (sub_of hL rfl) (by assumption)
    clear_value x4_0
    refine ite_ind ?_ ?_
    · refine within_commitReject (sub_of hL rfl) (sub_of hL rfl) ?_
      exact within_dropCommits (sub_of hL rfl) (by assumption)
    · exact within_encCommitEnd (sub_of hL rfl) (by assumption)

theorem within_encRow {a0 a1 a2 a3} (hL : sub 2535310877470830422038430351360 L = true) (h : Within L s0 s) :
      Within L s0 (encRow a0 a1 a2 a3 s) := by
  delta encRow
  split
  · assumption
  · refine ite_ind ?_ ?_
    · exact within_abandonPic (sub_of hL rfl) (by assumption)
    · extract_lets +onlyGivenNames -merge -useContext -underBinder x6_0 x6_1 x6_2 x6_3
      clear_value x6_0 x6_1 x6_2 x6_3
      exact within_updPic (sub_of hL rfl) (by assumption)

theorem within_execCtuRowDone {a0 a1 a2 a3 a4} (hL : sub 2535310878651422042755858432000 L = true) (h : Within L s0
      s) : WithinN L s0 (execCtuRowDone a0 a1 a2 a3 a4 s) := by
  delta execCtuRowDone
  refine withinN_next ?_
  refine within_ctuRowDone (sub_of hL rfl) ?_
  exact within_at (sub_of hL rfl) (by assumption)

theorem within_stallTimeout {a0} (hL : sub 2535310877470830422038430351360 L = true) (h : Within L s0 s) : Within L
      s0 (stallTimeout a0 s) := by
  delta stallTimeout
  refine ite_ind ?_ ?_
  · assumption
  · split
    · assumption
    · exact within_abandonPic (sub_of hL rfl) (by assumption)

theorem within_execStallTimeout {a0 a1} (hL : sub 2535310878651422042755841654784 L = true) (h : Within L s0 s) :
      WithinN L s0 (execStallTimeout a0 a1 s) := by
  delta execStallTimeout
  refine withinN_next ?_
  refine within_stallTimeout (sub_of hL rfl) ?_
  exact within_at (sub_of hL rfl) (by assumption)

theorem within_outFreed {a0} (hL : sub 2535310877470830422038447128576 L = true) (h : Within L s0 s) : Within L s0
      (outFreed a0 s) := by
  delta outFreed
  refine ite_ind ?_ ?_
  · assumption
  · extract_lets +onlyGivenNames -merge -useContext -underBinder x4_0
    have hx4_0 : Within L s0 x4_0 := by
      exact within_showCtx (sub_of hL rfl) (by assumption)
    clear_value x4_0
    split
    · exact within_settleCtx (sub_of hL rfl) (by assumption)
    · exact within_releaseSlice (sub_of hL rfl) (by assumption)

theorem within_pictureStart {a0 a1 a2} (hL : sub 2535310877470830422038430351368 L = true) (h : Within L s0 s) :
      Within L s0 (pictureStart a0 a1 a2 s) := by
  delta pictureStart
  extract_lets +onlyGivenNames -merge -useContext -underBinder x2_0
  have hx2_0 : Within L s0 x2_0 := by
    exact within_encBoundary (sub_of hL rfl) (by assumption)
  clear_value x2_0
  refine ite_ind ?_ ?_
  · assumption
  · extract_lets +onlyGivenNames -merge -useContext -underBinder x4_0 x4_1 x4_2 x4_3 x4_4
    clear_value x4_0 x4_1 x4_2 x4_3
    have hx4_4 : Within L s0 x4_4 := by
      exact within_setEnc (sub_of hL rfl) (by assumption)
    clear_value x4_4
    refine ite_ind ?_ ?_
    · exact within_abandonPic (sub_of hL rfl) (by assumption)
    · refine ite_ind ?_ ?_
      · refine within_settleCtx (sub_of hL rfl) ?_
        exact within_setEnc (sub_of hL rfl) (by assumption)
      · exact within_takeSlot (sub_of hL rfl) (by assumption)

theorem within_resetEnc {a0} (hL : sub 9671406556917033397649408 L = true) (h : Within L s0 s) : Within L s0
      (resetEnc a0 s) := by
  delta resetEnc
  refine within_forEach (fun _ _ _ => ?_) ?_
  · exact within_setEnc (sub_of hL rfl) (by assumption)
  · assumption

theorem within_writeGang {a0 a1 a2} (hL : sub 2535301205178829789462679257088 L = true) (h : Within L s0 s) :
      Within L s0 (writeGang a0 a1 a2 s) := by
  delta writeGang
  extract_lets +onlyGivenNames -merge -useContext -underBinder x2_0 x2_1
  clear_value x2_0 x2_1
  refine ite_ind ?_ ?_
  · exact within_logAccess (sub_of hL rfl) (sub_of hL rfl) (by assumption)
  · refine ite_ind ?_ ?_
    · exact within_logAccess (sub_of hL rfl) (sub_of hL rfl) (by assumption)
    · refine ite_ind ?_ ?_
      · assumption
      · refine within_refreshEnc (sub_of hL rfl) ?_
        refine within_refreshEnc (sub_of hL rfl) ?_
        exact within_set (sub_of hL rfl) (by assumption)

end Sys2Proof.Machine
end

