-- ==== Sys2Proof/Laws/WithinSessions.lean ====
section
/-! SUPPORT. Which parts of a state each operation of Sessions.lean may write. -/

namespace Sys2Proof.Machine

variable {L : Nat} {s0 s : State}

theorem within_setNet {a1 a2} (hL : sub 1237940039285380274899124224 L = true) (h : Within L s0 s) : Within L s0
      (State.setNet s a1 a2) := by
  delta State.setNet
  refine within_upd_nets (sub_of hL rfl) ?_
  assumption

theorem within_setPay {a1 a2} (hL : sub 9903520314283042199192993792 L = true) (h : Within L s0 s) : Within L s0
      (State.setPay s a1 a2) := by
  delta State.setPay
  refine within_upd_pkt (sub_of hL rfl) ?_
  assumption

theorem within_setSess {a1 a2} (hL : sub 2475880078570760549798248448 L = true) (h : Within L s0 s) : Within L s0
      (State.setSess s a1 a2) := by
  delta State.setSess
  refine within_upd_sess (sub_of hL rfl) ?_
  assumption

theorem within_addRef {a0} (hL : sub 9903520314283042199192993792 L = true) (h : Within L s0 s) : Within L s0
      (addRef a0 s) := by
  delta addRef
  exact within_setPay (sub_of hL rfl) (by assumption)

theorem within_countAge (hL : sub 9903520314283042199192993792 L = true) (h : Within L s0 s) : Within L s0
      (countAge s) := by
  delta countAge
  refine within_upd_pkt (sub_of hL rfl) ?_
  assumption

theorem within_sessEvent {a0 a1} (hL : sub 2535301205179978207367725580288 L = true) (h : Within L s0 s) : Within L
      s0 (sessEvent a0 a1 s) := by
  delta sessEvent
  refine within_raise (sub_of hL rfl) (sub_of hL rfl) ?_
  exact within_set (sub_of hL rfl) (by assumption)

theorem within_countDrop {a0 a1} (hL : sub 2535301205179978207376315514880 L = true) (h : Within L s0 s) : Within L
      s0 (countDrop a0 a1 s) := by
  delta countDrop
  refine within_sessEvent (sub_of hL rfl) ?_
  split <;> exact within_inc (sub_of hL rfl) h

theorem within_countPay (hL : sub 9903520314283042199192993792 L = true) (h : Within L s0 s) : Within L s0
      (countPay s) := by
  delta countPay
  refine within_upd_pkt (sub_of hL rfl) ?_
  assumption

theorem within_payTokens {a0 a1 a2} (hL : sub 2475880078570760549798248448 L = true) (h : Within L s0 s) : Within L
      s0 (payTokens a0 a1 a2 s) := by
  delta payTokens
  exact within_setSess (sub_of hL rfl) (by assumption)

theorem within_showBuf (hL : sub 67108864 L = true) (h : Within L s0 s) : Within L s0 (showBuf s) := by
  delta showBuf
  refine within_setSat (sub_of hL rfl) ?_
  exact within_set (sub_of hL rfl) (by assumption)

theorem within_freeBytes {a0 a1} (hL : sub 9903520314283042199260102656 L = true) (h : Within L s0 s) : Within L s0
      (freeBytes a0 a1 s) := by
  delta freeBytes
  extract_lets +onlyGivenNames -merge -useContext -underBinder x2_0
  clear_value x2_0
  refine within_showBuf (sub_of hL rfl) ?_
  refine within_upd_pkt (sub_of hL rfl) ?_
  assumption

theorem within_unref {a0} (hL : sub 9903520314283042199260102656 L = true) (h : Within L s0 s) : Within L s0 (unref
      a0 s) := by
  delta unref
  extract_lets +onlyGivenNames -merge -useContext -underBinder x2_0
  clear_value x2_0
  refine ite_ind ?_ ?_
  · refine within_freeBytes (sub_of hL rfl) ?_
    exact within_setPay (sub_of hL rfl) (by assumption)
  · exact within_setPay (sub_of hL rfl) (by assumption)

theorem within_removeRef {a0 a1} (hL : sub 12379400392853802749058351104 L = true) (h : Within L s0 s) : Within L
      s0 (removeRef a0 a1 s) := by
  delta removeRef
  extract_lets +onlyGivenNames -merge -useContext -underBinder x2_0 x2_1
  clear_value x2_0
  have hx2_1 : Within L s0 x2_1 := by
    exact within_setSess (sub_of hL rfl) (by assumption)
  clear_value x2_1
  refine within_unref (sub_of hL rfl) ?_
  exact within_freeBytes (sub_of hL rfl) (by assumption)

theorem within_dropLink {n t k} (hL : sub 12379400392853802749091905536 L = true) (h : Within L s0 s) : Within L s0
      (dropLink n t k s) := by
  induction k generalizing s with
  | zero => exact h
  | succ k ih =>
    unfold dropLink
    split
    · exact h
    · split
      · exact h
      · exact ih (within_inc (sub_of hL (by rfl)) (within_removeRef (sub_of hL (by rfl)) (within_payTokens (sub_of
      hL (by rfl)) h)))

theorem within_dropQueued {a0 a1 a2} (hL : sub 2547680605572832010125306757120 L = true) (h : Within L s0 s) :
      Within L s0 (dropQueued a0 a1 a2 s) := by
  delta dropQueued
  extract_lets +onlyGivenNames -merge -useContext -underBinder x2_0 x2_1 x2_2 x2_3
  clear_value x2_0
  have hx2_1 : Within L s0 x2_1 := by
    refine within_countDrop (sub_of hL rfl) ?_
    exact within_removeRef (sub_of hL rfl) (by assumption)
  clear_value x2_1 x2_2
  have hx2_3 : Within L s0 x2_3 := by
    refine within_forEach (fun _ _ _ => ?_) ?_
    · refine within_countDrop (sub_of hL rfl) ?_
      exact within_removeRef (sub_of hL rfl) (by assumption)
    · assumption
  clear_value x2_3
  refine ite_ind ?_ ?_
  · exact within_setSess (sub_of hL rfl) (by assumption)
  · assumption

theorem within_enqueueRef {a0 a1 a2 a3 a4} (hL : sub 12379400392853802748991242240 L = true) (h : Within L s0 s) :
      Within L s0 (enqueueRef a0 a1 a2 a3 a4 s) := by
  delta enqueueRef
  refine within_countAge (sub_of hL rfl) ?_
  exact within_setSess (sub_of hL rfl) (by assumption)

theorem within_excNext (hL : sub 67108864 L = true) (h : Within L s0 s) : Within L s0 (excNext s) := by
  delta excNext
  exact within_set (sub_of hL rfl) (by assumption)

theorem within_excSettle {k} (hL : sub 67108864 L = true) (h : Within L s0 s) : Within L s0 (excSettle k s) := by
  induction k generalizing s with
  | zero => exact h
  | succ k ih =>
    unfold excSettle
    split
    · exact ite_ind (ih (within_excNext (sub_of hL (by rfl)) h)) h
    · exact h

theorem within_startSessions {a0 a1} (hL : sub 147573952589676412928 L = true) (h : Within L s0 s) : Within2 L s0
      (startSessions a0 a1 s) := by
  delta startSessions
  extract_lets +onlyGivenNames -merge -useContext -underBinder x2_0
  have hx2_0 : Within L s0 x2_0 := by
    refine within_forEach (fun _ _ _ => ?_) ?_
    · refine ite_ind ?_ ?_
      · exact within_setState (sub_of hL rfl) (by assumption)
      · assumption
    · assumption
  clear_value x2_0
  refine within2_mk ?_
  assumption

theorem within_noteDom {a0 a1} (hL : sub 2475880078570760549798248448 L = true) (h : Within L s0 s) : Within L s0
      (noteDom a0 a1 s) := by
  delta noteDom
  refine within_forEach (fun _ _ _ => ?_) ?_
  · exact within_setSess (sub_of hL rfl) (by assumption)
  · assumption

theorem within_newPart (hL : sub 9903520314283042199192993792 L = true) (h : Within L s0 s) : Within2 L s0 (newPart
      s) := by
  delta newPart
  refine within2_mk ?_
  refine within_upd_pkt (sub_of hL rfl) ?_
  assumption

theorem within_startPacket {a0 a1 a2} (hL : sub 13617347515688907328425295872 L = true) (h : Within L s0 s) :
      Within L s0 (startPacket a0 a1 a2 s) := by
  delta startPacket
  split
  · assumption
  · extract_lets +onlyGivenNames -merge -useContext -underBinder x4_0 x4_1 x4_2 x4_3
    clear_value x4_0
    have hx4_1 : Within L s0 x4_1 := by
      refine within_payTokens (sub_of hL rfl) ?_
      refine within_fresh (sub_of hL rfl) ?_
      exact within_emit (sub_of hL rfl) (by assumption)
    clear_value x4_1 x4_2
    have hx4_3 : Within L s0 x4_3 := by
      exact within_setSess (sub_of hL rfl) (by assumption)
    clear_value x4_3
    refine within_setNet (sub_of hL rfl) ?_
    exact within_freeBytes (sub_of hL rfl) (by assumption)

theorem within_pickNext_drr {a0 a1 a3} (hL : sub 13617347515688907328425295872 L = true) (h : Within L s0 s) :
      Within L s0 (pickNext.drr a0 a1 s a3) := by
  delta pickNext.drr
  refine ite_ind ?_ ?_
  · exact within_setNet (sub_of hL rfl) (by assumption)
  · split
    · refine within_startPacket (sub_of hL rfl) ?_
      exact within_setNet (sub_of hL rfl) (by assumption)
    · exact within_setNet (sub_of hL rfl) (by assumption)

theorem within_pickNext {a0 a1} (hL : sub 2548918548859897268873566617600 L = true) (h : Within L s0 s) : Within L
      s0 (pickNext a0 a1 s) := by
  delta pickNext
  extract_lets +onlyGivenNames -merge -useContext -underBinder x2_0 x2_1 x2_2
  have hx2_0 : Within L s0 x2_0 := by
    refine within_forEach (fun _ _ _ => ?_) ?_
    · exact within_ptpSettle (sub_of hL rfl) (by assumption)
    · assumption
  clear_value x2_0
  have hx2_1 : Within L s0 x2_1 := by
    exact within_excSettle (sub_of hL rfl) (by assumption)
  clear_value x2_1 x2_2
  refine ite_ind ?_ ?_
  · assumption
  · refine ite_ind ?_ ?_
    · exact within_dropLink (sub_of hL rfl) (by assumption)
    · split
      · exact within_setNet (sub_of hL rfl) (by assumption)
      · split
        · refine within_setNet (sub_of hL rfl) ?_
          exact within_emit (sub_of hL rfl) (by assumption)
        · refine ite_ind ?_ ?_
          · split
            · rename_i v12_0 v12_1 q12_0
              have hv12_1 : Within L s0 v12_1 := within2_eq q12_0 (by
                exact within_readOpen (sub_of hL rfl) (by assumption))
              refine within_setNet (sub_of hL rfl) ?_
              refine within_emit (sub_of hL rfl) ?_
              exact within_excNext (sub_of hL rfl) (by assumption)
          · exact within_pickNext_drr (sub_of hL rfl) (by assumption)
        · exact within_pickNext_drr (sub_of hL rfl) (by assumption)

theorem within_pickAll {a0} (hL : sub 2548918548859897268873566617600 L = true) (h : Within L s0 s) : Within L s0
      (pickAll a0 s) := by
  delta pickAll
  refine within_forEach (fun _ _ _ => ?_) ?_
  · refine within_forEach (fun _ _ _ => ?_) ?_
    · exact within_pickNext (sub_of hL rfl) (by assumption)
    · assumption
  · assumption

theorem within_useBytes {a0 a1} (hL : sub 2545204725494261249566918574080 L = true) (h : Within L s0 s) : Within L
      s0 (useBytes a0 a1 s) := by
  delta useBytes
  extract_lets +onlyGivenNames -merge -useContext -underBinder x2_0
  clear_value x2_0
  refine ite_ind ?_ ?_
  · refine within_showBuf (sub_of hL rfl) ?_
    refine within_upd_pkt (sub_of hL rfl) ?_
    assumption
  · extract_lets +onlyGivenNames -merge -useContext -underBinder x4_0
    have hx4_0 : Within L s0 x4_0 := by
      refine within_showBuf (sub_of hL rfl) ?_
      refine within_upd_pkt (sub_of hL rfl) ?_
      assumption
    clear_value x4_0
    exact within_raiseIf (sub_of hL rfl) (sub_of hL rfl) (by assumption)

theorem within_storePay {a0} (hL : sub 2545204725494261249566918574080 L = true) (h : Within L s0 s) : Within2 L s0
      (storePay a0 s) := by
  delta storePay
  split
  · refine within2_mk ?_
    assumption
  · refine within2_mk ?_
    refine within_countPay (sub_of hL rfl) ?_
    refine within_setPay (sub_of hL rfl) ?_
    exact within_useBytes (sub_of hL rfl) (by assumption)

theorem within_takeSeq {a0} (hL : sub 8589934592 L = true) (h : Within L s0 s) : Within2 L s0 (takeSeq a0 s) := by
  delta takeSeq
  refine within2_mk ?_
  exact within_inc (sub_of hL rfl) (by assumption)

theorem within_pushRef {a0 a1 a2 a3} (hL : sub 2547680605572832010116716822528 L = true) (h : Within L s0 s) :
      Within L s0 (pushRef a0 a1 a2 a3 s) := by
  delta pushRef
  extract_lets +onlyGivenNames -merge -useContext -underBinder x2_0
  clear_value x2_0
  refine within_enqueueRef (sub_of hL rfl) ?_
  refine within_addRef (sub_of hL rfl) ?_
  exact within_useBytes (sub_of hL rfl) (by assumption)

theorem within_offerRef {a0 a1 a2} (hL : sub 2547680605572832010125306757120 L = true) (h : Within L s0 s) : Within
      L s0 (offerRef a0 a1 a2 s) := by
  delta offerRef
  extract_lets +onlyGivenNames -merge -useContext -underBinder x2_0
  clear_value x2_0
  split
  · rename_i v2_0 v2_1 q2_0
    have hv2_1 : Within L s0 v2_1 := within2_eq q2_0 (by
      refine ite_ind ?_ ?_
      · refine within2_mk ?_
        assumption
      · exact within_takeSeq (sub_of hL rfl) (by assumption))
    refine ite_ind ?_ ?_
    · exact within_countDrop (sub_of hL rfl) (by assumption)
    · split
      · exact within_pushRef (sub_of hL rfl) (by assumption)
      · extract_lets +onlyGivenNames -merge -useContext -underBinder x8_0 x8_1
        clear_value x8_0
        have hx8_1 : Within L s0 x8_1 := by
          refine ite_ind ?_ ?_
          · split
            · exact within_dropQueued (sub_of hL rfl) (by assumption)
            · assumption
          · assumption
        clear_value x8_1
        refine ite_ind ?_ ?_
        · exact within_pushRef (sub_of hL rfl) (by assumption)
        · refine within_countDrop (sub_of hL rfl) ?_
          exact within_setSess (sub_of hL rfl) (by assumption)

theorem within_offerPacket {a0 a1} (hL : sub 2547680605572832010125306757120 L = true) (h : Within L s0 s) : Within
      L s0 (offerPacket a0 a1 s) := by
  delta offerPacket
  split
  · rename_i v2_0 q2_0
    have hv2_0 : Within L s0 v2_0 := within2_eq q2_0 (by
      exact within_storePay (sub_of hL rfl) (by assumption))
    extract_lets +onlyGivenNames -merge -useContext -underBinder x4_0
    have hx4_0 : Within L s0 x4_0 := by
      refine within_raise (sub_of hL rfl) (sub_of hL rfl) ?_
      exact within_inc (sub_of hL rfl) (by assumption)
    clear_value x4_0
    refine within_forEach (fun _ _ _ => ?_) ?_
    · split
      · extract_lets +onlyGivenNames -merge -useContext -underBinder x8_0 x8_1
        have hx8_0 : Within L s0 x8_0 := by
          refine ite_ind ?_ ?_
          · assumption
          · show Within2 L s0 _
            exact within_takeSeq (sub_of hL rfl) (by assumption)
        clear_value x8_0 x8_1
        refine within_countDrop (sub_of hL rfl) ?_
        exact within_setSess (sub_of hL rfl) (by assumption)
    · assumption
  · rename_i v2_0 v2_1 q2_0
    have hv2_1 : Within L s0 v2_1 := within2_eq q2_0 (by
      exact within_storePay (sub_of hL rfl) (by assumption))
    refine within_unref (sub_of hL rfl) ?_
    refine within_forEach (fun _ _ _ => ?_) ?_
    · split
      · exact within_offerRef (sub_of hL rfl) (by assumption)
    · assumption

theorem within_ingestBlock {a0 a1 a2 a3} (hL : sub 2548918549008624142976439812096 L = true) (h : Within L s0 s) :
      Within L s0 (ingestBlock a0 a1 a2 a3 s) := by
  delta ingestBlock
  extract_lets +onlyGivenNames -merge -useContext -underBinder x2_0
  clear_value x2_0
  refine ite_ind ?_ ?_
  · assumption
  · split
    · rename_i v4_0 v4_1 q4_0
      have hv4_1 : Within L s0 v4_1 := within2_eq q4_0 (by
        exact within_startSessions (sub_of hL rfl) (by assumption))
      extract_lets +onlyGivenNames -merge -useContext -underBinder x6_0
      have hx6_0 : Within L s0 x6_0 := by
        exact within_noteDom (sub_of hL rfl) (by assumption)
      clear_value x6_0
      split
      · rename_i v6_0 v6_1 q6_0
        have hv6_1 : Within L s0 v6_1 := within2_eq q6_0 (by
          exact within_newPart (sub_of hL rfl) (by assumption))
        extract_lets +onlyGivenNames -merge -useContext -underBinder x8_0
        clear_value x8_0
        refine within_pickAll (sub_of hL rfl) ?_
        exact within_offerPacket (sub_of hL rfl) (by assumption)

theorem within_execBlockReady {a0 a1 a2 a3} (hL : sub 2865831200255496486105418563584 L = true) (h : Within L s0 s)
      : WithinN L s0 (execBlockReady a0 a1 a2 a3 s) := by
  delta execBlockReady
  split
  · refine withinN_next ?_
    exact within_at (sub_of hL rfl) (by assumption)
  · rename_i v2_0 v2_1 v2_2 v2_3 q2_0
    have hv2_3 : Within L s0 v2_3 := withinO4_eq q2_0 (by
      refine within_audCapture (sub_of hL rfl) ?_
      exact within_at (sub_of hL rfl) (by assumption))
    refine withinN_next ?_
    exact within_ingestBlock (sub_of hL rfl) (by assumption)

theorem within_execPacketEligible {a0 a1} (hL : sub 2548918550040488889590977921024 L = true) (h : Within L s0 s) :
      WithinN L s0 (execPacketEligible a0 a1 s) := by
  delta execPacketEligible
  refine withinN_next ?_
  refine within_pickNext (sub_of hL rfl) ?_
  exact within_at (sub_of hL rfl) (by assumption)

theorem within_ingestSegment {a0 a1} (hL : sub 2548918549008624142976439943168 L = true) (h : Within L s0 s) :
      Within L s0 (ingestSegment a0 a1 s) := by
  delta ingestSegment
  extract_lets +onlyGivenNames -merge -useContext -underBinder x2_0 x2_1 x2_2
  clear_value x2_0 x2_1 x2_2
  refine ite_ind ?_ ?_
  · assumption
  · split
    · rename_i v4_0 v4_1 q4_0
      have hv4_1 : Within L s0 v4_1 := within2_eq q4_0 (by
        exact within_readOpen (sub_of hL rfl) (by assumption))
      extract_lets +onlyGivenNames -merge -useContext -underBinder x6_0 x6_1
      clear_value x6_0 x6_1
      refine ite_ind ?_ ?_
      · exact within_set (sub_of hL rfl) (by assumption)
      · split
        · rename_i v8_0 v8_1 q8_0
          have hv8_1 : Within L s0 v8_1 := within2_eq q8_0 (by
            refine ite_ind ?_ ?_
            · exact within_readOpen (sub_of hL rfl) (by assumption)
            · refine within2_mk ?_
              assumption)
          extract_lets +onlyGivenNames -merge -useContext -underBinder x10_0 x10_1
          clear_value x10_0 x10_1
          split
          · rename_i v10_0 v10_1 q10_0
            have hv10_1 : Within L s0 v10_1 := within2_eq q10_0 (by
              exact within_readOpen (sub_of hL rfl) (by assumption))
            extract_lets +onlyGivenNames -merge -useContext -underBinder x12_0
            clear_value x12_0
            split
            · rename_i v12_0 v12_1 q12_0
              have hv12_1 : Within L s0 v12_1 := within2_eq q12_0 (by
                exact within_startSessions (sub_of hL rfl) (by assumption))
              extract_lets +onlyGivenNames -merge -useContext -underBinder x14_0
              have hx14_0 : Within L s0 x14_0 := by
                exact within_noteDom (sub_of hL rfl) (by assumption)
              clear_value x14_0
              split
              · rename_i v14_0 v14_1 q14_0
                have hv14_1 : Within L s0 v14_1 := within2_eq q14_0 (by
                  exact within_newPart (sub_of hL rfl) (by assumption))
                extract_lets +onlyGivenNames -merge -useContext -underBinder x16_0 x16_1
                have hx16_0 : Within L s0 x16_0 := by
                  refine within_forEach (fun _ _ _ => ?_) ?_
                  · extract_lets +onlyGivenNames -merge -useContext -underBinder x20_0 x20_1
                    clear_value x20_0 x20_1
                    refine within_forEach (fun _ _ _ => ?_) ?_
                    · split
                      · exact within_offerPacket (sub_of hL rfl) (by assumption)
                    · assumption
                  · assumption
                clear_value x16_0
                have hx16_1 : Within L s0 x16_1 := by
                  refine within_forEach (fun _ _ _ => ?_) ?_
                  · exact within_setSess (sub_of hL rfl) (by assumption)
                  · assumption
                clear_value x16_1
                refine within_pickAll (sub_of hL rfl) ?_
                exact within_set (sub_of hL rfl) (by assumption)

theorem within_ingestSlice {a0 a1} (hL : sub 2548928220415185563609481871360 L = true) (h : Within L s0 s) : Within
      L s0 (ingestSlice a0 a1 s) := by
  delta ingestSlice
  extract_lets +onlyGivenNames -merge -useContext -underBinder x2_0 x2_1
  clear_value x2_0 x2_1
  refine ite_ind ?_ ?_
  · assumption
  · extract_lets +onlyGivenNames -merge -useContext -underBinder x4_0 x4_1 x4_2
    clear_value x4_0 x4_1
    have hx4_2 : ∀ y0 y1 s, Within L s0 s → Within2 L s0 (x4_2 y0 y1 s) := by
      intro y0 y1 s h
      unfold x4_2
      extract_lets +onlyGivenNames -merge -useContext -underBinder x6_0
      clear_value x6_0
      split
      · rename_i v6_0 v6_1 q6_0
        have hv6_1 : Within L s0 v6_1 := within2_eq q6_0 (by
          exact within_readOpen (sub_of hL rfl) (by assumption))
        split
        · rename_i v8_0 v8_1 q8_0
          have hv8_1 : Within L s0 v8_1 := within2_eq q8_0 (by
            exact within_readOpen (sub_of hL rfl) (by assumption))
          refine within2_mk ?_
          assumption
    split
    · rename_i v4_0 v4_1 q4_0
      have hv4_1 : Within L s0 v4_1 := within2_eq q4_0 (by
        refine hx4_2 _ _ _ ?_
        assumption)
      extract_lets +onlyGivenNames -merge -useContext -underBinder x6_0
      clear_value x6_0
      split
      · rename_i v6_0 v6_1 q6_0
        have hv6_1 : Within L s0 v6_1 := within2_eq q6_0 (by
          refine hx4_2 _ _ _ ?_
          assumption)
        extract_lets +onlyGivenNames -merge -useContext -underBinder x8_0 x8_1 x8_2 x8_3 x8_4
        clear_value x8_0 x8_1 x8_2 x8_3 x8_4
        split
        · rename_i v8_0 v8_1 q8_0
          have hv8_1 : Within L s0 v8_1 := within2_eq q8_0 (by
            exact within_startSessions (sub_of hL rfl) (by assumption))
          extract_lets +onlyGivenNames -merge -useContext -underBinder x10_0 x10_1 x10_2 x10_3
          have hx10_0 : Within L s0 x10_0 := by
            exact within_noteDom (sub_of hL rfl) (by assumption)
          clear_value x10_0 x10_1 x10_2 x10_3
          split
          · rename_i v10_0 v10_1 q10_0
            have hv10_1 : Within L s0 v10_1 := within2_eq q10_0 (by
              exact within_newPart (sub_of hL rfl) (by assumption))
            extract_lets +onlyGivenNames -merge -useContext -underBinder x12_0 x12_1
            clear_value x12_0
            have hx12_1 : Within L s0 x12_1 := by
              refine within_forEach (fun _ _ _ => ?_) ?_
              · extract_lets +onlyGivenNames -merge -useContext -underBinder x16_0 x16_1
                clear_value x16_0 x16_1
                refine within_forEach (fun _ _ _ => ?_) ?_
                · split
                  · exact within_offerPacket (sub_of hL rfl) (by assumption)
                · assumption
              · assumption
            clear_value x12_1
            refine within_pickAll (sub_of hL rfl) ?_
            refine within_outFreed (sub_of hL rfl) ?_
            exact within_cset (sub_of hL rfl) (by assumption)

theorem within_execPktRecordIngest {a0 a1 a2} (hL : sub 2548928221595777184326893305856 L = true) (h : Within L s0
      s) : WithinN L s0 (execPktRecordIngest a0 a1 a2 s) := by
  delta execPktRecordIngest
  refine withinN_next ?_
  refine ite_ind ?_ ?_
  · refine within_ingestSegment (sub_of hL rfl) ?_
    exact within_at (sub_of hL rfl) (by assumption)
  · refine within_ingestSlice (sub_of hL rfl) ?_
    exact within_at (sub_of hL rfl) (by assumption)

theorem within_sendDone {a0} (hL : sub 11141460353568422482749161472 L = true) (h : Within L s0 s) : Within L s0
      (sendDone a0 s) := by
  delta sendDone
  extract_lets +onlyGivenNames -merge -useContext -underBinder x2_0 x2_1
  clear_value x2_0
  have hx2_1 : Within L s0 x2_1 := by
    exact within_setNet (sub_of hL rfl) (by assumption)
  clear_value x2_1
  split
  · refine ite_ind ?_ ?_
    · exact within_unref (sub_of hL rfl) (by assumption)
    · refine within_unref (sub_of hL rfl) ?_
      exact within_inc (sub_of hL rfl) (by assumption)
  · assumption

theorem within_execPktSend {a0 a1} (hL : sub 2548918550040488889599567855616 L = true) (h : Within L s0 s) :
      WithinN L s0 (execPktSend a0 a1 s) := by
  delta execPktSend
  split
  · refine withinN_next ?_
    exact within_at (sub_of hL rfl) (by assumption)
  · refine withinN_next ?_
    refine within_pickAll (sub_of hL rfl) ?_
    refine within_sendDone (sub_of hL rfl) ?_
    exact within_at (sub_of hL rfl) (by assumption)

theorem within_sendReports {a0} (hL : sub 2548918548861050190386763399168 L = true) (h : Within L s0 s) : Within L
      s0 (sendReports a0 s) := by
  delta sendReports
  refine ite_ind ?_ ?_
  · assumption
  · refine within_pickAll (sub_of hL rfl) ?_
    refine within_forEach (fun _ _ _ => ?_) ?_
    · split
      · rename_i v6_0 v6_1 q6_0
        have hv6_1 : Within L s0 v6_1 := within2_eq q6_0 (by
          exact within_newPart (sub_of hL rfl) (by assumption))
        exact within_offerPacket (sub_of hL rfl) (by assumption)
    · assumption

theorem within_execSenderReport {a0} (hL : sub 2548918550041641811104174702592 L = true) (h : Within L s0 s) :
      WithinN L s0 (execSenderReport a0 s) := by
  delta execSenderReport
  refine withinN_next ?_
  refine within_sendReports (sub_of hL rfl) ?_
  exact within_at (sub_of hL rfl) (by assumption)

theorem within_rebase {a0 a1} (hL : sub 2475880078570760549798248448 L = true) (h : Within L s0 s) : Within L s0
      (rebase a0 a1 s) := by
  delta rebase
  exact within_setSess (sub_of hL rfl) (by assumption)

theorem within_subscribe {a0} (hL : sub 2475880226144713148064595968 L = true) (h : Within L s0 s) : Within L s0
      (subscribe a0 s) := by
  delta subscribe
  extract_lets +onlyGivenNames -merge -useContext -underBinder x2_0 x2_1
  clear_value x2_0
  have hx2_1 : Within L s0 x2_1 := by
    exact within_setSess (sub_of hL rfl) (by assumption)
  clear_value x2_1
  refine within_setState (sub_of hL rfl) ?_
  exact within_set (sub_of hL rfl) (by assumption)

theorem within_unsubscribe {a0} (hL : sub 12379400540427755338734764032 L = true) (h : Within L s0 s) : Within L s0
      (unsubscribe a0 s) := by
  delta unsubscribe
  extract_lets +onlyGivenNames -merge -useContext -underBinder x2_0
  have hx2_0 : Within L s0 x2_0 := by
    refine within_forEach (fun _ _ _ => ?_) ?_
    · exact within_removeRef (sub_of hL rfl) (by assumption)
    · assumption
  clear_value x2_0
  exact within_setState (sub_of hL rfl) (by assumption)

theorem within_writeSess {a0 a1 a2 a3} (hL : sub 2548918549007471221471832965120 L = true) (h : Within L s0 s) :
      Within L s0 (writeSess a0 a1 a2 a3 s) := by
  delta writeSess
  extract_lets +onlyGivenNames -merge -useContext -underBinder x2_0
  clear_value x2_0
  split
  · refine within_pickAll (sub_of hL rfl) ?_
    refine within_set (sub_of hL rfl) ?_
    exact within_rebase (sub_of hL rfl) (by assumption)
  · refine ite_ind ?_ ?_
    · exact within_logAccess (sub_of hL rfl) (sub_of hL rfl) (by assumption)
    · refine within_pickAll (sub_of hL rfl) ?_
      refine within_set (sub_of hL rfl) ?_
      exact within_rebase (sub_of hL rfl) (by assumption)
  · refine ite_ind ?_ ?_
    · exact within_logAccess (sub_of hL rfl) (sub_of hL rfl) (by assumption)
    · refine within_set (sub_of hL rfl) ?_
      exact within_set (sub_of hL rfl) (by assumption)
  · assumption

theorem within_writeSessCfg {a0 a1 a2} (hL : sub 2548918549007471221471832965120 L = true) (h : Within L s0 s) :
      Within L s0 (writeSessCfg a0 a1 a2 s) := by
  delta writeSessCfg
  extract_lets +onlyGivenNames -merge -useContext -underBinder x2_0 x2_1
  clear_value x2_0 x2_1
  refine ite_ind ?_ ?_
  · exact within_logAccess (sub_of hL rfl) (sub_of hL rfl) (by assumption)
  · extract_lets +onlyGivenNames -merge -useContext -underBinder x4_0
    have hx4_0 : Within L s0 x4_0 := by
      exact within_set (sub_of hL rfl) (by assumption)
    clear_value x4_0
    refine ite_ind ?_ ?_
    · exact within_subscribe (sub_of hL rfl) (by assumption)
    · refine ite_ind ?_ ?_
      · refine within_pickAll (sub_of hL rfl) ?_
        exact within_unsubscribe (sub_of hL rfl) (by assumption)
      · exact within_pickAll (sub_of hL rfl) (by assumption)

end Sys2Proof.Machine
end

