-- ==== Sys2Proof/Laws/WithinDec.lean ====
section
/-! SUPPORT. Which parts of a state each operation of Dec.lean may write. -/

namespace Sys2Proof.Machine

variable {L : Nat} {s0 s : State}

theorem within_setDec {a1 a2} (hL : sub 19342813113834066795298816 L = true) (h : Within L s0 s) : Within L s0
      (State.setDec s a1 a2) := by
  delta State.setDec
  refine within_upd_decs (sub_of hL rfl) ?_
  assumption

theorem within_dset {a0 a1 a2} (q0_1 : sub (partW a1.blk) L = true) (h : Within L s0 s) : Within L s0 (dset a0 a1
      a2 s) := by
  delta dset
  exact within_set q0_1 (by assumption)

theorem within_showDpb {a0} (hL : sub 524288 L = true) (h : Within L s0 s) : Within L s0 (showDpb a0 s) := by
  delta showDpb
  extract_lets +onlyGivenNames -merge -useContext -underBinder s1
  have h1 : Within L s0 s1 := within_dset (sub_of hL rfl) h
  clear_value s1
  refine within_forEach (fun _ _ h => ?_) h1
  extract_lets +onlyGivenNames -merge -useContext -underBinder e put
  clear_value e
  have hp : ∀ f v s, sub (partW f.blk) L = true → Within L s0 s → Within L s0 (put f v s) :=
    fun f v s hf h => within_dset hf h
  have hd : sub (partW .dec) L = true := sub_of hL rfl
  split <;> exact hp _ _ _ hd (hp _ _ _ hd (hp _ _ _ hd (hp _ _ _ hd (hp _ _ _ hd (hp _ _ _ hd h)))))

theorem within_setEntry {a0 a1 a2} (hL : sub 19342813113834066795823104 L = true) (h : Within L s0 s) : Within L s0
      (setEntry a0 a1 a2 s) := by
  delta setEntry
  extract_lets +onlyGivenNames -merge -useContext -underBinder x2_0
  clear_value x2_0
  refine within_showDpb (sub_of hL rfl) ?_
  exact within_setDec (sub_of hL rfl) (by assumption)

theorem within_dinc {a0 a1 a2} (q0_1 : sub (partW a1.blk) L = true) (h : Within L s0 s) : Within L s0 (dinc a0 a1
      a2 s) := by
  delta dinc
  exact within_dset q0_1 (by assumption)

theorem within_dropEntry {a0 a1} (hL : sub 2535359233618184802461948575744 L = true) (h : Within L s0 s) : Within L
      s0 (dropEntry a0 a1 s) := by
  delta dropEntry
  split
  · assumption
  · extract_lets +onlyGivenNames -merge -useContext -underBinder x4_0
    have hx4_0 : Within L s0 x4_0 := by
      exact within_setEntry (sub_of hL rfl) (by assumption)
    clear_value x4_0
    refine within_dropDec (sub_of hL rfl) ?_
    refine ite_ind ?_ ?_
    · exact within_loseOwner (sub_of hL rfl) (by assumption)
    · assumption

theorem within_dropUnused {a0} (hL : sub 2535359233618184802461948575744 L = true) (h : Within L s0 s) : Within L
      s0 (dropUnused a0 s) := by
  delta dropUnused
  refine within_forEach (fun _ _ _ => ?_) ?_
  · refine ite_ind ?_ ?_
    · exact within_dropEntry (sub_of hL rfl) (by assumption)
    · assumption
  · assumption

theorem within_decEvent {a0 a1} (hL : sub 2535301205178834293062306889728 L = true) (h : Within L s0 s) : Within L
      s0 (decEvent a0 a1 s) := by
  delta decEvent
  refine within_raise (sub_of hL rfl) (sub_of hL rfl) ?_
  exact within_set (sub_of hL rfl) (by assumption)

theorem within_outputEntry {a0 a1} (hL : sub 2535359234503637525203556761600 L = true) (h : Within L s0 s) : Within
      L s0 (outputEntry a0 a1 s) := by
  delta outputEntry
  split
  · assumption
  · extract_lets +onlyGivenNames -merge -useContext -underBinder x4_0 x4_1 x4_2 x4_3
    clear_value x4_0 x4_1 x4_2
    have hx4_3 : Within L s0 x4_3 := by
      exact within_setDec (sub_of hL rfl) (by assumption)
    clear_value x4_3
    split
    · extract_lets +onlyGivenNames -merge -useContext -underBinder x6_0 x6_1 x6_2 x6_3 x6_4 x6_5 x6_6
      clear_value x6_0
      have hx6_1 : Within L s0 x6_1 := by
        exact within_setBuf (sub_of hL rfl) (by assumption)
      clear_value x6_1
      have hx6_2 : Within L s0 x6_2 := by
        exact within_completeBuf (sub_of hL rfl) (by assumption)
      clear_value x6_2
      have hx6_3 : Within L s0 x6_3 := by
        exact within_setEntry (sub_of hL rfl) (by assumption)
      clear_value x6_3
      have hx6_4 : Within L s0 x6_4 := by
        exact within_dinc (sub_of hL rfl) (by assumption)
      clear_value x6_4
      have hx6_5 : Within L s0 x6_5 := by
        refine ite_ind ?_ ?_
        · exact within_dinc (sub_of hL rfl) (by assumption)
        · assumption
      clear_value x6_5
      have hx6_6 : Within L s0 x6_6 := by
        exact within_dset (sub_of hL rfl) (by assumption)
      clear_value x6_6
      refine within_dropUnused (sub_of hL rfl) ?_
      exact within_decEvent (sub_of hL rfl) (by assumption)

theorem within_bump {c keep k} (hL : sub 2535359234503637525203556761600 L = true) (h : Within L s0 s) : Within L
      s0 (bump c keep k s) := by
  induction k generalizing s with
  | zero => exact h
  | succ k ih =>
    unfold bump
    refine ite_ind h ?_
    split
    · exact ih (within_outputEntry (sub_of hL (by rfl)) h)
    · exact h

theorem within_fillArea {a0 a1 a2 a3 a4 a5} (hL : sub 885443715542353444864 L = true) (h : Within L s0 s) : Within
      L s0 (fillArea a0 a1 a2 a3 a4 a5 s) := by
  delta fillArea
  refine within_forEach (fun _ _ _ => ?_) ?_
  · exact within_dramWrite (sub_of hL rfl) (by assumption)
  · assumption

theorem within_copyArea {a0 a1 a2 a3 a4 a5 a6} (hL : sub 885443715542353444864 L = true) (h : Within L s0 s) :
      Within2 L s0 (copyArea a0 a1 a2 a3 a4 a5 a6 s) := by
  delta copyArea
  extract_lets +onlyGivenNames -merge -useContext -underBinder x2_0 x2_1
  clear_value x2_0 x2_1
  refine ite_ind ?_ ?_
  · refine within2_mk ?_
    exact within_fillArea (sub_of hL rfl) (by assumption)
  · refine within2_mk ?_
    refine within_forEach (fun _ _ _ => ?_) ?_
    · exact within_dramWrite (sub_of hL rfl) (by assumption)
    · assumption

theorem within_updDecPic {a0 a1} (hL : sub 19342813113834066795298816 L = true) (h : Within L s0 s) : Within L s0
      (updDecPic a0 a1 s) := by
  delta updDecPic
  extract_lets +onlyGivenNames -merge -useContext -underBinder x2_0
  clear_value x2_0
  exact within_setDec (sub_of hL rfl) (by assumption)

theorem within_concealCtu {a0 a1} (hL : sub 19343698557549609149267968 L = true) (h : Within L s0 s) : Within L s0
      (concealCtu a0 a1 s) := by
  delta concealCtu
  split
  · assumption
  · split
    · assumption
    · split
      · extract_lets +onlyGivenNames -merge -useContext -underBinder x8_0 x8_1
        clear_value x8_0 x8_1
        split
        · rename_i v8_0 v8_1 q8_0
          have hv8_1 : Within L s0 v8_1 := within2_eq q8_0 (by
            split
            · exact within_copyArea (sub_of hL rfl) (by assumption)
            · refine within2_mk ?_
              exact within_fillArea (sub_of hL rfl) (by assumption))
          extract_lets +onlyGivenNames -merge -useContext -underBinder x10_0
          have hx10_0 : Within L s0 x10_0 := by
            refine ite_ind ?_ ?_
            · assumption
            · exact within_inc (sub_of hL rfl) (by assumption)
          clear_value x10_0
          exact within_updDecPic (sub_of hL rfl) (by assumption)

theorem within_concealTo {a0 a1} (hL : sub 2535320548877391842671455633408 L = true) (h : Within L s0 s) : Within L
      s0 (concealTo a0 a1 s) := by
  delta concealTo
  split
  · assumption
  · refine ite_ind ?_ ?_
    · assumption
    · extract_lets +onlyGivenNames -merge -useContext -underBinder x6_0
      have hx6_0 : Within L s0 x6_0 := by
        refine within_forEach (fun _ _ _ => ?_) ?_
        · exact within_concealCtu (sub_of hL rfl) (by assumption)
        · assumption
      clear_value x6_0
      refine within_decEvent (sub_of hL rfl) ?_
      exact within_updDecPic (sub_of hL rfl) (by assumption)

theorem within_emptyDpb {a0} (hL : sub 2535359233618184802461948575744 L = true) (h : Within L s0 s) : Within L s0
      (emptyDpb a0 s) := by
  delta emptyDpb
  refine within_forEach (fun _ _ _ => ?_) ?_
  · exact within_dropEntry (sub_of hL rfl) (by assumption)
  · assumption

theorem within_refreshDec {a0} (hL : sub 9007199255265280 L = true) (h : Within L s0 s) : Within L s0 (refreshDec
      a0 s) := by
  delta refreshDec
  extract_lets +onlyGivenNames -merge -useContext -underBinder x2_0 x2_1
  have hx2_0 : Within L s0 x2_0 := by
    exact within_set (sub_of hL rfl) (by assumption)
  clear_value x2_0
  have hx2_1 : Within L s0 x2_1 := by
    exact within_setSat (sub_of hL rfl) (by assumption)
  clear_value x2_1
  exact within_setState (sub_of hL rfl) (by assumption)

theorem within_showDec {a0 a1} (hL : sub 9007199255265280 L = true) (h : Within L s0 s) : Within L s0 (showDec a0
      a1 s) := by
  delta showDec
  refine within_refreshDec (sub_of hL rfl) ?_
  exact within_dset (sub_of hL rfl) (by assumption)

theorem within_decDisable {a0} (hL : sub 2535359233618193809661203316736 L = true) (h : Within L s0 s) : Within L
      s0 (decDisable a0 s) := by
  delta decDisable
  extract_lets +onlyGivenNames -merge -useContext -underBinder x2_0 x2_1 x2_2
  clear_value x2_0
  have hx2_1 : Within L s0 x2_1 := by
    refine within_emptyDpb (sub_of hL rfl) ?_
    exact within_setDec (sub_of hL rfl) (by assumption)
  clear_value x2_1
  have hx2_2 : Within L s0 x2_2 := by
    refine within_dset (sub_of hL rfl) ?_
    exact within_setDec (sub_of hL rfl) (by assumption)
  clear_value x2_2
  refine within_showDec (sub_of hL rfl) ?_
  refine within_dset (sub_of hL rfl) ?_
  exact within_dset (sub_of hL rfl) (by assumption)

theorem within_decEnable {a0} (hL : sub 19342813122841266050564096 L = true) (h : Within L s0 s) : Within L s0
      (decEnable a0 s) := by
  delta decEnable
  refine within_showDec (sub_of hL rfl) ?_
  exact within_setDec (sub_of hL rfl) (by assumption)

theorem within_requestPli {a0} (hL : sub 2535320547991948127129102188544 L = true) (h : Within L s0 s) : Within L
      s0 (requestPli a0 s) := by
  delta requestPli
  refine within_decEvent (sub_of hL rfl) ?_
  exact within_setDec (sub_of hL rfl) (by assumption)

theorem within_endPicture {a0} (hL : sub 2535359234503637525203556761600 L = true) (h : Within L s0 s) : Within L
      s0 (endPicture a0 s) := by
  delta endPicture
  split
  · assumption
  · split
    · exact within_setDec (sub_of hL rfl) (by assumption)
    · extract_lets +onlyGivenNames -merge -useContext -underBinder x6_0 x6_1 x6_2 x6_3 x6_4 x6_5 x6_6 x6_7 x6_8 x6_9 x6_10 x6_11 x6_12 x6_13 x6_14
      have hx6_0 : Within L s0 x6_0 := by
        exact within_concealTo (sub_of hL rfl) (by assumption)
      clear_value x6_0 x6_1 x6_2 x6_3 x6_4 x6_5 x6_6 x6_7 x6_8
      have hx6_9 : Within L s0 x6_9 := by
        exact within_setDec (sub_of hL rfl) (by assumption)
      clear_value x6_9
      have hx6_10 : Within L s0 x6_10 := by
        exact within_dset (sub_of hL rfl) (by assumption)
      clear_value x6_10
      have hx6_11 : Within L s0 x6_11 := by
        exact within_dset (sub_of hL rfl) (by assumption)
      clear_value x6_11
      have hx6_12 : Within L s0 x6_12 := by
        refine ite_ind ?_ ?_
        · refine within_requestPli (sub_of hL rfl) ?_
          exact within_dset (sub_of hL rfl) (by assumption)
        · refine ite_ind ?_ ?_
          · exact within_dset (sub_of hL rfl) (by assumption)
          · assumption
      clear_value x6_12
      have hx6_13 : Within L s0 x6_13 := by
        exact within_showDec (sub_of hL rfl) (by assumption)
      clear_value x6_13
      have hx6_14 : Within L s0 x6_14 := by
        refine within_forEach (fun _ _ _ => ?_) ?_
        · extract_lets +onlyGivenNames -merge -useContext -underBinder x10_0
          clear_value x10_0
          refine ite_ind ?_ ?_
          · extract_lets +onlyGivenNames -merge -useContext -underBinder x12_0
            clear_value x12_0
            exact within_setEntry (sub_of hL rfl) (by assumption)
          · split
            · exact within_setEntry (sub_of hL rfl) (by assumption)
            · exact within_setEntry (sub_of hL rfl) (by assumption)
        · assumption
      clear_value x6_14
      refine within_refreshDec (sub_of hL rfl) ?_
      refine within_dropUnused (sub_of hL rfl) ?_
      refine within_bump (sub_of hL rfl) ?_
      exact within_dropUnused (sub_of hL rfl) (by assumption)

theorem within_makeRoom {c k} (hL : sub 2535359234503637525203556761600 L = true) (h : Within L s0 s) : Within L s0
      (makeRoom c k s) := by
  induction k generalizing s with
  | zero => exact h
  | succ k ih =>
    unfold makeRoom
    refine ite_ind h ?_
    split
    · exact ih (within_outputEntry (sub_of hL (by rfl)) h)
    · exact h

theorem within_skipPicture {a0 a1} (hL : sub 19342813113834066795298816 L = true) (h : Within L s0 s) : Within L s0
      (skipPicture a0 a1 s) := by
  delta skipPicture
  extract_lets +onlyGivenNames -merge -useContext -underBinder x2_0
  clear_value x2_0
  exact within_setDec (sub_of hL rfl) (by assumption)

theorem within_noBuffer {a0 a1} (hL : sub 2535320547991948127129102188544 L = true) (h : Within L s0 s) : Within L
      s0 (noBuffer a0 a1 s) := by
  delta noBuffer
  refine within_decEvent (sub_of hL rfl) ?_
  refine within_skipPicture (sub_of hL rfl) ?_
  exact within_inc (sub_of hL rfl) (by assumption)

theorem within_noteRefMissing {a0 a1} (hL : sub 2535320547991948127129102188544 L = true) (h : Within L s0 s) :
      Within L s0 (noteRefMissing a0 a1 s) := by
  delta noteRefMissing
  refine within_forEach (fun _ _ _ => ?_) ?_
  · split
    · assumption
    · refine ite_ind ?_ ?_
      · assumption
      · extract_lets +onlyGivenNames -merge -useContext -underBinder x8_0 x8_1
        have hx8_0 : Within L s0 x8_0 := by
          exact within_updDecPic (sub_of hL rfl) (by assumption)
        clear_value x8_0
        have hx8_1 : Within L s0 x8_1 := by
          exact within_inc (sub_of hL rfl) (by assumption)
        clear_value x8_1
        refine within_decEvent (sub_of hL rfl) ?_
        exact within_logError (sub_of hL rfl) (sub_of hL rfl) (by assumption)
  · assumption

theorem within_pliRetry {a0 a1} (hL : sub 2535320547991948127129102188544 L = true) (h : Within L s0 s) : Within L
      s0 (pliRetry a0 a1 s) := by
  delta pliRetry
  refine ite_ind ?_ ?_
  · exact within_requestPli (sub_of hL rfl) (by assumption)
  · assumption

theorem within_resetDec {a0} (hL : sub 2535359233618193809661203316736 L = true) (h : Within L s0 s) : Within L s0
      (resetDec a0 s) := by
  delta resetDec
  refine within_forEach (fun _ _ _ => ?_) ?_
  · refine ite_ind ?_ ?_
    · exact within_setDec (sub_of hL rfl) (by assumption)
    · exact within_decDisable (sub_of hL rfl) (by assumption)
  · assumption

theorem within_writeCtu {a0 a1 a2 a3} (hL : sub 885443715542353444864 L = true) (h : Within L s0 s) : Within L s0
      (writeCtu a0 a1 a2 a3 s) := by
  delta writeCtu
  split
  · extract_lets +onlyGivenNames -merge -useContext -underBinder x4_0 x4_1 x4_2 x4_3 x4_4
    clear_value x4_0 x4_1 x4_2 x4_3
    have hx4_4 : Within L s0 x4_4 := by
      refine within_forEach (fun _ _ _ => ?_) ?_
      · exact within_dramWrite (sub_of hL rfl) (by assumption)
      · assumption
    clear_value x4_4
    refine within_forEach (fun _ _ _ => ?_) ?_
    · refine ite_ind ?_ ?_
      · exact within_dramWrite (sub_of hL rfl) (by assumption)
      · exact within_dramWrite (sub_of hL rfl) (by assumption)
    · assumption

theorem within_walk {c k} (hL : sub 2535359234503637525203556761600 L = true) (h : Within L s0 s) : Within2 L s0
      (walk c k s) := by
  induction k generalizing s with
  | zero => exact h
  | succ k ih =>
    unfold walk
    extract_lets +onlyGivenNames -merge -useContext -underBinder rd wr size
    refine ite_ind (within2_mk h) ?_
    extract_lets +onlyGivenNames -merge -useContext -underBinder hdr next
    have hn : ∀ s, Within L s0 s → Within L s0 (next s) := fun s h => within_dset (sub_of hL (by rfl))
      (within_setDec (sub_of hL (by rfl)) h)
    refine ite_ind (ih (within_dset (sub_of hL (by rfl)) h)) (ite_ind (within2_mk h) (ite_ind ?_ ?_))
    · exact ih (hn _ (within_setDec (sub_of hL (by rfl)) (within_inc (sub_of hL (by rfl)) h)))
    · extract_lets +onlyGivenNames -merge -useContext -underBinder x loss s1 s2
      have h1 : Within L s0 s1 := within_setDec (sub_of hL (by rfl)) h
      have h2 : Within L s0 s2 := ite_ind (within_dinc (sub_of hL (by rfl)) h1) h1
      clear_value s1 s2
      split
      · exact ih (hn _ (ite_ind (within_endPicture (sub_of hL (by rfl)) h2) h2))
      · exact within2_mk h2
      · exact ih (within_setDec (sub_of hL (by rfl)) (ite_ind (within_endPicture (sub_of hL (by rfl)) h2) h2))

theorem within_sliceDone {a0 a1 a2 a3 a4} (hL : sub 2535359234503637525203556761600 L = true) (h : Within L s0 s) :
      Within L s0 (sliceDone a0 a1 a2 a3 a4 s) := by
  delta sliceDone
  split
  · assumption
  · extract_lets +onlyGivenNames -merge -useContext -underBinder x4_0 x4_1 x4_2 x4_3
    clear_value x4_0
    have hx4_1 : Within L s0 x4_1 := by
      exact within_setDec (sub_of hL rfl) (by assumption)
    clear_value x4_1
    have hx4_2 : Within L s0 x4_2 := by
      unfold x4_2
      split
      · assumption
      · extract_lets +onlyGivenNames -merge -useContext -underBinder x8_0 x8_1 x8_2 x8_3
        clear_value x8_0 x8_1
        have hx8_2 : Within L s0 x8_2 := by
          refine within_forEach (fun _ _ _ => ?_) ?_
          · exact within_writeCtu (sub_of hL rfl) (by assumption)
          · assumption
        clear_value x8_2
        have hx8_3 : Within L s0 x8_3 := by
          refine within_forEach (fun _ _ _ => ?_) ?_
          · split
            · assumption
            · refine ite_ind ?_ ?_
              · extract_lets +onlyGivenNames -merge -useContext -underBinder x16_0 x16_1
                clear_value x16_0 x16_1
                refine within_updDecPic (sub_of hL rfl) ?_
                refine within_fillArea (sub_of hL rfl) ?_
                exact within_inc (sub_of hL rfl) (by assumption)
              · assumption
          · assumption
        clear_value x8_3
        exact within_updDecPic (sub_of hL rfl) (by assumption)
    clear_value x4_2
    have hx4_3 : Within L s0 x4_3 := by
      refine ite_ind ?_ ?_
      · exact within_dinc (sub_of hL rfl) (by assumption)
      · assumption
    clear_value x4_3
    refine within_refreshDec (sub_of hL rfl) ?_
    show Within2 L s0 _
    exact within_walk (sub_of hL rfl) (by assumption)

theorem within_unsupported {a0 a1} (hL : sub 2535359233618193809661203316736 L = true) (h : Within L s0 s) : Within
      L s0 (unsupported a0 a1 s) := by
  delta unsupported
  extract_lets +onlyGivenNames -merge -useContext -underBinder x2_0 x2_1 x2_2 x2_3
  clear_value x2_0
  have hx2_1 : Within L s0 x2_1 := by
    refine within_emptyDpb (sub_of hL rfl) ?_
    exact within_setDec (sub_of hL rfl) (by assumption)
  clear_value x2_1
  have hx2_2 : Within L s0 x2_2 := by
    exact within_inc (sub_of hL rfl) (by assumption)
  clear_value x2_2
  have hx2_3 : Within L s0 x2_3 := by
    refine ite_ind ?_ ?_
    · exact within_logError (sub_of hL rfl) (sub_of hL rfl) (by assumption)
    · assumption
  clear_value x2_3
  refine within_showDec (sub_of hL rfl) ?_
  exact within_decEvent (sub_of hL rfl) (by assumption)

theorem within_startPicture {a0 a1 a2 a3} (hL : sub 2535359236864820766638379368448 L = true) (h : Within L s0 s) :
      Within L s0 (startPicture a0 a1 a2 a3 s) := by
  delta startPicture
  refine ite_ind ?_ ?_
  · exact within_unsupported (sub_of hL rfl) (by assumption)
  · refine ite_ind ?_ ?_
    · refine within_decEvent (sub_of hL rfl) ?_
      refine within_skipPicture (sub_of hL rfl) ?_
      exact within_dinc (sub_of hL rfl) (by assumption)
    · extract_lets +onlyGivenNames -merge -useContext -underBinder x6_0 x6_1 x6_2 x6_3 x6_4
      have hx6_0 : Within L s0 x6_0 := by
        refine ite_ind ?_ ?_
        · exact within_bump (sub_of hL rfl) (by assumption)
        · assumption
      clear_value x6_0 x6_1
      have hx6_2 : Within L s0 x6_2 := by
        refine ite_ind ?_ ?_
        · assumption
        · refine within_emptyDpb (sub_of hL rfl) ?_
          exact within_setDec (sub_of hL rfl) (by assumption)
      clear_value x6_2
      have hx6_3 : Within L s0 x6_3 := by
        unfold x6_3
        split
        · assumption
        · extract_lets +onlyGivenNames -merge -useContext -underBinder x10_0
          clear_value x10_0
          exact within_setDec (sub_of hL rfl) (by assumption)
      clear_value x6_3
      have hx6_4 : Within L s0 x6_4 := by
        exact within_makeRoom (sub_of hL rfl) (by assumption)
      clear_value x6_4
      split
      · exact within_noBuffer (sub_of hL rfl) (by assumption)
      · split
        · rename_i v8_0 q8_0
          have hv8_0 : Within L s0 v8_0 := within2_eq q8_0 (by
            exact within_produceBuf (sub_of hL rfl) (by assumption))
          exact within_noBuffer (sub_of hL rfl) (by assumption)
        · rename_i v8_0 v8_1 q8_0
          have hv8_1 : Within L s0 v8_1 := within2_eq q8_0 (by
            exact within_produceBuf (sub_of hL rfl) (by assumption))
          extract_lets +onlyGivenNames -merge -useContext -underBinder x10_0
          clear_value x10_0
          refine ite_ind ?_ ?_
          · refine within_noBuffer (sub_of hL rfl) ?_
            exact within_returnBuf (sub_of hL rfl) (by assumption)
          · extract_lets +onlyGivenNames -merge -useContext -underBinder x12_0 x12_1 x12_2 x12_3
            clear_value x12_0
            have hx12_1 : Within L s0 x12_1 := by
              refine within_claimDec (sub_of hL rfl) ?_
              refine within_fresh (sub_of hL rfl) ?_
              exact within_fresh (sub_of hL rfl) (by assumption)
            clear_value x12_1
            have hx12_2 : Within L s0 x12_2 := by
              exact within_setEntry (sub_of hL rfl) (by assumption)
            clear_value x12_2 x12_3
            refine within_showDec (sub_of hL rfl) ?_
            exact within_setDec (sub_of hL rfl) (by assumption)

theorem within_sliceStart {a0 a1 a2} (hL : sub 2535359236864820766638379368448 L = true) (h : Within L s0 s) :
      Within L s0 (sliceStart a0 a1 a2 s) := by
  delta sliceStart
  refine ite_ind ?_ ?_
  · assumption
  · split
    · rename_i v4_0 q4_0
      have hv4_0 : Within L s0 v4_0 := within2_eq q4_0 (by
        exact within_walk (sub_of hL rfl) (by assumption))
      assumption
    · rename_i v4_0 v4_1 v4_2 q4_0
      have hv4_2 : Within L s0 v4_2 := within2_eq q4_0 (by
        exact within_walk (sub_of hL rfl) (by assumption))
      extract_lets +onlyGivenNames -merge -useContext -underBinder x6_0 x6_1 x6_2 x6_3
      clear_value x6_0
      have hx6_1 : Within L s0 x6_1 := by
        exact within_setDec (sub_of hL rfl) (by assumption)
      clear_value x6_1
      have hx6_2 : Within L s0 x6_2 := by
        exact within_dinc (sub_of hL rfl) (by assumption)
      clear_value x6_2
      have hx6_3 : ∀ s, Within L s0 s → Within L s0 (x6_3 s) := by
        intro s h
        refine within_refreshDec (sub_of hL rfl) ?_
        show Within2 L s0 _
        exact within_walk (sub_of hL rfl) (by assumption)
      refine ite_ind ?_ ?_
      · refine hx6_3 _ ?_
        assumption
      · extract_lets +onlyGivenNames -merge -useContext -underBinder x8_0
        clear_value x8_0
        refine ite_ind ?_ ?_
        · refine hx6_3 _ ?_
          assumption
        · extract_lets +onlyGivenNames -merge -useContext -underBinder x10_0 x10_1
          have hx10_0 : Within L s0 x10_0 := by
            refine ite_ind ?_ ?_
            · exact within_endPicture (sub_of hL rfl) (by assumption)
            · assumption
          clear_value x10_0
          have hx10_1 : Within L s0 x10_1 := by
            refine ite_ind ?_ ?_
            · assumption
            · exact within_startPicture (sub_of hL rfl) (by assumption)
          clear_value x10_1
          split
          · refine hx6_3 _ ?_
            assumption
          · extract_lets +onlyGivenNames -merge -useContext -underBinder x12_0 x12_1
            have hx12_0 : Within L s0 x12_0 := by
              exact within_noteRefMissing (sub_of hL rfl) (by assumption)
            clear_value x12_0
            have hx12_1 : Within L s0 x12_1 := by
              exact within_concealTo (sub_of hL rfl) (by assumption)
            clear_value x12_1
            refine within_refreshDec (sub_of hL rfl) ?_
            exact within_setDec (sub_of hL rfl) (by assumption)

theorem within_writeDecCfg {a0 a1 a2} (hL : sub 2535359233618193809661203316736 L = true) (h : Within L s0 s) :
      Within L s0 (writeDecCfg a0 a1 a2 s) := by
  delta writeDecCfg
  extract_lets +onlyGivenNames -merge -useContext -underBinder x2_0 x2_1 x2_2 x2_3
  clear_value x2_0 x2_1 x2_2 x2_3
  refine ite_ind ?_ ?_
  · exact within_logAccess (sub_of hL rfl) (sub_of hL rfl) (by assumption)
  · extract_lets +onlyGivenNames -merge -useContext -underBinder x4_0
    have hx4_0 : Within L s0 x4_0 := by
      exact within_dset (sub_of hL rfl) (by assumption)
    clear_value x4_0
    refine ite_ind ?_ ?_
    · exact within_decEnable (sub_of hL rfl) (by assumption)
    · refine ite_ind ?_ ?_
      · exact within_decDisable (sub_of hL rfl) (by assumption)
      · assumption

theorem within_writeDecIn {a0 a1 a2} (hL : sub 2535301205178834293062306889728 L = true) (h : Within L s0 s) :
      Within L s0 (writeDecIn a0 a1 a2 s) := by
  delta writeDecIn
  extract_lets +onlyGivenNames -merge -useContext -underBinder x2_0
  clear_value x2_0
  refine ite_ind ?_ ?_
  · exact within_logAccess (sub_of hL rfl) (sub_of hL rfl) (by assumption)
  · refine ite_ind ?_ ?_
    · exact within_logAccess (sub_of hL rfl) (sub_of hL rfl) (by assumption)
    · refine within_refreshDec (sub_of hL rfl) ?_
      exact within_dset (sub_of hL rfl) (by assumption)

end Sys2Proof.Machine
end

