-- ==== Sys2Proof/Laws/WithinFlows.lean ====
section
/-! SUPPORT. Which parts of a state each operation of Flows.lean may write. -/

namespace Sys2Proof.Machine

variable {L : Nat} {s0 s : State}

theorem within_setFlow {a1 a2} (hL : sub 4951760157141521099596496896 L = true) (h : Within L s0 s) : Within L s0
      (State.setFlow s a1 a2) := by
  delta State.setFlow
  refine within_upd_flows (sub_of hL rfl) ?_
  assumption

theorem within_decAppend {a0 a1} (hL : sub 885452722741608710144 L = true) (h : Within L s0 s) : WithinO L s0
      (decAppend a0 a1 s) := by
  delta decAppend
  extract_lets +onlyGivenNames -merge -useContext -underBinder x2_0 x2_1 x2_2 x2_3 x2_4 x2_5 x2_6
  clear_value x2_0 x2_1 x2_2 x2_3 x2_4 x2_5 x2_6
  refine ite_ind ?_ ?_
  · exact withinO_none
  · extract_lets +onlyGivenNames -merge -useContext -underBinder x4_0 x4_1 x4_2
    have hx4_0 : Within L s0 x4_0 := by
      refine ite_ind ?_ ?_
      · exact within_dramWrite (sub_of hL rfl) (by assumption)
      · assumption
    clear_value x4_0 x4_1
    have hx4_2 : Within L s0 x4_2 := by
      exact within_dramWrite (sub_of hL rfl) (by assumption)
    clear_value x4_2
    refine withinO_some ?_
    refine within_refreshDec (sub_of hL rfl) ?_
    exact within_dset (sub_of hL rfl) (by assumption)

theorem within_recordEnd {a0} (hL : sub 4951761042594243841205207040 L = true) (h : Within L s0 s) : Within L s0
      (recordEnd a0 s) := by
  delta recordEnd
  extract_lets +onlyGivenNames -merge -useContext -underBinder x2_0
  clear_value x2_0
  split
  · assumption
  · extract_lets +onlyGivenNames -merge -useContext -underBinder x4_0
    have hx4_0 : Within L s0 x4_0 := by
      exact within_setFlow (sub_of hL rfl) (by assumption)
    clear_value x4_0
    split
    · rename_i v4_0 q4_0
      have hv4_0 : Within L s0 v4_0 := withinO_eq q4_0 (by
        exact within_decAppend (sub_of hL rfl) (by assumption))
      assumption
    · exact within_setFlow (sub_of hL rfl) (by assumption)

theorem within_flowGap {a0} (hL : sub 4951760157141521099596496896 L = true) (h : Within L s0 s) : Within L s0
      (flowGap a0 s) := by
  delta flowGap
  exact within_setFlow (sub_of hL rfl) (by assumption)

theorem within_stampCheck {a0 a1 a2} (hL : sub 2535920175198756206376669675520 L = true) (h : Within L s0 s) :
      Within2 L s0 (stampCheck a0 a1 a2 s) := by
  delta stampCheck
  split
  · refine within2_mk ?_
    assumption
  · extract_lets +onlyGivenNames -merge -useContext -underBinder x4_0 x4_1 x4_2 x4_3 x4_4 x4_5 x4_6 x4_7 x4_8
    clear_value x4_0 x4_1 x4_2 x4_3 x4_4
    have hx4_5 : Within L s0 x4_5 := by
      exact within_kset (sub_of hL rfl) (by assumption)
    clear_value x4_5
    have hx4_6 : Within L s0 x4_6 := by
      exact within_kset (sub_of hL rfl) (by assumption)
    clear_value x4_6 x4_7
    have hx4_8 : Within L s0 x4_8 := by
      refine ite_ind ?_ ?_
      · refine ite_ind ?_ ?_
        · refine within_setChk (sub_of hL rfl) ?_
          exact within_kset (sub_of hL rfl) (by assumption)
        · assumption
      · refine within_logError (sub_of hL rfl) (sub_of hL rfl) ?_
        refine within_chkEvent (sub_of hL rfl) ?_
        exact within_kset (sub_of hL rfl) (by assumption)
    clear_value x4_8
    refine within2_mk ?_
    refine ite_ind ?_ ?_
    · exact within_chkEvent (sub_of hL rfl) (by assumption)
    · assumption

theorem within_flowNal {a0 a1 a2 a3 a4 a5} (hL : sub 2540871935355897727476266172416 L = true) (h : Within L s0 s)
      : Within L s0 (flowNal a0 a1 a2 a3 a4 a5 s) := by
  delta flowNal
  extract_lets +onlyGivenNames -merge -useContext -underBinder x2_0 x2_1 x2_2 x2_3 x2_4 x2_5
  clear_value x2_0 x2_1 x2_2 x2_3 x2_4
  have hx2_5 : Within L s0 x2_5 := by
    exact within_setFlow (sub_of hL rfl) (by assumption)
  clear_value x2_5
  split
  · assumption
  · refine ite_ind ?_ ?_
    · assumption
    · split
      · rename_i v6_0 v6_1 q6_0
        have hv6_1 : Within L s0 v6_1 := within2_eq q6_0 (by
          exact within_stampCheck (sub_of hL rfl) (by assumption))
        extract_lets +onlyGivenNames -merge -useContext -underBinder x8_0
        clear_value x8_0
        exact within_setFlow (sub_of hL rfl) (by assumption)

theorem within_depacketise {a0 a1 a2} (hL : sub 2540871936241350450217874882560 L = true) (h : Within L s0 s) :
      Within L s0 (depacketise a0 a1 a2 s) := by
  delta depacketise
  extract_lets +onlyGivenNames -merge -useContext -underBinder x2_0 x2_1 x2_2 x2_3 x2_4 x2_5 x2_6 x2_7 x2_8 x2_9 x2_10 x2_11 x2_12 x2_13
  clear_value x2_0 x2_1 x2_2 x2_3
  have hx2_4 : Within L s0 x2_4 := by
    unfold x2_4
    split
    · refine ite_ind ?_ ?_
      · exact within_recordEnd (sub_of hL rfl) (by assumption)
      · assumption
    · assumption
  clear_value x2_4
  have hx2_5 : Within L s0 x2_5 := by
    unfold x2_5
    split
    · exact within_setFlow (sub_of hL rfl) (by assumption)
    · assumption
  clear_value x2_5 x2_6 x2_7 x2_8 x2_9 x2_10 x2_11
  have hx2_12 : Within L s0 x2_12 := by
    refine ite_ind ?_ ?_
    · exact within_flowGap (sub_of hL rfl) (by assumption)
    · assumption
  clear_value x2_12
  have hx2_13 : ∀ y0 y1 s, Within L s0 s → Within L s0 (x2_13 y0 y1 s) := by
    intro y0 y1 s h
    unfold x2_13
    extract_lets +onlyGivenNames -merge -useContext -underBinder x4_0
    have hx4_0 : Within L s0 x4_0 := by
      refine within_forEach (fun _ _ _ => ?_) ?_
      · exact within_flowNal (sub_of hL rfl) (by assumption)
      · assumption
    clear_value x4_0
    refine ite_ind ?_ ?_
    · assumption
    · exact within_recordEnd (sub_of hL rfl) (by assumption)
  refine ite_ind ?_ ?_
  · assumption
  · refine ite_ind ?_ ?_
    · refine hx2_13 _ _ _ ?_
      assumption
    · refine ite_ind ?_ ?_
      · refine hx2_13 _ _ _ ?_
        assumption
      · refine ite_ind ?_ ?_
        · extract_lets +onlyGivenNames -merge -useContext -underBinder x10_0 x10_1 x10_2 x10_3 x10_4 x10_5 x10_6 x10_7
          clear_value x10_0 x10_1 x10_2 x10_3
          have hx10_4 : Within L s0 x10_4 := by
            refine ite_ind ?_ ?_
            · exact within_flowGap (sub_of hL rfl) (by assumption)
            · assumption
          clear_value x10_4 x10_5 x10_6 x10_7
          split
          · exact within_flowGap (sub_of hL rfl) (by assumption)
          · refine ite_ind ?_ ?_
            · refine hx2_13 _ _ _ ?_
              exact within_setFlow (sub_of hL rfl) (by assumption)
            · exact within_setFlow (sub_of hL rfl) (by assumption)
        · exact within_flowGap (sub_of hL rfl) (by assumption)

theorem within_excReceive {a0 a1 a2} (hL : sub 2535301206065421922910079025152 L = true) (h : Within L s0 s) :
      Within L s0 (excReceive a0 a1 a2 s) := by
  delta excReceive
  extract_lets +onlyGivenNames -merge -useContext -underBinder x2_0 x2_1
  clear_value x2_0 x2_1
  refine ite_ind ?_ ?_
  · refine within_raise (sub_of hL rfl) (sub_of hL rfl) ?_
    exact within_inc (sub_of hL rfl) (by assumption)
  · extract_lets +onlyGivenNames -merge -useContext -underBinder x4_0 x4_1 x4_2
    clear_value x4_0 x4_1 x4_2
    refine within_raise (sub_of hL rfl) (sub_of hL rfl) ?_
    refine within_set (sub_of hL rfl) ?_
    exact within_dramWrite (sub_of hL rfl) (by assumption)

theorem within_rxBad {a0} (hL : sub 33554432 L = true) (h : Within L s0 s) : Within L s0 (rxBad a0 s) := by
  delta rxBad
  exact within_inc (sub_of hL rfl) (by assumption)

theorem within_otherReceive {a0 a1 a2 a3} (hL : sub 2535301206065421922910112579584 L = true) (h : Within L s0 s) :
      Within L s0 (otherReceive a0 a1 a2 a3 s) := by
  delta otherReceive
  refine ite_ind ?_ ?_
  · assumption
  · split
    · exact within_rxBad (sub_of hL rfl) (by assumption)
    · exact within_excReceive (sub_of hL rfl) (by assumption)
    · assumption

theorem within_execExceptionRx {a0 a1 a2 a3} (hL : sub 2535301207246013543627523883008 L = true) (h : Within L s0
      s) : WithinN L s0 (execExceptionRx a0 a1 a2 a3 s) := by
  delta execExceptionRx
  refine withinN_next ?_
  refine within_otherReceive (sub_of hL rfl) ?_
  exact within_at (sub_of hL rfl) (by assumption)

theorem within_flowLeave {a0 a1} (hL : sub 2857784586299560722097261510656 L = true) (h : Within L s0 s) : Within L
      s0 (flowLeave a0 a1 s) := by
  delta flowLeave
  extract_lets +onlyGivenNames -merge -useContext -underBinder x2_0
  clear_value x2_0
  split
  · exact within_depacketise (sub_of hL rfl) (by assumption)
  · exact within_audReceive (sub_of hL rfl) (by assumption)
  · exact within_excReceive (sub_of hL rfl) (by assumption)

theorem within_flowRun {f k} (hL : sub 2857784586299560722097261510656 L = true) (h : Within L s0 s) : Within L s0
      (flowRun f k s) := by
  induction k generalizing s with
  | zero => exact h
  | succ k ih =>
    unfold flowRun
    extract_lets +onlyGivenNames -merge -useContext -underBinder x
    split
    · exact h
    · exact ite_ind (ih (within_flowLeave (sub_of hL (by rfl)) (within_setFlow (sub_of hL (by rfl)) h))) h

theorem within_flowEvent {a0 a1} (hL : sub 2535301205179978207367725580288 L = true) (h : Within L s0 s) : Within L
      s0 (flowEvent a0 a1 s) := by
  delta flowEvent
  refine within_raise (sub_of hL rfl) (sub_of hL rfl) ?_
  exact within_set (sub_of hL rfl) (by assumption)

theorem within_finc {a0 a1} (q0_1 : sub (partW a1.blk) L = true) (h : Within L s0 s) : Within L s0 (finc a0 a1 s)
      := by
  delta finc
  exact within_inc q0_1 (by assumption)

theorem within_flowLost {a0} (hL : sub 2540252965337119728467322077184 L = true) (h : Within L s0 s) : Within L s0
      (flowLost a0 s) := by
  delta flowLost
  extract_lets +onlyGivenNames -merge -useContext -underBinder x2_0
  clear_value x2_0
  split
  · assumption
  · extract_lets +onlyGivenNames -merge -useContext -underBinder x4_0
    have hx4_0 : Within L s0 x4_0 := by
      refine within_flowGap (sub_of hL rfl) ?_
      exact within_setFlow (sub_of hL rfl) (by assumption)
    clear_value x4_0
    refine within_flowEvent (sub_of hL rfl) ?_
    exact within_finc (sub_of hL rfl) (by assumption)

theorem within_fset {a0 a1 a2} (q0_1 : sub (partW a1.blk) L = true) (h : Within L s0 s) : Within L s0 (fset a0 a1
      a2 s) := by
  delta fset
  exact within_set q0_1 (by assumption)

theorem within_showFlow {a0} (hL : sub 67108864 L = true) (h : Within L s0 s) : Within L s0 (showFlow a0 s) := by
  delta showFlow
  refine within_fset (sub_of hL rfl) ?_
  exact within_fset (sub_of hL rfl) (by assumption)

theorem within_flowTimeout {f t k} (hL : sub 2857784586299560722097261510656 L = true) (h : Within L s0 s) : Within
      L s0 (flowTimeout f t k s) := by
  induction k generalizing s with
  | zero => exact h
  | succ k ih =>
    unfold flowTimeout
    extract_lets +onlyGivenNames -merge -useContext -underBinder x due
    exact ite_ind (ih (within_flowRun (sub_of hL (by rfl)) (within_flowLost (sub_of hL (by rfl)) h)))
      (within_showFlow (sub_of hL (by rfl)) h)

theorem within_execFlowLoss {a0 a1} (hL : sub 2857784587480152342814672814080 L = true) (h : Within L s0 s) :
      WithinN L s0 (execFlowLoss a0 a1 s) := by
  delta execFlowLoss
  refine withinN_next ?_
  refine within_flowTimeout (sub_of hL rfl) ?_
  exact within_at (sub_of hL rfl) (by assumption)

theorem within_flowOverflow {f k} (hL : sub 2857784586299560722097261510656 L = true) (h : Within L s0 s) : Within
      L s0 (flowOverflow f k s) := by
  induction k generalizing s with
  | zero => exact h
  | succ k ih =>
    unfold flowOverflow
    extract_lets +onlyGivenNames -merge -useContext -underBinder x
    split
    · exact h
    · exact ite_ind h (ih (within_flowRun (sub_of hL (by rfl)) (within_finc (sub_of hL (by rfl)) (within_flowLost
      (sub_of hL (by rfl)) h))))

theorem within_flowPlace {a0 a1 a2} (hL : sub 2857784586299560722097261510656 L = true) (h : Within L s0 s) :
      Within L s0 (flowPlace a0 a1 a2 s) := by
  delta flowPlace
  extract_lets +onlyGivenNames -merge -useContext -underBinder x2_0 x2_1
  clear_value x2_0 x2_1
  refine ite_ind ?_ ?_
  · extract_lets +onlyGivenNames -merge -useContext -underBinder x4_0
    have hx4_0 : Within L s0 x4_0 := by
      exact within_setFlow (sub_of hL rfl) (by assumption)
    clear_value x4_0
    refine within_flowRun (sub_of hL rfl) ?_
    exact within_flowLeave (sub_of hL rfl) (by assumption)
  · refine ite_ind ?_ ?_
    · exact within_finc (sub_of hL rfl) (by assumption)
    · refine within_flowOverflow (sub_of hL rfl) ?_
      exact within_setFlow (sub_of hL rfl) (by assumption)

theorem within_flowResync {a0} (hL : sub 2540252965337119728467322077184 L = true) (h : Within L s0 s) : Within L
      s0 (flowResync a0 s) := by
  delta flowResync
  extract_lets +onlyGivenNames -merge -useContext -underBinder x2_0 x2_1
  clear_value x2_0
  have hx2_1 : Within L s0 x2_1 := by
    refine within_flowGap (sub_of hL rfl) ?_
    exact within_setFlow (sub_of hL rfl) (by assumption)
  clear_value x2_1
  refine within_flowEvent (sub_of hL rfl) ?_
  refine within_showFlow (sub_of hL rfl) ?_
  exact within_finc (sub_of hL rfl) (by assumption)

theorem within_flowPacket {a0 a1} (hL : sub 2857784586299560722097261510656 L = true) (h : Within L s0 s) : Within
      L s0 (flowPacket a0 a1 s) := by
  delta flowPacket
  extract_lets +onlyGivenNames -merge -useContext -underBinder x2_0
  clear_value x2_0
  refine within_showFlow (sub_of hL rfl) ?_
  refine within_flowPlace (sub_of hL rfl) ?_
  refine ite_ind ?_ ?_
  · exact within_flowResync (sub_of hL rfl) (by assumption)
  · assumption

theorem within_flowReceive {a0 a1 a2 a3} (hL : sub 2857784586299560722097295065088 L = true) (h : Within L s0 s) :
      Within L s0 (flowReceive a0 a1 a2 a3 s) := by
  delta flowReceive
  refine ite_ind ?_ ?_
  · assumption
  · split
    · exact within_rxBad (sub_of hL rfl) (by assumption)
    · extract_lets +onlyGivenNames -merge -useContext -underBinder x6_0
      clear_value x6_0
      exact within_flowPacket (sub_of hL rfl) (by assumption)
    · assumption

theorem within_execFlowPacket {a0 a1 a2 a3} (hL : sub 2857784587480152342814706368512 L = true) (h : Within L s0 s)
      : WithinN L s0 (execFlowPacket a0 a1 a2 a3 s) := by
  delta execFlowPacket
  refine withinN_next ?_
  refine within_flowReceive (sub_of hL rfl) ?_
  exact within_at (sub_of hL rfl) (by assumption)

theorem within_portFlows {a0} (hL : sub 2540252965337119728467322077184 L = true) (h : Within L s0 s) : Within L s0
      (portFlows a0 s) := by
  delta portFlows
  refine within_forEach (fun _ _ _ => ?_) ?_
  · exact within_flowResync (sub_of hL rfl) (by assumption)
  · assumption

theorem within_linkLost {a0 a1} (hL : sub 2553870309018768172238663319552 L = true) (h : Within L s0 s) : Within L
      s0 (linkLost a0 a1 s) := by
  delta linkLost
  extract_lets +onlyGivenNames -merge -useContext -underBinder x2_0
  have hx2_0 : Within L s0 x2_0 := by
    refine within_setState (sub_of hL rfl) ?_
    refine within_set (sub_of hL rfl) ?_
    exact within_set (sub_of hL rfl) (by assumption)
  clear_value x2_0
  refine within_pickAll (sub_of hL rfl) ?_
  refine within_portFlows (sub_of hL rfl) ?_
  exact within_sendDone (sub_of hL rfl) (by assumption)

theorem within_netDown {a0} (hL : sub 2553870309018768172238663319552 L = true) (h : Within L s0 s) : Within L s0
      (netDown a0 s) := by
  delta netDown
  refine ite_ind ?_ ?_
  · assumption
  · refine within_logError (sub_of hL rfl) (sub_of hL rfl) ?_
    refine within_raise (sub_of hL rfl) (sub_of hL rfl) ?_
    refine within_linkLost (sub_of hL rfl) ?_
    exact within_inc (sub_of hL rfl) (by assumption)

theorem within_execNetLinkDown {a0 a1} (hL : sub 2553870310199359792956074622976 L = true) (h : Within L s0 s) :
      WithinN L s0 (execNetLinkDown a0 a1 s) := by
  delta execNetLinkDown
  refine withinN_next ?_
  refine within_netDown (sub_of hL rfl) ?_
  exact within_at (sub_of hL rfl) (by assumption)

theorem within_netUp {a0} (hL : sub 2548918548860473729625870041088 L = true) (h : Within L s0 s) : Within L s0
      (netUp a0 s) := by
  delta netUp
  refine ite_ind ?_ ?_
  · assumption
  · extract_lets +onlyGivenNames -merge -useContext -underBinder x4_0 x4_1
    clear_value x4_0
    have hx4_1 : Within L s0 x4_1 := by
      refine within_setState (sub_of hL rfl) ?_
      refine within_set (sub_of hL rfl) ?_
      exact within_set (sub_of hL rfl) (by assumption)
    clear_value x4_1
    refine within_pickAll (sub_of hL rfl) ?_
    exact within_raise (sub_of hL rfl) (sub_of hL rfl) (by assumption)

theorem within_execNetLinkUp {a0 a1} (hL : sub 2548918550041065350343281344512 L = true) (h : Within L s0 s) :
      WithinN L s0 (execNetLinkUp a0 a1 s) := by
  delta execNetLinkUp
  refine withinN_next ?_
  refine within_netUp (sub_of hL rfl) ?_
  exact within_at (sub_of hL rfl) (by assumption)

theorem within_netDisable {a0} (hL : sub 2553870309018768172238663319552 L = true) (h : Within L s0 s) : Within L
      s0 (netDisable a0 s) := by
  delta netDisable
  refine ite_ind ?_ ?_
  · exact within_linkLost (sub_of hL rfl) (by assumption)
  · exact within_setState (sub_of hL rfl) (by assumption)

theorem within_netEnable {a0} (hL : sub 576460752303423488 L = true) (h : Within L s0 s) : Within L s0 (netEnable
      a0 s) := by
  delta netEnable
  refine ite_ind ?_ ?_
  · exact within_setState (sub_of hL rfl) (by assumption)
  · assumption

theorem within_writeFlowCfg {a0 a1 a2} (hL : sub 2540252965337119728467322077184 L = true) (h : Within L s0 s) :
      Within L s0 (writeFlowCfg a0 a1 a2 s) := by
  delta writeFlowCfg
  extract_lets +onlyGivenNames -merge -useContext -underBinder x2_0 x2_1 x2_2
  clear_value x2_0 x2_1 x2_2
  refine ite_ind ?_ ?_
  · exact within_logAccess (sub_of hL rfl) (sub_of hL rfl) (by assumption)
  · refine ite_ind ?_ ?_
    · exact within_logAccess (sub_of hL rfl) (sub_of hL rfl) (by assumption)
    · extract_lets +onlyGivenNames -merge -useContext -underBinder x6_0 x6_1
      clear_value x6_0
      have hx6_1 : Within L s0 x6_1 := by
        exact within_fset (sub_of hL rfl) (by assumption)
      clear_value x6_1
      refine ite_ind ?_ ?_
      · assumption
      · refine within_showFlow (sub_of hL rfl) ?_
        exact within_setFlow (sub_of hL rfl) (by assumption)

end Sys2Proof.Machine
end

