-- ==== Sys2Proof/Laws/WithinClocks.lean ====
section
/-! SUPPORT. Which parts of a state each operation of Clocks.lean may write. -/

namespace Sys2Proof.Machine

variable {L : Nat} {s0 s : State}

theorem within_setClk {a1 a2} (hL : sub 19807040628566084398385987584 L = true) (h : Within L s0 s) : Within L s0
      (State.setClk s a1 a2) := by
  delta State.setClk
  refine within_upd_clocks (sub_of hL rfl) ?_
  assumption

theorem within_clearSlew {a0} (hL : sub 134217728 L = true) (h : Within L s0 s) : Within L s0 (clearSlew a0 s) := by
  delta clearSlew
  refine within_setS (sub_of hL rfl) ?_
  exact within_set (sub_of hL rfl) (by assumption)

theorem within_loadSlew {a0 a1 a2} (hL : sub 19807040628566084398520205312 L = true) (h : Within L s0 s) : Within L
      s0 (loadSlew a0 a1 a2 s) := by
  delta loadSlew
  extract_lets +onlyGivenNames -merge -useContext -underBinder x2_0 x2_1
  clear_value x2_0
  have hx2_1 : Within L s0 x2_1 := by
    exact within_setClk (sub_of hL rfl) (by assumption)
  clear_value x2_1
  exact within_set (sub_of hL rfl) (by assumption)

theorem within_dropSlew {a0 a1} (hL : sub 19807040628566084398520205312 L = true) (h : Within L s0 s) : Within L s0
      (dropSlew a0 a1 s) := by
  delta dropSlew
  refine within_set (sub_of hL rfl) ?_
  exact within_setClk (sub_of hL rfl) (by assumption)

theorem within_applyTime {a0 a1} (hL : sub 2594722327066829382067557498880 L = true) (h : Within L s0 s) : Within L
      s0 (applyTime a0 a1 s) := by
  delta applyTime
  extract_lets +onlyGivenNames -merge -useContext -underBinder x2_0 x2_1 x2_2 x2_3 x2_4 x2_5 x2_6
  have hx2_0 : Within L s0 x2_0 := by
    exact within_applyGroup (sub_of hL rfl) (sub_of hL rfl) (sub_of hL rfl) (by assumption)
  clear_value x2_0 x2_1
  have hx2_2 : Within L s0 x2_2 := by
    exact within_setClk (sub_of hL rfl) (by assumption)
  clear_value x2_2 x2_3
  have hx2_4 : Within L s0 x2_4 := by
    refine ite_ind ?_ ?_
    · assumption
    · refine within_clearSlew (sub_of hL rfl) ?_
      exact within_loadSlew (sub_of hL rfl) (by assumption)
  clear_value x2_4 x2_5
  have hx2_6 : Within L s0 x2_6 := by
    refine ite_ind ?_ ?_
    · exact within_setState (sub_of hL rfl) (by assumption)
    · refine ite_ind ?_ ?_
      · refine within_setState (sub_of hL rfl) ?_
        refine within_set (sub_of hL rfl) ?_
        refine within_setDom (sub_of hL rfl) ?_
        exact within_dropSlew (sub_of hL rfl) (by assumption)
      · assumption
  clear_value x2_6
  exact within_commitDone (sub_of hL rfl) (sub_of hL rfl) (by assumption)

theorem within_toTracking {a0} (hL : sub 2574915286438263297669037293568 L = true) (h : Within L s0 s) : Within L
      s0 (toTracking a0 s) := by
  delta toTracking
  extract_lets +onlyGivenNames -merge -useContext -underBinder x2_0 x2_1
  clear_value x2_0
  have hx2_1 : Within L s0 x2_1 := by
    refine within_setDom (sub_of hL rfl) ?_
    exact within_setState (sub_of hL rfl) (by assumption)
  clear_value x2_1
  refine ite_ind ?_ ?_
  · exact within_commitReject (sub_of hL rfl) (sub_of hL rfl) (by assumption)
  · assumption

theorem within_asymClear {a0 a1} (hL : sub 2594722327066829382067557498880 L = true) (h : Within L s0 s) : Within L
      s0 (asymClear a0 a1 s) := by
  delta asymClear
  extract_lets +onlyGivenNames -merge -useContext -underBinder x2_0
  have hx2_0 : Within L s0 x2_0 := by
    refine within_loadSlew (sub_of hL rfl) ?_
    exact within_set (sub_of hL rfl) (by assumption)
  clear_value x2_0
  refine within_raise (sub_of hL rfl) (sub_of hL rfl) ?_
  exact within_toTracking (sub_of hL rfl) (by assumption)

theorem within_crossCheck {a0 a1} (hL : sub 134217728 L = true) (h : Within L s0 s) : Within2 L s0 (crossCheck a0
      a1 s) := by
  delta crossCheck
  extract_lets +onlyGivenNames -merge -useContext -underBinder x2_0 x2_1
  clear_value x2_0 x2_1
  refine within2_mk ?_
  exact within_setSat (sub_of hL rfl) (by assumption)

theorem within_timeBoundary {a0 a1} (hL : sub 2594722327066829382067557498880 L = true) (h : Within L s0 s) :
      Within L s0 (timeBoundary a0 a1 s) := by
  delta timeBoundary
  extract_lets +onlyGivenNames -merge -useContext -underBinder x2_0
  refine ite_ind ?_ ?_
  · assumption
  · refine ite_ind ?_ ?_
    · exact within_commitDefer (sub_of hL rfl) (sub_of hL rfl) (by assumption)
    · exact within_applyTime (sub_of hL rfl) (by assumption)

theorem within_newInterval {a0} (hL : sub 39614081257132168796771975168 L = true) (h : Within L s0 s) : Within L s0
      (newInterval a0 s) := by
  delta newInterval
  extract_lets +onlyGivenNames -merge -useContext -underBinder x2_0
  clear_value x2_0
  exact within_setDom (sub_of hL rfl) (by assumption)

theorem within_takeMeasures {a0} (hL : sub 134217728 L = true) (h : Within L s0 s) : Within L s0 (takeMeasures a0
      s) := by
  delta takeMeasures
  extract_lets +onlyGivenNames -merge -useContext -underBinder x2_0 x2_1
  clear_value x2_0
  have hx2_1 : Within L s0 x2_1 := by
    refine ite_ind ?_ ?_
    · assumption
    · exact within_set (sub_of hL rfl) (by assumption)
  clear_value x2_1
  refine ite_ind ?_ ?_
  · assumption
  · exact within_set (sub_of hL rfl) (by assumption)

theorem within_freezeSlew {a0 a1 a2} (hL : sub 19807040628566084398385987584 L = true) (h : Within L s0 s) : Within
      L s0 (freezeSlew a0 a1 a2 s) := by
  delta freezeSlew
  exact within_setClk (sub_of hL rfl) (by assumption)

theorem within_judgeInterval {a0 a1} (hL : sub 2594722327066829382067557498880 L = true) (h : Within L s0 s) :
      Within L s0 (judgeInterval a0 a1 s) := by
  delta judgeInterval
  extract_lets +onlyGivenNames -merge -useContext -underBinder x2_0 x2_1 x2_2
  have hx2_0 : Within L s0 x2_0 := by
    assumption
  clear_value x2_0 x2_1
  have hx2_2 : Within L s0 x2_2 := by
    refine within_newInterval (sub_of hL rfl) ?_
    exact within_takeMeasures (sub_of hL rfl) (by assumption)
  clear_value x2_2
  split
  · refine ite_ind ?_ ?_
    · extract_lets +onlyGivenNames -merge -useContext -underBinder x6_0 x6_1
      clear_value x6_0
      have hx6_1 : Within L s0 x6_1 := by
        exact within_setDom (sub_of hL rfl) (by assumption)
      clear_value x6_1
      refine within_raise (sub_of hL rfl) (sub_of hL rfl) ?_
      refine within_setState (sub_of hL rfl) ?_
      refine within_dropSlew (sub_of hL rfl) ?_
      exact within_inc (sub_of hL rfl) (by assumption)
    · refine ite_ind ?_ ?_
      · extract_lets +onlyGivenNames -merge -useContext -underBinder x8_0 x8_1
        clear_value x8_0
        have hx8_1 : Within L s0 x8_1 := by
          exact within_setDom (sub_of hL rfl) (by assumption)
        clear_value x8_1
        refine within_raise (sub_of hL rfl) (sub_of hL rfl) ?_
        refine within_setState (sub_of hL rfl) ?_
        refine within_freezeSlew (sub_of hL rfl) ?_
        exact within_inc (sub_of hL rfl) (by assumption)
      · assumption
  · refine ite_ind ?_ ?_
    · exact within_setDom (sub_of hL rfl) (by assumption)
    · assumption
  · refine ite_ind ?_ ?_
    · refine ite_ind ?_ ?_
      · assumption
      · split
        · rename_i v8_0 v8_1 q8_0
          have hv8_1 : Within L s0 v8_1 := within2_eq q8_0 (by
            exact within_crossCheck (sub_of hL rfl) (by assumption))
          refine ite_ind ?_ ?_
          · exact within_asymClear (sub_of hL rfl) (by assumption)
          · assumption
    · refine ite_ind ?_ ?_
      · refine within_raise (sub_of hL rfl) (sub_of hL rfl) ?_
        refine within_toTracking (sub_of hL rfl) ?_
        exact within_freezeSlew (sub_of hL rfl) (by assumption)
      · assumption
  · exact within_setDom (sub_of hL rfl) (by assumption)

theorem within_domIntervalEnd {a0 a1} (hL : sub 2594722327066829382067557498880 L = true) (h : Within L s0 s) :
      Within L s0 (domIntervalEnd a0 a1 s) := by
  delta domIntervalEnd
  refine within_timeBoundary (sub_of hL rfl) ?_
  refine ite_ind ?_ ?_
  · exact within_judgeInterval (sub_of hL rfl) (by assumption)
  · assumption

theorem within_holdEnds {a0 a1} (hL : sub 2594722327066829382067557498880 L = true) (h : Within L s0 s) : Within L
      s0 (holdEnds a0 a1 s) := by
  delta holdEnds
  refine ite_ind ?_ ?_
  · assumption
  · refine ite_ind ?_ ?_
    · refine within_raise (sub_of hL rfl) (sub_of hL rfl) ?_
      refine within_setState (sub_of hL rfl) ?_
      exact within_setDom (sub_of hL rfl) (by assumption)
    · extract_lets +onlyGivenNames -merge -useContext -underBinder x6_0
      have hx6_0 : ∀ s, Within L s0 s → Within L s0 (x6_0 s) := by
        intro s h
        refine within_raise (sub_of hL rfl) (sub_of hL rfl) ?_
        refine within_toTracking (sub_of hL rfl) ?_
        exact within_loadSlew (sub_of hL rfl) (by assumption)
      refine ite_ind ?_ ?_
      · refine hx6_0 _ ?_
        assumption
      · split
        · rename_i v8_0 v8_1 q8_0
          have hv8_1 : Within L s0 v8_1 := within2_eq q8_0 (by
            exact within_crossCheck (sub_of hL rfl) (by assumption))
          refine ite_ind ?_ ?_
          · refine within_raise (sub_of hL rfl) (sub_of hL rfl) ?_
            refine within_setState (sub_of hL rfl) ?_
            exact within_set (sub_of hL rfl) (by assumption)
          · refine hx6_0 _ ?_
            assumption

theorem within_execHoldEnd {a0 a1} (hL : sub 2594722328247421002784968802304 L = true) (h : Within L s0 s) :
      WithinN L s0 (execHoldEnd a0 a1 s) := by
  delta execHoldEnd
  refine withinN_next ?_
  refine within_holdEnds (sub_of hL rfl) ?_
  exact within_at (sub_of hL rfl) (by assumption)

theorem within_execMeasurementInterval {a0 a1} (hL : sub 2594722328247421002784968802304 L = true) (h : Within L s0
      s) : WithinN L s0 (execMeasurementInterval a0 a1 s) := by
  delta execMeasurementInterval
  refine withinN_next ?_
  refine within_domIntervalEnd (sub_of hL rfl) ?_
  exact within_at (sub_of hL rfl) (by assumption)

theorem within_ppsInEdge {a0} (hL : sub 2614529367697701309475425615872 L = true) (h : Within L s0 s) : Within L s0
      (ppsInEdge a0 s) := by
  delta ppsInEdge
  refine ite_ind h ?_
  extract_lets +onlyGivenNames -merge -useContext -underBinder s1 one s2
  have h1 : Within L s0 s1 := within_upd_ppsIn (sub_of hL rfl) h
  clear_value s1
  have h2 : Within L s0 s2 := within_forEach (fun _ _ h => within_set (sub_of hL rfl) (within_set (sub_of hL rfl)
      h)) h1
  clear_value s2
  exact within_raise (sub_of hL rfl) (sub_of hL rfl) (within_set (sub_of hL rfl) (within_set (sub_of hL rfl) h2))

theorem within_execPpsIn {a0} (hL : sub 2614529368878292930192836919296 L = true) (h : Within L s0 s) : WithinN L
      s0 (execPpsIn a0 s) := by
  delta execPpsIn
  refine withinN_next ?_
  refine within_ppsInEdge (sub_of hL rfl) ?_
  exact within_at (sub_of hL rfl) (by assumption)

theorem within_ppsOutRise {a0} (hL : sub 20440865928680199099134339186688 L = true) (h : Within L s0 s) : Within L
      s0 (ppsOutRise a0 s) := by
  delta ppsOutRise
  refine ite_ind ?_ ?_
  · assumption
  · refine within_upd_ppsRise_pins (sub_of hL rfl) ?_
    assumption

theorem within_execPpsOutEdge {a0} (hL : sub 20440865929860790719851750490112 L = true) (h : Within L s0 s) :
      WithinN L s0 (execPpsOutEdge a0 s) := by
  delta execPpsOutEdge
  refine withinN_next ?_
  refine within_ppsOutRise (sub_of hL rfl) ?_
  exact within_at (sub_of hL rfl) (by assumption)

theorem within_ppsOutFall (hL : sub 20282409603651670423947251286016 L = true) (h : Within L s0 s) : Within L s0
      (ppsOutFall s) := by
  delta ppsOutFall
  refine within_upd_pins (sub_of hL rfl) ?_
  assumption

theorem within_execPpsOutEnd {a0} (hL : sub 20282409604832262044664662589440 L = true) (h : Within L s0 s) :
      WithinN L s0 (execPpsOutEnd a0 s) := by
  delta execPpsOutEnd
  refine withinN_next ?_
  refine within_ppsOutFall (sub_of hL rfl) ?_
  exact within_at (sub_of hL rfl) (by assumption)

theorem within_ptpArrives {a0 a1 a2 a3} (hL : sub 2574915287323707013211826946048 L = true) (h : Within L s0 s) :
      Within L s0 (ptpArrives a0 a1 a2 a3 s) := by
  delta ptpArrives
  refine ite_ind ?_ ?_
  · assumption
  · split
    · exact within_rxBad (sub_of hL rfl) (by assumption)
    · exact within_ptpReceive (sub_of hL rfl) (by assumption)
    · assumption

theorem within_execPtpRx {a0 a1 a2 a3} (hL : sub 2574915288504298633929238249472 L = true) (h : Within L s0 s) :
      WithinN L s0 (execPtpRx a0 a1 a2 a3 s) := by
  delta execPtpRx
  refine withinN_next ?_
  refine within_ptpArrives (sub_of hL rfl) ?_
  exact within_at (sub_of hL rfl) (by assumption)

theorem within_ptpLeaves {a0 a1} (hL : sub 2576153229724175634921246687232 L = true) (h : Within L s0 s) : Within L
      s0 (ptpLeaves a0 a1 s) := by
  delta ptpLeaves
  split
  · refine within_ptpDepart (sub_of hL rfl) ?_
    exact within_setNet (sub_of hL rfl) (by assumption)
  · assumption

theorem within_execPtpTxDepart {a0 a1} (hL : sub 2576153230904767255638657990656 L = true) (h : Within L s0 s) :
      WithinN L s0 (execPtpTxDepart a0 a1 s) := by
  delta execPtpTxDepart
  refine withinN_next ?_
  refine within_ptpLeaves (sub_of hL rfl) ?_
  exact within_at (sub_of hL rfl) (by assumption)

theorem within_slewDone {a0 a1} (hL : sub 2555108245809697213270785523712 L = true) (h : Within L s0 s) : Within L
      s0 (slewDone a0 a1 s) := by
  delta slewDone
  refine ite_ind ?_ ?_
  · refine within_raise (sub_of hL rfl) (sub_of hL rfl) ?_
    refine within_set (sub_of hL rfl) ?_
    exact within_setClk (sub_of hL rfl) (by assumption)
  · assumption

theorem within_execSlewDone {a0 a1} (hL : sub 2555108246990288833988196827136 L = true) (h : Within L s0 s) :
      WithinN L s0 (execSlewDone a0 a1 s) := by
  delta execSlewDone
  refine withinN_next ?_
  refine within_slewDone (sub_of hL rfl) ?_
  exact within_at (sub_of hL rfl) (by assumption)

theorem within_refreshPps (hL : sub 20282409603651670423947251286016 L = true) (h : Within L s0 s) : Within L s0
      (refreshPps s) := by
  delta refreshPps
  refine ite_ind ?_ ?_
  · exact within_ppsOutFall (sub_of hL rfl) (by assumption)
  · assumption

theorem within_showTime {a0 a1} (hL : sub 134217728 L = true) (h : Within L s0 s) : Within L s0 (showTime a0 a1 s)
      := by
  delta showTime
  extract_lets +onlyGivenNames -merge -useContext -underBinder x2_0 x2_1 x2_2
  clear_value x2_0 x2_1 x2_2
  refine within_set (sub_of hL rfl) ?_
  exact within_set (sub_of hL rfl) (by assumption)

theorem within_snapClocks {a0} (hL : sub 402653184 L = true) (h : Within L s0 s) : Within L s0 (snapClocks a0 s) := by
  delta snapClocks
  extract_lets +onlyGivenNames -merge -useContext -underBinder one
  refine within_set (sub_of hL rfl) (within_set (sub_of hL rfl) (within_set (sub_of hL rfl) (within_set (sub_of hL
      rfl) ?_)))
  refine within_forEach (fun _ _ h => ?_) h
  exact within_set (sub_of hL rfl) (within_set (sub_of hL rfl) (within_set (sub_of hL rfl) (within_set (sub_of hL
      rfl) h)))

theorem within_stepClock {a0 a1} (hL : sub 3545460277265671549302259843072 L = true) (h : Within L s0 s) : Within L
      s0 (stepClock a0 a1 s) := by
  delta stepClock
  extract_lets +onlyGivenNames -merge -useContext -underBinder x2_0 x2_1 x2_2 x2_3 x2_4
  clear_value x2_0
  have hx2_1 : Within L s0 x2_1 := by
    exact within_setClk (sub_of hL rfl) (by assumption)
  clear_value x2_1 x2_2
  have hx2_3 : Within L s0 x2_3 := by
    refine within_setDom (sub_of hL rfl) ?_
    exact within_setState (sub_of hL rfl) (by assumption)
  clear_value x2_3
  have hx2_4 : Within L s0 x2_4 := by
    refine within_raise (sub_of hL rfl) (sub_of hL rfl) ?_
    exact within_set (sub_of hL rfl) (by assumption)
  clear_value x2_4
  split
  · refine ite_ind ?_ ?_
    · exact within_trigReached (sub_of hL rfl) (by assumption)
    · assumption
  · assumption

theorem within_writeTimeCmd {a0 a1 a2} (hL : sub 3545460277265671549302528278528 L = true) (h : Within L s0 s) :
      Within L s0 (writeTimeCmd a0 a1 a2 s) := by
  delta writeTimeCmd
  extract_lets +onlyGivenNames -merge -useContext -underBinder x2_0 x2_1
  have hx2_0 : Within L s0 x2_0 := by
    refine ite_ind ?_ ?_
    · assumption
    · refine ite_ind ?_ ?_
      · exact within_logAccess (sub_of hL rfl) (sub_of hL rfl) (by assumption)
      · exact within_stepClock (sub_of hL rfl) (by assumption)
  clear_value x2_0
  have hx2_1 : Within L s0 x2_1 := by
    refine ite_ind ?_ ?_
    · assumption
    · refine ite_ind ?_ ?_
      · exact within_asymClear (sub_of hL rfl) (by assumption)
      · exact within_logAccess (sub_of hL rfl) (sub_of hL rfl) (by assumption)
  clear_value x2_1
  refine ite_ind ?_ ?_
  · exact within_snapClocks (sub_of hL rfl) (by assumption)
  · assumption

theorem within_writeTimelCmd {a0 a1} (hL : sub 2535301205183436971881881665536 L = true) (h : Within L s0 s) :
      Within L s0 (writeTimelCmd a0 a1 s) := by
  delta writeTimelCmd
  extract_lets +onlyGivenNames -merge -useContext -underBinder x2_0
  have hx2_0 : Within L s0 x2_0 := by
    refine ite_ind ?_ ?_
    · exact within_logAccess (sub_of hL rfl) (sub_of hL rfl) (by assumption)
    · assumption
  clear_value x2_0
  refine ite_ind ?_ ?_
  · exact within_snapClocks (sub_of hL rfl) (by assumption)
  · assumption

end Sys2Proof.Machine
end

