-- ==== Sys2Proof/Laws/WithinSec.lean ====
section
/-! SUPPORT. Which parts of a state each operation of Sec.lean may write. -/

namespace Sys2Proof.Machine

variable {L : Nat} {s0 s : State}

theorem within_mapHeaders {a0} (hL : sub 295147905162172956672 L = true) (h : Within L s0 s) : Within L s0
      (mapHeaders a0 s) := by
  refine { h with hdrs := fun b n _ => .inl (sub_of hL (sub_trans (sub_allH b) rfl)) }

theorem within_applyRights {a0} (hL : sub 295147905162172956672 L = true) (h : Within L s0 s) : Within L s0
      (applyRights a0 s) := by
  delta applyRights
  extract_lets +onlyGivenNames -merge -useContext -underBinder x2_0
  clear_value x2_0
  exact within_mapHeaders (sub_of hL rfl) (by assumption)

theorem within_beginHandover (hL : sub 10141204802711278928615490715712 L = true) (h : Within L s0 s) : Within L s0
      (beginHandover s) := by
  delta beginHandover
  extract_lets +onlyGivenNames -merge -useContext -underBinder x2_0 x2_1 x2_2 x2_3 x2_4
  clear_value x2_0 x2_1
  have hx2_2 : Within L s0 x2_2 := by
    exact within_dramWrite (sub_of hL rfl) (by assumption)
  clear_value x2_2 x2_3
  have hx2_4 : Within L s0 x2_4 := by
    unfold x2_4
    refine within_upd_sec (sub_of hL rfl) ?_
    assumption
  clear_value x2_4
  refine within_setState (sub_of hL rfl) ?_
  exact within_set (sub_of hL rfl) (by assumption)

theorem within_setTrial {a0 a1} (hL : sub 10141204801825835211973625643008 L = true) (h : Within L s0 s) : Within L
      s0 (setTrial a0 a1 s) := by
  delta setTrial
  refine within_upd_sec (sub_of hL rfl) ?_
  assumption

theorem within_setPref {a0 a1} (hL : sub 10141204801825835211973625643008 L = true) (h : Within L s0 s) : Within L
      s0 (setPref a0 a1 s) := by
  delta setPref
  refine within_upd_sec (sub_of hL rfl) ?_
  assumption

theorem within_cmdActivate {a0} (hL : sub 10141204802711278928615490715712 L = true) (h : Within L s0 s) : Within2
      L s0 (cmdActivate a0 s) := by
  delta cmdActivate
  extract_lets +onlyGivenNames -merge -useContext -underBinder x2_0
  clear_value x2_0
  refine ite_ind ?_ ?_
  · refine within2_mk ?_
    assumption
  · refine ite_ind ?_ ?_
    · refine within2_mk ?_
      assumption
    · refine ite_ind ?_ ?_
      · refine within2_mk ?_
        exact within_beginHandover (sub_of hL rfl) (by assumption)
      · refine within2_mk ?_
        refine within_setTrial (sub_of hL rfl) ?_
        exact within_setPref (sub_of hL rfl) (by assumption)

theorem within_cmdAdvance {a0} (hL : sub 10141204801825835211973625643008 L = true) (h : Within L s0 s) : Within2 L
      s0 (cmdAdvance a0 s) := by
  delta cmdAdvance
  refine ite_ind ?_ ?_
  · refine within2_mk ?_
    assumption
  · refine ite_ind ?_ ?_
    · refine within2_mk ?_
      assumption
    · split
      · refine within2_mk ?_
        assumption
      · refine within2_mk ?_
        refine within_upd_sec (sub_of hL rfl) ?_
        assumption

theorem within_cmdAttest {a0 a1} (hL : sub 3246626956977176051712 L = true) (h : Within L s0 s) : Within2 L s0
      (cmdAttest a0 a1 s) := by
  delta cmdAttest
  refine ite_ind ?_ ?_
  · refine within2_mk ?_
    assumption
  · refine ite_ind ?_ ?_
    · refine within2_mk ?_
      assumption
    · split
      · rename_i v6_0 v6_1 q6_0
        have hv6_1 : Within L s0 v6_1 := within2_eq q6_0 (by
          exact within_readOpen (sub_of hL rfl) (by assumption))
        refine within2_mk ?_
        exact within_dramWrite (sub_of hL rfl) (by assumption)

theorem within_cmdChallenge {a0} (hL : sub 10141204805072462168950801694720 L = true) (h : Within L s0 s) : Within2
      L s0 (cmdChallenge a0 s) := by
  delta cmdChallenge
  refine ite_ind ?_ ?_
  · refine within2_mk ?_
    assumption
  · refine ite_ind ?_ ?_
    · refine within2_mk ?_
      assumption
    · extract_lets +onlyGivenNames -merge -useContext -underBinder x6_0 x6_1 x6_2
      clear_value x6_0 x6_1
      have hx6_2 : Within L s0 x6_2 := by
        unfold x6_2
        refine within_upd_sec (sub_of hL rfl) ?_
        assumption
      clear_value x6_2
      refine within2_mk ?_
      refine within_dramWrite (sub_of hL rfl) ?_
      exact within_fresh (sub_of hL rfl) (by assumption)

theorem within_cmdConfirm {a0} (hL : sub 10141204801825835211973625643008 L = true) (h : Within L s0 s) : Within2 L
      s0 (cmdConfirm a0 s) := by
  delta cmdConfirm
  refine ite_ind ?_ ?_
  · refine within2_mk ?_
    assumption
  · split
    · refine within2_mk ?_
      assumption
    · refine within2_mk ?_
      refine within_setTrial (sub_of hL rfl) ?_
      exact within_setPref (sub_of hL rfl) (by assumption)

theorem within_cmdDone {a0} (hL : sub 2535301205178825286962563252288 L = true) (h : Within L s0 s) : Within L s0
      (cmdDone a0 s) := by
  delta cmdDone
  refine within_raise (sub_of hL rfl) (sub_of hL rfl) ?_
  exact within_set (sub_of hL rfl) (by assumption)

theorem within_cmdImage {a0} (hL : sub 2361183241439117574144 L = true) (h : Within L s0 s) : Within2 L s0
      (cmdImage a0 s) := by
  delta cmdImage
  split
  · rename_i v2_0 v2_1 q2_0
    have hv2_1 : Within L s0 v2_1 := within2_eq q2_0 (by
      exact within_readOpen (sub_of hL rfl) (by assumption))
    refine ite_ind ?_ ?_
    · refine within2_mk ?_
      assumption
    · split
      · rename_i v6_0 v6_1 q6_0
        have hv6_1 : Within L s0 v6_1 := within2_eq q6_0 (by
          exact within_readOpen (sub_of hL rfl) (by assumption))
        refine within2_mk ?_
        assumption

theorem within_cmdEnroll {a0} (hL : sub 10141204804187018453412743217152 L = true) (h : Within L s0 s) : Within2 L
      s0 (cmdEnroll a0 s) := by
  delta cmdEnroll
  refine ite_ind ?_ ?_
  · refine within2_mk ?_
    assumption
  · split
    · rename_i v4_0 v4_1 q4_0
      have hv4_1 : Within L s0 v4_1 := within2_eq q4_0 (by
        exact within_cmdImage (sub_of hL rfl) (by assumption))
      extract_lets +onlyGivenNames -merge -useContext -underBinder x6_0
      clear_value x6_0
      refine ite_ind ?_ ?_
      · refine within2_mk ?_
        assumption
      · refine ite_ind ?_ ?_
        · refine within2_mk ?_
          assumption
        · refine ite_ind ?_ ?_
          · refine within2_mk ?_
            assumption
          · refine within2_mk ?_
            refine within_upd_sec (sub_of hL rfl) ?_
            assumption

theorem within_cmdIdentity {a0} (hL : sub 885443715542353444864 L = true) (h : Within L s0 s) : Within2 L s0
      (cmdIdentity a0 s) := by
  delta cmdIdentity
  refine ite_ind ?_ ?_
  · refine within2_mk ?_
    assumption
  · refine within2_mk ?_
    exact within_dramWrite (sub_of hL rfl) (by assumption)

theorem within_putEntry {a0} (hL : sub 10141204801825835211973625643008 L = true) (h : Within L s0 s) : Within L s0
      (putEntry a0 s) := by
  delta putEntry
  extract_lets +onlyGivenNames -merge -useContext -underBinder x2_0 x2_1
  clear_value x2_1
  refine within_upd_sec (sub_of hL rfl) ?_
  assumption

theorem within_loadProfile {a0 a1} (hL : sub 10141205104057290115630919319616 L = true) (h : Within L s0 s) :
      Within L s0 (loadProfile a0 a1 s) := by
  delta loadProfile
  split
  · assumption
  · extract_lets +onlyGivenNames -merge -useContext -underBinder x4_0 x4_1
    clear_value x4_0
    have hx4_1 : Within L s0 x4_1 := by
      unfold x4_1
      refine within_upd_profiles (sub_of hL rfl) ?_
      assumption
    clear_value x4_1
    refine within_putEntry (sub_of hL rfl) ?_
    exact within_set (sub_of hL rfl) (by assumption)

theorem within_loadBundle {a0 a1} (hL : sub 10141204802711278927515979087936 L = true) (h : Within L s0 s) : Within
      L s0 (loadBundle a0 a1 s) := by
  delta loadBundle
  extract_lets +onlyGivenNames -merge -useContext -underBinder x2_0 x2_1
  clear_value x2_0
  have hx2_1 : Within L s0 x2_1 := by
    exact within_dramWrite (sub_of hL rfl) (by assumption)
  clear_value x2_1
  refine within_putEntry (sub_of hL rfl) ?_
  exact within_set (sub_of hL rfl) (by assumption)

theorem within_cmdLoad {a0} (hL : sub 10141205107599064977770268328000 L = true) (h : Within L s0 s) : Within2 L s0
      (cmdLoad a0 s) := by
  delta cmdLoad
  split
  · rename_i v2_0 v2_1 q2_0
    have hv2_1 : Within L s0 v2_1 := within2_eq q2_0 (by
      exact within_cmdImage (sub_of hL rfl) (by assumption))
    extract_lets +onlyGivenNames -merge -useContext -underBinder x4_0 x4_1
    clear_value x4_0 x4_1
    refine ite_ind ?_ ?_
    · refine within2_mk ?_
      assumption
    · refine ite_ind ?_ ?_
      · refine within2_mk ?_
        assumption
      · refine ite_ind ?_ ?_
        · refine within2_mk ?_
          assumption
        · refine ite_ind ?_ ?_
          · refine within2_mk ?_
            assumption
          · extract_lets +onlyGivenNames -merge -useContext -underBinder x12_0
            have hx12_0 : Within L s0 x12_0 := by
              refine ite_ind ?_ ?_
              · exact within_loadProfile (sub_of hL rfl) (by assumption)
              · refine ite_ind ?_ ?_
                · exact within_loadBundle (sub_of hL rfl) (by assumption)
                · refine within_putEntry (sub_of hL rfl) ?_
                  exact within_applyRights (sub_of hL rfl) (by assumption)
            clear_value x12_0
            refine within2_mk ?_
            refine within_upd_sec (sub_of hL rfl) ?_
            assumption

theorem within_writeDebugRights {a0} (hL : sub 295147905162172956672 L = true) (h : Within L s0 s) : Within L s0
      (writeDebugRights a0 s) := by
  delta writeDebugRights
  exact within_mapHeaders (sub_of hL rfl) (by assumption)

theorem within_cmdUnlock {a0} (hL : sub 12676506009660991644437967798336 L = true) (h : Within L s0 s) : Within2 L
      s0 (cmdUnlock a0 s) := by
  delta cmdUnlock
  refine ite_ind ?_ ?_
  · refine within2_mk ?_
    assumption
  · split
    · rename_i v4_0 v4_1 q4_0
      have hv4_1 : Within L s0 v4_1 := within2_eq q4_0 (by
        exact within_readOpen (sub_of hL rfl) (by assumption))
      extract_lets +onlyGivenNames -merge -useContext -underBinder x6_0
      clear_value x6_0
      refine ite_ind ?_ ?_
      · refine within2_mk ?_
        assumption
      · extract_lets +onlyGivenNames -merge -useContext -underBinder x8_0 x8_1 x8_2
        clear_value x8_0
        have hx8_1 : Within L s0 x8_1 := by
          unfold x8_1
          refine within_upd_sec (sub_of hL rfl) ?_
          assumption
        clear_value x8_1
        have hx8_2 : Within L s0 x8_2 := by
          refine within_writeDebugRights (sub_of hL rfl) ?_
          exact within_set (sub_of hL rfl) (by assumption)
        clear_value x8_2
        refine within2_mk ?_
        exact within_raise (sub_of hL rfl) (sub_of hL rfl) (by assumption)

theorem within_setFlash {a0 a1 a2} (hL : sub 10141204801825835211973625643008 L = true) (h : Within L s0 s) :
      Within L s0 (setFlash a0 a1 a2 s) := by
  delta setFlash
  refine within_upd_sec (sub_of hL rfl) ?_
  assumption

theorem within_cmdUpdate {a0} (hL : sub 10141204804187018453412743217152 L = true) (h : Within L s0 s) : Within2 L
      s0 (cmdUpdate a0 s) := by
  delta cmdUpdate
  split
  · rename_i v2_0 v2_1 q2_0
    have hv2_1 : Within L s0 v2_1 := within2_eq q2_0 (by
      exact within_cmdImage (sub_of hL rfl) (by assumption))
    extract_lets +onlyGivenNames -merge -useContext -underBinder x4_0 x4_1 x4_2
    clear_value x4_0 x4_1 x4_2
    refine ite_ind ?_ ?_
    · refine within2_mk ?_
      assumption
    · refine ite_ind ?_ ?_
      · refine within2_mk ?_
        assumption
      · refine ite_ind ?_ ?_
        · refine within2_mk ?_
          assumption
        · refine ite_ind ?_ ?_
          · refine within2_mk ?_
            refine within_upd_sec (sub_of hL rfl) ?_
            assumption
          · refine ite_ind ?_ ?_
            · refine within2_mk ?_
              refine within_upd_sec (sub_of hL rfl) ?_
              assumption
            · extract_lets +onlyGivenNames -merge -useContext -underBinder x14_0 x14_1
              clear_value x14_0
              have hx14_1 : Within L s0 x14_1 := by
                refine ite_ind ?_ ?_
                · exact within_setTrial (sub_of hL rfl) (by assumption)
                · assumption
              clear_value x14_1
              refine within2_mk ?_
              exact within_setFlash (sub_of hL rfl) (by assumption)

theorem within_setSecCopy {a0 a1 a2} (hL : sub 10141204801825835211973625643008 L = true) (h : Within L s0 s) :
      Within L s0 (setSecCopy a0 a1 a2 s) := by
  delta setSecCopy
  refine within_upd_sec (sub_of hL rfl) ?_
  assumption

theorem within_secResult {a0 a1} (hL : sub 10141204801825835211973625643008 L = true) (h : Within L s0 s) : Within
      L s0 (secResult a0 a1 s) := by
  delta secResult
  exact within_setSecCopy (sub_of hL rfl) (by assumption)

theorem within_endSecCmd {a0 a1} (hL : sub 12676506007004660498936188895296 L = true) (h : Within L s0 s) : Within
      L s0 (endSecCmd a0 a1 s) := by
  delta endSecCmd
  extract_lets +onlyGivenNames -merge -useContext -underBinder x2_0
  have hx2_0 : Within L s0 x2_0 := by
    refine ite_ind ?_ ?_
    · assumption
    · exact within_logAccess (sub_of hL rfl) (sub_of hL rfl) (by assumption)
  clear_value x2_0
  refine within_cmdDone (sub_of hL rfl) ?_
  exact within_secResult (sub_of hL rfl) (by assumption)

theorem within_runSecCmd {a0 a1} (hL : sub 12676506312777890263633319952448 L = true) (h : Within L s0 s) : Within2
      L s0 (runSecCmd a0 a1 s) := by
  delta runSecCmd
  refine ite_ind ?_ ?_
  · refine within2_mk ?_
    assumption
  · refine ite_ind ?_ ?_
    · refine within2_mk ?_
      assumption
    · split
      · exact within_cmdLoad (sub_of hL rfl) (by assumption)
      · exact within_cmdUpdate (sub_of hL rfl) (by assumption)
      · exact within_cmdActivate (sub_of hL rfl) (by assumption)
      · exact within_cmdConfirm (sub_of hL rfl) (by assumption)
      · exact within_cmdAdvance (sub_of hL rfl) (by assumption)
      · exact within_cmdAttest (sub_of hL rfl) (by assumption)
      · exact within_cmdIdentity (sub_of hL rfl) (by assumption)
      · exact within_cmdChallenge (sub_of hL rfl) (by assumption)
      · exact within_cmdUnlock (sub_of hL rfl) (by assumption)
      · exact within_cmdEnroll (sub_of hL rfl) (by assumption)

theorem within_showSec (hL : sub 64 L = true) (h : Within L s0 s) : Within L s0 (showSec s) := by
  delta showSec
  extract_lets +onlyGivenNames -merge -useContext -underBinder x2_0 x2_1 x2_2 x2_3 x2_4 x2_5 x2_6 x2_7 x2_8 x2_9
  have hx2_0 : Within L s0 x2_0 := by
    refine within_forEach (fun _ _ _ => ?_) ?_
    · extract_lets +onlyGivenNames -merge -useContext -underBinder x6_0
      have hx6_0 : Within L s0 x6_0 := by
        exact within_set (sub_of (a := partW .sec) hL rfl) (by assumption)
      clear_value x6_0
      refine ite_ind ?_ ?_
      · extract_lets +onlyGivenNames -merge -useContext -underBinder x8_0 x8_1 x8_2
        have hx8_0 : Within L s0 x8_0 := by
          exact within_set (sub_of (a := partW .sec) hL rfl) (by assumption)
        clear_value x8_0
        have hx8_1 : Within L s0 x8_1 := by
          exact within_set (sub_of (a := partW .sec) hL rfl) (by assumption)
        clear_value x8_1
        have hx8_2 : Within L s0 x8_2 := by
          exact within_set (sub_of (a := partW .sec) hL rfl) (by assumption)
        clear_value x8_2
        exact within_set (sub_of (a := partW .sec) hL rfl) (by assumption)
      · exact within_set (sub_of (a := partW .sec) hL rfl) (by assumption)
    · assumption
  clear_value x2_0
  have hx2_1 : Within L s0 x2_1 := by
    refine within_forEach (fun _ _ _ => ?_) ?_
    · exact within_set (sub_of (a := partW .sec) hL rfl) (by assumption)
    · assumption
  clear_value x2_1
  have hx2_2 : Within L s0 x2_2 := by
    refine within_forEach (fun _ _ _ => ?_) ?_
    · exact within_set (sub_of (a := partW .sec) hL rfl) (by assumption)
    · assumption
  clear_value x2_2
  have hx2_3 : Within L s0 x2_3 := by
    exact within_set (sub_of hL rfl) (by assumption)
  clear_value x2_3
  have hx2_4 : Within L s0 x2_4 := by
    exact within_set (sub_of hL rfl) (by assumption)
  clear_value x2_4
  have hx2_5 : Within L s0 x2_5 := by
    exact within_set (sub_of hL rfl) (by assumption)
  clear_value x2_5
  have hx2_6 : Within L s0 x2_6 := by
    exact within_set (sub_of hL rfl) (by assumption)
  clear_value x2_6
  have hx2_7 : Within L s0 x2_7 := by
    exact within_set (sub_of hL rfl) (by assumption)
  clear_value x2_7
  have hx2_8 : Within L s0 x2_8 := by
    exact within_set (sub_of hL rfl) (by assumption)
  clear_value x2_8
  have hx2_9 : Within L s0 x2_9 := by
    exact within_set (sub_of hL rfl) (by assumption)
  clear_value x2_9
  exact within_set (sub_of hL rfl) (by assumption)

theorem within_execSecCmd {a0 a1} (hL : sub 12676506312777890263633319952448 L = true) (h : Within L s0 s) : Within
      L s0 (execSecCmd a0 a1 s) := by
  delta execSecCmd
  refine ite_ind ?_ ?_
  · assumption
  · split
    · assumption
    · refine ite_ind ?_ ?_
      · assumption
      · split
        · rename_i v8_0 v8_1 q8_0
          have hv8_1 : Within L s0 v8_1 := within2_eq q8_0 (by
            refine within_runSecCmd (sub_of hL rfl) ?_
            refine within_upd_sec (sub_of hL rfl) ?_
            assumption)
          refine within_endSecCmd (sub_of hL rfl) ?_
          exact within_showSec (sub_of hL rfl) (by assumption)

theorem within_execActivate {a0} (hL : sub 12676506313958481884350731255872 L = true) (h : Within L s0 s) : WithinN
      L s0 (execActivate a0 s) := by
  delta execActivate
  refine withinN_next ?_
  refine within_execSecCmd (sub_of hL rfl) ?_
  exact within_at (sub_of hL rfl) (by assumption)

theorem within_execAdvance {a0} (hL : sub 12676506313958481884350731255872 L = true) (h : Within L s0 s) : WithinN
      L s0 (execAdvance a0 s) := by
  delta execAdvance
  refine withinN_next ?_
  refine within_execSecCmd (sub_of hL rfl) ?_
  exact within_at (sub_of hL rfl) (by assumption)

theorem within_execAttest {a0} (hL : sub 12676506313958481884350731255872 L = true) (h : Within L s0 s) : WithinN L
      s0 (execAttest a0 s) := by
  delta execAttest
  refine withinN_next ?_
  refine within_execSecCmd (sub_of hL rfl) ?_
  exact within_at (sub_of hL rfl) (by assumption)

theorem within_execConfirm {a0} (hL : sub 12676506313958481884350731255872 L = true) (h : Within L s0 s) : WithinN
      L s0 (execConfirm a0 s) := by
  delta execConfirm
  refine withinN_next ?_
  refine within_execSecCmd (sub_of hL rfl) ?_
  exact within_at (sub_of hL rfl) (by assumption)

theorem within_execDebugChallenge {a0} (hL : sub 12676506313958481884350731255872 L = true) (h : Within L s0 s) :
      WithinN L s0 (execDebugChallenge a0 s) := by
  delta execDebugChallenge
  refine withinN_next ?_
  refine within_execSecCmd (sub_of hL rfl) ?_
  exact within_at (sub_of hL rfl) (by assumption)

theorem within_execDebugUnlock {a0} (hL : sub 12676506313958481884350731255872 L = true) (h : Within L s0 s) :
      WithinN L s0 (execDebugUnlock a0 s) := by
  delta execDebugUnlock
  refine withinN_next ?_
  refine within_execSecCmd (sub_of hL rfl) ?_
  exact within_at (sub_of hL rfl) (by assumption)

theorem within_execEncoderHoldEnd {a0} (hL : sub 10141204803006426832691036946432 L = true) (h : Within L s0 s) :
      WithinN L s0 (execEncoderHoldEnd a0 s) := by
  delta execEncoderHoldEnd
  refine withinN_next ?_
  extract_lets +onlyGivenNames -merge -useContext -underBinder x2_0
  have hx2_0 : Within L s0 x2_0 := by
    exact within_at (sub_of hL rfl) (by assumption)
  clear_value x2_0
  refine within_upd_sec (sub_of hL rfl) ?_
  assumption

theorem within_execEnroll {a0} (hL : sub 12676506313958481884350731255872 L = true) (h : Within L s0 s) : WithinN L
      s0 (execEnroll a0 s) := by
  delta execEnroll
  refine withinN_next ?_
  refine within_execSecCmd (sub_of hL rfl) ?_
  exact within_at (sub_of hL rfl) (by assumption)

theorem within_setRunning {a0 a1} (hL : sub 10141204801825835211973625643008 L = true) (h : Within L s0 s) : Within
      L s0 (setRunning a0 a1 s) := by
  delta setRunning
  refine within_upd_sec (sub_of hL rfl) ?_
  assumption

theorem within_runFirmware {a0} (hL : sub 10141204801825835211973625643008 L = true) (h : Within L s0 s) : Within L
      s0 (runFirmware a0 s) := by
  delta runFirmware
  refine within_putEntry (sub_of hL rfl) ?_
  exact within_setRunning (sub_of hL rfl) (by assumption)

theorem within_handoverFail (hL : sub 12676506007004660498936188895296 L = true) (h : Within L s0 s) : Within L s0
      (handoverFail s) := by
  delta handoverFail
  refine ite_ind ?_ ?_
  · assumption
  · extract_lets +onlyGivenNames -merge -useContext -underBinder x4_0 x4_1 x4_2
    clear_value x4_0 x4_1
    have hx4_2 : Within L s0 x4_2 := by
      refine within_runFirmware (sub_of hL rfl) ?_
      exact within_setFlash (sub_of hL rfl) (by assumption)
    clear_value x4_2
    refine within_raise (sub_of hL rfl) (sub_of hL rfl) ?_
    refine within_showSec (sub_of hL rfl) ?_
    refine within_setState (sub_of hL rfl) ?_
    exact within_set (sub_of hL rfl) (by assumption)

theorem within_execHandoverTimeout {a0} (hL : sub 12676506008185252119653600198720 L = true) (h : Within L s0 s) :
      WithinN L s0 (execHandoverTimeout a0 s) := by
  delta execHandoverTimeout
  refine withinN_next ?_
  refine within_handoverFail (sub_of hL rfl) ?_
  exact within_at (sub_of hL rfl) (by assumption)

theorem within_execIdentity {a0} (hL : sub 12676506313958481884350731255872 L = true) (h : Within L s0 s) : WithinN
      L s0 (execIdentity a0 s) := by
  delta execIdentity
  refine withinN_next ?_
  refine within_execSecCmd (sub_of hL rfl) ?_
  exact within_at (sub_of hL rfl) (by assumption)

theorem within_execLoad {a0} (hL : sub 12676506313958481884350731255872 L = true) (h : Within L s0 s) : WithinN L
      s0 (execLoad a0 s) := by
  delta execLoad
  refine withinN_next ?_
  refine within_execSecCmd (sub_of hL rfl) ?_
  exact within_at (sub_of hL rfl) (by assumption)

theorem within_handoverStart (hL : sub 10141204801825835211973625643072 L = true) (h : Within L s0 s) : Within L s0
      (handoverStart s) := by
  delta handoverStart
  refine ite_ind ?_ ?_
  · assumption
  · refine within_showSec (sub_of hL rfl) ?_
    refine within_runFirmware (sub_of hL rfl) ?_
    exact within_set (sub_of hL rfl) (by assumption)

theorem within_execQuiesceTimeout {a0} (hL : sub 10141204803006426832691036946496 L = true) (h : Within L s0 s) :
      WithinN L s0 (execQuiesceTimeout a0 s) := by
  delta execQuiesceTimeout
  refine withinN_next ?_
  refine within_handoverStart (sub_of hL rfl) ?_
  exact within_at (sub_of hL rfl) (by assumption)

theorem within_execUpdate {a0} (hL : sub 12676506313958481884350731255872 L = true) (h : Within L s0 s) : WithinN L
      s0 (execUpdate a0 s) := by
  delta execUpdate
  refine withinN_next ?_
  refine within_execSecCmd (sub_of hL rfl) ?_
  exact within_at (sub_of hL rfl) (by assumption)

theorem within_handoverEnd (hL : sub 12676506007004660498936188895296 L = true) (h : Within L s0 s) : Within L s0
      (handoverEnd s) := by
  delta handoverEnd
  refine ite_ind ?_ ?_
  · assumption
  · extract_lets +onlyGivenNames -merge -useContext -underBinder x4_0 x4_1 x4_2
    clear_value x4_0
    have hx4_1 : Within L s0 x4_1 := by
      unfold x4_1
      refine within_upd_sec (sub_of hL rfl) ?_
      assumption
    clear_value x4_1
    have hx4_2 : Within L s0 x4_2 := by
      refine within_setTrial (sub_of hL rfl) ?_
      exact within_setPref (sub_of hL rfl) (by assumption)
    clear_value x4_2
    refine within_raise (sub_of hL rfl) (sub_of hL rfl) ?_
    refine within_showSec (sub_of hL rfl) ?_
    refine within_setState (sub_of hL rfl) ?_
    exact within_set (sub_of hL rfl) (by assumption)

theorem within_imageInvalid {a0} (hL : sub 2535301205178825286962563252288 L = true) (h : Within L s0 s) : Within L
      s0 (imageInvalid a0 s) := by
  delta imageInvalid
  refine within_raise (sub_of hL rfl) (sub_of hL rfl) ?_
  exact within_set (sub_of hL rfl) (by assumption)

theorem within_writeRetirement (hL : sub 10141204801825835211973625643008 L = true) (h : Within L s0 s) : Within L
      s0 (writeRetirement s) := by
  delta writeRetirement
  extract_lets +onlyGivenNames -merge -useContext -underBinder x2_0
  clear_value x2_0
  refine within_upd_sec (sub_of hL rfl) ?_
  assumption

theorem within_noteRetirement {a0} (hL : sub 10141204801825835211973625643008 L = true) (h : Within L s0 s) :
      Within L s0 (noteRetirement a0 s) := by
  delta noteRetirement
  extract_lets +onlyGivenNames -merge -useContext -underBinder x2_0
  refine ite_ind ?_ ?_
  · assumption
  · exact within_writeRetirement (sub_of hL rfl) (by assumption)

theorem within_secEndQueue {a0} (hL : sub 10141204801825835211973625643008 L = true) (h : Within L s0 s) : Within L
      s0 (secEndQueue a0 s) := by
  delta secEndQueue
  refine within_upd_sec (sub_of hL rfl) ?_
  assumption

theorem within_secReattached (hL : sub 12676506007004660498936188895296 L = true) (h : Within L s0 s) : Within L s0
      (secReattached s) := by
  delta secReattached
  refine within_forEach (fun _ _ _ => ?_) ?_
  · exact within_cmdDone (sub_of hL rfl) (by assumption)
  · refine within_upd_sec (sub_of hL rfl) ?_
    assumption

theorem within_secWarm (hL : sub 10141204801825835213073137270848 L = true) (h : Within L s0 s) : Within L s0
      (secWarm s) := by
  delta secWarm
  extract_lets +onlyGivenNames -merge -useContext -underBinder x2_0 x2_1
  have hx2_0 : Within L s0 x2_0 := by
    refine within_secEndQueue (sub_of hL rfl) ?_
    refine within_forEach (fun _ _ _ => ?_) ?_
    · exact within_secResult (sub_of hL rfl) (by assumption)
    · assumption
  clear_value x2_0
  have hx2_1 : Within L s0 x2_1 := by
    refine ite_ind ?_ ?_
    · assumption
    · refine within_setRunning (sub_of hL rfl) ?_
      exact within_set (sub_of hL rfl) (by assumption)
  clear_value x2_1
  exact within_setState (sub_of hL rfl) (by assumption)

theorem within_writeDefaultRights (hL : sub 295147905162172956672 L = true) (h : Within L s0 s) : Within L s0
      (writeDefaultRights s) := by
  delta writeDefaultRights
  exact within_mapHeaders (sub_of hL rfl) (by assumption)

theorem within_writeHandover {a0 a1 a2} (hL : sub 12676506007004660498936188895296 L = true) (h : Within L s0 s) :
      Within L s0 (writeHandover a0 a1 a2 s) := by
  delta writeHandover
  refine ite_ind ?_ ?_
  · exact within_logAccess (sub_of hL rfl) (sub_of hL rfl) (by assumption)
  · extract_lets +onlyGivenNames -merge -useContext -underBinder x4_0 x4_1
    have hx4_0 : Within L s0 x4_0 := by
      exact within_set (sub_of hL rfl) (by assumption)
    clear_value x4_0
    have hx4_1 : Within L s0 x4_1 := by
      refine ite_ind ?_ ?_
      · exact within_handoverStart (sub_of hL rfl) (by assumption)
      · assumption
    clear_value x4_1
    refine ite_ind ?_ ?_
    · exact within_handoverEnd (sub_of hL rfl) (by assumption)
    · assumption

theorem within_writeSecCmd {a0 a1} (hL : sub 12676506007004660498936188895232 L = true) (h : Within L s0 s) :
      Within L s0 (writeSecCmd a0 a1 s) := by
  delta writeSecCmd
  refine ite_ind ?_ ?_
  · exact within_logAccess (sub_of hL rfl) (sub_of hL rfl) (by assumption)
  · extract_lets +onlyGivenNames -merge -useContext -underBinder x4_0 x4_1
    clear_value x4_0 x4_1
    refine within_setSecCopy (sub_of hL rfl) ?_
    refine within_upd_sec (sub_of hL rfl) ?_
    assumption

end Sys2Proof.Machine
end

