-- ==== Sys2Proof/Laws/WithinDdr.lean ====
section
/-! SUPPORT. Which parts of a state each operation of Ddr.lean may write. -/

namespace Sys2Proof.Machine

variable {L : Nat} {s0 s : State}

theorem within_showDdrc {a0} (hL : sub 36893488147419103232 L = true) (h : Within L s0 s) : Within L s0 (showDdrc
      a0 s) := by
  delta showDdrc
  refine ite_ind ?_ ?_
  · assumption
  · exact within_setState (sub_of hL rfl) (by assumption)

theorem within_setSubState {a0 a1} (hL : sub 2147483648 L = true) (h : Within L s0 s) : Within L s0 (setSubState a0
      a1 s) := by
  delta setSubState
  exact within_set (sub_of (a := partW .ddrc) hL rfl) (by assumption)

theorem within_ddrcEnable {a0} (hL : sub 36893488149566586880 L = true) (h : Within L s0 s) : Within L s0
      (ddrcEnable a0 s) := by
  delta ddrcEnable
  extract_lets +onlyGivenNames -merge -useContext -underBinder x2_0 x2_1
  have hx2_0 : Within L s0 x2_0 := by
    exact within_setState (sub_of hL rfl) (by assumption)
  clear_value x2_0
  have hx2_1 : Within L s0 x2_1 := by
    exact within_set (sub_of hL rfl) (by assumption)
  clear_value x2_1
  refine within_showDdrc (sub_of hL rfl) ?_
  refine within_forEach (fun _ _ _ => ?_) ?_
  · exact within_setSubState (sub_of hL rfl) (by assumption)
  · assumption

theorem within_ddrcDisable {a0} (hL : sub 36893488149566586880 L = true) (h : Within L s0 s) : Within L s0
      (ddrcDisable a0 s) := by
  delta ddrcDisable
  refine within_setState (sub_of hL rfl) ?_
  refine within_forEach (fun _ _ _ => ?_) ?_
  · exact within_setSubState (sub_of hL rfl) (by assumption)
  · assumption

theorem within_applyDdrc {a0} (hL : sub 2535301205215718774012618211328 L = true) (h : Within L s0 s) : Within L s0
      (applyDdrc a0 s) := by
  delta applyDdrc
  extract_lets +onlyGivenNames -merge -useContext -underBinder x2_0 x2_1 x2_2 x2_3
  clear_value x2_0
  have hx2_1 : Within L s0 x2_1 := by
    exact within_applyGroup (sub_of hL rfl) (sub_of hL rfl) (sub_of hL rfl) (by assumption)
  clear_value x2_1 x2_2
  have hx2_3 : Within L s0 x2_3 := by
    refine ite_ind ?_ ?_
    · exact within_ddrcEnable (sub_of hL rfl) (by assumption)
    · refine ite_ind ?_ ?_
      · exact within_ddrcDisable (sub_of hL rfl) (by assumption)
      · assumption
  clear_value x2_3
  exact within_commitDone (sub_of hL rfl) (sub_of hL rfl) (by assumption)

theorem within_showMem (hL : sub 73786976299133173760 L = true) (h : Within L s0 s) : Within L s0 (showMem s) := by
  delta showMem
  extract_lets +onlyGivenNames -merge -useContext -underBinder x2_0 x2_1 x2_2
  clear_value x2_0 x2_1
  have hx2_2 : Within L s0 x2_2 := by
    exact within_setState (sub_of hL rfl) (by assumption)
  clear_value x2_2
  split
  · exact within_set (sub_of hL rfl) (by assumption)
  · extract_lets +onlyGivenNames -merge -useContext -underBinder x4_0
    have hx4_0 : Within L s0 x4_0 := by
      refine within_set (sub_of hL rfl) ?_
      exact within_set (sub_of hL rfl) (by assumption)
    clear_value x4_0
    refine within_set (sub_of hL rfl) ?_
    exact within_set (sub_of hL rfl) (by assumption)

theorem within_relineNext {k} (hL : sub 3802951805480841663658888003584 L = true) (h : Within L s0 s) : Within L s0
      (relineNext k s) := by
  induction k generalizing s with
  | zero => exact h
  | succ k ih =>
    unfold relineNext
    split
    · extract_lets +onlyGivenNames -merge -useContext -underBinder s1 s2
      have h2 : Within L s0 s2 := within_upd_mem (sub_of hL (by rfl)) h
      clear_value s2
      split
      · exact within_showMem (sub_of hL (by rfl)) (within_upd_mem (sub_of hL (by rfl)) h2)
      · exact ih (within_raise (sub_of hL (by rfl)) (sub_of hL (by rfl)) (within_upd_mem (sub_of hL (by rfl)) h2))
    · exact within_showMem (sub_of hL (by rfl)) h

theorem within_retire {a0} (hL : sub 3802951805480841663658888003584 L = true) (h : Within L s0 s) : Within L s0
      (retire a0 s) := by
  delta retire
  refine ite_ind ?_ ?_
  · assumption
  · refine within_relineNext (sub_of hL rfl) ?_
    refine within_raise (sub_of hL rfl) (sub_of hL rfl) ?_
    refine within_upd_mem (sub_of hL rfl) ?_
    assumption

theorem within_autoRetire {a0} (hL : sub 3802951805480841663658888003584 L = true) (h : Within L s0 s) : Within L
      s0 (autoRetire a0 s) := by
  delta autoRetire
  refine ite_ind ?_ ?_
  · exact within_retire (sub_of hL rfl) (by assumption)
  · assumption

theorem within_ddrcResume (hL : sub 36893488147419103232 L = true) (h : Within L s0 s) : Within L s0 (ddrcResume s)
      := by
  delta ddrcResume
  refine within_forEach (fun _ _ _ => ?_) ?_
  · refine ite_ind ?_ ?_
    · refine within_showDdrc (sub_of hL rfl) ?_
      exact within_setState (sub_of hL rfl) (by assumption)
    · assumption
  · assumption

theorem within_readCorrected {a0} (hL : sub 3802951805517735151808454590464 L = true) (h : Within L s0 s) : Within
      L s0 (readCorrected a0 s) := by
  delta readCorrected
  extract_lets +onlyGivenNames -merge -useContext -underBinder x2_0 x2_1 x2_2 x2_3 x2_4 x2_5 x2_6
  clear_value x2_0
  have hx2_1 : Within L s0 x2_1 := by
    refine within_raise (sub_of hL rfl) (sub_of hL rfl) ?_
    exact within_inc (sub_of hL rfl) (by assumption)
  clear_value x2_1 x2_2 x2_3 x2_4 x2_5
  have hx2_6 : Within L s0 x2_6 := by
    unfold x2_6
    refine within_upd_mem (sub_of hL rfl) ?_
    assumption
  clear_value x2_6
  refine ite_ind ?_ ?_
  · exact within_autoRetire (sub_of hL rfl) (by assumption)
  · assumption

theorem within_poisonLine {a0} (hL : sub 590295810363000619008 L = true) (h : Within L s0 s) : Within L s0
      (poisonLine a0 s) := by
  delta poisonLine
  refine within_incSat (sub_of hL rfl) ?_
  refine within_upd_poison (sub_of hL rfl) ?_
  assumption

theorem within_readUncorrectable {a0 a1 a2} (hL : sub 3802951806108030962167160242176 L = true) (h : Within L s0 s)
      : Within L s0 (readUncorrectable a0 a1 a2 s) := by
  delta readUncorrectable
  extract_lets +onlyGivenNames -merge -useContext -underBinder x2_0 x2_1 x2_2 x2_3
  clear_value x2_0
  have hx2_1 : Within L s0 x2_1 := by
    refine within_raise (sub_of hL rfl) (sub_of hL rfl) ?_
    exact within_inc (sub_of hL rfl) (by assumption)
  clear_value x2_1
  have hx2_2 : Within L s0 x2_2 := by
    exact within_logError (sub_of hL rfl) (sub_of hL rfl) (by assumption)
  clear_value x2_2
  have hx2_3 : Within L s0 x2_3 := by
    unfold x2_3
    split
    · refine within_poisonLine (sub_of hL rfl) ?_
      exact within_logMem (sub_of hL rfl) (by assumption)
    · refine within_incSat (sub_of hL rfl) ?_
      exact within_logMem (sub_of hL rfl) (by assumption)
  clear_value x2_3
  exact within_autoRetire (sub_of hL rfl) (by assumption)

theorem within_diagnosisDone {a0 a1} (hL : sub 3802951806108030962167160242176 L = true) (h : Within L s0 s) :
      Within L s0 (diagnosisDone a0 a1 s) := by
  delta diagnosisDone
  split
  · assumption
  · extract_lets +onlyGivenNames -merge -useContext -underBinder x4_0 x4_1
    clear_value x4_0
    have hx4_1 : Within L s0 x4_1 := by
      unfold x4_1
      refine within_upd_mem (sub_of hL rfl) ?_
      assumption
    clear_value x4_1
    split
    · extract_lets +onlyGivenNames -merge -useContext -underBinder x6_0 x6_1 x6_2
      clear_value x6_0
      have hx6_1 : Within L s0 x6_1 := by
        exact within_set (sub_of (a := partW .ddrc) hL rfl) (by assumption)
      clear_value x6_1
      have hx6_2 : Within L s0 x6_2 := by
        refine within_raise (sub_of hL rfl) (sub_of hL rfl) ?_
        exact within_set (sub_of (a := partW .ddrc) hL rfl) (by assumption)
      clear_value x6_2
      refine within_autoRetire (sub_of hL rfl) ?_
      exact within_readCorrected (sub_of hL rfl) (by assumption)
    · exact within_readUncorrectable (sub_of hL rfl) (by assumption)

theorem within_setRole {a0 a1} (hL : sub 4294967296 L = true) (h : Within L s0 s) : Within L s0 (setRole a0 a1 s)
      := by
  delta setRole
  exact within_set (sub_of (a := partW .memx) hL rfl) (by assumption)

theorem within_failSub {a0} (hL : sub 3802951805517735151808454590464 L = true) (h : Within L s0 s) : Within L s0
      (failSub a0 s) := by
  delta failSub
  extract_lets +onlyGivenNames -merge -useContext -underBinder x2_0 x2_1 x2_2
  clear_value x2_0
  have hx2_1 : Within L s0 x2_1 := by
    refine within_raise (sub_of hL rfl) (sub_of hL rfl) ?_
    exact within_setSubState (sub_of hL rfl) (by assumption)
  clear_value x2_1
  have hx2_2 : Within L s0 x2_2 := by
    refine within_forEach (fun _ _ _ => ?_) ?_
    · refine ite_ind ?_ ?_
      · exact within_setRole (sub_of hL rfl) (by assumption)
      · assumption
    · assumption
  clear_value x2_2
  refine within_forEach (fun _ _ _ => ?_) ?_
  · exact within_retire (sub_of hL rfl) (by assumption)
  · assumption

theorem within_freqAbort (hL : sub 3802951805517735151806307106816 L = true) (h : Within L s0 s) : Within L s0
      (freqAbort s) := by
  delta freqAbort
  refine ite_ind ?_ ?_
  · assumption
  · extract_lets +onlyGivenNames -merge -useContext -underBinder x4_0 x4_1
    clear_value x4_0
    have hx4_1 : Within L s0 x4_1 := by
      refine within_ddrcResume (sub_of hL rfl) ?_
      refine within_upd_mem (sub_of hL rfl) ?_
      assumption
    clear_value x4_1
    refine within_showMem (sub_of hL rfl) ?_
    refine within_raise (sub_of hL rfl) (sub_of hL rfl) ?_
    exact within_inc (sub_of hL rfl) (by assumption)

theorem within_freqEnd {a0} (hL : sub 3802951805480841663658888003584 L = true) (h : Within L s0 s) : Within L s0
      (freqEnd a0 s) := by
  delta freqEnd
  extract_lets +onlyGivenNames -merge -useContext -underBinder x2_0 x2_1
  clear_value x2_0
  have hx2_1 : Within L s0 x2_1 := by
    unfold x2_1
    refine within_upd_mem (sub_of hL rfl) ?_
    assumption
  clear_value x2_1
  refine within_showMem (sub_of hL rfl) ?_
  refine within_raise (sub_of hL rfl) (sub_of hL rfl) ?_
  refine within_set (sub_of hL rfl) ?_
  exact within_set (sub_of hL rfl) (by assumption)

theorem within_freqStart {a0 a1 f} (hL : sub 3802951805480841663658888003584 L = true) (hf : ∀ s, Within L s0 s →
      Within L s0 (f s)) (h : Within L s0 s) : Within L s0 (freqStart a0 a1 f s) := by
  delta freqStart
  refine ite_ind ?_ ?_
  · refine hf _ ?_
    exact within_freqEnd (sub_of hL rfl) (by assumption)
  · extract_lets +onlyGivenNames -merge -useContext -underBinder x4_0 x4_1
    clear_value x4_0
    have hx4_1 : Within L s0 x4_1 := by
      unfold x4_1
      refine within_upd_mem (sub_of hL rfl) ?_
      assumption
    clear_value x4_1
    refine within_showMem (sub_of hL rfl) ?_
    refine within_set (sub_of hL rfl) ?_
    exact within_set (sub_of hL rfl) (by assumption)

theorem within_trackNext {a0} (hL : sub 3802951805480841663658888003584 L = true) (h : Within L s0 s) : Within L s0
      (trackNext a0 s) := by
  delta trackNext
  refine ite_ind ?_ ?_
  · refine within_freqStart (sub_of hL rfl) (fun _ _ => ?_) ?_
    · exact within_logError (sub_of hL rfl) (sub_of hL rfl) (by assumption)
    · refine within_upd_mem (sub_of hL rfl) ?_
      assumption
  · assumption

theorem within_freqDone {a0 a1 a2} (hL : sub 3802951805517735151808454590464 L = true) (h : Within L s0 s) : Within
      L s0 (freqDone a0 a1 a2 s) := by
  delta freqDone
  refine ite_ind ?_ ?_
  · assumption
  · extract_lets +onlyGivenNames -merge -useContext -underBinder x4_0 x4_1 x4_2 x4_3 x4_4 x4_5 x4_6
    have hx4_0 : Within L s0 x4_0 := by
      exact within_ddrcResume (sub_of hL rfl) (by assumption)
    clear_value x4_0 x4_1
    have hx4_2 : Within L s0 x4_2 := by
      unfold x4_2
      refine within_upd_mem (sub_of hL rfl) ?_
      assumption
    clear_value x4_2
    have hx4_3 : Within L s0 x4_3 := by
      refine within_set (sub_of hL rfl) ?_
      exact within_set (sub_of hL rfl) (by assumption)
    clear_value x4_3
    have hx4_4 : Within L s0 x4_4 := by
      refine within_forEach (fun _ _ _ => ?_) ?_
      · exact within_set (sub_of hL rfl) (by assumption)
      · assumption
    clear_value x4_4
    have hx4_5 : Within L s0 x4_5 := by
      refine within_logError (sub_of hL rfl) (sub_of hL rfl) ?_
      exact within_freqEnd (sub_of hL rfl) (by assumption)
    clear_value x4_5
    have hx4_6 : Within L s0 x4_6 := by
      refine ite_ind ?_ ?_
      · refine within_showMem (sub_of hL rfl) ?_
        refine within_raise (sub_of hL rfl) (sub_of hL rfl) ?_
        exact within_set (sub_of hL rfl) (by assumption)
      · refine within_forEach (fun _ _ _ => ?_) ?_
        · refine within_failSub (sub_of hL rfl) ?_
          exact within_raise (sub_of hL rfl) (sub_of hL rfl) (by assumption)
        · assumption
    clear_value x4_6
    exact within_trackNext (sub_of hL rfl) (by assumption)

theorem within_freqMargin (hL : sub 3802951805517735151808454590464 L = true) (h : Within L s0 s) : Within L s0
      (freqMargin s) := by
  delta freqMargin
  refine ite_ind ?_ ?_
  · assumption
  · extract_lets +onlyGivenNames -merge -useContext -underBinder x4_0 x4_1
    clear_value x4_0
    have hx4_1 : Within L s0 x4_1 := by
      unfold x4_1
      refine within_upd_mem (sub_of hL rfl) ?_
      assumption
    clear_value x4_1
    refine within_showMem (sub_of hL rfl) ?_
    refine within_forEach (fun _ _ _ => ?_) ?_
    · extract_lets +onlyGivenNames -merge -useContext -underBinder x6_0 x6_1
      have hx6_1 : Within L s0 x6_1 := by
        refine ite_ind ?_ ?_
        · exact within_applyDdrc (sub_of hL rfl) (by assumption)
        · assumption
      clear_value x6_1
      refine ite_ind ?_ ?_
      · exact within_setState (sub_of hL rfl) (by assumption)
      · assumption
    · assumption

theorem within_freqTimeout (hL : sub 3802951805480841663658888003584 L = true) (h : Within L s0 s) : Within L s0
      (freqTimeout s) := by
  delta freqTimeout
  refine ite_ind ?_ ?_
  · exact within_freqEnd (sub_of hL rfl) (by assumption)
  · assumption

theorem within_readMismatch {a0 a1 a2} (hL : sub 3802951805517735151808454590464 L = true) (h : Within L s0 s) :
      Within L s0 (readMismatch a0 a1 a2 s) := by
  delta readMismatch
  extract_lets +onlyGivenNames -merge -useContext -underBinder x2_0 x2_1
  clear_value x2_0
  have hx2_1 : Within L s0 x2_1 := by
    refine within_raise (sub_of hL rfl) (sub_of hL rfl) ?_
    exact within_inc (sub_of hL rfl) (by assumption)
  clear_value x2_1
  refine within_autoRetire (sub_of hL rfl) ?_
  refine within_logMem (sub_of hL rfl) ?_
  exact within_logError (sub_of hL rfl) (sub_of hL rfl) (by assumption)

theorem within_readDone {a0 a1 a2 a3 a4} (hL : sub 3802951808469214203601982849024 L = true) (h : Within L s0 s) :
      Within L s0 (readDone a0 a1 a2 a3 a4 s) := by
  delta readDone
  extract_lets +onlyGivenNames -merge -useContext -underBinder x2_0 x2_1 x2_2 x2_3 x2_4 x2_5 x2_6 x2_7
  clear_value x2_0 x2_1 x2_2 x2_3 x2_4 x2_5 x2_6
  have hx2_7 : Within L s0 x2_7 := by
    refine ite_ind ?_ ?_
    · exact within_fresh (sub_of hL rfl) (by assumption)
    · assumption
  clear_value x2_7
  split
  · assumption
  · exact within_readCorrected (sub_of hL rfl) (by assumption)
  · refine ite_ind ?_ ?_
    · exact within_readUncorrectable (sub_of hL rfl) (by assumption)
    · refine within_upd_mem (sub_of hL rfl) ?_
      assumption
  · exact within_readMismatch (sub_of hL rfl) (by assumption)
  · exact within_inc (sub_of hL rfl) (by assumption)

theorem within_lineRead {a0 a1 a2 a3} (hL : sub 3802951808469214203601982849024 L = true) (h : Within L s0 s) :
      Within L s0 (lineRead a0 a1 a2 a3 s) := by
  delta lineRead
  refine ite_ind ?_ ?_
  · assumption
  · split
    · extract_lets +onlyGivenNames -merge -useContext -underBinder x6_0
      clear_value x6_0
      refine ite_ind ?_ ?_
      · exact within_inc (sub_of hL rfl) (by assumption)
      · exact within_readDone (sub_of hL rfl) (by assumption)

theorem within_mr4 {a0 a1} (hL : sub 2535301205215718774012618211328 L = true) (h : Within L s0 s) : Within L s0
      (mr4 a0 a1 s) := by
  delta mr4
  refine ite_ind ?_ ?_
  · assumption
  · extract_lets +onlyGivenNames -merge -useContext -underBinder x4_0 x4_1
    clear_value x4_1
    refine within_raiseIf (sub_of hL rfl) (sub_of hL rfl) ?_
    exact within_set (sub_of (a := partW .ddrc) hL rfl) (by assumption)

theorem within_poisonLines {a0} (hL : sub 590295810363000619008 L = true) (h : Within L s0 s) : Within L s0
      (poisonLines a0 s) := by
  delta poisonLines
  refine within_incSat (sub_of hL rfl) ?_
  refine within_upd_poison (sub_of hL rfl) ?_
  assumption

theorem within_relineDone {a0} (hL : sub 3802951805480841663658888003584 L = true) (h : Within L s0 s) : Within L
      s0 (relineDone a0 s) := by
  delta relineDone
  extract_lets +onlyGivenNames -merge -useContext -underBinder x2_0 x2_1 x2_2
  clear_value x2_0 x2_1
  have hx2_2 : Within L s0 x2_2 := by
    refine within_setRole (sub_of hL rfl) ?_
    refine within_setRole (sub_of hL rfl) ?_
    refine within_upd_mem (sub_of hL rfl) ?_
    assumption
  clear_value x2_2
  refine within_relineNext (sub_of hL rfl) ?_
  refine within_raise (sub_of hL rfl) (sub_of hL rfl) ?_
  exact within_inc (sub_of hL rfl) (by assumption)

theorem within_scrubRead {a0 a1 a2} (hL : sub 3802951808469214203601982849024 L = true) (h : Within L s0 s) :
      Within L s0 (scrubRead a0 a1 a2 s) := by
  delta scrubRead
  refine ite_ind ?_ ?_
  · assumption
  · split
    · exact within_lineRead (sub_of hL rfl) (by assumption)
    · refine ite_ind ?_ ?_
      · assumption
      · extract_lets +onlyGivenNames -merge -useContext -underBinder x8_0
        clear_value x8_0
        refine ite_ind ?_ ?_
        · assumption
        · refine ite_ind ?_ ?_
          · exact within_readCorrected (sub_of hL rfl) (by assumption)
          · refine ite_ind ?_ ?_
            · exact within_readUncorrectable (sub_of hL rfl) (by assumption)
            · refine within_upd_mem (sub_of hL rfl) ?_
              assumption

theorem within_segmentDone {a0} (hL : sub 3802951806071137474017593655296 L = true) (h : Within L s0 s) : Within L
      s0 (segmentDone a0 s) := by
  delta segmentDone
  split
  · assumption
  · refine ite_ind ?_ ?_
    · assumption
    · extract_lets +onlyGivenNames -merge -useContext -underBinder x6_0 x6_1 x6_2 x6_3 x6_4 x6_5
      clear_value x6_0 x6_1
      have hx6_2 : Within L s0 x6_2 := by
        exact within_poisonLines (sub_of hL rfl) (by assumption)
      clear_value x6_2 x6_3 x6_4
      have hx6_5 : Within L s0 x6_5 := by
        unfold x6_5
        refine within_upd_mem (sub_of hL rfl) ?_
        assumption
      clear_value x6_5
      refine ite_ind ?_ ?_
      · exact within_showMem (sub_of hL rfl) (by assumption)
      · refine within_relineDone (sub_of hL rfl) ?_
        exact within_showMem (sub_of hL rfl) (by assumption)

theorem within_trackTick {a0 a1 a2} (hL : sub 3802951805517735151806307106816 L = true) (h : Within L s0 s) :
      Within L s0 (trackTick a0 a1 a2 s) := by
  delta trackTick
  refine ite_ind ?_ ?_
  · assumption
  · refine within_trackNext (sub_of hL rfl) ?_
    refine within_raise (sub_of hL rfl) (sub_of hL rfl) ?_
    refine within_upd_mem (sub_of hL rfl) ?_
    assumption

theorem within_trainingDone {a0 a1} (hL : sub 3802951805517735151808454590464 L = true) (h : Within L s0 s) :
      Within L s0 (trainingDone a0 a1 s) := by
  delta trainingDone
  refine ite_ind ?_ ?_
  · assumption
  · refine ite_ind ?_ ?_
    · refine within_showDdrc (sub_of hL rfl) ?_
      exact within_setSubState (sub_of hL rfl) (by assumption)
    · refine within_showDdrc (sub_of hL rfl) ?_
      refine within_failSub (sub_of hL rfl) ?_
      refine within_logError (sub_of hL rfl) (sub_of hL rfl) ?_
      exact within_raise (sub_of hL rfl) (sub_of hL rfl) (by assumption)

theorem within_writeFreq {a0 a1 a2} (hL : sub 3802951805480841663658888003584 L = true) (h : Within L s0 s) :
      Within L s0 (writeFreq a0 a1 a2 s) := by
  delta writeFreq
  refine ite_ind ?_ ?_
  · exact within_logAccess (sub_of hL rfl) (sub_of hL rfl) (by assumption)
  · extract_lets +onlyGivenNames -merge -useContext -underBinder x4_0
    have hx4_0 : Within L s0 x4_0 := by
      exact within_set (sub_of hL rfl) (by assumption)
    clear_value x4_0
    refine ite_ind ?_ ?_
    · refine within_freqStart (sub_of hL rfl) (fun _ _ => ?_) ?_
      · exact within_logAccess (sub_of hL rfl) (sub_of hL rfl) (by assumption)
      · assumption
    · assumption

theorem within_writeMap {a0 a1} (hL : sub 2535301205252612262162184798208 L = true) (h : Within L s0 s) : Within L
      s0 (writeMap a0 a1 s) := by
  delta writeMap
  extract_lets +onlyGivenNames -merge -useContext -underBinder x2_0
  clear_value x2_0
  refine ite_ind ?_ ?_
  · exact within_logAccess (sub_of hL rfl) (sub_of hL rfl) (by assumption)
  · refine ite_ind ?_ ?_
    · exact within_logAccess (sub_of hL rfl) (sub_of hL rfl) (by assumption)
    · refine within_set (sub_of hL rfl) ?_
      exact within_set (sub_of hL rfl) (by assumption)

theorem within_writeReline {a0 a1} (hL : sub 3802951805480841663658888003584 L = true) (h : Within L s0 s) : Within
      L s0 (writeReline a0 a1 s) := by
  delta writeReline
  extract_lets +onlyGivenNames -merge -useContext -underBinder x2_0
  clear_value x2_0
  refine ite_ind ?_ ?_
  · exact within_logAccess (sub_of hL rfl) (sub_of hL rfl) (by assumption)
  · extract_lets +onlyGivenNames -merge -useContext -underBinder x4_0
    have hx4_0 : Within L s0 x4_0 := by
      exact within_set (sub_of hL rfl) (by assumption)
    clear_value x4_0
    refine ite_ind ?_ ?_
    · exact within_retire (sub_of hL rfl) (by assumption)
    · assumption

theorem within_writeRoles {a0 a1} (hL : sub 3802951805480841663658888003584 L = true) (h : Within L s0 s) : Within
      L s0 (writeRoles a0 a1 s) := by
  delta writeRoles
  refine ite_ind ?_ ?_
  · exact within_logAccess (sub_of hL rfl) (sub_of hL rfl) (by assumption)
  · refine ite_ind ?_ ?_
    · exact within_logAccess (sub_of hL rfl) (sub_of hL rfl) (by assumption)
    · extract_lets +onlyGivenNames -merge -useContext -underBinder x6_0 x6_1 x6_2
      have hx6_0 : Within L s0 x6_0 := by
        exact within_set (sub_of hL rfl) (by assumption)
      clear_value x6_0 x6_1 x6_2
      refine within_relineNext (sub_of hL rfl) ?_
      refine within_upd_mem (sub_of hL rfl) ?_
      assumption

end Sys2Proof.Machine
end

