-- ==== Sys2Proof/Laws/WithinHostPorts.lean ====
section
/-! SUPPORT. Which parts of a state each operation of HostPorts.lean may write. -/

namespace Sys2Proof.Machine

variable {L : Nat} {s0 s : State}

theorem within_completeUr {a0} (hL : sub 4722366482869645213824 L = true) (h : Within L s0 s) : Within L s0
      (completeUr a0 s) := by
  delta completeUr
  refine within_emit (sub_of hL rfl) ?_
  exact within_inc (sub_of hL rfl) (by assumption)

theorem within_bar2Read {a0 a1 a2} (hL : sub 4722366482873940181120 L = true) (h : Within L s0 s) : Within L s0
      (bar2Read a0 a1 a2 s) := by
  delta bar2Read
  refine ite_ind ?_ ?_
  · assumption
  · refine ite_ind ?_ ?_
    · exact within_completeUr (sub_of hL rfl) (by assumption)
    · split
      · rename_i v6_0 v6_1 v6_2 q6_0
        have hv6_2 : Within L s0 v6_2 := within3_eq q6_0 (by
          exact within_dramRead (sub_of hL rfl) (by assumption))
        extract_lets +onlyGivenNames -merge -useContext -underBinder x8_0
        have hx8_0 : Within L s0 x8_0 := by
          refine ite_ind ?_ ?_
          · exact within_inc (sub_of hL rfl) (by assumption)
          · assumption
        clear_value x8_0
        exact within_emit (sub_of hL rfl) (by assumption)

theorem within_bar2Write {a0 a1 a2 a3} (hL : sub 5607810198411998658688 L = true) (h : Within L s0 s) : Within L s0
      (bar2Write a0 a1 a2 a3 s) := by
  delta bar2Write
  refine ite_ind ?_ ?_
  · assumption
  · refine ite_ind ?_ ?_
    · exact within_completeUr (sub_of hL rfl) (by assumption)
    · refine ite_ind ?_ ?_
      · exact within_dramPoison (sub_of hL rfl) (by assumption)
      · exact within_dramWrite (sub_of hL rfl) (by assumption)

theorem within_execBar2Read {a0 a1 a2 a3} (hL : sub 5902958103591351484544 L = true) (h : Within L s0 s) : WithinN
      L s0 (execBar2Read a0 a1 a2 a3 s) := by
  delta execBar2Read
  refine withinN_next ?_
  refine within_bar2Read (sub_of hL rfl) ?_
  exact within_at (sub_of hL rfl) (by assumption)

theorem within_execBar2Write {a0 a1 a2 a3 a4} (hL : sub 6788401819129409962112 L = true) (h : Within L s0 s) :
      WithinN L s0 (execBar2Write a0 a1 a2 a3 a4 s) := by
  delta execBar2Write
  refine withinN_next ?_
  refine within_bar2Write (sub_of hL rfl) ?_
  exact within_at (sub_of hL rfl) (by assumption)

theorem within_flrEnd {a0} (hL : sub 2199023255552 L = true) (h : Within L s0 s) : Within L s0 (flrEnd a0 s) := by
  delta flrEnd
  refine ite_ind ?_ ?_
  · exact within_setState (sub_of hL rfl) (by assumption)
  · assumption

theorem within_execFlrEnd {a0 a1} (hL : sub 1180591622916434558976 L = true) (h : Within L s0 s) : WithinN L s0
      (execFlrEnd a0 a1 s) := by
  delta execFlrEnd
  refine withinN_next ?_
  refine within_flrEnd (sub_of hL rfl) ?_
  exact within_at (sub_of hL rfl) (by assumption)

theorem within_hostLinkUp {a0 a1 a2 a3} (hL : sub 2535301205178825288062074880128 L = true) (h : Within L s0 s) :
      Within L s0 (hostLinkUp a0 a1 a2 a3 s) := by
  delta hostLinkUp
  refine ite_ind ?_ ?_
  · assumption
  · extract_lets +onlyGivenNames -merge -useContext -underBinder x4_0 x4_1 x4_2
    clear_value x4_0 x4_1
    have hx4_2 : Within L s0 x4_2 := by
      refine within_set (sub_of hL rfl) ?_
      refine within_set (sub_of hL rfl) ?_
      refine within_set (sub_of hL rfl) ?_
      exact within_set (sub_of hL rfl) (by assumption)
    clear_value x4_2
    refine ite_ind ?_ ?_
    · refine within_raise (sub_of hL rfl) (sub_of hL rfl) ?_
      exact within_setState (sub_of hL rfl) (by assumption)
    · exact within_raiseIf (sub_of hL rfl) (sub_of hL rfl) (by assumption)

theorem within_execHostLinkUp {a0 a1 a2 a3 a4} (hL : sub 2535301206359416908779486183552 L = true) (h : Within L s0
      s) : WithinN L s0 (execHostLinkUp a0 a1 a2 a3 a4 s) := by
  delta execHostLinkUp
  refine withinN_next ?_
  refine within_hostLinkUp (sub_of hL rfl) ?_
  exact within_at (sub_of hL rfl) (by assumption)

theorem group_owner {b : Block} {n : Nat} {x : Block × Nat} (h : x ∈ leaseGroup s b n) :
    x.1 = b ∨ x.1 = .head ∨ x.1 = .layer := by
  have h := (List.mem_filter.1 h).1
  split at h
  · rcases group_blocks h with e | ⟨-, e⟩
    · rw [e]
      cases b <;> simp [commitOwner]
    · exact .inr (.inr e)
  · simp only [List.mem_cons, List.not_mem_nil, or_false] at h
    exact .inl (h ▸ rfl)

theorem sub_owner {b : Block} {n : Nat} {x : Block × Nat} (h : x ∈ leaseGroup s b n) (hb : sub (partH b) L = true)
    (h1 : sub (partH .head) L = true) (h2 : sub (partH .layer) L = true) : sub (partH x.1) L = true := by
  rcases group_owner h with e | e | e <;> rw [e] <;> assumption

theorem within_leaseLapse {a0 a1} (hL : sub 2535301205178933372254108516352 L = true) (q1_0 : sub (partH a0) L =
      true) (h : Within L s0 s) : Within L s0 (leaseLapse a0 a1 s) := by
  delta leaseLapse
  extract_lets +onlyGivenNames -merge -useContext -underBinder x
  refine ite_ind h (forEach_mem (P := Within L s0) (fun x hx s h => ?_) h)
  have hq := sub_owner hx q1_0 (sub_of hL rfl) (sub_of hL rfl)
  exact within_raise (sub_of hL rfl) hq (within_setHdr hq h)

theorem within_execLeaseLapsed {a0 a1 a2} (hL : sub 2535301206359524992971519819776 L = true) (q1_0 : sub (partH
      a0) L = true) (h : Within L s0 s) : WithinN L s0 (execLeaseLapsed a0 a1 a2 s) := by
  delta execLeaseLapsed
  refine withinN_next ?_
  refine within_leaseLapse (sub_of hL rfl) q1_0 ?_
  exact within_at (sub_of hL rfl) (by assumption)

theorem within_msixEnable {a0} (hL : sub 2535301205178825285863051624448 L = true) (h : Within L s0 s) : Within L
      s0 (msixEnable a0 s) := by
  delta msixEnable
  extract_lets +onlyGivenNames -merge -useContext -underBinder x2_0 x2_1
  clear_value x2_0
  have hx2_1 : Within L s0 x2_1 := by
    exact within_setPort (sub_of hL rfl) (by assumption)
  clear_value x2_1
  refine within_forEach (fun _ _ _ => ?_) ?_
  · exact within_sendMsix (sub_of hL rfl) (by assumption)
  · assumption

theorem within_execMsixEnable {a0 a1} (hL : sub 2535301206359416906580462927872 L = true) (h : Within L s0 s) :
      WithinN L s0 (execMsixEnable a0 a1 s) := by
  delta execMsixEnable
  refine withinN_next ?_
  refine within_msixEnable (sub_of hL rfl) ?_
  exact within_at (sub_of hL rfl) (by assumption)

theorem within_unmask {a0 a1} (hL : sub 2535301205178825285863051624448 L = true) (h : Within L s0 s) : Within L s0
      (unmask a0 a1 s) := by
  delta unmask
  extract_lets +onlyGivenNames -merge -useContext -underBinder x2_0 x2_1
  clear_value x2_0
  have hx2_1 : Within L s0 x2_1 := by
    exact within_setPort (sub_of hL rfl) (by assumption)
  clear_value x2_1
  refine ite_ind ?_ ?_
  · exact within_sendMsix (sub_of hL rfl) (by assumption)
  · assumption

theorem within_execMsixUnmask {a0 a1 a2} (hL : sub 2535301206359416906580462927872 L = true) (h : Within L s0 s) :
      WithinN L s0 (execMsixUnmask a0 a1 a2 s) := by
  delta execMsixUnmask
  refine withinN_next ?_
  refine within_unmask (sub_of hL rfl) ?_
  exact within_at (sub_of hL rfl) (by assumption)

theorem within_execResizableBarWrite {a0 a1 a2} (hL : sub 1180591620717411303552 L = true) (h : Within L s0 s) :
      WithinN L s0 (execResizableBarWrite a0 a1 a2 s) := by
  delta execResizableBarWrite
  refine withinN_next ?_
  refine within_set (sub_of hL rfl) ?_
  exact within_at (sub_of hL rfl) (by assumption)

theorem within_showHeld (hL : sub 4 L = true) (h : Within L s0 s) : Within L s0 (showHeld s) := by
  delta showHeld
  exact within_set (sub_of hL rfl) (by assumption)

theorem within_thmLapse {a0} (hL : sub 7605903606091742891918583922692 L = true) (h : Within L s0 s) : Within L s0
      (thmLapse a0 s) := by
  delta thmLapse
  extract_lets +onlyGivenNames -merge -useContext -underBinder x2_0
  clear_value x2_0
  refine ite_ind ?_ ?_
  · assumption
  · extract_lets +onlyGivenNames -merge -useContext -underBinder x4_0 x4_1
    have hx4_0 : Within L s0 x4_0 := by
      unfold x4_0
      refine within_upd_thmTimers (sub_of hL rfl) ?_
      assumption
    clear_value x4_0
    have hx4_1 : Within L s0 x4_1 := by
      refine within_set (sub_of (a := partW .thm) hL rfl) ?_
      exact within_set (sub_of (a := partW .thm) hL rfl) (by assumption)
    clear_value x4_1
    refine within_raise (sub_of hL rfl) (sub_of hL rfl) ?_
    refine within_showHeld (sub_of hL rfl) ?_
    exact within_set (sub_of hL rfl) (by assumption)

theorem within_execThimbleLapsed {a0 a1} (hL : sub 7605903607272334512635995226116 L = true) (h : Within L s0 s) :
      WithinN L s0 (execThimbleLapsed a0 a1 s) := by
  delta execThimbleLapsed
  refine withinN_next ?_
  refine within_thmLapse (sub_of hL rfl) ?_
  exact within_at (sub_of hL rfl) (by assumption)

theorem within_linkGone {a0} (hL : sub 128 L = true) (h : Within L s0 s) : Within L s0 (linkGone a0 s) := by
  delta linkGone
  refine within_set (sub_of hL rfl) ?_
  refine within_set (sub_of hL rfl) ?_
  refine within_set (sub_of hL rfl) ?_
  exact within_set (sub_of hL rfl) (by assumption)

theorem within_startTimers {a0} (hL : sub 295147905162172956672 L = true) (h : Within L s0 s) : Within L s0
      (startTimers a0 s) := by
  refine { h with hdrs := fun b n _ => .inl (sub_of hL (sub_trans (sub_allH b) rfl)) }

theorem within_loseOrigin {a0} (hL : sub 5070602401208065511148985778176 L = true) (h : Within L s0 s) : Within L
      s0 (loseOrigin a0 s) := by
  delta loseOrigin
  extract_lets +onlyGivenNames -merge -useContext -underBinder x2_0
  have hx2_0 : Within L s0 x2_0 := by
    exact within_startTimers (sub_of hL rfl) (by assumption)
  clear_value x2_0
  refine within_upd_thmTimers (sub_of hL rfl) ?_
  assumption

theorem within_ownerWrote {a0 a1 a2} (hL : sub 108086391056891904 L = true) (q1_1 : sub (partH a1) L = true) (h :
      Within L s0 s) : Within L s0 (ownerWrote a0 a1 a2 s) := by
  delta ownerWrote
  refine ite_ind h (forEach_mem (P := Within L s0) (fun x hx s h => ?_) h)
  exact within_setHdr (sub_owner hx q1_1 (sub_of hL rfl) (sub_of hL rfl)) h

theorem within_releaseKeeper (hL : sub 4 L = true) (h : Within L s0 s) : Within L s0 (releaseKeeper s) := by
  delta releaseKeeper
  refine within_showHeld (sub_of hL rfl) ?_
  refine within_forEach (fun _ _ _ => ?_) ?_
  · exact within_set (sub_of (a := partW .thm) hL rfl) (by assumption)
  · assumption

theorem within_resetFunction {a0} (hL : sub 2535301200456458802993406410880 L = true) (h : Within L s0 s) : Within
      L s0 (resetFunction a0 s) := by
  delta resetFunction
  refine within_set (sub_of hL rfl) ?_
  exact within_setPort (sub_of hL rfl) (by assumption)

theorem within_thmTouched {a0 a1} (hL : sub 5070602400912917605986812821504 L = true) (h : Within L s0 s) : Within
      L s0 (thmTouched a0 a1 s) := by
  delta thmTouched
  refine ite_ind ?_ ?_
  · refine within_upd_thmTimers (sub_of hL rfl) ?_
    assumption
  · assumption

theorem within_writeThm {a0 a1 a2} (hL : sub 7605903606091742891918583922692 L = true) (h : Within L s0 s) : Within
      L s0 (writeThm a0 a1 a2 s) := by
  delta writeThm
  extract_lets +onlyGivenNames -merge -useContext -underBinder x2_0 x2_1 x2_2 x2_3
  clear_value x2_0 x2_1 x2_2 x2_3
  refine ite_ind ?_ ?_
  · refine within_logAccess (sub_of hL rfl) (sub_of hL rfl) ?_
    exact within_set (sub_of (a := partW .thm) hL rfl) (by assumption)
  · extract_lets +onlyGivenNames -merge -useContext -underBinder x4_0
    have hx4_0 : Within L s0 x4_0 := by
      exact within_thmTouched (sub_of hL rfl) (by assumption)
    clear_value x4_0
    refine ite_ind ?_ ?_
    · exact within_logAccess (sub_of hL rfl) (sub_of hL rfl) (by assumption)
    · refine ite_ind ?_ ?_
      · refine ite_ind ?_ ?_
        · extract_lets +onlyGivenNames -merge -useContext -underBinder x10_0
          have hx10_0 : Within L s0 x10_0 := by
            refine within_inc (sub_of (a := partW .thm) hL rfl) ?_
            exact within_set (sub_of (a := partW .thm) hL rfl) (by assumption)
          clear_value x10_0
          refine within_showHeld (sub_of hL rfl) ?_
          exact within_set (sub_of (a := partW .thm) hL rfl) (by assumption)
        · refine ite_ind ?_ ?_
          · exact within_set (sub_of (a := partW .thm) hL rfl) (by assumption)
          · exact within_inc (sub_of hL rfl) (by assumption)
      · refine ite_ind ?_ ?_
        · refine ite_ind ?_ ?_
          · refine within_showHeld (sub_of hL rfl) ?_
            extract_lets +onlyGivenNames -merge -useContext -underBinder x12_0
            have hx12_0 : Within L s0 x12_0 := by
              exact within_set (sub_of (a := partW .thm) hL rfl) (by assumption)
            clear_value x12_0
            refine within_upd_thmTimers (sub_of hL rfl) ?_
            assumption
          · exact within_logAccess (sub_of hL rfl) (sub_of hL rfl) (by assumption)
        · assumption

end Sys2Proof.Machine
end

