-- ==== Sys2Proof/Laws/WithinFeed.lean ====
section
/-! SUPPORT. Which parts of a state each operation of Feed.lean may write. -/

namespace Sys2Proof.Machine

variable {L : Nat} {s0 s : State}

theorem within_setDirect {a1 a2} (hL : sub 1208925819614629174706176 L = true) (h : Within L s0 s) : Within L s0
      (State.setDirect s a1 a2) := by
  delta State.setDirect
  refine within_upd_directs (sub_of hL rfl) ?_
  assumption

theorem within_updDirect {a0 a1 a2 a3} (hL : sub 1208925819614629174706176 L = true) (h : Within L s0 s) : Within L
      s0 (updDirect a0 a1 a2 a3 s) := by
  delta updDirect
  exact within_setDirect (sub_of hL rfl) (by assumption)

theorem within_directCut {a0 a1} (hL : sub 1208925819614629174706176 L = true) (h : Within L s0 s) : Within L s0
      (directCut a0 a1 s) := by
  delta directCut
  refine within_forEach (fun _ _ _ => ?_) ?_
  · refine ite_ind ?_ ?_
    · exact within_updDirect (sub_of hL rfl) (by assumption)
    · assumption
  · assumption

theorem within_directRow {a0 a1 a2 a3 a4 a5} (hL : sub 1208925819614629174706176 L = true) (h : Within L s0 s) :
      Within L s0 (directRow a0 a1 a2 a3 a4 a5 s) := by
  delta directRow
  refine ite_ind ?_ ?_
  · assumption
  · exact within_updDirect (sub_of hL rfl) (by assumption)

theorem within_directStart {a0 a1 a2} (hL : sub 1208925819614629174706176 L = true) (h : Within L s0 s) : Within L
      s0 (directStart a0 a1 a2 s) := by
  delta directStart
  refine within_forEach (fun _ _ _ => ?_) ?_
  · exact within_setDirect (sub_of hL rfl) (by assumption)
  · assumption

theorem within_dropTap {a0 a1 a2} (hL : sub 2535353189874537200257869283328 L = true) (h : Within L s0 s) : Within
      L s0 (dropTap a0 a1 a2 s) := by
  delta dropTap
  split
  · exact within_returnBuf (sub_of hL rfl) (by assumption)
  · exact within_directCut (sub_of hL rfl) (by assumption)
  · exact within_abandonFrame (sub_of hL rfl) (by assumption)
  · exact within_segAbandon (sub_of hL rfl) (by assumption)

theorem within_dropOutputs {a0 a1} (hL : sub 2535353227653469063215030992896 L = true) (h : Within L s0 s) : Within
      L s0 (dropOutputs a0 a1 s) := by
  delta dropOutputs
  split
  · assumption
  · extract_lets +onlyGivenNames -merge -useContext -underBinder x4_0 x4_1
    have hx4_0 : Within L s0 x4_0 := by
      exact within_updFrame (sub_of hL rfl) (by assumption)
    clear_value x4_0
    have hx4_1 : Within L s0 x4_1 := by
      refine within_forEach (fun _ _ _ => ?_) ?_
      · exact within_dropTap (sub_of hL rfl) (by assumption)
      · assumption
    clear_value x4_1
    refine within_forEach (fun _ _ _ => ?_) ?_
    · exact within_returnBuf (sub_of hL rfl) (by assumption)
    · assumption

theorem within_purge {a0} (hL : sub 37778931862957161709568 L = true) (h : Within L s0 s) : Within L s0 (purge a0
      s) := by
  delta purge
  extract_lets +onlyGivenNames -merge -useContext -underBinder x2_0
  clear_value x2_0
  exact within_setStrm (sub_of hL rfl) (by assumption)

end Sys2Proof.Machine
end

