-- ==== Sys2Proof/Laws/WithinSched.lean ====
section
/-! SUPPORT. Which parts of a state each operation of Sched.lean may write. -/

namespace Sys2Proof.Machine

variable {L : Nat} {s0 s : State}

theorem within_benchEvent {a0 a1 a2} (hL : sub 2535301205178825426600539987968 L = true) (h : Within L s0 s) :
      Within L s0 (benchEvent a0 a1 a2 s) := by
  delta benchEvent
  refine within_raise (sub_of hL rfl) (sub_of hL rfl) ?_
  exact within_set (sub_of hL rfl) (by assumption)

theorem within_place (hL : sub 37778931862957161779200 L = true) (h : Within L s0 s) : Within L s0 (place s) := by
  delta place
  extract_lets +onlyGivenNames -merge -useContext -underBinder x2_0 x2_1 x2_2
  clear_value x2_0
  have hx2_1 : Within L s0 x2_1 := by
    exact within_set (sub_of hL rfl) (by assumption)
  clear_value x2_1
  have hx2_2 : Within L s0 x2_2 := by
    exact within_set (sub_of hL rfl) (by assumption)
  clear_value x2_2
  refine within_forEach (fun _ _ _ => ?_) ?_
  · split
    · extract_lets +onlyGivenNames -merge -useContext -underBinder x6_0
      have hx6_0 : Within L s0 x6_0 := by
        refine within_set (sub_of hL rfl) ?_
        exact within_set (sub_of hL rfl) (by assumption)
      clear_value x6_0
      refine within_set (sub_of hL rfl) ?_
      exact within_set (sub_of hL rfl) (by assumption)
    · extract_lets +onlyGivenNames -merge -useContext -underBinder x6_0 x6_1 x6_2 x6_3 x6_4
      clear_value x6_0 x6_1
      have hx6_2 : Within L s0 x6_2 := by
        exact within_setStrm (sub_of hL rfl) (by assumption)
      clear_value x6_2
      have hx6_3 : Within L s0 x6_3 := by
        refine within_set (sub_of hL rfl) ?_
        exact within_set (sub_of hL rfl) (by assumption)
      clear_value x6_3
      have hx6_4 : Within L s0 x6_4 := by
        exact within_set (sub_of hL rfl) (by assumption)
      clear_value x6_4
      exact within_setSat (sub_of hL rfl) (by assumption)
  · assumption

theorem within_refreshBench {a0} (hL : sub 211106232537088 L = true) (h : Within L s0 s) : Within L s0
      (refreshBench a0 s) := by
  delta refreshBench
  extract_lets +onlyGivenNames -merge -useContext -underBinder x2_0 x2_1 x2_2 x2_3 x2_4 x2_5 x2_6 x2_7 x2_8 x2_9
  clear_value x2_0 x2_1 x2_2
  have hx2_3 : Within L s0 x2_3 := by
    exact within_set (sub_of (a := partW .shut) hL rfl) (by assumption)
  clear_value x2_3
  have hx2_4 : Within L s0 x2_4 := by
    exact within_set (sub_of (a := partW .shut) hL rfl) (by assumption)
  clear_value x2_4
  have hx2_5 : Within L s0 x2_5 := by
    exact within_set (sub_of (a := partW .shut) hL rfl) (by assumption)
  clear_value x2_5
  have hx2_6 : Within L s0 x2_6 := by
    exact within_set (sub_of (a := partW .shut) hL rfl) (by assumption)
  clear_value x2_6
  have hx2_7 : Within L s0 x2_7 := by
    exact within_set (sub_of (a := partW .shut) hL rfl) (by assumption)
  clear_value x2_7
  have hx2_8 : Within L s0 x2_8 := by
    exact within_set (sub_of (a := partW .shut) hL rfl) (by assumption)
  clear_value x2_8
  have hx2_9 : Within L s0 x2_9 := by
    refine within_setState (sub_of hL rfl) ?_
    exact within_set (sub_of (a := partW .shut) hL rfl) (by assumption)
  clear_value x2_9
  exact within_setState (sub_of hL rfl) (by assumption)

theorem within_refreshStrm {a0} (hL : sub 1125899906842624 L = true) (h : Within L s0 s) : Within L s0 (refreshStrm
      a0 s) := by
  delta refreshStrm
  extract_lets +onlyGivenNames -merge -useContext -underBinder x2_0 x2_1
  clear_value x2_0 x2_1
  exact within_setState (sub_of hL rfl) (by assumption)

theorem within_refreshArrivals {a0 a1} (hL : sub 37778931862957161709568 L = true) (h : Within L s0 s) : Within L
      s0 (refreshArrivals a0 a1 s) := by
  delta refreshArrivals
  extract_lets +onlyGivenNames -merge -useContext -underBinder x2_0
  clear_value x2_0
  exact within_setStrm (sub_of hL rfl) (by assumption)

theorem within_strmShown {a0 a1} (hL : sub 37778933199963301089288 L = true) (h : Within L s0 s) : Within L s0
      (strmShown a0 a1 s) := by
  delta strmShown
  refine within_forEach (fun _ _ _ => ?_) ?_
  · exact within_refreshBench (sub_of hL rfl) (by assumption)
  · refine within_refreshStrm (sub_of hL rfl) ?_
    refine within_refreshPace (sub_of hL rfl) ?_
    exact within_refreshArrivals (sub_of hL rfl) (by assumption)

theorem within_dropFifo {a0 a1} (hL : sub 75557863725914323419136 L = true) (h : Within L s0 s) : Within L s0
      (dropFifo a0 a1 s) := by
  delta dropFifo
  refine within_forEach (fun _ _ _ => ?_) ?_
  · refine ite_ind ?_ ?_
    · extract_lets +onlyGivenNames -merge -useContext -underBinder x6_0
      clear_value x6_0
      exact within_setBench (sub_of hL rfl) (by assumption)
    · assumption
  · assumption

theorem within_refreshStage (hL : sub 4096 L = true) (h : Within L s0 s) : Within L s0 (refreshStage s) := by
  delta refreshStage
  exact within_set (sub_of hL rfl) (by assumption)

theorem within_endFrame {a0 a1} (hL : sub 2535353303211334126135493791744 L = true) (h : Within L s0 s) : Within L
      s0 (endFrame a0 a1 s) := by
  delta endFrame
  extract_lets +onlyGivenNames -merge -useContext -underBinder x2_0 x2_1 x2_2 x2_3
  have hx2_0 : Within L s0 x2_0 := by
    exact within_dropOutputs (sub_of hL rfl) (by assumption)
  clear_value x2_0
  have hx2_1 : Within L s0 x2_1 := by
    exact within_dropFifo (sub_of hL rfl) (by assumption)
  clear_value x2_1
  have hx2_2 : Within L s0 x2_2 := by
    exact within_updFrame (sub_of hL rfl) (by assumption)
  clear_value x2_2
  have hx2_3 : Within L s0 x2_3 := by
    refine within_forEach (fun _ _ _ => ?_) ?_
    · extract_lets +onlyGivenNames -merge -useContext -underBinder x6_0
      refine ite_ind ?_ ?_
      · refine within_refreshBench (sub_of hL rfl) ?_
        exact within_setBench (sub_of hL rfl) (by assumption)
      · assumption
    · assumption
  clear_value x2_3
  refine within_refreshStrm (sub_of hL rfl) ?_
  refine within_refreshStage (sub_of hL rfl) ?_
  exact within_purge (sub_of hL rfl) (by assumption)

theorem within_strmSettled {a0 a1} (hL : sub 2535353331545533023353365139464 L = true) (h : Within L s0 s) : Within
      L s0 (strmSettled a0 a1 s) := by
  delta strmSettled
  extract_lets +onlyGivenNames -merge -useContext -underBinder x2_0 x2_1 x2_2 x2_3 x2_4 x2_5 x2_6 x2_7 x2_8 x2_9 x2_10 x2_11 x2_12 x2_13
  clear_value x2_1 x2_3 x2_4 x2_5
  have hx2_6 : Within L s0 x2_6 := by
    exact within_setStrm (sub_of hL rfl) (by assumption)
  clear_value x2_6
  have hx2_7 : Within L s0 x2_7 := by
    exact within_set (sub_of hL rfl) (by assumption)
  clear_value x2_7
  have hx2_8 : Within L s0 x2_8 := by
    refine ite_ind ?_ ?_
    · exact within_set (sub_of hL rfl) (by assumption)
    · assumption
  clear_value x2_8
  have hx2_9 : Within L s0 x2_9 := by
    exact within_set (sub_of hL rfl) (by assumption)
  clear_value x2_9
  have hx2_10 : Within L s0 x2_10 := by
    refine ite_ind ?_ ?_
    · refine within_set (sub_of hL rfl) ?_
      exact within_set (sub_of hL rfl) (by assumption)
    · assumption
  clear_value x2_10
  have hx2_11 : Within L s0 x2_11 := by
    refine ite_ind ?_ ?_
    · split
      · extract_lets +onlyGivenNames -merge -useContext -underBinder x8_0
        clear_value x8_0
        exact within_setAsm (sub_of hL rfl) (by assumption)
      · assumption
    · assumption
  clear_value x2_11
  have hx2_12 : Within L s0 x2_12 := by
    exact within_clearShed (sub_of hL rfl) (by assumption)
  clear_value x2_12
  have hx2_13 : Within L s0 x2_13 := by
    refine ite_ind ?_ ?_
    · assumption
    · refine within_forEach (fun _ _ _ => ?_) ?_
      · exact within_endFrame (sub_of hL rfl) (by assumption)
      · assumption
  clear_value x2_13
  exact within_raiseIf (sub_of hL rfl) (sub_of hL rfl) (by assumption)

theorem within_settleStrm {a0 a1 a2} (hL : sub 2535353331545533023353365139464 L = true) (h : Within L s0 s) :
      Within L s0 (settleStrm a0 a1 a2 s) := by
  delta settleStrm
  refine within_strmShown (sub_of hL rfl) ?_
  refine within_commitDone (sub_of hL rfl) (sub_of hL rfl) ?_
  exact within_strmSettled (sub_of hL rfl) (by assumption)

theorem within_evalStrm {a0 a1} (hL : sub 2535353331545533023353365139464 L = true) (h : Within L s0 s) : Within L
      s0 (evalStrm a0 a1 s) := by
  delta evalStrm
  extract_lets +onlyGivenNames -merge -useContext -underBinder x2_0
  have hx2_0 : Within L s0 x2_0 := by
    refine within_place (sub_of hL rfl) ?_
    exact within_applyGroup (sub_of hL rfl) (sub_of hL rfl) (sub_of hL rfl) (by assumption)
  clear_value x2_0
  refine ite_ind ?_ ?_
  · exact within_commitReject (sub_of hL rfl) (sub_of hL rfl) (by assumption)
  · refine ite_ind ?_ ?_
    · exact within_commitReject (sub_of hL rfl) (sub_of hL rfl) (by assumption)
    · exact within_settleStrm (sub_of hL rfl) (by assumption)

theorem within_strmBoundary {a0 a1 a2} (hL : sub 2535353331545533023353365139464 L = true) (h : Within L s0 s) :
      Within L s0 (strmBoundary a0 a1 a2 s) := by
  delta strmBoundary
  extract_lets +onlyGivenNames -merge -useContext -underBinder x2_0
  refine ite_ind ?_ ?_
  · exact within_evalStrm (sub_of hL rfl) (by assumption)
  · assumption

theorem within_lutmEvent {a0 a1} (hL : sub 2535301205178825848813005078528 L = true) (h : Within L s0 s) : Within L
      s0 (lutmEvent a0 a1 s) := by
  delta lutmEvent
  refine within_raise (sub_of hL rfl) (sub_of hL rfl) ?_
  exact within_set (sub_of hL rfl) (by assumption)

theorem within_loadGrid {a0} (hL : sub 2535301242957757711770166853632 L = true) (h : Within L s0 s) : Within L s0
      (loadGrid a0 s) := by
  delta loadGrid
  refine ite_ind ?_ ?_
  · assumption
  · extract_lets +onlyGivenNames -merge -useContext -underBinder x4_0
    clear_value x4_0
    split
    · exact within_setStrm (sub_of hL rfl) (by assumption)
    · refine ite_ind ?_ ?_
      · refine within_lutmEvent (sub_of hL rfl) ?_
        exact within_inc (sub_of hL rfl) (by assumption)
      · assumption

theorem within_choiceLoop {b t k} (hL : sub 2535353331545533586303318593544 L = true) (h : Within L s0 s) : Within
      L s0 (choiceLoop b t k s) := by
  induction k generalizing s with
  | zero => exact h
  | succ k ih =>
    unfold choiceLoop
    refine ite_ind h ?_
    split
    · exact h
    · rename_i n _
      extract_lets +onlyGivenNames -merge -useContext -underBinder first s1
      have h1 : Within L s0 s1 := within_strmBoundary (sub_of hL (by rfl)) h
      clear_value s1
      split
      · exact ih h1
      · extract_lets +onlyGivenNames -merge -useContext -underBinder s2
        exact within_refreshBench (sub_of hL (by rfl)) (within_setBench (sub_of hL (by rfl)) (ite_ind
      (within_loadGrid (sub_of hL (by rfl)) h1) h1))

theorem within_choose {a0 a1} (hL : sub 2535353331545533586303318593544 L = true) (h : Within L s0 s) : Within L s0
      (choose a0 a1 s) := by
  delta choose
  exact within_choiceLoop (sub_of hL rfl) (by assumption)

theorem within_kick {a0} (hL : sub 2535353331545533586303318593544 L = true) (h : Within L s0 s) : Within L s0
      (kick a0 s) := by
  delta kick
  refine within_forEach (fun _ _ _ => ?_) ?_
  · refine ite_ind ?_ ?_
    · exact within_choose (sub_of hL rfl) (by assumption)
    · assumption
  · assumption

theorem within_strmStops {a0 a1} (hL : sub 2535353331545533023353365139464 L = true) (h : Within L s0 s) : Within L
      s0 (strmStops a0 a1 s) := by
  delta strmStops
  extract_lets +onlyGivenNames -merge -useContext -underBinder x2_0
  refine ite_ind ?_ ?_
  · exact within_evalStrm (sub_of hL rfl) (by assumption)
  · assumption

theorem within_shutEvent {a0 a1} (hL : sub 2535301205178825356231795806208 L = true) (h : Within L s0 s) : Within L
      s0 (shutEvent a0 a1 s) := by
  delta shutEvent
  refine within_raise (sub_of hL rfl) (sub_of hL rfl) ?_
  exact within_set (sub_of hL rfl) (by assumption)

theorem within_dropFrame {a0 a1} (hL : sub 2535353303211334126135493857280 L = true) (h : Within L s0 s) : Within L
      s0 (dropFrame a0 a1 s) := by
  delta dropFrame
  refine within_shutEvent (sub_of hL rfl) ?_
  refine within_inc (sub_of hL rfl) ?_
  exact within_endFrame (sub_of hL rfl) (by assumption)

theorem within_doomFrame {a0 a1 a2} (hL : sub 2535353303211334126135493857280 L = true) (h : Within L s0 s) :
      Within L s0 (doomFrame a0 a1 a2 s) := by
  delta doomFrame
  refine ite_ind ?_ ?_
  · exact within_updFrame (sub_of hL rfl) (by assumption)
  · refine ite_ind ?_ ?_
    · exact within_dropFrame (sub_of hL rfl) (by assumption)
    · exact within_endFrame (sub_of hL rfl) (by assumption)

theorem within_deadlineExpired {a0 a1} (hL : sub 2535353331545533586303318593544 L = true) (h : Within L s0 s) :
      Within L s0 (deadlineExpired a0 a1 s) := by
  delta deadlineExpired
  split
  · assumption
  · refine ite_ind ?_ ?_
    · assumption
    · refine within_kick (sub_of hL rfl) ?_
      refine within_strmStops (sub_of hL rfl) ?_
      exact within_doomFrame (sub_of hL rfl) (by assumption)

theorem within_evtEvent {a0 a1 a2} (hL : sub 2535301205178825286137929531408 L = true) (h : Within L s0 s) : Within
      L s0 (evtEvent a0 a1 a2 s) := by
  delta evtEvent
  refine within_raise (sub_of hL rfl) (sub_of hL rfl) ?_
  refine within_set (sub_of hL rfl) ?_
  exact within_set (sub_of hL rfl) (by assumption)

theorem within_overflow {a0 a1 a2} (hL : sub 2535353303211334126135493857280 L = true) (h : Within L s0 s) : Within
      L s0 (overflow a0 a1 a2 s) := by
  delta overflow
  extract_lets +onlyGivenNames -merge -useContext -underBinder x2_0
  have hx2_0 : Within L s0 x2_0 := by
    exact within_inc (sub_of hL rfl) (by assumption)
  clear_value x2_0
  refine ite_ind ?_ ?_
  · extract_lets +onlyGivenNames -merge -useContext -underBinder x4_0
    have hx4_0 : Within L s0 x4_0 := by
      refine within_flagFrame (sub_of hL rfl) ?_
      exact within_shutEvent (sub_of hL rfl) (by assumption)
    clear_value x4_0
    exact within_updFrame (sub_of hL rfl) (by assumption)
  · refine within_doomFrame (sub_of hL rfl) ?_
    exact within_shutEvent (sub_of hL rfl) (by assumption)

theorem within_queueRows {n f k} (hL : sub 2535353303211334126135493857280 L = true) (h : Within L s0 s) : Within L
      s0 (queueRows n f k s) := by
  induction k generalizing s with
  | zero => exact h
  | succ k ih =>
    unfold queueRows
    split
    · exact h
    · extract_lets +onlyGivenNames -merge -useContext -underBinder b
      exact ite_ind h (ite_ind (within_overflow (sub_of hL (by rfl)) h) (ih (within_updFrame (sub_of hL (by rfl))
      (within_setBench (sub_of hL (by rfl)) h))))

theorem within_rowsChanged {a0 a1 a2} (hL : sub 2535353331545533586303318593544 L = true) (h : Within L s0 s) :
      Within L s0 (rowsChanged a0 a1 a2 s) := by
  delta rowsChanged
  refine ite_ind ?_ ?_
  · refine within_refreshStrm (sub_of hL rfl) ?_
    exact within_queueRows (sub_of hL rfl) (by assumption)
  · refine within_refreshStrm (sub_of hL rfl) ?_
    refine within_kick (sub_of hL rfl) ?_
    refine within_refreshStage (sub_of hL rfl) ?_
    exact within_refreshArrivals (sub_of hL rfl) (by assumption)

theorem within_exposureEnds {a0 a1 a2 a3} (hL : sub 2535353331545533586303318593544 L = true) (h : Within L s0 s) :
      Within L s0 (exposureEnds a0 a1 a2 a3 s) := by
  delta exposureEnds
  refine within_rowsChanged (sub_of hL rfl) ?_
  exact within_updFrame (sub_of hL rfl) (by assumption)

theorem within_reserveSegs {a0 a1} (hL : sub 2535303623915910482463568297984 L = true) (h : Within L s0 s) : Within
      L s0 (reserveSegs a0 a1 s) := by
  delta reserveSegs
  extract_lets +onlyGivenNames -merge -useContext -underBinder x2_0 x2_1
  clear_value x2_0 x2_1
  refine within_forEach (fun _ _ _ => ?_) ?_
  · extract_lets +onlyGivenNames -merge -useContext -underBinder x4_0
    clear_value x4_0
    split
    · refine ite_ind ?_ ?_
      · assumption
      · exact within_segReserve (sub_of hL rfl) (by assumption)
  · assumption

theorem within_rowArrives {a0 a1 a2 a3 a4 a5 a6 a7} (hL : sub 2535358167248812044820017549320 L = true) (h : Within
      L s0 s) : Within L s0 (rowArrives a0 a1 a2 a3 a4 a5 a6 a7 s) := by
  delta rowArrives
  split
  · assumption
  · refine ite_ind ?_ ?_
    · assumption
    · extract_lets +onlyGivenNames -merge -useContext -underBinder x6_0 x6_1
      refine ite_ind ?_ ?_
      · refine within_rowsChanged (sub_of hL rfl) ?_
        exact within_updFrame (sub_of hL rfl) (by assumption)
      · extract_lets +onlyGivenNames -merge -useContext -underBinder x8_0
        clear_value x8_0
        refine ite_ind ?_ ?_
        · refine within_kick (sub_of hL rfl) ?_
          exact within_overflow (sub_of hL rfl) (by assumption)
        · extract_lets +onlyGivenNames -merge -useContext -underBinder x10_0 x10_1 x10_2 x10_3
          clear_value x10_0 x10_1
          have hx10_2 : Within L s0 x10_2 := by
            exact within_setStrm (sub_of hL rfl) (by assumption)
          clear_value x10_2 x10_3
          refine ite_ind ?_ ?_
          · extract_lets +onlyGivenNames -merge -useContext -underBinder x12_0 x12_1
            clear_value x12_0 x12_1
            split
            · rename_i v12_0 v12_1 v12_2 q12_0
              have hv12_2 : Within L s0 v12_2 := within3_eq q12_0 (by
                refine ite_ind ?_ ?_
                · exact within_stageEncode (sub_of hL rfl) (by assumption)
                · refine within3_mk ?_
                  assumption)
              extract_lets +onlyGivenNames -merge -useContext -underBinder x14_0
              have hx14_0 : Within L s0 x14_0 := by
                refine within_dramWrite (sub_of hL rfl) ?_
                refine within_upd_stageIdx (sub_of hL rfl) ?_
                assumption
              clear_value x14_0
              refine within_rowsChanged (sub_of hL rfl) ?_
              exact within_updFrame (sub_of hL rfl) (by assumption)
          · refine within_rowsChanged (sub_of hL rfl) ?_
            exact within_updFrame (sub_of hL rfl) (by assumption)

theorem within_rowLost {a0 a1 a2 a3 a4} (hL : sub 2535353331545533586303318593544 L = true) (h : Within L s0 s) :
      Within L s0 (rowLost a0 a1 a2 a3 a4 s) := by
  delta rowLost
  refine within_rowsChanged (sub_of hL rfl) ?_
  exact within_updFrame (sub_of hL rfl) (by assumption)

theorem within_tapTake {a0 a1 a2} (hL : sub 2535339928584002831627192434704 L = true) (h : Within L s0 s) : Within
      L s0 (tapTake a0 a1 a2 s) := by
  delta tapTake
  extract_lets +onlyGivenNames -merge -useContext -underBinder x2_0 x2_1 x2_2 x2_3
  clear_value x2_0 x2_1 x2_2
  have hx2_3 : ∀ y0 s, Within L s0 s → Within L s0 (x2_3 y0 s) := by
    intro y0 s h
    exact within_updFrame (sub_of hL rfl) (by assumption)
  refine ite_ind ?_ ?_
  · refine hx2_3 _ _ ?_
    assumption
  · split
    · rename_i v4_0 q4_0
      have hv4_0 : Within L s0 v4_0 := within2_eq q4_0 (by
        exact within_produceBuf (sub_of hL rfl) (by assumption))
      refine within_evtEvent (sub_of hL rfl) ?_
      exact within_inc (sub_of (a := partW .strm) hL rfl) (by assumption)
    · rename_i v4_0 v4_1 q4_0
      have hv4_1 : Within L s0 v4_1 := within2_eq q4_0 (by
        exact within_produceBuf (sub_of hL rfl) (by assumption))
      refine ite_ind ?_ ?_
      · refine hx2_3 _ _ ?_
        assumption
      · refine within_evtEvent (sub_of hL rfl) ?_
        refine within_inc (sub_of (a := partW .strm) hL rfl) ?_
        exact within_returnBuf (sub_of hL rfl) (by assumption)

theorem within_statClaim {a0 a1} (hL : sub 2535301242957757149095091306512 L = true) (h : Within L s0 s) : Within L
      s0 (statClaim a0 a1 s) := by
  delta statClaim
  refine ite_ind ?_ ?_
  · assumption
  · extract_lets +onlyGivenNames -merge -useContext -underBinder x4_0 x4_1 x4_2
    clear_value x4_0 x4_1 x4_2
    refine ite_ind ?_ ?_
    · refine within_evtEvent (sub_of hL rfl) ?_
      exact within_inc (sub_of hL rfl) (by assumption)
    · exact within_updFrame (sub_of hL rfl) (by assumption)

theorem within_startFrame {a0 a1 a2} (hL : sub 2535339928584002972364680798224 L = true) (h : Within L s0 s) :
      Within L s0 (startFrame a0 a1 a2 s) := by
  delta startFrame
  extract_lets +onlyGivenNames -merge -useContext -underBinder x2_0 x2_1 x2_2 x2_3 x2_4 x2_5 x2_6 x2_7 x2_8 x2_9
  clear_value x2_0 x2_1 x2_2 x2_3
  have hx2_4 : Within L s0 x2_4 := by
    exact within_updCtx (sub_of hL rfl) (by assumption)
  clear_value x2_4
  have hx2_5 : Within L s0 x2_5 := by
    exact within_set (sub_of hL rfl) (by assumption)
  clear_value x2_5
  have hx2_6 : Within L s0 x2_6 := by
    refine ite_ind ?_ ?_
    · refine within_benchEvent (sub_of hL rfl) ?_
      exact within_inc (sub_of hL rfl) (by assumption)
    · assumption
  clear_value x2_6
  have hx2_7 : Within L s0 x2_7 := by
    exact within_set (sub_of hL rfl) (by assumption)
  clear_value x2_7
  have hx2_8 : Within L s0 x2_8 := by
    exact within_updFrame (sub_of hL rfl) (by assumption)
  clear_value x2_8
  have hx2_9 : Within L s0 x2_9 := by
    refine within_forEach (fun _ _ _ => ?_) ?_
    · exact within_tapTake (sub_of hL rfl) (by assumption)
    · assumption
  clear_value x2_9
  exact within_statClaim (sub_of hL rfl) (by assumption)

theorem within_startStripe {a0 a1} (hL : sub 2535353331545533586578196639768 L = true) (h : Within L s0 s) : Within
      L s0 (startStripe a0 a1 s) := by
  delta startStripe
  split
  · assumption
  · split
    · refine within_refreshBench (sub_of hL rfl) ?_
      exact within_setBench (sub_of hL rfl) (by assumption)
    · extract_lets +onlyGivenNames -merge -useContext -underBinder x6_0 x6_1 x6_2 x6_3 x6_4 x6_5
      clear_value x6_0 x6_1
      have hx6_2 : Within L s0 x6_2 := by
        exact within_setBench (sub_of hL rfl) (by assumption)
      clear_value x6_2
      have hx6_3 : Within L s0 x6_3 := by
        refine ite_ind ?_ ?_
        · exact within_startFrame (sub_of hL rfl) (by assumption)
        · assumption
      clear_value x6_3
      have hx6_4 : Within L s0 x6_4 := by
        unfold x6_4
        split
        · exact within_reserveSegs (sub_of hL rfl) (by assumption)
        · assumption
      clear_value x6_4
      have hx6_5 : Within L s0 x6_5 := by
        refine within_refreshStrm (sub_of hL rfl) ?_
        exact within_refreshBench (sub_of hL rfl) (by assumption)
      clear_value x6_5
      refine ite_ind ?_ ?_
      · exact within_choose (sub_of hL rfl) (by assumption)
      · assumption

theorem within_swapDone {a0 a1} (hL : sub 2535353331545533586578196639768 L = true) (h : Within L s0 s) : Within L
      s0 (swapDone a0 a1 s) := by
  delta swapDone
  extract_lets +onlyGivenNames -merge -useContext -underBinder x2_0
  clear_value x2_0
  split
  · assumption
  · refine ite_ind ?_ ?_
    · assumption
    · refine ite_ind ?_ ?_
      · exact within_setBench (sub_of hL rfl) (by assumption)
      · refine within_startStripe (sub_of hL rfl) ?_
        exact within_inc (sub_of hL rfl) (by assumption)

end Sys2Proof.Machine
end

