-- ==== Sys2Proof/Laws/WithinBench.lean ====
section
/-! SUPPORT. Which parts of a state each operation of Bench.lean may write. -/

namespace Sys2Proof.Machine

variable {L : Nat} {s0 s : State}

theorem within_readBack {a0 a1 a2 a3 a4} (hL : sub 2535301242957759541361810481152 L = true) (h : Within L s0 s) :
      Within L s0 (readBack a0 a1 a2 a3 a4 s) := by
  delta readBack
  split
  · assumption
  · extract_lets +onlyGivenNames -merge -useContext -underBinder x4_0 x4_1
    clear_value x4_0 x4_1
    refine ite_ind ?_ ?_
    · assumption
    · extract_lets +onlyGivenNames -merge -useContext -underBinder x6_0 x6_1 x6_2 x6_3
      clear_value x6_0 x6_1 x6_2 x6_3
      split
      · rename_i v6_0 v6_1 v6_2 q6_0
        have hv6_2 : Within L s0 v6_2 := within3_eq q6_0 (by
          exact within_dramRead (sub_of hL rfl) (by assumption))
        split
        · rename_i v8_0 v8_1 q8_0
          have hv8_1 : Within L s0 v8_1 := within2_eq q8_0 (by
            refine ite_ind ?_ ?_
            · refine within2_mk ?_
              assumption
            · refine ite_ind ?_ ?_
              · refine within2_mk ?_
                assumption
              · exact within_stageDecode (sub_of hL rfl) (by assumption))
          extract_lets +onlyGivenNames -merge -useContext -underBinder x10_0 x10_1
          have hx10_0 : Within L s0 x10_0 := by
            unfold x10_0
            split
            · assumption
            · refine within_benchEvent (sub_of hL rfl) ?_
              exact within_flagFrame (sub_of hL rfl) (by assumption)
          clear_value x10_0 x10_1
          exact within_updFrame (sub_of hL rfl) (by assumption)

theorem within_takeRow {a0 a1 a2 a3 a4} (hL : sub 2535301242957759541361810481152 L = true) (h : Within L s0 s) :
      Within2 L s0 (takeRow a0 a1 a2 a3 a4 s) := by
  delta takeRow
  extract_lets +onlyGivenNames -merge -useContext -underBinder x2_0
  have hx2_0 : Within L s0 x2_0 := by
    exact within_readBack (sub_of hL rfl) (by assumption)
  clear_value x2_0
  split
  · refine within2_mk ?_
    assumption
  · refine ite_ind ?_ ?_
    · refine within2_mk ?_
      assumption
    · extract_lets +onlyGivenNames -merge -useContext -underBinder x6_0 x6_1
      clear_value x6_0
      have hx6_1 : Within L s0 x6_1 := by
        exact within_updFrame (sub_of hL rfl) (by assumption)
      clear_value x6_1
      refine within2_mk ?_
      exact within_updCtx (sub_of hL rfl) (by assumption)

theorem within_takeRows {a0 a1 a2 a3} (hL : sub 2535301242957759541361810481152 L = true) (h : Within L s0 s) :
      Within2 L s0 (takeRows a0 a1 a2 a3 s) := by
  delta takeRows
  refine foldl_ind (fun _ _ _ => ?_) ?_
  · split
    · rename_i v4_0 v4_1 q4_0
      have hv4_1 : Within L s0 v4_1 := within2_eq q4_0 (by
        refine within_takeRow (sub_of hL rfl) ?_
        show Within2 L s0 _
        assumption)
      refine within2_mk ?_
      assumption
  · refine within2_mk ?_
    assumption

theorem within_noteMissing {a0 a1 a2 a3} (hL : sub 2535301242957757289557701763072 L = true) (h : Within L s0 s) :
      Within L s0 (noteMissing a0 a1 a2 a3 s) := by
  delta noteMissing
  extract_lets +onlyGivenNames -merge -useContext -underBinder x2_0
  clear_value x2_0
  refine ite_ind ?_ ?_
  · assumption
  · extract_lets +onlyGivenNames -merge -useContext -underBinder x4_0 x4_1 x4_2
    have hx4_1 : Within L s0 x4_1 := by
      refine within_flagFrame (sub_of hL rfl) ?_
      exact within_updCtx (sub_of hL rfl) (by assumption)
    clear_value x4_1
    have hx4_2 : Within L s0 x4_2 := by
      exact within_set (sub_of hL rfl) (by assumption)
    clear_value x4_2
    refine ite_ind ?_ ?_
    · refine within_benchEvent (sub_of hL rfl) ?_
      exact within_inc (sub_of hL rfl) (by assumption)
    · assumption

theorem within_tapDeliver {a0 a1 a2 a3 a4 a5 a6} (hL : sub 2535312086396650036667605057544 L = true) (h : Within L
      s0 s) : Within L s0 (tapDeliver a0 a1 a2 a3 a4 a5 a6 s) := by
  delta tapDeliver
  split
  · extract_lets +onlyGivenNames -merge -useContext -underBinder x4_0 x4_1
    clear_value x4_0
    have hx4_1 : Within L s0 x4_1 := by
      exact within_dramWrite (sub_of hL rfl) (by assumption)
    clear_value x4_1
    split
    · exact within_dramWrite (sub_of hL rfl) (by assumption)
    · assumption
  · exact within_directRow (sub_of hL rfl) (by assumption)
  · refine within_encRow (sub_of hL rfl) ?_
    refine ite_ind ?_ ?_
    · exact within_pictureStart (sub_of hL rfl) (by assumption)
    · assumption
  · assumption

theorem within_tapFinish {a0 a1 a2} (hL : sub 37778931862957161775104 L = true) (h : Within L s0 s) : Within L s0
      (tapFinish a0 a1 a2 s) := by
  delta tapFinish
  extract_lets +onlyGivenNames -merge -useContext -underBinder x2_0
  have hx2_0 : Within L s0 x2_0 := by
    exact within_updFrame (sub_of hL rfl) (by assumption)
  clear_value x2_0
  refine ite_ind ?_ ?_
  · assumption
  · exact within_inc (sub_of (a := partW .strm) hL rfl) (by assumption)

theorem within_codeTaps {a0 a1 a2 a3 a4 a5} (hL : sub 2535314544388406622117752668168 L = true) (h : Within L s0 s)
      : Within L s0 (codeTaps a0 a1 a2 a3 a4 a5 s) := by
  delta codeTaps
  split
  · assumption
  · refine within_forEach (fun _ _ _ => ?_) ?_
    · extract_lets +onlyGivenNames -merge -useContext -underBinder x6_0
      clear_value x6_0
      refine ite_ind ?_ ?_
      · assumption
      · extract_lets +onlyGivenNames -merge -useContext -underBinder x8_0
        clear_value x8_0
        split
        · rename_i v8_0 v8_1 q8_0
          have hv8_1 : Within L s0 v8_1 := within2_eq q8_0 (by
            split
            · refine within2_mk ?_
              assumption
            · refine within2_mk ?_
              exact within_fresh (sub_of hL rfl) (by assumption))
          extract_lets +onlyGivenNames -merge -useContext -underBinder x10_0
          have hx10_0 : Within L s0 x10_0 := by
            refine ite_ind ?_ ?_
            · exact within_segRow (sub_of hL rfl) (by assumption)
            · exact within_tapDeliver (sub_of hL rfl) (by assumption)
          clear_value x10_0
          refine ite_ind ?_ ?_
          · exact within_tapFinish (sub_of hL rfl) (by assumption)
          · assumption
    · assumption

theorem within_yuvIn {a0 a1 a2 a3} (hL : sub 37778931862957161709568 L = true) (h : Within L s0 s) : Within2 L s0
      (yuvIn a0 a1 a2 a3 s) := by
  delta yuvIn
  extract_lets +onlyGivenNames -merge -useContext -underBinder x2_0 x2_1
  clear_value x2_0
  have hx2_1 : Within L s0 x2_1 := by
    exact within_updCtx (sub_of hL rfl) (by assumption)
  clear_value x2_1
  refine within2_mk ?_
  assumption

theorem within_rawIn {b n p r a e} (hL : sub 2535301242957757289557701697536 L = true) (h : Within2 L s0 a) :
      Within2 L s0 (rawIn b n p r a e) := by
  delta rawIn
  split
  · exact h
  · extract_lets +onlyGivenNames -merge -useContext -underBinder up
    split
    extract_lets +onlyGivenNames -merge -useContext -underBinder s1 s2
    have h1 : Within L s0 s1 := within_updCtx (sub_of hL (by rfl)) h
    exact within2_mk (within_raiseIf (sub_of hL (by rfl)) (sub_of hL (by rfl)) (ite_ind (within_set (sub_of hL (by
      rfl)) h1) h1))

theorem within_rawRow {a0 a1 a2 a3 a4} (hL : sub 2535301242957757289557701697536 L = true) (h : Within L s0 s) :
      Within2 L s0 (rawRow a0 a1 a2 a3 a4 s) := by
  delta rawRow
  extract_lets +onlyGivenNames -merge -useContext -underBinder p
  split
  · rename_i corr s' q
    have hs : Within L s0 s' := within2_eq q (foldl_ind (fun _ _ k => within_rawIn hL k) (within2_mk h))
    extract_lets +onlyGivenNames -merge -useContext -underBinder f s1 s2
    have h1 : Within L s0 s1 := within_updCtx (sub_of hL (by rfl)) hs
    have h2 : Within L s0 s2 := within_forEach (fun _ _ k => within_updCtx (sub_of hL (by rfl)) k) h1
    exact within2_mk h2

theorem within_tnrRow {a0 a1 a2 a3} (hL : sub 2535301206064269564355358523392 L = true) (h : Within L s0 s) :
      Within2 L s0 (tnrRow a0 a1 a2 a3 s) := by
  delta tnrRow
  refine ite_ind ?_ ?_
  · refine within2_mk ?_
    assumption
  · extract_lets +onlyGivenNames -merge -useContext -underBinder x4_0 x4_1
    clear_value x4_0 x4_1
    split
    · extract_lets +onlyGivenNames -merge -useContext -underBinder x6_0 x6_1 x6_2 x6_3
      clear_value x6_0 x6_1
      have hx6_2 : Within L s0 x6_2 := by
        refine ite_ind ?_ ?_
        · exact within_lutmEvent (sub_of hL rfl) (by assumption)
        · assumption
      clear_value x6_2 x6_3
      split
      · split
        · extract_lets +onlyGivenNames -merge -useContext -underBinder x10_0
          have hx10_0 : Within L s0 x10_0 := by
            exact within_dramWrite (sub_of hL rfl) (by assumption)
          clear_value x10_0
          refine within2_mk ?_
          exact within_dramWrite (sub_of hL rfl) (by assumption)

theorem within_refreshPins (hL : sub 16 L = true) (h : Within L s0 s) : Within L s0 (refreshPins s) := by
  delta refreshPins
  exact within_set (sub_of hL rfl) (by assumption)

theorem within_evalRule {a0 a1} (hL : sub 2535301242957757149095091306512 L = true) (h : Within L s0 s) : Within L
      s0 (evalRule a0 a1 s) := by
  delta evalRule
  extract_lets +onlyGivenNames -merge -useContext -underBinder x2_0
  clear_value x2_0
  split
  · extract_lets +onlyGivenNames -merge -useContext -underBinder x4_0 x4_1 x4_2 x4_3 x4_4 x4_5 x4_6 x4_7 x4_8 x4_9
    clear_value x4_1 x4_2 x4_3 x4_4 x4_5
    have hx4_6 : Within L s0 x4_6 := by
      exact within_setStrm (sub_of hL rfl) (by assumption)
    clear_value x4_6
    have hx4_7 : Within L s0 x4_7 := by
      exact within_set (sub_of hL rfl) (by assumption)
    clear_value x4_7 x4_8
    have hx4_9 : Within L s0 x4_9 := by
      refine ite_ind ?_ ?_
      · exact within_set (sub_of hL rfl) (by assumption)
      · assumption
    clear_value x4_9
    refine within_refreshPins (sub_of hL rfl) ?_
    refine ite_ind ?_ ?_
    · exact within_evtEvent (sub_of hL rfl) (by assumption)
    · assumption

theorem within_rulesAt {a0 a1 a2} (hL : sub 2535301242957757149095091306512 L = true) (h : Within L s0 s) : Within
      L s0 (rulesAt a0 a1 a2 s) := by
  delta rulesAt
  refine ite_ind ?_ ?_
  · assumption
  · refine within_forEach (fun _ _ _ => ?_) ?_
    · exact within_evalRule (sub_of hL rfl) (by assumption)
    · assumption

theorem within_updTap {a0 a1 a2 a3} (hL : sub 37778931862957161709568 L = true) (h : Within L s0 s) : Within L s0
      (updTap a0 a1 a2 a3 s) := by
  delta updTap
  exact within_updFrame (sub_of hL rfl) (by assumption)

theorem within_tapEmit {a0 a1 a2 a3 a4} (hL : sub 2535312124175581899624766832648 L = true) (h : Within L s0 s) :
      Within L s0 (tapEmit a0 a1 a2 a3 a4 s) := by
  delta tapEmit
  split
  · assumption
  · extract_lets +onlyGivenNames -merge -useContext -underBinder x4_0 x4_1 x4_2
    clear_value x4_0 x4_1 x4_2
    split
    · extract_lets +onlyGivenNames -merge -useContext -underBinder x6_0 x6_1 x6_2
      have hx6_0 : Within L s0 x6_0 := by
        exact within_updCtx (sub_of hL rfl) (by assumption)
      clear_value x6_0
      have hx6_1 : Within L s0 x6_1 := by
        exact within_tapDeliver (sub_of hL rfl) (by assumption)
      clear_value x6_1
      have hx6_2 : Within L s0 x6_2 := by
        exact within_updTap (sub_of hL rfl) (by assumption)
      clear_value x6_2
      refine ite_ind ?_ ?_
      · exact within_tapFinish (sub_of hL rfl) (by assumption)
      · assumption

theorem within_tapRow {a0 a1 a2 a3 a4 a5} (hL : sub 2535312124175581899624766832648 L = true) (h : Within L s0 s) :
      Within L s0 (tapRow a0 a1 a2 a3 a4 a5 s) := by
  delta tapRow
  split
  · assumption
  · extract_lets +onlyGivenNames -merge -useContext -underBinder x4_0
    clear_value x4_0
    refine ite_ind ?_ ?_
    · assumption
    · extract_lets +onlyGivenNames -merge -useContext -underBinder x6_0 x6_1 x6_2 x6_3 x6_4
      clear_value x6_0 x6_1
      have hx6_3 : Within L s0 x6_3 := by
        exact within_updCtx (sub_of hL rfl) (by assumption)
      clear_value x6_3 x6_4
      refine within_forEach (fun _ _ _ => ?_) ?_
      · exact within_tapEmit (sub_of hL rfl) (by assumption)
      · assumption

theorem within_pixelRow {a0 a1 a2 a3 a4} (hL : sub 2535312124175582462849598193688 L = true) (h : Within L s0 s) :
      Within L s0 (pixelRow a0 a1 a2 a3 a4 s) := by
  delta pixelRow
  split
  · assumption
  · extract_lets +onlyGivenNames -merge -useContext -underBinder x4_0 x4_1 x4_2
    clear_value x4_0 x4_1
    have hx4_2 : Within L s0 x4_2 := by
      exact within_updCtx (sub_of hL rfl) (by assumption)
    clear_value x4_2
    split
    · rename_i v4_0 v4_1 q4_0
      have hv4_1 : Within L s0 v4_1 := within2_eq q4_0 (by
        exact within_tnrRow (sub_of hL rfl) (by assumption))
      extract_lets +onlyGivenNames -merge -useContext -underBinder x6_0
      have hx6_0 : Within L s0 x6_0 := by
        exact within_rulesAt (sub_of hL rfl) (by assumption)
      clear_value x6_0
      refine within_forEach (fun _ _ _ => ?_) ?_
      · exact within_tapRow (sub_of hL rfl) (by assumption)
      · assumption

theorem within_processRow {a0 a1 a2 a3 a4 a5} (hL : sub 2535314544388407326080072392728 L = true) (h : Within L s0
      s) : Within L s0 (processRow a0 a1 a2 a3 a4 a5 s) := by
  delta processRow
  split
  · rename_i v2_0 v2_1 q2_0
    have hv2_1 : Within L s0 v2_1 := within2_eq q2_0 (by
      exact within_takeRows (sub_of hL rfl) (by assumption))
    extract_lets +onlyGivenNames -merge -useContext -underBinder x4_0 x4_1
    have hx4_0 : Within L s0 x4_0 := by
      exact within_noteMissing (sub_of hL rfl) (by assumption)
    clear_value x4_0
    have hx4_1 : Within L s0 x4_1 := by
      exact within_codeTaps (sub_of hL rfl) (by assumption)
    clear_value x4_1
    split
    · assumption
    · split
      · rename_i v6_0 v6_1 q6_0
        have hv6_1 : Within L s0 v6_1 := within2_eq q6_0 (by
          refine ite_ind ?_ ?_
          · exact within_yuvIn (sub_of hL rfl) (by assumption)
          · exact within_rawRow (sub_of hL rfl) (by assumption))
        extract_lets +onlyGivenNames -merge -useContext -underBinder x8_0
        have hx8_0 : Within L s0 x8_0 := by
          exact within_updCtx (sub_of hL rfl) (by assumption)
        clear_value x8_0
        refine within_forEach (fun _ _ _ => ?_) ?_
        · exact within_pixelRow (sub_of hL rfl) (by assumption)
        · assumption

theorem within_frameReports {a0} (hL : sub 2535301205178825356231795871744 L = true) (h : Within L s0 s) : Within L
      s0 (frameReports a0 s) := by
  delta frameReports
  extract_lets +onlyGivenNames -merge -useContext -underBinder x2_0 x2_1 x2_2 x2_3 x2_4
  clear_value x2_0
  have hx2_1 : Within L s0 x2_1 := by
    exact within_setSat (sub_of hL rfl) (by assumption)
  clear_value x2_1
  have hx2_2 : Within L s0 x2_2 := by
    exact within_setSat (sub_of hL rfl) (by assumption)
  clear_value x2_2
  have hx2_3 : Within L s0 x2_3 := by
    exact within_setSat (sub_of hL rfl) (by assumption)
  clear_value x2_3
  have hx2_4 : Within L s0 x2_4 := by
    exact within_set (sub_of hL rfl) (by assumption)
  clear_value x2_4
  refine ite_ind ?_ ?_
  · assumption
  · extract_lets +onlyGivenNames -merge -useContext -underBinder x4_0
    have hx4_0 : Within L s0 x4_0 := by
      exact within_setSat (sub_of hL rfl) (by assumption)
    clear_value x4_0
    refine ite_ind ?_ ?_
    · exact within_shutEvent (sub_of hL rfl) (by assumption)
    · assumption

theorem within_framePartial {a0 a1} (hL : sub 2535353227653469063215031058432 L = true) (h : Within L s0 s) :
      Within L s0 (framePartial a0 a1 s) := by
  delta framePartial
  split
  · assumption
  · extract_lets +onlyGivenNames -merge -useContext -underBinder x4_0 x4_1 x4_2
    have hx4_0 : Within L s0 x4_0 := by
      refine within_forEach (fun _ _ _ => ?_) ?_
      · refine ite_ind ?_ ?_
        · exact within_tapFinish (sub_of hL rfl) (by assumption)
        · exact within_dropTap (sub_of hL rfl) (by assumption)
      · assumption
    clear_value x4_0 x4_1
    have hx4_2 : Within L s0 x4_2 := by
      refine within_forEach (fun _ _ _ => ?_) ?_
      · exact within_returnBuf (sub_of hL rfl) (by assumption)
      · assumption
    clear_value x4_2
    exact within_updFrame (sub_of hL rfl) (by assumption)

theorem within_frameDone {a0 a1} (hL : sub 37778931862957161775104 L = true) (h : Within L s0 s) : Within L s0
      (frameDone a0 a1 s) := by
  delta frameDone
  extract_lets +onlyGivenNames -merge -useContext -underBinder x2_0 x2_1 x2_2 x2_3 x2_4 x2_5 x2_6 x2_7 x2_8
  clear_value x2_0 x2_1 x2_2
  have hx2_3 : Within L s0 x2_3 := by
    refine ite_ind ?_ ?_
    · exact within_set (sub_of hL rfl) (by assumption)
    · assumption
  clear_value x2_3 x2_4
  have hx2_5 : Within L s0 x2_5 := by
    exact within_updFrame (sub_of hL rfl) (by assumption)
  clear_value x2_5 x2_6 x2_7
  have hx2_8 : Within L s0 x2_8 := by
    refine ite_ind ?_ ?_
    · refine within_updFrame (sub_of hL rfl) ?_
      exact within_setStrm (sub_of hL rfl) (by assumption)
    · assumption
  clear_value x2_8
  refine ite_ind ?_ ?_
  · refine within_set (sub_of hL rfl) ?_
    exact within_setStrm (sub_of hL rfl) (by assumption)
  · assumption

theorem within_finishFrame {a0 a1 a2} (hL : sub 2535353331545533023353365139464 L = true) (h : Within L s0 s) :
      Within L s0 (finishFrame a0 a1 a2 s) := by
  delta finishFrame
  extract_lets +onlyGivenNames -merge -useContext -underBinder x2_0 x2_1 x2_2 x2_3
  clear_value x2_0
  have hx2_1 : Within L s0 x2_1 := by
    exact within_frameReports (sub_of hL rfl) (by assumption)
  clear_value x2_1
  have hx2_2 : Within L s0 x2_2 := by
    refine ite_ind ?_ ?_
    · exact within_framePartial (sub_of hL rfl) (by assumption)
    · exact within_frameDone (sub_of hL rfl) (by assumption)
  clear_value x2_2
  have hx2_3 : Within L s0 x2_3 := by
    exact within_updFrame (sub_of hL rfl) (by assumption)
  clear_value x2_3
  refine within_refreshStage (sub_of hL rfl) ?_
  refine within_purge (sub_of hL rfl) ?_
  exact within_strmStops (sub_of hL rfl) (by assumption)

theorem within_class0Done {a0 a1 a2 a3 a4 a5} (hL : sub 2535353333906716828013019246616 L = true) (h : Within L s0
      s) : Within L s0 (class0Done a0 a1 a2 a3 a4 a5 s) := by
  delta class0Done
  extract_lets +onlyGivenNames -merge -useContext -underBinder x2_0 x2_1 x2_2 x2_3
  have hx2_0 : Within L s0 x2_0 := by
    exact within_processRow (sub_of hL rfl) (by assumption)
  clear_value x2_0 x2_1
  have hx2_2 : Within L s0 x2_2 := by
    exact within_setBench (sub_of hL rfl) (by assumption)
  clear_value x2_2
  have hx2_3 : Within L s0 x2_3 := by
    unfold x2_3
    split
    · assumption
    · extract_lets +onlyGivenNames -merge -useContext -underBinder x6_0 x6_1
      clear_value x6_0
      have hx6_1 : Within L s0 x6_1 := by
        refine ite_ind ?_ ?_
        · exact within_inc (sub_of hL rfl) (by assumption)
        · assumption
      clear_value x6_1
      refine ite_ind ?_ ?_
      · exact within_finishFrame (sub_of hL rfl) (by assumption)
      · refine ite_ind ?_ ?_
        · refine within_strmStops (sub_of hL rfl) ?_
          exact within_endFrame (sub_of hL rfl) (by assumption)
        · assumption
  clear_value x2_3
  refine within_refreshStrm (sub_of hL rfl) ?_
  exact within_refreshBench (sub_of hL rfl) (by assumption)

theorem within_benchRowDone {a0 a1 a2} (hL : sub 2535353333906716828013019246616 L = true) (h : Within L s0 s) :
      Within L s0 (benchRowDone a0 a1 a2 s) := by
  delta benchRowDone
  extract_lets +onlyGivenNames -merge -useContext -underBinder x2_0
  clear_value x2_0
  split
  · exact within_class0Done (sub_of hL rfl) (by assumption)
  · split
    · assumption
    · split
      · assumption
      · refine ite_ind ?_ ?_
        · assumption
        · extract_lets +onlyGivenNames -merge -useContext -underBinder x10_0 x10_1 x10_2 x10_3
          clear_value x10_0
          have hx10_1 : Within L s0 x10_1 := by
            exact within_processRow (sub_of hL rfl) (by assumption)
          clear_value x10_1 x10_2
          have hx10_3 : Within L s0 x10_3 := by
            exact within_setBench (sub_of hL rfl) (by assumption)
          clear_value x10_3
          refine within_refreshStage (sub_of hL rfl) ?_
          refine ite_ind ?_ ?_
          · exact within_choose (sub_of hL rfl) (by assumption)
          · assumption

theorem within_class0RowTake {a0 a1} (hL : sub 2535353331545533586578196639768 L = true) (h : Within L s0 s) :
      Within L s0 (class0RowTake a0 a1 s) := by
  delta class0RowTake
  extract_lets +onlyGivenNames -merge -useContext -underBinder x2_0
  clear_value x2_0
  split
  · extract_lets +onlyGivenNames -merge -useContext -underBinder x4_0
    have hx4_0 : Within L s0 x4_0 := by
      refine ite_ind ?_ ?_
      · exact within_strmBoundary (sub_of hL rfl) (by assumption)
      · assumption
    clear_value x4_0
    refine ite_ind ?_ ?_
    · extract_lets +onlyGivenNames -merge -useContext -underBinder x6_0 x6_1
      have hx6_0 : Within L s0 x6_0 := by
        refine ite_ind ?_ ?_
        · refine within_startFrame (sub_of hL rfl) ?_
          exact within_loadGrid (sub_of hL rfl) (by assumption)
        · assumption
      clear_value x6_0
      have hx6_1 : Within L s0 x6_1 := by
        unfold x6_1
        split
        · refine ite_ind ?_ ?_
          · exact within_reserveSegs (sub_of hL rfl) (by assumption)
          · assumption
        · assumption
      clear_value x6_1
      refine within_refreshStrm (sub_of hL rfl) ?_
      refine within_refreshBench (sub_of hL rfl) ?_
      exact within_setBench (sub_of hL rfl) (by assumption)
    · assumption
  · assumption

theorem within_flushFrame {a0 a1 a2} (hL : sub 2535353331545533586578196500504 L = true) (h : Within L s0 s) :
      Within L s0 (flushFrame a0 a1 a2 s) := by
  delta flushFrame
  split
  · assumption
  · extract_lets +onlyGivenNames -merge -useContext -underBinder x4_0 x4_1 x4_2 x4_3 x4_4 x4_5 x4_6 x4_7
    clear_value x4_0 x4_1 x4_2 x4_3
    have hx4_4 : Within L s0 x4_4 := by
      refine within_forEach (fun _ _ _ => ?_) ?_
      · refine ite_ind ?_ ?_
        · extract_lets +onlyGivenNames -merge -useContext -underBinder x10_0
          clear_value x10_0
          exact within_setZraw (sub_of hL rfl) (by assumption)
        · assumption
      · assumption
    clear_value x4_4 x4_5 x4_6 x4_7
    refine within_finishFrame (sub_of hL rfl) ?_
    refine within_forEach (fun _ _ _ => ?_) ?_
    · exact within_pixelRow (sub_of hL rfl) (by assumption)
    · assumption

theorem within_frameTruncated {a0 a1 a2 a3} (hL : sub 2535353331545533586578196500504 L = true) (h : Within L s0 s)
      : Within L s0 (frameTruncated a0 a1 a2 a3 s) := by
  delta frameTruncated
  split
  · assumption
  · refine ite_ind ?_ ?_
    · assumption
    · extract_lets +onlyGivenNames -merge -useContext -underBinder x6_0 x6_1
      have hx6_0 : Within L s0 x6_0 := by
        refine within_directCut (sub_of hL rfl) ?_
        refine within_forEach (fun _ _ _ => ?_) ?_
        · exact within_dropTap (sub_of hL rfl) (by assumption)
        · assumption
      clear_value x6_0
      have hx6_1 : Within L s0 x6_1 := by
        exact within_updFrame (sub_of hL rfl) (by assumption)
      clear_value x6_1
      refine ite_ind ?_ ?_
      · refine within_kick (sub_of hL rfl) ?_
        refine within_strmStops (sub_of hL rfl) ?_
        exact within_doomFrame (sub_of hL rfl) (by assumption)
      · refine ite_ind ?_ ?_
        · refine within_kick (sub_of hL rfl) ?_
          exact within_flushFrame (sub_of hL rfl) (by assumption)
        · exact within_rowsChanged (sub_of hL rfl) (by assumption)

theorem within_nextStripe {a0 a1} (hL : sub 2535353331545533586578196639768 L = true) (h : Within L s0 s) : Within
      L s0 (nextStripe a0 a1 s) := by
  delta nextStripe
  split
  · exact within_startStripe (sub_of hL rfl) (by assumption)
  · exact within_refreshBench (sub_of hL rfl) (by assumption)
  · refine within_refreshBench (sub_of hL rfl) ?_
    exact within_choose (sub_of hL rfl) (by assumption)

theorem within_stripeComplete {a0 a1 a2 a3} (hL : sub 2535353331545533586578196639768 L = true) (h : Within L s0 s)
      : Within L s0 (stripeComplete a0 a1 a2 a3 s) := by
  delta stripeComplete
  extract_lets +onlyGivenNames -merge -useContext -underBinder x2_0
  clear_value x2_0
  split
  · assumption
  · refine ite_ind ?_ ?_
    · assumption
    · extract_lets +onlyGivenNames -merge -useContext -underBinder x6_0 x6_1 x6_2
      have hx6_0 : Within L s0 x6_0 := by
        exact within_updCtx (sub_of hL rfl) (by assumption)
      clear_value x6_0
      have hx6_1 : Within L s0 x6_1 := by
        refine within_inc (sub_of hL rfl) ?_
        exact within_setBench (sub_of hL rfl) (by assumption)
      clear_value x6_1
      have hx6_2 : Within L s0 x6_2 := by
        unfold x6_2
        split
        · assumption
        · extract_lets +onlyGivenNames -merge -useContext -underBinder x10_0 x10_1
          have hx10_0 : Within L s0 x10_0 := by
            refine ite_ind ?_ ?_
            · refine within_shutEvent (sub_of hL rfl) ?_
              refine within_inc (sub_of hL rfl) ?_
              exact within_flagFrame (sub_of hL rfl) (by assumption)
            · assumption
          clear_value x10_0
          have hx10_1 : Within L s0 x10_1 := by
            exact within_updFrame (sub_of hL rfl) (by assumption)
          clear_value x10_1
          refine ite_ind ?_ ?_
          · refine within_strmStops (sub_of hL rfl) ?_
            exact within_dropFrame (sub_of hL rfl) (by assumption)
          · refine ite_ind ?_ ?_
            · refine within_strmStops (sub_of hL rfl) ?_
              exact within_endFrame (sub_of hL rfl) (by assumption)
            · refine ite_ind ?_ ?_
              · refine ite_ind ?_ ?_
                · exact within_finishFrame (sub_of hL rfl) (by assumption)
                · exact within_flushFrame (sub_of hL rfl) (by assumption)
              · assumption
      clear_value x6_2
      refine within_kick (sub_of hL rfl) ?_
      refine within_nextStripe (sub_of hL rfl) ?_
      exact within_refreshStrm (sub_of hL rfl) (by assumption)

end Sys2Proof.Machine
end

