-- ==== Sys2Proof/Laws/WithinRecords.lean ====
section
/-! SUPPORT. Which parts of a state each operation of Records.lean may write. -/

namespace Sys2Proof.Machine

variable {L : Nat} {s0 s : State}

theorem within_gridReady {a0} (hL : sub 2535301243843201427312520298496 L = true) (h : Within L s0 s) : Within L s0
      (gridReady a0 s) := by
  delta gridReady
  split
  · assumption
  · extract_lets +onlyGivenNames -merge -useContext -underBinder x4_0 x4_1 x4_2 x4_3 x4_4
    clear_value x4_0
    have hx4_1 : Within L s0 x4_1 := by
      exact within_set (sub_of hL rfl) (by assumption)
    clear_value x4_1
    have hx4_2 : Within L s0 x4_2 := by
      exact within_dramWrite (sub_of hL rfl) (by assumption)
    clear_value x4_2 x4_3
    have hx4_4 : Within L s0 x4_4 := by
      exact within_setStrm (sub_of hL rfl) (by assumption)
    clear_value x4_4
    refine within_purge (sub_of hL rfl) ?_
    refine within_lutmEvent (sub_of hL rfl) ?_
    exact within_updFrame (sub_of hL rfl) (by assumption)

theorem within_setLutValid {a0 a1} (hL : sub 32768 L = true) (h : Within L s0 s) : Within L s0 (setLutValid a0 a1
      s) := by
  delta setLutValid
  refine ite_ind ?_ ?_
  · exact within_set (sub_of hL rfl) (by assumption)
  · exact within_set (sub_of hL rfl) (by assumption)

theorem within_lutLoad {a0} (hL : sub 562949953454080 L = true) (h : Within L s0 s) : Within L s0 (lutLoad a0 s) := by
  delta lutLoad
  extract_lets +onlyGivenNames -merge -useContext -underBinder x2_0
  have hx2_0 : Within L s0 x2_0 := by
    refine within_set (sub_of hL rfl) ?_
    exact within_set (sub_of hL rfl) (by assumption)
  clear_value x2_0
  refine within_setState (sub_of hL rfl) ?_
  exact within_setLutValid (sub_of hL rfl) (by assumption)

theorem within_lutLoaded {a0 a1 a2} (hL : sub 2535301356294553300641651916800 L = true) (h : Within L s0 s) :
      Within L s0 (lutLoaded a0 a1 a2 s) := by
  delta lutLoaded
  extract_lets +onlyGivenNames -merge -useContext -underBinder x2_0 x2_1 x2_2 x2_3 x2_4
  clear_value x2_0 x2_1
  have hx2_2 : Within L s0 x2_2 := by
    refine within_setState (sub_of hL rfl) ?_
    exact within_set (sub_of hL rfl) (by assumption)
  clear_value x2_2
  have hx2_3 : Within L s0 x2_3 := by
    exact within_set (sub_of hL rfl) (by assumption)
  clear_value x2_3
  have hx2_4 : Within L s0 x2_4 := by
    exact within_set (sub_of hL rfl) (by assumption)
  clear_value x2_4
  refine ite_ind ?_ ?_
  · refine within_raise (sub_of hL rfl) (sub_of hL rfl) ?_
    exact within_logError (sub_of hL rfl) (sub_of hL rfl) (by assumption)
  · refine within_raise (sub_of hL rfl) (sub_of hL rfl) ?_
    refine within_setLutValid (sub_of hL rfl) ?_
    refine within_upd_lutSlots (sub_of hL rfl) ?_
    assumption

theorem within_lutLoadEnd (hL : sub 2535301356294553300645946884096 L = true) (h : Within L s0 s) : Within L s0
      (lutLoadEnd s) := by
  delta lutLoadEnd
  refine ite_ind ?_ ?_
  · assumption
  · extract_lets +onlyGivenNames -merge -useContext -underBinder x4_0 x4_1 x4_2
    clear_value x4_0 x4_1
    have hx4_2 : Within3 L s0 x4_2 := by
      exact within_dramRead (sub_of hL rfl) (by assumption)
    clear_value x4_2
    refine within_lutLoaded (sub_of hL rfl) ?_
    show Within3 L s0 _
    assumption

theorem within_pinFailsafe {a0} (hL : sub 2535301205178825286137929531408 L = true) (h : Within L s0 s) : Within L
      s0 (pinFailsafe a0 s) := by
  delta pinFailsafe
  refine ite_ind ?_ ?_
  · assumption
  · extract_lets +onlyGivenNames -merge -useContext -underBinder x4_0
    have hx4_0 : Within L s0 x4_0 := by
      exact within_set (sub_of hL rfl) (by assumption)
    clear_value x4_0
    refine within_raise (sub_of hL rfl) (sub_of hL rfl) ?_
    refine within_refreshPins (sub_of hL rfl) ?_
    exact within_set (sub_of hL rfl) (by assumption)

theorem within_segReady {a0} (hL : sub 2535303661694842345420730007552 L = true) (h : Within L s0 s) : Within L s0
      (segReady a0 s) := by
  delta segReady
  split
  · assumption
  · extract_lets +onlyGivenNames -merge -useContext -underBinder x4_0
    clear_value x4_0
    refine ite_ind ?_ ?_
    · assumption
    · refine within_purge (sub_of hL rfl) ?_
      exact within_segWrite (sub_of hL rfl) (by assumption)

theorem within_statsReady {a0} (hL : sub 2535301243843200864637444751376 L = true) (h : Within L s0 s) : Within L
      s0 (statsReady a0 s) := by
  delta statsReady
  split
  · assumption
  · split
    · assumption
    · extract_lets +onlyGivenNames -merge -useContext -underBinder x6_0 x6_1 x6_2 x6_3 x6_4
      clear_value x6_0
      have hx6_1 : Within L s0 x6_1 := by
        exact within_dramWrite (sub_of hL rfl) (by assumption)
      clear_value x6_1 x6_2
      have hx6_3 : Within L s0 x6_3 := by
        exact within_updFrame (sub_of hL rfl) (by assumption)
      clear_value x6_3
      have hx6_4 : Within L s0 x6_4 := by
        refine ite_ind ?_ ?_
        · refine within_evtEvent (sub_of hL rfl) ?_
          exact within_set (sub_of hL rfl) (by assumption)
        · assumption
      clear_value x6_4
      exact within_purge (sub_of hL rfl) (by assumption)

theorem within_tapComplete {a0 a1} (hL : sub 2535339929469446546894667972608 L = true) (h : Within L s0 s) : Within
      L s0 (tapComplete a0 a1 s) := by
  delta tapComplete
  split
  · assumption
  · split
    · assumption
    · extract_lets +onlyGivenNames -merge -useContext -underBinder x6_0 x6_1
      have hx6_0 : Within L s0 x6_0 := by
        exact within_updFrame (sub_of hL rfl) (by assumption)
      clear_value x6_0
      have hx6_1 : Within L s0 x6_1 := by
        exact within_inc (sub_of (a := partW .strm) hL rfl) (by assumption)
      clear_value x6_1
      refine within_purge (sub_of hL rfl) ?_
      exact within_completeBuf (sub_of hL rfl) (by assumption)

end Sys2Proof.Machine
end

