-- ==== Sys2Proof/Laws/WithinCam.lean ====
section
/-! SUPPORT. Which parts of a state each operation of Cam.lean may write. -/

namespace Sys2Proof.Machine

variable {L : Nat} {s0 s : State}

theorem within_phyRestart {a0} (hL : sub 17592186045440 L = true) (h : Within L s0 s) : Within L s0 (phyRestart a0
      s) := by
  delta phyRestart
  extract_lets +onlyGivenNames -merge -useContext -underBinder x2_0 x2_1 x2_2
  have hx2_1 : Within L s0 x2_1 := by
    exact within_set (sub_of hL rfl) (by assumption)
  clear_value x2_1
  have hx2_2 : Within L s0 x2_2 := by
    refine within_set (sub_of hL rfl) ?_
    refine within_set (sub_of hL rfl) ?_
    exact within_set (sub_of hL rfl) (by assumption)
  clear_value x2_2
  exact within_setState (sub_of hL rfl) (by assumption)

theorem within_putAsm {a0 a1 a2} (hL : sub 18889465940274673878016 L = true) (h : Within L s0 s) : Within L s0
      (putAsm a0 a1 a2 s) := by
  delta putAsm
  extract_lets +onlyGivenNames -merge -useContext -underBinder x2_0
  have hx2_0 : Within L s0 x2_0 := by
    exact within_setAsm (sub_of hL rfl) (by assumption)
  clear_value x2_0
  refine ite_ind ?_ ?_
  · exact within_setState (sub_of hL rfl) (by assumption)
  · exact within_set (sub_of (a := partW .cams) hL rfl) (by assumption)

theorem within_entApplied {a0 a1 a2 a3} (hL : sub 18889465940274673878016 L = true) (h : Within L s0 s) : Within L
      s0 (entApplied a0 a1 a2 a3 s) := by
  delta entApplied
  extract_lets +onlyGivenNames -merge -useContext -underBinder x2_0 x2_1 x2_2
  clear_value x2_0 x2_1 x2_2
  refine ite_ind ?_ ?_
  · exact within_putAsm (sub_of hL rfl) (by assumption)
  · refine ite_ind ?_ ?_
    · exact within_putAsm (sub_of hL rfl) (by assumption)
    · exact within_putAsm (sub_of hL rfl) (by assumption)

theorem within_applyPort {a0 a1} (hL : sub 2535353331545533612691597661704 L = true) (h : Within L s0 s) : Within L
      s0 (applyPort a0 a1 s) := by
  delta applyPort
  extract_lets +onlyGivenNames -merge -useContext -underBinder x2_0 x2_1 x2_2 x2_3 x2_4 x2_5 x2_6
  clear_value x2_1 x2_2 x2_3
  have hx2_4 : Within L s0 x2_4 := by
    exact within_applyGroup (sub_portW (sub_of hL rfl) (sub_of hL rfl)) (sub_portH (sub_of hL rfl) (sub_of hL rfl)) sub_portG (by assumption)
  clear_value x2_4
  have hx2_5 : Within L s0 x2_5 := by
    refine ite_ind ?_ ?_
    · exact within_phyRestart (sub_of hL rfl) (by assumption)
    · assumption
  clear_value x2_5
  have hx2_6 : Within L s0 x2_6 := by
    refine within_forEach (fun _ _ _ => ?_) ?_
    · exact within_entApplied (sub_of hL rfl) (by assumption)
    · assumption
  clear_value x2_6
  refine within_kick (sub_of hL rfl) ?_
  exact within_commitDone (sub_of hL rfl) (sub_portH (sub_of hL rfl) (sub_of hL rfl)) (by assumption)

theorem within_portBoundary {a0 a1} (hL : sub 2535353331545533612691597661704 L = true) (h : Within L s0 s) :
      Within L s0 (portBoundary a0 a1 s) := by
  delta portBoundary
  extract_lets +onlyGivenNames -merge -useContext -underBinder x2_0
  refine ite_ind ?_ ?_
  · exact within_applyPort (sub_of hL rfl) (by assumption)
  · assumption

theorem sub_entFld {b : Block} {camp cams : Fld} {e : Nat} (h1 : sub (partW camp.blk) L = true)
    (h2 : sub (partW cams.blk) L = true) : sub (partW (entFld b camp cams e).blk) L = true := by
  rw [entFld]; split <;> assumption

theorem within_setEnt {a0 a1 a2 a3 a4} (q0_2 : sub (partW a2.blk) L = true) (q0_3 : sub (partW a3.blk) L = true) (h
      : Within L s0 s) : Within L s0 (setEnt a0 a1 a2 a3 a4 s) := by
  exact within_set (sub_entFld q0_2 q0_3) h

theorem within_entEvent {a0 a1 a2} (hL : sub 2535301205178825312251330692096 L = true) (h : Within L s0 s) : Within
      L s0 (entEvent a0 a1 a2 s) := by
  delta entEvent
  refine within_raise (sub_of hL rfl) (sub_portH (sub_of hL rfl) (sub_of hL rfl)) ?_
  refine ite_ind ?_ ?_
  · assumption
  · exact within_set (sub_of hL rfl) (by assumption)

theorem within_incEnt {a0 a1 a2 a3 a4} (q0_2 : sub (partW a2.blk) L = true) (q0_3 : sub (partW a3.blk) L = true) (h
      : Within L s0 s) : Within L s0 (incEnt a0 a1 a2 a3 a4 s) := by
  exact within_incBy (sub_entFld q0_2 q0_3) h

theorem within_intervalCheck {a0 a1 a2 a3 a4} (hL : sub 2535301205178825312251330692608 L = true) (h : Within L s0
      s) : Within3 L s0 (intervalCheck a0 a1 a2 a3 a4 s) := by
  delta intervalCheck
  extract_lets +onlyGivenNames -merge -useContext -underBinder x2_0
  clear_value x2_0
  split
  · refine within3_mk ?_
    assumption
  · extract_lets +onlyGivenNames -merge -useContext -underBinder x4_0 x4_1 x4_2 x4_3
    clear_value x4_0 x4_1
    have hx4_2 : Within L s0 x4_2 := by
      exact within_setEnt (sub_of hL rfl) (sub_of hL rfl) (by assumption)
    clear_value x4_2
    have hx4_3 : Within L s0 x4_3 := by
      exact within_setEnt (sub_of hL rfl) (sub_of hL rfl) (by assumption)
    clear_value x4_3
    refine ite_ind ?_ ?_
    · refine within3_mk ?_
      assumption
    · split
      · extract_lets +onlyGivenNames -merge -useContext -underBinder x8_0 x8_1
        clear_value x8_0
        refine ite_ind ?_ ?_
        · refine within3_mk ?_
          refine within_entEvent (sub_of hL rfl) ?_
          exact within_incEnt (sub_of hL rfl) (sub_of hL rfl) (by assumption)
        · extract_lets +onlyGivenNames -merge -useContext -underBinder x10_0 x10_1 x10_2 x10_3
          clear_value x10_0 x10_1 x10_2 x10_3
          refine ite_ind ?_ ?_
          · refine within3_mk ?_
            exact within_entEvent (sub_of hL rfl) (by assumption)
          · refine within3_mk ?_
            assumption

theorem within_shedFrame {a0} (hL : sub 2535353303211334126135493857280 L = true) (h : Within L s0 s) : Within3 L
      s0 (shedFrame a0 s) := by
  delta shedFrame
  extract_lets +onlyGivenNames -merge -useContext -underBinder x2_0
  clear_value x2_0
  split
  · extract_lets +onlyGivenNames -merge -useContext -underBinder x4_0
    have hx4_0 : Within L s0 x4_0 := by
      refine within_forEach (fun _ _ _ => ?_) ?_
      · exact within_doomFrame (sub_of hL rfl) (by assumption)
      · assumption
    clear_value x4_0
    refine within3_mk ?_
    exact within_setStrm (sub_of hL rfl) (by assumption)
  · refine ite_ind ?_ ?_
    · refine within3_mk ?_
      exact within_setStrm (sub_of hL rfl) (by assumption)
    · refine within3_mk ?_
      exact within_setStrm (sub_of hL rfl) (by assumption)
  · refine within3_mk ?_
    exact within_setStrm (sub_of hL rfl) (by assumption)

theorem within_openFrame {a0 a1 a2 a3} (hL : sub 2535353938369626696625379712520 L = true) (h : Within L s0 s) :
      Within L s0 (openFrame a0 a1 a2 a3 s) := by
  delta openFrame
  extract_lets +onlyGivenNames -merge -useContext -underBinder x2_0
  clear_value x2_0
  split
  · rename_i v2_0 v2_1 v2_2 q2_0
    have hv2_2 : Within L s0 v2_2 := within3_eq q2_0 (by
      exact within_intervalCheck (sub_of hL rfl) (by assumption))
    extract_lets +onlyGivenNames -merge -useContext -underBinder x4_0 x4_1 x4_2 x4_3 x4_4
    clear_value x4_0
    have hx4_1 : Within L s0 x4_1 := by
      exact within_set (sub_of hL rfl) (by assumption)
    clear_value x4_1
    have hx4_2 : Within L s0 x4_2 := by
      exact within_setEnt (sub_of hL rfl) (sub_of hL rfl) (by assumption)
    clear_value x4_2 x4_3
    have hx4_4 : Within L s0 x4_4 := by
      exact within_putAsm (sub_of hL rfl) (by assumption)
    clear_value x4_4
    split
    · rename_i v4_0 v4_1 v4_2 v4_3 q4_0
      have hv4_3 : Within L s0 v4_3 := within4_eq q4_0 (by
        exact within_captureFrame (sub_of hL rfl) (by assumption))
      split
      · rename_i v6_0 v6_1 v6_2 q6_0
        have hv6_2 : Within L s0 v6_2 := within3_eq q6_0 (by
          refine ite_ind ?_ ?_
          · exact within_shedFrame (sub_of hL rfl) (by assumption)
          · refine within3_mk ?_
            assumption)
        extract_lets +onlyGivenNames -merge -useContext -underBinder x8_0 x8_1 x8_2 x8_3 x8_4 x8_5 x8_6 x8_7 x8_8
        clear_value x8_0 x8_1 x8_2 x8_3 x8_4 x8_5 x8_6
        have hx8_7 : Within L s0 x8_7 := by
          exact within_setStrm (sub_of hL rfl) (by assumption)
        clear_value x8_7
        have hx8_8 : Within L s0 x8_8 := by
          refine ite_ind ?_ ?_
          · assumption
          · exact within_directStart (sub_of hL rfl) (by assumption)
        clear_value x8_8
        refine within_kick (sub_of hL rfl) ?_
        refine within_purge (sub_of hL rfl) ?_
        exact within_entEvent (sub_of hL rfl) (by assumption)

theorem within_joinFrame {a0 a1 a2 a3} (hL : sub 2535301261847223106687073256960 L = true) (h : Within L s0 s) :
      Within L s0 (joinFrame a0 a1 a2 a3 s) := by
  delta joinFrame
  extract_lets +onlyGivenNames -merge -useContext -underBinder x2_0 x2_1
  clear_value x2_0 x2_1
  split
  · assumption
  · extract_lets +onlyGivenNames -merge -useContext -underBinder x4_0
    clear_value x4_0
    split
    · assumption
    · extract_lets +onlyGivenNames -merge -useContext -underBinder x6_0
      clear_value x6_0
      refine ite_ind ?_ ?_
      · assumption
      · extract_lets +onlyGivenNames -merge -useContext -underBinder x8_0 x8_1 x8_2
        have hx8_0 : Within L s0 x8_0 := by
          exact within_setEnt (sub_of hL rfl) (sub_of hL rfl) (by assumption)
        clear_value x8_0
        have hx8_1 : Within L s0 x8_1 := by
          exact within_updFrame (sub_of hL rfl) (by assumption)
        clear_value x8_1 x8_2
        refine within_entEvent (sub_of hL rfl) ?_
        exact within_putAsm (sub_of hL rfl) (by assumption)

theorem within_actStart {a0 a1 a2 a3} (hL : sub 2535353938369626696625379712520 L = true) (h : Within L s0 s) :
      Within L s0 (actStart a0 a1 a2 a3 s) := by
  delta actStart
  extract_lets +onlyGivenNames -merge -useContext -underBinder x2_0
  have hx2_0 : Within L s0 x2_0 := by
    exact within_portBoundary (sub_of hL rfl) (by assumption)
  clear_value x2_0
  refine ite_ind ?_ ?_
  · assumption
  · refine ite_ind ?_ ?_
    · exact within_openFrame (sub_of hL rfl) (by assumption)
    · exact within_joinFrame (sub_of hL rfl) (by assumption)

theorem within_closeAsm {a0 a1 a2 a3 a4} (hL : sub 18889465940274673878016 L = true) (h : Within L s0 s) : Within L
      s0 (closeAsm a0 a1 a2 a3 a4 s) := by
  delta closeAsm
  extract_lets +onlyGivenNames -merge -useContext -underBinder x2_0
  clear_value x2_0
  exact within_putAsm (sub_of hL rfl) (by assumption)

theorem within_compareAlive {a0 a1 a2 a3} (hL : sub 2535301205178825312251330692608 L = true) (h : Within L s0 s) :
      Within3 L s0 (compareAlive a0 a1 a2 a3 s) := by
  delta compareAlive
  split
  · extract_lets +onlyGivenNames -merge -useContext -underBinder x4_0
    clear_value x4_0
    refine ite_ind ?_ ?_
    · refine within3_mk ?_
      exact within_entEvent (sub_of hL rfl) (by assumption)
    · refine ite_ind ?_ ?_
      · refine within3_mk ?_
        exact within_incEnt (sub_of hL rfl) (sub_of hL rfl) (by assumption)
      · refine within3_mk ?_
        assumption
  · refine within3_mk ?_
    assumption
  · refine within3_mk ?_
    assumption

theorem within_giveRow {a0 a1 a2 a3 a4 a5 a6 a7} (hL : sub 2535358167248812053616110572552 L = true) (h : Within L
      s0 s) : Within L s0 (giveRow a0 a1 a2 a3 a4 a5 a6 a7 s) := by
  delta giveRow
  extract_lets +onlyGivenNames -merge -useContext -underBinder x2_0 x2_1 x2_2 x2_3 x2_4 x2_5
  clear_value x2_0 x2_1 x2_2 x2_3
  have hx2_4 : Within L s0 x2_4 := by
    exact within_putAsm (sub_of hL rfl) (by assumption)
  clear_value x2_4
  have hx2_5 : Within L s0 x2_5 := by
    refine ite_ind ?_ ?_
    · exact within_updFrame (sub_of hL rfl) (by assumption)
    · assumption
  clear_value x2_5
  exact within_rowArrives (sub_of hL rfl) (by assumption)

theorem within_discardLine {a0 a1 a2 a3 a4 a5} (hL : sub 2535358167248812071208296617480 L = true) (h : Within L s0
      s) : Within L s0 (discardLine a0 a1 a2 a3 a4 a5 s) := by
  delta discardLine
  extract_lets +onlyGivenNames -merge -useContext -underBinder x2_0 x2_1 x2_2 x2_3 x2_4
  clear_value x2_0 x2_1
  have hx2_2 : Within L s0 x2_2 := by
    exact within_incEnt (sub_of hL rfl) (sub_of hL rfl) (by assumption)
  clear_value x2_2
  have hx2_3 : Within L s0 x2_3 := by
    refine within_entEvent (sub_of hL rfl) ?_
    exact within_flagFrame (sub_of hL rfl) (by assumption)
  clear_value x2_3
  have hx2_4 : Within L s0 x2_4 := by
    exact within_putAsm (sub_of hL rfl) (by assumption)
  clear_value x2_4
  refine ite_ind ?_ ?_
  · exact within_closeAsm (sub_of hL rfl) (by assumption)
  · refine ite_ind ?_ ?_
    · extract_lets +onlyGivenNames -merge -useContext -underBinder x6_0
      clear_value x6_0
      exact within_giveRow (sub_of hL rfl) (by assumption)
    · refine within_rowLost (sub_of hL rfl) ?_
      exact within_putAsm (sub_of hL rfl) (by assumption)

theorem within_unmappedPacket {a0} (hL : sub 2535301205178825303455237669888 L = true) (h : Within L s0 s) : Within
      L s0 (unmappedPacket a0 s) := by
  delta unmappedPacket
  refine within_raise (sub_of hL rfl) (sub_of hL rfl) ?_
  exact within_inc (sub_of hL rfl) (by assumption)

theorem within_metaAppend {a0 a1 a2 a3} (hL : sub 2535301242957757149095091306512 L = true) (h : Within L s0 s) :
      Within L s0 (metaAppend a0 a1 a2 a3 s) := by
  delta metaAppend
  extract_lets +onlyGivenNames -merge -useContext -underBinder x2_0
  clear_value x2_0
  split
  · assumption
  · extract_lets +onlyGivenNames -merge -useContext -underBinder x4_0 x4_1 x4_2
    clear_value x4_0 x4_1
    have hx4_2 : Within L s0 x4_2 := by
      exact within_updFrame (sub_of hL rfl) (by assumption)
    clear_value x4_2
    refine ite_ind ?_ ?_
    · assumption
    · refine within_evtEvent (sub_of hL rfl) ?_
      exact within_inc (sub_of hL rfl) (by assumption)

theorem within_embeddedData {a0 a1 a2 a3} (hL : sub 2535301261847223106961951228944 L = true) (h : Within L s0 s) :
      Within L s0 (embeddedData a0 a1 a2 a3 s) := by
  delta embeddedData
  extract_lets +onlyGivenNames -merge -useContext -underBinder x2_0
  clear_value x2_0
  split
  · exact within_unmappedPacket (sub_of hL rfl) (by assumption)
  · extract_lets +onlyGivenNames -merge -useContext -underBinder x4_0
    clear_value x4_0
    refine ite_ind ?_ ?_
    · assumption
    · extract_lets +onlyGivenNames -merge -useContext -underBinder x6_0
      clear_value x6_0
      refine within_metaAppend (sub_of hL rfl) ?_
      exact within_putAsm (sub_of hL rfl) (by assumption)

theorem within_settleFrame {a0 a1 a2} (hL : sub 2535353331545533648150847659544 L = true) (h : Within L s0 s) :
      Within L s0 (settleFrame a0 a1 a2 s) := by
  delta settleFrame
  extract_lets +onlyGivenNames -merge -useContext -underBinder x2_0 x2_1 x2_2
  clear_value x2_0 x2_1 x2_2
  split
  · split
    · rename_i v4_0 v4_1 v4_2 q4_0
      have hv4_2 : Within L s0 v4_2 := within3_eq q4_0 (by
        exact within_compareAlive (sub_of hL rfl) (by assumption))
      extract_lets +onlyGivenNames -merge -useContext -underBinder x6_0 x6_1 x6_2 x6_3
      have hx6_0 : Within L s0 x6_0 := by
        exact within_setEnt (sub_of hL rfl) (sub_of hL rfl) (by assumption)
      clear_value x6_0
      have hx6_1 : Within L s0 x6_1 := by
        exact within_setEnt (sub_of hL rfl) (sub_of hL rfl) (by assumption)
      clear_value x6_1
      have hx6_2 : Within L s0 x6_2 := by
        refine ite_ind ?_ ?_
        · refine within_entEvent (sub_of hL rfl) ?_
          exact within_incEnt (sub_of hL rfl) (sub_of hL rfl) (by assumption)
        · assumption
      clear_value x6_2 x6_3
      split
      · rename_i v6_0 v6_1 q6_0
        have hv6_1 : Within L s0 v6_1 := within2_eq q6_0 (by
          split
          · exact within_compareEcho (sub_of hL rfl) (by assumption)
          · refine within2_mk ?_
            assumption)
        extract_lets +onlyGivenNames -merge -useContext -underBinder x8_0 x8_1 x8_2 x8_3 x8_4
        have hx8_0 : Within L s0 x8_0 := by
          refine ite_ind ?_ ?_
          · refine within_entEvent (sub_of hL rfl) ?_
            exact within_incEnt (sub_of hL rfl) (sub_of hL rfl) (by assumption)
          · exact within_entEvent (sub_of hL rfl) (by assumption)
        clear_value x8_0
        have hx8_1 : Within L s0 x8_1 := by
          exact within_putAsm (sub_of hL rfl) (by assumption)
        clear_value x8_1
        have hx8_2 : Within L s0 x8_2 := by
          exact within_updFrame (sub_of hL rfl) (by assumption)
        clear_value x8_2
        have hx8_3 : Within L s0 x8_3 := by
          exact within_exposureEnds (sub_of hL rfl) (by assumption)
        clear_value x8_3
        refine within_purge (sub_of hL rfl) ?_
        refine ite_ind ?_ ?_
        · exact within_frameTruncated (sub_of hL rfl) (by assumption)
        · assumption

theorem within_frameClose {a0 a1 a2} (hL : sub 2535353938369626696900257619480 L = true) (h : Within L s0 s) :
      Within L s0 (frameClose a0 a1 a2 s) := by
  delta frameClose
  extract_lets +onlyGivenNames -merge -useContext -underBinder x2_0
  clear_value x2_0
  refine ite_ind ?_ ?_
  · assumption
  · extract_lets +onlyGivenNames -merge -useContext -underBinder x4_0 x4_1 x4_2 x4_3 x4_4 x4_5
    clear_value x4_0
    have hx4_1 : Within L s0 x4_1 := by
      refine ite_ind ?_ ?_
      · assumption
      · exact within_entEvent (sub_of hL rfl) (by assumption)
    clear_value x4_1
    have hx4_2 : Within L s0 x4_2 := by
      refine ite_ind ?_ ?_
      · exact within_settleFrame (sub_of hL rfl) (by assumption)
      · refine within_exposureEnds (sub_of hL rfl) ?_
        exact within_putAsm (sub_of hL rfl) (by assumption)
    clear_value x4_2 x4_3
    have hx4_4 : Within L s0 x4_4 := by
      exact within_putAsm (sub_of hL rfl) (by assumption)
    clear_value x4_4
    have hx4_5 : Within L s0 x4_5 := by
      exact within_portBoundary (sub_of hL rfl) (by assumption)
    clear_value x4_5
    split
    · refine ite_ind ?_ ?_
      · exact within_actStart (sub_of hL rfl) (by assumption)
      · assumption
    · assumption

theorem within_frameEnd {a0 a1 a2} (hL : sub 18889465940274673878016 L = true) (h : Within L s0 s) : Within L s0
      (frameEnd a0 a1 a2 s) := by
  delta frameEnd
  extract_lets +onlyGivenNames -merge -useContext -underBinder x2_0
  clear_value x2_0
  refine ite_ind ?_ ?_
  · exact within_closeAsm (sub_of hL rfl) (by assumption)
  · assumption

theorem within_frameStart {a0 a1 a2 a3 a4} (hL : sub 2535353938369626696625379712520 L = true) (h : Within L s0 s)
      : Within L s0 (frameStart a0 a1 a2 a3 a4 s) := by
  delta frameStart
  extract_lets +onlyGivenNames -merge -useContext -underBinder x2_0
  clear_value x2_0
  split
  · exact within_actStart (sub_of hL rfl) (by assumption)
  · exact within_closeAsm (sub_of hL rfl) (by assumption)
  · refine ite_ind ?_ ?_
    · assumption
    · exact within_putAsm (sub_of hL rfl) (by assumption)
  · assumption

theorem within_hdrMissing {a0 a1 a2} (hL : sub 2535353331545533612691597661192 L = true) (h : Within L s0 s) :
      Within L s0 (hdrMissing a0 a1 a2 s) := by
  delta hdrMissing
  extract_lets +onlyGivenNames -merge -useContext -underBinder x2_0 x2_1
  clear_value x2_0 x2_1
  split
  · assumption
  · extract_lets +onlyGivenNames -merge -useContext -underBinder x4_0
    clear_value x4_0
    split
    · assumption
    · extract_lets +onlyGivenNames -merge -useContext -underBinder x6_0
      clear_value x6_0
      refine ite_ind ?_ ?_
      · assumption
      · refine within_entEvent (sub_of hL rfl) ?_
        exact within_exposureEnds (sub_of hL rfl) (by assumption)

theorem within_lineReceived {a0 a1 a2 a3 a4 a5 a6 a7 a8} (hL : sub 2535358167248812071483174524440 L = true) (h :
      Within L s0 s) : Within L s0 (lineReceived a0 a1 a2 a3 a4 a5 a6 a7 a8 s) := by
  delta lineReceived
  extract_lets +onlyGivenNames -merge -useContext -underBinder x2_0 x2_1
  clear_value x2_0 x2_1
  refine ite_ind ?_ ?_
  · assumption
  · extract_lets +onlyGivenNames -merge -useContext -underBinder x4_0
    clear_value x4_0
    refine ite_ind ?_ ?_
    · refine ite_ind ?_ ?_
      · extract_lets +onlyGivenNames -merge -useContext -underBinder x8_0 x8_1 x8_2
        have hx8_0 : Within L s0 x8_0 := by
          exact within_incEnt (sub_of hL rfl) (sub_of hL rfl) (by assumption)
        clear_value x8_0
        have hx8_1 : Within L s0 x8_1 := by
          refine within_entEvent (sub_of hL rfl) ?_
          exact within_flagFrame (sub_of hL rfl) (by assumption)
        clear_value x8_1
        have hx8_2 : Within L s0 x8_2 := by
          exact within_putAsm (sub_of hL rfl) (by assumption)
        clear_value x8_2
        refine ite_ind ?_ ?_
        · exact within_closeAsm (sub_of hL rfl) (by assumption)
        · assumption
      · extract_lets +onlyGivenNames -merge -useContext -underBinder x8_0
        clear_value x8_0
        refine within_metaAppend (sub_of hL rfl) ?_
        exact within_putAsm (sub_of hL rfl) (by assumption)
    · refine ite_ind ?_ ?_
      · refine within_incEnt (sub_of hL rfl) (sub_of hL rfl) ?_
        exact within_putAsm (sub_of hL rfl) (by assumption)
      · refine ite_ind ?_ ?_
        · exact within_discardLine (sub_of hL rfl) (by assumption)
        · extract_lets +onlyGivenNames -merge -useContext -underBinder x10_0 x10_1 x10_2
          clear_value x10_0 x10_1 x10_2
          exact within_giveRow (sub_of hL rfl) (by assumption)

theorem within_lineTimeout {a0 a1 a2 a3} (hL : sub 18889465940274673878016 L = true) (h : Within L s0 s) : Within L
      s0 (lineTimeout a0 a1 a2 a3 s) := by
  delta lineTimeout
  extract_lets +onlyGivenNames -merge -useContext -underBinder x2_0 x2_1
  clear_value x2_0 x2_1
  refine ite_ind ?_ ?_
  · exact within_closeAsm (sub_of hL rfl) (by assumption)
  · assumption

theorem within_noFrame {a0 a1 a2} (hL : sub 2535301224068291243729911546880 L = true) (h : Within L s0 s) : Within
      L s0 (noFrame a0 a1 a2 s) := by
  delta noFrame
  extract_lets +onlyGivenNames -merge -useContext -underBinder x2_0 x2_1
  clear_value x2_0 x2_1
  refine ite_ind ?_ ?_
  · assumption
  · refine within_entEvent (sub_of hL rfl) ?_
    exact within_putAsm (sub_of hL rfl) (by assumption)

theorem within_packetError {a0 a1} (hL : sub 2535301205178825303455237669888 L = true) (h : Within L s0 s) : Within
      L s0 (packetError a0 a1 s) := by
  delta packetError
  split
  · exact within_inc (sub_of hL rfl) (by assumption)
  · refine within_raise (sub_of hL rfl) (sub_of hL rfl) ?_
    exact within_inc (sub_of hL rfl) (by assumption)
  · exact within_inc (sub_of hL rfl) (by assumption)
  · exact within_unmappedPacket (sub_of hL rfl) (by assumption)

theorem within_pclkGlitch {a0 a1} (hL : sub 2535301242957757175208492401664 L = true) (h : Within L s0 s) : Within
      L s0 (pclkGlitch a0 a1 s) := by
  delta pclkGlitch
  extract_lets +onlyGivenNames -merge -useContext -underBinder x2_0 x2_1
  clear_value x2_0 x2_1
  refine ite_ind ?_ ?_
  · assumption
  · extract_lets +onlyGivenNames -merge -useContext -underBinder x4_0
    have hx4_0 : Within L s0 x4_0 := by
      refine ite_ind ?_ ?_
      · exact within_flagFrame (sub_of hL rfl) (by assumption)
      · assumption
    clear_value x4_0
    exact within_entEvent (sub_of hL rfl) (by assumption)

theorem within_phyDeskew {a0} (hL : sub 1024 L = true) (h : Within L s0 s) : Within L s0 (phyDeskew a0 s) := by
  delta phyDeskew
  refine ite_ind ?_ ?_
  · exact within_set (sub_of hL rfl) (by assumption)
  · assumption

theorem within_phyError {a0 a1} (hL : sub 2535301205178825303455237669888 L = true) (h : Within L s0 s) : Within L
      s0 (phyError a0 a1 s) := by
  delta phyError
  refine within_raise (sub_of hL rfl) (sub_of hL rfl) ?_
  refine ite_ind ?_ ?_
  · exact within_inc (sub_of hL rfl) (by assumption)
  · assumption

theorem within_phyLanes {a0 a1 a2 a3} (hL : sub 17592186045440 L = true) (h : Within L s0 s) : Within L s0
      (phyLanes a0 a1 a2 a3 s) := by
  delta phyLanes
  extract_lets +onlyGivenNames -merge -useContext -underBinder x2_0 x2_1
  have hx2_0 : Within L s0 x2_0 := by
    exact within_set (sub_of hL rfl) (by assumption)
  clear_value x2_0
  have hx2_1 : Within L s0 x2_1 := by
    refine within_set (sub_of hL rfl) ?_
    exact within_set (sub_of hL rfl) (by assumption)
  clear_value x2_1
  exact within_setState (sub_of hL rfl) (by assumption)

theorem within_resetPort {a0 a1} (hL : sub 2535353331545533586578196500504 L = true) (h : Within L s0 s) : Within L
      s0 (resetPort a0 a1 s) := by
  delta resetPort
  refine within_forEach (fun _ _ _ => ?_) ?_
  · extract_lets +onlyGivenNames -merge -useContext -underBinder x4_0 x4_1 x4_2 x4_3 x4_4
    clear_value x4_0 x4_1 x4_2
    have hx4_3 : Within L s0 x4_3 := by
      exact within_updFrame (sub_of hL rfl) (by assumption)
    clear_value x4_3
    have hx4_4 : Within L s0 x4_4 := by
      refine ite_ind ?_ ?_
      · refine ite_ind ?_ ?_
        · refine within_purge (sub_of hL rfl) ?_
          refine within_frameTruncated (sub_of hL rfl) ?_
          exact within_exposureEnds (sub_of hL rfl) (by assumption)
        · exact within_exposureEnds (sub_of hL rfl) (by assumption)
      · assumption
    clear_value x4_4
    exact within_setAsm (sub_of hL rfl) (by assumption)
  · assumption

end Sys2Proof.Machine
end

