-- ==== Sys2Proof/Laws/WithinCompose.lean ====
section
/-! SUPPORT. Which parts of a state each operation of Compose.lean may write. -/

namespace Sys2Proof.Machine

variable {L : Nat} {s0 s : State}

theorem within_setHead {a1 a2} (hL : sub 154742504910672534362390528 L = true) (h : Within L s0 s) : Within L s0
      (State.setHead s a1 a2) := by
  delta State.setHead
  refine within_upd_heads (sub_of hL rfl) ?_
  assumption

theorem within_setLay {a1 a2} (hL : sub 77371252455336267181195264 L = true) (h : Within L s0 s) : Within L s0
      (State.setLay s a1 a2) := by
  delta State.setLay
  refine within_upd_lays (sub_of hL rfl) ?_
  assumption

end Sys2Proof.Machine
end

