-- ==== Sys2Proof/Laws/WithinPorts.lean ====
section
/-! SUPPORT. Which parts of a state each operation of Ports.lean may write. -/

namespace Sys2Proof.Machine

variable {L : Nat} {s0 s : State}

theorem within_setDpo {a1 a2} (hL : sub 309485009821345068724781056 L = true) (h : Within L s0 s) : Within L s0
      (State.setDpo s a1 a2) := by
  delta State.setDpo
  refine within_upd_dpos (sub_of hL rfl) ?_
  assumption

theorem within_dpoEvent {a0 a1} (hL : sub 2535301205178969401051127480320 L = true) (h : Within L s0 s) : Within L
      s0 (dpoEvent a0 a1 s) := by
  delta dpoEvent
  exact within_raise (sub_of hL rfl) (sub_of hL rfl) (by assumption)

theorem within_showLink {a0 a1} (hL : sub 8388608 L = true) (h : Within L s0 s) : Within L s0 (showLink a0 a1 s) := by
  delta showLink
  split
  · refine within_set (sub_of hL rfl) ?_
    exact within_set (sub_of hL rfl) (by assumption)

theorem within_showDpo {a0 a1} (hL : sub 144115188075855872 L = true) (h : Within L s0 s) : Within L s0 (showDpo a0
      a1 s) := by
  delta showDpo
  exact within_setState (sub_of hL rfl) (by assumption)

theorem within_ladderDone {a0} (hL : sub 2535610690188790746119852261376 L = true) (h : Within L s0 s) : Within L
      s0 (ladderDone a0 s) := by
  delta ladderDone
  extract_lets +onlyGivenNames -merge -useContext -underBinder x2_0 x2_1
  clear_value x2_0
  have hx2_1 : Within L s0 x2_1 := by
    exact within_setDpo (sub_of hL rfl) (by assumption)
  clear_value x2_1
  refine within_dpoEvent (sub_of hL rfl) ?_
  refine within_showDpo (sub_of hL rfl) ?_
  exact within_logError (sub_of hL rfl) (sub_of hL rfl) (by assumption)

theorem within_attemptEnd {a0 a1} (hL : sub 2535610690188790746119860649984 L = true) (h : Within L s0 s) : Within
      L s0 (attemptEnd a0 a1 s) := by
  delta attemptEnd
  extract_lets +onlyGivenNames -merge -useContext -underBinder x2_0
  clear_value x2_0
  refine ite_ind ?_ ?_
  · assumption
  · split
    · assumption
    · refine ite_ind ?_ ?_
      · extract_lets +onlyGivenNames -merge -useContext -underBinder x8_0 x8_1
        have hx8_0 : Within L s0 x8_0 := by
          refine within_dpoEvent (sub_of hL rfl) ?_
          refine within_showLink (sub_of hL rfl) ?_
          exact within_setDpo (sub_of hL rfl) (by assumption)
        clear_value x8_0
        have hx8_1 : Within L s0 x8_1 := by
          refine ite_ind ?_ ?_
          · refine within_dpoEvent (sub_of hL rfl) ?_
            exact within_inc (sub_of hL rfl) (by assumption)
          · assumption
        clear_value x8_1
        refine ite_ind ?_ ?_
        · exact within_setDpo (sub_of hL rfl) (by assumption)
        · exact within_showDpo (sub_of hL rfl) (by assumption)
      · extract_lets +onlyGivenNames -merge -useContext -underBinder x8_0
        have hx8_0 : Within L s0 x8_0 := by
          refine within_inc (sub_of hL rfl) ?_
          exact within_setDpo (sub_of hL rfl) (by assumption)
        clear_value x8_0
        refine ite_ind ?_ ?_
        · exact within_ladderDone (sub_of hL rfl) (by assumption)
        · assumption

theorem within_auxBegin {a0} (hL : sub 309489732187827938369994752 L = true) (h : Within L s0 s) : Within L s0
      (auxBegin a0 s) := by
  delta auxBegin
  split
  · extract_lets +onlyGivenNames -merge -useContext -underBinder x4_0 x4_1 x4_2 x4_3
    clear_value x4_0 x4_1 x4_2
    have hx4_3 : Within L s0 x4_3 := by
      exact within_setDpo (sub_of hL rfl) (by assumption)
    clear_value x4_3
    exact within_emit (sub_of hL rfl) (by assumption)
  · assumption

theorem within_auxEnd {a0 a1 a2} (hL : sub 2535610690188790746119860649984 L = true) (h : Within L s0 s) : Within L
      s0 (auxEnd a0 a1 a2 s) := by
  delta auxEnd
  extract_lets +onlyGivenNames -merge -useContext -underBinder x2_0 x2_1 x2_2 x2_3
  clear_value x2_0
  have hx2_1 : Within L s0 x2_1 := by
    exact within_setDpo (sub_of hL rfl) (by assumption)
  clear_value x2_1
  have hx2_2 : Within L s0 x2_2 := by
    refine within_set (sub_of hL rfl) ?_
    refine within_set (sub_of hL rfl) ?_
    exact within_set (sub_of hL rfl) (by assumption)
  clear_value x2_2
  have hx2_3 : Within L s0 x2_3 := by
    refine ite_ind ?_ ?_
    · exact within_logError (sub_of hL rfl) (sub_of hL rfl) (by assumption)
    · assumption
  clear_value x2_3
  exact within_dpoEvent (sub_of hL rfl) (by assumption)

theorem within_auxDone {a0 a1 a2} (hL : sub 2535610690188790746119860649984 L = true) (h : Within L s0 s) : Within
      L s0 (auxDone a0 a1 a2 s) := by
  delta auxDone
  split
  · refine ite_ind ?_ ?_
    · exact within_auxEnd (sub_of hL rfl) (by assumption)
    · extract_lets +onlyGivenNames -merge -useContext -underBinder x6_0 x6_1 x6_2 x6_3
      clear_value x6_0 x6_1 x6_2
      have hx6_3 : Within L s0 x6_3 := by
        refine within_forEach (fun _ _ _ => ?_) ?_
        · exact within_set (sub_of (a := partW .dpo) hL rfl) (by assumption)
        · assumption
      clear_value x6_3
      exact within_auxEnd (sub_of hL rfl) (by assumption)
  · assumption

theorem within_auxRun {a0} (hL : sub 309489732187827938369994752 L = true) (h : Within L s0 s) : Within L s0
      (auxRun a0 s) := by
  delta auxRun
  refine ite_ind ?_ ?_
  · assumption
  · exact within_auxBegin (sub_of hL rfl) (by assumption)

theorem within_beginLadder {a0} (hL : sub 2535610690188790746119852261376 L = true) (h : Within L s0 s) : Within L
      s0 (beginLadder a0 s) := by
  delta beginLadder
  extract_lets +onlyGivenNames -merge -useContext -underBinder x2_0 x2_1 x2_2
  clear_value x2_0 x2_1
  have hx2_2 : Within L s0 x2_2 := by
    exact within_setDpo (sub_of hL rfl) (by assumption)
  clear_value x2_2
  refine ite_ind ?_ ?_
  · exact within_ladderDone (sub_of hL rfl) (by assumption)
  · assumption

theorem within_enterTraining {a0 a1 a2} (hL : sub 2535610690188790746119860649984 L = true) (h : Within L s0 s) :
      Within L s0 (enterTraining a0 a1 a2 s) := by
  delta enterTraining
  extract_lets +onlyGivenNames -merge -useContext -underBinder x2_0 x2_1 x2_2
  clear_value x2_0
  have hx2_1 : Within L s0 x2_1 := by
    refine within_showLink (sub_of hL rfl) ?_
    exact within_setDpo (sub_of hL rfl) (by assumption)
  clear_value x2_1
  have hx2_2 : Within L s0 x2_2 := by
    exact within_showDpo (sub_of hL rfl) (by assumption)
  clear_value x2_2
  refine ite_ind ?_ ?_
  · exact within_beginLadder (sub_of hL rfl) (by assumption)
  · assumption

theorem within_blankPort {a0} (hL : sub 2535610690188790746119860649984 L = true) (h : Within L s0 s) : Within L s0
      (blankPort a0 s) := by
  delta blankPort
  extract_lets +onlyGivenNames -merge -useContext -underBinder x2_0 x2_1
  clear_value x2_0
  have hx2_1 : Within L s0 x2_1 := by
    refine within_dpoEvent (sub_of hL rfl) ?_
    exact within_setDpo (sub_of hL rfl) (by assumption)
  clear_value x2_1
  exact within_enterTraining (sub_of hL rfl) (by assumption)

theorem within_capsRead {a0 a1 a2 a3} (hL : sub 2535610690188790746119860649984 L = true) (h : Within L s0 s) :
      Within L s0 (capsRead a0 a1 a2 a3 s) := by
  delta capsRead
  refine ite_ind ?_ ?_
  · assumption
  · refine ite_ind ?_ ?_
    · refine within_beginLadder (sub_of hL rfl) ?_
      refine within_set (sub_of hL rfl) ?_
      exact within_set (sub_of hL rfl) (by assumption)
    · refine within_ladderDone (sub_of hL rfl) ?_
      exact within_setDpo (sub_of hL rfl) (by assumption)

theorem within_execAuxDone {a0 a1 a2 a3} (hL : sub 2535610691369382366837271953408 L = true) (h : Within L s0 s) :
      WithinN L s0 (execAuxDone a0 a1 a2 a3 s) := by
  delta execAuxDone
  refine withinN_next ?_
  refine within_auxDone (sub_of hL rfl) ?_
  exact within_at (sub_of hL rfl) (by assumption)

theorem within_execAuxRun {a0 a1} (hL : sub 309490912779448655781298176 L = true) (h : Within L s0 s) : WithinN L
      s0 (execAuxRun a0 a1 s) := by
  delta execAuxRun
  refine withinN_next ?_
  refine within_auxRun (sub_of hL rfl) ?_
  exact within_at (sub_of hL rfl) (by assumption)

theorem within_execCapReadDone {a0 a1 a2 a3 a4} (hL : sub 2535610691369382366837271953408 L = true) (h : Within L
      s0 s) : WithinN L s0 (execCapReadDone a0 a1 a2 a3 a4 s) := by
  delta execCapReadDone
  refine withinN_next ?_
  refine within_capsRead (sub_of hL rfl) ?_
  exact within_at (sub_of hL rfl) (by assumption)

theorem within_hpdIrq {a0 a1} (hL : sub 2535610690188790746119860649984 L = true) (h : Within L s0 s) : Within L s0
      (hpdIrq a0 a1 s) := by
  delta hpdIrq
  refine ite_ind ?_ ?_
  · assumption
  · extract_lets +onlyGivenNames -merge -useContext -underBinder x4_0
    have hx4_0 : Within L s0 x4_0 := by
      exact within_inc (sub_of hL rfl) (by assumption)
    clear_value x4_0
    refine ite_ind ?_ ?_
    · refine within_enterTraining (sub_of hL rfl) ?_
      exact within_inc (sub_of hL rfl) (by assumption)
    · exact within_dpoEvent (sub_of hL rfl) (by assumption)

theorem within_execHpdIrq {a0 a1 a2} (hL : sub 2535610691369382366837271953408 L = true) (h : Within L s0 s) :
      WithinN L s0 (execHpdIrq a0 a1 a2 s) := by
  delta execHpdIrq
  refine withinN_next ?_
  refine within_hpdIrq (sub_of hL rfl) ?_
  exact within_at (sub_of hL rfl) (by assumption)

theorem within_plugIn {a0} (hL : sub 2535610690188790746119860649984 L = true) (h : Within L s0 s) : Within L s0
      (plugIn a0 s) := by
  delta plugIn
  refine within_dpoEvent (sub_of hL rfl) ?_
  exact within_enterTraining (sub_of hL rfl) (by assumption)

theorem within_hpdPlug {a0} (hL : sub 2535610690188790746119860649984 L = true) (h : Within L s0 s) : Within L s0
      (hpdPlug a0 s) := by
  delta hpdPlug
  refine ite_ind ?_ ?_
  · assumption
  · extract_lets +onlyGivenNames -merge -useContext -underBinder x4_0
    have hx4_0 : Within L s0 x4_0 := by
      exact within_set (sub_of hL rfl) (by assumption)
    clear_value x4_0
    refine ite_ind ?_ ?_
    · assumption
    · split
      · exact within_plugIn (sub_of hL rfl) (by assumption)
      · exact within_enterTraining (sub_of hL rfl) (by assumption)
      · assumption

theorem within_execHpdPlug {a0 a1} (hL : sub 2535610691369382366837271953408 L = true) (h : Within L s0 s) :
      WithinN L s0 (execHpdPlug a0 a1 s) := by
  delta execHpdPlug
  refine withinN_next ?_
  refine within_hpdPlug (sub_of hL rfl) ?_
  exact within_at (sub_of hL rfl) (by assumption)

theorem within_idleEnd {a0} (hL : sub 2535610690188790746119852261376 L = true) (h : Within L s0 s) : Within L s0
      (idleEnd a0 s) := by
  delta idleEnd
  refine ite_ind ?_ ?_
  · assumption
  · exact within_beginLadder (sub_of hL rfl) (by assumption)

theorem within_execIdlePatternEnd {a0 a1} (hL : sub 2535610691369382366837263564800 L = true) (h : Within L s0 s) :
      WithinN L s0 (execIdlePatternEnd a0 a1 s) := by
  delta execIdlePatternEnd
  refine withinN_next ?_
  refine within_idleEnd (sub_of hL rfl) ?_
  exact within_at (sub_of hL rfl) (by assumption)

theorem within_linkRetry {a0 a1} (hL : sub 2535610690188790746119860649984 L = true) (h : Within L s0 s) : Within L
      s0 (linkRetry a0 a1 s) := by
  delta linkRetry
  refine ite_ind ?_ ?_
  · exact within_enterTraining (sub_of hL rfl) (by assumption)
  · assumption

theorem within_execLinkRetry {a0 a1} (hL : sub 2535610691369382366837271953408 L = true) (h : Within L s0 s) :
      WithinN L s0 (execLinkRetry a0 a1 s) := by
  delta execLinkRetry
  refine withinN_next ?_
  refine within_linkRetry (sub_of hL rfl) ?_
  exact within_at (sub_of hL rfl) (by assumption)

theorem within_execTrainAttemptEnd {a0 a1 a2} (hL : sub 2535610691369382366837271953408 L = true) (h : Within L s0
      s) : WithinN L s0 (execTrainAttemptEnd a0 a1 a2 s) := by
  delta execTrainAttemptEnd
  refine withinN_next ?_
  refine within_attemptEnd (sub_of hL rfl) ?_
  exact within_at (sub_of hL rfl) (by assumption)

theorem within_hpdUnplug {a0} (hL : sub 2535610690188790746119860649984 L = true) (h : Within L s0 s) : Within L s0
      (hpdUnplug a0 s) := by
  delta hpdUnplug
  refine ite_ind ?_ ?_
  · assumption
  · extract_lets +onlyGivenNames -merge -useContext -underBinder x4_0 x4_1
    have hx4_0 : Within L s0 x4_0 := by
      exact within_set (sub_of hL rfl) (by assumption)
    clear_value x4_0 x4_1
    refine ite_ind ?_ ?_
    · assumption
    · extract_lets +onlyGivenNames -merge -useContext -underBinder x6_0 x6_1 x6_2
      clear_value x6_0
      have hx6_1 : Within L s0 x6_1 := by
        refine within_dpoEvent (sub_of hL rfl) ?_
        refine within_showLink (sub_of hL rfl) ?_
        exact within_setDpo (sub_of hL rfl) (by assumption)
      clear_value x6_1
      have hx6_2 : Within L s0 x6_2 := by
        refine ite_ind ?_ ?_
        · exact within_logError (sub_of hL rfl) (sub_of hL rfl) (by assumption)
        · assumption
      clear_value x6_2
      exact within_showDpo (sub_of hL rfl) (by assumption)

theorem within_portDisable {a0} (hL : sub 309485009965460256809025536 L = true) (h : Within L s0 s) : Within L s0
      (portDisable a0 s) := by
  delta portDisable
  refine ite_ind ?_ ?_
  · assumption
  · refine within_showDpo (sub_of hL rfl) ?_
    refine within_showLink (sub_of hL rfl) ?_
    exact within_setDpo (sub_of hL rfl) (by assumption)

theorem within_portEnable {a0} (hL : sub 2535610690188790746119860649984 L = true) (h : Within L s0 s) : Within L
      s0 (portEnable a0 s) := by
  delta portEnable
  refine ite_ind ?_ ?_
  · assumption
  · extract_lets +onlyGivenNames -merge -useContext -underBinder x4_0
    have hx4_0 : Within L s0 x4_0 := by
      exact within_showDpo (sub_of hL rfl) (by assumption)
    clear_value x4_0
    refine ite_ind ?_ ?_
    · exact within_plugIn (sub_of hL rfl) (by assumption)
    · assumption

theorem within_portFrame {a0} (hL : sub 2535610690188790746119852261376 L = true) (h : Within L s0 s) : Within L s0
      (portFrame a0 s) := by
  delta portFrame
  extract_lets +onlyGivenNames -merge -useContext -underBinder x2_0
  clear_value x2_0
  refine ite_ind ?_ ?_
  · assumption
  · extract_lets +onlyGivenNames -merge -useContext -underBinder x4_0
    have hx4_0 : Within L s0 x4_0 := by
      refine within_showDpo (sub_of hL rfl) ?_
      exact within_setDpo (sub_of hL rfl) (by assumption)
    clear_value x4_0
    refine ite_ind ?_ ?_
    · exact within_dpoEvent (sub_of hL rfl) (by assumption)
    · assumption

theorem within_portLeave {a0} (hL : sub 309485009965460256809025536 L = true) (h : Within L s0 s) : Within L s0
      (portLeave a0 s) := by
  delta portLeave
  refine ite_ind ?_ ?_
  · assumption
  · extract_lets +onlyGivenNames -merge -useContext -underBinder x4_0
    clear_value x4_0
    refine within_showDpo (sub_of hL rfl) ?_
    refine within_showLink (sub_of hL rfl) ?_
    exact within_setDpo (sub_of hL rfl) (by assumption)

theorem within_portRetimed {a0} (hL : sub 2535610690188790746119860649984 L = true) (h : Within L s0 s) : Within L
      s0 (portRetimed a0 s) := by
  delta portRetimed
  refine ite_ind ?_ ?_
  · assumption
  · refine ite_ind ?_ ?_
    · assumption
    · exact within_blankPort (sub_of hL rfl) (by assumption)

theorem within_portReturn {a0} (hL : sub 2535610690188790746119860649984 L = true) (h : Within L s0 s) : Within L
      s0 (portReturn a0 s) := by
  delta portReturn
  refine ite_ind ?_ ?_
  · assumption
  · extract_lets +onlyGivenNames -merge -useContext -underBinder x4_0 x4_1
    clear_value x4_0
    have hx4_1 : Within L s0 x4_1 := by
      exact within_setDpo (sub_of hL rfl) (by assumption)
    clear_value x4_1
    refine ite_ind ?_ ?_
    · exact within_showDpo (sub_of hL rfl) (by assumption)
    · refine ite_ind ?_ ?_
      · exact within_enterTraining (sub_of hL rfl) (by assumption)
      · exact within_showDpo (sub_of hL rfl) (by assumption)

theorem within_portStart {a0} (hL : sub 2535610690188790746119860649984 L = true) (h : Within L s0 s) : Within L s0
      (portStart a0 s) := by
  delta portStart
  refine ite_ind ?_ ?_
  · assumption
  · refine ite_ind ?_ ?_
    · exact within_setDpo (sub_of hL rfl) (by assumption)
    · exact within_blankPort (sub_of hL rfl) (by assumption)

theorem within_portStop {a0} (hL : sub 309485009965460256800636928 L = true) (h : Within L s0 s) : Within L s0
      (portStop a0 s) := by
  delta portStop
  refine ite_ind ?_ ?_
  · assumption
  · refine ite_ind ?_ ?_
    · refine within_showDpo (sub_of hL rfl) ?_
      exact within_setDpo (sub_of hL rfl) (by assumption)
    · assumption

theorem within_writeAux {a0 a1 a2} (hL : sub 2535610690188790746119860649984 L = true) (h : Within L s0 s) : Within
      L s0 (writeAux a0 a1 a2 s) := by
  delta writeAux
  refine ite_ind ?_ ?_
  · exact within_logAccess (sub_of hL rfl) (sub_of hL rfl) (by assumption)
  · refine ite_ind ?_ ?_
    · assumption
    · refine ite_ind ?_ ?_
      · exact within_auxEnd (sub_of hL rfl) (by assumption)
      · extract_lets +onlyGivenNames -merge -useContext -underBinder x8_0 x8_1
        clear_value x8_0
        have hx8_1 : Within L s0 x8_1 := by
          refine within_set (sub_of hL rfl) ?_
          exact within_setDpo (sub_of hL rfl) (by assumption)
        clear_value x8_1
        refine ite_ind ?_ ?_
        · assumption
        · exact within_auxBegin (sub_of hL rfl) (by assumption)

end Sys2Proof.Machine
end

