-- ==== Sys2Proof/Laws/WithinHeads.lean ====
section
/-! SUPPORT. Which parts of a state each operation of Heads.lean may write. -/

namespace Sys2Proof.Machine

variable {L : Nat} {s0 s : State}

theorem within_readTables {a0} (hL : sub 108086395358150656 L = true) (h : Within L s0 s) : Within L s0 (readTables
      a0 s) := by
  delta readTables
  extract_lets +onlyGivenNames -merge -useContext -underBinder x2_0
  have hx2_0 : Within L s0 x2_0 := by
    exact within_applyGroup (sub_of hL rfl) (sub_of hL rfl) (sub_of hL rfl) (by assumption)
  clear_value x2_0
  refine within_forEach (fun _ _ _ => ?_) ?_
  · refine ite_ind ?_ ?_
    · show Within3 L s0 _
      exact within_dramRead (sub_of hL rfl) (by assumption)
    · assumption
  · assumption

theorem within_applyLay {a0 a1 a2} (hL : sub 78580178274950896355901440 L = true) (h : Within L s0 s) : Within L s0
      (applyLay a0 a1 a2 s) := by
  delta applyLay
  extract_lets +onlyGivenNames -merge -useContext -underBinder x2_0 x2_1 x2_2 x2_3 x2_4
  clear_value x2_0 x2_1 x2_2 x2_3
  have hx2_4 : Within L s0 x2_4 := by
    refine ite_ind ?_ ?_
    · exact within_setDirect (sub_of hL rfl) (by assumption)
    · assumption
  clear_value x2_4
  refine ite_ind ?_ ?_
  · exact within_setLay (sub_of hL rfl) (by assumption)
  · refine ite_ind ?_ ?_
    · exact within_setLay (sub_of hL rfl) (by assumption)
    · refine ite_ind ?_ ?_
      · exact within_setLay (sub_of hL rfl) (by assumption)
      · exact within_setLay (sub_of hL rfl) (by assumption)

theorem within_judgeSkips {a0} (hL : sub 2535378576431316650927251783680 L = true) (h : Within L s0 s) : Within L
      s0 (judgeSkips a0 s) := by
  delta judgeSkips
  extract_lets +onlyGivenNames -merge -useContext -underBinder x2_0 x2_1 x2_2
  clear_value x2_0 x2_1
  have hx2_2 : Within L s0 x2_2 := by
    refine within_forEach (fun _ _ _ => ?_) ?_
    · exact within_setLay (sub_of hL rfl) (by assumption)
    · assumption
  clear_value x2_2
  exact within_raiseIf (sub_of hL rfl) (sub_of hL rfl) (by assumption)

theorem within_setClock {a0 a1} (hL : sub 154742504910672534364487680 L = true) (h : Within L s0 s) : Within L s0
      (setClock a0 a1 s) := by
  delta setClock
  refine within_setSat (sub_of hL rfl) ?_
  exact within_setHead (sub_of hL rfl) (by assumption)

theorem within_beginBlank {a0 a1} (hL : sub 154742504910672534362390528 L = true) (h : Within L s0 s) : Within L s0
      (beginBlank a0 a1 s) := by
  delta beginBlank
  extract_lets +onlyGivenNames -merge -useContext -underBinder x2_0
  clear_value x2_0
  exact within_setHead (sub_of hL rfl) (by assumption)

theorem within_restartRef {a0 a1} (hL : sub 154742504946701331383451648 L = true) (h : Within L s0 s) : Within L s0
      (restartRef a0 a1 s) := by
  delta restartRef
  extract_lets +onlyGivenNames -merge -useContext -underBinder x2_0 x2_1
  clear_value x2_0
  have hx2_1 : Within L s0 x2_1 := by
    exact within_setHead (sub_of hL rfl) (by assumption)
  clear_value x2_1
  refine ite_ind ?_ ?_
  · refine within_setClock (sub_of hL rfl) ?_
    exact within_setState (sub_of hL rfl) (by assumption)
  · exact within_setState (sub_of hL rfl) (by assumption)

theorem within_headEvent {a0 a1} (hL : sub 2535301205178861314660070588416 L = true) (h : Within L s0 s) : Within L
      s0 (headEvent a0 a1 s) := by
  delta headEvent
  exact within_raise (sub_of hL rfl) (sub_of hL rfl) (by assumption)

theorem within_startHead {a0 a1} (hL : sub 2535842803946192783718425296896 L = true) (h : Within L s0 s) : Within L
      s0 (startHead a0 a1 s) := by
  delta startHead
  extract_lets +onlyGivenNames -merge -useContext -underBinder x2_0 x2_1 x2_2 x2_3 x2_4
  clear_value x2_0
  have hx2_1 : Within L s0 x2_1 := by
    exact within_setHead (sub_of hL rfl) (by assumption)
  clear_value x2_1
  have hx2_2 : Within L s0 x2_2 := by
    exact within_setClock (sub_of hL rfl) (by assumption)
  clear_value x2_2
  have hx2_3 : Within L s0 x2_3 := by
    refine within_beginBlank (sub_of hL rfl) ?_
    exact within_restartRef (sub_of hL rfl) (by assumption)
  clear_value x2_3
  have hx2_4 : Within L s0 x2_4 := by
    refine within_forEach (fun _ _ _ => ?_) ?_
    · exact within_setLay (sub_of hL rfl) (by assumption)
    · assumption
  clear_value x2_4
  refine within_headEvent (sub_of hL rfl) ?_
  refine within_forEach (fun _ _ _ => ?_) ?_
  · exact within_portStart (sub_of hL rfl) (by assumption)
  · assumption

theorem within_stopHead {a0} (hL : sub 464227514912161588184088576 L = true) (h : Within L s0 s) : Within L s0
      (stopHead a0 s) := by
  delta stopHead
  extract_lets +onlyGivenNames -merge -useContext -underBinder x2_0 x2_1
  clear_value x2_0
  have hx2_1 : Within L s0 x2_1 := by
    refine within_setState (sub_of hL rfl) ?_
    exact within_setHead (sub_of hL rfl) (by assumption)
  clear_value x2_1
  refine within_forEach (fun _ _ _ => ?_) ?_
  · exact within_portStop (sub_of hL rfl) (by assumption)
  · exact within_set (sub_of hL rfl) (by assumption)

theorem within_layerEvent {a0 a1} (hL : sub 2535301205178861314660072685568 L = true) (h : Within L s0 s) : Within
      L s0 (layerEvent a0 a1 s) := by
  delta layerEvent
  refine within_headEvent (sub_of hL rfl) ?_
  exact within_set (sub_of hL rfl) (by assumption)

theorem within_feedLook {a0 a1 a2 a3} (hL : sub 2535339890805161040387705405440 L = true) (h : Within L s0 s) :
      Within3 L s0 (feedLook a0 a1 a2 a3 s) := by
  delta feedLook
  extract_lets +onlyGivenNames -merge -useContext -underBinder x2_0 x2_1 x2_2
  clear_value x2_0 x2_1
  have hx2_2 : Within L s0 x2_2 := by
    exact within_setBuf (sub_of hL rfl) (by assumption)
  clear_value x2_2
  refine ite_ind ?_ ?_
  · refine within3_mk ?_
    assumption
  · refine ite_ind ?_ ?_
    · refine within3_mk ?_
      refine within_raise (sub_of hL rfl) (sub_of hL rfl) ?_
      refine within_inc (sub_of hL rfl) ?_
      exact within_set (sub_of hL rfl) (by assumption)
    · refine ite_ind ?_ ?_
      · refine within3_mk ?_
        assumption
      · refine within3_mk ?_
        refine within_layerEvent (sub_of hL rfl) ?_
        exact within_inc (sub_of hL rfl) (by assumption)

theorem within_feedTake {a0} (hL : sub 2535417262057616376654886600704 L = true) (h : Within L s0 s) : Within2 L s0
      (feedTake a0 s) := by
  delta feedTake
  extract_lets +onlyGivenNames -merge -useContext -underBinder x2_0
  have hx2_0 : Within L s0 x2_0 := by
    exact within_set (sub_of hL rfl) (by assumption)
  clear_value x2_0
  split
  · rename_i v2_0 v2_1 v2_2 q2_0
    have hv2_2 : Within L s0 v2_2 := within3_eq q2_0 (by
      refine foldl_ind (fun _ _ _ => ?_) ?_
      · refine within_feedLook (sub_of hL rfl) ?_
        show Within3 L s0 _
        assumption
      · refine within3_mk ?_
        assumption)
    split
    · refine within2_mk ?_
      assumption
    · extract_lets +onlyGivenNames -merge -useContext -underBinder x6_0 x6_1 x6_2
      have hx6_0 : Within L s0 x6_0 := by
        exact within_incBy (sub_of hL rfl) (by assumption)
      clear_value x6_0 x6_1
      have hx6_2 : Within L s0 x6_2 := by
        exact within_setLay (sub_of hL rfl) (by assumption)
      clear_value x6_2
      refine within2_mk ?_
      assumption

theorem within_showLay {a0} (hL : sub 72057594042122240 L = true) (h : Within L s0 s) : Within L s0 (showLay a0 s)
      := by
  delta showLay
  extract_lets +onlyGivenNames -merge -useContext -underBinder x2_0 x2_1 x2_2
  clear_value x2_0
  have hx2_1 : Within L s0 x2_1 := by
    exact within_set (sub_of hL rfl) (by assumption)
  clear_value x2_1
  have hx2_2 : Within L s0 x2_2 := by
    exact within_set (sub_of hL rfl) (by assumption)
  clear_value x2_2
  exact within_setState (sub_of hL rfl) (by assumption)

theorem within_settleLay {a0 a1} (hL : sub 2535417262057634391053397131264 L = true) (h : Within L s0 s) : Within L
      s0 (settleLay a0 a1 s) := by
  delta settleLay
  extract_lets +onlyGivenNames -merge -useContext -underBinder x2_0 x2_1
  clear_value x2_0 x2_1
  split
  · rename_i v2_0 v2_1 q2_0
    have hv2_1 : Within L s0 v2_1 := within2_eq q2_0 (by
      refine ite_ind ?_ ?_
      · refine ite_ind ?_ ?_
        · exact within_feedTake (sub_of hL rfl) (by assumption)
        · refine within2_mk ?_
          assumption
      · extract_lets +onlyGivenNames -merge -useContext -underBinder x8_0
        clear_value x8_0
        refine within2_mk ?_
        exact within_setLay (sub_of hL rfl) (by assumption))
    extract_lets +onlyGivenNames -merge -useContext -underBinder x4_0 x4_1 x4_2 x4_3 x4_4 x4_5 x4_6 x4_7 x4_8
    clear_value x4_0 x4_1 x4_2 x4_3
    have hx4_4 : Within L s0 x4_4 := by
      exact within_setLay (sub_of hL rfl) (by assumption)
    clear_value x4_4
    have hx4_5 : Within L s0 x4_5 := by
      unfold x4_5
      split
      · exact within_claimFetch (sub_of hL rfl) (by assumption)
      · assumption
    clear_value x4_5
    have hx4_6 : Within L s0 x4_6 := by
      refine ite_ind ?_ ?_
      · assumption
      · split
        · exact within_dropFetch (sub_of hL rfl) (by assumption)
        · assumption
    clear_value x4_6
    have hx4_7 : Within L s0 x4_7 := by
      refine within_forEach (fun _ _ _ => ?_) ?_
      · exact within_loseOwner (sub_of hL rfl) (by assumption)
      · assumption
    clear_value x4_7
    have hx4_8 : Within L s0 x4_8 := by
      unfold x4_8
      split
      · refine ite_ind ?_ ?_
        · exact within_set (sub_of hL rfl) (by assumption)
        · assumption
      · assumption
    clear_value x4_8
    refine within_showLay (sub_of hL rfl) ?_
    exact within_set (sub_of hL rfl) (by assumption)

theorem within_dropUnfed (hL : sub 2535339890805070968395152752640 L = true) (h : Within L s0 s) : Within L s0
      (dropUnfed s) := by
  delta dropUnfed
  refine within_forEach (fun _ _ _ => ?_) ?_
  · exact within_loseOwner (sub_of hL rfl) (by assumption)
  · assumption

theorem within_refreshFrayPin (hL : sub 20282409603651670423947251286016 L = true) (h : Within L s0 s) : Within L
      s0 (refreshFrayPin s) := by
  delta refreshFrayPin
  extract_lets +onlyGivenNames -merge -useContext -underBinder x2_0
  clear_value x2_0
  refine within_upd_pins (sub_of hL rfl) ?_
  assumption

theorem within_setStale {a0 a1 a2} (hL : sub 2535301205179185573833262235648 L = true) (h : Within L s0 s) : Within
      L s0 (setStale a0 a1 a2 s) := by
  delta setStale
  refine ite_ind h ?_
  extract_lets +onlyGivenNames -merge -useContext -underBinder s1 s2 f s3
  have h1 : Within L s0 s1 := within_set (sub_of hL rfl) h
  clear_value s1
  have h2 : Within L s0 s2 := by
    refine ite_ind ?_ (within_raise (sub_of hL rfl) (sub_of hL rfl) h1)
    exact within_raise (sub_of hL rfl) (sub_of hL rfl) (within_inc (sub_of hL rfl)
      (within_logError (sub_of hL rfl) (sub_of hL rfl) h1))
  clear_value s2
  have h3 : Within L s0 s3 := by
    refine within_set ?_ h2
    change sub (partW (if a0 < 32 then Reg.chk_FRAY_STALE_LO_STALE else Reg.chk_FRAY_STALE_HI_STALE).blk) L = true
    split <;> exact sub_of hL rfl
  exact within_raise (sub_of hL rfl) (sub_of hL rfl) (within_set (sub_of hL rfl) h3)

theorem within_frayVblank {a0 a1} (hL : sub 2535378576431640910100443430912 L = true) (h : Within L s0 s) : Within
      L s0 (frayVblank a0 a1 s) := by
  delta frayVblank
  extract_lets +onlyGivenNames -merge -useContext -underBinder x2_0 x2_1 x2_2 x2_3 x2_4 x2_5 x2_6 x2_7 x2_8 x2_9
  clear_value x2_0 x2_1
  have hx2_2 : Within L s0 x2_2 := by
    unfold x2_2
    split
    · refine ite_ind ?_ ?_
      · extract_lets +onlyGivenNames -merge -useContext -underBinder x8_0 x8_1
        have hx8_0 : Within L s0 x8_0 := by
          refine ite_ind ?_ ?_
          · exact within_inc (sub_of hL rfl) (by assumption)
          · assumption
        clear_value x8_0
        have hx8_1 : Within L s0 x8_1 := by
          refine ite_ind ?_ ?_
          · exact within_inc (sub_of hL rfl) (by assumption)
          · assumption
        clear_value x8_1
        exact within_setLay (sub_of hL rfl) (by assumption)
      · assumption
    · assumption
  clear_value x2_2 x2_3 x2_4 x2_5
  have hx2_6 : Within L s0 x2_6 := by
    exact within_setSat (sub_of hL rfl) (by assumption)
  clear_value x2_6
  have hx2_7 : Within L s0 x2_7 := by
    refine ite_ind ?_ ?_
    · exact within_setStale (sub_of hL rfl) (by assumption)
    · exact within_setStale (sub_of hL rfl) (by assumption)
  clear_value x2_7 x2_8 x2_9
  exact within_set (sub_of hL rfl) (by assumption)

theorem within_applyHead {a0 a1} (hL : sub 22818292302150288792797163028488 L = true) (h : Within L s0 s) : Within
      L s0 (applyHead a0 a1 s) := by
  delta applyHead
  extract_lets +onlyGivenNames -merge -useContext -underBinder x2_0 x2_1 x2_2 x2_3 x2_4 x2_5 x2_6 x2_7 x2_8 x2_9 x2_10 x2_11 x2_12 x2_13
  have hx2_0 : Within L s0 x2_0 := by
    refine within_commitDone (sub_of hL rfl) (sub_of hL rfl) ?_
    exact within_applyGroup (sub_of hL rfl) (sub_of hL rfl) (sub_of hL rfl) (by assumption)
  clear_value x2_0 x2_1
  have hx2_2 : Within L s0 x2_2 := by
    exact within_setHead (sub_of hL rfl) (by assumption)
  clear_value x2_2
  have hx2_3 : Within L s0 x2_3 := by
    refine within_set (sub_of hL rfl) ?_
    exact within_set (sub_of hL rfl) (by assumption)
  clear_value x2_3
  have hx2_4 : Within L s0 x2_4 := by
    refine within_forEach (fun _ _ _ => ?_) ?_
    · exact within_applyLay (sub_of hL rfl) (by assumption)
    · assumption
  clear_value x2_4
  have hx2_5 : Within L s0 x2_5 := by
    refine within_refreshPace (sub_of hL rfl) ?_
    exact within_judgeSkips (sub_of hL rfl) (by assumption)
  clear_value x2_5 x2_6
  have hx2_7 : Within L s0 x2_7 := by
    exact within_raiseIf (sub_of hL rfl) (sub_of hL rfl) (by assumption)
  clear_value x2_7 x2_8 x2_9
  have hx2_10 : Within L s0 x2_10 := by
    refine ite_ind ?_ ?_
    · refine within_forEach (fun _ _ _ => ?_) ?_
      · exact within_portRetimed (sub_of hL rfl) (by assumption)
      · refine within_beginBlank (sub_of hL rfl) ?_
        refine within_setClock (sub_of hL rfl) ?_
        exact within_setHead (sub_of hL rfl) (by assumption)
    · assumption
  clear_value x2_10
  have hx2_11 : Within L s0 x2_11 := by
    refine ite_ind ?_ ?_
    · refine ite_ind ?_ ?_
      · exact within_startHead (sub_of hL rfl) (by assumption)
      · refine ite_ind ?_ ?_
        · exact within_restartRef (sub_of hL rfl) (by assumption)
        · assumption
    · refine ite_ind ?_ ?_
      · exact within_stopHead (sub_of hL rfl) (by assumption)
      · assumption
  clear_value x2_11
  have hx2_12 : Within L s0 x2_12 := by
    refine within_forEach (fun _ _ _ => ?_) ?_
    · exact within_settleLay (sub_of hL rfl) (by assumption)
    · assumption
  clear_value x2_12
  have hx2_13 : Within L s0 x2_13 := by
    exact within_dropUnfed (sub_of hL rfl) (by assumption)
  clear_value x2_13
  refine within_refreshFrayPin (sub_of hL rfl) ?_
  refine within_forEach (fun _ _ _ => ?_) ?_
  · refine ite_ind ?_ ?_
    · exact within_frayVblank (sub_of hL rfl) (by assumption)
    · refine ite_ind ?_ ?_
      · assumption
      · exact within_setStale (sub_of hL rfl) (by assumption)
  · assumption

theorem within_evaluateHead {a0 a1} (hL : sub 22818292302150288792801457995784 L = true) (h : Within L s0 s) :
      Within L s0 (evaluateHead a0 a1 s) := by
  delta evaluateHead
  extract_lets +onlyGivenNames -merge -useContext -underBinder x2_0
  have hx2_0 : Within L s0 x2_0 := by
    exact within_readTables (sub_of hL rfl) (by assumption)
  clear_value x2_0
  split
  · exact within_commitReject (sub_of hL rfl) (sub_of hL rfl) (by assumption)
  · split
    · exact within_commitReject (sub_of hL rfl) (sub_of hL rfl) (by assumption)
    · extract_lets +onlyGivenNames -merge -useContext -underBinder x6_0
      have hx6_0 : Within L s0 x6_0 := by
        exact within_set (sub_of hL rfl) (by assumption)
      clear_value x6_0
      split
      · exact within_applyHead (sub_of hL rfl) (by assumption)
      · extract_lets +onlyGivenNames -merge -useContext -underBinder x8_0 x8_1
        clear_value x8_0 x8_1
        refine ite_ind ?_ ?_
        · extract_lets +onlyGivenNames -merge -useContext -underBinder x10_0 x10_1 x10_2
          have hx10_0 : Within L s0 x10_0 := by
            refine within_inc (sub_of hL rfl) ?_
            exact within_setHead (sub_of hL rfl) (by assumption)
          clear_value x10_0
          have hx10_2 : Within L s0 x10_2 := by
            exact within_setHdr (sub_of hL rfl) (by assumption)
          clear_value x10_2
          refine within_headEvent (sub_of hL rfl) ?_
          exact within_raise (sub_of hL rfl) (sub_of hL rfl) (by assumption)
        · extract_lets +onlyGivenNames -merge -useContext -underBinder x10_0 x10_1
          have hx10_0 : Within L s0 x10_0 := by
            exact within_setHead (sub_of hL rfl) (by assumption)
          clear_value x10_0
          have hx10_1 : Within L s0 x10_1 := by
            exact within_setSat (sub_of hL rfl) (by assumption)
          clear_value x10_1
          refine within_layerEvent (sub_of hL rfl) ?_
          refine within_commitDefer (sub_of hL rfl) (sub_of hL rfl) ?_
          exact within_inc (sub_of hL rfl) (by assumption)

theorem within_afterCompletions {a0} (hL : sub 22818292302150288792801457995784 L = true) (h : Within L s0 s) :
      Within L s0 (afterCompletions a0 s) := by
  delta afterCompletions
  extract_lets +onlyGivenNames -merge -useContext -underBinder x2_0
  clear_value x2_0
  refine ite_ind ?_ ?_
  · assumption
  · refine within_forEach (fun _ _ _ => ?_) ?_
    · extract_lets +onlyGivenNames -merge -useContext -underBinder x6_0
      refine ite_ind ?_ ?_
      · assumption
      · extract_lets +onlyGivenNames -merge -useContext -underBinder x8_0
        have hx8_0 : Within L s0 x8_0 := by
          exact within_applyGroup (sub_of hL rfl) (sub_of hL rfl) (sub_of hL rfl) (by assumption)
        clear_value x8_0
        refine ite_ind ?_ ?_
        · exact within_evaluateHead (sub_of hL rfl) (by assumption)
        · assumption
    · assumption

theorem within_missRow {a0} (hL : sub 2535379785357208323150470709248 L = true) (h : Within L s0 s) : Within L s0
      (missRow a0 s) := by
  delta missRow
  extract_lets +onlyGivenNames -merge -useContext -underBinder x2_0 x2_1 x2_2 x2_3
  clear_value x2_0
  have hx2_1 : Within L s0 x2_1 := by
    unfold x2_1
    split
    · exact within_updDirect (sub_of hL rfl) (by assumption)
    · assumption
  clear_value x2_1
  have hx2_2 : Within L s0 x2_2 := by
    exact within_setLay (sub_of hL rfl) (by assumption)
  clear_value x2_2
  have hx2_3 : Within L s0 x2_3 := by
    refine within_inc (sub_of hL rfl) ?_
    exact within_inc (sub_of hL rfl) (by assumption)
  clear_value x2_3
  refine within_showLay (sub_of hL rfl) ?_
  exact within_layerEvent (sub_of hL rfl) (by assumption)

theorem within_directLineStart {a0 a1} (hL : sub 2535379785357208323150470709248 L = true) (h : Within L s0 s) :
      Within L s0 (directLineStart a0 a1 s) := by
  delta directLineStart
  extract_lets +onlyGivenNames -merge -useContext -underBinder x2_0 x2_1
  clear_value x2_0 x2_1
  refine ite_ind ?_ ?_
  · assumption
  · split
    · refine ite_ind ?_ ?_
      · exact within_missRow (sub_of hL rfl) (by assumption)
      · assumption
    · refine ite_ind ?_ ?_
      · exact within_missRow (sub_of hL rfl) (by assumption)
      · refine ite_ind ?_ ?_
        · extract_lets +onlyGivenNames -merge -useContext -underBinder x10_0
          clear_value x10_0
          refine within_set (sub_of hL rfl) ?_
          exact within_setLay (sub_of hL rfl) (by assumption)
        · assumption

theorem within_pickDirect {a0 a1} (hL : sub 78580178274950896355901440 L = true) (h : Within L s0 s) : Within L s0
      (pickDirect a0 a1 s) := by
  delta pickDirect
  extract_lets +onlyGivenNames -merge -useContext -underBinder x2_0 x2_1 x2_2 x2_3 x2_4 x2_5
  clear_value x2_0 x2_1 x2_2 x2_3 x2_4
  have hx2_5 : Within L s0 x2_5 := by
    exact within_setDirect (sub_of hL rfl) (by assumption)
  clear_value x2_5
  exact within_setLay (sub_of hL rfl) (by assumption)

theorem within_headFrame {a0 a1} (hL : sub 2536462982891691117282064334848 L = true) (h : Within L s0 s) : Within L
      s0 (headFrame a0 a1 s) := by
  delta headFrame
  extract_lets +onlyGivenNames -merge -useContext -underBinder x2_0
  clear_value x2_0
  refine ite_ind ?_ ?_
  · assumption
  · extract_lets +onlyGivenNames -merge -useContext -underBinder x4_0 x4_1 x4_2 x4_3 x4_4 x4_5
    have hx4_0 : Within L s0 x4_0 := by
      exact within_setHead (sub_of hL rfl) (by assumption)
    clear_value x4_0 x4_1
    have hx4_2 : Within L s0 x4_2 := by
      refine within_set (sub_of hL rfl) ?_
      exact within_set (sub_of hL rfl) (by assumption)
    clear_value x4_2
    have hx4_3 : Within L s0 x4_3 := by
      exact within_inc (sub_of hL rfl) (by assumption)
    clear_value x4_3
    have hx4_4 : Within L s0 x4_4 := by
      refine within_forEach (fun _ _ _ => ?_) ?_
      · exact within_portFrame (sub_of hL rfl) (by assumption)
      · assumption
    clear_value x4_4
    have hx4_5 : Within L s0 x4_5 := by
      refine within_forEach (fun _ _ _ => ?_) ?_
      · split
        · exact within_setChk (sub_of hL rfl) (by assumption)
        · assumption
      · assumption
    clear_value x4_5
    refine within_forEach (fun _ _ _ => ?_) ?_
    · refine within_showLay (sub_of hL rfl) ?_
      refine ite_ind ?_ ?_
      · exact within_pickDirect (sub_of hL rfl) (by assumption)
      · assumption
    · assumption

theorem within_execHeadFrameStart {a0 a1} (hL : sub 2536462984072282737999475638272 L = true) (h : Within L s0 s) :
      WithinN L s0 (execHeadFrameStart a0 a1 s) := by
  delta execHeadFrameStart
  refine withinN_next ?_
  refine within_headFrame (sub_of hL rfl) ?_
  exact within_at (sub_of hL rfl) (by assumption)

theorem within_fetchLine {a0 a1} (hL : sub 2535455947683771987194439270400 L = true) (h : Within L s0 s) : Within L
      s0 (fetchLine a0 a1 s) := by
  delta fetchLine
  split
  · assumption
  · extract_lets +onlyGivenNames -merge -useContext -underBinder x4_0 x4_1 x4_2 x4_3 x4_4
    clear_value x4_0 x4_1 x4_3 x4_4
    refine ite_ind ?_ ?_
    · assumption
    · extract_lets +onlyGivenNames -merge -useContext -underBinder x6_0
      have hx6_0 : Within L s0 x6_0 := by
        refine within_incBy (sub_of hL rfl) ?_
        exact within_incBy (sub_of hL rfl) (by assumption)
      clear_value x6_0
      refine within_layerEvent (sub_of hL rfl) ?_
      exact within_setHead (sub_of hL rfl) (by assumption)

theorem within_reportMargin {a0 a1} (hL : sub 154742504910672534364487680 L = true) (h : Within L s0 s) : Within L
      s0 (reportMargin a0 a1 s) := by
  delta reportMargin
  extract_lets +onlyGivenNames -merge -useContext -underBinder x2_0 x2_1 x2_2 x2_3
  clear_value x2_0 x2_1 x2_2 x2_3
  refine within_set (sub_of hL rfl) ?_
  exact within_setHead (sub_of hL rfl) (by assumption)

theorem within_sendLine {a0 a1 a2} (hL : sub 618974742009173007094775808 L = true) (h : Within L s0 s) : Within L
      s0 (sendLine a0 a1 a2 s) := by
  delta sendLine
  extract_lets +onlyGivenNames -merge -useContext -underBinder x2_0 x2_1 x2_2
  clear_value x2_0 x2_1
  have hx2_2 : Within L s0 x2_2 := by
    unfold x2_2
    split
    · refine ite_ind ?_ ?_
      · exact within_setChk (sub_of hL rfl) (by assumption)
      · assumption
    · assumption
  clear_value x2_2
  exact within_emit (sub_of hL rfl) (by assumption)

theorem within_lineStart {a0 a1 a2 a3} (hL : sub 2536153497881761685822282661888 L = true) (h : Within L s0 s) :
      Within L s0 (lineStart a0 a1 a2 a3 s) := by
  delta lineStart
  extract_lets +onlyGivenNames -merge -useContext -underBinder x2_0
  clear_value x2_0
  refine ite_ind ?_ ?_
  · assumption
  · extract_lets +onlyGivenNames -merge -useContext -underBinder x4_0 x4_1 x4_2 x4_3 x4_4 x4_5 x4_6 x4_7 x4_8 x4_9
    have hx4_0 : Within L s0 x4_0 := by
      exact within_setHead (sub_of hL rfl) (by assumption)
    clear_value x4_0
    have hx4_1 : Within L s0 x4_1 := by
      refine within_forEach (fun _ _ _ => ?_) ?_
      · extract_lets +onlyGivenNames -merge -useContext -underBinder x8_0
        clear_value x8_0
        refine ite_ind ?_ ?_
        · assumption
        · refine ite_ind ?_ ?_
          · exact within_directLineStart (sub_of hL rfl) (by assumption)
          · refine ite_ind ?_ ?_
            · exact within_fetchLine (sub_of hL rfl) (by assumption)
            · assumption
      · assumption
    clear_value x4_1
    have hx4_2 : Within L s0 x4_2 := by
      exact within_reportMargin (sub_of hL rfl) (by assumption)
    clear_value x4_2 x4_3 x4_4 x4_5
    have hx4_6 : Within L s0 x4_6 := by
      exact within_setHead (sub_of hL rfl) (by assumption)
    clear_value x4_6
    have hx4_7 : Within L s0 x4_7 := by
      exact within_incSat (sub_of hL rfl) (by assumption)
    clear_value x4_7
    have hx4_8 : Within L s0 x4_8 := by
      refine ite_ind ?_ ?_
      · refine ite_ind ?_ ?_
        · refine within_headEvent (sub_of hL rfl) ?_
          exact within_inc (sub_of hL rfl) (by assumption)
        · assumption
      · assumption
    clear_value x4_8 x4_9
    refine ite_ind ?_ ?_
    · assumption
    · extract_lets +onlyGivenNames -merge -useContext -underBinder x6_0
      clear_value x6_0
      refine within_forEach (fun _ _ _ => ?_) ?_
      · exact within_sendLine (sub_of hL rfl) (by assumption)
      · assumption

theorem within_execRasterLineStart {a0 a1 a2 a3 a4} (hL : sub 2536153499062353306539693965312 L = true) (h : Within
      L s0 s) : WithinN L s0 (execRasterLineStart a0 a1 a2 a3 a4 s) := by
  delta execRasterLineStart
  refine withinN_next ?_
  refine within_lineStart (sub_of hL rfl) ?_
  exact within_at (sub_of hL rfl) (by assumption)

theorem within_refLost {a0} (hL : sub 2535455947683771987194432978944 L = true) (h : Within L s0 s) : Within L s0
      (refLost a0 s) := by
  delta refLost
  extract_lets +onlyGivenNames -merge -useContext -underBinder x2_0
  clear_value x2_0
  refine ite_ind ?_ ?_
  · assumption
  · refine within_headEvent (sub_of hL rfl) ?_
    refine within_setState (sub_of hL rfl) ?_
    exact within_setHead (sub_of hL rfl) (by assumption)

theorem within_execRefLost {a0 a1} (hL : sub 2535455948864363607911844282368 L = true) (h : Within L s0 s) :
      WithinN L s0 (execRefLost a0 a1 s) := by
  delta execRefLost
  refine withinN_next ?_
  refine within_refLost (sub_of hL rfl) ?_
  exact within_at (sub_of hL rfl) (by assumption)

theorem within_steer {a0 a1} (hL : sub 154744866093913969187094528 L = true) (h : Within L s0 s) : Within L s0
      (steer a0 a1 s) := by
  delta steer
  extract_lets +onlyGivenNames -merge -useContext -underBinder x2_0 x2_1 x2_2 x2_3 x2_4
  clear_value x2_0 x2_1 x2_2 x2_3 x2_4
  refine within_setClock (sub_of hL rfl) ?_
  refine within_setHead (sub_of hL rfl) ?_
  exact within_fresh (sub_of hL rfl) (by assumption)

theorem within_pullIn {a0 a1 a2} (hL : sub 154744866093913969187094528 L = true) (h : Within L s0 s) : Within L s0
      (pullIn a0 a1 a2 s) := by
  delta pullIn
  extract_lets +onlyGivenNames -merge -useContext -underBinder x2_0 x2_1 x2_2
  clear_value x2_0 x2_1 x2_2
  refine ite_ind ?_ ?_
  · extract_lets +onlyGivenNames -merge -useContext -underBinder x4_0 x4_1
    clear_value x4_0 x4_1
    exact within_setHead (sub_of hL rfl) (by assumption)
  · exact within_steer (sub_of hL rfl) (by assumption)

theorem within_refTarget {a0 a1} (hL : sub 2535455950044955228629257682944 L = true) (h : Within L s0 s) : Within L
      s0 (refTarget a0 a1 s) := by
  delta refTarget
  extract_lets +onlyGivenNames -merge -useContext -underBinder x2_0
  clear_value x2_0
  refine ite_ind ?_ ?_
  · assumption
  · extract_lets +onlyGivenNames -merge -useContext -underBinder x4_0 x4_1 x4_2
    clear_value x4_0 x4_1 x4_2
    refine ite_ind ?_ ?_
    · refine within_headEvent (sub_of hL rfl) ?_
      exact within_inc (sub_of hL rfl) (by assumption)
    · extract_lets +onlyGivenNames -merge -useContext -underBinder x6_0 x6_1 x6_2 x6_3 x6_4 x6_5
      clear_value x6_0 x6_1
      have hx6_2 : Within L s0 x6_2 := by
        exact within_setHead (sub_of hL rfl) (by assumption)
      clear_value x6_2
      have hx6_3 : Within L s0 x6_3 := by
        refine ite_ind ?_ ?_
        · exact within_setState (sub_of hL rfl) (by assumption)
        · assumption
      clear_value x6_3 x6_4
      have hx6_5 : Within L s0 x6_5 := by
        exact within_set (sub_of hL rfl) (by assumption)
      clear_value x6_5
      refine ite_ind ?_ ?_
      · refine ite_ind ?_ ?_
        · exact within_steer (sub_of hL rfl) (by assumption)
        · refine within_pullIn (sub_of hL rfl) ?_
          refine within_headEvent (sub_of hL rfl) ?_
          refine within_setState (sub_of hL rfl) ?_
          exact within_setHead (sub_of hL rfl) (by assumption)
      · extract_lets +onlyGivenNames -merge -useContext -underBinder x8_0 x8_1
        clear_value x8_0
        have hx8_1 : Within L s0 x8_1 := by
          exact within_setHead (sub_of hL rfl) (by assumption)
        clear_value x8_1
        refine ite_ind ?_ ?_
        · refine within_steer (sub_of hL rfl) ?_
          refine within_headEvent (sub_of hL rfl) ?_
          refine within_setState (sub_of hL rfl) ?_
          exact within_setHead (sub_of hL rfl) (by assumption)
        · exact within_pullIn (sub_of hL rfl) (by assumption)

theorem within_execRefTarget {a0 a1} (hL : sub 2535455951225546849346668986368 L = true) (h : Within L s0 s) :
      WithinN L s0 (execRefTarget a0 a1 s) := by
  delta execRefTarget
  refine withinN_next ?_
  refine within_refTarget (sub_of hL rfl) ?_
  exact within_at (sub_of hL rfl) (by assumption)

theorem within_sendSecondary {a0 a1 a2} (hL : sub 618974742009173007111553024 L = true) (h : Within L s0 s) :
      Within L s0 (sendSecondary a0 a1 a2 s) := by
  delta sendSecondary
  refine ite_ind ?_ ?_
  · assumption
  · extract_lets +onlyGivenNames -merge -useContext -underBinder x4_0 x4_1
    have hx4_0 : Within L s0 x4_0 := by
      exact within_emit (sub_of hL rfl) (by assumption)
    clear_value x4_0
    have hx4_1 : Within L s0 x4_1 := by
      refine ite_ind ?_ ?_
      · exact within_emit (sub_of hL rfl) (by assumption)
      · assumption
    clear_value x4_1
    split
    · assumption
    · refine ite_ind ?_ ?_
      · assumption
      · extract_lets +onlyGivenNames -merge -useContext -underBinder x8_0 x8_1 x8_2 x8_3 x8_4 x8_5
        clear_value x8_0 x8_1 x8_2 x8_3
        have hx8_4 : Within L s0 x8_4 := by
          refine within_kset (sub_of hL rfl) ?_
          exact within_setChk (sub_of hL rfl) (by assumption)
        clear_value x8_4
        have hx8_5 : Within L s0 x8_5 := by
          refine within_kset (sub_of hL rfl) ?_
          exact within_kset (sub_of hL rfl) (by assumption)
        clear_value x8_5
        exact within_emit (sub_of hL rfl) (by assumption)

theorem within_headVblank {a0 a1} (hL : sub 22818911272169931482938907557896 L = true) (h : Within L s0 s) : Within
      L s0 (headVblank a0 a1 s) := by
  delta headVblank
  refine ite_ind ?_ ?_
  · assumption
  · extract_lets +onlyGivenNames -merge -useContext -underBinder x4_0 x4_1 x4_2 x4_3 x4_4 x4_5 x4_6
    have hx4_0 : Within L s0 x4_0 := by
      assumption
    clear_value x4_0
    have hx4_1 : Within L s0 x4_1 := by
      exact within_set (sub_of hL rfl) (by assumption)
    clear_value x4_1
    have hx4_2 : Within L s0 x4_2 := by
      refine within_headEvent (sub_of hL rfl) ?_
      exact within_beginBlank (sub_of hL rfl) (by assumption)
    clear_value x4_2
    have hx4_4 : Within L s0 x4_4 := by
      refine ite_ind ?_ ?_
      · exact within_evaluateHead (sub_of hL rfl) (by assumption)
      · assumption
    clear_value x4_4
    have hx4_5 : Within L s0 x4_5 := by
      refine within_forEach (fun _ _ _ => ?_) ?_
      · exact within_settleLay (sub_of hL rfl) (by assumption)
      · assumption
    clear_value x4_5
    have hx4_6 : Within L s0 x4_6 := by
      refine ite_ind ?_ ?_
      · refine within_refreshFrayPin (sub_of hL rfl) ?_
        refine within_forEach (fun _ _ _ => ?_) ?_
        · exact within_frayVblank (sub_of hL rfl) (by assumption)
        · assumption
      · assumption
    clear_value x4_6
    refine within_forEach (fun _ _ _ => ?_) ?_
    · exact within_sendSecondary (sub_of hL rfl) (by assumption)
    · assumption

theorem within_execVblank {a0 a1} (hL : sub 22818911273350523103656318861320 L = true) (h : Within L s0 s) :
      WithinN L s0 (execVblank a0 a1 s) := by
  delta execVblank
  refine withinN_next ?_
  refine within_headVblank (sub_of hL rfl) ?_
  exact within_at (sub_of hL rfl) (by assumption)

theorem within_headStaged {a0} (hL : sub 22818292302150288792801457995784 L = true) (h : Within L s0 s) : Within L
      s0 (headStaged a0 s) := by
  delta headStaged
  refine ite_ind ?_ ?_
  · assumption
  · exact within_evaluateHead (sub_of hL rfl) (by assumption)

theorem within_resetLayPre {a0} (hL : sub 2535418470983706207261719265280 L = true) (h : Within L s0 s) : Within L
      s0 (resetLayPre a0 s) := by
  delta resetLayPre
  extract_lets +onlyGivenNames -merge -useContext -underBinder x2_0 x2_1 x2_2 x2_3 x2_4
  clear_value x2_0 x2_1
  have hx2_2 : Within L s0 x2_2 := by
    exact within_setLay (sub_of hL rfl) (by assumption)
  clear_value x2_2
  have hx2_3 : Within L s0 x2_3 := by
    unfold x2_3
    split
    · exact within_dropFetch (sub_of hL rfl) (by assumption)
    · assumption
  clear_value x2_3
  have hx2_4 : Within L s0 x2_4 := by
    unfold x2_4
    split
    · exact within_loseOwner (sub_of hL rfl) (by assumption)
    · assumption
  clear_value x2_4
  refine within_setStale (sub_of hL rfl) ?_
  exact within_setDirect (sub_of hL rfl) (by assumption)

theorem within_streamLost {a0} (hL : sub 2535455947683771987194432978944 L = true) (h : Within L s0 s) : Within L
      s0 (streamLost a0 s) := by
  delta streamLost
  refine within_forEach (fun _ _ _ => ?_) ?_
  · exact within_refLost (sub_of hL rfl) (by assumption)
  · assumption

end Sys2Proof.Machine
end

