-- ==== Sys2Proof/Laws/WithinIntake.lean ====
section
/-! SUPPORT. Which parts of a state each operation of Intake.lean may write. -/

namespace Sys2Proof.Machine

variable {L : Nat} {s0 s : State}

theorem within_afterStops {a0} (hL : sub 2535455947683771987194432978944 L = true) (h : Within L s0 s) : Within L
      s0 (afterStops a0 s) := by
  delta afterStops
  refine within_forEach (fun _ _ _ => ?_) ?_
  · exact within_streamLost (sub_of hL rfl) (by assumption)
  · assumption

theorem within_headsFollow {a0} (hL : sub 22818292302150288792801457995784 L = true) (h : Within L s0 s) : Within L
      s0 (headsFollow a0 s) := by
  delta headsFollow
  refine within_afterCompletions (sub_of hL rfl) ?_
  exact within_afterStops (sub_of hL rfl) (by assumption)

theorem within_execBenchRowDone {a0 a1 a2} (hL : sub 22818304537506706658503266119704 L = true) (h : Within L s0 s)
      : WithinN L s0 (execBenchRowDone a0 a1 a2 s) := by
  delta execBenchRowDone
  refine withinN_next ?_
  refine within_headsFollow (sub_of hL rfl) ?_
  refine within_benchRowDone (sub_of hL rfl) ?_
  exact within_at (sub_of hL rfl) (by assumption)

theorem within_execClass0RowTake {a0 a1} (hL : sub 22818304535145523417068443512856 L = true) (h : Within L s0 s) :
      WithinN L s0 (execClass0RowTake a0 a1 s) := by
  delta execClass0RowTake
  refine withinN_next ?_
  refine within_headsFollow (sub_of hL rfl) ?_
  refine within_class0RowTake (sub_of hL rfl) ?_
  exact within_at (sub_of hL rfl) (by assumption)

theorem within_execDeadlineExpired {a0 a1} (hL : sub 22818304535145523416793565466632 L = true) (h : Within L s0 s)
      : WithinN L s0 (execDeadlineExpired a0 a1 s) := by
  delta execDeadlineExpired
  refine withinN_next ?_
  refine within_headsFollow (sub_of hL rfl) ?_
  refine within_deadlineExpired (sub_of hL rfl) ?_
  exact within_at (sub_of hL rfl) (by assumption)

theorem within_execDecSliceDone {a0 a1 a2 a3 a4 a5} (hL : sub 22818311647029446970322978340872 L = true) (h :
      Within L s0 s) : WithinN L s0 (execDecSliceDone a0 a1 a2 a3 a4 a5 s) := by
  delta execDecSliceDone
  refine withinN_next ?_
  refine within_headsFollow (sub_of hL rfl) ?_
  refine within_sliceDone (sub_of hL rfl) ?_
  exact within_at (sub_of hL rfl) (by assumption)

theorem within_execDecSliceStart {a0 a1 a2} (hL : sub 22818311649390630211757800947720 L = true) (h : Within L s0
      s) : WithinN L s0 (execDecSliceStart a0 a1 a2 s) := by
  delta execDecSliceStart
  refine withinN_next ?_
  refine within_headsFollow (sub_of hL rfl) ?_
  refine within_sliceStart (sub_of hL rfl) ?_
  exact within_at (sub_of hL rfl) (by assumption)

theorem within_execDeskewSequence {a0 a1} (hL : sub 22818292303330880413518869300232 L = true) (h : Within L s0 s)
      : WithinN L s0 (execDeskewSequence a0 a1 s) := by
  delta execDeskewSequence
  refine withinN_next ?_
  refine within_headsFollow (sub_of hL rfl) ?_
  refine within_phyDeskew (sub_of hL rfl) ?_
  exact within_at (sub_of hL rfl) (by assumption)

theorem within_execEmbeddedData {a0 a1 a2 a3 a4} (hL : sub 22818292359999278234617768903704 L = true) (h : Within L
      s0 s) : WithinN L s0 (execEmbeddedData a0 a1 a2 a3 a4 s) := by
  delta execEmbeddedData
  refine withinN_next ?_
  refine within_headsFollow (sub_of hL rfl) ?_
  refine within_embeddedData (sub_of hL rfl) ?_
  exact within_at (sub_of hL rfl) (by assumption)

theorem within_execFrameClose {a0 a1 a2} (hL : sub 22818305141969616527390504492568 L = true) (h : Within L s0 s) :
      WithinN L s0 (execFrameClose a0 a1 a2 s) := by
  delta execFrameClose
  refine withinN_next ?_
  refine within_headsFollow (sub_of hL rfl) ?_
  refine within_frameClose (sub_of hL rfl) ?_
  exact within_at (sub_of hL rfl) (by assumption)

theorem within_execFrameEnd {a0 a1 a2 a3} (hL : sub 22818292322220346353793543177224 L = true) (h : Within L s0 s)
      : WithinN L s0 (execFrameEnd a0 a1 a2 a3 s) := by
  delta execFrameEnd
  refine withinN_next ?_
  refine within_headsFollow (sub_of hL rfl) ?_
  refine within_frameEnd (sub_of hL rfl) ?_
  exact within_at (sub_of hL rfl) (by assumption)

theorem within_execFrameStart {a0 a1 a2 a3 a4} (hL : sub 22818305141969616527115626585608 L = true) (h : Within L
      s0 s) : WithinN L s0 (execFrameStart a0 a1 a2 a3 a4 s) := by
  delta execFrameStart
  refine withinN_next ?_
  refine within_headsFollow (sub_of hL rfl) ?_
  refine within_frameStart (sub_of hL rfl) ?_
  exact within_at (sub_of hL rfl) (by assumption)

theorem within_execGridReady {a0 a1} (hL : sub 22818292341995256554964043005960 L = true) (h : Within L s0 s) :
      WithinN L s0 (execGridReady a0 a1 s) := by
  delta execGridReady
  refine withinN_next ?_
  refine within_headsFollow (sub_of hL rfl) ?_
  refine within_gridReady (sub_of hL rfl) ?_
  exact within_at (sub_of hL rfl) (by assumption)

theorem within_execHdrMissing {a0 a1 a2} (hL : sub 22818304535145523443181844534280 L = true) (h : Within L s0 s) :
      WithinN L s0 (execHdrMissing a0 a1 a2 s) := by
  delta execHdrMissing
  refine withinN_next ?_
  refine within_headsFollow (sub_of hL rfl) ?_
  refine within_hdrMissing (sub_of hL rfl) ?_
  exact within_at (sub_of hL rfl) (by assumption)

theorem within_execLineReceived {a0 a1 a2 a3 a4 a5 a6 a7 a8} (hL : sub 22818309370848801901973421397528 L = true)
      (h : Within L s0 s) : WithinN L s0 (execLineReceived a0 a1 a2 a3 a4 a5 a6 a7 a8 s) := by
  delta execLineReceived
  refine withinN_next ?_
  refine within_headsFollow (sub_of hL rfl) ?_
  refine within_lineReceived (sub_of hL rfl) ?_
  exact within_at (sub_of hL rfl) (by assumption)

theorem within_execLineTimeout {a0 a1 a2 a3} (hL : sub 22818292322220346353793543177224 L = true) (h : Within L s0
      s) : WithinN L s0 (execLineTimeout a0 a1 a2 a3 s) := by
  delta execLineTimeout
  refine withinN_next ?_
  refine within_headsFollow (sub_of hL rfl) ?_
  refine within_lineTimeout (sub_of hL rfl) ?_
  exact within_at (sub_of hL rfl) (by assumption)

theorem within_execLutLoadEnd {a0} (hL : sub 22818292454446608428297469591560 L = true) (h : Within L s0 s) :
      WithinN L s0 (execLutLoadEnd a0 s) := by
  delta execLutLoadEnd
  refine withinN_next ?_
  refine within_headsFollow (sub_of hL rfl) ?_
  refine within_lutLoadEnd (sub_of hL rfl) ?_
  exact within_at (sub_of hL rfl) (by assumption)

theorem within_noFrameLost {a0 a1 a2} (hL : sub 2535455966573237945061292901376 L = true) (h : Within L s0 s) :
      Within L s0 (noFrameLost a0 a1 a2 s) := by
  delta noFrameLost
  extract_lets +onlyGivenNames -merge -useContext -underBinder x2_0 x2_1
  clear_value x2_0
  have hx2_1 : Within L s0 x2_1 := by
    exact within_noFrame (sub_of hL rfl) (by assumption)
  clear_value x2_1
  refine ite_ind ?_ ?_
  · exact within_streamLost (sub_of hL rfl) (by assumption)
  · assumption

theorem within_execNoFrame {a0 a1 a2} (hL : sub 22818292322220346371385729221640 L = true) (h : Within L s0 s) :
      WithinN L s0 (execNoFrame a0 a1 a2 s) := by
  delta execNoFrame
  refine withinN_next ?_
  refine within_headsFollow (sub_of hL rfl) ?_
  refine within_noFrameLost (sub_of hL rfl) ?_
  exact within_at (sub_of hL rfl) (by assumption)

theorem within_execPacketError {a0 a1 a2} (hL : sub 22818292303330880431111055344648 L = true) (h : Within L s0 s)
      : WithinN L s0 (execPacketError a0 a1 a2 s) := by
  delta execPacketError
  refine withinN_next ?_
  refine within_headsFollow (sub_of hL rfl) ?_
  refine within_packetError (sub_of hL rfl) ?_
  exact within_at (sub_of hL rfl) (by assumption)

theorem within_execPclkGlitch {a0 a1 a2} (hL : sub 22818292341109812302864310076424 L = true) (h : Within L s0 s) :
      WithinN L s0 (execPclkGlitch a0 a1 a2 s) := by
  delta execPclkGlitch
  refine withinN_next ?_
  refine within_headsFollow (sub_of hL rfl) ?_
  refine within_pclkGlitch (sub_of hL rfl) ?_
  exact within_at (sub_of hL rfl) (by assumption)

theorem within_execPhyError {a0 a1 a2} (hL : sub 22818292303330880431111055344648 L = true) (h : Within L s0 s) :
      WithinN L s0 (execPhyError a0 a1 a2 s) := by
  delta execPhyError
  refine withinN_next ?_
  refine within_headsFollow (sub_of hL rfl) ?_
  refine within_phyError (sub_of hL rfl) ?_
  exact within_at (sub_of hL rfl) (by assumption)

theorem within_execPinFailsafe {a0 a1} (hL : sub 22818292303330880413793747206168 L = true) (h : Within L s0 s) :
      WithinN L s0 (execPinFailsafe a0 a1 s) := by
  delta execPinFailsafe
  refine withinN_next ?_
  refine within_headsFollow (sub_of hL rfl) ?_
  refine within_pinFailsafe (sub_of hL rfl) ?_
  exact within_at (sub_of hL rfl) (by assumption)

theorem within_execPliRetry {a0 a1} (hL : sub 22818311646144003254784919863304 L = true) (h : Within L s0 s) :
      WithinN L s0 (execPliRetry a0 a1 s) := by
  delta execPliRetry
  refine withinN_next ?_
  refine within_headsFollow (sub_of hL rfl) ?_
  refine within_pliRetry (sub_of hL rfl) ?_
  exact within_at (sub_of hL rfl) (by assumption)

theorem within_execSegReady {a0 a1} (hL : sub 22818294759846897473072252715016 L = true) (h : Within L s0 s) :
      WithinN L s0 (execSegReady a0 a1 s) := by
  delta execSegReady
  refine withinN_next ?_
  refine within_headsFollow (sub_of hL rfl) ?_
  refine within_segReady (sub_of hL rfl) ?_
  exact within_at (sub_of hL rfl) (by assumption)

theorem within_stagedRowRead {a0 a1 a2} (hL : sub 2535301242957759541361810481152 L = true) (h : Within L s0 s) :
      Within L s0 (stagedRowRead a0 a1 a2 s) := by
  delta stagedRowRead
  split
  · assumption
  · split
    · assumption
    · exact within_readBack (sub_of hL rfl) (by assumption)

theorem within_execStagedRowRead {a0 a1 a2 a3} (hL : sub 22818292341109814669013333188616 L = true) (h : Within L
      s0 s) : WithinN L s0 (execStagedRowRead a0 a1 a2 a3 s) := by
  delta execStagedRowRead
  refine withinN_next ?_
  refine within_headsFollow (sub_of hL rfl) ?_
  refine within_stagedRowRead (sub_of hL rfl) ?_
  exact within_at (sub_of hL rfl) (by assumption)

theorem within_execStatsReady {a0 a1} (hL : sub 22818292341995255992288967458840 L = true) (h : Within L s0 s) :
      WithinN L s0 (execStatsReady a0 a1 s) := by
  delta execStatsReady
  refine withinN_next ?_
  refine within_headsFollow (sub_of hL rfl) ?_
  refine within_statsReady (sub_of hL rfl) ?_
  exact within_at (sub_of hL rfl) (by assumption)

theorem within_execStripeComplete {a0 a1 a2 a3} (hL : sub 22818304535145523417068443512856 L = true) (h : Within L
      s0 s) : WithinN L s0 (execStripeComplete a0 a1 a2 a3 s) := by
  delta execStripeComplete
  refine withinN_next ?_
  refine within_headsFollow (sub_of hL rfl) ?_
  refine within_stripeComplete (sub_of hL rfl) ?_
  exact within_at (sub_of hL rfl) (by assumption)

theorem within_execSwapDone {a0 a1} (hL : sub 22818304535145523417068443512856 L = true) (h : Within L s0 s) :
      WithinN L s0 (execSwapDone a0 a1 s) := by
  delta execSwapDone
  refine withinN_next ?_
  refine within_headsFollow (sub_of hL rfl) ?_
  refine within_swapDone (sub_of hL rfl) ?_
  exact within_at (sub_of hL rfl) (by assumption)

theorem within_execTapBufferComplete {a0 a1 a2} (hL : sub 22818292341995255992014089551880 L = true) (h : Within L
      s0 s) : WithinN L s0 (execTapBufferComplete a0 a1 a2 s) := by
  delta execTapBufferComplete
  refine withinN_next ?_
  refine within_headsFollow (sub_of hL rfl) ?_
  refine within_tapComplete (sub_of hL rfl) ?_
  exact within_at (sub_of hL rfl) (by assumption)

theorem within_execUlpsEntryExit {a0 a1 a2 a3 a4} (hL : sub 22818292303330880431111055344648 L = true) (h : Within
      L s0 s) : WithinN L s0 (execUlpsEntryExit a0 a1 a2 a3 a4 s) := by
  delta execUlpsEntryExit
  refine withinN_next ?_
  refine within_headsFollow (sub_of hL rfl) ?_
  refine within_phyLanes (sub_of hL rfl) ?_
  exact within_at (sub_of hL rfl) (by assumption)

end Sys2Proof.Machine
end

