-- ==== Sys2Proof/Laws/WithinSuper.lean ====
section
/-! SUPPORT. Which parts of a state each operation of Super.lean may write. -/

namespace Sys2Proof.Machine

variable {L : Nat} {s0 s : State}

theorem within_bootEnd {a0} (hL : sub 12676506007004660498936188895296 L = true) (h : Within L s0 s) : Within L s0
      (bootEnd a0 s) := by
  delta bootEnd
  extract_lets +onlyGivenNames -merge -useContext -underBinder x2_0 x2_1
  clear_value x2_0
  have hx2_1 : Within L s0 x2_1 := by
    unfold x2_1
    refine within_upd_sec (sub_of hL rfl) ?_
    assumption
  clear_value x2_1
  refine within_forEach (fun _ _ _ => ?_) ?_
  · exact within_imageInvalid (sub_of hL rfl) (by assumption)
  · refine within_showSec (sub_of hL rfl) ?_
    exact within_setState (sub_of hL rfl) (by assumption)

theorem within_bootEntry {a0 a1} (hL : sub 10141205104942733831173272764480 L = true) (h : Within L s0 s) : Within2
      L s0 (bootEntry a0 a1 s) := by
  delta bootEntry
  extract_lets +onlyGivenNames -merge -useContext -underBinder x2_0 x2_1
  clear_value x2_0 x2_1
  refine ite_ind ?_ ?_
  · refine within2_mk ?_
    assumption
  · refine ite_ind ?_ ?_
    · refine within2_mk ?_
      assumption
    · refine within2_mk ?_
      refine ite_ind ?_ ?_
      · exact within_loadProfile (sub_of hL rfl) (by assumption)
      · exact within_loadBundle (sub_of hL rfl) (by assumption)

theorem within_bootMemory (hL : sub 1267650600265122889650564759552 L = true) (h : Within L s0 s) : Within2 L s0
      (bootMemory s) := by
  delta bootMemory
  split
  · extract_lets +onlyGivenNames -merge -useContext -underBinder x4_0 x4_1 x4_2 x4_3 x4_4 x4_5 x4_6 x4_7
    have hx4_0 : Within L s0 x4_0 := by
      refine within_forEach (fun _ _ _ => ?_) ?_
      · exact within_set (sub_of hL rfl) (by assumption)
      · assumption
    clear_value x4_0
    have hx4_1 : Within L s0 x4_1 := by
      exact within_set (sub_of hL rfl) (by assumption)
    clear_value x4_1
    have hx4_2 : Within L s0 x4_2 := by
      unfold x4_2
      split
      · refine within_setRole (sub_of hL rfl) ?_
        exact within_setRole (sub_of hL rfl) (by assumption)
      · assumption
    clear_value x4_2 x4_3 x4_4
    have hx4_5 : Within L s0 x4_5 := by
      refine within_set (sub_of hL rfl) ?_
      exact within_set (sub_of hL rfl) (by assumption)
    clear_value x4_5 x4_6
    have hx4_7 : Within L s0 x4_7 := by
      unfold x4_7
      refine within_upd_mem (sub_of hL rfl) ?_
      assumption
    clear_value x4_7
    refine within2_mk ?_
    refine within_forEach (fun _ _ _ => ?_) ?_
    · refine within_ddrcEnable (sub_of hL rfl) ?_
      exact within_setHdr (sub_of hL rfl) (by assumption)
    · assumption

theorem within_bootSelect {a0} (hL : sub 10141204801825835211973625643008 L = true) (h : Within L s0 s) : Within2 L
      s0 (bootSelect a0 s) := by
  delta bootSelect
  extract_lets +onlyGivenNames -merge -useContext -underBinder x2_0 x2_1 x2_2 x2_3 x2_4
  clear_value x2_0
  have hx2_1 : Within L s0 x2_1 := by
    refine ite_ind ?_ ?_
    · refine within_setTrial (sub_of hL rfl) ?_
      exact within_setPref (sub_of hL rfl) (by assumption)
    · assumption
  clear_value x2_1 x2_2 x2_3
  have hx2_4 : Within L s0 x2_4 := by
    exact within_setRunning (sub_of hL rfl) (by assumption)
  clear_value x2_4
  refine within2_mk ?_
  refine ite_ind ?_ ?_
  · exact within_setTrial (sub_of hL rfl) (by assumption)
  · assumption

theorem within_bootStore (hL : sub 10141205104942733831173272764480 L = true) (h : Within L s0 s) : Within2 L s0
      (bootStore s) := by
  delta bootStore
  refine forEach_ind (fun _ _ _ => ?_) ?_
  · refine within_bootEntry (sub_of hL rfl) ?_
    show Within2 L s0 _
    assumption
  · refine within2_mk ?_
    assumption

theorem within_coldBase {a0 a1} (hL : sub 81129638414606681695789005144063 L = true) (h : Within L s0 s) : Within L
      s0 (coldBase a0 a1 s) := by
  exact within_all hL h.queue

theorem within_latchRecord (hL : sub 50706024009129176059868128231488 L = true) (h : Within L s0 s) : Within2 L s0
      (latchRecord s) := by
  delta latchRecord
  split
  · rename_i v2_0 v2_1 q2_0
    have hv2_1 : Within L s0 v2_1 := within2_eq q2_0 (by
      exact within_bootSelect (sub_of hL rfl) (by assumption))
    split
    · extract_lets +onlyGivenNames -merge -useContext -underBinder x6_0 x6_1 x6_2
      have hx6_0 : Within L s0 x6_0 := by
        exact within_set (sub_of hL rfl) (by assumption)
      clear_value x6_0
      have hx6_1 : Within L s0 x6_1 := by
        refine within_set (sub_of hL rfl) ?_
        exact within_set (sub_of hL rfl) (by assumption)
      clear_value x6_1
      have hx6_2 : Within L s0 x6_2 := by
        exact within_set (sub_of hL rfl) (by assumption)
      clear_value x6_2
      refine within2_mk ?_
      refine within_upd_sup (sub_of hL rfl) ?_
      assumption

theorem within_showFault (hL : sub 20282409603651670423947251286018 L = true) (h : Within L s0 s) : Within L s0
      (showFault s) := by
  delta showFault
  extract_lets +onlyGivenNames -merge -useContext -underBinder x2_0 x2_1 x2_2
  clear_value x2_0 x2_1
  have hx2_2 : Within L s0 x2_2 := by
    exact within_set (sub_of hL rfl) (by assumption)
  clear_value x2_2
  refine within_upd_pins (sub_of hL rfl) ?_
  assumption

theorem within_svbLink {a0 a1} (hL : sub 16384 L = true) (h : Within L s0 s) : Within L s0 (svbLink a0 a1 s) := by
  delta svbLink
  refine within_set (sub_of hL rfl) ?_
  exact within_set (sub_of hL rfl) (by assumption)

theorem within_svEngage (hL : sub 63382839501143802299470950973442 L = true) (h : Within L s0 s) : Within L s0
      (svEngage s) := by
  delta svEngage
  extract_lets +onlyGivenNames -merge -useContext -underBinder x2_0 x2_1 x2_2 x2_3 x2_4 x2_5 x2_6
  have hx2_0 : Within L s0 x2_0 := by
    exact within_inc (sub_of hL rfl) (by assumption)
  clear_value x2_0
  have hx2_1 : Within L s0 x2_1 := by
    exact within_inc (sub_of hL rfl) (by assumption)
  clear_value x2_1 x2_2 x2_3 x2_4
  have hx2_5 : Within L s0 x2_5 := by
    unfold x2_5
    refine within_upd_pins_sup (sub_of hL rfl) ?_
    assumption
  clear_value x2_5
  have hx2_6 : Within L s0 x2_6 := by
    refine within_svbLink (sub_of hL rfl) ?_
    refine within_set (sub_of hL rfl) ?_
    exact within_set (sub_of hL rfl) (by assumption)
  clear_value x2_6
  refine within_raise (sub_of hL rfl) (sub_of hL rfl) ?_
  refine within_portLeave (sub_of hL rfl) ?_
  exact within_setState (sub_of hL rfl) (by assumption)

theorem within_svDisengage (hL : sub 63382839501143802299470950973442 L = true) (h : Within L s0 s) : Within L s0
      (svDisengage s) := by
  delta svDisengage
  extract_lets +onlyGivenNames -merge -useContext -underBinder x2_0 x2_1 x2_2 x2_3
  clear_value x2_0 x2_1
  have hx2_2 : Within L s0 x2_2 := by
    unfold x2_2
    refine within_upd_pins_sup (sub_of hL rfl) ?_
    assumption
  clear_value x2_2
  have hx2_3 : Within L s0 x2_3 := by
    refine within_svbLink (sub_of hL rfl) ?_
    refine within_set (sub_of hL rfl) ?_
    exact within_set (sub_of hL rfl) (by assumption)
  clear_value x2_3
  refine within_raise (sub_of hL rfl) (sub_of hL rfl) ?_
  refine within_portReturn (sub_of hL rfl) ?_
  exact within_setState (sub_of hL rfl) (by assumption)

theorem within_evalCauses (hL : sub 63382839501143802299470950973442 L = true) (h : Within L s0 s) : Within L s0
      (evalCauses s) := by
  delta evalCauses
  extract_lets +onlyGivenNames -merge -useContext -underBinder x2_0
  clear_value x2_0
  refine within_showFault (sub_of hL rfl) ?_
  refine ite_ind ?_ ?_
  · exact within_svEngage (sub_of hL rfl) (by assumption)
  · refine ite_ind ?_ ?_
    · exact within_svDisengage (sub_of hL rfl) (by assumption)
    · assumption

theorem within_setCause {a0 a1} (hL : sub 63382839501143802299470950973442 L = true) (q0_0 : sub (partW a0.blk) L =
      true) (h : Within L s0 s) : Within L s0 (setCause a0 a1 s) := by
  delta setCause
  refine within_evalCauses (sub_of hL rfl) ?_
  exact within_set q0_0 (by assumption)

theorem within_enterRecovery (hL : sub 63382839501143802300570462601218 L = true) (h : Within L s0 s) : Within L s0
      (enterRecovery s) := by
  delta enterRecovery
  refine within_setCause (sub_of hL rfl) (sub_of hL rfl) ?_
  refine within_set (sub_of hL rfl) ?_
  exact within_setState (sub_of hL rfl) (by assumption)

theorem within_measureRunning {a0} (hL : sub 10141204801825835211973625643008 L = true) (h : Within L s0 s) :
      Within L s0 (measureRunning a0 s) := by
  delta measureRunning
  split
  · exact within_putEntry (sub_of hL rfl) (by assumption)
  · assumption

theorem within_measureRetirement (hL : sub 10141204801825835211973625643008 L = true) (h : Within L s0 s) : Within
      L s0 (measureRetirement s) := by
  delta measureRetirement
  split
  · exact within_putEntry (sub_of hL rfl) (by assumption)
  · assumption

theorem within_loadFirmware (hL : sub 885443715542353444864 L = true) (h : Within L s0 s) : Within L s0
      (loadFirmware s) := by
  delta loadFirmware
  split
  · extract_lets +onlyGivenNames -merge -useContext -underBinder x4_0
    clear_value x4_0
    exact within_dramWrite (sub_of hL rfl) (by assumption)
  · assumption

theorem within_coldBoot (hL : sub 74791695206609769040607835078722 L = true) (h : Within L s0 s) : Within L s0
      (coldBoot s) := by
  delta coldBoot
  split
  · rename_i v2_0 v2_1 q2_0
    have hv2_1 : Within L s0 v2_1 := within2_eq q2_0 (by
      exact within_latchRecord (sub_of hL rfl) (by assumption))
    extract_lets +onlyGivenNames -merge -useContext -underBinder x4_0
    have hx4_0 : Within L s0 x4_0 := by
      exact within_evalCauses (sub_of hL rfl) (by assumption)
    clear_value x4_0
    split
    · rename_i v4_0 v4_1 q4_0
      have hv4_1 : Within L s0 v4_1 := within2_eq q4_0 (by
        exact within_bootSelect (sub_of hL rfl) (by assumption))
      refine ite_ind ?_ ?_
      · exact within_enterRecovery (sub_of hL rfl) (by assumption)
      · extract_lets +onlyGivenNames -merge -useContext -underBinder x8_0 x8_1
        clear_value x8_0
        have hx8_1 : Within L s0 x8_1 := by
          unfold x8_1
          refine within_upd_sec (sub_of hL rfl) ?_
          assumption
        clear_value x8_1
        split
        · rename_i v8_0 v8_1 q8_0
          have hv8_1 : Within L s0 v8_1 := within2_eq q8_0 (by
            exact within_bootSelect (sub_of hL rfl) (by assumption))
          split
          · rename_i v10_0 v10_1 q10_0
            have hv10_1 : Within L s0 v10_1 := within2_eq q10_0 (by
              exact within_bootSelect (sub_of hL rfl) (by assumption))
            split
            · rename_i v12_0 v12_1 q12_0
              have hv12_1 : Within L s0 v12_1 := within2_eq q12_0 (by
                exact within_bootMemory (sub_of hL rfl) (by assumption))
              extract_lets +onlyGivenNames -merge -useContext -underBinder x14_0 x14_1 x14_2
              have hx14_0 : Within L s0 x14_0 := by
                exact within_writeDefaultRights (sub_of hL rfl) (by assumption)
              clear_value x14_0
              have hx14_1 : Within L s0 x14_1 := by
                unfold x14_1
                split
                · exact within_applyRights (sub_of hL rfl) (by assumption)
                · assumption
              clear_value x14_1
              have hx14_2 : Within L s0 x14_2 := by
                refine within_measureRunning (sub_of hL rfl) ?_
                refine within_measureRunning (sub_of hL rfl) ?_
                refine within_measureRetirement (sub_of hL rfl) ?_
                refine within_measureRunning (sub_of hL rfl) ?_
                exact within_measureRunning (sub_of hL rfl) (by assumption)
              clear_value x14_2
              split
              · rename_i v14_0 v14_1 q14_0
                have hv14_1 : Within L s0 v14_1 := within2_eq q14_0 (by
                  refine within_bootStore (sub_of hL rfl) ?_
                  exact within_loadFirmware (sub_of hL rfl) (by assumption))
                extract_lets +onlyGivenNames -merge -useContext -underBinder x16_0 x16_1 x16_2
                clear_value x16_0
                have hx16_1 : Within L s0 x16_1 := by
                  unfold x16_1
                  refine within_upd_sec (sub_of hL rfl) ?_
                  assumption
                clear_value x16_1 x16_2
                exact within_bootEnd (sub_of hL rfl) (by assumption)

theorem within_refreshMisses (hL : sub 40564819207303340847894502572034 L = true) (h : Within L s0 s) : Within L s0
      (refreshMisses s) := by
  delta refreshMisses
  extract_lets +onlyGivenNames -merge -useContext -underBinder x2_0
  clear_value x2_0
  refine within_set (sub_of hL rfl) ?_
  refine within_upd_sup (sub_of hL rfl) ?_
  assumption

theorem within_coldReset {a0} (hL : sub 81129638414606681695789005144063 L = true) (h : Within L s0 s) : Within L
      s0 (coldReset a0 s) := by
  delta coldReset
  extract_lets +onlyGivenNames -merge -useContext -underBinder x2_0 x2_1 x2_2 x2_3 x2_4 x2_5
  clear_value x2_0
  have hx2_1 : Within L s0 x2_1 := by
    exact within_coldBase (sub_of hL rfl) (by assumption)
  clear_value x2_1 x2_2
  have hx2_3 : Within L s0 x2_3 := by
    refine within_set (sub_of hL rfl) ?_
    exact within_set (sub_of hL rfl) (by assumption)
  clear_value x2_3
  have hx2_4 : Within L s0 x2_4 := by
    refine within_set (sub_of hL rfl) ?_
    refine within_set (sub_of hL rfl) ?_
    exact within_set (sub_of hL rfl) (by assumption)
  clear_value x2_4
  have hx2_5 : Within L s0 x2_5 := by
    exact within_refreshMisses (sub_of hL rfl) (by assumption)
  clear_value x2_5
  refine ite_ind ?_ ?_
  · assumption
  · extract_lets +onlyGivenNames -merge -useContext -underBinder x4_0 x4_1 x4_2 x4_3
    clear_value x4_0 x4_1 x4_2
    have hx4_3 : Within L s0 x4_3 := by
      unfold x4_3
      refine within_upd_sup (sub_of hL rfl) ?_
      assumption
    clear_value x4_3
    refine within_portLeave (sub_of hL rfl) ?_
    refine within_svbLink (sub_of hL rfl) ?_
    exact within_set (sub_of hL rfl) (by assumption)

theorem within_complexReset (hL : sub 50706024009202963037266773016644 L = true) (h : Within L s0 s) : Within L s0
      (complexReset s) := by
  delta complexReset
  extract_lets +onlyGivenNames -merge -useContext -underBinder x2_0 x2_1
  clear_value x2_0
  have hx2_1 : Within L s0 x2_1 := by
    unfold x2_1
    refine within_upd_sup (sub_of hL rfl) ?_
    assumption
  clear_value x2_1
  refine within_showMem (sub_of hL rfl) ?_
  refine within_releaseKeeper (sub_of hL rfl) ?_
  exact within_secWarm (sub_of hL rfl) (by assumption)

theorem within_countHot {a0} (hL : sub 40564819207303340847894502572032 L = true) (h : Within L s0 s) : Within L s0
      (countHot a0 s) := by
  delta countHot
  refine within_upd_sup (sub_of hL rfl) ?_
  assumption

theorem within_memFollow {a0} (hL : sub 73524044302969637511444576616450 L = true) (h : Within L s0 s) : Within L
      s0 (memFollow a0 s) := by
  delta memFollow
  extract_lets +onlyGivenNames -merge -useContext -underBinder x2_0
  have hx2_0 : Within L s0 x2_0 := by
    exact within_noteRetirement (sub_of hL rfl) (by assumption)
  clear_value x2_0
  refine ite_ind ?_ ?_
  · exact within_setCause (sub_of hL rfl) (sub_of hL rfl) (by assumption)
  · assumption

theorem within_execDdrcTrainingDone {a0 a1 a2} (hL : sub 74791694904489138998107390885890 L = true) (h : Within L
      s0 s) : WithinN L s0 (execDdrcTrainingDone a0 a1 a2 s) := by
  delta execDdrcTrainingDone
  refine withinN_next ?_
  refine within_memFollow (sub_of hL rfl) ?_
  refine within_trainingDone (sub_of hL rfl) ?_
  exact within_at (sub_of hL rfl) (by assumption)

theorem within_execDiagnosisDone {a0 a1 a2} (hL : sub 74791694905079434808466096537602 L = true) (h : Within L s0
      s) : WithinN L s0 (execDiagnosisDone a0 a1 a2 s) := by
  delta execDiagnosisDone
  refine withinN_next ?_
  refine within_memFollow (sub_of hL rfl) ?_
  refine within_diagnosisDone (sub_of hL rfl) ?_
  exact within_at (sub_of hL rfl) (by assumption)

theorem within_execDramReadDone {a0 a1 a2 a3 a4} (hL : sub 74791694907440618049900919144450 L = true) (h : Within L
      s0 s) : WithinN L s0 (execDramReadDone a0 a1 a2 a3 a4 s) := by
  delta execDramReadDone
  refine withinN_next ?_
  refine within_memFollow (sub_of hL rfl) ?_
  refine within_lineRead (sub_of hL rfl) ?_
  exact within_at (sub_of hL rfl) (by assumption)

theorem within_warmReset {a0} (hL : sub 70988433612854633461248384041030 L = true) (h : Within L s0 s) : Within L
      s0 (warmReset a0 s) := by
  delta warmReset
  extract_lets +onlyGivenNames -merge -useContext -underBinder x2_0 x2_1
  have hx2_0 : Within L s0 x2_0 := by
    refine within_inc (sub_of hL rfl) ?_
    exact within_set (sub_of hL rfl) (by assumption)
  clear_value x2_0
  have hx2_1 : Within L s0 x2_1 := by
    refine within_setState (sub_of hL rfl) ?_
    exact within_set (sub_of hL rfl) (by assumption)
  clear_value x2_1
  refine within_showFault (sub_of hL rfl) ?_
  exact within_complexReset (sub_of hL rfl) (by assumption)

theorem within_supMiss (hL : sub 73524044303043424488843221418054 L = true) (h : Within L s0 s) : Within L s0
      (supMiss s) := by
  delta supMiss
  extract_lets +onlyGivenNames -merge -useContext -underBinder x2_0
  clear_value x2_0
  refine ite_ind ?_ ?_
  · assumption
  · extract_lets +onlyGivenNames -merge -useContext -underBinder x4_0 x4_1 x4_2
    clear_value x4_0
    have hx4_1 : Within L s0 x4_1 := by
      unfold x4_1
      refine within_upd_sup (sub_of hL rfl) ?_
      assumption
    clear_value x4_1
    have hx4_2 : Within L s0 x4_2 := by
      refine within_raise (sub_of hL rfl) (sub_of hL rfl) ?_
      refine within_refreshMisses (sub_of hL rfl) ?_
      exact within_inc (sub_of hL rfl) (by assumption)
    clear_value x4_2
    refine ite_ind ?_ ?_
    · refine within_raise (sub_of hL rfl) (sub_of hL rfl) ?_
      refine within_setCause (sub_of hL rfl) (sub_of hL rfl) ?_
      refine within_complexReset (sub_of hL rfl) ?_
      exact within_setState (sub_of hL rfl) (by assumption)
    · refine within_warmReset (sub_of hL rfl) ?_
      exact within_setCause (sub_of hL rfl) (sub_of hL rfl) (by assumption)

theorem within_windowMiss {a0} (hL : sub 73524044303043424488843221418054 L = true) (h : Within L s0 s) : Within L
      s0 (windowMiss a0 s) := by
  delta windowMiss
  extract_lets +onlyGivenNames -merge -useContext -underBinder x2_0
  clear_value x2_0
  refine ite_ind ?_ ?_
  · exact within_supMiss (sub_of hL rfl) (by assumption)
  · assumption

theorem within_execFirstHeartbeatTimeout {a0} (hL : sub 73524044304224016109560632721478 L = true) (h : Within L s0
      s) : WithinN L s0 (execFirstHeartbeatTimeout a0 s) := by
  delta execFirstHeartbeatTimeout
  refine withinN_next ?_
  refine within_windowMiss (sub_of hL rfl) ?_
  exact within_at (sub_of hL rfl) (by assumption)

theorem within_execFreqAbort {a0} (hL : sub 74791694904489138998105243402242 L = true) (h : Within L s0 s) :
      WithinN L s0 (execFreqAbort a0 s) := by
  delta execFreqAbort
  refine withinN_next ?_
  refine within_memFollow (sub_of hL rfl) ?_
  refine within_freqAbort (sub_of hL rfl) ?_
  exact within_at (sub_of hL rfl) (by assumption)

theorem within_execFreqChangeDone {a0 a1 a2 a3} (hL : sub 74791694904489138998107390885890 L = true) (h : Within L
      s0 s) : WithinN L s0 (execFreqChangeDone a0 a1 a2 a3 s) := by
  delta execFreqChangeDone
  refine withinN_next ?_
  refine within_memFollow (sub_of hL rfl) ?_
  refine within_freqDone (sub_of hL rfl) ?_
  exact within_at (sub_of hL rfl) (by assumption)

theorem within_execFreqMarginMet {a0} (hL : sub 74791694904489138998107390885890 L = true) (h : Within L s0 s) :
      WithinN L s0 (execFreqMarginMet a0 s) := by
  delta execFreqMarginMet
  refine withinN_next ?_
  refine within_memFollow (sub_of hL rfl) ?_
  refine within_freqMargin (sub_of hL rfl) ?_
  exact within_at (sub_of hL rfl) (by assumption)

theorem within_execFreqTimeout {a0} (hL : sub 74791694904452245509957824299010 L = true) (h : Within L s0 s) :
      WithinN L s0 (execFreqTimeout a0 s) := by
  delta execFreqTimeout
  refine withinN_next ?_
  refine within_memFollow (sub_of hL rfl) ?_
  refine within_freqTimeout (sub_of hL rfl) ?_
  exact within_at (sub_of hL rfl) (by assumption)

theorem within_intervalMiss {a0} (hL : sub 73524044303043424488843221418054 L = true) (h : Within L s0 s) : Within
      L s0 (intervalMiss a0 s) := by
  delta intervalMiss
  refine ite_ind ?_ ?_
  · exact within_supMiss (sub_of hL rfl) (by assumption)
  · assumption

theorem within_execHbMiss {a0} (hL : sub 73524044304224016109560632721478 L = true) (h : Within L s0 s) : WithinN L
      s0 (execHbMiss a0 s) := by
  delta execHbMiss
  refine withinN_next ?_
  refine within_intervalMiss (sub_of hL rfl) ?_
  exact within_at (sub_of hL rfl) (by assumption)

theorem within_svbWait {a0} (hL : sub 40564819207303341129369479299072 L = true) (h : Within L s0 s) : Within L s0
      (svbWait a0 s) := by
  delta svbWait
  refine within_svbLink (sub_of hL rfl) ?_
  refine within_setState (sub_of hL rfl) ?_
  refine within_upd_sup (sub_of hL rfl) ?_
  assumption

theorem within_svbUnplug {a0} (hL : sub 40564819207303341129369479299072 L = true) (h : Within L s0 s) : Within L
      s0 (svbUnplug a0 s) := by
  delta svbUnplug
  refine ite_ind ?_ ?_
  · refine within_svbWait (sub_of hL rfl) ?_
    exact within_inc (sub_of hL rfl) (by assumption)
  · assumption

theorem within_execHpdUnplug {a0 a1} (hL : sub 43100429898672723496206751252480 L = true) (h : Within L s0 s) :
      WithinN L s0 (execHpdUnplug a0 a1 s) := by
  delta execHpdUnplug
  refine withinN_next ?_
  refine within_svbUnplug (sub_of hL rfl) ?_
  refine within_hpdUnplug (sub_of hL rfl) ?_
  exact within_at (sub_of hL rfl) (by assumption)

theorem within_warmSelect {a0} (hL : sub 10141204801825835211973625643008 L = true) (h : Within L s0 s) : Within L
      s0 (warmSelect a0 s) := by
  delta warmSelect
  extract_lets +onlyGivenNames -merge -useContext -underBinder x2_0
  clear_value x2_0
  exact within_setRunning (sub_of hL rfl) (by assumption)

theorem within_warmBoot (hL : sub 73524044303855081228086441689154 L = true) (h : Within L s0 s) : Within L s0
      (warmBoot s) := by
  delta warmBoot
  extract_lets +onlyGivenNames -merge -useContext -underBinder x2_0
  have hx2_0 : Within L s0 x2_0 := by
    exact within_warmSelect (sub_of hL rfl) (by assumption)
  clear_value x2_0
  refine ite_ind ?_ ?_
  · exact within_enterRecovery (sub_of hL rfl) (by assumption)
  · extract_lets +onlyGivenNames -merge -useContext -underBinder x4_0 x4_1
    clear_value x4_0
    have hx4_1 : Within L s0 x4_1 := by
      unfold x4_1
      refine within_upd_sec (sub_of hL rfl) ?_
      assumption
    clear_value x4_1
    refine within_bootEnd (sub_of hL rfl) ?_
    refine within_loadFirmware (sub_of hL rfl) ?_
    refine within_measureRunning (sub_of hL rfl) ?_
    refine within_measureRunning (sub_of hL rfl) ?_
    exact within_warmSelect (sub_of hL rfl) (by assumption)

theorem within_mgmtResetEnd {a0} (hL : sub 73524044303928868204381279895618 L = true) (h : Within L s0 s) : Within
      L s0 (mgmtResetEnd a0 s) := by
  delta mgmtResetEnd
  refine ite_ind ?_ ?_
  · assumption
  · refine within_showMem (sub_of hL rfl) ?_
    refine within_warmBoot (sub_of hL rfl) ?_
    refine within_upd_sup (sub_of hL rfl) ?_
    assumption

theorem within_execMgmtResetEnd {a0} (hL : sub 73524044305109459825098691199042 L = true) (h : Within L s0 s) :
      WithinN L s0 (execMgmtResetEnd a0 s) := by
  delta execMgmtResetEnd
  refine withinN_next ?_
  refine within_mgmtResetEnd (sub_of hL rfl) ?_
  exact within_at (sub_of hL rfl) (by assumption)

theorem within_execMr4Poll {a0 a1 a2} (hL : sub 73524044304187122620311554506754 L = true) (h : Within L s0 s) :
      WithinN L s0 (execMr4Poll a0 a1 a2 s) := by
  delta execMr4Poll
  refine withinN_next ?_
  refine within_memFollow (sub_of hL rfl) ?_
  refine within_mr4 (sub_of hL rfl) ?_
  exact within_at (sub_of hL rfl) (by assumption)

theorem within_powerBase (hL : sub 81129638414606681695789005144063 L = true) (h : Within L s0 s) : Within L s0
      (powerBase s) := by
  exact within_all hL h.queue

theorem within_powerOn (hL : sub 81129638414606681695789005144063 L = true) (h : Within L s0 s) : Within L s0
      (powerOn s) := by
  delta powerOn
  extract_lets +onlyGivenNames -merge -useContext -underBinder x2_0
  clear_value x2_0
  refine ite_ind ?_ ?_
  · refine within_set (sub_of hL rfl) ?_
    refine within_set (sub_of hL rfl) ?_
    exact within_powerBase (sub_of hL rfl) (by assumption)
  · exact within_powerBase (sub_of hL rfl) (by assumption)

theorem within_execPowerOnReset {a0} (hL : sub 81129638414606681695789005144063 L = true) (h : Within L s0 s) :
      WithinN L s0 (execPowerOnReset a0 s) := by
  delta execPowerOnReset
  refine withinN_next ?_
  refine within_powerOn (sub_of hL rfl) ?_
  exact within_at (sub_of hL rfl) (by assumption)

theorem within_quadStale {a0 a1} (hL : sub 2535301205178825567338028351488 L = true) (h : Within L s0 s) : Within L
      s0 (quadStale a0 a1 s) := by
  delta quadStale
  refine ite_ind ?_ ?_
  · assumption
  · extract_lets +onlyGivenNames -merge -useContext -underBinder x4_0
    have hx4_0 : Within L s0 x4_0 := by
      exact within_set (sub_of hL rfl) (by assumption)
    clear_value x4_0
    refine within_raise (sub_of hL rfl) (sub_of hL rfl) ?_
    exact within_inc (sub_of hL rfl) (by assumption)

theorem within_execQuadStale {a0 a1} (hL : sub 2535301206359417188055439654912 L = true) (h : Within L s0 s) :
      WithinN L s0 (execQuadStale a0 a1 s) := by
  delta execQuadStale
  refine withinN_next ?_
  refine within_quadStale (sub_of hL rfl) ?_
  exact within_at (sub_of hL rfl) (by assumption)

theorem within_tripOn (hL : sub 63382839501143802299470950973442 L = true) (h : Within L s0 s) : Within L s0
      (tripOn s) := by
  delta tripOn
  extract_lets +onlyGivenNames -merge -useContext -underBinder x2_0 x2_1
  clear_value x2_0
  have hx2_1 : Within L s0 x2_1 := by
    unfold x2_1
    refine within_upd_sup (sub_of hL rfl) ?_
    assumption
  clear_value x2_1
  refine within_setCause (sub_of hL rfl) (sub_of hL rfl) ?_
  exact within_setState (sub_of hL rfl) (by assumption)

theorem within_leaveReset {a0} (hL : sub 60847228810955011271841753858048 L = true) (h : Within L s0 s) : Within L
      s0 (leaveReset a0 s) := by
  delta leaveReset
  refine within_upd_pins_sup (sub_of hL rfl) ?_
  assumption

theorem within_released {a0} (hL : sub 74791695206609769040607835078722 L = true) (h : Within L s0 s) : Within L s0
      (released a0 s) := by
  delta released
  refine ite_ind ?_ ?_
  · exact within_tripOn (sub_of hL rfl) (by assumption)
  · refine within_coldBoot (sub_of hL rfl) ?_
    refine within_refreshFrayPin (sub_of hL rfl) ?_
    refine within_showFault (sub_of hL rfl) ?_
    refine within_setState (sub_of hL rfl) ?_
    exact within_leaveReset (sub_of hL rfl) (by assumption)

theorem within_liftResetN (hL : sub 20282409603651670423947251286016 L = true) (h : Within L s0 s) : Within L s0
      (liftResetN s) := by
  delta liftResetN
  refine within_upd_pins (sub_of hL rfl) ?_
  assumption

theorem within_resetRelease {a0} (hL : sub 74791695206609769040607835078722 L = true) (h : Within L s0 s) : Within
      L s0 (resetRelease a0 s) := by
  delta resetRelease
  refine ite_ind ?_ ?_
  · assumption
  · refine within_released (sub_of hL rfl) ?_
    exact within_liftResetN (sub_of hL rfl) (by assumption)

theorem within_resetAssert (hL : sub 81129638414606681695789005144063 L = true) (h : Within L s0 s) : Within L s0
      (resetAssert s) := by
  delta resetAssert
  extract_lets +onlyGivenNames -merge -useContext -underBinder x2_0 x2_1 x2_2 x2_3 x2_4
  clear_value x2_0 x2_1
  have hx2_2 : Within L s0 x2_2 := by
    refine within_coldReset (sub_of hL rfl) ?_
    refine within_upd_pins (sub_of hL rfl) ?_
    assumption
  clear_value x2_2
  have hx2_3 : Within L s0 x2_3 := by
    exact within_set (sub_of hL rfl) (by assumption)
  clear_value x2_3
  have hx2_4 : Within L s0 x2_4 := by
    exact within_set (sub_of hL rfl) (by assumption)
  clear_value x2_4
  exact within_setState (sub_of hL rfl) (by assumption)

theorem within_recoveryImage {a0 a1} (hL : sub 81129638414606681695789005144063 L = true) (h : Within L s0 s) :
      Within L s0 (recoveryImage a0 a1 s) := by
  delta recoveryImage
  refine ite_ind ?_ ?_
  · assumption
  · extract_lets +onlyGivenNames -merge -useContext -underBinder x4_0
    clear_value x4_0
    refine ite_ind ?_ ?_
    · exact within_logError (sub_of hL rfl) (sub_of hL rfl) (by assumption)
    · refine ite_ind ?_ ?_
      · exact within_logError (sub_of hL rfl) (sub_of hL rfl) (by assumption)
      · refine within_resetRelease (sub_of hL rfl) ?_
        refine within_resetAssert (sub_of hL rfl) ?_
        exact within_setFlash (sub_of hL rfl) (by assumption)

theorem within_execRecoveryImage {a0 a1} (hL : sub 81129638414606681695789005144063 L = true) (h : Within L s0 s) :
      WithinN L s0 (execRecoveryImage a0 a1 s) := by
  delta execRecoveryImage
  refine withinN_next ?_
  refine within_recoveryImage (sub_of hL rfl) ?_
  exact within_at (sub_of hL rfl) (by assumption)

theorem within_execRefresh {a0 a1} (hL : sub 1180591620717411303424 L = true) (h : Within L s0 s) : WithinN L s0
      (execRefresh a0 a1 s) := by
  delta execRefresh
  refine withinN_next ?_
  exact within_at (sub_of hL rfl) (by assumption)

theorem within_execRelineSegmentDone {a0 a1} (hL : sub 74791694905042541320316529950722 L = true) (h : Within L s0
      s) : WithinN L s0 (execRelineSegmentDone a0 a1 s) := by
  delta execRelineSegmentDone
  refine withinN_next ?_
  refine within_memFollow (sub_of hL rfl) ?_
  refine within_segmentDone (sub_of hL rfl) ?_
  exact within_at (sub_of hL rfl) (by assumption)

theorem within_execResetNAssert {a0} (hL : sub 81129638414606681695789005144063 L = true) (h : Within L s0 s) :
      WithinN L s0 (execResetNAssert a0 s) := by
  delta execResetNAssert
  refine withinN_next ?_
  refine within_resetAssert (sub_of hL rfl) ?_
  exact within_at (sub_of hL rfl) (by assumption)

theorem within_execResetNRelease {a0} (hL : sub 74791695207790360661325246382146 L = true) (h : Within L s0 s) :
      WithinN L s0 (execResetNRelease a0 s) := by
  delta execResetNRelease
  refine withinN_next ?_
  refine within_resetRelease (sub_of hL rfl) ?_
  exact within_at (sub_of hL rfl) (by assumption)

theorem within_safeviewPin {a0} (hL : sub 63382839501143802299470950973442 L = true) (h : Within L s0 s) : Within L
      s0 (safeviewPin a0 s) := by
  delta safeviewPin
  extract_lets +onlyGivenNames -merge -useContext -underBinder x2_0 x2_1
  clear_value x2_0
  have hx2_1 : Within L s0 x2_1 := by
    unfold x2_1
    refine within_upd_pins (sub_of hL rfl) ?_
    assumption
  clear_value x2_1
  refine within_setCause (sub_of hL rfl) (sub_of hL rfl) ?_
  exact within_set (sub_of hL rfl) (by assumption)

theorem within_execSafeviewReqRelease {a0} (hL : sub 63382839502324393920188362276866 L = true) (h : Within L s0 s)
      : WithinN L s0 (execSafeviewReqRelease a0 s) := by
  delta execSafeviewReqRelease
  refine withinN_next ?_
  refine within_safeviewPin (sub_of hL rfl) ?_
  exact within_at (sub_of hL rfl) (by assumption)

theorem within_execSafeviewRequest {a0} (hL : sub 63382839502324393920188362276866 L = true) (h : Within L s0 s) :
      WithinN L s0 (execSafeviewRequest a0 s) := by
  delta execSafeviewRequest
  refine withinN_next ?_
  refine within_safeviewPin (sub_of hL rfl) ?_
  exact within_at (sub_of hL rfl) (by assumption)

theorem within_execScrubLine {a0 a1 a2 a3} (hL : sub 74791694907440618049900919144450 L = true) (h : Within L s0 s)
      : WithinN L s0 (execScrubLine a0 a1 a2 a3 s) := by
  delta execScrubLine
  refine withinN_next ?_
  refine within_memFollow (sub_of hL rfl) ?_
  refine within_scrubRead (sub_of hL rfl) ?_
  exact within_at (sub_of hL rfl) (by assumption)

theorem within_svbBegin {a0 a1} (hL : sub 43100120412482166415232530923520 L = true) (h : Within L s0 s) : Within L
      s0 (svbBegin a0 a1 s) := by
  delta svbBegin
  refine ite_ind ?_ ?_
  · exact within_svbWait (sub_of hL rfl) (by assumption)
  · extract_lets +onlyGivenNames -merge -useContext -underBinder x4_0
    clear_value x4_0
    refine ite_ind ?_ ?_
    · refine within_raise (sub_of hL rfl) (sub_of hL rfl) ?_
      exact within_svbWait (sub_of hL rfl) (by assumption)
    · refine within_setState (sub_of hL rfl) ?_
      refine within_upd_sup (sub_of hL rfl) ?_
      assumption

theorem within_svbIdleEnd {a0 a1} (hL : sub 43100120412482166415232530923520 L = true) (h : Within L s0 s) : Within
      L s0 (svbIdleEnd a0 a1 s) := by
  delta svbIdleEnd
  refine ite_ind ?_ ?_
  · exact within_svbBegin (sub_of hL rfl) (by assumption)
  · assumption

theorem within_execSvbIdleEnd {a0 a1 a2} (hL : sub 43100120413662758035949942226944 L = true) (h : Within L s0 s) :
      WithinN L s0 (execSvbIdleEnd a0 a1 a2 s) := by
  delta execSvbIdleEnd
  refine withinN_next ?_
  refine within_svbIdleEnd (sub_of hL rfl) ?_
  exact within_at (sub_of hL rfl) (by assumption)

theorem within_svbRetry {a0 a1} (hL : sub 43100120412482166415232530923520 L = true) (h : Within L s0 s) : Within L
      s0 (svbRetry a0 a1 s) := by
  delta svbRetry
  refine ite_ind ?_ ?_
  · exact within_svbBegin (sub_of hL rfl) (by assumption)
  · assumption

theorem within_execSvbRetry {a0 a1 a2} (hL : sub 43100120413662758035949942226944 L = true) (h : Within L s0 s) :
      WithinN L s0 (execSvbRetry a0 a1 a2 s) := by
  delta execSvbRetry
  refine withinN_next ?_
  refine within_svbRetry (sub_of hL rfl) ?_
  exact within_at (sub_of hL rfl) (by assumption)

theorem within_svbSourceRow {a0 a1 a2 a3} (hL : sub 43100120412482166415232530923520 L = true) (h : Within L s0 s)
      : Within L s0 (svbSourceRow a0 a1 a2 a3 s) := by
  delta svbSourceRow
  extract_lets +onlyGivenNames -merge -useContext -underBinder x2_0
  clear_value x2_0
  refine ite_ind ?_ ?_
  · assumption
  · extract_lets +onlyGivenNames -merge -useContext -underBinder x4_0 x4_1 x4_2 x4_3
    clear_value x4_0
    have hx4_1 : Within L s0 x4_1 := by
      refine ite_ind ?_ ?_
      · exact within_inc (sub_of (a := partW .svb) hL rfl) (by assumption)
      · assumption
    clear_value x4_1 x4_2
    have hx4_3 : Within L s0 x4_3 := by
      unfold x4_3
      refine within_upd_sup (sub_of hL rfl) ?_
      assumption
    clear_value x4_3
    refine ite_ind ?_ ?_
    · refine within_raise (sub_of hL rfl) (sub_of hL rfl) ?_
      exact within_set (sub_of hL rfl) (by assumption)
    · assumption

theorem within_execSvbSourceRow {a0 a1 a2 a3 a4} (hL : sub 43100120413662758035949942226944 L = true) (h : Within L
      s0 s) : WithinN L s0 (execSvbSourceRow a0 a1 a2 a3 a4 s) := by
  delta execSvbSourceRow
  refine withinN_next ?_
  refine within_svbSourceRow (sub_of hL rfl) ?_
  exact within_at (sub_of hL rfl) (by assumption)

theorem within_svbAttempt {a0} (hL : sub 43100120412482166415232530923520 L = true) (h : Within L s0 s) : Within L
      s0 (svbAttempt a0 s) := by
  delta svbAttempt
  refine ite_ind ?_ ?_
  · assumption
  · split
    · assumption
    · refine ite_ind ?_ ?_
      · extract_lets +onlyGivenNames -merge -useContext -underBinder x8_0 x8_1
        clear_value x8_0
        have hx8_1 : Within L s0 x8_1 := by
          unfold x8_1
          refine within_upd_sup (sub_of hL rfl) ?_
          assumption
        clear_value x8_1
        refine within_raise (sub_of hL rfl) (sub_of hL rfl) ?_
        refine within_svbLink (sub_of hL rfl) ?_
        exact within_setState (sub_of hL rfl) (by assumption)
      · extract_lets +onlyGivenNames -merge -useContext -underBinder x8_0 x8_1
        clear_value x8_0
        have hx8_1 : Within L s0 x8_1 := by
          refine within_inc (sub_of hL rfl) ?_
          refine within_upd_sup (sub_of hL rfl) ?_
          assumption
        clear_value x8_1
        refine ite_ind ?_ ?_
        · refine within_raise (sub_of hL rfl) (sub_of hL rfl) ?_
          exact within_svbWait (sub_of hL rfl) (by assumption)
        · assumption

theorem within_execSvbTrainAttemptEnd {a0 a1} (hL : sub 43100120413662758035949942226944 L = true) (h : Within L s0
      s) : WithinN L s0 (execSvbTrainAttemptEnd a0 a1 s) := by
  delta execSvbTrainAttemptEnd
  refine withinN_next ?_
  refine within_svbAttempt (sub_of hL rfl) ?_
  exact within_at (sub_of hL rfl) (by assumption)

theorem within_thermalTrip {a0} (hL : sub 81129638414606681695789005144063 L = true) (h : Within L s0 s) : Within L
      s0 (thermalTrip a0 s) := by
  delta thermalTrip
  refine ite_ind ?_ ?_
  · assumption
  · refine within_tripOn (sub_of hL rfl) ?_
    refine within_coldReset (sub_of hL rfl) ?_
    refine within_inc (sub_of hL rfl) ?_
    exact within_set (sub_of hL rfl) (by assumption)

theorem within_thermalShow {a0 a1 a2} (hL : sub 2535301205178825285897411362819 L = true) (h : Within L s0 s) :
      Within L s0 (thermalShow a0 a1 a2 s) := by
  delta thermalShow
  extract_lets +onlyGivenNames -merge -useContext -underBinder x2_0 x2_1 x2_2 x2_3 x2_4
  have hx2_0 : Within L s0 x2_0 := by
    refine ite_ind ?_ ?_
    · assumption
    · refine within_forEach (fun _ _ _ => ?_) ?_
      · refine within_set (sub_of (a := partW .glb) hL rfl) ?_
        exact within_set (sub_of (a := partW .glb) hL rfl) (by assumption)
      · assumption
  clear_value x2_0
  have hx2_1 : Within L s0 x2_1 := by
    refine within_set (sub_of hL rfl) ?_
    exact within_set (sub_of hL rfl) (by assumption)
  clear_value x2_1 x2_2
  have hx2_3 : Within L s0 x2_3 := by
    exact within_set (sub_of hL rfl) (by assumption)
  clear_value x2_3 x2_4
  refine ite_ind ?_ ?_
  · refine within_raise (sub_of hL rfl) (sub_of hL rfl) ?_
    exact within_set (sub_of hL rfl) (by assumption)
  · refine ite_ind ?_ ?_
    · refine within_raise (sub_of hL rfl) (sub_of hL rfl) ?_
      exact within_set (sub_of hL rfl) (by assumption)
    · assumption

theorem within_thermalSample {a0} (hL : sub 81129638414606681695789005144063 L = true) (h : Within L s0 s) : Within
      L s0 (thermalSample a0 s) := by
  delta thermalSample
  extract_lets +onlyGivenNames -merge -useContext -underBinder x2_0 x2_1 x2_2
  clear_value x2_0 x2_1 x2_2
  refine within_thermalTrip (sub_of hL rfl) ?_
  refine within_countHot (sub_of hL rfl) ?_
  exact within_thermalShow (sub_of hL rfl) (by assumption)

theorem within_execThermalSample {a0 a1} (hL : sub 81129638414606681695789005144063 L = true) (h : Within L s0 s) :
      WithinN L s0 (execThermalSample a0 a1 s) := by
  delta execThermalSample
  refine withinN_next ?_
  refine within_thermalSample (sub_of hL rfl) ?_
  exact within_at (sub_of hL rfl) (by assumption)

theorem within_execTrackTick {a0 a1 a2 a3} (hL : sub 74791694904489138998105243402242 L = true) (h : Within L s0 s)
      : WithinN L s0 (execTrackTick a0 a1 a2 a3 s) := by
  delta execTrackTick
  refine withinN_next ?_
  refine within_memFollow (sub_of hL rfl) ?_
  refine within_trackTick (sub_of hL rfl) ?_
  exact within_at (sub_of hL rfl) (by assumption)

theorem within_heartbeat {a0} (hL : sub 73524044303043424488843221418054 L = true) (h : Within L s0 s) : Within L
      s0 (heartbeat a0 s) := by
  delta heartbeat
  extract_lets +onlyGivenNames -merge -useContext -underBinder x2_0
  clear_value x2_0
  refine ite_ind ?_ ?_
  · assumption
  · refine ite_ind ?_ ?_
    · exact within_supMiss (sub_of hL rfl) (by assumption)
    · extract_lets +onlyGivenNames -merge -useContext -underBinder x6_0 x6_1 x6_2 x6_3 x6_4 x6_5
      clear_value x6_0
      have hx6_1 : Within L s0 x6_1 := by
        exact within_set (sub_of hL rfl) (by assumption)
      clear_value x6_1 x6_2
      have hx6_3 : Within L s0 x6_3 := by
        unfold x6_3
        refine within_upd_sup (sub_of hL rfl) ?_
        assumption
      clear_value x6_3
      have hx6_4 : Within L s0 x6_4 := by
        refine within_refreshMisses (sub_of hL rfl) ?_
        exact within_setState (sub_of hL rfl) (by assumption)
      clear_value x6_4
      have hx6_5 : Within L s0 x6_5 := by
        refine ite_ind ?_ ?_
        · refine within_secReattached (sub_of hL rfl) ?_
          exact within_raise (sub_of hL rfl) (sub_of hL rfl) (by assumption)
        · assumption
      clear_value x6_5
      exact within_showFault (sub_of hL rfl) (by assumption)

theorem within_showAges {a0} (hL : sub 40564819207303340847894502588418 L = true) (h : Within L s0 s) : Within L s0
      (showAges a0 s) := by
  delta showAges
  refine within_forEach (fun _ _ _ => ?_) ?_
  · exact within_set (sub_of (a := partW .svb) hL rfl) (by assumption)
  · exact within_refreshMisses (sub_of hL rfl) (by assumption)

theorem within_writeSupCtrl {a0} (hL : sub 73524044303043424488843221418054 L = true) (h : Within L s0 s) : Within
      L s0 (writeSupCtrl a0 s) := by
  delta writeSupCtrl
  extract_lets +onlyGivenNames -merge -useContext -underBinder x2_0 x2_1 x2_2
  have hx2_0 : Within L s0 x2_0 := by
    exact within_set (sub_of hL rfl) (by assumption)
  clear_value x2_0
  have hx2_1 : Within L s0 x2_1 := by
    refine ite_ind ?_ ?_
    · refine within_evalCauses (sub_of hL rfl) ?_
      refine ite_ind ?_ ?_
      · assumption
      · exact within_set (sub_of hL rfl) (by assumption)
    · assumption
  clear_value x2_1 x2_2
  refine ite_ind ?_ ?_
  · exact within_warmReset (sub_of hL rfl) (by assumption)
  · assumption

end Sys2Proof.Machine
end

