-- ==== Sys2Proof/Laws/WithinRings.lean ====
section
/-! SUPPORT. Which parts of a state each operation of Rings.lean may write. -/

namespace Sys2Proof.Machine

variable {L : Nat} {s0 s : State}

theorem within_rset {a0 a1 a2 a3} (q0_2 : sub (partW a2.blk) L = true) (h : Within L s0 s) : Within L s0 (rset a0
      a1 a2 a3 s) := by
  delta rset
  exact within_set q0_2 (by assumption)

theorem within_descCount {a0 a1 a2} (hL : sub 256 L = true) (h : Within L s0 s) : Within L s0 (descCount a0 a1 a2
      s) := by
  delta descCount
  extract_lets +onlyGivenNames -merge -useContext -underBinder x2_0
  have hx2_0 : Within L s0 x2_0 := by
    exact within_rset (sub_of hL rfl) (by assumption)
  clear_value x2_0
  exact within_rset (sub_of hL rfl) (by assumption)

theorem within_descStatus {a0 a1 a2 a3} (hL : sub 5607810198411998658560 L = true) (h : Within L s0 s) : Within L
      s0 (descStatus a0 a1 a2 a3 s) := by
  delta descStatus
  extract_lets +onlyGivenNames -merge -useContext -underBinder x2_0 x2_1
  clear_value x2_0 x2_1
  refine ite_ind ?_ ?_
  · exact within_dramWrite (sub_of hL rfl) (by assumption)
  · exact within_emit (sub_of hL rfl) (by assumption)

theorem within_ringEvent {a0 a1 a2} (hL : sub 2535301205178825290261098135808 L = true) (h : Within L s0 s) :
      Within L s0 (ringEvent a0 a1 a2 s) := by
  delta ringEvent
  refine within_raise (sub_of hL rfl) (sub_of hL rfl) ?_
  exact within_set (sub_of hL rfl) (by assumption)

theorem within_stopRing {a0 a1} (hL : sub 2535301206064269005803451580672 L = true) (h : Within L s0 s) : Within L
      s0 (stopRing a0 a1 s) := by
  delta stopRing
  refine ite_ind ?_ ?_
  · assumption
  · extract_lets +onlyGivenNames -merge -useContext -underBinder x4_0 x4_1
    have hx4_0 : Within L s0 x4_0 := by
      refine ite_ind ?_ ?_
      · refine within_descCount (sub_of hL rfl) ?_
        refine ite_ind ?_ ?_
        · exact within_descStatus (sub_of hL rfl) (by assumption)
        · assumption
      · assumption
    clear_value x4_0
    have hx4_1 : Within L s0 x4_1 := by
      refine within_rset (sub_of hL rfl) ?_
      exact within_rset (sub_of hL rfl) (by assumption)
    clear_value x4_1
    exact within_ringEvent (sub_of hL rfl) (by assumption)

theorem within_stopRings {a0} (hL : sub 2535301206064269005803451580672 L = true) (h : Within L s0 s) : Within L s0
      (stopRings a0 s) := by
  delta stopRings
  refine within_forEach (fun _ _ _ => ?_) ?_
  · exact within_stopRing (sub_of hL rfl) (by assumption)
  · assumption

theorem within_hostFlr {a0} (hL : sub 7605903607272334512554390847872 L = true) (h : Within L s0 s) : Within L s0
      (hostFlr a0 s) := by
  delta hostFlr
  refine ite_ind ?_ ?_
  · assumption
  · extract_lets +onlyGivenNames -merge -useContext -underBinder x4_0 x4_1
    have hx4_0 : Within L s0 x4_0 := by
      refine within_resetFunction (sub_of hL rfl) ?_
      exact within_setState (sub_of hL rfl) (by assumption)
    clear_value x4_0
    have hx4_1 : Within L s0 x4_1 := by
      refine within_raise (sub_of hL rfl) (sub_of hL rfl) ?_
      exact within_inc (sub_of hL rfl) (by assumption)
    clear_value x4_1
    refine within_loseOrigin (sub_of hL rfl) ?_
    exact within_stopRings (sub_of hL rfl) (by assumption)

theorem within_execFlr {a0 a1} (hL : sub 7605903608452926133271802151296 L = true) (h : Within L s0 s) : WithinN L
      s0 (execFlr a0 a1 s) := by
  delta execFlr
  refine withinN_next ?_
  refine within_hostFlr (sub_of hL rfl) ?_
  exact within_at (sub_of hL rfl) (by assumption)

theorem within_hostLinkDown {a0} (hL : sub 7605903607272334512554390847872 L = true) (h : Within L s0 s) : Within L
      s0 (hostLinkDown a0 s) := by
  delta hostLinkDown
  refine ite_ind ?_ ?_
  · assumption
  · extract_lets +onlyGivenNames -merge -useContext -underBinder x4_0 x4_1
    have hx4_0 : Within L s0 x4_0 := by
      refine within_resetFunction (sub_of hL rfl) ?_
      refine within_setState (sub_of hL rfl) ?_
      exact within_linkGone (sub_of hL rfl) (by assumption)
    clear_value x4_0
    have hx4_1 : Within L s0 x4_1 := by
      refine within_logError (sub_of hL rfl) (sub_of hL rfl) ?_
      refine within_raise (sub_of hL rfl) (sub_of hL rfl) ?_
      exact within_inc (sub_of hL rfl) (by assumption)
    clear_value x4_1
    refine within_loseOrigin (sub_of hL rfl) ?_
    exact within_stopRings (sub_of hL rfl) (by assumption)

theorem within_execHostLinkDown {a0 a1} (hL : sub 7605903608452926133271802151296 L = true) (h : Within L s0 s) :
      WithinN L s0 (execHostLinkDown a0 a1 s) := by
  delta execHostLinkDown
  refine withinN_next ?_
  refine within_hostLinkDown (sub_of hL rfl) ?_
  exact within_at (sub_of hL rfl) (by assumption)

theorem within_headNext {a0 a1} (hL : sub 256 L = true) (h : Within L s0 s) : Within L s0 (headNext a0 a1 s) := by
  delta headNext
  exact within_rset (sub_of hL rfl) (by assumption)

theorem within_resetDma {a0} (hL : sub 2535301206064269005803451580672 L = true) (h : Within L s0 s) : Within L s0
      (resetDma a0 s) := by
  delta resetDma
  refine within_forEach (fun _ _ _ => ?_) ?_
  · refine within_rset (sub_of hL rfl) ?_
    exact within_rset (sub_of hL rfl) (by assumption)
  · exact within_stopRings (sub_of hL rfl) (by assumption)

theorem within_writeRingCfg {a0 a1 a2 a3} (hL : sub 2535301205178825290261098135808 L = true) (h : Within L s0 s) :
      Within L s0 (writeRingCfg a0 a1 a2 a3 s) := by
  delta writeRingCfg
  extract_lets +onlyGivenNames -merge -useContext -underBinder x2_0 x2_1
  clear_value x2_0 x2_1
  refine ite_ind ?_ ?_
  · refine ite_ind ?_ ?_
    · exact within_logAccess (sub_of hL rfl) (sub_of hL rfl) (by assumption)
    · extract_lets +onlyGivenNames -merge -useContext -underBinder x6_0
      have hx6_0 : Within L s0 x6_0 := by
        exact within_rset (sub_of hL rfl) (by assumption)
      clear_value x6_0
      refine ite_ind ?_ ?_
      · exact within_rset (sub_of hL rfl) (by assumption)
      · assumption
  · refine ite_ind ?_ ?_
    · exact within_logAccess (sub_of hL rfl) (sub_of hL rfl) (by assumption)
    · extract_lets +onlyGivenNames -merge -useContext -underBinder x6_0 x6_1
      clear_value x6_0
      have hx6_1 : Within L s0 x6_1 := by
        exact within_rset (sub_of hL rfl) (by assumption)
      clear_value x6_1
      refine ite_ind ?_ ?_
      · assumption
      · exact within_rset (sub_of hL rfl) (by assumption)

theorem within_writeRingBase {a0 a1 a2 a3 a4} (hL : sub 2535301205178825290261098135808 L = true) (h : Within L s0
      s) : Within L s0 (writeRingBase a0 a1 a2 a3 a4 s) := by
  delta writeRingBase
  extract_lets +onlyGivenNames -merge -useContext -underBinder x2_0
  clear_value x2_0
  refine ite_ind ?_ ?_
  · exact within_logAccess (sub_of hL rfl) (sub_of hL rfl) (by assumption)
  · refine ite_ind ?_ ?_
    · refine ite_ind ?_ ?_
      · exact within_rset (sub_of hL rfl) (by assumption)
      · exact within_logAccess (sub_of hL rfl) (sub_of hL rfl) (by assumption)
    · exact within_rset (sub_of hL rfl) (by assumption)

theorem within_writeRingTail {a0 a1 a2 a3} (hL : sub 2535301205178825290261098135808 L = true) (h : Within L s0 s)
      : Within L s0 (writeRingTail a0 a1 a2 a3 s) := by
  delta writeRingTail
  refine ite_ind ?_ ?_
  · exact within_logAccess (sub_of hL rfl) (sub_of hL rfl) (by assumption)
  · exact within_rset (sub_of hL rfl) (by assumption)

theorem within_writeRingCtrl {a0 a1 a2 a3} (hL : sub 2535301205178825290261098135808 L = true) (h : Within L s0 s)
      : Within L s0 (writeRingCtrl a0 a1 a2 a3 s) := by
  delta writeRingCtrl
  extract_lets +onlyGivenNames -merge -useContext -underBinder x2_0 x2_1 x2_2
  clear_value x2_0 x2_1 x2_2
  refine ite_ind ?_ ?_
  · exact within_logAccess (sub_of hL rfl) (sub_of hL rfl) (by assumption)
  · refine ite_ind ?_ ?_
    · assumption
    · refine ite_ind ?_ ?_
      · exact within_logAccess (sub_of hL rfl) (sub_of hL rfl) (by assumption)
      · extract_lets +onlyGivenNames -merge -useContext -underBinder x8_0
        have hx8_0 : Within L s0 x8_0 := by
          refine ite_ind ?_ ?_
          · exact within_headNext (sub_of hL rfl) (by assumption)
          · assumption
        clear_value x8_0
        exact within_rset (sub_of hL rfl) (by assumption)

theorem within_writeRing {a0 a1 a2 a3} (hL : sub 2535301205178825290261098135808 L = true) (h : Within L s0 s) :
      Within L s0 (writeRing a0 a1 a2 a3 s) := by
  delta writeRing
  extract_lets +onlyGivenNames -merge -useContext -underBinder x2_0
  clear_value x2_0
  split
  · exact within_writeRingCfg (sub_of hL rfl) (by assumption)
  · exact within_writeRingBase (sub_of hL rfl) (by assumption)
  · exact within_writeRingBase (sub_of hL rfl) (by assumption)
  · exact within_writeRingTail (sub_of hL rfl) (by assumption)
  · exact within_writeRingCtrl (sub_of hL rfl) (by assumption)
  · assumption

end Sys2Proof.Machine
end

