-- ==== Sys2Proof/Laws/WithinSoftReset.lean ====
section
/-! SUPPORT. Which parts of a state each operation of SoftReset.lean may write. -/

namespace Sys2Proof.Machine

variable {L : Nat} {s0 s : State}

theorem within_benchForgets {a0 a1 a2} (hL : sub 75557863725914323419136 L = true) (h : Within L s0 s) : Within L
      s0 (benchForgets a0 a1 a2 s) := by
  delta benchForgets
  extract_lets +onlyGivenNames -merge -useContext -underBinder x2_0 x2_1 x2_2
  clear_value x2_0 x2_1 x2_2
  exact within_setBench (sub_of hL rfl) (by assumption)

theorem within_keepingWords {a0 a1 a2 f} (q0_0 : sub (partW a0) L = true) (hf : ∀ s, Within L s0 s → Within L s0 (f
      s)) (h : Within L s0 s) : Within L s0 (keepingWords a0 a1 a2 f s) := by
  delta keepingWords
  refine within_forEach (fun _ _ _ => ?_) ?_
  · exact within_setWord q0_0 (by assumption)
  · refine hf _ ?_
    assumption

theorem within_outOfService {a0 a1} (q1_0 : sub (partH a0) L = true) (h : Within L s0 s) : Within L s0
      (outOfService a0 a1 s) := by
  delta outOfService
  exact within_setHdr q1_0 (by assumption)

theorem within_softCam {a0} (hL : sub 2535353331545533612966475568664 L = true) (h : Within L s0 s) : Within L s0
      (softCam a0 s) := by
  delta softCam
  extract_lets +onlyGivenNames -merge -useContext -underBinder x2_0 x2_1 x2_2
  clear_value x2_1
  have hx2_2 : Within L s0 x2_2 := by
    exact within_resetPort (sub_of hL rfl) (by assumption)
  clear_value x2_2
  refine within_kick (sub_of hL rfl) ?_
  refine within_outOfService (sub_portH (sub_of hL rfl) (sub_of hL rfl)) ?_
  refine within_keepingWords (sub_portW (sub_of hL rfl) (sub_of hL rfl)) (fun _ _ => ?_) ?_
  · exact within_clearWindow (sub_portW (sub_of hL rfl) (sub_of hL rfl)) (by assumption)
  · assumption

theorem within_resetPlain {a0 a1} (q1_0 : sub (partH a0) L = true) (q0_0 : sub (partW a0) L = true) (h : Within L
      s0 s) : Within L s0 (resetPlain a0 a1 s) := by
  delta resetPlain
  refine within_outOfService q1_0 ?_
  exact within_clearWindow q0_0 (by assumption)

theorem within_softCctl {a0} (hL : sub 20282410208114580266446210729984 L = true) (h : Within L s0 s) : Within L s0
      (softCctl a0 s) := by
  delta softCctl
  refine within_resetPlain (sub_of hL rfl) (sub_of hL rfl) ?_
  exact within_resetCctl (sub_of hL rfl) (by assumption)

theorem within_softEnc {a0} (hL : sub 9671406561420633025282056 L = true) (h : Within L s0 s) : Within L s0
      (softEnc a0 s) := by
  delta softEnc
  extract_lets +onlyGivenNames -merge -useContext -underBinder x2_0
  have hx2_0 : Within L s0 x2_0 := by
    refine within_forEach (fun _ _ _ => ?_) ?_
    · extract_lets +onlyGivenNames -merge -useContext -underBinder x6_0
      refine within_showCtx (sub_of hL rfl) ?_
      refine within_setS (sub_of (a := partW .enc) hL rfl) ?_
      exact within_set (sub_of (a := partW .enc) hL rfl) (by assumption)
    · exact within_resetEnc (sub_of hL rfl) (by assumption)
  clear_value x2_0
  exact within_refreshPace (sub_of hL rfl) (by assumption)

theorem within_softDec {a0} (hL : sub 2535359233618193809661203316736 L = true) (h : Within L s0 s) : Within L s0
      (softDec a0 s) := by
  delta softDec
  refine within_forEach (fun _ _ _ => ?_) ?_
  · exact within_dset (sub_of hL rfl) (by assumption)
  · exact within_resetDec (sub_of hL rfl) (by assumption)

theorem within_softAud {a0} (hL : sub 316912650066280722411567448064 L = true) (h : Within L s0 s) : Within L s0
      (softAud a0 s) := by
  delta softAud
  refine within_outOfService (sub_of hL rfl) ?_
  exact within_audDisable (sub_of hL rfl) (by assumption)

theorem within_softTime {a0} (hL : sub 59421121888004096204505874432 L = true) (h : Within L s0 s) : Within L s0
      (softTime a0 s) := by
  delta softTime
  refine within_resetPlain (sub_of hL rfl) (sub_of hL rfl) ?_
  refine within_setDom (sub_of hL rfl) ?_
  exact within_dropSlew (sub_of hL rfl) (by assumption)

theorem within_softDpo {a0} (hL : sub 309485009965460256809025536 L = true) (h : Within L s0 s) : Within L s0
      (softDpo a0 s) := by
  delta softDpo
  extract_lets +onlyGivenNames -merge -useContext -underBinder x2_0 x2_1 x2_2 x2_3 x2_4 x2_5
  clear_value x2_0 x2_1
  have hx2_2 : Within L s0 x2_2 := by
    exact within_portDisable (sub_of hL rfl) (by assumption)
  clear_value x2_2 x2_3
  have hx2_4 : Within L s0 x2_4 := by
    exact within_setDpo (sub_of hL rfl) (by assumption)
  clear_value x2_4
  have hx2_5 : Within L s0 x2_5 := by
    refine within_set (sub_of hL rfl) ?_
    exact within_resetPlain (sub_of hL rfl) (sub_of hL rfl) (by assumption)
  clear_value x2_5
  refine ite_ind ?_ ?_
  · exact within_setState (sub_of hL rfl) (by assumption)
  · assumption

theorem within_softStrm {a0} (hL : sub 2535353331545533586303318593544 L = true) (h : Within L s0 s) : Within L s0
      (softStrm a0 s) := by
  delta softStrm
  extract_lets +onlyGivenNames -merge -useContext -underBinder x2_0 x2_1 x2_2 x2_3 x2_4 x2_5
  clear_value x2_0
  have hx2_1 : Within L s0 x2_1 := by
    refine within_forEach (fun _ _ _ => ?_) ?_
    · exact within_benchForgets (sub_of hL rfl) (by assumption)
    · assumption
  clear_value x2_1
  have hx2_2 : Within L s0 x2_2 := by
    refine within_strmSettled (sub_of hL rfl) ?_
    refine within_place (sub_of hL rfl) ?_
    exact within_outOfService (sub_of hL rfl) (by assumption)
  clear_value x2_2
  have hx2_3 : Within L s0 x2_3 := by
    refine within_keepingWords (sub_of hL rfl) (fun _ _ => ?_) ?_
    · exact within_clearWindow (sub_of hL rfl) (by assumption)
    · assumption
  clear_value x2_3 x2_4
  have hx2_5 : Within L s0 x2_5 := by
    exact within_setStrm (sub_of hL rfl) (by assumption)
  clear_value x2_5
  refine within_kick (sub_of hL rfl) ?_
  refine within_refreshStage (sub_of hL rfl) ?_
  exact within_strmShown (sub_of hL rfl) (by assumption)

theorem within_softHead {a0} (hL : sub 22818291093224469178167979933704 L = true) (h : Within L s0 s) : Within L s0
      (softHead a0 s) := by
  delta softHead
  extract_lets +onlyGivenNames -merge -useContext -underBinder x2_0 x2_1 x2_2 x2_3 x2_4
  have hx2_0 : Within L s0 x2_0 := by
    refine within_setHead (sub_of hL rfl) ?_
    exact within_stopHead (sub_of hL rfl) (by assumption)
  clear_value x2_0
  have hx2_1 : Within L s0 x2_1 := by
    exact within_resetPlain (sub_of hL rfl) (sub_of hL rfl) (by assumption)
  clear_value x2_1
  have hx2_2 : Within L s0 x2_2 := by
    refine within_forEach (fun _ _ _ => ?_) ?_
    · exact within_discardStaged (sub_of hL rfl) (sub_of hL rfl) (by assumption)
    · assumption
  clear_value x2_2
  have hx2_3 : Within L s0 x2_3 := by
    refine within_forEach (fun _ _ _ => ?_) ?_
    · exact within_settleLay (sub_of hL rfl) (by assumption)
    · assumption
  clear_value x2_3
  have hx2_4 : Within L s0 x2_4 := by
    refine within_refreshPace (sub_of hL rfl) ?_
    exact within_dropUnfed (sub_of hL rfl) (by assumption)
  clear_value x2_4
  refine within_refreshFrayPin (sub_of hL rfl) ?_
  refine within_forEach (fun _ _ _ => ?_) ?_
  · refine ite_ind ?_ ?_
    · assumption
    · exact within_setStale (sub_of hL rfl) (by assumption)
  · assumption

theorem within_softLayer {a0} (hL : sub 22817828074635376631208970551304 L = true) (h : Within L s0 s) : Within L
      s0 (softLayer a0 s) := by
  delta softLayer
  extract_lets +onlyGivenNames -merge -useContext -underBinder x2_0
  have hx2_0 : Within L s0 x2_0 := by
    refine within_resetPlain (sub_of hL rfl) (sub_of hL rfl) ?_
    exact within_resetLayPre (sub_of hL rfl) (by assumption)
  clear_value x2_0
  refine within_refreshPace (sub_of hL rfl) ?_
  refine within_refreshFrayPin (sub_of hL rfl) ?_
  refine within_dropUnfed (sub_of hL rfl) ?_
  exact within_showLay (sub_of hL rfl) (by assumption)

theorem within_softBench {a0} (hL : sub 8192 L = true) (h : Within L s0 s) : Within L s0 (softBench a0 s) := by
  delta softBench
  refine within_setWord (sub_of hL rfl) ?_
  refine within_setWord (sub_of hL rfl) ?_
  exact within_setWord (sub_of hL rfl) (by assumption)

theorem within_softHost {a0} (hL : sub 128 L = true) (h : Within L s0 s) : Within L s0 (softHost a0 s) := by
  delta softHost
  refine within_set (sub_of hL rfl) ?_
  refine within_set (sub_of hL rfl) ?_
  exact within_setWord (sub_of hL rfl) (by assumption)

theorem within_softAmclk (hL : sub 633825300132561444823134896128 L = true) (h : Within L s0 s) : Within L s0
      (softAmclk s) := by
  delta softAmclk
  refine within_resetPlain (sub_of hL rfl) (sub_of hL rfl) ?_
  refine within_upd_trigger (sub_of hL rfl) ?_
  assumption

theorem within_softNet {a0} (hL : sub 2553870309018768172238663319552 L = true) (h : Within L s0 s) : Within L s0
      (softNet a0 s) := by
  delta softNet
  refine within_setNet (sub_of hL rfl) ?_
  refine within_resetPlain (sub_of hL rfl) (sub_of hL rfl) ?_
  exact within_netDisable (sub_of hL rfl) (by assumption)

theorem within_softSession {a0} (hL : sub 2548918549007471221471832965120 L = true) (h : Within L s0 s) : Within L
      s0 (softSession a0 s) := by
  delta softSession
  extract_lets +onlyGivenNames -merge -useContext -underBinder x2_0
  have hx2_0 : Within L s0 x2_0 := by
    refine ite_ind ?_ ?_
    · exact within_unsubscribe (sub_of hL rfl) (by assumption)
    · assumption
  clear_value x2_0
  refine within_pickAll (sub_of hL rfl) ?_
  refine within_setSess (sub_of hL rfl) ?_
  exact within_resetPlain (sub_of hL rfl) (sub_of hL rfl) (by assumption)

theorem within_resetBlock {a0 a1} (hL : sub 23847052656542870205768019197880 L = true) (h : Within L s0 s) : Within
      L s0 (resetBlock a0 a1 s) := by
  delta resetBlock
  split
  · exact within_softCam (sub_of hL rfl) (by assumption)
  · exact within_softCam (sub_of hL rfl) (by assumption)
  · exact within_softCctl (sub_of hL rfl) (by assumption)
  · exact within_softEnc (sub_of hL rfl) (by assumption)
  · exact within_softDec (sub_of hL rfl) (by assumption)
  · exact within_softAud (sub_of hL rfl) (by assumption)
  · exact within_resetDma (sub_of hL rfl) (by assumption)
  · assumption
  · exact within_softTime (sub_of hL rfl) (by assumption)
  · refine within_refreshPps (sub_of hL rfl) ?_
    exact within_resetPlain (sub_of hL rfl) (sub_of hL rfl) (by assumption)
  · exact within_softDpo (sub_of hL rfl) (by assumption)
  · exact within_softStrm (sub_of hL rfl) (by assumption)
  · exact within_softHead (sub_of hL rfl) (by assumption)
  · exact within_softLayer (sub_of hL rfl) (by assumption)
  · exact within_softBench (sub_of hL rfl) (by assumption)
  · exact within_softHost (sub_of hL rfl) (by assumption)
  · refine within_showMem (sub_of hL rfl) ?_
    exact within_resetPlain (sub_of hL rfl) (sub_of hL rfl) (by assumption)
  · exact within_softAmclk (sub_of hL rfl) (by assumption)
  · refine within_setZraw (sub_of hL rfl) ?_
    exact within_resetPlain (sub_of hL rfl) (sub_of hL rfl) (by assumption)
  · exact within_softNet (sub_of hL rfl) (by assumption)
  · exact within_softSession (sub_of hL rfl) (by assumption)
  · exact within_resetPlain (sub_of hL rfl) (sub_of hL rfl) (by assumption)
  · assumption
  · assumption
  · assumption
  · assumption
  · assumption
  · assumption
  · assumption
  · assumption
  · assumption
  · assumption
  · assumption
  · assumption

theorem within_resetHeader {a0 a1} (q1_0 : sub (partH a0) L = true) (h : Within L s0 s) : Within L s0 (resetHeader
      a0 a1 s) := by
  delta resetHeader
  extract_lets +onlyGivenNames -merge -useContext -underBinder x2_0
  exact within_setHdr q1_0 (by assumption)

theorem within_softReset {a0 a1} (hL : sub 23847052656542870205768019197880 L = true) (q1_0 : sub (partH a0) L =
      true) (h : Within L s0 s) : Within L s0 (softReset a0 a1 s) := by
  delta softReset
  refine within_resetBlock (sub_of hL rfl) ?_
  exact within_resetHeader q1_0 (by assumption)

end Sys2Proof.Machine
end

