-- ==== Sys2Proof/Laws/WithinWrites.lean ====
section
/-! SUPPORT. Which parts of a state each operation of Writes.lean may write. -/

namespace Sys2Proof.Machine

variable {L : Nat} {s0 s : State}

theorem within_writeSec {a0 a1 a2 a3} (hL : sub 12676506007004660498936188895296 L = true) (h : Within L s0 s) :
      Within L s0 (writeSec a0 a1 a2 a3 s) := by
  delta writeSec
  split
  · exact within_writeSecCmd (sub_of hL rfl) (by assumption)
  · exact within_writeHandover (sub_of hL rfl) (by assumption)
  · exact within_setSecCopy (sub_of hL rfl) (by assumption)

theorem within_writeEnc {a0 a1 a2 a3 a4} (hL : sub 2535310877470830422038447128576 L = true) (h : Within L s0 s) :
      Within L s0 (writeEnc a0 a1 a2 a3 a4 s) := by
  delta writeEnc
  refine ite_ind ?_ ?_
  · exact within_writeGang (sub_of hL rfl) (by assumption)
  · extract_lets +onlyGivenNames -merge -useContext -underBinder x4_0
    have hx4_0 : Within L s0 x4_0 := by
      exact within_storeFields (sub_of hL rfl) (by assumption)
    clear_value x4_0
    refine ite_ind ?_ ?_
    · exact within_outFreed (sub_of hL rfl) (by assumption)
    · assumption

theorem within_writeDec {a0 a1 a2 a3 a4} (hL : sub 2535359233618193809661203316736 L = true) (h : Within L s0 s) :
      Within L s0 (writeDec a0 a1 a2 a3 a4 s) := by
  delta writeDec
  refine ite_ind ?_ ?_
  · exact within_storeFields (sub_of hL rfl) (by assumption)
  · extract_lets +onlyGivenNames -merge -useContext -underBinder x4_0
    clear_value x4_0
    split
    · exact within_writeDecCfg (sub_of hL rfl) (by assumption)
    · exact within_writeDecIn (sub_of hL rfl) (by assumption)
    · exact within_storeFields (sub_of hL rfl) (by assumption)

theorem within_writePool {a0 a1 a2 a3} (hL : sub 2535339890805070968395152752640 L = true) (h : Within L s0 s) :
      Within L s0 (writePool a0 a1 a2 a3 s) := by
  delta writePool
  refine ite_ind ?_ ?_
  · exact within_poolCommand (sub_of hL rfl) (by assumption)
  · refine ite_ind ?_ ?_
    · exact within_setPoolCopy (sub_of hL rfl) (by assumption)
    · refine ite_ind ?_ ?_
      · exact within_logAccess (sub_of hL rfl) (sub_of hL rfl) (by assumption)
      · exact within_storeFields (sub_of hL rfl) (by assumption)

theorem within_writePkt {a0 a1 a2 a3} (hL : sub 2553870309018191711477769961472 L = true) (h : Within L s0 s) :
      Within L s0 (writePkt a0 a1 a2 a3 s) := by
  delta writePkt
  refine ite_ind ?_ ?_
  · refine ite_ind ?_ ?_
    · exact within_writeFlowCfg (sub_of hL rfl) (by assumption)
    · exact within_storeFields (sub_of hL rfl) (by assumption)
  · refine within_pickAll (sub_of hL rfl) ?_
    refine within_showBuf (sub_of hL rfl) ?_
    exact within_storeFields (sub_of hL rfl) (by assumption)

theorem within_writeMemx {a0 a1 a2 a3 a4} (hL : sub 3802951805480841663658888003584 L = true) (h : Within L s0 s) :
      Within L s0 (writeMemx a0 a1 a2 a3 a4 s) := by
  delta writeMemx
  split
  · exact within_writeMap (sub_of hL rfl) (by assumption)
  · exact within_writeRoles (sub_of hL rfl) (by assumption)
  · exact within_writeFreq (sub_of hL rfl) (by assumption)
  · exact within_writeReline (sub_of hL rfl) (by assumption)
  · exact within_storeFields (sub_of hL rfl) (by assumption)

theorem within_writeEffect {a0 a1 a2 a3 a4 a5 a6} (hL : sub 80891712764034170473521000270174 L = true) (q0_2 : sub
      (partW a2) L = true) (h : Within L s0 s) : Within L s0 (writeEffect a0 a1 a2 a3 a4 a5 a6 s) := by
  delta writeEffect
  extract_lets +onlyGivenNames -merge -useContext -underBinder x2_0 x2_1
  clear_value x2_0
  have hx2_1 : ∀ s, Within L s0 s → Within L s0 (x2_1 s) := by
    intro s h
    exact within_storeFields q0_2 (by assumption)
  split
  · refine ite_ind ?_ ?_
    · exact within_writeMode (sub_of hL rfl) (by assumption)
    · refine within_refreshPace (sub_of hL rfl) ?_
      refine hx2_1 _ ?_
      assumption
  · refine ite_ind ?_ ?_
    · exact within_heartbeat (sub_of hL rfl) (by assumption)
    · refine ite_ind ?_ ?_
      · exact within_writeSupCtrl (sub_of hL rfl) (by assumption)
      · refine hx2_1 _ ?_
        assumption
  · refine ite_ind ?_ ?_
    · exact within_writeThm (sub_of hL rfl) (by assumption)
    · assumption
  · refine within_refreshPins (sub_of hL rfl) ?_
    refine hx2_1 _ ?_
    assumption
  · exact within_writeSec (sub_of hL rfl) (by assumption)
  · exact within_writeRing (sub_of hL rfl) (by assumption)
  · split
    · exact within_pushCmd (sub_of hL rfl) (by assumption)
    · exact within_popResult (sub_of hL rfl) (by assumption)
    · exact within_trigFire (sub_of hL rfl) (by assumption)
    · exact within_xferStart (sub_of hL rfl) (by assumption)
    · refine hx2_1 _ ?_
      assumption
  · refine ite_ind ?_ ?_
    · refine ite_ind ?_ ?_
      · exact within_lutLoad (sub_of hL rfl) (by assumption)
      · assumption
    · refine hx2_1 _ ?_
      assumption
  · refine within_refreshZraw (sub_of hL rfl) ?_
    refine hx2_1 _ ?_
    assumption
  · exact within_writeEnc (sub_of hL rfl) (by assumption)
  · exact within_writeDec (sub_of hL rfl) (by assumption)
  · exact within_writePool (sub_of hL rfl) (by assumption)
  · refine ite_ind ?_ ?_
    · exact within_writeAux (sub_of hL rfl) (by assumption)
    · refine hx2_1 _ ?_
      assumption
  · refine ite_ind ?_ ?_
    · exact within_writeChk (sub_of hL rfl) (by assumption)
    · refine hx2_1 _ ?_
      assumption
  · exact within_writePkt (sub_of hL rfl) (by assumption)
  · refine ite_ind ?_ ?_
    · exact within_writeTimeCmd (sub_of hL rfl) (by assumption)
    · refine ite_ind ?_ ?_
      · refine within_pickAll (sub_of hL rfl) ?_
        refine hx2_1 _ ?_
        assumption
      · refine hx2_1 _ ?_
        assumption
  · refine ite_ind ?_ ?_
    · exact within_writeTimelCmd (sub_of hL rfl) (by assumption)
    · refine within_refreshPps (sub_of hL rfl) ?_
      refine hx2_1 _ ?_
      assumption
  · refine ite_ind ?_ ?_
    · exact within_writeAudCtrl (sub_of hL rfl) (by assumption)
    · refine hx2_1 _ ?_
      assumption
  · refine ite_ind ?_ ?_
    · exact within_writeStart (sub_of hL rfl) (by assumption)
    · refine hx2_1 _ ?_
      assumption
  · refine within_showMem (sub_of hL rfl) ?_
    refine hx2_1 _ ?_
    assumption
  · exact within_writeMemx (sub_of hL rfl) (by assumption)
  · split
    · exact within_writeSessCfg (sub_of hL rfl) (by assumption)
    · exact within_writeSess (sub_of hL rfl) (by assumption)
    · exact within_writeSess (sub_of hL rfl) (by assumption)
    · exact within_writeSess (sub_of hL rfl) (by assumption)
    · refine hx2_1 _ ?_
      assumption
  · refine hx2_1 _ ?_
    assumption
  · refine hx2_1 _ ?_
    assumption
  · refine hx2_1 _ ?_
    assumption
  · refine hx2_1 _ ?_
    assumption
  · refine hx2_1 _ ?_
    assumption
  · refine hx2_1 _ ?_
    assumption
  · refine hx2_1 _ ?_
    assumption
  · refine hx2_1 _ ?_
    assumption
  · refine hx2_1 _ ?_
    assumption
  · refine hx2_1 _ ?_
    assumption
  · refine hx2_1 _ ?_
    assumption
  · refine hx2_1 _ ?_
    assumption

theorem within_writeBlock {a0 a1 a2 a3 a4 a5 a6} (hL : sub 80891712764034170473521000270174 L = true) (q1_2 : sub
      (partH a2) L = true) (q0_2 : sub (partW a2) L = true) (h : Within L s0 s) : Within L s0 (writeBlock a0 a1 a2
      a3 a4 a5 a6 s) := by
  delta writeBlock
  extract_lets +onlyGivenNames -merge -useContext -underBinder x2_0 x2_1
  clear_value x2_0 x2_1
  refine ite_ind ?_ ?_
  · exact within_logAccess (sub_of hL rfl) q1_2 (by assumption)
  · refine ite_ind ?_ ?_
    · exact within_logAccess (sub_of hL rfl) q1_2 (by assumption)
    · refine ite_ind ?_ ?_
      · exact within_logAccess (sub_of hL rfl) q1_2 (by assumption)
      · exact within_writeEffect (sub_of hL rfl) q0_2 (by assumption)

end Sys2Proof.Machine
end

