-- ==== Sys2Proof/Laws/WithinBus.lean ====
section
/-! SUPPORT. Which parts of a state each operation of Bus.lean may write. -/

namespace Sys2Proof.Machine

variable {L : Nat} {s0 s : State}

theorem within_busStep {a0 f} (hL : sub 73524316312460056754896333979658 L = true) (hf : ∀ s, Within L s0 s →
      Within L s0 (f s)) (h : Within L s0 s) : Within L s0 (busStep a0 f s) := by
  delta busStep
  refine within_headsFollow (sub_of hL rfl) ?_
  refine within_memFollow (sub_of hL rfl) ?_
  refine hf _ ?_
  exact within_at (sub_of hL rfl) (by assumption)

theorem within_clearError {a0 a1 a2} (q1_0 : sub (partH a0) L = true) (h : Within L s0 s) : Within L s0 (clearError
      a0 a1 a2 s) := by
  delta clearError
  extract_lets +onlyGivenNames -merge -useContext -underBinder x2_0
  refine ite_ind ?_ ?_
  · exact within_setHdr q1_0 (by assumption)
  · assumption

theorem within_clearPending {a0 a1 a2} (hL : sub 2535301205178825285863051624448 L = true) (q1_0 : sub (partH a0) L
      = true) (h : Within L s0 s) : Within L s0 (clearPending a0 a1 a2 s) := by
  delta clearPending
  extract_lets +onlyGivenNames -merge -useContext -underBinder x2_0 x2_1 x2_2
  have hx2_2 : Within L s0 x2_2 := by
    exact within_setHdr q1_0 (by assumption)
  clear_value x2_2
  refine ite_ind ?_ ?_
  · exact within_notify (sub_of hL rfl) (by assumption)
  · assumption

theorem within_enableNow {a0 a1 a2 a3} (hL : sub 23153502652209596873153064208384 L = true) (q1_1 : sub (partH a1)
      L = true) (h : Within L s0 s) : Within L s0 (enableNow a0 a1 a2 a3 s) := by
  delta enableNow
  extract_lets +onlyGivenNames -merge -useContext -underBinder x2_0
  have hx2_0 : ∀ s, Within L s0 s → Within L s0 (x2_0 s) := by
    intro s h
    exact within_setHdr q1_1 (by assumption)
  split
  · refine ite_ind ?_ ?_
    · exact within_ctlEnable (sub_of hL rfl) (by assumption)
    · exact within_ctlDisable (sub_of hL rfl) (by assumption)
  · refine ite_ind ?_ ?_
    · extract_lets +onlyGivenNames -merge -useContext -underBinder x6_0
      clear_value x6_0
      refine ite_ind ?_ ?_
      · exact within_logAccess (sub_of hL rfl) (sub_of hL rfl) (by assumption)
      · refine within_portEnable (sub_of hL rfl) ?_
        refine hx2_0 _ ?_
        assumption
    · refine within_portDisable (sub_of hL rfl) ?_
      refine hx2_0 _ ?_
      assumption
  · refine within_pickAll (sub_of hL rfl) ?_
    refine ite_ind ?_ ?_
    · refine within_netEnable (sub_of hL rfl) ?_
      refine hx2_0 _ ?_
      assumption
    · refine within_netDisable (sub_of hL rfl) ?_
      refine hx2_0 _ ?_
      assumption
  · refine ite_ind ?_ ?_
    · refine within_audEnable (sub_of hL rfl) ?_
      refine hx2_0 _ ?_
      assumption
    · refine within_audDisable (sub_of hL rfl) ?_
      refine hx2_0 _ ?_
      assumption
  · refine within_refreshZraw (sub_of hL rfl) ?_
    refine hx2_0 _ ?_
    assumption
  · refine hx2_0 _ ?_
    assumption

theorem within_freshCommit {a0 a1} (hL : sub 164413911467589567762137088 L = true) (h : Within L s0 s) : Within L
      s0 (freshCommit a0 a1 s) := by
  delta freshCommit
  split
  · refine within_set (sub_of hL rfl) ?_
    refine within_set (sub_of hL rfl) ?_
    exact within_setHead (sub_of hL rfl) (by assumption)
  · exact within_dropCommits (sub_of hL rfl) (by assumption)
  · assumption

theorem within_freshStatus {a0 a1} (hL : sub 40564819207303340847895173677058 L = true) (h : Within L s0 s) :
      Within L s0 (freshStatus a0 a1 s) := by
  delta freshStatus
  split
  · exact within_showTime (sub_of hL rfl) (by assumption)
  · exact within_showAges (sub_of hL rfl) (by assumption)
  · exact within_showAges (sub_of hL rfl) (by assumption)
  · exact within_audShowPos (sub_of hL rfl) (by assumption)
  · assumption

theorem within_partialWrite {a0 a1} (hL : sub 2535301205473973191025224581120 L = true) (h : Within L s0 s) :
      Within L s0 (partialWrite a0 a1 s) := by
  delta partialWrite
  extract_lets +onlyGivenNames -merge -useContext -underBinder x2_0 x2_1
  clear_value x2_0 x2_1
  refine within_forEach (fun _ _ _ => ?_) ?_
  · refine within_logAccess (sub_of hL rfl) (sub_of hL (sub_trans (sub_allH _) rfl)) ?_
    exact within_ownerWrote (sub_of hL rfl) (sub_of hL (sub_trans (sub_allH _) rfl)) (by assumption)
  · assumption

theorem within_refuseAccess {a0 a1 a2 a3 a4} (hL : sub 2535301205178825285863051624448 L = true) (q1_1 : sub (partH
      a1) L = true) (h : Within L s0 s) : Within L s0 (refuseAccess a0 a1 a2 a3 a4 s) := by
  delta refuseAccess
  extract_lets +onlyGivenNames -merge -useContext -underBinder x2_0 x2_1
  have hx2_1 : Within L s0 x2_1 := by
    refine ite_ind ?_ ?_
    · exact within_setHdr q1_1 (by assumption)
    · assumption
  clear_value x2_1
  exact within_logAccess (sub_of hL rfl) q1_1 (by assumption)

theorem within_setFrozen {a0 a1 a2} (q1_0 : sub (partH a0) L = true) (h : Within L s0 s) : Within L s0 (setFrozen
      a0 a1 a2 s) := by
  delta setFrozen
  extract_lets +onlyGivenNames -merge -useContext -underBinder x2_0
  refine ite_ind ?_ ?_
  · assumption
  · exact within_setHdr q1_0 (by assumption)

theorem within_writePageCtrl {a0 a1 a2 a3 a4} (hL : sub 23847052656542870205768019197880 L = true) (q1_1 : sub
      (partH a1) L = true) (h : Within L s0 s) : Within L s0 (writePageCtrl a0 a1 a2 a3 a4 s) := by
  delta writePageCtrl
  extract_lets +onlyGivenNames -merge -useContext -underBinder x2_0 x2_1 x2_2 x2_3
  clear_value x2_0 x2_1 x2_2 x2_3
  refine ite_ind ?_ ?_
  · exact within_logAccess (sub_of hL rfl) q1_1 (by assumption)
  · refine ite_ind ?_ ?_
    · exact within_logAccess (sub_of hL rfl) q1_1 (by assumption)
    · extract_lets +onlyGivenNames -merge -useContext -underBinder x6_0 x6_1
      have hx6_0 : Within L s0 x6_0 := by
        refine ite_ind ?_ ?_
        · exact within_softReset (sub_of hL rfl) q1_1 (by assumption)
        · assumption
      clear_value x6_0 x6_1
      refine ite_ind ?_ ?_
      · exact within_setFrozen q1_1 (by assumption)
      · refine ite_ind ?_ ?_
        · refine within_setFrozen q1_1 ?_
          exact within_setHdr q1_1 (by assumption)
        · extract_lets +onlyGivenNames -merge -useContext -underBinder x10_0
          have hx10_0 : Within L s0 x10_0 := by
            exact within_enableNow (sub_of hL rfl) q1_1 (by assumption)
          clear_value x10_0
          refine ite_ind ?_ ?_
          · exact within_setFrozen q1_1 (by assumption)
          · assumption

theorem within_writeEvEnable {a0 a1 a2} (hL : sub 2535301205178825285863051624448 L = true) (q1_0 : sub (partH a0)
      L = true) (h : Within L s0 s) : Within L s0 (writeEvEnable a0 a1 a2 s) := by
  delta writeEvEnable
  extract_lets +onlyGivenNames -merge -useContext -underBinder x2_0 x2_1 x2_2
  have hx2_2 : Within L s0 x2_2 := by
    exact within_setHdr q1_0 (by assumption)
  clear_value x2_2
  refine ite_ind ?_ ?_
  · exact within_notify (sub_of hL rfl) (by assumption)
  · assumption

theorem within_writeCommit {a0 a1 a2 a3 a4} (hL : sub 2535465619090292875430813761536 L = true) (q1_1 : sub (partH
      a1) L = true) (q0_1 : sub (partW a1) L = true) (q2_1 : sub (partG a1) L = true) (h : Within L s0 s) : Within
      L s0 (writeCommit a0 a1 a2 a3 a4 s) := by
  delta writeCommit
  refine ite_ind ?_ ?_
  · refine ite_ind ?_ ?_
    · refine within_freshCommit (sub_of hL rfl) ?_
      exact within_commitAbort q1_1 q0_1 q2_1 (by assumption)
    · assumption
  · refine ite_ind ?_ ?_
    · assumption
    · refine ite_ind ?_ ?_
      · exact within_logAccess (sub_of hL rfl) q1_1 (by assumption)
      · refine within_freshCommit (sub_of hL rfl) ?_
        exact within_commitRequest q1_1 (by assumption)

theorem within_writeLease {a0 a1 a2 a3 a4} (hL : sub 2535301205178933372254108516352 L = true) (q1_1 : sub (partH
      a1) L = true) (h : Within L s0 s) : Within L s0 (writeLease a0 a1 a2 a3 a4 s) := by
  delta writeLease
  extract_lets +onlyGivenNames -merge -useContext -underBinder w hold x
  have hq : ∀ y ∈ leasePages s a1 a2 a0.code, sub (partH y.1) L = true := by
    intro y hy
    unfold leasePages at hy
    split at hy
    · rcases List.mem_cons.1 hy with e | e
      · rw [e]; exact q1_1
      · obtain ⟨i, -, rfl⟩ := List.mem_map.1 e
        exact sub_of (a := partH .layer) hL rfl
    · rw [List.mem_singleton.1 hy]; exact q1_1
  have hk : ∀ c, Within L s0 (logAccess a1 a2 c a0.code a3 0 s) := fun _ => within_logAccess (sub_of hL rfl) q1_1 h
  refine ite_ind (hk _) (ite_ind (ite_ind (within_setHdr q1_1 h) ?_) (ite_ind (hk _) (ite_ind ?_ (ite_ind h (hk _)))))
  · refine forEach_mem (P := Within L s0) (fun y hy s h => ?_) (within_setHdr q1_1 h)
    exact within_setHdr (sub_owner hy q1_1 (sub_of hL rfl) (sub_of hL rfl)) h
  · exact forEach_mem (P := Within L s0) (fun y hy s h => within_setHdr (hq y hy) h) h

theorem within_writeRights {a0 a1 a2 a3 a4} (hL : sub 2535301205178825285863051624448 L = true) (q1_1 : sub (partH
      a1) L = true) (h : Within L s0 s) : Within L s0 (writeRights a0 a1 a2 a3 a4 s) := by
  delta writeRights
  refine ite_ind ?_ ?_
  · assumption
  · refine ite_ind ?_ ?_
    · exact within_logAccess (sub_of hL rfl) q1_1 (by assumption)
    · exact within_setHdr q1_1 (by assumption)

theorem within_writeHeader {a0 a1 a2 a3 a4} (hL : sub 23847052656542870205768019197880 L = true) (q1_1 : sub (partH
      a1) L = true) (q0_1 : sub (partW a1) L = true) (q2_1 : sub (partG a1) L = true) (h : Within L s0 s) : Within
      L s0 (writeHeader a0 a1 a2 a3 a4 s) := by
  delta writeHeader
  split
  · exact within_writePageCtrl (sub_of hL rfl) q1_1 (by assumption)
  · exact within_writeEvEnable (sub_of hL rfl) q1_1 (by assumption)
  · exact within_clearPending (sub_of hL rfl) q1_1 (by assumption)
  · exact within_setHdr q1_1 (by assumption)
  · exact within_writeCommit (sub_of hL rfl) q1_1 q0_1 q2_1 (by assumption)
  · exact within_writeLease (sub_of hL rfl) q1_1 (by assumption)
  · exact within_clearError q1_1 (by assumption)
  · exact within_writeRights (sub_of hL rfl) q1_1 (by assumption)
  · assumption

theorem within_writeAt {a0 a1 a2 a3 a4 a5} (hL : sub 80891948636832836246072119525374 L = true) (q1_2 : sub (partH
      a2) L = true) (q0_2 : sub (partW a2) L = true) (q2_2 : sub (partG a2) L = true) (h : Within L s0 s) : Within
      L s0 (writeAt a0 a1 a2 a3 a4 a5 s) := by
  delta writeAt
  refine ite_ind ?_ ?_
  · assumption
  · extract_lets +onlyGivenNames -merge -useContext -underBinder x4_0 x4_1
    have hx4_0 : Within L s0 x4_0 := by
      exact within_ownerWrote (sub_of hL rfl) q1_2 (by assumption)
    clear_value x4_0 x4_1
    refine ite_ind ?_ ?_
    · exact within_refuseAccess (sub_of hL rfl) q1_2 (by assumption)
    · refine ite_ind ?_ ?_
      · exact within_writeHeader (sub_of hL rfl) q1_2 q0_2 q2_2 (by assumption)
      · split
        · exact within_writeBlock (sub_of hL rfl) q1_2 q0_2 (by assumption)
        · assumption

theorem within_writeReg {a0 a1 a2 a3} (hL : sub 80891948636832836248288322650111 L = true) (h : Within L s0 s) :
      Within L s0 (writeReg a0 a1 a2 a3 s) := by
  delta writeReg
  split
  · exact within_writeAt (sub_of hL rfl) (sub_of hL (sub_trans (sub_allH _) rfl)) (sub_of hL (sub_trans (sub_allW _) rfl)) (sub_of hL (sub_trans (sub_allG _) rfl)) (by assumption)
  · assumption

theorem within_writeAccess {a0 a1 a2 a3 a4} (hL : sub 80891948636832836248288322650111 L = true) (h : Within L s0
      s) : Within L s0 (writeAccess a0 a1 a2 a3 a4 s) := by
  delta writeAccess
  extract_lets +onlyGivenNames -merge -useContext -underBinder x2_0 x2_1
  clear_value x2_0 x2_1
  refine ite_ind ?_ ?_
  · refine within_forEach (fun _ _ _ => ?_) ?_
    · exact within_writeReg (sub_of hL rfl) (by assumption)
    · assumption
  · exact within_partialWrite (sub_of hL rfl) (by assumption)

end Sys2Proof.Machine
end

