-- ==== Sys2Proof/Laws/WithinCommands.lean ====
section
/-! SUPPORT. Which parts of a state each operation of Commands.lean may write. -/

namespace Sys2Proof.Machine

variable {L : Nat} {s0 s : State}

theorem within_wrote {a0 a1 a2 a3} (hL : sub 80891948638013427869005733953535 L = true) (h : Within L s0 s) :
      WithinN L s0 (wrote a0 a1 a2 a3 s) := by
  delta wrote
  refine withinN_next ?_
  refine within_busStep (sub_of hL rfl) (fun _ _ => ?_) ?_
  · exact within_writeReg (sub_of hL rfl) (by assumption)
  · assumption

theorem within_execAbort {a0 a1 a2} (hL : sub 80891948638013427869005733953535 L = true) (h : Within L s0 s) :
      WithinN L s0 (execAbort a0 a1 a2 s) := by
  delta execAbort
  exact within_wrote (sub_of hL rfl) (by assumption)

theorem within_execAudArm {a0 a1 a2} (hL : sub 80891948638013427869005733953535 L = true) (h : Within L s0 s) :
      WithinN L s0 (execAudArm a0 a1 a2 s) := by
  delta execAudArm
  exact within_wrote (sub_of hL rfl) (by assumption)

theorem within_execAudDisable {a0 a1 a2} (hL : sub 80891948638013427869005733953535 L = true) (h : Within L s0 s) :
      WithinN L s0 (execAudDisable a0 a1 a2 s) := by
  delta execAudDisable
  exact within_wrote (sub_of hL rfl) (by assumption)

theorem within_execAudEnable {a0 a1 a2} (hL : sub 80891948638013427869005733953535 L = true) (h : Within L s0 s) :
      WithinN L s0 (execAudEnable a0 a1 a2 s) := by
  delta execAudEnable
  exact within_wrote (sub_of hL rfl) (by assumption)

theorem within_execAudStop {a0 a1 a2} (hL : sub 80891948638013427869005733953535 L = true) (h : Within L s0 s) :
      WithinN L s0 (execAudStop a0 a1 a2 s) := by
  delta execAudStop
  exact within_wrote (sub_of hL rfl) (by assumption)

theorem within_execAuxStart {a0 a1 a2 a3 a4 a5} (hL : sub 80891948638013427869005733953535 L = true) (h : Within L
      s0 s) : WithinN L s0 (execAuxStart a0 a1 a2 a3 a4 a5 s) := by
  delta execAuxStart
  exact within_wrote (sub_of hL rfl) (by assumption)

theorem within_execBpoolAlloc {a0 a1 a2} (hL : sub 80891948638013427869005733953535 L = true) (h : Within L s0 s) :
      WithinN L s0 (execBpoolAlloc a0 a1 a2 s) := by
  delta execBpoolAlloc
  exact within_wrote (sub_of hL rfl) (by assumption)

theorem within_execBpoolComplete {a0 a1 a2} (hL : sub 80891948638013427869005733953535 L = true) (h : Within L s0
      s) : WithinN L s0 (execBpoolComplete a0 a1 a2 s) := by
  delta execBpoolComplete
  exact within_wrote (sub_of hL rfl) (by assumption)

theorem within_execBpoolRead {a0 a1 a2} (hL : sub 80891948638013427869005733953535 L = true) (h : Within L s0 s) :
      WithinN L s0 (execBpoolRead a0 a1 a2 s) := by
  delta execBpoolRead
  exact within_wrote (sub_of hL rfl) (by assumption)

theorem within_execBpoolRelease {a0 a1 a2} (hL : sub 80891948638013427869005733953535 L = true) (h : Within L s0 s)
      : WithinN L s0 (execBpoolRelease a0 a1 a2 s) := by
  delta execBpoolRelease
  exact within_wrote (sub_of hL rfl) (by assumption)

theorem within_execBpoolWrite {a0 a1 a2} (hL : sub 80891948638013427869005733953535 L = true) (h : Within L s0 s) :
      WithinN L s0 (execBpoolWrite a0 a1 a2 s) := by
  delta execBpoolWrite
  exact within_wrote (sub_of hL rfl) (by assumption)

theorem within_execCctlDisable {a0 a1 a2} (hL : sub 80891948638013427869005733953535 L = true) (h : Within L s0 s)
      : WithinN L s0 (execCctlDisable a0 a1 a2 s) := by
  delta execCctlDisable
  exact within_wrote (sub_of hL rfl) (by assumption)

theorem within_execCctlEnable {a0 a1 a2} (hL : sub 80891948638013427869005733953535 L = true) (h : Within L s0 s) :
      WithinN L s0 (execCctlEnable a0 a1 a2 s) := by
  delta execCctlEnable
  exact within_wrote (sub_of hL rfl) (by assumption)

theorem within_execChkCfgWrite {a0 a1 a2 a3} (hL : sub 80891948638013427869005733953535 L = true) (h : Within L s0
      s) : WithinN L s0 (execChkCfgWrite a0 a1 a2 a3 s) := by
  delta execChkCfgWrite
  exact within_wrote (sub_of hL rfl) (by assumption)

theorem within_execCmdPush {a0 a1 a2 a3 a4} (hL : sub 80891948638013427869005733953535 L = true) (h : Within L s0
      s) : WithinN L s0 (execCmdPush a0 a1 a2 a3 a4 s) := by
  delta execCmdPush
  exact within_wrote (sub_of hL rfl) (by assumption)

theorem within_execCommit {a0 a1 a2} (hL : sub 80891948638013427869005733953535 L = true) (h : Within L s0 s) :
      WithinN L s0 (execCommit a0 a1 a2 s) := by
  delta execCommit
  exact within_wrote (sub_of hL rfl) (by assumption)

theorem within_execDecCtxDisable {a0 a1 a2} (hL : sub 80891948638013427869005733953535 L = true) (h : Within L s0
      s) : WithinN L s0 (execDecCtxDisable a0 a1 a2 s) := by
  delta execDecCtxDisable
  exact within_wrote (sub_of hL rfl) (by assumption)

theorem within_execDecCtxEnable {a0 a1 a2} (hL : sub 80891948638013427869005733953535 L = true) (h : Within L s0 s)
      : WithinN L s0 (execDecCtxEnable a0 a1 a2 s) := by
  delta execDecCtxEnable
  exact within_wrote (sub_of hL rfl) (by assumption)

theorem within_execDecInWrWrite {a0 a1 a2 a3} (hL : sub 80891948638013427869005733953535 L = true) (h : Within L s0
      s) : WithinN L s0 (execDecInWrWrite a0 a1 a2 a3 s) := by
  delta execDecInWrWrite
  exact within_wrote (sub_of hL rfl) (by assumption)

theorem within_execDmaResume {a0 a1 a2 a3} (hL : sub 80891948638013427869005733953535 L = true) (h : Within L s0 s)
      : WithinN L s0 (execDmaResume a0 a1 a2 a3 s) := by
  delta execDmaResume
  exact within_wrote (sub_of hL rfl) (by assumption)

theorem within_execDmaRingDisable {a0 a1 a2 a3} (hL : sub 80891948638013427869005733953535 L = true) (h : Within L
      s0 s) : WithinN L s0 (execDmaRingDisable a0 a1 a2 a3 s) := by
  delta execDmaRingDisable
  exact within_wrote (sub_of hL rfl) (by assumption)

theorem within_execDmaRingEnable {a0 a1 a2 a3} (hL : sub 80891948638013427869005733953535 L = true) (h : Within L
      s0 s) : WithinN L s0 (execDmaRingEnable a0 a1 a2 a3 s) := by
  delta execDmaRingEnable
  exact within_wrote (sub_of hL rfl) (by assumption)

theorem within_execDmaSkip {a0 a1 a2 a3} (hL : sub 80891948638013427869005733953535 L = true) (h : Within L s0 s) :
      WithinN L s0 (execDmaSkip a0 a1 a2 a3 s) := by
  delta execDmaSkip
  exact within_wrote (sub_of hL rfl) (by assumption)

theorem within_execDmaSubmit {a0 a1 a2 a3 a4} (hL : sub 80891948638013427869005733953535 L = true) (h : Within L s0
      s) : WithinN L s0 (execDmaSubmit a0 a1 a2 a3 a4 s) := by
  delta execDmaSubmit
  exact within_wrote (sub_of hL rfl) (by assumption)

theorem within_execDpoDisable {a0 a1 a2} (hL : sub 80891948638013427869005733953535 L = true) (h : Within L s0 s) :
      WithinN L s0 (execDpoDisable a0 a1 a2 s) := by
  delta execDpoDisable
  exact within_wrote (sub_of hL rfl) (by assumption)

theorem within_execDpoEnable {a0 a1 a2} (hL : sub 80891948638013427869005733953535 L = true) (h : Within L s0 s) :
      WithinN L s0 (execDpoEnable a0 a1 a2 s) := by
  delta execDpoEnable
  exact within_wrote (sub_of hL rfl) (by assumption)

theorem within_execEncOutRdWrite {a0 a1 a2 a3} (hL : sub 80891948638013427869005733953535 L = true) (h : Within L
      s0 s) : WithinN L s0 (execEncOutRdWrite a0 a1 a2 a3 s) := by
  delta execEncOutRdWrite
  exact within_wrote (sub_of hL rfl) (by assumption)

theorem within_execErrorCodeClear {a0 a1 a2 a3} (hL : sub 80891948638013427869005733953535 L = true) (h : Within L
      s0 s) : WithinN L s0 (execErrorCodeClear a0 a1 a2 a3 s) := by
  delta execErrorCodeClear
  exact within_wrote (sub_of hL rfl) (by assumption)

theorem within_execEventEnableWrite {a0 a1 a2 a3} (hL : sub 80891948638013427869005733953535 L = true) (h : Within
      L s0 s) : WithinN L s0 (execEventEnableWrite a0 a1 a2 a3 s) := by
  delta execEventEnableWrite
  exact within_wrote (sub_of hL rfl) (by assumption)

theorem within_execEventPendingClear {a0 a1 a2 a3} (hL : sub 80891948638013427869005733953535 L = true) (h : Within
      L s0 s) : WithinN L s0 (execEventPendingClear a0 a1 a2 a3 s) := by
  delta execEventPendingClear
  exact within_wrote (sub_of hL rfl) (by assumption)

theorem within_execExcTxSubmit {a0 a1 a2} (hL : sub 80891948638013427869005733953535 L = true) (h : Within L s0 s)
      : WithinN L s0 (execExcTxSubmit a0 a1 a2 s) := by
  delta execExcTxSubmit
  exact within_wrote (sub_of hL rfl) (by assumption)

theorem within_execFreqGo {a0 a1 a2 a3} (hL : sub 80891948638013427869005733953535 L = true) (h : Within L s0 s) :
      WithinN L s0 (execFreqGo a0 a1 a2 a3 s) := by
  delta execFreqGo
  refine withinN_next ?_
  refine within_busStep (sub_of hL rfl) (fun _ _ => ?_) ?_
  · exact within_writeReg (sub_of hL rfl) (by assumption)
  · assumption

theorem within_execGangWrite {a0 a1 a2 a3} (hL : sub 80891948638013427869005733953535 L = true) (h : Within L s0 s)
      : WithinN L s0 (execGangWrite a0 a1 a2 a3 s) := by
  delta execGangWrite
  exact within_wrote (sub_of hL rfl) (by assumption)

theorem within_execHandoverDone {a0 a1} (hL : sub 80891948638013427869005733953535 L = true) (h : Within L s0 s) :
      WithinN L s0 (execHandoverDone a0 a1 s) := by
  delta execHandoverDone
  exact within_wrote (sub_of hL rfl) (by assumption)

theorem within_execHandoverQuiesced {a0 a1} (hL : sub 80891948638013427869005733953535 L = true) (h : Within L s0
      s) : WithinN L s0 (execHandoverQuiesced a0 a1 s) := by
  delta execHandoverQuiesced
  exact within_wrote (sub_of hL rfl) (by assumption)

theorem within_execHeartbeat {a0 a1 a2} (hL : sub 80891948638013427869005733953535 L = true) (h : Within L s0 s) :
      WithinN L s0 (execHeartbeat a0 a1 a2 s) := by
  delta execHeartbeat
  exact within_wrote (sub_of hL rfl) (by assumption)

theorem within_execJobSubmit {a0 a1 a2 a3} (hL : sub 80891948638013427869005733953535 L = true) (h : Within L s0 s)
      : WithinN L s0 (execJobSubmit a0 a1 a2 a3 s) := by
  delta execJobSubmit
  exact within_wrote (sub_of hL rfl) (by assumption)

theorem within_execLeaseWrite {a0 a1 a2 a3 a4} (hL : sub 80891948638013427869005733953535 L = true) (h : Within L
      s0 s) : WithinN L s0 (execLeaseWrite a0 a1 a2 a3 a4 s) := by
  delta execLeaseWrite
  exact within_wrote (sub_of hL rfl) (by assumption)

theorem within_execLutLoad {a0 a1 a2} (hL : sub 80891948638013427869005733953535 L = true) (h : Within L s0 s) :
      WithinN L s0 (execLutLoad a0 a1 a2 s) := by
  delta execLutLoad
  exact within_wrote (sub_of hL rfl) (by assumption)

theorem within_execModeRequest {a0 a1 a2} (hL : sub 80891948638013427869005733953535 L = true) (h : Within L s0 s)
      : WithinN L s0 (execModeRequest a0 a1 a2 s) := by
  delta execModeRequest
  exact within_wrote (sub_of hL rfl) (by assumption)

theorem within_execPageEnableWrite {a0 a1 a2 a3 a4} (hL : sub 80891948638013427869005733953535 L = true) (h :
      Within L s0 s) : WithinN L s0 (execPageEnableWrite a0 a1 a2 a3 a4 s) := by
  delta execPageEnableWrite
  exact within_wrote (sub_of hL rfl) (by assumption)

theorem within_execPageFreeze {a0 a1 a2 a3 a4} (hL : sub 80891948638013427869005733953535 L = true) (h : Within L
      s0 s) : WithinN L s0 (execPageFreeze a0 a1 a2 a3 a4 s) := by
  delta execPageFreeze
  exact within_wrote (sub_of hL rfl) (by assumption)

theorem within_execPartitionWrite {a0 a1 a2} (hL : sub 80891948638013427869005733953535 L = true) (h : Within L s0
      s) : WithinN L s0 (execPartitionWrite a0 a1 a2 s) := by
  delta execPartitionWrite
  exact within_wrote (sub_of hL rfl) (by assumption)

theorem within_execPtpTxSubmit {a0 a1 a2 a3} (hL : sub 80891948638013427869005733953535 L = true) (h : Within L s0
      s) : WithinN L s0 (execPtpTxSubmit a0 a1 a2 a3 s) := by
  delta execPtpTxSubmit
  exact within_wrote (sub_of hL rfl) (by assumption)

theorem within_execRegisterWrite {a0 a1 a2 a3 a4 a5} (hL : sub 80891948638013427869005733953535 L = true) (h :
      Within L s0 s) : WithinN L s0 (execRegisterWrite a0 a1 a2 a3 a4 a5 s) := by
  delta execRegisterWrite
  refine withinN_next ?_
  refine within_busStep (sub_of hL rfl) (fun _ _ => ?_) ?_
  · exact within_writeAccess (sub_of hL rfl) (by assumption)
  · assumption

theorem within_execRelease {a0 a1} (hL : sub 80891948638013427869005733953535 L = true) (h : Within L s0 s) :
      WithinN L s0 (execRelease a0 a1 s) := by
  delta execRelease
  exact within_wrote (sub_of hL rfl) (by assumption)

theorem within_execRelineGo {a0 a1 a2} (hL : sub 80891948638013427869005733953535 L = true) (h : Within L s0 s) :
      WithinN L s0 (execRelineGo a0 a1 a2 s) := by
  delta execRelineGo
  exact within_wrote (sub_of hL rfl) (by assumption)

theorem within_execResultPop {a0 a1 a2} (hL : sub 80891948638013427869005733953535 L = true) (h : Within L s0 s) :
      WithinN L s0 (execResultPop a0 a1 a2 s) := by
  delta execResultPop
  exact within_wrote (sub_of hL rfl) (by assumption)

theorem within_execRightsWrite {a0 a1 a2 a3} (hL : sub 80891948638013427869005733953535 L = true) (h : Within L s0
      s) : WithinN L s0 (execRightsWrite a0 a1 a2 a3 s) := by
  delta execRightsWrite
  exact within_wrote (sub_of hL rfl) (by assumption)

theorem within_execSessionEnable {a0 a1 a2 a3} (hL : sub 80891948638013427869005733953535 L = true) (h : Within L
      s0 s) : WithinN L s0 (execSessionEnable a0 a1 a2 a3 s) := by
  delta execSessionEnable
  exact within_wrote (sub_of hL rfl) (by assumption)

theorem within_execSoftReset {a0 a1 a2 a3 a4} (hL : sub 80891948638013427869005733953535 L = true) (h : Within L s0
      s) : WithinN L s0 (execSoftReset a0 a1 a2 a3 a4 s) := by
  delta execSoftReset
  exact within_wrote (sub_of hL rfl) (by assumption)

theorem within_execStartGo {a0 a1 a2 a3} (hL : sub 80891948638013427869005733953535 L = true) (h : Within L s0 s) :
      WithinN L s0 (execStartGo a0 a1 a2 a3 s) := by
  delta execStartGo
  exact within_wrote (sub_of hL rfl) (by assumption)

theorem within_execThimbleAcquire {a0 a1 a2 a3} (hL : sub 80891948638013427869005733953535 L = true) (h : Within L
      s0 s) : WithinN L s0 (execThimbleAcquire a0 a1 a2 a3 s) := by
  delta execThimbleAcquire
  exact within_wrote (sub_of hL rfl) (by assumption)

theorem within_execThimbleRelease {a0 a1 a2} (hL : sub 80891948638013427869005733953535 L = true) (h : Within L s0
      s) : WithinN L s0 (execThimbleRelease a0 a1 a2 s) := by
  delta execThimbleRelease
  exact within_wrote (sub_of hL rfl) (by assumption)

theorem within_execTimeAccept {a0 a1 a2} (hL : sub 80891948638013427869005733953535 L = true) (h : Within L s0 s) :
      WithinN L s0 (execTimeAccept a0 a1 a2 s) := by
  delta execTimeAccept
  exact within_wrote (sub_of hL rfl) (by assumption)

theorem within_execTimeSnap {a0 a1 a2} (hL : sub 80891948638013427869005733953535 L = true) (h : Within L s0 s) :
      WithinN L s0 (execTimeSnap a0 a1 a2 s) := by
  delta execTimeSnap
  exact within_wrote (sub_of hL rfl) (by assumption)

theorem within_execTimeStep {a0 a1 a2} (hL : sub 80891948638013427869005733953535 L = true) (h : Within L s0 s) :
      WithinN L s0 (execTimeStep a0 a1 a2 s) := by
  delta execTimeStep
  exact within_wrote (sub_of hL rfl) (by assumption)

theorem within_execTrigFire {a0 a1 a2} (hL : sub 80891948638013427869005733953535 L = true) (h : Within L s0 s) :
      WithinN L s0 (execTrigFire a0 a1 a2 s) := by
  delta execTrigFire
  exact within_wrote (sub_of hL rfl) (by assumption)

theorem within_execWarm {a0 a1} (hL : sub 80891948638013427869005733953535 L = true) (h : Within L s0 s) : WithinN
      L s0 (execWarm a0 a1 s) := by
  delta execWarm
  exact within_wrote (sub_of hL rfl) (by assumption)

theorem within_execXferStart {a0 a1 a2 a3 a4 a5} (hL : sub 80891948638013427869005733953535 L = true) (h : Within L
      s0 s) : WithinN L s0 (execXferStart a0 a1 a2 a3 a4 a5 s) := by
  delta execXferStart
  exact within_wrote (sub_of hL rfl) (by assumption)

end Sys2Proof.Machine
end

