-- ==== Sys2Proof/Laws/WithinDma.lean ====
section
/-! SUPPORT. Which parts of a state each operation of Dma.lean may write. -/

namespace Sys2Proof.Machine

variable {L : Nat} {s0 s : State}

theorem within_copyIn {who d lost k left l} (hL : sub 885443715542353444864 L = true) (h : Within L s0 s) : Within
      L s0 (copyIn who d lost left k l s) := by
  induction left generalizing s k l with
  | zero => exact h
  | succ left ih =>
    unfold copyIn
    extract_lets +onlyGivenNames -merge -useContext -underBinder a
    exact ite_ind (ih (within_dramWrite (sub_of hL (by rfl)) h)) (within_dramPoison (sub_of hL (by rfl))
      (within_dramWrite (sub_of hL (by rfl)) h))

theorem within_copyRows {a0 f} (hf : ∀ y0 y1 s, Within L s0 s → Within L s0 (f y0 y1 s)) (h : Within L s0 s) :
      Within2 L s0 (copyRows a0 f s) := by
  delta copyRows
  refine foldl_ind (fun _ _ _ => ?_) ?_
  · extract_lets +onlyGivenNames -merge -useContext -underBinder x4_0
    clear_value x4_0
    refine within2_mk ?_
    refine hf _ _ _ ?_
    show Within2 L s0 _
    assumption
  · refine within2_mk ?_
    assumption

theorem within_endDescriptor {a0 a1 a2 a3 a4 a5} (hL : sub 2535301206064269005803451580672 L = true) (h : Within L
      s0 s) : Within L s0 (endDescriptor a0 a1 a2 a3 a4 a5 s) := by
  delta endDescriptor
  extract_lets +onlyGivenNames -merge -useContext -underBinder x2_0 x2_1 x2_2
  have hx2_0 : Within L s0 x2_0 := by
    refine within_descCount (sub_of hL rfl) ?_
    exact within_descStatus (sub_of hL rfl) (by assumption)
  clear_value x2_0
  have hx2_1 : Within L s0 x2_1 := by
    refine ite_ind ?_ ?_
    · refine within_ringEvent (sub_of hL rfl) ?_
      refine within_logError (sub_of hL rfl) (sub_of hL rfl) ?_
      exact within_rset (sub_of hL rfl) (by assumption)
    · exact within_headNext (sub_of hL rfl) (by assumption)
  clear_value x2_1
  have hx2_2 : Within L s0 x2_2 := by
    refine ite_ind ?_ ?_
    · exact within_ringEvent (sub_of hL rfl) (by assumption)
    · assumption
  clear_value x2_2
  refine ite_ind ?_ ?_
  · exact within_rset (sub_of hL rfl) (by assumption)
  · assumption

theorem within_fetchDescriptor {a0 a1 a2} (hL : sub 4294967296 L = true) (h : Within L s0 s) : Within3 L s0
      (fetchDescriptor a0 a1 a2 s) := by
  delta fetchDescriptor
  refine ite_ind ?_ ?_
  · exact within_dramRead (sub_of hL rfl) (by assumption)
  · refine within3_mk ?_
    assumption

theorem within_rowToHost {a0 a1 a2 a3} (hL : sub 4722366482873940180992 L = true) (h : Within L s0 s) : Within L s0
      (rowToHost a0 a1 a2 a3 s) := by
  delta rowToHost
  extract_lets +onlyGivenNames -merge -useContext -underBinder x2_0
  clear_value x2_0
  split
  · rename_i v2_0 v2_1 v2_2 q2_0
    have hv2_2 : Within L s0 v2_2 := within3_eq q2_0 (by
      exact within_dramRead (sub_of hL rfl) (by assumption))
    refine within_forEach (fun _ _ _ => ?_) ?_
    · exact within_emit (sub_of hL rfl) (by assumption)
    · assumption

theorem within_rowToDram {a0 a1 a2 a3} (hL : sub 885443715542353444864 L = true) (h : Within L s0 s) : Within L s0
      (rowToDram a0 a1 a2 a3 s) := by
  delta rowToDram
  extract_lets +onlyGivenNames -merge -useContext -underBinder x2_0
  clear_value x2_0
  split
  · rename_i v2_0 v2_1 v2_2 q2_0
    have hv2_2 : Within L s0 v2_2 := within3_eq q2_0 (by
      exact within_dramRead (sub_of hL rfl) (by assumption))
    refine within_forEach (fun _ _ _ => ?_) ?_
    · exact within_dramPoison (sub_of hL rfl) (by assumption)
    · exact within_dramWrite (sub_of hL rfl) (by assumption)

theorem within_runDescriptor {a0 a1 a2 a3 a4 a5} (hL : sub 80891948638013427869005733953535 L = true) (h : Within L
      s0 s) : Within4 L s0 (runDescriptor a0 a1 a2 a3 a4 a5 s) := by
  delta runDescriptor
  extract_lets +onlyGivenNames -merge -useContext -underBinder x2_0 x2_1
  clear_value x2_0 x2_1
  refine ite_ind ?_ ?_
  · refine within4_mk ?_
    assumption
  · refine ite_ind ?_ ?_
    · refine within4_mk ?_
      assumption
    · refine ite_ind ?_ ?_
      · extract_lets +onlyGivenNames -merge -useContext -underBinder x8_0
        have hx8_0 : Within L s0 x8_0 := by
          exact within_copyIn (sub_of hL rfl) (by assumption)
        clear_value x8_0
        refine ite_ind ?_ ?_
        · refine within4_mk ?_
          assumption
        · refine within4_mk ?_
          assumption
      · refine ite_ind ?_ ?_
        · split
          · rename_i v10_0 v10_1 q10_0
            have hv10_1 : Within L s0 v10_1 := within2_eq q10_0 (by
              refine within_copyRows (fun _ _ _ _ => ?_) ?_
              · exact within_rowToHost (sub_of hL rfl) (by assumption)
              · assumption)
            refine within4_mk ?_
            assumption
        · refine ite_ind ?_ ?_
          · split
            · rename_i v12_0 v12_1 q12_0
              have hv12_1 : Within L s0 v12_1 := within2_eq q12_0 (by
                refine within_copyRows (fun _ _ _ _ => ?_) ?_
                · exact within_rowToDram (sub_of hL rfl) (by assumption)
                · assumption)
              refine within4_mk ?_
              assumption
          · extract_lets +onlyGivenNames -merge -useContext -underBinder x12_0 x12_1 x12_2 x12_3
            clear_value x12_0 x12_1 x12_2
            have hx12_3 : Within L s0 x12_3 := by
              refine within_busStep (sub_of hL rfl) (fun _ _ => ?_) ?_
              · exact within_writeReg (sub_of hL rfl) (by assumption)
              · assumption
            clear_value x12_3
            refine within4_mk ?_
            assumption

theorem within_ringStep {a0 a1 a2 a3 a4 a5 a6 a7} (hL : sub 80891948638013427869005733953535 L = true) (h : Within
      L s0 s) : Within L s0 (ringStep a0 a1 a2 a3 a4 a5 a6 a7 s) := by
  delta ringStep
  refine ite_ind ?_ ?_
  · assumption
  · split
    · rename_i v4_0 v4_1 v4_2 q4_0
      have hv4_2 : Within L s0 v4_2 := within3_eq q4_0 (by
        exact within_fetchDescriptor (sub_of hL rfl) (by assumption))
      refine ite_ind ?_ ?_
      · refine ite_ind ?_ ?_
        · exact within_endDescriptor (sub_of hL rfl) (by assumption)
        · assumption
      · extract_lets +onlyGivenNames -merge -useContext -underBinder x8_0
        clear_value x8_0
        refine ite_ind ?_ ?_
        · assumption
        · split
          · rename_i v10_0 v10_1 v10_2 v10_3 q10_0
            have hv10_3 : Within L s0 v10_3 := within4_eq q10_0 (by
              exact within_runDescriptor (sub_of hL rfl) (by assumption))
            refine ite_ind ?_ ?_
            · assumption
            · exact within_endDescriptor (sub_of hL rfl) (by assumption)

theorem within_execDmaDramToDram {a0 a1 a2 a3} (hL : sub 80891948638013427869005733953535 L = true) (h : Within L
      s0 s) : WithinN L s0 (execDmaDramToDram a0 a1 a2 a3 s) := by
  delta execDmaDramToDram
  refine withinN_next ?_
  refine within_ringStep (sub_of hL rfl) ?_
  exact within_at (sub_of hL rfl) (by assumption)

theorem within_execDmaDramToHost {a0 a1 a2 a3} (hL : sub 80891948638013427869005733953535 L = true) (h : Within L
      s0 s) : WithinN L s0 (execDmaDramToHost a0 a1 a2 a3 s) := by
  delta execDmaDramToHost
  refine withinN_next ?_
  refine within_ringStep (sub_of hL rfl) ?_
  exact within_at (sub_of hL rfl) (by assumption)

theorem within_execDmaHostToDram {a0 a1 a2 a3 a4 a5} (hL : sub 80891948638013427869005733953535 L = true) (h :
      Within L s0 s) : WithinN L s0 (execDmaHostToDram a0 a1 a2 a3 a4 a5 s) := by
  delta execDmaHostToDram
  refine withinN_next ?_
  refine within_ringStep (sub_of hL rfl) ?_
  exact within_at (sub_of hL rfl) (by assumption)

theorem within_execDmaRegisterWrite {a0 a1 a2 a3 a4} (hL : sub 80891948638013427869005733953535 L = true) (h :
      Within L s0 s) : WithinN L s0 (execDmaRegisterWrite a0 a1 a2 a3 a4 s) := by
  delta execDmaRegisterWrite
  refine withinN_next ?_
  refine within_ringStep (sub_of hL rfl) ?_
  exact within_at (sub_of hL rfl) (by assumption)

end Sys2Proof.Machine
end

