-- ==== Sys2Proof/Laws/WithinPanel.lean ====
section
/-! SUPPORT. Which parts of a state each operation of Panel.lean may write. -/

namespace Sys2Proof.Machine

variable {L : Nat} {s0 s : State}

theorem within_sendReply {a0 a1 a2} (hL : sub 2548918548859897268873566617600 L = true) (h : Within L s0 s) :
      Within L s0 (sendReply a0 a1 a2 s) := by
  delta sendReply
  extract_lets +onlyGivenNames -merge -useContext -underBinder x2_0 x2_1
  clear_value x2_0 x2_1
  refine within_pickAll (sub_of hL rfl) ?_
  refine within_setNet (sub_of hL rfl) ?_
  exact within_fresh (sub_of hL rfl) (by assumption)

theorem within_panelWrites {demand a l k} (hL : sub 80891948636832836248288322650111 L = true) (h : Within L s0 s)
      : Within3 L s0 (panelWrites demand a l k s) := by
  induction l generalizing s a k with
  | nil => exact h
  | cons v t ih =>
    unfold panelWrites
    extract_lets +onlyGivenNames -merge -useContext -underBinder code s'
    have hs : Within L s0 s' := within_writeReg (sub_of hL (by rfl)) h
    exact ite_ind (ih hs) hs

theorem within_panelRun {a0 a1} (hL : sub 80891948636832836248288322650111 L = true) (h : Within L s0 s) : Within4
      L s0 (panelRun a0 a1 s) := by
  delta panelRun
  refine ite_ind ?_ ?_
  · refine within4_mk ?_
    assumption
  · refine ite_ind ?_ ?_
    · refine within4_mk ?_
      assumption
    · refine ite_ind ?_ ?_
      · refine within4_mk ?_
        assumption
      · split
        · rename_i v8_0 v8_1 v8_2 q8_0
          have hv8_2 : Within L s0 v8_2 := within3_eq q8_0 (by
            exact within_panelWrites (sub_of hL rfl) (by assumption))
          refine within4_mk ?_
          assumption

theorem within_panelTake {a0 a1 a2 a3} (hL : sub 80891948636832836248288322650111 L = true) (h : Within L s0 s) :
      Within L s0 (panelTake a0 a1 a2 a3 s) := by
  delta panelTake
  extract_lets +onlyGivenNames -merge -useContext -underBinder x2_0 x2_1
  clear_value x2_0
  have hx2_1 : Within L s0 x2_1 := by
    unfold x2_1
    refine within_upd_pkt (sub_of hL rfl) ?_
    assumption
  clear_value x2_1
  split
  · exact within_sendReply (sub_of hL rfl) (by assumption)
  · split
    · rename_i v4_0 v4_1 v4_2 v4_3 q4_0
      have hv4_3 : Within L s0 v4_3 := within4_eq q4_0 (by
        exact within_panelRun (sub_of hL rfl) (by assumption))
      extract_lets +onlyGivenNames -merge -useContext -underBinder x6_0 x6_1
      clear_value x6_0 x6_1
      refine within_sendReply (sub_of hL rfl) ?_
      refine within_upd_pkt (sub_of hL rfl) ?_
      assumption

theorem within_panelReceive {a0 a1 a2 a3 a4} (hL : sub 80891948636832836248288322650111 L = true) (h : Within L s0
      s) : Within L s0 (panelReceive a0 a1 a2 a3 a4 s) := by
  delta panelReceive
  refine ite_ind ?_ ?_
  · assumption
  · split
    · exact within_rxBad (sub_of hL rfl) (by assumption)
    · split
      · refine ite_ind ?_ ?_
        · exact within_panelTake (sub_of hL rfl) (by assumption)
        · assumption
      · assumption
    · assumption

theorem within_execCmdEcho {a0 a1 a2 a3} (hL : sub 80891948638013427869005733953535 L = true) (h : Within L s0 s) :
      WithinN L s0 (execCmdEcho a0 a1 a2 a3 s) := by
  delta execCmdEcho
  refine withinN_next ?_
  refine within_busStep (sub_of hL rfl) (fun _ _ => ?_) ?_
  · exact within_panelReceive (sub_of hL rfl) (by assumption)
  · assumption

theorem within_execCmdRead {a0 a1 a2 a3} (hL : sub 80891948638013427869005733953535 L = true) (h : Within L s0 s) :
      WithinN L s0 (execCmdRead a0 a1 a2 a3 s) := by
  delta execCmdRead
  refine withinN_next ?_
  refine within_busStep (sub_of hL rfl) (fun _ _ => ?_) ?_
  · exact within_panelReceive (sub_of hL rfl) (by assumption)
  · assumption

theorem within_panelRefuse {a0 a1 a2} (hL : sub 2535301205179978207367759134720 L = true) (h : Within L s0 s) :
      Within L s0 (panelRefuse a0 a1 a2 s) := by
  delta panelRefuse
  refine ite_ind ?_ ?_
  · assumption
  · split
    · exact within_rxBad (sub_of hL rfl) (by assumption)
    · split
      · refine within_raise (sub_of hL rfl) (sub_of hL rfl) ?_
        exact within_inc (sub_of hL rfl) (by assumption)
      · exact within_inc (sub_of hL rfl) (by assumption)
      · assumption
    · assumption

theorem within_execCmdRefused {a0 a1 a2 a3} (hL : sub 73524316312461209676401041489930 L = true) (h : Within L s0
      s) : WithinN L s0 (execCmdRefused a0 a1 a2 a3 s) := by
  delta execCmdRefused
  refine withinN_next ?_
  refine within_busStep (sub_of hL rfl) (fun _ _ => ?_) ?_
  · exact within_panelRefuse (sub_of hL rfl) (by assumption)
  · assumption

theorem within_execCmdWrite {a0 a1 a2 a3 a4} (hL : sub 80891948638013427869005733953535 L = true) (h : Within L s0
      s) : WithinN L s0 (execCmdWrite a0 a1 a2 a3 a4 s) := by
  delta execCmdWrite
  refine withinN_next ?_
  refine within_busStep (sub_of hL rfl) (fun _ _ => ?_) ?_
  · exact within_panelReceive (sub_of hL rfl) (by assumption)
  · assumption

end Sys2Proof.Machine
end

