-- ==== Sys2Proof/Laws/WithinStaged.lean ====
section
/-! SUPPORT. Which parts of a state each operation of Staged.lean may write. -/

namespace Sys2Proof.Machine

variable {L : Nat} {s0 s : State}

theorem within_checkPassed {a0 a1} (q1_0 : sub (partH a0) L = true) (h : Within L s0 s) : Within L s0 (checkPassed
      a0 a1 s) := by
  delta checkPassed
  exact within_setHdr q1_0 (by assumption)

theorem within_stagedPort {a0 a1} (hL : sub 2535353331545533612691597661704 L = true) (h : Within L s0 s) : Within
      L s0 (stagedPort a0 a1 s) := by
  delta stagedPort
  extract_lets +onlyGivenNames -merge -useContext -underBinder x2_0 x2_1
  clear_value x2_1
  split
  · exact within_commitReject (sub_of hL rfl) (sub_portH (sub_of hL rfl) (sub_of hL rfl)) (by assumption)
  · refine within_portBoundary (sub_of hL rfl) ?_
    exact within_checkPassed (sub_portH (sub_of hL rfl) (sub_of hL rfl)) (by assumption)

theorem within_readTable {want : Bool} {a n : Nat} {bad : List Nat → Option (Nat × Nat)} {put : List Nat → Tables →
      Tables}
    {r : Reading} (hL : sub 2535353331545533023353365139464 L = true) (h : Within3 L s0 r) : Within3 L s0
      (readTable want a n bad put r) := by
  delta readTable
  refine ite_ind h ?_
  split
  · rename_i data p s' q
    have hs : Within L s0 s' := within3_eq q (within_dramRead (sub_of hL (by rfl)) h)
    extract_lets +onlyGivenNames -merge -useContext -underBinder v
    refine ite_ind (within3_mk hs) ?_
    split
    · exact within3_mk hs
    · exact within3_mk hs

theorem within_readStreamTables {s' : State} {n : Nat} (hL : sub 2535353331545533023353365139464 L = true) (h :
      Within L s0 s) : Within3 L s0 (readStreamTables s s' n) := by
  delta readStreamTables
  extract_lets +onlyGivenNames -merge -useContext -underBinder none' addr lo hi r0 r1 r2 r3 r4 r5
  have h0 : Within3 L s0 r0 := within3_mk h
  have h4 : Within3 L s0 r4 := within_readTable hL (within_readTable hL (within_readTable hL (within_readTable hL
      h0)))
  refine forEach_ind (fun _ _ k => ?_) ?_
  · exact within_readTable hL k
  · exact forEach_ind (fun _ _ k => within_readTable hL k) h4

theorem within_stagedStrm {a0 a1} (hL : sub 2535353331545533023353365139464 L = true) (h : Within L s0 s) : Within
      L s0 (stagedStrm a0 a1 s) := by
  delta stagedStrm
  extract_lets +onlyGivenNames -merge -useContext -underBinder s'
  clear_value s'
  split
  · exact within_commitReject (sub_of hL (by rfl)) (sub_of hL (by rfl)) h
  · split
    · rename_i c d tables s1 q
      exact within_commitReject (sub_of hL (by rfl)) (sub_of hL (by rfl)) (within3_eq q (within_readStreamTables hL
      h))
    · rename_i tables s1 q
      have hs : Within L s0 s1 := within3_eq q (within_readStreamTables hL h)
      refine ite_ind (within_commitReject (sub_of hL (by rfl)) (sub_of hL (by rfl)) hs) (ite_ind
      (within_commitReject (sub_of hL (by rfl)) (sub_of hL (by rfl)) hs) ?_)
      extract_lets +onlyGivenNames -merge -useContext -underBinder x s2 hd
      have h2 : Within L s0 s2 := within_checkPassed (sub_of hL (by rfl)) (within_setStrm (sub_of hL (by rfl)) hs)
      exact ite_ind (within_evalStrm (sub_of hL (by rfl)) h2) h2

theorem within_stagedEnc {a0} (hL : sub 2535310877470830422038430351368 L = true) (h : Within L s0 s) : Within L s0
      (stagedEnc a0 s) := by
  delta stagedEnc
  split
  · refine within_commitReject (sub_of hL rfl) (sub_of hL rfl) ?_
    exact within_dropCommits (sub_of hL rfl) (by assumption)
  · extract_lets +onlyGivenNames -merge -useContext -underBinder x4_0 x4_1 x4_2 x4_3 x4_4
    have hx4_0 : Within L s0 x4_0 := by
      exact within_checkPassed (sub_of hL rfl) (by assumption)
    clear_value x4_0 x4_1 x4_3
    have hx4_4 : Within L s0 x4_4 := by
      refine within_forEach (fun _ _ _ => ?_) ?_
      · exact within_applyCtx (sub_of hL rfl) (by assumption)
      · assumption
    clear_value x4_4
    refine within_encCommitEnd (sub_of hL rfl) ?_
    refine within_forEach (fun _ _ _ => ?_) ?_
    · exact within_setEnc (sub_of hL rfl) (by assumption)
    · assumption

theorem within_stagedHead {a0} (hL : sub 22818292302150288792801457995784 L = true) (h : Within L s0 s) : Within L
      s0 (stagedHead a0 s) := by
  delta stagedHead
  extract_lets +onlyGivenNames -merge -useContext -underBinder x2_0
  have hx2_0 : Within L s0 x2_0 := by
    exact within_readTables (sub_of hL rfl) (by assumption)
  clear_value x2_0
  split
  · exact within_commitReject (sub_of hL rfl) (sub_of hL rfl) (by assumption)
  · refine within_headStaged (sub_of hL rfl) ?_
    exact within_checkPassed (sub_of hL rfl) (by assumption)

theorem within_stagedTime {a0} (hL : sub 2535301205181131128872265318400 L = true) (h : Within L s0 s) : Within L
      s0 (stagedTime a0 s) := by
  delta stagedTime
  refine ite_ind ?_ ?_
  · exact within_checkPassed (sub_of hL rfl) (by assumption)
  · exact within_commitReject (sub_of hL rfl) (sub_of hL rfl) (by assumption)

theorem within_stagedDdrc {a0} (hL : sub 2535301205215718774012618211328 L = true) (h : Within L s0 s) : Within L
      s0 (stagedDdrc a0 s) := by
  delta stagedDdrc
  extract_lets +onlyGivenNames -merge -useContext -underBinder x2_0
  have hx2_0 : Within L s0 x2_0 := by
    exact within_checkPassed (sub_of hL rfl) (by assumption)
  clear_value x2_0
  refine ite_ind ?_ ?_
  · exact within_applyDdrc (sub_of hL rfl) (by assumption)
  · assumption

theorem within_stagedCheck {a0 a1 a2} (hL : sub 22818304534004131153623213512200 L = true) (h : Within L s0 s) :
      Within L s0 (stagedCheck a0 a1 a2 s) := by
  delta stagedCheck
  extract_lets +onlyGivenNames -merge -useContext -underBinder x2_0
  refine ite_ind ?_ ?_
  · assumption
  · split
    · exact within_stagedPort (sub_of hL rfl) (by assumption)
    · exact within_stagedPort (sub_of hL rfl) (by assumption)
    · exact within_stagedStrm (sub_of hL rfl) (by assumption)
    · exact within_stagedEnc (sub_of hL rfl) (by assumption)
    · exact within_stagedHead (sub_of hL rfl) (by assumption)
    · exact within_stagedTime (sub_of hL rfl) (by assumption)
    · exact within_stagedDdrc (sub_of hL rfl) (by assumption)
    · assumption

theorem within_execStagedCheck {a0 a1 a2} (hL : sub 73524328544313899115718089496074 L = true) (h : Within L s0 s)
      : WithinN L s0 (execStagedCheck a0 a1 a2 s) := by
  delta execStagedCheck
  refine withinN_next ?_
  refine within_busStep (sub_of hL rfl) (fun _ _ => ?_) ?_
  · exact within_stagedCheck (sub_of hL rfl) (by assumption)
  · assumption

theorem within_withPending {a1} (hL : sub 26388279068160 L = true) (h : Within L s0 s) : Within L s0 (withPending s
      a1) := by
  delta withPending
  extract_lets +onlyGivenNames -merge -useContext -underBinder x2_0
  refine ite_ind ?_ ?_
  · exact within_applyGroup (sub_portW (sub_of hL rfl) (sub_of hL rfl)) (sub_portH (sub_of hL rfl) (sub_of hL rfl)) sub_portG (by assumption)
  · assumption

end Sys2Proof.Machine
end

