-- ==== Sys2Proof/Laws/WithinDispatch.lean ====
section
/-! SUPPORT. Which parts of a state each operation of Dispatch.lean may write. -/

namespace Sys2Proof.Machine

variable {L : Nat} {s0 s : State}

theorem within_exec {a0} (hL : sub 81129638414606681695789005144063 L = true) (h : Within L s0 s) : WithinN L s0
      (exec a0 s) := by
  delta exec
  split
  · exact within_execRegisterWrite (sub_of hL rfl) (by assumption)
  · exact within_execErrorCodeClear (sub_of hL rfl) (by assumption)
  · exact within_execEventPendingClear (sub_of hL rfl) (by assumption)
  · exact within_execEventEnableWrite (sub_of hL rfl) (by assumption)
  · exact within_execMsixUnmask (sub_of hL rfl) (by assumption)
  · exact within_execLeaseWrite (sub_of hL rfl) (by assumption)
  · exact within_execLeaseLapsed (sub_of hL rfl) (sub_of hL (sub_trans (sub_allH _) rfl)) (by assumption)
  · exact within_execCommit (sub_of hL rfl) (by assumption)
  · exact within_execAbort (sub_of hL rfl) (by assumption)
  · exact within_execStagedCheck (sub_of hL rfl) (by assumption)
  · exact within_execSoftReset (sub_of hL rfl) (by assumption)
  · exact within_execPageEnableWrite (sub_of hL rfl) (by assumption)
  · exact within_execPageFreeze (sub_of hL rfl) (by assumption)
  · exact within_execRightsWrite (sub_of hL rfl) (by assumption)
  · exact within_execModeRequest (sub_of hL rfl) (by assumption)
  · exact within_execRampDone (sub_of hL rfl) (by assumption)
  · exact within_execPaceIntervalEnd (sub_of hL rfl) (by assumption)
  · exact within_execRestoreStep (sub_of hL rfl) (by assumption)
  · exact within_execFrameStart (sub_of hL rfl) (by assumption)
  · exact within_execLineReceived (sub_of hL rfl) (by assumption)
  · exact within_execPclkGlitch (sub_of hL rfl) (by assumption)
  · exact within_execFrameEnd (sub_of hL rfl) (by assumption)
  · exact within_execLineTimeout (sub_of hL rfl) (by assumption)
  · exact within_execFrameClose (sub_of hL rfl) (by assumption)
  · exact within_execNoFrame (sub_of hL rfl) (by assumption)
  · exact within_execHdrMissing (sub_of hL rfl) (by assumption)
  · exact within_execEmbeddedData (sub_of hL rfl) (by assumption)
  · exact within_execPacketError (sub_of hL rfl) (by assumption)
  · exact within_execPhyError (sub_of hL rfl) (by assumption)
  · exact within_execCctlEnable (sub_of hL rfl) (by assumption)
  · exact within_execInitDone (sub_of hL rfl) (by assumption)
  · exact within_execCctlDisable (sub_of hL rfl) (by assumption)
  · exact within_execStopSequenceDone (sub_of hL rfl) (by assumption)
  · exact within_execBusTransactionEnd (sub_of hL rfl) (by assumption)
  · exact within_execCmdPush (sub_of hL rfl) (by assumption)
  · exact within_execWriteWindow (sub_of hL rfl) (by assumption)
  · exact within_execSafeEnd (sub_of hL rfl) (by assumption)
  · exact within_execResultPop (sub_of hL rfl) (by assumption)
  · exact within_execXferStart (sub_of hL rfl) (by assumption)
  · exact within_execXferDone (sub_of hL rfl) (by assumption)
  · exact within_execTrigFire (sub_of hL rfl) (by assumption)
  · exact within_execFsyncEdge (sub_of hL rfl) (by assumption)
  · exact within_execFsyncPulseEnd (sub_of hL rfl) (by assumption)
  · exact within_execTrigRise (sub_of hL rfl) (by assumption)
  · exact within_execTrigPulseEnd (sub_of hL rfl) (by assumption)
  · exact within_execStrobePulse (sub_of hL rfl) (by assumption)
  · exact within_execSwapDone (sub_of hL rfl) (by assumption)
  · exact within_execBenchRowDone (sub_of hL rfl) (by assumption)
  · exact within_execClass0RowTake (sub_of hL rfl) (by assumption)
  · exact within_execStripeComplete (sub_of hL rfl) (by assumption)
  · exact within_execDeadlineExpired (sub_of hL rfl) (by assumption)
  · exact within_execStagedRowRead (sub_of hL rfl) (by assumption)
  · exact within_execGridReady (sub_of hL rfl) (by assumption)
  · exact within_execLutLoad (sub_of hL rfl) (by assumption)
  · exact within_execLutLoadEnd (sub_of hL rfl) (by assumption)
  · exact within_execPartitionWrite (sub_of hL rfl) (by assumption)
  · exact within_execTapBufferComplete (sub_of hL rfl) (by assumption)
  · exact within_execPinFailsafe (sub_of hL rfl) (by assumption)
  · exact within_execStatsReady (sub_of hL rfl) (by assumption)
  · exact within_execSegReady (sub_of hL rfl) (by assumption)
  · exact within_execJobSubmit (sub_of hL rfl) (by assumption)
  · exact within_execPixelEncodeJob (sub_of hL rfl) (by assumption)
  · exact within_execPixelDecodeJob (sub_of hL rfl) (by assumption)
  · exact within_execByteCompressJob (sub_of hL rfl) (by assumption)
  · exact within_execByteDecompressJob (sub_of hL rfl) (by assumption)
  · exact within_execCtuRowDone (sub_of hL rfl) (by assumption)
  · exact within_execEncOutRdWrite (sub_of hL rfl) (by assumption)
  · exact within_execStallTimeout (sub_of hL rfl) (by assumption)
  · exact within_execGangWrite (sub_of hL rfl) (by assumption)
  · exact within_execDecCtxEnable (sub_of hL rfl) (by assumption)
  · exact within_execDecCtxDisable (sub_of hL rfl) (by assumption)
  · exact within_execDecInWrWrite (sub_of hL rfl) (by assumption)
  · exact within_execDecSliceStart (sub_of hL rfl) (by assumption)
  · exact within_execDecSliceDone (sub_of hL rfl) (by assumption)
  · exact within_execPliRetry (sub_of hL rfl) (by assumption)
  · exact within_execVblank (sub_of hL rfl) (by assumption)
  · exact within_execRasterLineStart (sub_of hL rfl) (by assumption)
  · exact within_execBpoolAlloc (sub_of hL rfl) (by assumption)
  · exact within_execBpoolComplete (sub_of hL rfl) (by assumption)
  · exact within_execBpoolRelease (sub_of hL rfl) (by assumption)
  · exact within_execBpoolWrite (sub_of hL rfl) (by assumption)
  · exact within_execBpoolRead (sub_of hL rfl) (by assumption)
  · exact within_execHeadFrameStart (sub_of hL rfl) (by assumption)
  · exact within_execRefTarget (sub_of hL rfl) (by assumption)
  · exact within_execRefLost (sub_of hL rfl) (by assumption)
  · exact within_execDpoEnable (sub_of hL rfl) (by assumption)
  · exact within_execDpoDisable (sub_of hL rfl) (by assumption)
  · exact within_execHpdPlug (sub_of hL rfl) (by assumption)
  · exact within_execHpdUnplug (sub_of hL rfl) (by assumption)
  · exact within_execHpdIrq (sub_of hL rfl) (by assumption)
  · exact within_execCapReadDone (sub_of hL rfl) (by assumption)
  · exact within_execTrainAttemptEnd (sub_of hL rfl) (by assumption)
  · exact within_execIdlePatternEnd (sub_of hL rfl) (by assumption)
  · exact within_execLinkRetry (sub_of hL rfl) (by assumption)
  · exact within_execAuxStart (sub_of hL rfl) (by assumption)
  · exact within_execAuxRun (sub_of hL rfl) (by assumption)
  · exact within_execAuxDone (sub_of hL rfl) (by assumption)
  · exact within_execChkCfgWrite (sub_of hL rfl) (by assumption)
  · exact within_execNetLinkDown (sub_of hL rfl) (by assumption)
  · exact within_execNetLinkUp (sub_of hL rfl) (by assumption)
  · exact within_execPktRecordIngest (sub_of hL rfl) (by assumption)
  · exact within_execPktSend (sub_of hL rfl) (by assumption)
  · exact within_execFlowPacket (sub_of hL rfl) (by assumption)
  · exact within_execFlowLoss (sub_of hL rfl) (by assumption)
  · exact within_execExceptionRx (sub_of hL rfl) (by assumption)
  · exact within_execExcTxSubmit (sub_of hL rfl) (by assumption)
  · exact within_execSenderReport (sub_of hL rfl) (by assumption)
  · exact within_execSessionEnable (sub_of hL rfl) (by assumption)
  · exact within_execCmdEcho (sub_of hL rfl) (by assumption)
  · exact within_execCmdRead (sub_of hL rfl) (by assumption)
  · exact within_execCmdWrite (sub_of hL rfl) (by assumption)
  · exact within_execCmdRefused (sub_of hL rfl) (by assumption)
  · exact within_execMeasurementInterval (sub_of hL rfl) (by assumption)
  · exact within_execHoldEnd (sub_of hL rfl) (by assumption)
  · exact within_execSlewDone (sub_of hL rfl) (by assumption)
  · exact within_execTimeStep (sub_of hL rfl) (by assumption)
  · exact within_execTimeAccept (sub_of hL rfl) (by assumption)
  · exact within_execTimeSnap (sub_of hL rfl) (by assumption)
  · exact within_execPtpRx (sub_of hL rfl) (by assumption)
  · exact within_execPtpTxSubmit (sub_of hL rfl) (by assumption)
  · exact within_execPtpTxDepart (sub_of hL rfl) (by assumption)
  · exact within_execPpsIn (sub_of hL rfl) (by assumption)
  · exact within_execPpsOutEdge (sub_of hL rfl) (by assumption)
  · exact within_execPpsOutEnd (sub_of hL rfl) (by assumption)
  · exact within_execAudEnable (sub_of hL rfl) (by assumption)
  · exact within_execAudDisable (sub_of hL rfl) (by assumption)
  · exact within_execAudArm (sub_of hL rfl) (by assumption)
  · exact within_execAudStop (sub_of hL rfl) (by assumption)
  · exact within_execStartGo (sub_of hL rfl) (by assumption)
  · exact within_execSilentStart (sub_of hL rfl) (by assumption)
  · exact within_execStartFired (sub_of hL rfl) (by assumption)
  · exact within_execStopComplete (sub_of hL rfl) (by assumption)
  · exact within_execBlockReady (sub_of hL rfl) (by assumption)
  · exact within_execOutputBlock (sub_of hL rfl) (by assumption)
  · exact within_execHoldLimit (sub_of hL rfl) (by assumption)
  · exact within_execClockLost (sub_of hL rfl) (by assumption)
  · exact within_execClockBack (sub_of hL rfl) (by assumption)
  · exact within_execAudRateMeasure (sub_of hL rfl) (by assumption)
  · exact within_execDdrcTrainingDone (sub_of hL rfl) (by assumption)
  · exact within_execTrackTick (sub_of hL rfl) (by assumption)
  · exact within_execMr4Poll (sub_of hL rfl) (by assumption)
  · exact within_execRefresh (sub_of hL rfl) (by assumption)
  · exact within_execScrubLine (sub_of hL rfl) (by assumption)
  · exact within_execDramReadDone (sub_of hL rfl) (by assumption)
  · exact within_execDiagnosisDone (sub_of hL rfl) (by assumption)
  · exact within_execFreqGo (sub_of hL rfl) (by assumption)
  · exact within_execFreqMarginMet (sub_of hL rfl) (by assumption)
  · exact within_execFreqTimeout (sub_of hL rfl) (by assumption)
  · exact within_execFreqAbort (sub_of hL rfl) (by assumption)
  · exact within_execFreqChangeDone (sub_of hL rfl) (by assumption)
  · exact within_execRelineGo (sub_of hL rfl) (by assumption)
  · exact within_execRelineSegmentDone (sub_of hL rfl) (by assumption)
  · exact within_execHostLinkDown (sub_of hL rfl) (by assumption)
  · exact within_execHostLinkUp (sub_of hL rfl) (by assumption)
  · exact within_execFlr (sub_of hL rfl) (by assumption)
  · exact within_execMsixEnable (sub_of hL rfl) (by assumption)
  · exact within_execBar2Read (sub_of hL rfl) (by assumption)
  · exact within_execBar2Write (sub_of hL rfl) (by assumption)
  · exact within_execThimbleAcquire (sub_of hL rfl) (by assumption)
  · exact within_execThimbleRelease (sub_of hL rfl) (by assumption)
  · exact within_execThimbleLapsed (sub_of hL rfl) (by assumption)
  · exact within_execDmaRingEnable (sub_of hL rfl) (by assumption)
  · exact within_execDmaRingDisable (sub_of hL rfl) (by assumption)
  · exact within_execDmaSubmit (sub_of hL rfl) (by assumption)
  · exact within_execDmaHostToDram (sub_of hL rfl) (by assumption)
  · exact within_execDmaDramToHost (sub_of hL rfl) (by assumption)
  · exact within_execDmaDramToDram (sub_of hL rfl) (by assumption)
  · exact within_execDmaRegisterWrite (sub_of hL rfl) (by assumption)
  · exact within_execDmaResume (sub_of hL rfl) (by assumption)
  · exact within_execDmaSkip (sub_of hL rfl) (by assumption)
  · exact within_execLoad (sub_of hL rfl) (by assumption)
  · exact within_execUpdate (sub_of hL rfl) (by assumption)
  · exact within_execActivate (sub_of hL rfl) (by assumption)
  · exact within_execConfirm (sub_of hL rfl) (by assumption)
  · exact within_execAdvance (sub_of hL rfl) (by assumption)
  · exact within_execAttest (sub_of hL rfl) (by assumption)
  · exact within_execIdentity (sub_of hL rfl) (by assumption)
  · exact within_execDebugChallenge (sub_of hL rfl) (by assumption)
  · exact within_execDebugUnlock (sub_of hL rfl) (by assumption)
  · exact within_execEnroll (sub_of hL rfl) (by assumption)
  · exact within_execHandoverQuiesced (sub_of hL rfl) (by assumption)
  · exact within_execQuiesceTimeout (sub_of hL rfl) (by assumption)
  · exact within_execHandoverDone (sub_of hL rfl) (by assumption)
  · exact within_execEncoderHoldEnd (sub_of hL rfl) (by assumption)
  · exact within_execHandoverTimeout (sub_of hL rfl) (by assumption)
  · exact within_execRecoveryImage (sub_of hL rfl) (by assumption)
  · exact within_execPowerOnReset (sub_of hL rfl) (by assumption)
  · exact within_execResetNAssert (sub_of hL rfl) (by assumption)
  · exact within_execResetNRelease (sub_of hL rfl) (by assumption)
  · exact within_execWarm (sub_of hL rfl) (by assumption)
  · exact within_execMgmtResetEnd (sub_of hL rfl) (by assumption)
  · exact within_execHeartbeat (sub_of hL rfl) (by assumption)
  · exact within_execHbMiss (sub_of hL rfl) (by assumption)
  · exact within_execFirstHeartbeatTimeout (sub_of hL rfl) (by assumption)
  · exact within_execRelease (sub_of hL rfl) (by assumption)
  · exact within_execSafeviewRequest (sub_of hL rfl) (by assumption)
  · exact within_execSafeviewReqRelease (sub_of hL rfl) (by assumption)
  · exact within_execThermalSample (sub_of hL rfl) (by assumption)
  · exact within_execSvbIdleEnd (sub_of hL rfl) (by assumption)
  · exact within_execSvbTrainAttemptEnd (sub_of hL rfl) (by assumption)
  · exact within_execSvbRetry (sub_of hL rfl) (by assumption)
  · exact within_execSvbSourceRow (sub_of hL rfl) (by assumption)
  · exact within_execQuadStale (sub_of hL rfl) (by assumption)
  · exact within_execUlpsEntryExit (sub_of hL rfl) (by assumption)
  · exact within_execDeskewSequence (sub_of hL rfl) (by assumption)
  · exact within_execSequenceDelayEnd (sub_of hL rfl) (by assumption)
  · exact within_execPacketEligible (sub_of hL rfl) (by assumption)
  · exact within_execFlrEnd (sub_of hL rfl) (by assumption)
  · exact within_execResizableBarWrite (sub_of hL rfl) (by assumption)

end Sys2Proof.Machine
end

