-- ==== Sys2Proof/WellFormed.lean ====
section
/-! DEFINITION. Well-formed commands: the operand values that the part or its environment can present. -/

namespace Sys2Proof

/-- The check of a command's operands. -/
def Instr.wellFormed (i : Instr) : Bool :=
  match i with
  | .registerWrite _ _ _ _ _ _ => true
  | .errorCodeClear _ _ _ _ => true
  | .eventPendingClear _ _ _ _ => true
  | .eventEnableWrite _ _ _ _ => true
  | .msixUnmask _ _ _ => true
  | .leaseWrite _ _ _ _ _ => true
  | .leaseLapsed _ _ _ => true
  | .commit _ _ _ => true
  | .abort _ _ _ => true
  | .stagedCheck _ _ _ => true
  | .softReset _ _ _ _ _ => true
  | .pageEnableWrite _ _ _ _ _ => true
  | .pageFreeze _ _ _ _ _ => true
  | .rightsWrite _ _ _ _ => true
  | .modeRequest _ _ _ => true
  | .rampDone _ => true
  | .paceIntervalEnd _ _ _ => true
  | .restoreStep _ => true
  | .frameStart p e _ _ _ => decide (40 ≤ p.val) || e.val == 0
  | .lineReceived p e _ _ _ _ _ _ _ => decide (40 ≤ p.val) || e.val == 0
  | .pclkGlitch _ _ _ => true
  | .frameEnd p e _ _ => decide (40 ≤ p.val) || e.val == 0
  | .lineTimeout p e _ _ => decide (40 ≤ p.val) || e.val == 0
  | .frameClose p e _ => decide (40 ≤ p.val) || e.val == 0
  | .noFrame p e _ => decide (40 ≤ p.val) || e.val == 0
  | .hdrMissing p e _ => decide (40 ≤ p.val) || e.val == 0
  | .embeddedData _ vc dt _ _ => decide (vc < 16) && (dt == 0x12 || decide (0x30 ≤ dt) && decide (dt ≤ 0x37))
  | .packetError _ _ _ => true
  | .phyError _ _ _ => true
  | .cctlEnable _ _ _ => true
  | .initDone _ _ => true
  | .cctlDisable _ _ _ => true
  | .stopSequenceDone _ _ => true
  | .busTransactionEnd _ _ _ _ => true
  | .cmdPush _ _ _ _ _ => true
  | .writeWindow _ _ => true
  | .safeEnd _ _ => true
  | .resultPop _ _ _ => true
  | .xferStart _ _ _ _ _ _ => true
  | .xferDone _ _ _ => true
  | .trigFire _ _ _ => true
  | .fsyncEdge _ _ => true
  | .fsyncPulseEnd _ _ => true
  | .trigRise _ _ => true
  | .trigPulseEnd _ _ => true
  | .strobePulse _ _ _ => true
  | .swapDone _ _ => true
  | .benchRowDone _ _ _ => true
  | .class0RowTake _ _ => true
  | .stripeComplete _ _ _ _ => true
  | .deadlineExpired _ _ => true
  | .stagedRowRead _ _ _ _ => true
  | .gridReady _ _ => true
  | .lutLoad _ _ _ => true
  | .lutLoadEnd _ => true
  | .partitionWrite _ _ _ => true
  | .tapBufferComplete _ _ _ => true
  | .pinFailsafe _ _ => true
  | .statsReady _ _ => true
  | .segReady _ _ => true
  | .jobSubmit _ _ _ _ => true
  | .pixelEncodeJob _ _ => true
  | .pixelDecodeJob _ _ => true
  | .byteCompressJob _ _ => true
  | .byteDecompressJob _ _ => true
  | .ctuRowDone _ _ _ _ _ => true
  | .encOutRdWrite _ _ _ _ => true
  | .stallTimeout _ _ => true
  | .gangWrite _ _ _ _ => true
  | .decCtxEnable _ _ _ => true
  | .decCtxDisable _ _ _ => true
  | .decInWrWrite _ _ _ _ => true
  | .decSliceStart _ h _ => (h.ctu == 16 || h.ctu == 32 || h.ctu == 64) && decide (0 < h.width) && decide (0 < h.height)
  | .decSliceDone _ _ _ _ _ _ => true
  | .pliRetry _ _ => true
  | .vblank _ _ => true
  | .rasterLineStart _ _ _ _ _ => true
  | .bpoolAlloc _ _ _ => true
  | .bpoolComplete _ _ _ => true
  | .bpoolRelease _ _ _ => true
  | .bpoolWrite _ _ _ => true
  | .bpoolRead _ _ _ => true
  | .headFrameStart _ _ => true
  | .refTarget _ _ => true
  | .refLost _ _ => true
  | .dpoEnable _ _ _ => true
  | .dpoDisable _ _ _ => true
  | .hpdPlug _ _ => true
  | .hpdUnplug _ _ => true
  | .hpdIrq _ _ _ => true
  | .capReadDone _ _ _ lanes _ => lanes.val == 1 || lanes.val == 2 || lanes.val == 4
  | .trainAttemptEnd _ _ _ => true
  | .idlePatternEnd _ _ => true
  | .linkRetry _ _ => true
  | .auxStart _ _ _ _ _ _ => true
  | .auxRun _ _ => true
  | .auxDone _ _ _ _ => true
  | .chkCfgWrite _ _ _ _ => true
  | .netLinkDown _ _ => true
  | .netLinkUp _ _ => true
  | .pktRecordIngest raw k _ => !raw || decide (k.val < 4)
  | .pktSend _ _ => true
  | .flowPacket _ _ _ _ => true
  | .flowLoss _ _ => true
  | .exceptionRx _ _ _ _ => true
  | .excTxSubmit _ _ _ => true
  | .senderReport _ => true
  | .sessionEnable _ _ _ _ => true
  | .cmdEcho _ _ _ _ => true
  | .cmdRead _ _ _ _ => true
  | .cmdWrite _ _ _ _ _ => true
  | .cmdRefused _ _ _ _ => true
  | .measurementInterval _ _ => true
  | .holdEnd _ _ => true
  | .slewDone _ _ => true
  | .timeStep _ _ _ => true
  | .timeAccept _ _ _ => true
  | .timeSnap _ _ _ => true
  | .ptpRx _ _ _ _ => true
  | .ptpTxSubmit _ _ _ _ => true
  | .ptpTxDepart _ _ => true
  | .ppsIn _ => true
  | .ppsOutEdge _ => true
  | .ppsOutEnd _ => true
  | .audEnable _ _ _ => true
  | .audDisable _ _ _ => true
  | .audArm _ _ _ => true
  | .audStop _ _ _ => true
  | .startGo _ _ _ _ => true
  | .silentStart _ _ => true
  | .startFired _ _ => true
  | .stopComplete _ _ => true
  | .blockReady _ _ _ _ => true
  | .outputBlock _ _ _ => true
  | .holdLimit _ _ => true
  | .clockLost _ _ _ => true
  | .clockBack _ _ => true
  | .audRateMeasure _ _ _ => true
  | .ddrcTrainingDone _ _ _ => true
  | .trackTick _ _ _ _ => true
  | .mr4Poll _ _ _ => true
  | .refresh _ _ => true
  | .scrubLine _ _ _ _ => true
  | .dramReadDone _ _ _ _ _ => true
  | .diagnosisDone _ _ _ => true
  | .freqGo _ _ _ _ => true
  | .freqMarginMet _ => true
  | .freqTimeout _ => true
  | .freqAbort _ => true
  | .freqChangeDone _ _ _ _ => true
  | .relineGo _ _ _ => true
  | .relineSegmentDone _ _ => true
  | .hostLinkDown _ _ => true
  | .hostLinkUp _ gen width _ _ => decide (0 < gen.val) && (width.val == 1 || width.val == 2 || width.val == 4 || width.val == 8)
  | .flr _ _ => true
  | .msixEnable _ _ => true
  | .bar2Read _ _ _ _ => true
  | .bar2Write _ _ _ _ _ => true
  | .thimbleAcquire _ _ _ _ => true
  | .thimbleRelease _ _ _ => true
  | .thimbleLapsed _ _ => true
  | .dmaRingEnable _ _ _ _ => true
  | .dmaRingDisable _ _ _ _ => true
  | .dmaSubmit _ _ _ _ _ => true
  | .dmaHostToDram _ _ _ _ _ _ => true
  | .dmaDramToHost _ _ _ _ => true
  | .dmaDramToDram _ _ _ _ => true
  | .dmaRegisterWrite _ _ _ _ _ => true
  | .dmaResume _ _ _ _ => true
  | .dmaSkip _ _ _ _ => true
  | .load _ => true
  | .update _ => true
  | .activate _ => true
  | .confirm _ => true
  | .advance _ => true
  | .attest _ => true
  | .identity _ => true
  | .debugChallenge _ => true
  | .debugUnlock _ => true
  | .enroll _ => true
  | .handoverQuiesced _ _ => true
  | .quiesceTimeout _ => true
  | .handoverDone _ _ => true
  | .encoderHoldEnd _ => true
  | .handoverTimeout _ => true
  | .recoveryImage _ _ => true
  | .powerOnReset _ => true
  | .resetNAssert _ => true
  | .resetNRelease _ => true
  | .warm _ _ => true
  | .mgmtResetEnd _ => true
  | .heartbeat _ _ _ => true
  | .hbMiss _ => true
  | .firstHeartbeatTimeout _ => true
  | .release _ _ => true
  | .safeviewRequest _ => true
  | .safeviewReqRelease _ => true
  | .thermalSample _ _ => true
  | .svbIdleEnd _ lanes _ => lanes.val == 1 || lanes.val == 2 || lanes.val == 4
  | .svbTrainAttemptEnd _ _ => true
  | .svbRetry _ lanes _ => lanes.val == 1 || lanes.val == 2 || lanes.val == 4
  | .svbSourceRow _ _ _ _ _ => true
  | .quadStale _ _ => true
  | .ulpsEntryExit _ _ _ _ _ => true
  | .deskewSequence _ _ => true
  | .sequenceDelayEnd _ _ => true
  | .packetEligible _ _ => true
  | .flrEnd _ _ => true
  | .resizableBarWrite _ _ _ => true

end Sys2Proof
end

