-- ==== Sys2Proof/Tests/Slice0.lean ====
section
/-! SUPPORT. The model's own tests, and for every statement with hypotheses a concrete state and operands that meet them. -/

namespace Sys2Proof.Tests

set_option Elab.async false

open Sys2Proof.Machine

/-! ### Small states -/

/-- A state with one page header changed. -/
def hd (b : Block) (n : Nat) (f : Header → Header) (s : State) : State := s.setHdr b n (f (s.hdr b n))

/-- A state in which every origin holds every right on a page. -/
def granted (b : Block) (n : Nat) (s : State) : State := hd b n (fun h => { h with rights := 0x07777770 }) s

/-- A state with a page in service. -/
def enabled (b : Block) (n : Nat) (s : State) : State := hd b n (fun h => { h with enable := true, enableStaged := true }) s

/-- The state that a command leaves. -/
def go (c : Instr) (s : State) : State :=
  match exec c s with
  | .next u => u
  | _ => s

/-- A closed frame of 32 rows that has arrived whole at time 0. -/
def frame0 : Frame :=
  { no := 1, tk := Ticket.zero, csi := 1, closed := 1, bits := 8, yuv := false, rows := [], inDram := [], missing := [],
    joined := [0], arrived := [32], done := [true], metaArea := [], metaOrder := 0, metaTrunc := false, discard := false,
    doomed := 0, queued := 0, arrivals := [0], stripe := 0, started := true, processed := false, taps := [], tapsDone := [],
    slot := none, stat := none, grid := none }

/-- Stream `n` with one frame, 16 x 32 samples, one exposure, stripes of 16 rows. -/
def withFrame (n : Nat) (f : Frame) (s : State) : State :=
  ((((s.set n Reg.strm_ADMIT_GEOM_WIDTH 16).set n Reg.strm_ADMIT_GEOM_HEIGHT 32).set n Reg.strm_ADMIT_RATE_EXPOSURES 1).set n Reg.strm_SCHED_STRIPE_ROWS 1).setStrm n
    { Strm.reset with frames := [f] }

/-- One rank of 8 GiB on subchannel 0, in service. -/
def ram (s : State) : State := { s.set 0 Reg.memx_MAP_MASK 1 with mem := { s.mem with ranks := 1 } }

/-- A state with bytes in DRAM. -/
def holding (a : Nat) (l : List Byte) (s : State) : State := { ram s with dram := memWrite s.dram a l }

/-! ### Register pages -/

theorem witness_AccessesInOrder : (0x8000000 % 4 = 0) ∧
    (Inv State.reset ∧ 3 < blkCount .time ∧ 0x10 < blkPages .time * 0x1000 ∧ 0x10 % 4 = 0 ∧ isRegister .time 0x10 = true ∧
      0 < [0xFF#8, 0xFF#8].length ∧ 1 + [0xFF#8, 0xFF#8].length < 4) :=
  ⟨by decide, inv_of_test (by decide), by decide⟩

theorem witness_WriteChecksInOrder :
    let right := hd .head 0 (fun h => { h with owner := 0 }) State.reset
    let leased := granted .head 0 (hd .head 0 (fun h => { h with owner := 1 }) State.reset)
    let lapsed := granted .head 0 (hd .head 0 (fun h => { h with lapsed := 2 }) State.reset)
    let pending := hd .head 3 (fun h => { h with pendingCommit := true, outcome := 1 }) State.reset
    (Inv right ∧ isRegister .head 0x10 = true ∧ mayDo (right.hdr .head 0) Origin.hostB.code 1 = false) ∧
    (Inv leased ∧ mayDo (leased.hdr .head 0) Origin.hostB.code 1 = true ∧ (leased.hdr .head 0).owner = 1) ∧
    (Inv lapsed ∧ mayDo (lapsed.hdr .head 0) Origin.hostB.code 1 = true ∧ (lapsed.hdr .head 0).owner = 0 ∧
      (lapsed.hdr .head 0).lapsed = Origin.hostB.code) ∧
    (Inv pending ∧ mayDo (pending.hdr .head 3) Origin.keeper.code 2 = true ∧ (pending.hdr .head 3).pendingCommit = true ∧
      (pending.hdr .head 3).owner = 0) ∧
    (∃ row ix, findRow 0x4C (regRows .aud) = some (row, ix) ∧ rowMask row (fun a => a == .rws) = 0 ∧ inHeader 0x4C = false ∧
      Inv State.reset ∧ mayDo (State.reset.hdr .aud 0) Origin.keeper.code 1 = true ∧ (State.reset.hdr .aud 0).lapsed = 0 ∧
      stateBlocks (onBus .keeper .aud 0 0 State.reset) .keeper .aud 0 0x4C 0x100400 = false ∧ rowInRange row 0x100400 = false) ∧
    (∃ row ix, findRow 0x40 (regRows .head) = some (row, ix) ∧ rowMask row (fun a => a == .rws) ≠ 0 ∧
      inHeader 0x40 = false ∧ (pending.hdr (commitOwner .head 3).1 (commitOwner .head 3).2).pendingCommit = true) :=
  ⟨⟨inv_of_test (by decide), by decide⟩, ⟨inv_of_test (by decide), by decide⟩, ⟨inv_of_test (by decide), by decide⟩,
    ⟨inv_of_test (by decide), by decide⟩,
    ⟨_, _, rfl, by decide, by decide, inv_of_test (by decide), by decide, by decide, by decide, by decide⟩,
    ⟨_, _, rfl, by decide⟩⟩

theorem witness_ReadsNeedTheRight :
    Inv State.reset ∧ 3 < blkCount .head ∧ 0x1000 < blkPages .strm * 0x1000 ∧ 0x10 % 0x1000 ≠ 0 ∧ 0x1000 % 0x1000 = 0 ∧
      0xFFC % 0x1000 ≠ 0x24 ∧ mayDo (State.reset.hdr .head 3) Origin.hostA.code 0 = false :=
  ⟨inv_of_test (by decide), by decide⟩

theorem witness_ReservedReadsZero :
    locate 0x3FFFFFC = none ∧ isRegister .aud 0xFFC = false ∧ 0xFFC < blkPages .aud * 0x1000 ∧
    (∃ row ix, findRow 0x44 (regRows .aud) = some (row, ix) ∧ inHeader 0x44 = false ∧ ∀ f ∈ row.fields, ¬(f.lo ≤ 20 ∧ 20 ≤ f.hi)) ∧
    (∃ row ix, findRow 0x44 (regRows .aud) = some (row, ix) ∧ ∀ f ∈ row.fields, ¬(f.lo ≤ 31 ∧ 31 ≤ f.hi)) :=
  ⟨by decide, by decide, by decide, ⟨_, _, rfl, by decide⟩, ⟨_, _, rfl, by decide⟩⟩

/-- Both host ports up, MSI-X on and vector 7 unmasked on them, the keeper running, and a page that routes everywhere. -/
def listening (b : Block) (n raw en : Nat) : State :=
  let s := State.reset.set 0 Reg.host_LINK_STATUS_UP 1 |>.set 1 Reg.host_LINK_STATUS_UP 1
  let p : HostPort := { msixOn := true, unmasked := [7], msixPending := [] }
  let s := (s.setPort 0 p).setPort 1 p
  hd b n (fun h => { h with raw := BitVec.ofNat 32 raw, evEnable := BitVec.ofNat 32 en, route := 0x70007 })
    { s with sup := { s.sup with mgmtReset := false } }

theorem witness_EventsNotify :
    (Inv State.reset ∧ PageOk ⟨.strm, 47, 7⟩ ∧ accessCode State.reset .keeper .strm 47 (pageOff ⟨.strm, 47, 7⟩ 0x28) 1 = 0 ∧
      accessCode State.reset .keeper .strm 47 (pageOff ⟨.strm, 47, 7⟩ 0x14) 1 = 0 ∧
      accessCode State.reset .keeper .strm 47 (pageOff ⟨.strm, 47, 7⟩ 0x10) 1 = 0) ∧
    (let s := listening .head 3 1 1
     Inv s ∧ (s.hdr .head 3).raw &&& (s.hdr .head 3).evEnable ≠ 0) ∧
    (let s := listening .head 3 1 0
     Inv s ∧ ((s.hdr .head 3).raw ||| BitVec.ofNat 32 (2 ^ 31)) &&& (s.hdr .head 3).evEnable = 0) ∧
    (let s := listening .head 3 1 0x80000000
     Inv s ∧ (s.hdr .head 3).raw &&& (s.hdr .head 3).evEnable = 0 ∧
      ((s.hdr .head 3).raw ||| BitVec.ofNat 32 (2 ^ 31)) &&& (s.hdr .head 3).evEnable ≠ 0 ∧ s.sup.mgmtReset = false ∧
      bitsOf (s.hdr .head 3).route 16 10 = 7 ∧ s.get 0 Reg.host_LINK_STATUS_UP = 1 ∧ s.get 1 Reg.host_LINK_STATUS_UP = 1 ∧
      (s.port 0).msixOn = true ∧ (s.port 1).msixOn = true ∧ (s.port 0).unmasked.contains 7 = true ∧
      (s.port 1).unmasked.contains 7 = true) :=
  ⟨⟨inv_of_test (by decide), by decide, by decide, by decide, by decide⟩, ⟨inv_of_test (by decide), by decide⟩,
    ⟨inv_of_test (by decide), by decide⟩, ⟨inv_of_test (by decide), by decide⟩⟩

theorem witness_MaskedVectorsWait :
    (let s := listening .head 0 0 0
     s.get 1 Reg.host_LINK_STATUS_UP = 1 ∧ (s.port 1).msixOn = true ∧ (s.port 1).unmasked.contains 1023 = false ∧ Inv s) ∧
    (let s := sendMsix 1 1023 (listening .head 0 0 0)
     s.get 1 Reg.host_LINK_STATUS_UP = 1 ∧ (s.port 1).msixOn = true ∧ (s.port 1).msixPending.contains 1023 = true ∧ Inv s) :=
  ⟨⟨by decide, by decide, by decide, inv_of_test (by decide)⟩, ⟨by decide, by decide, by decide, inv_of_test (by decide)⟩⟩

theorem witness_FirstErrorKept :
    (Inv State.reset ∧ 63 < blkCount .layer ∧ (State.reset.hdr .layer 63).errCode = 0) ∧
    (let s := logAccess .layer 63 0x01 1 0xFFC 0 State.reset
     Inv s ∧ (s.hdr .layer 63).errCode ≠ 0) :=
  ⟨⟨inv_of_test (by decide), by decide⟩, ⟨inv_of_test (by decide), by decide⟩⟩

theorem witness_LeasesTakenGivenAndLapsed :
    (Inv State.reset ∧ PageOk ⟨.head, 3, 0⟩ ∧ accessCode State.reset .keeper .head 3 (pageOff ⟨.head, 3, 0⟩ 0x24) 1 = 0 ∧
      ((onBus .keeper .head 3 0 State.reset).hdr .head 3).owner = 0 ∧ Origin.keeper.code = 5) ∧
    (let s := hd .head 3 (fun h => { h with owner := 5 }) State.reset
     Inv s ∧ accessCode s .keeper .head 3 0x24 1 = 0 ∧ ((onBus .keeper .head 3 0 s).hdr .head 3).owner = Origin.keeper.code) ∧
    (let s := hd .head 3 (fun h => { h with owner := 1 }) State.reset
     Inv s ∧ accessCode s .keeper .head 3 0x24 1 = 0 ∧ ((onBus .keeper .head 3 0 s).hdr .head 3).owner = 1) ∧
    (let s := hd .glb 0 (fun h => { h with owner := 1, leaseTimer := true }) State.reset
     Inv s ∧ (s.hdr .glb 0).leaseTimer = true ∧ (s.hdr .glb 0).owner ≠ 0) :=
  ⟨⟨inv_of_test (by decide), by decide, by decide, by decide, by decide⟩, ⟨inv_of_test (by decide), by decide, by decide⟩,
    ⟨inv_of_test (by decide), by decide, by decide⟩, ⟨inv_of_test (by decide), by decide, by decide⟩⟩

theorem witness_CommitsNeedStagedFields :
    Inv State.reset ∧ PageOk ⟨.layer, 63, 0⟩ ∧ blkCommits .layer = false ∧
      accessCode State.reset .keeper .layer 63 (pageOff ⟨.layer, 63, 0⟩ 0x1C) 2 = 0 :=
  ⟨inv_of_test (by decide), by decide, by decide, by decide⟩

theorem witness_CommitsRequestedAndApplied :
    Inv State.reset ∧ PageOk ⟨.strm, 47, 7⟩ ∧ blkCommits .strm = true ∧
      accessCode State.reset .keeper .strm 47 (pageOff ⟨.strm, 47, 7⟩ 0x1C) 2 = 0 ∧
      (State.reset.hdr .strm 47).pendingCommit = false :=
  ⟨inv_of_test (by decide), by decide, by decide, by decide, by decide⟩

theorem witness_CommitsAborted :
    let s := hd .strm 47 (fun h => { h with pendingCommit := true, outcome := 3 }) State.reset
    Inv s ∧ PageOk ⟨.strm, 47, 0⟩ ∧ accessCode s .keeper .strm 47 (pageOff ⟨.strm, 47, 0⟩ 0x1C) 2 = 0 ∧
      (s.hdr .strm 47).pendingCommit = true :=
  ⟨inv_of_test (by decide), by decide, by decide, by decide⟩

theorem witness_PageRegistersWritten :
    (Inv State.reset ∧ PageOk ⟨.strm, 0, 7⟩ ∧ accessCode State.reset .keeper .strm 0 (pageOff ⟨.strm, 0, 7⟩ 0x04) 1 = 0 ∧
      (State.reset.hdr .strm 0).pendingCommit = false) ∧
    (let s := hd .strm 0 (fun h => { h with pendingCommit := true, outcome := 1 }) State.reset
     Inv s ∧ accessCode s .keeper .strm 0 0x04 1 = 0 ∧ true ≠ (s.hdr .strm 0).enableStaged ∧
      (s.hdr .strm 0).pendingCommit = true) ∧
    (accessCode State.reset .keeper .layer 63 0x04 1 = 0 ∧ accessCode State.reset .keeper .session 4095 0x04 1 = 0) ∧
    (accessCode State.reset .keeper .glb 0 0x30 1 = 0 ∧ bitsOf 0x07077770#32 4 3 = bitsOf 0x07077770#32 8 3 ∧
      bitsOf 0x70#32 4 3 ≠ bitsOf 0x70#32 8 3) ∧
    (let s := granted .glb 0 State.reset
     Inv s ∧ accessCode s .hostA .glb 0 0x30 1 = 0) :=
  ⟨⟨inv_of_test (by decide), by decide⟩, ⟨inv_of_test (by decide), by decide⟩, by decide, by decide,
    ⟨inv_of_test (by decide), by decide⟩⟩

theorem witness_SoftResetOfAPage :
    (Inv State.reset ∧ PageOk ⟨.zraw, 1, 0⟩ ∧ accessCode State.reset .keeper .zraw 1 (pageOff ⟨.zraw, 1, 0⟩ 0x04) 1 = 0) ∧
    accessCode State.reset .keeper .bpool 0 (pageOff ⟨.bpool, 0, 0⟩ 0x04) 1 = 0 :=
  ⟨⟨inv_of_test (by decide), by decide, by decide⟩, by decide⟩
/-! ### Pace and admission -/

theorem witness_PaceRampsAndRestores :
    (let s := State.reset
     Inv s ∧ accessCode s .keeper .pace 0 0x40 1 = 0 ∧ s.stateOf .pace 0 = 0 ∧ 2 ≠ s.get 0 Reg.pace_MODE_CURRENT ∧ modeRefusal (onBus .keeper .pace 0 0 s) 2 = none) ∧
    (let s := State.reset
     Inv s ∧ s.stateOf .pace 0 = 0 ∧ 1 = s.get 0 Reg.pace_MODE_CURRENT) ∧
    (let s := State.reset.setState .pace 0 1
     Inv s ∧ accessCode s .keeper .pace 0 0x40 1 = 0 ∧ s.stateOf .pace 0 = 1) ∧
    (let s := enabled .strm 0 (State.reset.set 0 Reg.strm_DEMAND_DEMAND 65535)
     Inv s ∧ accessCode s .keeper .pace 0 0x40 1 = 0 ∧ s.stateOf .pace 0 = 0 ∧ 0 ≠ s.get 0 Reg.pace_MODE_CURRENT ∧ modeRefusal (onBus .keeper .pace 0 0 s) 0 = some 0xFF) ∧
    (let s := { State.reset with pace := { State.reset.pace with since := some 5, steps := [47] } }
     Inv s ∧ s.pace.since = some 5 ∧ s.pace.steps = 47 :: [] ∧ 47 < 48 ∧ 5 + msT (s.get 0 Reg.pace_SHED_CFG_RESTORE_MS) ≤ 5 + msT 10000) :=
  ⟨⟨inv_of_test (by decide +kernel), by decide +kernel⟩, ⟨inv_of_test (by decide +kernel), by decide +kernel⟩, ⟨inv_of_test (by decide +kernel), by decide +kernel⟩, ⟨inv_of_test (by decide +kernel), by decide +kernel⟩, ⟨inv_of_test (by decide +kernel), by decide +kernel⟩⟩

theorem witness_HigherClassesShedFirst :
    (let s := (State.reset.set 47 Reg.strm_SCHED_CLASS 3).set 0 Reg.strm_SCHED_CLASS 1
     Inv s ∧ [0, 47].Nodup ∧ (∀ k ∈ [0, 47], k < 48 ∧ shedState s k ≤ 2) ∧ 0 ∈ [0, 47] ∧ 47 ∈ [0, 47] ∧ s.get 0 Reg.strm_SCHED_CLASS < s.get 47 Reg.strm_SCHED_CLASS ∧
      shedState (shed [0, 47] 1 s) 0 ≠ shedState s 0) :=
  ⟨inv_of_test (by decide +kernel), by decide +kernel⟩

/-! ### Camera ingress -/

/-- Port 0 (parallel) or 40 (serial 0) with entry 0 valid for exposure 0 of stream 3, an 8 x 4 frame, its assembler in state `st`. -/
def camera (p st : Nat) (s : State) : State :=
  let s := if p < 40 then ((s.set p Reg.camp_ENT_MAP_VALID 1).set p Reg.camp_ENT_MAP_STREAM 3).set p Reg.camp_ENT_SIZE_HEIGHT 4
    else ((s.set (p - 40) Reg.cams_ENT_MAP_VALID 1).set (p - 40) Reg.cams_ENT_MAP_STREAM 3).set (p - 40) Reg.cams_ENT_SIZE_HEIGHT 4
  s.setAsm (asmKey p 0) { Asm.reset with st := st }

theorem witness_FramesOpen :
    (let s := camera 0 1 State.reset
     Inv s ∧ (s.asm (asmKey 0 0)).st = 1 ∧ entExp s 0 0 = 0 ∧ entStream s 0 0 < 48 ∧ (s.hdr (portBlk 0) (portInst 0)).pendingCommit = false ∧ (s.asm (asmKey 0 0)).lastFs = none) ∧
    (let s := camera 47 1 State.reset
     Inv s ∧ (s.asm (asmKey 47 0)).st = 1 ∧ entExp s 47 0 = 0 ∧ entStream s 47 0 < 48 ∧ (s.hdr (portBlk 47) (portInst 47)).pendingCommit = false ∧ (s.asm (asmKey 47 0)).armed = false) :=
  ⟨⟨inv_of_test (by decide +kernel), by decide +kernel⟩, ⟨inv_of_test (by decide +kernel), by decide +kernel⟩⟩

theorem witness_FramesEndAndSettle :
    (let s := camera 39 2 State.reset
     Inv s ∧ (s.asm (asmKey 39 0)).st = 2 ∧ (s.asm (asmKey 39 0)).lastLine + ent s 39 0 Reg.camp_ENT_TIMING_TIMEOUT_LINES Reg.cams_ENT_TIMING_TIMEOUT_LINES * lineRef s 39 0 ≤ secT 1) ∧
    (let s := camera 39 3 State.reset
     Inv s ∧ (s.asm (asmKey 39 0)).st = 3 ∧ (s.asm (asmKey 39 0)).held = none ∧ entExp s 39 0 = 0 ∧ entStream s 39 0 < 48 ∧ (s.hdr (portBlk 39) (portInst 39)).pendingCommit = false ∧
      (settleStamp s 39 0 (s.asm (asmKey 39 0))).1 < 2) :=
  ⟨⟨inv_of_test (by decide +kernel), by decide +kernel⟩, ⟨inv_of_test (by decide +kernel), by decide +kernel⟩⟩

theorem witness_LinesAndPortEvents :
    (let s := camera 0 2 State.reset
     Inv s ∧ (s.asm (asmKey 0 0)).st = 2 ∧ isStampLine s 0 (s.asm (asmKey 0 0)) = false ∧ (s.asm (asmKey 0 0)).lines < entHeight s 0 0 ∧ lineBad s 0 0 0 true 0 = true ∧ lineBad s 0 0 (entWidth s 0 0) false 0 = false) ∧
    (let s := camera 39 1 State.reset
     Inv s ∧ (s.asm 39).st ≠ 0 ∧ 300 ≤ 300 ∧ 300 < s.get 39 Reg.camp_PCLK_CFG_MIN_PERIOD_PS) ∧
    (let s := camera 47 1 State.reset
     Inv s ∧ (s.asm (asmKey 47 0)).st ≠ 0 ∧ (s.asm (asmKey 47 0)).noFrame = false ∧ ent s 47 0 Reg.camp_ENT_WATCH_FRAME_TIMEOUT_MS Reg.cams_ENT_WATCH_FRAME_TIMEOUT_MS ≠ 0 ∧
      (s.asm (asmKey 47 0)).watch + msT (ent s 47 0 Reg.camp_ENT_WATCH_FRAME_TIMEOUT_MS Reg.cams_ENT_WATCH_FRAME_TIMEOUT_MS) ≤ secT 100) ∧
    (let s := State.reset
     Inv s ∧ (portEntries 40).find? (fun e => entValid s 40 e && s.get 0 (Reg.cams_ENT_MAP_VC.at (0x40 * e)) == 31) = none) ∧
    (let s := camera 47 2 State.reset
     Inv s ∧ (portEntries 47).find? (fun e => entValid s 47 e && s.get 7 (Reg.cams_ENT_MAP_VC.at (0x40 * e)) == 0) = some 0 ∧ (s.asm (asmKey 47 0)).st = 2 ∧ entExp s 47 0 = 0) ∧
    (let s := State.reset.set 7 Reg.cams_PHY_CFG_MODE 1
     Inv s ∧ s.get 7 Reg.cams_PHY_CFG_MODE ≠ 0 ∧ 15 < 16) ∧
    (let s := (State.reset.set 7 Reg.cams_PHY_CFG_MODE 1).set 7 Reg.cams_PHY_CFG_DESKEW 1
     Inv s ∧ s.get 7 Reg.cams_PHY_CFG_MODE = 1 ∧ s.get 7 Reg.cams_PHY_CFG_DESKEW = 1) ∧
    (let s := go (.frameStart 40 0 9 false 5) (((((camera 40 1 State.reset).set 0 (Reg.cams_ENT_MAP_VALID.at 0x40) 1).set 0 (Reg.cams_ENT_MAP_STREAM.at 0x40) 3).set 0 (Reg.cams_ENT_MAP_EXP.at 0x40) 1).set 3 Reg.strm_ADMIT_RATE_EXPOSURES 2)
     Inv s ∧ (portEntries 40).find? (fun q => entValid s 40 q && entStream s 40 q == 3 && entExp s 40 q == 0) = some 0 ∧ entExp s 40 1 = 1 ∧ entValid s 40 1 = true ∧ entStream s 40 1 = 3 ∧
      (findFrame s 3 (s.asm (asmKey 40 0)).frameNo).map (fun x => (x.joined.contains 1, x.done.getD 1 true)) = some (false, false) ∧ (s.asm (asmKey 40 0)).lastFs.getD 0 + s.get 0 Reg.cams_HDR_CFG_WINDOW * lineRef s 40 0 ≤ secT 1) :=
  ⟨⟨inv_of_test (by decide +kernel), by decide +kernel⟩, ⟨inv_of_test (by decide +kernel), by decide +kernel⟩, ⟨inv_of_test (by decide +kernel), by decide +kernel⟩, ⟨inv_of_test (by decide +kernel), by decide +kernel⟩, ⟨inv_of_test (by decide +kernel), by decide +kernel⟩, ⟨inv_of_test (by decide +kernel), by decide +kernel⟩, ⟨inv_of_test (by decide +kernel), by decide +kernel⟩, ⟨inv_of_test (by decide +kernel), by decide +kernel⟩⟩

/-! ### Camera control -/

/-- Control port `n` in state `st` with profile 15, which is valid. -/
def control (n st : Nat) (c : Ctl) (s : State) : State :=
  let s := (s.set n Reg.cctl_CFG_PROFILE 15).set 0 Reg.sec_PROFILE_VALID_PROFILE 0x8000
  let s := { s with profiles := Tbl.put Profile.empty 15 { Profile.empty with latL := 2, latG := 2, globalShutter := true } s.profiles }
  (s.setCtl n c).setState .cctl n st

/-- A command, a set, and a bus operation. -/
def cmd0 : CtlCmd := { tag := 1, mask := 1, target := 2, exps := [0, 0, 0], again := 0, dgain := 0, wb := [] }
def op0 : BusOp := { kind := .xfer, set := 0, delayMs := 0, retried := false }

theorem witness_ControlPortsRun :
    (let s := control 47 0 Ctl.reset State.reset
     Inv s ∧ accessCode s .keeper .cctl 47 0x04 1 = 0 ∧ s.stateOf .cctl 47 = 0 ∧ profileValid s (s.get 47 Reg.cctl_CFG_PROFILE) = true ∧ (ctlProfile s 47).globalShutter = true) ∧
    (let s := control 47 1 Ctl.reset State.reset
     Inv s ∧ s.stateOf .cctl 47 = 1 ∧ (s.ctl 47).delaying = false ∧ (s.ctl 47).ops.any (fun o => o.kind == .seqStart) = false) ∧
    (let s := control 47 4 Ctl.reset State.reset
     Inv s ∧ s.stateOf .cctl 47 = 4 ∧ accessCode s .keeper .cctl 47 0x04 1 = 0) ∧
    (let s := control 47 2 { Ctl.reset with queue := [cmd0] } State.reset
     Inv s ∧ s.stateOf .cctl 47 = 2 ∧ (s.ctl 47).results = [] ∧ (s.ctl 47).sets = []) ∧
    (let s := control 47 3 Ctl.reset State.reset
     Inv s ∧ s.stateOf .cctl 47 = 3 ∧ (s.ctl 47).ops = [] ∧ (s.ctl 47).delaying = false) ∧
    (let s := control 47 2 { Ctl.reset with ops := [op0] } State.reset
     Inv s ∧ (s.ctl 47).ops = op0 :: [] ∧ (s.ctl 47).delaying = false ∧ op0.retried = false ∧ op0.kind = .xfer) ∧
    (let s := control 47 1 { Ctl.reset with ops := [{ op0 with retried := true, kind := .seqStart }] } State.reset
     Inv s ∧ (s.ctl 47).ops = { op0 with retried := true, kind := .seqStart } :: [] ∧ (s.ctl 47).delaying = false ∧ s.stateOf .cctl 47 = 1) ∧
    (let s := control 47 2 { Ctl.reset with window := true } State.reset
     Inv s ∧ accessCode s .keeper .cctl 47 0x90 1 = 0 ∧ s.get 47 Reg.cctl_XFER_STATUS_BUSY = 0 ∧ s.stateOf .cctl 47 = 2 ∧ svBlocks s 47 = false) ∧
    (let s := control 0 2 { Ctl.reset with xferEnd := some (7, []) } State.reset
     Inv s ∧ (s.ctl 0).xferEnd = some (7, []) ∧ 7 < 8) :=
  ⟨⟨inv_of_test (by decide +kernel), by decide +kernel⟩, ⟨inv_of_test (by decide +kernel), by decide +kernel⟩, ⟨inv_of_test (by decide +kernel), by decide +kernel⟩, ⟨inv_of_test (by decide +kernel), by decide +kernel⟩, ⟨inv_of_test (by decide +kernel), by decide +kernel⟩, ⟨inv_of_test (by decide +kernel), by decide +kernel⟩, ⟨inv_of_test (by decide +kernel), by decide +kernel⟩, ⟨inv_of_test (by decide +kernel), by decide +kernel⟩, ⟨inv_of_test (by decide +kernel), by decide +kernel⟩⟩

theorem witness_SensorCommandsAndTriggers :
    (let s := control 47 2 Ctl.reset State.reset
     Inv s ∧ accessCode s .keeper .cctl 47 0x64 1 = 0 ∧ s.stateOf .cctl 47 = 2 ∧ svBlocks s 47 = false ∧ (s.ctl 47).queue.length < 8 ∧ accessCode s .keeper .cctl 47 0x78 1 = 0 ∧ accessCode s .keeper .cctl 47 0x80 1 = 0) ∧
    (let s := control 47 2 { Ctl.reset with queue := List.replicate 8 cmd0 } State.reset
     Inv s ∧ accessCode s .keeper .cctl 47 0x64 1 = 0 ∧ s.stateOf .cctl 47 = 2 ∧ svBlocks s 47 = false ∧ 8 ≤ (s.ctl 47).queue.length) ∧
    (let s := control 47 2 { Ctl.reset with window := true, xferWaiting := true, ops := [{ op0 with kind := .exposure }] } State.reset
     Inv s ∧ (s.ctl 47).window = true ∧ (s.ctl 47).xferWaiting = true ∧ (s.ctl 47).ops = [{ op0 with kind := .exposure }]) :=
  ⟨⟨inv_of_test (by decide +kernel), by decide +kernel⟩, ⟨inv_of_test (by decide +kernel), by decide +kernel⟩, ⟨inv_of_test (by decide +kernel), by decide +kernel⟩⟩

theorem witness_SensorCommandsAndTriggers_window :
    let time := Config.busTime 0 400
    let p : Profile := { Profile.empty with latL := 2, latG := 2, safeEndUs := time 0 0 + time 1 0 }
    let c : Ctl := { Ctl.reset with queue := [cmd0] }
    let land := (c.frame + p.latL) % 2 ^ 32
    let due := c.queue.filter (fun q => decide (0 ≤ frameDiff land q.target))
    let exposures := (List.range 3).map (fun k => lastSetting due k (fun q => linesOf p (q.exps.getD k 0)))
    land = 2 ∧ due ≠ [] ∧ (exposures.filter (fun l => l.isSome)).length = 1 ∧ (c.sets.filter (fun x => x.gainAt == some c.frame)).length = 0 ∧
      time 0 0 + time 1 0 ≤ 1000 * (p.safeEndUs - p.safeStartUs) := by
  refine ⟨by decide, by decide, by decide, by decide, ?_⟩
  show _ ≤ 1000 * ((Config.busTime 0 400 0 0 + Config.busTime 0 400 1 0) - 0)
  omega

/-! ### The Shuttle and the benches -/

theorem witness_BenchesTakeRows :
    (let s := (withFrame 47 frame0 State.reset).setBench 5 { Bench.reset with run := some 0, next := some (47, false) }
     Inv s ∧ (s.bench 5).next = some (47, false) ∧ (s.bench 5).run ≠ none) ∧
    (let s := (withFrame 47 frame0 State.reset).setBench 5 { Bench.reset with next := some (47, false) }
     Inv s ∧ (s.bench 5).next = some (47, false) ∧ (s.bench 5).run = none ∧ (firstFrame s 47).isSome) ∧
    (let s := (withFrame 47 frame0 State.reset).setBench 5 { Bench.reset with run := some 47, left := 1 }
     Inv s ∧ (s.bench 5).row0 = none ∧ (s.bench 5).run = some 47 ∧ (firstFrame s 47).isSome ∧ (s.bench 5).left = 0 + 1) ∧
    (let s := (enabled .strm 47 ((((withFrame 47 frame0 State.reset).set 47 Reg.strm_SCHED_CLASS 0).set 47 Reg.strm_SCHED_AFFINITY 1).set 47 Reg.strm_SCHED_BENCH 5)).setBench 5 { Bench.reset with row0 := some (1, 15) }
     Inv s ∧ (s.bench 5).row0 = some (1, 15) ∧ pinnedStream s 5 = some 47 ∧ (findFrame s 47 1).isSome) ∧
    (let s := (enabled .strm 47 ((((withFrame 47 frame0 State.reset).set 47 Reg.strm_SCHED_CLASS 0).set 47 Reg.strm_SCHED_AFFINITY 1).set 47 Reg.strm_SCHED_BENCH 5)).setBench 5 { Bench.reset with fifo := [(1, 0)] }
     Inv s ∧ (s.bench 5).row0 = none ∧ (s.bench 5).fifo = (1, 0) :: [] ∧ pinnedStream s 5 = some 47 ∧ (s.hdr .strm 47).pendingCommit = false) :=
  ⟨⟨inv_of_test (by decide +kernel), by decide +kernel⟩, ⟨inv_of_test (by decide +kernel), by decide +kernel⟩, ⟨inv_of_test (by decide +kernel), by decide +kernel⟩, ⟨inv_of_test (by decide +kernel), by decide +kernel⟩, ⟨inv_of_test (by decide +kernel), by decide +kernel⟩⟩

theorem witness_StripesComplete :
    (let s := (withFrame 47 { frame0 with inDram := [(rowKey 0 15, 1)] } State.reset).setBench 5 { Bench.reset with run := some 47 }
     Inv s ∧ (s.bench 5).run = some 47 ∧ (firstFrame s 47).map (fun x => (Tbl.sorted x.rows, Tbl.sorted x.inDram, Tbl.get 0 x.inDram (rowKey 0 15))) = some (true, true, 1) ∧ Tbl.get 0 s.stageIdx (slotAt s 47 0 0) = 0) ∧
    (let s := { (withFrame 47 { frame0 with inDram := [(rowKey 0 15, 1)] } State.reset).setBench 5 { Bench.reset with run := some 47 } with poison := [0] }
     Inv s ∧ (dramRead 0 (slotAt s 47 0 0) 16 s).2.1 = true) ∧
    (let s := (withFrame 47 frame0 State.reset).setBench 5 { Bench.reset with run := some 47 }
     Inv s ∧ (s.bench 5).run = some 47 ∧ (s.bench 5).left = 0 ∧ ((deadline s 47).map (fun x => (x.1.doomed, x.2))).isSome ∧ stripeLines s 47 * (0 + 1) < 32 ∧ (firstFrame s 47).map (fun x => frameRows s 47 x) = some 32) ∧
    (let s := (withFrame 47 { frame0 with doomed := 1 } State.reset).setBench 5 { Bench.reset with run := some 47 }
     Inv s ∧ (deadline s 47).map (fun x => x.1.doomed) = some 1) ∧
    (let s := (withFrame 47 frame0 State.reset)
     Inv s ∧ (deadline s 47).map (fun x => (x.1.doomed, decide (x.2 + slackOf s 47 ≤ secT 1))) = some (0, true) ∧ streamClass s 47 ≠ 0 ∧ runningOn s 47 = none) ∧
    (let s := (withFrame 47 frame0 State.reset).setBench 5 { Bench.reset with run := some 47 }
     Inv s ∧ (deadline s 47).map (fun x => x.1.started) = some true ∧ runningOn s 47 ≠ none) :=
  ⟨⟨inv_of_test (by decide +kernel), by decide +kernel⟩, ⟨inv_of_test (by decide +kernel), by decide +kernel⟩, ⟨inv_of_test (by decide +kernel), by decide +kernel⟩, ⟨inv_of_test (by decide +kernel), by decide +kernel⟩, ⟨inv_of_test (by decide +kernel), by decide +kernel⟩, ⟨inv_of_test (by decide +kernel), by decide +kernel⟩⟩

/-! ### LUT slots and records -/

/-- Statistics of slot 0, to be written at address 0. -/
def stat0 : StatOut :=
  { slot := 0, addr := 0, par := { en := true, width := 16, height := 32, x0 := 0, y0 := 0, w := 16, h := 32, logMin := 0, rowGroup := 1, dark := 0 },
    acc := StatAcc.zero, ruleState := 0, ruleChanged := 0 }

theorem witness_LutSlotsAndRecords :
    (let s := State.reset
     Inv s ∧ accessCode s .keeper .lutm 0 0x4C 1 = 0 ∧ lutRefused s 63 = false ∧ accessCode s .keeper .lutm 0 0x40 1 = 0 ∧ partitionRefused s 255 = false) ∧
    (let s := setLutValid 63 true (State.reset.set 0 Reg.lutm_PARTITION_LARGE 0)
     Inv s ∧ accessCode s .keeper .lutm 0 0x40 1 = 0 ∧ partitionRefused s 0x80 = true) ∧
    (let s := State.reset.set 0 Reg.lutm_LOAD_STATUS_BUSY 1
     Inv s ∧ lutRefused s 63 = true ∧ s.get 0 Reg.lutm_LOAD_STATUS_BUSY = 1 ∧ (dramRead 0 0 (8 * 33 * 33 * 33) s).2.1 = true) ∧
    (let s := ram (State.reset.set 0 Reg.lutm_LOAD_STATUS_BUSY 1)
     Inv s ∧ s.get 0 Reg.lutm_LOAD_STATUS_BUSY = 1 ∧ (dramRead 0 0 (8 * 33 * 33 * 33) s).2.1 = false) ∧
    (let s := withFrame 47 { frame0 with grid := some [1] } State.reset
     Inv s ∧ ((s.strm 47).frames.find? (fun x => x.grid.isSome)).map (·.grid) = some (some [1])) ∧
    (let s := withFrame 47 { frame0 with stat := some stat0 } State.reset
     Inv s ∧ ((s.strm 47).frames.find? (fun x => x.stat.isSome && x.closed != 0)).map (·.stat) = some (some stat0) ∧ stat0.slot = s.get 47 Reg.strm_STAT_RING_WR_INDEX ∧ stat0.addr = statSlotAt s 47 0) ∧
    (let s := withFrame 47 { frame0 with tapsDone := [(3, 4095)] } State.reset
     Inv s ∧ ((s.strm 47).frames.find? (fun x => x.closed != 0 && x.tapsDone.any (fun d => d.1 == 3))).map (fun x => x.tapsDone.find? (fun d => d.1 == 3)) = some (some (3, 4095))) ∧
    (let s := State.reset.set 0 (Reg.evt_PIN_CFG_TIMEOUT_MS.at 28) 1
     Inv s ∧ s.get 0 (Reg.evt_PIN_CFG_TIMEOUT_MS.at (4 * 7)) ≠ 0 ∧ getBit (s.get 0 Reg.evt_PIN_STATE_FAILSAFE) 7 = false) :=
  ⟨⟨inv_of_test (by decide +kernel), by decide +kernel⟩, ⟨inv_of_test (by decide +kernel), by decide +kernel⟩, ⟨inv_of_test (by decide +kernel), by decide +kernel⟩, ⟨inv_of_test (by decide +kernel), by decide +kernel⟩, ⟨inv_of_test (by decide +kernel), by decide +kernel⟩, ⟨inv_of_test (by decide +kernel), by decide +kernel⟩, ⟨inv_of_test (by decide +kernel), by decide +kernel⟩, ⟨inv_of_test (by decide +kernel), by decide +kernel⟩⟩

/-! ### Raw codec engines -/

/-- A segment with its one row. -/
def seg0 : ZSeg :=
  { stream := 47, stripe := 0, frameNo := 1, firstRow := 0, rowCount := 1, exp := 0, mode := 0, bits := 10, width := 4, reserve := 64,
    wrapped := false, rows := [[1, 2, 3, 4]], last := true }

theorem witness_RawJobsAndSegments :
    (let s := State.reset.set 3 Reg.zraw_JOB_RING_SLOTS 4095
     Inv s ∧ accessCode s .keeper .zraw 3 0x64 1 = 0 ∧ 4094 < s.get 3 Reg.zraw_JOB_RING_SLOTS ∧ s.get 3 Reg.zraw_JOB_RING_SLOTS ≤ 4095) ∧
    (let s := enabled .zraw 3 (((holding 0 [3#8] State.reset).set 3 Reg.zraw_CFG_JOB_EN 1).set 3 Reg.zraw_JOB_TAIL_INDEX 1)
     Inv s ∧ s.enabled .zraw 3 = true ∧ s.get 3 Reg.zraw_CFG_JOB_EN = 1 ∧ s.get 3 Reg.zraw_JOB_HEAD_INDEX ≠ s.get 3 Reg.zraw_JOB_TAIL_INDEX ∧ (Job.read (memBytes s.dram 0 64)).op = 3 ∧ rangePoisoned s 0 64 = false ∧ 0 + 64 ≤ dramCapacity s) ∧
    (let s := (withFrame 47 frame0 State.reset).setZraw 3 { Zraw.reset with segs := [seg0] }
     Inv s ∧ (s.zraw 3).segs = [seg0] ∧ seg0.rowCount ≤ seg0.rows.length ∧ seg0.last = true ∧ (findFrame s 47 1).all (fun x => x.closed != 0) = true) :=
  ⟨⟨inv_of_test (by decide +kernel), by decide +kernel⟩, ⟨inv_of_test (by decide +kernel), by decide +kernel⟩, ⟨inv_of_test (by decide +kernel), by decide +kernel⟩⟩

/-! ### Encoders -/

/-- A picture of which every source row is in. -/
def pic0 : EncPic :=
  { stream := 0, frameNo := 1, poc := 0, slotNo := 0, slot := EncSlot.zero, recovery := false, idr := true, cycle := none, stored := false,
    rowsIn := 128, coded := 0, qp := 30, capped := false, flooring := false, floored := 0, spent := 0, slices := [], released := 0,
    bits := 0, hard := none, readyAt := [] }

/-- Context 127 in a state, with a picture of 64 x `h` samples. -/
def encoding (st h : Nat) (p : EncPic) (s : State) : State :=
  (cset 127 Reg.enc_CTX_GEOM_WIDTH 64 (cset 127 Reg.enc_CTX_GEOM_HEIGHT h (cset 127 Reg.enc_CTX_STATUS_STATE st s))).setEnc 127
    { EncCtx.reset with pics := [p] }

theorem witness_EncodersCode :
    (let s := cset 127 Reg.enc_CTX_CFG_SLICE_CTU_ROWS 2 (encoding 2 128 pic0 State.reset)
     Inv s ∧ cget s 127 Reg.enc_CTX_STATUS_STATE = 2 ∧ (s.enc 127).pics.find? (fun p => !p.stored) = some pic0 ∧ codingSlice s 127 0 pic0 = some 0 ∧ pic0.released = 0 ∧ min (cget s 127 Reg.enc_CTX_GEOM_HEIGHT) ((0 * sliceRows s 127 + 0 + 1) * ctuSize s 127) ≤ pic0.rowsIn ∧
      0 + 1 < min (sliceRows s 127) (ctuRows s 127 - 0 * sliceRows s 127)) ∧
    (let s := cset 127 Reg.enc_CTX_CFG_SLICE_CTU_ROWS 1 (encoding 2 128 pic0 State.reset)
     Inv s ∧ codingSlice s 127 0 pic0 = some 0 ∧ 0 + 1 = min (sliceRows s 127) (ctuRows s 127 - 0 * sliceRows s 127) ∧ 0 + 1 < sliceCount s 127 ∧ pic0.slices.find? (fun e => e.1 == 0 + 1) = none) ∧
    (let s := cset 127 Reg.enc_CTX_OUT_SIZE_KIB 1 (encoding 3 128 pic0 State.reset)
     Inv s ∧ accessCode s .keeper .enc 3 (0x1134 + ctxOff 31) 1 = 0 ∧ pktOwns s 0 127 = false ∧ 15 < 16 * cget s 127 Reg.enc_CTX_OUT_SIZE_KIB ∧ 16 * cget s 127 Reg.enc_CTX_OUT_SIZE_KIB ≤ 16 ∧ cget s 127 Reg.enc_CTX_STATUS_STATE = 3 ∧ (s.enc 127).pics.find? (fun p => !p.stored) = some pic0 ∧ pic0.slices.find? (fun e => e.1 == pic0.released) = none) ∧
    (let s := State.reset
     Inv s ∧ accessCode s .keeper .enc 3 0x40 1 = 0 ∧ (windowCtxs 3 ++ windowCtxs 2).any (contextOn s) = false) ∧
    (let s := cset 127 Reg.enc_CTX_CFG_EN 1 State.reset
     Inv s ∧ accessCode s .keeper .enc 2 0x40 1 = 0 ∧ (windowCtxs 2 ++ windowCtxs 3).any (contextOn s) = true) :=
  ⟨⟨inv_of_test (by decide +kernel), by decide +kernel⟩, ⟨inv_of_test (by decide +kernel), by decide +kernel⟩, ⟨inv_of_test (by decide +kernel), by decide +kernel⟩, ⟨inv_of_test (by decide +kernel), by decide +kernel⟩, ⟨inv_of_test (by decide +kernel), by decide +kernel⟩⟩

/-! ### Decoders -/

/-- A good first slice of an IDR picture of 64 x 64 samples, and a slice that fails to parse. -/
def slice0 : SliceHdr :=
  { broken := 0, parse := 0, first := true, irap := true, tools := true, width := 64, height := 64, window := (0, 0, 64, 64), chroma := 1,
    ten := false, ctu := 64, need := 1, reorder := 0, prior := 0, poc := 0, num := 0, numMod := 0, recovery := none, nonRef := false,
    noOutput := false, addr := 0, refs := [], marks := [] }

/-- A record whose payload is one IDR slice of HEVC. -/
def record0 : List Byte :=
  bytesLE 4 1 ++ bytesLE 4 8 ++ List.replicate 56 0 ++ [0#8, 0#8, 1#8, 0x26#8, 1#8, 2#8, 3#8, 4#8]

/-- Context 63 in a state, with its 1 KiB ring at address 0 and that record in it. -/
def ring63 (st : Nat) (x : DecCtx) (s : State) : State :=
  let s := dset 63 Reg.dec_CTX_IN_SIZE_KIB 1 (dset 63 Reg.dec_CTX_IN_WR_OFFSET 2 (dset 63 Reg.dec_CTX_STATUS_STATE st (holding 0 record0 s)))
  let s := dset 63 Reg.dec_CTX_CFG_DPB_SLOTS 2 (dset 63 Reg.dec_CTX_MAX_GEOM_WIDTH 64 (dset 63 Reg.dec_CTX_MAX_GEOM_HEIGHT 64 s))
  s.setDec 63 x

/-- A buffer of 64 x 64 samples at address 4096 that is on the free list 0. -/
def pooled (s : State) : State := setFreeList 0 [7] (s.setBuf 7 { Buf.reset with addr := 4096, pitch := 1, width := 64, height := 64 })

def decPic0 : DecPic :=
  { hdr := slice0, entry := some 0, tk := Ticket.zero, next := 0, count := 0, damaged := false, poisoned := false, missed := [] }

def decEntry0 : DecEntry :=
  { desc := 7, poc := 0, short := false, long := false, pending := false, concealed := false, owned := true, whole := false,
    tk := Ticket.zero, window := (0, 0, 64, 64) }

theorem witness_DecodersRun :
    (let s := dset 63 Reg.dec_CTX_CFG_SRC 0 (dset 63 Reg.dec_CTX_IN_SIZE_KIB 1 State.reset)
     Inv s ∧ accessCode s .keeper .dec 1 (0x1100 + ctxOff 31) 1 = 0 ∧ dget s 63 Reg.dec_CTX_CFG_EN = 0 ∧ (∀ e : Fin 2, (findRow (0x1100 + ctxOff 31) (regRows .dec)).all (fun r => rowInRange r.1 (BitVec.ofNat 32 (wordWith s 1 (Reg.dec_CTX_CFG_EN.at (ctxOff 31)) e.val))) = true ∧
      crossRange s .dec 1 (0x1100 + ctxOff 31) (BitVec.ofNat 32 (wordWith s 1 (Reg.dec_CTX_CFG_EN.at (ctxOff 31)) e.val)) = false) ∧ accessCode s .keeper .dec 1 (0x1114 + ctxOff 31) 1 = 0 ∧ dget s 63 Reg.dec_CTX_CFG_SRC = 0 ∧ 15 < inUnits s 63 ∧ inUnits s 63 ≤ 16) ∧
    (let s := dset 63 Reg.dec_CTX_CFG_EN 1 State.reset
     Inv s ∧ dget s 63 Reg.dec_CTX_CFG_EN = 1 ∧ accessCode s .keeper .dec 1 (0x1100 + ctxOff 31) 1 = 0 ∧ (∀ e : Fin 2, (findRow (0x1100 + ctxOff 31) (regRows .dec)).all (fun r => rowInRange r.1 (BitVec.ofNat 32 (wordWith s 1 (Reg.dec_CTX_CFG_EN.at (ctxOff 31)) e.val))) = true ∧
      crossRange s .dec 1 (0x1100 + ctxOff 31) (BitVec.ofNat 32 (wordWith s 1 (Reg.dec_CTX_CFG_EN.at (ctxOff 31)) e.val)) = false)) ∧
    (let s := dset 63 Reg.dec_CTX_CFG_SRC 1 State.reset
     Inv s ∧ dget s 63 Reg.dec_CTX_CFG_SRC = 1 ∧ accessCode s .keeper .dec 1 (0x1114 + ctxOff 31) 1 = 0) ∧
    (let s := pooled (ring63 1 DecCtx.reset State.reset)
     Inv s ∧ sliceTurn s 63 = true ∧ (let w := walk 63 (walkFuel s 63) (s.at 5); w.1.isSome = true ∧ slice0.parse = 0 ∧ slice0.first = true ∧ slice0.irap = true ∧ slice0.prior = 0 ∧ slice0.refs = [] ∧ (w.2.dec 63).pic = none ∧
      breaksProfile w.2 63 slice0 = false ∧ breaksLimits w.2 63 slice0 = false ∧ freeEntry w.2 63 = some 0 ∧ (freeList w.2 (dget w.2 63 Reg.dec_CTX_CFG_OUT_LIST)).head? = some 7 ∧ (w.2.buf 7).width = slice0.width ∧ (w.2.buf 7).height = slice0.height ∧ (w.2.buf 7).fmt = hdrFormat slice0)) ∧
    (let s := dset 63 Reg.dec_CTX_TIMING_MAX_LAG_MS 0 (ring63 3 { DecCtx.reset with pic := some decPic0, dpb := [(0, some decEntry0)] } State.reset)
     Inv s ∧ sliceTurn s 63 = true ∧ (let w := walk 63 (walkFuel s 63) (s.at 5); w.1.isSome = true ∧ decState w.2 63 ≠ 1 ∧ ((w.2.dec 63).pic.bind (·.entry)).isSome = true)) ∧
    (let s := State.reset.setDec 63 { DecCtx.reset with slice := some slice0, pic := some decPic0, dpb := [(0, some decEntry0)] }
     Inv s ∧ (s.dec 63).slice = some slice0 ∧ (s.dec 63).pic = some decPic0 ∧ decPic0.entry.bind (dpbEntry s 63) = some decEntry0) ∧
    (let s := dset 63 Reg.dec_CTX_STATUS_PLI_WANTED 1 State.reset
     Inv s ∧ dget s 63 Reg.dec_CTX_STATUS_PLI_WANTED = 1 ∧ (s.dec 63).pliAt + msT (dget s 63 Reg.dec_CTX_TIMING_PLI_RETRY_MS) ≤ secT 100) :=
  ⟨⟨inv_of_test (by decide +kernel), by decide +kernel⟩, ⟨inv_of_test (by decide +kernel), by decide +kernel⟩, ⟨inv_of_test (by decide +kernel), by decide +kernel⟩, ⟨inv_of_test (by decide +kernel), by decide +kernel⟩, ⟨inv_of_test (by decide +kernel), by decide +kernel⟩, ⟨inv_of_test (by decide +kernel), by decide +kernel⟩, ⟨inv_of_test (by decide +kernel), by decide +kernel⟩⟩

/-! ### The buffer pool and the heads -/

/-- Head 3 in a state, in service. -/
def headIn (st : Nat) (x : Head) (s : State) : State := ((enabled .head 3 s).setState .head 3 st).setHead 3 x

/-- The copy of DESC_* of KEEPER describes a good buffer of 64 x 64 samples. -/
def described (s : State) : State := setPoolCopy 5 0x50 (64 + 65536 * 64) (setPoolCopy 5 0x54 256 s)

theorem witness_PoolCommands :
    (let s := setFreeList 63 [4095] State.reset
     Inv s ∧ Tbl.wf 0 s.pool.copies = true ∧ accessCode s .keeper .bpool 0 0x40 1 = 0 ∧ freeList s 63 = 4095 :: [] ∧ freeList s 62 = []) ∧
    (let s := State.reset.setBuf 4095 { Buf.reset with owner := 3, st := 1 }
     Inv s ∧ Tbl.wf 0 s.pool.copies = true ∧ (s.buf 4095).owner = 3 ∧ (s.buf 4095).st = 1 ∧ (s.buf 4095).fetchers = [] ∧ (s.buf 4095).decClaims = 0 ∧ ¬((s.buf 0).owner = 3 ∧ (s.buf 0).st = 1) ∧ (s.buf 0).owner ≠ 3 ∧ (s.buf 0).st = 0 ∧ (copyBuf s 5).good = false) ∧
    (let s := State.reset.setBuf 4095 { Buf.reset with owner := 3, st := 2, fetchers := [63] }
     Inv s ∧ (s.buf 4095).owner = 3 ∧ (s.buf 4095).fetchers ≠ [] ∧ (s.buf 4095).st ≠ 0) ∧
    (let s := described State.reset
     Inv s ∧ Tbl.wf 0 s.pool.copies = true ∧ accessCode s .keeper .bpool 0 0x40 1 = 0 ∧ (s.buf 4095).st = 0 ∧ (copyBuf s Origin.keeper.code).good = true) :=
  ⟨⟨inv_of_test (by decide +kernel), by decide +kernel⟩, ⟨inv_of_test (by decide +kernel), by decide +kernel⟩, ⟨inv_of_test (by decide +kernel), by decide +kernel⟩, ⟨inv_of_test (by decide +kernel), by decide +kernel⟩⟩

theorem witness_HeadsRefreshAndLock :
    (let s := headIn 1 Head.reset State.reset
     Inv s ∧ headRuns s 3 = true ∧ (s.head 3).blank = true) ∧
    (let s := headIn 1 { Head.reset with blank := false, line := 0 } (enabled .dpo 7 (((State.reset.setState .dpo 7 3)).set 7 Reg.dpo_CFG_HEAD 3))
     Inv s ∧ headRuns s 3 = true ∧ (s.head 3).blank = false ∧ (s.head 3).line ≤ 0 ∧ 0 < s.get 3 Reg.head_V_TIMING_V_ACTIVE ∧ 0 < s.get 3 Reg.head_H_TIMING_H_ACTIVE ∧ (s.hdr .head 3).pendingCommit = false ∧
      (clonesOf s 3).filter (fun p => s.stateOf .dpo p == 3) = [7]) ∧
    (let s := headIn 2 { Head.reset with lastTarget := some 0 } (State.reset.set 3 Reg.head_REF_CFG_MODE 3)
     Inv s ∧ headRuns s 3 = true ∧ s.get 3 Reg.head_REF_CFG_MODE ≠ 0 ∧ (s.head 3).lastTarget = some 0 ∧ s.stateOf .head 3 ≠ 4 ∧ s.get 3 Reg.head_REF_CFG_MODE = 3) ∧
    (let s := headIn 2 { Head.reset with lastTarget := some 0 } (State.reset.set 3 Reg.head_REF_CFG_MODE 1)
     Inv s ∧ 2 * ((1 : Int) - 0) < linesTime s 3 (s.get 3 Reg.head_REF_CFG_DIV * s.get 3 Reg.head_V_TIMING_V_TOTAL : Nat)) ∧
    (let s := headIn 2 { Head.reset with good := 3, base := secT 1 } (State.reset.set 3 Reg.head_REF_CFG_MODE 1)
     Inv s ∧ (s.head 3).lastTarget = none ∧ s.stateOf .head 3 = 2 ∧ (phaseError s 3 (secT 1)).natAbs ≤ nsT 500 ∧ 3 ≤ (s.head 3).good ∧ nsT 500 < (phaseError s 3 (secT 2)).natAbs) ∧
    (let s := headIn 3 { Head.reset with good := 3, base := secT 1 } (State.reset.set 3 Reg.head_REF_CFG_MODE 1)
     Inv s ∧ s.stateOf .head 3 = 3 ∧ (phaseError s 3 (secT 1)).natAbs ≤ nsT 2000 ∧ nsT 2000 < (phaseError s 3 (secT 2)).natAbs) :=
  ⟨⟨inv_of_test (by decide +kernel), by decide +kernel⟩, ⟨inv_of_test (by decide +kernel), by decide +kernel⟩, ⟨inv_of_test (by decide +kernel), by decide +kernel⟩, ⟨inv_of_test (by decide +kernel), by decide +kernel⟩, ⟨inv_of_test (by decide +kernel), by decide +kernel⟩, ⟨inv_of_test (by decide +kernel), by decide +kernel⟩⟩

/-- Head 3 with a commit pending, and one whose layer 48 waits for the buffer it names. -/
def committing (s : State) : State := hd .head 3 (fun h => { h with pendingCommit := true, checked := true, outcome := 1 }) s
def unready : State :=
  committing (((State.reset.setS 48 Reg.layer_CFG_EN 1).setS 48 Reg.layer_CFG_SRC 7).setBuf 7
    { Buf.reset with addr := 4096, pitch := 1, width := 64, height := 64, st := 1, owner := 3 })

theorem witness_HeadCommitsEvaluated :
    (let s := committing (State.reset.setS 3 Reg.head_H_TIMING_H_TOTAL 0)
     Inv s ∧ (s.hdr .head 3).pendingCommit = true ∧ checkHead (readTables 3 s) 3 = some (6, 0)) ∧
    (let s := committing State.reset
     Inv s ∧ (s.hdr .head 3).pendingCommit = true ∧ checkHead (readTables 3 s) 3 = none ∧ notReady (readTables 3 s) 3 = .inr []) ∧
    (let s := unready
     Inv s ∧ (s.hdr .head 3).pendingCommit = true ∧ checkHead (readTables 3 s) 3 = none ∧ notReady (readTables 3 s) 3 = .inr (48 :: []) ∧ (s.head 3).defers < 1) ∧
    (let s := (unready.set 3 Reg.head_COMMIT_CFG_DEADLINE 1).setHead 3 { Head.reset with defers := 1 }
     Inv s ∧ (s.hdr .head 3).pendingCommit = true ∧ checkHead (readTables 3 s) 3 = none ∧ notReady (readTables 3 s) 3 = .inr (48 :: []) ∧ s.get 3 Reg.head_COMMIT_CFG_DEADLINE ≠ 0 ∧
      s.get 3 Reg.head_COMMIT_CFG_DEADLINE ≤ (s.head 3).defers) :=
  ⟨⟨inv_of_test (by decide +kernel), by decide +kernel⟩, ⟨inv_of_test (by decide +kernel), by decide +kernel⟩, ⟨inv_of_test (by decide +kernel), by decide +kernel⟩, ⟨inv_of_test (by decide +kernel), by decide +kernel⟩⟩

/-! ### Display ports -/

/-- Port 7 in a state, with HPD at a level. -/
def port7 (st hpd : Nat) (x : Dpo) (s : State) : State := ((s.setState .dpo 7 st).set 7 Reg.dpo_LINK_STATUS_HPD hpd).setDpo 7 x

theorem witness_PortsPlugAndTrain :
    (let s := port7 0 1 Dpo.reset State.reset
     Inv s ∧ (s.dpo 7).sv = false ∧ accessCode s .keeper .dpo 7 0x04 1 = 0 ∧ s.stateOf .dpo 7 = 0 ∧ headRuns s (portHead s 7) = false ∧ s.get 7 Reg.dpo_LINK_STATUS_HPD = 1) ∧
    (let s := (port7 0 0 Dpo.reset ((State.reset.set 7 Reg.dpo_CFG_HEAD 3).set 7 Reg.dpo_CFG_MAX_RATE 0)).setHead 3 { Head.reset with clk := 65536 * 2400000000 } |>.setState .head 3 1
     Inv s ∧ (s.dpo 7).sv = false ∧ headRuns s (portHead s 7) = true ∧ s.enabled .dpo 7 = false ∧ portFits s 7 (s.head (portHead s 7)).clk = false ∧ s.get 7 Reg.dpo_LINK_STATUS_HPD = 0) ∧
    (let s := port7 1 0 Dpo.reset State.reset
     Inv s ∧ s.get 7 Reg.dpo_LINK_STATUS_HPD = 0 ∧ s.stateOf .dpo 7 = 1) ∧
    (let s := port7 3 1 Dpo.reset State.reset
     Inv s ∧ s.get 7 Reg.dpo_LINK_STATUS_HPD = 1 ∧ s.stateOf .dpo 7 = 3 ∧ (s.hdr .dpo 7).errCode = 0) ∧
    (let s := port7 2 1 { Dpo.reset with phase := 2 } State.reset
     Inv s ∧ s.stateOf .dpo 7 = 2 ∧ (s.dpo 7).phase = 2 ∧ (s.dpo 7).start = none ∧ (s.dpo 7).sv = false ∧ ladder ((s.set 7 Reg.dpo_LINK_STATUS_SINK_RATE 10).set 7 Reg.dpo_LINK_STATUS_SINK_LANES 4) 7 ≠ [] ∧ ladder (s.set 7 Reg.dpo_LINK_STATUS_SINK_LANES 0) 7 = []) ∧
    (let s := port7 2 1 { Dpo.reset with phase := 1 } State.reset
     Inv s ∧ s.stateOf .dpo 7 = 2 ∧ (s.dpo 7).phase = 1 ∧ ladderFrom s 7 (s.dpo 7).start = []) ∧
    (let s := port7 2 1 { Dpo.reset with pairs := [(10, 4)], failed := true } State.reset
     Inv s ∧ s.stateOf .dpo 7 = 2 ∧ (s.dpo 7).phase = 0 ∧ (s.dpo 7).pairs = (10, 4) :: [] ∧ 10 < 11 ∧ 4 < 5 ∧ headRuns s (portHead s 7) = false) ∧
    (let s := port7 5 1 Dpo.reset State.reset
     Inv s ∧ s.stateOf .dpo 7 = 5 ∧ (s.dpo 7).downAt + msT (s.get 7 Reg.dpo_TRAIN_RETRY_MS) ≤ secT 100) :=
  ⟨⟨inv_of_test (by decide +kernel), by decide +kernel⟩, ⟨inv_of_test (by decide +kernel), by decide +kernel⟩, ⟨inv_of_test (by decide +kernel), by decide +kernel⟩, ⟨inv_of_test (by decide +kernel), by decide +kernel⟩, ⟨inv_of_test (by decide +kernel), by decide +kernel⟩, ⟨inv_of_test (by decide +kernel), by decide +kernel⟩, ⟨inv_of_test (by decide +kernel), by decide +kernel⟩, ⟨inv_of_test (by decide +kernel), by decide +kernel⟩⟩

theorem witness_AuxTransactions :
    (let s := port7 4 1 Dpo.reset State.reset
     Inv s ∧ accessCode s .keeper .dpo 7 0x4C 1 = 0 ∧ s.get 7 Reg.dpo_AUX_STATUS_BUSY = 0 ∧ noSink s 7 = false ∧ ownAux s 7 = false) ∧
    (let s := port7 2 1 { Dpo.reset with phase := 2 } State.reset
     Inv s ∧ s.get 7 Reg.dpo_AUX_STATUS_BUSY = 0 ∧ noSink s 7 = false ∧ ownAux s 7 = true) ∧
    (let s := (port7 0 0 Dpo.reset State.reset).set 7 Reg.dpo_AUX_STATUS_BUSY 1
     Inv s ∧ s.get 7 Reg.dpo_AUX_STATUS_BUSY = 1 ∧ accessCode s .keeper .dpo 7 0x4C 1 = 0) ∧
    (let s := port7 1 0 Dpo.reset State.reset
     Inv s ∧ s.get 7 Reg.dpo_AUX_STATUS_BUSY = 0 ∧ noSink s 7 = true) ∧
    (let s := port7 4 1 { Dpo.reset with aux := some (0x1F000000, false) } State.reset
     Inv s ∧ (s.dpo 7).aux = some (0x1F000000, false) ∧ ownAux s 7 = false) ∧
    (let s := port7 4 1 { Dpo.reset with aux := some (0x1F000000, true) } State.reset
     Inv s ∧ (s.dpo 7).aux = some (0x1F000000, true) ∧ noSink s 7 = false ∧ 0x1F000000 / 2 ^ 28 % 8 = 1 ∧ 16 = 0x1F000000 / 2 ^ 24 % 16 + 1) :=
  ⟨⟨inv_of_test (by decide +kernel), by decide +kernel⟩, ⟨inv_of_test (by decide +kernel), by decide +kernel⟩, ⟨inv_of_test (by decide +kernel), by decide +kernel⟩, ⟨inv_of_test (by decide +kernel), by decide +kernel⟩, ⟨inv_of_test (by decide +kernel), by decide +kernel⟩, ⟨inv_of_test (by decide +kernel), by decide +kernel⟩⟩

/-! ### Check units, packets and the panel protocol -/

/-- Port 3 with its link up. -/
def linked (s : State) : State := (enabled .net 3 s).set 3 Reg.net_STATUS_LINK 1

/-- An IPv4 frame with a UDP datagram to a destination port. -/
def ipFrame (dport : Nat) (data : List Byte) : List Byte :=
  udpFrame { v6 := false, dstMac := bytesBE 6 1, srcMac := bytesBE 6 2, tag := none, dscp := 0, ttl := 1, src := bytesBE 4 0x0A000001,
             dst := bytesBE 4 0x0A000002, sport := 5000, dport := dport, ident := 0 } data

/-- The datagram of that frame. -/
def udp0 (dport : Nat) (data : List Byte) : UdpRx :=
  { v6 := false, srcMac := bytesBE 6 2, tag := none, src := bytesBE 4 0x0A000001, dst := bytesBE 4 0x0A000002, sport := 5000,
    dport := dport, data := data }

/-- An RTP packet of 13 bytes with a sequence number. -/
def rtp0 (seq : Nat) : List Byte := bytesBE 2 0x8060 ++ bytesBE 2 seq ++ bytesBE 4 0 ++ bytesBE 4 7 ++ [1#8]

/-- Flow 127 on port 3 for UDP port 6000, and what it expects. -/
def flow127 (e : Option Nat) (held : List FlowPkt) (s : State) : State :=
  (fset 127 Reg.pkt_F_CFG_EN 1 (fset 127 Reg.pkt_F_CFG_PORT 3 (fset 127 Reg.pkt_F_UDP_DST_PORT 6000
    (fset 127 Reg.pkt_F_GROUP_VALUE 0x0A000002 (fset 127 Reg.pkt_F_JB_CFG_SIZE_KIB 1 (linked s)))))).setFlow 127
    { Flow.reset with expect := e, held := held }

/-- A panel request: OP, COUNT, ADDR and words. -/
def request (op count addr : Nat) (words : List Byte) : List Byte :=
  [0x5A#8, 0x52#8, 1#8] ++ bytesLE 1 op ++ bytesLE 4 9 ++ bytesLE 2 count ++ bytesLE 2 0 ++ bytesLE 4 addr ++ words

/-- Port 3 takes panel requests. -/
def panel (s : State) : State :=
  (((linked s).set 0 Reg.pkt_CMD_CFG_PORTS 8).set 0 Reg.pkt_CMD_PREFIX_ADDR 0x0A000000).set 0 Reg.pkt_CMD_PREFIX_LEN_LEN 8

def panelQ (op count addr : Nat) (words : List Word) : PanelReq := { op := op, seq := 9, count := count, addr := addr, words := words }

/-- The engine of session 4095 on port 3, class 7, with one payload that waits. -/
def sending (s : State) : State :=
  let s := ((((linked s).set 4095 Reg.session_S_CFG_EN 1).set 4095 Reg.session_S_CFG_PORT 3).set 4095 Reg.session_S_CFG_CLASS 7).set 4095
    Reg.session_S_RATE_KBPS 0
  let s := s.setSess 4095 { Sess.reset with queue := [{ pay := 1, seq := 0, seg := 0, age := 0, spilled := false }] }
  s.setNet 3 { NetPort.reset with cls := 7, deficits := [(7, 9216)] }

theorem witness_CheckUnitsConfigured :
    (let s := kset 127 Reg.chk_CHKU_CFG_EN 1 State.reset
     Inv s ∧ accessCode s .keeper .chk 0 (0x1040 + 0x10 * 127) 1 = 0 ∧ getBit (kget s 127 Reg.chk_CHKU_CFG) 31 = true ∧ (0x80000001#32).toNat &&& 0x330F007F ≠ kget s 127 Reg.chk_CHKU_CFG &&& 0x7FFFFFFF ∧ unitFor s 0 0 = some 127) ∧
    (let s := State.reset
     Inv s ∧ accessCode s .keeper .chk 0 (0x1040 + 0x10 * 127) 1 = 0 ∧ getBit (kget s 127 Reg.chk_CHKU_CFG) 31 = false ∧ bitsOf 0x80000008#32 28 2 = 0 ∧ 8 ≤ bitsOf 0x80000008#32 0 7 ∧ bitsOf 0xB0000000#32 28 2 = 3 ∧ unitFor s 0 7 = none ∧ ¬8 ≤ bitsOf 0x80000007#32 0 7 ∧ getBit (0x80000007#32).toNat 31 = true) :=
  ⟨⟨inv_of_test (by decide +kernel), by decide +kernel⟩, ⟨inv_of_test (by decide +kernel), by decide +kernel⟩⟩

theorem witness_LinksAndFlowsReceive :
    (let s := linked State.reset
     Inv s ∧ s.get 3 Reg.net_STATUS_LINK = 1 ∧ (s.hdr .net 3).errCode = 0) ∧
    (let s := flow127 (some 5) [] State.reset
     Inv s ∧ fget s 127 Reg.pkt_F_CFG_EN = 1 ∧ fget s 127 Reg.pkt_F_CFG_PORT = 3) ∧
    (let s := enabled .net 3 State.reset
     Inv s ∧ s.get 3 Reg.net_STATUS_LINK = 0 ∧ s.enabled .net 3 = true) ∧
    (let s := linked State.reset
     Inv s ∧ linkUp s 3 = true ∧ classify s 3 false [] = .bad ∧ classify s 3 true (bytesBE 6 1 ++ bytesBE 6 2 ++ bytesBE 2 0x9999) = .exception ∧ (s.get 0 Reg.pkt_EXC_RX_IDX_WR + 1) % max 1 (s.get 0 Reg.pkt_EXC_SLOTS_RX) ≠ s.get 0 Reg.pkt_EXC_RX_IDX_RD) ∧
    (let s := (linked State.reset).set 0 Reg.pkt_EXC_RX_IDX_RD 1
     Inv s ∧ linkUp s 3 = true ∧ classify s 3 true (bytesBE 6 1 ++ bytesBE 6 2 ++ bytesBE 2 0x9999) = .exception ∧ (s.get 0 Reg.pkt_EXC_RX_IDX_WR + 1) % max 1 (s.get 0 Reg.pkt_EXC_SLOTS_RX) = s.get 0 Reg.pkt_EXC_RX_IDX_RD) ∧
    (let s := flow127 (some 65535) [] State.reset
     Inv s ∧ linkUp s 3 = true ∧ classify s 3 true (ipFrame 6000 (rtp0 65535)) = .flow 127 (udp0 6000 (rtp0 65535)) ∧ (s.flow 127).held = [] ∧ flowDelta s 127 65535 = 0 ∧ flowDelta s 127 0 = 1 ∧ flowDelta s 127 999 = 1000 ∧ flowDelta s 127 1000 = 1001 ∧ flowDelta s 127 64535 = -1000 ∧ flowDelta s 127 64534 = -1001 ∧
      (udp0 6000 (rtp0 0)).data.length ≤ 1024 * fget s 127 Reg.pkt_F_JB_CFG_SIZE_KIB) :=
  ⟨⟨inv_of_test (by decide +kernel), by decide +kernel⟩, ⟨inv_of_test (by decide +kernel), by decide +kernel⟩, ⟨inv_of_test (by decide +kernel), by decide +kernel⟩, ⟨inv_of_test (by decide +kernel), by decide +kernel⟩, ⟨inv_of_test (by decide +kernel), by decide +kernel⟩, ⟨inv_of_test (by decide +kernel), by decide +kernel⟩⟩

def held0 : FlowPkt := { seq := 7, arrived := 0, arrival := Instant.zero, port := 3, frame := [], data := rtp0 7 }

theorem witness_LinksAndFlowsReceive_loss :
    let s := flow127 (some 5) [held0] State.reset
    Inv s ∧ (s.flow 127).held = [held0] ∧ (s.flow 127).expect ≠ some 7 ∧ 0 + usT (fget s 127 Reg.pkt_F_JB_CFG_DELAY_US) ≤ secT 1 :=
  ⟨inv_of_test (by decide +kernel), by decide +kernel⟩

theorem witness_SessionsSend :
    (let s := State.reset
     Inv s ∧ accessCode s .keeper .session 4095 0x40 1 = 0 ∧ badSource ((0xC00#32).toNat % 0x80000) = true ∧ badSource ((1#32).toNat % 0x80000) = false ∧ blockTooLong s ((1#32).toNat % 0x80000) = false ∧ s.get 4095 Reg.session_S_CFG_EN = 0 ∧ getBit (1#32).toNat 0 = true) ∧
    (let s := State.reset.set 4095 Reg.session_S_CFG_EN 1
     Inv s ∧ s.get 4095 Reg.session_S_CFG_EN = 1 ∧ getBit (0#32).toNat 0 = false) ∧
    (let s := (linked State.reset).setNet 3 { NetPort.reset with replies := [[1#8]] }
     Inv s ∧ linkUp s 3 = true ∧ (s.net 3).sending = .idle ∧ (∀ d : Fin 4, ptpHead s d.val = none) ∧ excHead s = none ∧ (s.net 3).replies = [1#8] :: []) ∧
    (let s := (linked State.reset).set 4095 Reg.session_S_CFG_PORT 3
     Inv s ∧ (s.net (s.get 4095 Reg.session_S_CFG_PORT)).replies = [] ∧ anyReady s 3 5 = false ∧ linkUp s 3 = true) ∧
    (let s := sending State.reset
     Inv s ∧ s.get 4095 Reg.session_S_CFG_PORT = 3 ∧ linkUp s 3 = true ∧ (s.net 3).sending = .idle ∧ (∀ d : Fin 4, ptpHead s d.val = none) ∧ excHead s = none ∧ (s.net 3).replies = [] ∧ (s.net 3).cls < 8 ∧ ready s 3 7 5 = 4095 :: [] ∧ (s.sessOf 4095).queue.map (·.pay) = [1] ∧ dgramLen s 4095 (s.pay 1) ≤ Tbl.get 0 (s.net 3).deficits 7) ∧
    (let s := (linked State.reset).setNet 3 { NetPort.reset with sending := .packet 4095 1 }
     Inv s ∧ (s.net 3).sending = .packet 4095 1 ∧ 4095 < 4096 ∧ (s.pay 1).kind ≠ 2) ∧
    (let s := State.reset.set 0 Reg.pkt_EXC_SLOTS_TX 4095
     Inv s ∧ accessCode s .keeper .pkt 0 0x98 1 = 0 ∧ s.get 0 Reg.pkt_EXC_SLOTS_TX ≤ 4095 ∧ 4094 < s.get 0 Reg.pkt_EXC_SLOTS_TX ∧ subscribers s 0 127 = [] ∧ subscribers s 2 127 = []) ∧
    (let s := State.reset.set 0 Reg.pkt_RTCP_CFG_SR_MS 0
     Inv s ∧ s.get 0 Reg.pkt_RTCP_CFG_SR_MS = 0) :=
  ⟨⟨inv_of_test (by decide +kernel), by decide +kernel⟩, ⟨inv_of_test (by decide +kernel), by decide +kernel⟩, ⟨inv_of_test (by decide +kernel), by decide +kernel⟩, ⟨inv_of_test (by decide +kernel), by decide +kernel⟩, ⟨inv_of_test (by decide +kernel), by decide +kernel⟩, ⟨inv_of_test (by decide +kernel), by decide +kernel⟩, ⟨inv_of_test (by decide +kernel), by decide +kernel⟩, ⟨inv_of_test (by decide +kernel), by decide +kernel⟩⟩

theorem witness_PanelRequestsAnswered :
    (let s := panel State.reset
     Inv s ∧ linkUp s 3 = true ∧ (let d := s.get 0 Reg.pkt_CMD_CFG_UDP_PORT; let fate := fun q => (classify s 3 true (ipFrame d q) = .command (udp0 d q) ∧ panelFate (s.at 5) 3 (udp0 d q) = .bad); fate [] ∧ classify s 3 true (ipFrame d (request 0 0 0 [])) = .command (udp0 d (request 0 0 0 [])) ∧
      panelFate (s.at 5) 3 (udp0 d (request 0 0 0 [])) = .taken (panelQ 0 0 0 []) ∧ panelFate (s.at 5) 3 (udp0 d (request 1 64 0x3FFFF00 [])) = .taken (panelQ 1 64 0x3FFFF00 []) ∧ panelFate (s.at 5) 3 (udp0 d (request 2 1 0x3FFFFFC [1#8, 0#8, 0#8, 0#8])) = .taken (panelQ 2 1 0x3FFFFFC [1]) ∧
      panelFate (s.at 5) 3 (udp0 d (request 1 2 0x3FFFFFC [])) = .taken (panelQ 1 2 0x3FFFFFC []))) ∧
    (let s := { panel State.reset with pkt := { (panel State.reset).pkt with replies := [{ addr := 0x0A000001, port := 5000, seq := 9, reply := [] }] } }
     Inv s ∧ panelFate (s.at 5) 3 (udp0 0 (request 2 1 0 [1#8, 0#8, 0#8, 0#8])) = .taken (panelQ 2 1 0 [1]) ∧ s.pkt.replies.any (fun k => k.addr == natBE (udp0 0 []).src && k.port == 5000 && k.seq == 9) = true) ∧
    (let s := (panel State.reset).set 0 Reg.pkt_CMD_CFG_MAX_PER_MS 0
     Inv s ∧ panelFate (s.at 5) 3 (udp0 0 (request 0 0 0 [])) = .limited) :=
  ⟨⟨inv_of_test (by decide +kernel), by decide +kernel⟩, ⟨inv_of_test (by decide +kernel), by decide +kernel⟩, ⟨inv_of_test (by decide +kernel), by decide +kernel⟩⟩

/-! ### Time -/

/-- Domain 3 in a state of its servo. -/
def domain (st : Nat) (m : TimeDom) (s : State) : State := (s.setState .time 3 st).setDom 3 m

theorem witness_DomainsJudged :
    (let s := State.reset
     Inv s ∧ (s.hdr .time 3).pendingCommit = false ∧ measures s 3 = false ∧ s.stateOf .time 3 ≠ 3) ∧
    (let s := domain 2 { TimeDom.reset with hadMpd := true, mpdCount := 1, mpdSum := 2 * 65536 * 1000000, syncs := 1 } State.reset
     Inv s ∧ (s.hdr .time 3).pendingCommit = false ∧ measures s 3 = true ∧ s.stateOf .time 3 = 2 ∧ pathChanged s (takeMeasures 3 s) 3 = true) ∧
    (let s := domain 2 { TimeDom.reset with silent := 100 } State.reset
     Inv s ∧ measures s 3 = true ∧ pathChanged s (takeMeasures 3 s) 3 = false ∧ s.get 3 Reg.time_PATH_CFG_LOSS_INTERVALS ≤ 101 ∧ (s.dom 3).syncs = 0) ∧
    (let s := domain 2 { TimeDom.reset with syncs := 1 } State.reset
     Inv s ∧ measures s 3 = true ∧ pathChanged s (takeMeasures 3 s) 3 = false ∧ 0 < s.get 3 Reg.time_PATH_CFG_LOSS_INTERVALS) ∧
    (let s := domain 4 { TimeDom.reset with syncs := 1, lossHold := true } State.reset
     Inv s ∧ measures s 3 = true ∧ s.stateOf .time 3 = 4 ∧ s.get 3 Reg.time_STATUS_ASYM = 0 ∧ (s.dom 3).lossHold = true ∧ (s.dom 3).syncs ≠ 0) ∧
    (let s := domain 3 { TimeDom.reset with holdEnd := secT 5 } State.reset
     Inv s ∧ s.stateOf .time 3 = 3 ∧ clockAt s 3 (secT 1) < (s.dom 3).holdEnd ∧ (s.dom 3).holdEnd ≤ clockAt s 3 (secT 5) ∧ (s.dom 3).hadSync = false) ∧
    (let s := domain 3 { TimeDom.reset with hadSync := true } State.reset
     Inv s ∧ s.stateOf .time 3 = 3 ∧ (s.dom 3).holdEnd ≤ clockAt s 3 0 ∧ (s.dom 3).hadSync = true ∧ xcheckOk s 3 = false) ∧
    (let s := domain 3 { TimeDom.reset with hadSync := true } ((((State.reset.set 3 Reg.time_CFG_XC_EN 1).set 3 Reg.time_CFG_XCHECK 0).setState .time 0 2).set 3 Reg.time_MEAS_OFFSET_NS 1000000)
     Inv s ∧ s.stateOf .time 3 = 3 ∧ (s.dom 3).holdEnd ≤ clockAt s 3 0 ∧ xcheckOk s 3 = true ∧ s.get 3 Reg.time_PATH_CFG_PATH_THR_NS < (crossCheck 3 0 s).1) ∧
    (let s := State.reset.set 3 Reg.time_STATUS_SLEWING 1
     Inv s ∧ s.get 3 Reg.time_STATUS_SLEWING = 1 ∧ (s.clk 3).slewFrozen = false ∧ (s.clk 3).left 5 = 0) :=
  ⟨⟨inv_of_test (by decide +kernel), by decide +kernel⟩, ⟨inv_of_test (by decide +kernel), by decide +kernel⟩, ⟨inv_of_test (by decide +kernel), by decide +kernel⟩, ⟨inv_of_test (by decide +kernel), by decide +kernel⟩, ⟨inv_of_test (by decide +kernel), by decide +kernel⟩, ⟨inv_of_test (by decide +kernel), by decide +kernel⟩, ⟨inv_of_test (by decide +kernel), by decide +kernel⟩, ⟨inv_of_test (by decide +kernel), by decide +kernel⟩, ⟨inv_of_test (by decide +kernel), by decide +kernel⟩⟩

theorem witness_ClockCommandsAndPins :
    (let s := State.reset.setState .time 3 1
     Inv s ∧ accessCode s .keeper .time 3 0x64 1 = 0 ∧ s.stateOf .time 3 = 1 ∧ s.stateOf .time 3 ≠ 4 ∧ accessCode s .keeper .timel 0 0x64 1 = 0) ∧
    (let s := (State.reset.setState .time 3 4).set 3 Reg.time_STATUS_ASYM 1
     Inv s ∧ accessCode s .keeper .time 3 0x64 1 = 0 ∧ s.stateOf .time 3 = 4 ∧ s.get 3 Reg.time_STATUS_ASYM = 1 ∧ s.stateOf .time 3 ≠ 1) ∧
    (let s := { State.reset with ppsIn := 1 }
     Inv s ∧ s.ppsIn ≠ 0 ∧ 0 + 1 < s.ppsIn + nsT 100 ∧ s.ppsIn + nsT 100 ≤ nsT 100 + 1) ∧
    (let s := State.reset
     Inv s ∧ s.ppsIn = 0 ∧ s.get 0 Reg.timel_IO_CFG_PPS_EN = 0) ∧
    (let s := State.reset.set 0 Reg.timel_IO_CFG_PPS_EN 1
     Inv s ∧ ¬(s.get 0 Reg.timel_IO_CFG_PPS_EN = 0) ∧ ¬(s.ppsRise ≠ 0)) :=
  ⟨⟨inv_of_test (by decide +kernel), by decide +kernel⟩, ⟨inv_of_test (by decide +kernel), by decide +kernel⟩, ⟨inv_of_test (by decide +kernel), by decide +kernel⟩, ⟨inv_of_test (by decide +kernel), by decide +kernel⟩, ⟨inv_of_test (by decide +kernel), by decide +kernel⟩⟩

/-- A PTP Sync of domain number `k`. -/
def sync0 (k : Nat) : List Byte := bytesBE 6 1 ++ bytesBE 6 2 ++ bytesBE 2 0x88F7 ++ [0#8, 2#8, 0#8, 44#8] ++ bytesBE 1 k ++ List.replicate 39 0#8

theorem witness_PtpRings :
    (let s := domain 1 TimeDom.reset (((linked State.reset).set 3 Reg.time_CFG_PORT 3).set 3 Reg.time_CFG_TRANSPORT 0)
     Inv s ∧ linkUp s 3 = true ∧ classify s 3 false (sync0 0) = .bad ∧ classify s 3 true (sync0 0) = .ptp ∧ ptpOf (s.get 3 Reg.net_CFG_MTU) (sync0 0) = some ((sync0 0).drop 14, 0, bytesBE 6 2, 0) ∧ (∀ d : Fin 4, ptpMatches s d.val 3 0 ((sync0 127).drop 14) = false) ∧
      ptpMatches s 3 3 0 ((sync0 (s.get 3 Reg.time_CFG_PTP_DOMAIN)).drop 14) = true ∧ (s.get 3 Reg.time_RX_IDX_WR + 1) % max 1 (s.get 3 Reg.time_RING_SLOTS_RX) ≠ s.get 3 Reg.time_RX_IDX_RD) ∧
    (let s := domain 1 TimeDom.reset ((((linked State.reset).set 3 Reg.time_CFG_PORT 3).set 3 Reg.time_CFG_TRANSPORT 0).set 3 Reg.time_RX_IDX_RD 1)
     Inv s ∧ ptpMatches s 3 3 0 ((sync0 (s.get 3 Reg.time_CFG_PTP_DOMAIN)).drop 14) = true ∧ (s.get 3 Reg.time_RX_IDX_WR + 1) % max 1 (s.get 3 Reg.time_RING_SLOTS_RX) = s.get 3 Reg.time_RX_IDX_RD) ∧
    (let s := State.reset.set 3 Reg.time_RING_SLOTS_TX 4095
     Inv s ∧ accessCode s .keeper .time 3 0xA4 1 = 0 ∧ s.get 3 Reg.time_RING_SLOTS_TX ≤ 4095 ∧ 4094 < s.get 3 Reg.time_RING_SLOTS_TX ∧ (∀ n : Fin 4, (s.net n.val).sending ≠ .ptp 3)) ∧
    (let s := ((State.reset.set 3 Reg.time_TX_IDX_WR 1).setNet 3 { NetPort.reset with sending := .ptp 3 })
     Inv s ∧ (s.net 3).sending = .ptp 3 ∧ (∀ m : Fin 4, m.val < 3 → (s.net m.val).sending ≠ .ptp 3) ∧ (ptpHead s 3).isSome = true) :=
  ⟨⟨inv_of_test (by decide +kernel), by decide +kernel⟩, ⟨inv_of_test (by decide +kernel), by decide +kernel⟩, ⟨inv_of_test (by decide +kernel), by decide +kernel⟩, ⟨inv_of_test (by decide +kernel), by decide +kernel⟩⟩

/-! ### Audio -/

/-- Port 15 in a state. -/
def audio (st dir : Nat) (x : Aud) (s : State) : State := ((s.setState .aud 15 st).set 15 Reg.aud_RATE_DIR dir).setAud 15 x

def trig0 : Trigger := { dom := 4, val := 0, mask := 0x8000 }

theorem witness_AudioPortsStartAndStop :
    (let s := State.reset
     Inv s ∧ accessCode s .keeper .aud 15 0x04 1 = 0 ∧ accessCode s .keeper .aud 15 0x64 1 = 0 ∧ s.stateOf .aud 15 ≠ 1 ∧ s.stateOf .aud 15 ≠ 5 ∧ s.stateOf .aud 15 ≠ 2 ∧ s.stateOf .aud 15 ≠ 4 ∧ s.stateOf .aud 15 ≠ 3) ∧
    (let s := audio 1 0 Aud.reset ((State.reset.set 15 Reg.aud_RATE_MASTER 1).set 0 Reg.amclk_MCLK_HZ_HZ 12288001)
     Inv s ∧ s.stateOf .aud 15 = 1 ∧ armRefused s 15 = true) ∧
    (let s := audio 1 0 Aud.reset (State.reset.set 15 Reg.aud_RATE_MASTER 1)
     Inv s ∧ s.stateOf .aud 15 = 1 ∧ armRefused s 15 = false) ∧
    (let s := audio 2 0 Aud.reset State.reset
     Inv s ∧ s.stateOf .aud 15 = 2 ∧ accessCode s .keeper .aud 15 0x64 1 = 0) ∧
    (let s := audio 4 0 Aud.reset State.reset
     Inv s ∧ s.stateOf .aud 15 = 4 ∧ accessCode s .keeper .aud 15 0x64 1 = 0) ∧
    (let s := audio 5 0 Aud.reset State.reset
     Inv s ∧ s.stateOf .aud 15 = 5) ∧
    (let s := { State.reset with trigger := some trig0 }
     Inv s ∧ s.trigger.isSome = true ∧ accessCode s .keeper .amclk 0 0x8C 1 = 0 ∧ trig0.val ≤ clockAt s trig0.dom 0 ∧ getBit trig0.mask 0 = false ∧ getBit trig0.mask 15 = true) ∧
    (let s := State.reset
     Inv s ∧ s.trigger = none ∧ accessCode s .keeper .amclk 0 0x8C 1 = 0 ∧ startTooSoon (s.at 5) 4 (startInstant s) 0xFFFF = true ∧ startTooSoon (s.at 5) 4 (startInstant s) 0 = false) ∧
    (let s := audio 2 0 Aud.reset { State.reset.set 15 Reg.aud_RATE_MASTER 1 with trigger := some trig0 }
     Inv s ∧ s.trigger = some trig0 ∧ getBit trig0.mask 15 = true ∧ audMaster s 15 = true ∧ s.stateOf .aud 15 = 2) ∧
    (let s := audio 3 0 Aud.reset { State.reset.set 15 Reg.aud_RATE_MASTER 1 with trigger := some { trig0 with val := 5 } }
     Inv s ∧ (s.trigger.map (fun g => decide (clockAt s g.dom 4 < g.val) && decide (g.val ≤ clockAt s g.dom 5))) = some true ∧ s.stateOf .aud 15 = 3 ∧ audMaster s 15 = true) :=
  ⟨⟨inv_of_test (by decide +kernel), by decide +kernel⟩, ⟨inv_of_test (by decide +kernel), by decide +kernel⟩, ⟨inv_of_test (by decide +kernel), by decide +kernel⟩, ⟨inv_of_test (by decide +kernel), by decide +kernel⟩, ⟨inv_of_test (by decide +kernel), by decide +kernel⟩, ⟨inv_of_test (by decide +kernel), by decide +kernel⟩, ⟨inv_of_test (by decide +kernel), by decide +kernel⟩, ⟨inv_of_test (by decide +kernel), by decide +kernel⟩, ⟨inv_of_test (by decide +kernel), by decide +kernel⟩, ⟨inv_of_test (by decide +kernel), by decide +kernel⟩⟩

theorem witness_AudioBlocksAndClocks :
    (let s := audio 4 0 Aud.reset State.reset
     Inv s ∧ s.stateOf .aud 15 = 4 ∧ audOutput s 15 = false ∧ (s.aud 15).lostInBlock = false ∧ s.get 15 Reg.aud_STATUS_CLOCK_LOST = 0 ∧ audNext s 15 (s.get 15 Reg.aud_RING_IDX_DEV_IDX) ≠ s.get 15 Reg.aud_RING_IDX_SW_IDX) ∧
    (let s := audio 4 0 Aud.reset (State.reset.set 15 Reg.aud_RING_IDX_SW_IDX 1)
     Inv s ∧ s.stateOf .aud 15 = 4 ∧ audOutput s 15 = false ∧ audNext s 15 (s.get 15 Reg.aud_RING_IDX_DEV_IDX) = s.get 15 Reg.aud_RING_IDX_SW_IDX) ∧
    (let s := audio 4 1 Aud.reset State.reset
     Inv s ∧ s.stateOf .aud 15 = 4 ∧ audOutput s 15 = true ∧ (s.aud 15).hold = none ∧ (s.aud 15).fill = [] ∧ 0 = (s.aud 15).pos ∧ s.get 15 Reg.aud_RING_IDX_DEV_IDX = s.get 15 Reg.aud_RING_IDX_SW_IDX) ∧
    (let s := audio 4 1 Aud.reset (ram (State.reset.set 15 Reg.aud_RING_IDX_SW_IDX 1))
     Inv s ∧ s.stateOf .aud 15 = 4 ∧ audOutput s 15 = true ∧ s.get 15 Reg.aud_RING_IDX_DEV_IDX ≠ s.get 15 Reg.aud_RING_IDX_SW_IDX ∧ leAt (readOpen 0 (audSlotAddr s 15 0) (audSlotSize s 15) (s.at 5)).1 0 4 = 0 ∧ (s.aud 15).pos = 0) ∧
    (let s := audio 4 1 { Aud.reset with hold := some 0 } State.reset
     Inv s ∧ (s.aud 15).hold = some 0 ∧ audOutput s 15 = true ∧ (s.aud 15).zero = false) ∧
    (let s := audio 3 0 Aud.reset State.reset
     Inv s ∧ audMaster s 15 = false ∧ 3 ≤ s.stateOf .aud 15 ∧ s.get 15 Reg.aud_STATUS_CLOCK_LOST = 0) ∧
    (let s := State.reset.set 15 Reg.aud_STATUS_CLOCK_LOST 1
     Inv s ∧ s.get 15 Reg.aud_STATUS_CLOCK_LOST = 1) ∧
    (let s := audio 4 0 { Aud.reset with ref := some (256 * 48000) } State.reset
     Inv s ∧ (s.aud 15).ref = some (256 * 48000) ∧ 1000 * ((256 * 44100 - 256 * 48000) + (256 * 48000 - 256 * 44100)) > 256 * 48000 ∧ ¬(1000 * ((256 * 48000 - 256 * 48000) + (256 * 48000 - 256 * 48000)) > 256 * 48000 ∨ rateFamily (256 * 48000) ≠ rateFamily (256 * 48000))) :=
  ⟨⟨inv_of_test (by decide +kernel), by decide +kernel⟩, ⟨inv_of_test (by decide +kernel), by decide +kernel⟩, ⟨inv_of_test (by decide +kernel), by decide +kernel⟩, ⟨inv_of_test (by decide +kernel), by decide +kernel⟩, ⟨inv_of_test (by decide +kernel), by decide +kernel⟩, ⟨inv_of_test (by decide +kernel), by decide +kernel⟩, ⟨inv_of_test (by decide +kernel), by decide +kernel⟩, ⟨inv_of_test (by decide +kernel), by decide +kernel⟩⟩

/-! ### External memory -/

/-- Errors in the first `n` symbols of a line. -/
def wrong (n : Nat) : List (Nat × Nat) := (List.range n).map (fun i => (i, 255))

/-- Rank 15 is in service with its subchannel, 14 is a spare. -/
def lastRank (s : State) : State :=
  { setRole 15 1 (setRole 14 2 (s.set 0 Reg.memx_MAP_MASK 0x80)) with mem := { s.mem with ranks := 0x8000 }, sup := { s.sup with mgmtReset := false } }

theorem witness_MemoryTrainsAndRelines :
    (let s := State.reset
     Inv s ∧ subState s 7 ≠ 1 ∧ s.mem.reline = none ∧ accessCode s .keeper .memx 0 0x58 1 = 0 ∧ 1 ≤ bitsOf (s.word .memx 0 0x58) 0 3 ∧ bitsOf (s.word .memx 0 0x58) 0 3 ≤ 4 ∧ rankRole s 15 ≠ 1) ∧
    (let s := setSubState 7 1 (setRole 15 2 State.reset)
     Inv s ∧ subState s 7 = 1 ∧ (s.hdr .ddrc 3).errCode = 0 ∧ 15 / 2 = 7 ∧ rankRole s 15 = 2) ∧
    (let s := { setSubState 7 2 State.reset with mem := { State.reset.mem with freq := 2 } }
     Inv s ∧ subState s 7 = 2 ∧ s.mem.freq ≠ 0 ∧ s.mem.freq = 2) ∧
    (let s := setSubState 7 2 State.reset
     Inv s ∧ subState s 7 = 2 ∧ s.mem.freq = 0 ∧ 0 * 100 ≤ 70 * populatedPeak s (s.get 0 Reg.memx_FREQ_STATUS_CURRENT) ∧ s.get 3 (Reg.ddrc_SUB_STATUS_HOT_0.up 8) = 0) ∧
    (let s := lastRank State.reset
     Inv s ∧ rankRole s 15 = 1 ∧ isRetired s 15 = false ∧ s.mem.reline = none ∧ s.mem.queue = [] ∧ spareFor s 15 = some 14) ∧
    (let s := setRole 15 1 State.reset
     Inv s ∧ rankRole s 15 = 1 ∧ isRetired s 15 = false ∧ spareFor s 15 = none ∧ s.mem.reline = none ∧ s.mem.queue = []) ∧
    (let s := { lastRank State.reset with mem := { State.reset.mem with reline := some { src := 15, dst := 14, watermark := 0, blank := false } } }
     Inv s ∧ s.mem.reline = some { src := 15, dst := 14, watermark := 0, blank := false } ∧ s.mem.freq ≠ 2 ∧ s.sup.mgmtReset = false ∧ 1048576 * (0 + 1) < rankBytes s 7) ∧
    (let s := { lastRank State.reset with mem := { State.reset.mem with reline := some { src := 15, dst := 14, watermark := 65536, blank := false } } }
     Inv s ∧ s.mem.reline = some { src := 15, dst := 14, watermark := 65536, blank := false } ∧ s.mem.freq ≠ 2 ∧ s.sup.mgmtReset = false ∧ rankBytes s 7 ≤ 1048576 * (65536 + 1) ∧ s.mem.queue = []) :=
  ⟨⟨inv_of_test (by decide +kernel), by decide +kernel⟩, ⟨inv_of_test (by decide +kernel), by decide +kernel⟩, ⟨inv_of_test (by decide +kernel), by decide +kernel⟩, ⟨inv_of_test (by decide +kernel), by decide +kernel⟩, ⟨inv_of_test (by decide +kernel), by decide +kernel⟩, ⟨inv_of_test (by decide +kernel), by decide +kernel⟩, ⟨inv_of_test (by decide +kernel), by decide +kernel⟩, ⟨inv_of_test (by decide +kernel), by decide +kernel⟩⟩

theorem witness_ReadsClassified :
    (let s := ram State.reset
     Inv s ∧ 64 * 1 < dramCapacity s ∧ servingRank s (rankOf s (64 * 1)).1 (rankOf s (64 * 1)).2 = 0 ∧ markOf s 0 = none ∧ s.poison.contains 1 = false ∧ rankFailed s 0 = false ∧ rankWide s 0 = false ∧ ((wrong 12).map (·.1)).Nodup ∧ (∀ f ∈ wrong 12, f.1 < 80 ∧ f.2 % 256 ≠ 0) ∧ (wrong 12).length = 12 ∧ (wrong 4).length ≤ 4 ∧
      addrSyms 0 ≠ addrSyms 1 ∧ ((List.range 5).filter (fun i => (addrSyms 1).getD i 0 != (addrSyms 0).getD i 0)).length ≤ 4 ∧ s.get 0 Reg.memx_SCRUB_EN ≠ 0 ∧ s.mem.freq ≠ 2) ∧
    (let s := ram ((State.reset.set 0 Reg.ddrc_POP_WIDTH_0 1).set 0 Reg.memx_SCRUB_EN 0)
     Inv s ∧ 64 * 1 < dramCapacity s ∧ rankWide s 0 = true ∧ rankFailed s 0 = false ∧ s.get 0 Reg.memx_SCRUB_EN = 0 ∧ markOf s 0 = none) ∧
    (let s := setSubState 0 3 (ram State.reset)
     Inv s ∧ 64 * 1 < dramCapacity s ∧ rankFailed s 0 = true ∧ markOf s 0 = none ∧ s.poison.contains 1 = false) ∧
    (let s := { State.reset with mem := { State.reset.mem with diags := [{ rank := 15, who := 3, line := none }] } }
     Inv s ∧ s.mem.diags.find? (fun x => x.rank / 2 == 7) = some { rank := 15, who := 3, line := none } ∧ [0, 1].length ≠ 1) :=
  ⟨⟨inv_of_test (by decide +kernel), by decide +kernel⟩, ⟨inv_of_test (by decide +kernel), by decide +kernel⟩, ⟨inv_of_test (by decide +kernel), by decide +kernel⟩, ⟨inv_of_test (by decide +kernel), by decide +kernel⟩⟩

theorem witness_FrequencyChanges :
    (let s := State.reset
     Inv s ∧ accessCode s .keeper .memx 0 0x48 1 = 0 ∧ bitsOf (s.word .memx 0 0x48) 0 16 ≠ 0 ∧ bitsOf (s.word .memx 0 0x48) 16 8 ≤ 50 ∧ ¬s.get 0 Reg.memx_FREQ_STATUS_BUSY = 1 ∧ ¬70 * populatedPeak s 2 < 0 * 100 ∧ 70 * populatedPeak s 2 < 1 * 100 + 100000000 ∧ (s.hdr .memx 0).errCode = 0 ∧ s.mem.freq ≠ 1 ∧ s.mem.freq ≠ 2) ∧
    (let s := State.reset.set 0 Reg.memx_FREQ_STATUS_BUSY 1
     Inv s ∧ s.get 0 Reg.memx_FREQ_STATUS_BUSY = 1 ∧ accessCode s .keeper .memx 0 0x48 1 = 0) ∧
    (let s := { State.reset with mem := { State.reset.mem with freq := 1 } }
     Inv s ∧ s.mem.freq = 1 ∧ marginsMet s = true ∧ ∀ c : Fin 4, (s.hdr .ddrc c.val).pendingCommit = false) ∧
    (let s := { State.reset with mem := { State.reset.mem with freq := 2 } }
     Inv s ∧ s.mem.freq = 2 ∧ s.mem.track = false ∧ s.mem.target < 4 ∧ (s.hdr .memx 0).errCode = 0) :=
  ⟨⟨inv_of_test (by decide +kernel), by decide +kernel⟩, ⟨inv_of_test (by decide +kernel), by decide +kernel⟩, ⟨inv_of_test (by decide +kernel), by decide +kernel⟩, ⟨inv_of_test (by decide +kernel), by decide +kernel⟩⟩

/-! ### Host ports, Thimbles and DMA -/

/-- The link of host port 1 is up, with its function on the bus. -/
def linkedHost (s : State) : State := (s.set 1 Reg.host_LINK_STATUS_UP 1).setState .host 1 2

theorem witness_HostPortsAndThimbles :
    (let s := State.reset
     Inv s ∧ hostUp s 1 = false ∧ 6 ≤ s.get 1 Reg.host_CFG_MAX_GEN) ∧
    (let s := linkedHost (hd .head 3 (fun h => { h with owner := 2 }) (State.reset.set 0 (thmAt Reg.thm_THM_OWNER 255) 2))
     Inv s ∧ hostUp s 1 = true ∧ (s.hdr .host 1).errCode = 0 ∧ s.stateOf .host 1 ≠ 3 ∧
      (s.hdrs.any (fun e => e.2.owner == 1 + 1) = true) ∧ thmOwner s 255 = 1 + 1 ∧ s.get 1 Reg.host_LINK_STATUS_GEN ≠ 6) ∧
    (let s := (linkedHost State.reset).setState .host 1 3
     Inv s ∧ s.stateOf .host 1 = 3) ∧
    (let s := linkedHost (hd .head 3 (fun h => { h with raw := 1, evEnable := 1, route := 2 }) State.reset)
     Inv s ∧ pendingVectors s 1 = [0] ∧ 0 ∉ (s.port 1).unmasked) ∧
    (let s := linkedHost (ram (State.reset.set 1 Reg.host_CFG_APERTURE_EN 0))
     Inv s ∧ inBar2 s 1 (2 ^ 30 - 4) 4 = true ∧ [0#8, 1#8, 2#8, 3#8].length = 4 ∧ s.get 1 Reg.host_CFG_APERTURE_EN = 0) ∧
    (let s := linkedHost (ram (State.reset.set 1 Reg.host_CFG_APERTURE_EN 1))
     Inv s ∧ inBar2 s 1 0 4 = true ∧ s.get 1 Reg.host_CFG_APERTURE_EN = 1 ∧ rangePoisoned s (apertureBase s 1 + 0) 4 = false ∧ apertureBase s 1 + 0 + 4 ≤ dramCapacity s) ∧
    (let s := linkedHost ({ ram (State.reset.set 1 Reg.host_CFG_APERTURE_EN 1) with poison := [0] })
     Inv s ∧ inBar2 s 1 0 4 = true ∧ rangePoisoned s (apertureBase s 1 + 0) 4 = true) ∧
    (let s := State.reset.set 0 (thmAt Reg.thm_THM_LAPSED 255) Origin.keeper.code
     Inv s ∧ accessCode s .keeper .thm 0 (0x100 + 4 * 255) 1 = 0 ∧ s.get 0 (thmAt Reg.thm_THM_LAPSED 255) = Origin.keeper.code ∧ (s.hdr .thm 0).errCode = 0) ∧
    (let s := State.reset
     Inv s ∧ accessCode s .keeper .thm 0 (0x100 + 4 * 255) 1 = 0 ∧ s.get 0 (thmAt Reg.thm_THM_LAPSED 255) ≠ Origin.keeper.code ∧ thmOwner s 255 = 0) ∧
    (let s := State.reset.set 0 (thmAt Reg.thm_THM_OWNER 255) Origin.keeper.code
     Inv s ∧ accessCode s .keeper .thm 0 (0x100 + 4 * 255) 1 = 0 ∧ s.get 0 (thmAt Reg.thm_THM_LAPSED 255) ≠ Origin.keeper.code ∧ thmOwner s 255 = Origin.keeper.code ∧ thmOwner s 255 ≠ 0) ∧
    (let s := granted .thm 0 (State.reset.set 0 (thmAt Reg.thm_THM_OWNER 255) 1)
     Inv s ∧ accessCode s .hostB .thm 0 (0x100 + 4 * 255) 1 = 0 ∧ s.get 0 (thmAt Reg.thm_THM_LAPSED 255) ≠ Origin.hostB.code ∧ thmOwner s 255 ≠ 0 ∧ thmOwner s 255 ≠ Origin.hostB.code ∧ Origin.hostB.code ≠ 5 ∧ s.thmTimers.contains 255 = false) ∧
    (let s := { State.reset.set 0 (thmAt Reg.thm_THM_OWNER 255) 1 with thmTimers := [255] }
     Inv s ∧ s.thmTimers.contains 255 = true ∧ thmOwner s 255 ≠ 0) :=
  ⟨⟨inv_of_test (by decide +kernel), by decide +kernel⟩, ⟨inv_of_test (by decide +kernel), by decide +kernel⟩, ⟨inv_of_test (by decide +kernel), by decide +kernel⟩, ⟨inv_of_test (by decide +kernel), by decide +kernel⟩, ⟨inv_of_test (by decide +kernel), by decide +kernel⟩, ⟨inv_of_test (by decide +kernel), by decide +kernel⟩, ⟨inv_of_test (by decide +kernel), by decide +kernel⟩, ⟨inv_of_test (by decide +kernel), by decide +kernel⟩, ⟨inv_of_test (by decide +kernel), by decide +kernel⟩, ⟨inv_of_test (by decide +kernel), by decide +kernel⟩, ⟨inv_of_test (by decide +kernel), by decide +kernel⟩, ⟨inv_of_test (by decide +kernel), by decide +kernel⟩⟩

/-- Ring 15 of page 1 in a state, 16 slots, WEIGHT 1, at HEAD 0 and a TAIL. -/
def ring (st tail : Nat) (s : State) : State :=
  rset 1 15 Reg.dma_RING_STATUS_STATE st (rset 1 15 Reg.dma_RING_TAIL_INDEX tail
    (rset 1 15 Reg.dma_RING_CFG (0x10004 + if st = 0 then 0 else 0x80000000) s))

/-- A descriptor of 64 bytes with the CRC that fits. -/
def sealDesc (a : List Byte) (value : Nat) : List Byte :=
  a ++ List.replicate 12 0#8 ++ bytesLE 4 value ++ List.replicate 12 0#8 ++
    bytesLE 4 (crc32c (a ++ List.replicate 4 0#8 ++ bytesLE 4 value ++ List.replicate 12 0#8))

/-- The first 32 bytes of a descriptor of one row. -/
def opDesc (op len src dst : Nat) : List Byte :=
  bytesLE 1 op ++ [1#8] ++ bytesLE 2 1 ++ bytesLE 4 len ++ bytesLE 8 src ++ bytesLE 8 dst ++ List.replicate 8 0#8

theorem witness_RingsRun :
    (let s := ring 0 0 State.reset
     Inv s ∧ accessCode s .keeper .dma 1 (0x100 + 0x20 * 15) 1 = 0 ∧ (let cfg := s.word .dma 1 (0x100 + 0x20 * 15); 4 ≤ bitsOf cfg 0 4 ∧ bitsOf cfg 0 4 ≤ 12 ∧ 1 ≤ bitsOf cfg 16 8 ∧ baseFits (bitsOf cfg 8 1) (rget s 1 15 Reg.dma_RING_BASE_HI_ADDR) = true) ∧ ringState s 1 15 = 0) ∧
    (let s := rset 1 15 Reg.dma_RING_BASE_HI_ADDR 256 (rset 1 15 Reg.dma_RING_CFG 0x10104 State.reset)
     Inv s ∧ accessCode s .keeper .dma 1 (0x100 + 0x20 * 15) 1 = 0 ∧ (let cfg := s.word .dma 1 (0x100 + 0x20 * 15); 4 ≤ bitsOf cfg 0 4 ∧ bitsOf cfg 0 4 ≤ 12 ∧ 1 ≤ bitsOf cfg 16 8 ∧ ¬baseFits (bitsOf cfg 8 1) (rget s 1 15 Reg.dma_RING_BASE_HI_ADDR) = true) ∧ ringState s 1 15 = 0) ∧
    (let s := ring 1 0 State.reset
     Inv s ∧ accessCode s .keeper .dma 1 (0x100 + 0x20 * 15) 1 = 0 ∧ accessCode s .keeper .dma 1 (0x100 + 0x20 * 15 + 0x10) 1 = 0 ∧ accessCode s .keeper .dma 1 (0x100 + 0x20 * 15 + 0x1C) 1 = 0 ∧ (let cfg := s.word .dma 1 (0x100 + 0x20 * 15); 4 ≤ bitsOf cfg 0 4 ∧ bitsOf cfg 0 4 ≤ 12 ∧ 1 ≤ bitsOf cfg 16 8) ∧ ringState s 1 15 ≠ 0 ∧ ringState s 1 15 ≠ 2 ∧ ringSlots s 1 15 ≤ 16 ∧ 15 < ringSlots s 1 15) ∧
    (let s := ring 2 3 State.reset
     Inv s ∧ accessCode s .keeper .dma 1 (0x100 + 0x20 * 15 + 0x1C) 1 = 0 ∧ ringState s 1 15 = 2) ∧
    (let s := ring 1 3 (ram State.reset)
     Inv s ∧ ringBusy s 1 15 = true ∧ ringLocal s 1 15 = false ∧ rget s 1 15 Reg.dma_RING_CFG_SIZE_LOG2 ≤ 12 ∧ rget s 1 15 Reg.dma_RING_CFG_EN = 1 ∧ (s.hdr .dma 1).errCode = 0 ∧
      (List.replicate 64 0#8).length = 64 ∧ (readDescriptor (List.replicate 64 0#8) false).good = false ∧
      (let l := sealDesc (opDesc 0 0 0 0) 0; l.length = 64 ∧ (readDescriptor l false).good = true ∧ (readDescriptor l false).bad s = true) ∧
      (let l := sealDesc (opDesc 0 4 0 64) 0; (readDescriptor l false).good = true ∧ (readDescriptor l false).bad s = false ∧ (readDescriptor l false).rows = 1 ∧ (readDescriptor l false).op = 0 ∧ (readDescriptor l false).len = 4 ∧ (readDescriptor l false).irq = true) ∧
      (let l := sealDesc (opDesc 2 4 0 64) 0; (readDescriptor l false).good = true ∧ (readDescriptor l false).bad s = false ∧ (readDescriptor l false).rows = 1 ∧ (readDescriptor l false).op = 2) ∧ s.poison = [] ∧
      (let l := sealDesc (opDesc 3 4 0 0x44) 7; l.length = 64 ∧ (readDescriptor l false).good = true ∧ (readDescriptor l false).bad s = false ∧ (readDescriptor l false).op = 3 ∧ (readDescriptor l false).value = 7 ∧
      ringState (busStep 0 (writeReg .hostB 0 (readDescriptor l false).dst (BitVec.ofNat 32 7)) s) 1 15 ≠ 0)) :=
  ⟨⟨inv_of_test (by decide +kernel), by decide +kernel⟩, ⟨inv_of_test (by decide +kernel), by decide +kernel⟩, ⟨inv_of_test (by decide +kernel), by decide +kernel⟩, ⟨inv_of_test (by decide +kernel), by decide +kernel⟩, ⟨inv_of_test (by decide +kernel), by decide +kernel⟩⟩

/-! ### Security -/

/-- A state in which the monitor runs with one command waiting, from an origin. -/
def monitor (o op cls addr len : Nat) (s : State) : State :=
  { s.setState .sec 0 1 with
    sup := { s.sup with mgmtReset := false }
    sec := { s.sec with queue := [{ origin := o, op := op, cls := cls, addr := addr, len := len }] } }

/-- What `Obligations.MonitorRunsCommands` asks of every case. -/
abbrev runsNow (s : State) : Prop :=
  s.sup.mgmtReset = false ∧ s.stateOf .sec 0 = 1 ∧ (∃ c, s.sec.queue = [c] ∧ c.origin < 8) ∧ Tbl.sorted s.sec.copies = true ∧
    Tbl.sorted s.sec.rollback = true ∧ Tbl.sorted s.sec.slots = true

theorem runsNow_of (s : State) (h : (!s.sup.mgmtReset && s.stateOf .sec 0 == 1 && s.sec.queue.length == 1 && s.sec.queue.all (fun c => decide (c.origin < 8))
    && Tbl.sorted s.sec.copies && Tbl.sorted s.sec.rollback && Tbl.sorted s.sec.slots) = true) : runsNow s := by
  simp only [Bool.and_eq_true, beq_iff_eq, Bool.not_eq_true', List.all_eq_true, decide_eq_true_eq] at h
  obtain ⟨⟨⟨⟨⟨⟨h1, h2⟩, h3⟩, h4⟩, h5⟩, h6⟩, h7⟩ := h
  obtain ⟨c, hc⟩ := List.length_eq_one_iff.mp h3
  exact ⟨h1, h2, ⟨c, hc, h4 c (hc ▸ List.mem_singleton_self c)⟩, h5, h6, h7⟩

theorem shake_length (l : List Byte) : (shake l).length = 64 := by simp [shake, padTo]

/-- The first 24 bytes of an image without payload, for an enrolled part. -/
def head24 (cls : Nat) : List Byte := [0x5A#8, 0x52#8, 0x42#8, 0x4E#8, 1#8, 0#8, BitVec.ofNat 8 cls, 1#8] ++ List.replicate 16 0#8

/-- An image without payload, with a key and a signature of zeros. -/
def signed (cls : Nat) : List Byte := head24 cls ++ (shake [] ++ List.replicate 5544 0#8)

theorem signed_drop (cls k : Nat) : (signed cls).drop (88 + k) = List.replicate (5544 - k) 0#8 := by
  have h1 : (head24 cls).length = 24 := by simp [head24]
  have h2 := shake_length []
  rw [signed, ← List.append_assoc, List.drop_append, List.drop_eq_nil_of_le (by simp only [List.length_append, h1, h2]; omega)]
  rw [List.nil_append, List.drop_replicate, List.length_append, h1, h2]
  congr 1
  omega

theorem signed_image_passes (cls : Fin 6) (s : State) (ho : s.sec.owner = shake (List.replicate 1952 0#8))
    (hr : rollbackOf s cls.val = 0)
    (hv : Config.mldsaVerify (List.replicate 1952 0#8) ((signed cls.val).take 2144) (List.replicate 3309 0#8) = true) :
    checkImage s (signed cls.val) 5632 = 0 ∧ imgClass (signed cls.val) = cls.val := by
  have hn : s.sec.owner ≠ [] := by
    intro h; have := shake_length (List.replicate 1952 0#8); rw [← ho, h] at this; simp at this
  have h192 : ((signed cls.val).drop 192).take 1952 = List.replicate 1952 0#8 := by
    rw [signed_drop cls.val 104, List.take_replicate]; rfl
  have h2144 : ((signed cls.val).drop 2144).take 3309 = List.replicate 3309 0#8 := by
    rw [signed_drop cls.val 2056, List.take_replicate]; rfl
  have hb : imgBind (signed cls.val) = List.replicate 64 0#8 := by
    rw [imgBind, signed_drop cls.val 0, List.take_replicate]; rfl
  have hc : imgClass (signed cls.val) = cls.val := by
    show (BitVec.ofNat 8 cls.val).toNat + 256 * 0 = _
    simp; omega
  have hl : imgLen (signed cls.val) = 0 := by rfl
  have hk : imgKeySel (signed cls.val) = 1 := by rfl
  have hm : (signed cls.val).take 4 = [0x5A, 0x52, 0x42, 0x4E] := by rfl
  have hver : leAt (signed cls.val) 4 2 = 1 := by rfl
  have hp : imgPayload (signed cls.val) = [] := by rw [imgPayload, hl]; rfl
  have hh : ((signed cls.val).drop 24).take 64 = shake [] := by
    have h1 : (head24 cls.val).length = 24 := by simp [head24]
    rw [signed, List.drop_append, List.drop_eq_nil_of_le (by omega), h1, List.nil_append, Nat.sub_self, List.drop_zero,
      List.take_append_of_le_length (Nat.le_of_eq (shake_length []).symm),
      List.take_of_length_le (Nat.le_of_eq (shake_length []))]
  refine ⟨?_, hc⟩
  have hsel : selectedHash s = shake (List.replicate 1952 0#8) := by rw [selectedHash, if_neg hn, ho]
  have h6 : cls.val ≠ 6 := by omega
  have hle : ¬ 6 < cls.val := by omega
  have hlim : classLimit cls.val < 0 ↔ False := by simp
  simp only [checkImage, h192, h2144, hb, hc, hl, hk, hm, hver, hp, hh, hsel, hv, hr, imgBytes, if_neg hn, h6, hle, hlim]
  rw [if_neg (by simp only [ne_eq, not_true_eq_false, false_or]; omega),
    if_neg (by simp only [ne_eq, not_true_eq_false, or_false, false_and, not_false_eq_true]),
    if_neg (by simp only [Bool.not_true, Bool.false_eq_true, not_false_eq_true]),
    if_neg (fun h => h.1 rfl), if_neg (fun h => Nat.not_lt_zero _ h.2), if_neg (fun h => h rfl)]

/-- Two cases stay with free values: the checks of R479 that pass (`signed_image_passes` shows what is asked of the signature),
and a token that verifies (the last case but one, given `Config.mldsaVerify` accepts it). -/
theorem witness_MonitorRunsCommands :
    (let s := monitor 1 1 0 0 0 State.reset
     Inv s ∧ runsNow s ∧ checkImage s (cmdImage ⟨1, 1, 0, 0, 0⟩ (s.at 0)).1 0 ≠ 0 ∧ hostOrSvc 1 = true) ∧
    (let s := monitor 4 1 0 0 0 State.reset
     Inv s ∧ runsNow s ∧ ¬hostOrSvc 4 = true) ∧
    (let s := monitor 3 3 2 0 0 State.reset
     Inv s ∧ runsNow s ∧ slotted 2 = false ∧ hostOrSvc 3 = true) ∧
    (let s := monitor 3 3 5 0 0 State.reset
     Inv s ∧ runsNow s ∧ slotted 5 = true ∧ slotGood s 5 (inactiveSlot s 5) = false) ∧
    (let s := monitor 3 4 6 0 0 State.reset
     Inv s ∧ runsNow s ∧ 5 < 6) ∧
    (let s := monitor 3 4 5 0 0 (setRunning 5 (some 1) State.reset)
     Inv s ∧ runsNow s ∧ runningOf s 5 = some 1) ∧
    (let s := monitor 3 5 5 0 0 (setTrial 5 2 (setRunning 5 (some 0) State.reset))
     Inv s ∧ runsNow s ∧ onTrial s 5 = true) ∧
    (let s := monitor 3 5 5 0 0 (setRunning 5 (some 0) State.reset)
     Inv s ∧ runsNow s ∧ onTrial s 5 = false ∧ (advanceTo s 5).isSome = true) ∧
    (let s := monitor 3 6 0 0 8697 { State.reset with sec := { Sec.reset with akErased := true } }
     Inv s ∧ runsNow s ∧ s.sec.akErased = true) ∧
    (let s := monitor 3 6 0 0 8697 State.reset
     Inv s ∧ runsNow s ∧ s.sec.akErased = false ∧ 8697 < 8698 + 80 * s.sec.entries.length) ∧
    (let s := monitor 3 6 0 0 8698 State.reset
     Inv s ∧ runsNow s ∧ s.sec.akErased = false ∧ 8698 + 80 * s.sec.entries.length ≤ 8698) ∧
    (let s := monitor 3 8 0 0 128 State.reset
     Inv s ∧ runsNow s ∧ s.sec.debugLock = false ∧ (128 : Nat) ≤ 128) ∧
    (let s := monitor 3 8 0 0 128 { State.reset with sec := { Sec.reset with debugLock := true } }
     Inv s ∧ runsNow s ∧ s.sec.debugLock = true) ∧
    (let s := monitor 3 9 0 0 3441 State.reset
     Inv s ∧ runsNow s ∧ s.sec.challenge = none) ∧
    (let s := monitor 3 9 0 0 3441 { ram State.reset with sec := { Sec.reset with challenge := some (List.replicate 128 0#8) } }
     Inv s ∧ runsNow s ∧ rangePoisoned s 0 3441 = false ∧ s.sec.challenge = some ((memBytes s.dram 0 3441).take 128) ∧ leAt (memBytes s.dram 0 3441) 128 4 < 16) ∧
    (let s := monitor 3 10 0 0 0 { State.reset with sec := { Sec.reset with owner := [1#8] } }
     Inv s ∧ runsNow s ∧ s.sec.owner ≠ []) :=
  ⟨⟨inv_of_test (by decide +kernel), runsNow_of _ (by decide +kernel), by decide +kernel⟩,
    ⟨inv_of_test (by decide +kernel), runsNow_of _ (by decide +kernel), by decide +kernel⟩,
    ⟨inv_of_test (by decide +kernel), runsNow_of _ (by decide +kernel), by decide +kernel⟩,
    ⟨inv_of_test (by decide +kernel), runsNow_of _ (by decide +kernel), by decide +kernel⟩,
    ⟨inv_of_test (by decide +kernel), runsNow_of _ (by decide +kernel), by decide +kernel⟩,
    ⟨inv_of_test (by decide +kernel), runsNow_of _ (by decide +kernel), by decide +kernel⟩,
    ⟨inv_of_test (by decide +kernel), runsNow_of _ (by decide +kernel), by decide +kernel⟩,
    ⟨inv_of_test (by decide +kernel), runsNow_of _ (by decide +kernel), by decide +kernel⟩,
    ⟨inv_of_test (by decide +kernel), runsNow_of _ (by decide +kernel), by decide +kernel⟩,
    ⟨inv_of_test (by decide +kernel), runsNow_of _ (by decide +kernel), by decide +kernel⟩,
    ⟨inv_of_test (by decide +kernel), runsNow_of _ (by decide +kernel), by decide +kernel⟩,
    ⟨inv_of_test (by decide +kernel), runsNow_of _ (by decide +kernel), by decide +kernel⟩,
    ⟨inv_of_test (by decide +kernel), runsNow_of _ (by decide +kernel), by decide +kernel⟩,
    ⟨inv_of_test (by decide +kernel), runsNow_of _ (by decide +kernel), by decide +kernel⟩,
    ⟨inv_of_test (by decide +kernel), runsNow_of _ (by decide +kernel), by decide +kernel⟩,
    ⟨inv_of_test (by decide +kernel), runsNow_of _ (by decide +kernel), by decide +kernel⟩⟩

theorem witness_FirmwareHandsOver :
    (let s := State.reset.set 0 Reg.sec_HANDOVER_TIMEOUT_MS 100
     Inv s ∧ accessCode s .keeper .sec 0 0x64 1 = 0 ∧ 100 ≤ s.get 0 Reg.sec_HANDOVER_TIMEOUT_MS ∧ s.get 0 Reg.sec_HANDOVER_PHASE ≠ 1 ∧ s.get 0 Reg.sec_HANDOVER_PHASE ≠ 2) ∧
    (let s := granted .sec 0 ((State.reset.set 0 Reg.sec_HANDOVER_TIMEOUT_MS 100).set 0 Reg.sec_HANDOVER_PHASE 1)
     Inv s ∧ Tbl.sorted s.sec.running = true ∧ Tbl.sorted s.sec.slots = true ∧ accessCode s .ap .sec 0 0x64 1 = 0 ∧ 100 ≤ s.get 0 Reg.sec_HANDOVER_TIMEOUT_MS ∧ s.get 0 Reg.sec_HANDOVER_PHASE = 1) ∧
    (let s := granted .sec 0 ((State.reset.set 0 Reg.sec_HANDOVER_TIMEOUT_MS 100).set 0 Reg.sec_HANDOVER_PHASE 2)
     Inv s ∧ Tbl.sorted s.sec.running = true ∧ Tbl.sorted s.sec.slots = true ∧ accessCode s .ap .sec 0 0x64 1 = 0 ∧ 100 ≤ s.get 0 Reg.sec_HANDOVER_TIMEOUT_MS ∧ s.get 0 Reg.sec_HANDOVER_PHASE = 2) :=
  ⟨⟨inv_of_test (by decide +kernel), by decide +kernel⟩, ⟨inv_of_test (by decide +kernel), by decide +kernel⟩, ⟨inv_of_test (by decide +kernel), by decide +kernel⟩⟩

/-! ### Supervision -/

/-- The supervisor in a state, with the management complex running or in reset. -/
def supervised (st : Nat) (reset : Bool) (s : State) : State :=
  { s.setState .sup 0 st with sup := { s.sup with mgmtReset := reset } }

/-- The Selvedge path is engaged at a phase of its link. -/
def engagedAt (phase : Nat) (pairs : List (Nat × Nat)) (s : State) : State :=
  { s with sup := { s.sup with engaged := true, svbPhase := phase, svbPairs := pairs } }

/-- A record with quadrant 3 on and a MAX_AGE_MS of 100. -/
def quadRecord : List Byte := [0#8, 0#8, 8#8, 0#8, 100#8, 0#8] ++ List.replicate 122 0#8

theorem witness_PathEngages :
    (let s := supervised 0 true State.reset
     Inv s ∧ svPort s < 8 ∧ s.sup.mgmtReset = true ∧ accessCode s .keeper .sup 0 0x44 1 = 0 ∧ accessCode s .keeper .sup 0 0x48 1 = 0 ∧ s.stateOf .sup 0 ≠ 1 ∧ s.stateOf .sup 0 ≠ 2) ∧
    (let s := supervised 2 false State.reset
     Inv s ∧ svPort s < 8 ∧ accessCode s .keeper .sup 0 0x44 1 = 0 ∧ accessCode s .keeper .sup 0 0x48 1 = 0 ∧ s.stateOf .sup 0 = 2 ∧ (255 : Nat) ≠ (s.get 0 Reg.sup_HEARTBEAT_SEQ + 1) % 256 ∧ (s.get 0 Reg.sup_HEARTBEAT_SEQ + 1) % 256 < 256 ∧ s.sup.firstSeen = false ∧ s.sup.missTimes.length = 0 ∧ s.sup.mgmtReset = false) ∧
    (let s := { supervised 1 false State.reset with sup := { State.reset.sup with mgmtReset := false, firstSeen := true, interval := 10, missTimes := [0, 0] } }
     Inv s ∧ svPort s < 8 ∧ s.stateOf .sup 0 = 1 ∧ s.sup.beatAt + msT s.sup.interval ≤ msT 10 ∧ s.sup.mgmtReset = false ∧ msT 9 < s.sup.beatAt + msT s.sup.interval ∧ 2 ≤ (s.sup.missTimes.filter (fun m => decide (s.sup.base + max s.now (msT 10) ≤ m + msT 60000))).length) ∧
    (let s := { supervised 0 false State.reset with pins := { State.reset.pins with held := false } }
     Inv s ∧ svPort s < 8 ∧ s.stateOf .sup 0 = 0 ∧ s.sup.firstSeen = false ∧ s.pins.held = false ∧ s.get 0 Reg.sup_STATUS_RECOVERY = 0 ∧ s.sup.windowAt + msT 3000 ≤ msT 3000 ∧ s.sup.mgmtReset = false ∧ msT 2999 < s.sup.windowAt + msT 3000) ∧
    (let s := supervised 2 true State.reset
     Inv s ∧ svPort s < 8 ∧ s.sup.mgmtReset = true ∧ s.stateOf .sup 0 = 2) ∧
    (let s := { State.reset with sup := { State.reset.sup with latched := true } }
     Inv s ∧ svPort s < 8 ∧ s.sup.latched = true ∧ s.sup.engaged = false ∧ memoryLost s = false) ∧
    (let s := engagedAt 0 [] (State.reset.set 0 Reg.sup_SV_CAUSE 1)
     Inv s ∧ svPort s < 8 ∧ s.get 0 Reg.sup_SV_CAUSE = 1 ∧ s.sup.engaged = true) ∧
    (let s := engagedAt 0 [] (State.reset.set 0 Reg.sup_SV_CAUSE 8)
     Inv s ∧ svPort s < 8 ∧ s.get 0 Reg.sup_SV_CAUSE = 8 ∧ s.sup.engaged = true) ∧
    (let s := { setSubState 0 3 (ram State.reset) with mem := { (ram State.reset).mem with stuck := [0] } }
     Inv s ∧ memoryLost s = true ∧ svPort s < 8 ∧ accessCode s .keeper .sup 0 0x48 1 = 0) :=
  ⟨⟨inv_of_test (by decide +kernel), by decide +kernel⟩, ⟨inv_of_test (by decide +kernel), by decide +kernel⟩, ⟨inv_of_test (by decide +kernel), by decide +kernel⟩, ⟨inv_of_test (by decide +kernel), by decide +kernel⟩, ⟨inv_of_test (by decide +kernel), by decide +kernel⟩, ⟨inv_of_test (by decide +kernel), by decide +kernel⟩, ⟨inv_of_test (by decide +kernel), by decide +kernel⟩, ⟨inv_of_test (by decide +kernel), by decide +kernel⟩, ⟨inv_of_test (by decide +kernel), by decide +kernel⟩⟩

theorem witness_ResetsAndTrips :
    (let s := State.reset
     Inv s ∧ svPort s < 8 ∧ s.pins.resetN = false ∧ s.stateOf .sup 0 ≠ 4 ∧ s.stateOf .sec 0 ≠ 3 ∧ s.get 0 Reg.sup_THERMAL_WARN = 0 ∧ s.sup.hot = 0) ∧
    (let s := { (State.reset.setState .sup 0 4).set 0 Reg.sup_THERMAL_MAX 1840 with pins := { State.reset.pins with safeviewReqN := false } }
     Inv s ∧ svPort s < 8 ∧ s.stateOf .sup 0 = 4 ∧ 1840 ≤ toSigned 16 (s.get 0 Reg.sup_THERMAL_MAX) ∧ s.pins.resetN = false ∧ s.pins.safeviewReqN = false) ∧
    (let s := { (State.reset.setState .sec 0 3).set 0 Reg.sup_THERMAL_WARN 1 with pins := { State.reset.pins with resetN := true } }
     Inv s ∧ svPort s < 8 ∧ s.stateOf .sec 0 = 3 ∧ checkImage s [] 0 ≠ 0 ∧ Tbl.sorted s.sec.slots = true ∧ s.pins.resetN = true ∧ s.get 0 Reg.sup_THERMAL_WARN = 1) ∧
    ((let mx := fun temps : List Int => (List.range 16).foldl (fun a k => max a (temps.getD k 0)) (temps.getD 0 0); mx (List.replicate 16 2000) = 2000 ∧ mx (List.replicate 16 1680) = 1680 ∧ mx (List.replicate 16 1599) = 1599 ∧ mx (List.replicate 16 (-32768)) = -32768 ∧ mx (List.replicate 16 32767) = 32767)) ∧
    (let s := { State.reset with pins := { State.reset.pins with resetN := true }, sup := { State.reset.sup with hot := 1 } }
     Inv s ∧ 1 ≤ s.sup.hot ∧ s.stateOf .sup 0 ≠ 4 ∧ s.pins.resetN = true ∧ svPort s < 8) :=
  ⟨⟨inv_of_test (by decide +kernel), by decide +kernel⟩, ⟨inv_of_test (by decide +kernel), by decide +kernel⟩, ⟨inv_of_test (by decide +kernel), by decide +kernel⟩, by decide +kernel, ⟨inv_of_test (by decide +kernel), by decide +kernel⟩⟩

theorem witness_SelvedgeTrainsAndShows :
    (let s := engagedAt 1 [] (State.reset.set (svPort State.reset) Reg.dpo_LINK_STATUS_HPD 0)
     Inv s ∧ s.sup.engaged = true ∧ s.sup.svbPhase = 1 ∧ s.get (svPort s) Reg.dpo_LINK_STATUS_HPD = 0) ∧
    (let s := engagedAt 3 [] (State.reset.set (svPort State.reset) Reg.dpo_LINK_STATUS_HPD 1)
     Inv s ∧ s.sup.engaged = true ∧ s.sup.svbPhase = 3 ∧ s.get (svPort s) Reg.dpo_LINK_STATUS_HPD = 1 ∧
      svbLadder.filter (fun x => decide (linkRate x.1 ≤ linkRate 10) && decide (x.2 ≤ 0)) = [] ∧ svbLadder.filter (fun x => decide (linkRate x.1 ≤ linkRate 0) && decide (x.2 ≤ 4)) ≠ []) ∧
    (let s := State.reset
     Inv s ∧ s.sup.engaged = false) ∧
    (let s := engagedAt 2 [(1, 2), (2, 1)] State.reset
     Inv s ∧ s.sup.engaged = true ∧ s.sup.svbPhase = 2 ∧ s.sup.svbPairs = [(1, 2), (2, 1)] ∧ 1 < 16 ∧ 2 < 8) ∧
    (let s := engagedAt 2 [(2, 1)] State.reset
     Inv s ∧ s.sup.engaged = true ∧ s.sup.svbPhase = 2 ∧ s.sup.svbPairs = [(2, 1)]) ∧
    (let s := { engagedAt 0 [] (State.reset.set 0 Reg.svb_STATUS_QUAD_STALE 8) with sup := { (engagedAt 0 [] State.reset).sup with record := quadRecord } }
     Inv s ∧ Tbl.sorted s.sup.svbLines = true ∧ s.sup.engaged = true ∧ quadOn s.sup.record 3 = true ∧ quadOn s.sup.record 2 = false ∧ getBit (svbStale s) 3 = true ∧ 539 < 540) ∧
    (let s := { engagedAt 0 [] State.reset with sup := { (engagedAt 0 [] State.reset).sup with record := quadRecord, quadTimes := [(3, 1)] } }
     Inv s ∧ s.sup.engaged = true ∧ quadOn s.sup.record 3 = true ∧ getBit (svbStale s) 3 = false ∧ msT (leAt s.sup.record 4 2) < quadAge s 3 (msT 101) ∧ ¬msT (leAt s.sup.record 4 2) < quadAge s 3 (msT 100)) :=
  ⟨⟨inv_of_test (by decide +kernel), by decide +kernel⟩, ⟨inv_of_test (by decide +kernel), by decide +kernel⟩, ⟨inv_of_test (by decide +kernel), by decide +kernel⟩, ⟨inv_of_test (by decide +kernel), by decide +kernel⟩, ⟨inv_of_test (by decide +kernel), by decide +kernel⟩, ⟨inv_of_test (by decide +kernel), by decide +kernel⟩, ⟨inv_of_test (by decide +kernel), by decide +kernel⟩⟩

/-! ### Staged checks -/

/-- A page whose commit waits for its check. -/
def waiting (b : Block) (n : Nat) (s : State) : State :=
  hd b n (fun h => { h with pendingCommit := true, busy := true, outcome := 1, enableStaged := true }) s

theorem witness_StagedValuesChecked :
    (let s := State.reset
     Inv s ∧ (s.hdr .head 3).pendingCommit = false) ∧
    (let s := waiting .time 3 State.reset
     Inv s ∧ 3 < blkCount .time ∧ blkCommits .time = true ∧ (s.hdr .time 3).pendingCommit = true ∧ (s.hdr .time 3).checked = false ∧ rateStagedOk (s.at 0) 3 = true) ∧
    (let s := waiting .time 3 (State.reset.setS 3 Reg.time_RATE_HI_RATE 127)
     Inv s ∧ (s.hdr .time 3).pendingCommit = true ∧ rateStagedOk (s.at 0) 3 = false ∧ (s.hdr .time 3).errCode = 0) ∧
    (let s := waiting .ddrc 3 (State.reset.setState .ddrc 3 2)
     Inv s ∧ 3 < blkCount .ddrc ∧ blkCommits .ddrc = true ∧ (s.hdr .ddrc 3).pendingCommit = true ∧ (s.hdr .ddrc 3).checked = false ∧ 1 < (s.hdr .ddrc 3).state) ∧
    (let s := waiting .ddrc 3 (State.reset.setState .ddrc 3 1)
     Inv s ∧ (s.hdr .ddrc 3).pendingCommit = true ∧ (s.hdr .ddrc 3).state ≤ 1) ∧
    (let s := waiting .camp 39 (State.reset.setS 39 Reg.camp_BUS_CFG_SYNC 1)
     Inv s ∧ 39 < blkCount .camp ∧ blkCommits .camp = true ∧ (s.hdr .camp 39).pendingCommit = true ∧ checkPort (s.at 0) 39 = some (1, 0)) ∧
    (let s := waiting .cams 7 ((State.reset.setS 7 Reg.cams_PHY_CFG_MODE 1).setS 7 Reg.cams_PHY_RATE_RATE 4501)
     Inv s ∧ 7 < blkCount .cams ∧ blkCommits .cams = true ∧ (s.hdr .cams 7).pendingCommit = true ∧ checkPort (s.at 0) (40 + 7) = some (1, 0)) ∧
    (let s := waiting .strm 47 (State.reset.setS 47 Reg.strm_STAGE_ROWS_ROWS 0)
     Inv s ∧ 47 < blkCount .strm ∧ blkCommits .strm = true ∧ (s.hdr .strm 47).pendingCommit = true ∧ checkFields (place (applyGroup .strm 47 (s.at 0))) 47 = some (1, 0)) ∧
    (let s := waiting .enc 3 ((State.reset.setS 3 (Reg.enc_CTX_CFG_EN.at (ctxOff 31)) 1).setS 3 (Reg.enc_CTX_GEOM_WIDTH.at (ctxOff 31)) 9)
     Inv s ∧ 3 < blkCount .enc ∧ blkCommits .enc = true ∧ (s.hdr .enc 3).pendingCommit = true ∧ checkEnc (s.at 0) 3 = some (1, 127)) ∧
    (let s := waiting .head 3 (State.reset.setS 3 Reg.head_H_TIMING_H_TOTAL 0)
     Inv s ∧ 3 < blkCount .head ∧ blkCommits .head = true ∧ (s.hdr .head 3).pendingCommit = true ∧ checkHead (readTables 3 (s.at 0)) 3 = some (6, 0)) :=
  ⟨⟨inv_of_test (by decide +kernel), by decide +kernel⟩, ⟨inv_of_test (by decide +kernel), by decide +kernel⟩, ⟨inv_of_test (by decide +kernel), by decide +kernel⟩, ⟨inv_of_test (by decide +kernel), by decide +kernel⟩, ⟨inv_of_test (by decide +kernel), by decide +kernel⟩, ⟨inv_of_test (by decide +kernel), by decide +kernel⟩, ⟨inv_of_test (by decide +kernel), by decide +kernel⟩, ⟨inv_of_test (by decide +kernel), by decide +kernel⟩, ⟨inv_of_test (by decide +kernel), by decide +kernel⟩, ⟨inv_of_test (by decide +kernel), by decide +kernel⟩⟩

/-! ### Values of the spec -/

/-- The nine ASCII bytes "123456789" of R348. -/
def digits : List Byte := [0x31, 0x32, 0x33, 0x34, 0x35, 0x36, 0x37, 0x38, 0x39]

/-- R348: the check values of its table. -/
theorem test_check_values :
    checkValue 0 digits = 0xE3069283 ∧ checkValue 1 digits = 0xCBF43926 ∧ checkValue 2 digits = 0x29B1 ∧ checkValue 3 digits = 0xDF := by
  decide +kernel

/-- With an empty queue the block idles. -/
theorem test_idle : step State.reset = .next State.reset := by rfl

/-- R24: RIGHTS at reset is 0x0070_0000, and EVENT_ROUTE names the keeper. -/
theorem test_header_reset :
    readReg State.reset .keeper (addrOf .enc 3 0x30) = 0x00700000 ∧ readReg State.reset .keeper (addrOf .enc 3 0x18) = 4 := by
  decide +kernel

/-- R28: a write without the right is error 0x03, with the origin and the offset. -/
theorem test_write_right :
    let h := (go (.eventEnableWrite .hostB ⟨.strm, 5, 2⟩ 0xFF 0) State.reset).hdr .strm 5
    h.errCode = 3 ∧ h.errOrigin = 2 ∧ h.errOff = 0x10 ∧ h.errPage = 2 ∧ h.evEnable = 0 := by
  decide +kernel

/-- R24: EVENT_ENABLE takes the value the keeper writes. -/
theorem test_event_enable :
    ((go (.eventEnableWrite .keeper ⟨.strm, 5, 2⟩ 0xFF 0) State.reset).hdr .strm 5).evEnable = 0xFF := by
  decide +kernel

/-- R33: a COMMIT to the page of a block without staged fields is error 0x10, and SEQUENCE does not advance. -/
theorem test_commit_pace :
    let h := (go (.commit .keeper ⟨.pace, 0, 0⟩ 0) State.reset).hdr .pace 0
    h.errCode = 0x10 ∧ h.seq = 0 ∧ h.outcome = 0 := by
  decide +kernel

/-- R34: a commit request counts SEQUENCE, and OUTCOME is 1. -/
theorem test_commit_head :
    let h := (go (.commit .keeper ⟨.head, 3, 0⟩ 0) State.reset).hdr .head 3
    h.errCode = 0 ∧ h.seq = 1 ∧ h.outcome = 1 := by
  decide +kernel

/-- R31: the first to ask takes a lease. -/
theorem test_lease :
    ((go (.leaseWrite .keeper ⟨.dpo, 7, 0⟩ 5 300 0) State.reset).hdr .dpo 7).owner = 5 ∧
    ((go (.leaseWrite .keeper ⟨.dpo, 7, 0⟩ 1 300 0) State.reset).hdr .dpo 7).errCode = 1 := by
  decide +kernel

/-- R30: a code that is not the one recorded clears nothing. -/
theorem test_error_clear :
    let s := go (.commit .keeper ⟨.pace, 0, 0⟩ 0) State.reset
    ((go (.errorCodeClear .keeper ⟨.pace, 0, 0⟩ 3 0) s).hdr .pace 0).errCode = 0x10 ∧
    ((go (.errorCodeClear .keeper ⟨.pace, 0, 0⟩ 0x10 0) s).hdr .pace 0).errCode = 0 := by
  decide +kernel

/-- R32: when its time is up a lease lapses, LAPSED names its owner and event 28 is raised. -/
theorem test_lease_lapsed :
    let h := (go (.leaseLapsed .head 0 0) (hd .head 0 (fun h => { h with owner := 2, leaseTimer := true }) State.reset)).hdr .head 0
    h.owner = 0 ∧ h.lapsed = 2 ∧ h.raw.getLsbD 28 = true := by
  decide +kernel

/-- R461: a Thimble goes to the first that asks. -/
theorem test_thimble : thmOwner (go (.thimbleAcquire .keeper 255 7 0) State.reset) 255 = 5 := by
  decide +kernel

/-- R454: a link that comes up shows its rate and width. -/
theorem test_host_link :
    let s := go (.hostLinkUp 1 5 4 false 0) State.reset
    s.get 1 Reg.host_LINK_STATUS_GEN = 5 ∧ s.get 1 Reg.host_LINK_STATUS_WIDTH = 4 ∧ hostUp s 1 = true := by
  decide +kernel

/-- R500: SAFEVIEW_REQ_N low sets bit 3 of SV_CAUSE. -/
theorem test_safeview : (go (.safeviewRequest 0) State.reset).get 0 Reg.sup_SV_CAUSE = 8 := by
  decide +kernel

/-- R508: 105 °C warns, in units of 1/16 °C. -/
theorem test_thermal :
    (go (.thermalSample (List.replicate 16 1680) 0) State.reset).get 0 Reg.sup_THERMAL_WARN = 1 ∧
    (go (.thermalSample (List.replicate 16 1679) 0) State.reset).get 0 Reg.sup_THERMAL_WARN = 0 := by
  decide +kernel

/-- R439, R455: bytes written through the aperture are the bytes of DRAM. -/
theorem test_aperture :
    memBytes (go (.bar2Write 1 64 [1#8, 2#8, 3#8] false 0) ((linkedHost (ram State.reset)).set 1 Reg.host_CFG_APERTURE_EN 1)).dram 63 5 =
      [0#8, 1#8, 2#8, 3#8, 0#8] := by
  decide +kernel

/-- R465: a descriptor copies to DRAM. -/
theorem test_dma :
    memBytes (go (.dmaHostToDram 1 15 (sealDesc (opDesc 0 4 0 64) 0) [9#8, 8#8, 7#8, 6#8] 0 0) (ring 1 3 (ram State.reset))).dram 64 4 =
      [9#8, 8#8, 7#8, 6#8] := by
  decide +kernel

/-- R140, R143: the example of the black-level stage: RAW12 code 3,000 with black at 256 is code 0x3_CAE0. -/
theorem test_lf20 : lfRat (3000 - 256) 4096 = 0x3CAE0 ∧ lfVal 0x3CAE0 * 4096 = (3000 - 256) * lfOne := by
  decide +kernel

theorem witness_StepsKeepInv :
    let s := { State.reset with pending := [.eventEnableWrite .keeper ⟨.strm, 5, 2⟩ 0xFF 0] }
    Inv s ∧ ((match step s with | .next u => some u.pending | _ => none) = some []) :=
  ⟨inv_of_test (by decide +kernel), by decide +kernel⟩

end Sys2Proof.Tests
end

section
/-! PROOFS. Reads of the register pages (R29): what a read looks up, and what of it a lease takes part in. -/

namespace Sys2Proof.Machine

variable {s : State} {o : Origin} {b c : Block} {n m off : Nat}

/-- A read at an address of a window is the read at its offset there. -/
theorem readReg_addrOf (hn : n < blkCount b) (ho : off < blkPages b * 0x1000) :
    readReg s o (addrOf b n off) = readAt s o b n off := by
  rw [readReg, locate_addrOf hn ho]

/-- Without the read right a window reads zero but at PAGE_ID (R29). -/
theorem readAt_of_noRight (h0 : off % 0x1000 ≠ 0) (hr : mayDo (s.hdr b n) o.code 0 = false) :
    readAt s o b n off = 0 := by
  have hz : readsZero s o b n off = true := by simp [readsZero, hr]
  simp only [readAt, hz, h0, ne_eq, not_false_eq_true, and_self, if_true]
  split
  · rfl
  · split <;> rfl

/-- PAGE_ID reads for every origin, through every page of the window (R22, R29). -/
theorem readAt_pageId (h0 : off % 0x1000 = 0) : readAt s o b n off = pageIdWord b n := by
  have hh : inHeader off = true := by simp [inHeader, h0]
  simp [readAt, hh, h0, headerWord]

/-! ### A state with other headers -/

/-- A state with another table of headers. -/
def State.withHdrs (s : State) (h : Tbl Header) : State := { s with hdrs := h }

theorem setHdr_eq_withHdrs {x : Header} (hn : n < blkCount b) :
    s.setHdr b n x = s.withHdrs (Tbl.put Header.reset (pageKey b n) x s.hdrs) := if_pos hn

/-- A field is written alike whatever the headers hold. -/
theorem set_withHdrs {h : Tbl Header} {f : Fld} {v : Nat} :
    (s.withHdrs h).set n f v = (s.set n f v).withHdrs h := by
  unfold State.set State.setWord
  split <;> rfl

theorem refreshMisses_withHdrs {h : Tbl Header} : refreshMisses (s.withHdrs h) = (refreshMisses s).withHdrs h :=
  set_withHdrs (s := { s with sup := _ })

theorem showAges_withHdrs {h : Tbl Header} {t : Time} : showAges t (s.withHdrs h) = (showAges t s).withHdrs h := by
  unfold showAges forEach
  rw [refreshMisses_withHdrs]
  exact List.foldl_hom (fun u => State.withHdrs u h) fun _ _ => set_withHdrs

/-- HOLD_LEFT_S looks at the STATE of its own page, and at nothing else of the headers. -/
theorem showTime_withHdrs {h : Tbl Header} {t : Time} (hst : (s.withHdrs h).stateOf .time n = s.stateOf .time n) :
    showTime n t (s.withHdrs h) = (showTime n t s).withHdrs h := by
  simp only [showTime, hst, set_withHdrs]
  rfl

/-- The status fields that a read brings up to its instant do not depend on the headers, but for the STATE of their page. -/
theorem freshStatus_withHdrs {h : Tbl Header} (hst : (s.withHdrs h).stateOf b n = s.stateOf b n) :
    freshStatus b n (s.withHdrs h) = (freshStatus b n s).withHdrs h := by
  cases b
  case time => exact showTime_withHdrs hst
  case sup | svb => exact showAges_withHdrs
  case aud => exact set_withHdrs
  all_goals rfl

/-! ### A lease takes part in no read but that of LEASE -/

/-- A lease decides no right. -/
theorem mayDo_owner {h : Header} {w k r : Nat} : mayDo { h with owner := w } k r = mayDo h k r := rfl

/-- OWNER shows in LEASE alone. -/
theorem headerWord_owner {h : Header} {w : Nat} (hl : off % 0x1000 ≠ 0x24) :
    headerWord b n { h with owner := w } off = headerWord b n h off := by
  unfold headerWord
  split
  case h_10 e => exact absurd e hl
  all_goals rfl

/-- A block register reads alike whoever holds the lease. -/
theorem blockWord_owner {row : RegRow} {w : Nat} (hs : Inv s) (hn : n < blkCount b) :
    blockWord (s.setHdr b n { s.hdr b n with owner := w }) o b n off row = blockWord s o b n off row := by
  have hh := hdr_setHdr_same (h := { s.hdr b n with owner := w }) hs.hdrs.1 hn
  rw [setHdr_eq_withHdrs hn] at hh ⊢
  have hst : (s.withHdrs (Tbl.put Header.reset (pageKey b n) { s.hdr b n with owner := w } s.hdrs)).stateOf b n =
      s.stateOf b n := by rw [State.stateOf, hh]; rfl
  unfold blockWord
  rw [hh, freshStatus_withHdrs hst]
  rfl

/-- A read is refused for no lease (R29): with another OWNER everything but LEASE reads the same. -/
theorem readAt_owner {w : Nat} (hs : Inv s) (hn : n < blkCount b) (hl : off % 0x1000 ≠ 0x24) :
    readAt (s.setHdr b n { s.hdr b n with owner := w }) o b n off = readAt s o b n off := by
  have hh := hdr_setHdr_same (h := { s.hdr b n with owner := w }) hs.hdrs.1 hn
  have hz : readsZero (s.setHdr b n { s.hdr b n with owner := w }) o b n off = readsZero s o b n off := by
    rw [readsZero, hh, mayDo_owner]; rfl
  unfold readAt
  rw [hz, hh, headerWord_owner hl]
  simp only [blockWord_owner hs hn]

/-- Settles O9: the read right alone decides whether a page reads zero, and OWNER shows in LEASE only. -/
theorem readsNeedTheRight : Obligations.ReadsNeedTheRight := by
  intro s o b n off hs hn ho
  refine ⟨fun h0 hr => ?_, fun h0 => ?_, fun hl w => ?_⟩
  · rw [readReg_addrOf hn ho, readAt_of_noRight h0 hr]
  · rw [readReg_addrOf hn ho, readAt_pageId h0]
  · rw [readReg_addrOf hn ho, readReg_addrOf hn ho, readAt_owner hs hn hl]

end Sys2Proof.Machine
end

section
/-! PROOFS. Writes of COMMIT (R33): the outcomes of a granted one, and what a logged error leaves of a header. -/

namespace Sys2Proof.Machine

variable {s : State} {o : Origin} {b c : Block} {n m off t : Nat} {v : Word}

theorem exec_commit {p : Page} : exec (.commit o p t) s = wrote o (pageAddr p 0x1C) 1 t s := rfl

theorem exec_abort {p : Page} : exec (.abort o p t) s = wrote o (pageAddr p 0x1C) 2 t s := rfl

theorem writeHeader_commit (h : off % 0x1000 = 0x1C) : writeHeader o b n off v s = writeCommit o b n off v s := by
  simp only [writeHeader, h]

/-- A granted write of COMMIT through any page of its window (R22). -/
theorem wrote_commit {p : Page} {k : Nat} (hs : Inv s) (hp : PageOk p)
    (ha : accessCode s o p.blk p.inst (pageOff p 0x1C) 2 = 0) :
    wrote o (pageAddr p 0x1C) k t s =
      .next (after s (writeCommit o p.blk p.inst (pageOff p 0x1C) (BitVec.ofNat 32 k) (onBus o p.blk p.inst t s))) := by
  have e : pageOff p 0x1C % 0x1000 = 0x1C := by simp only [pageOff]; omega
  rw [wrote_header hs.hdrs.1 hp (by decide) ha, writeHeader_commit e]

/-- What ABORT does on the page of a block with RWS fields (R35). -/
def abortEffect (b : Block) (n : Nat) (s : State) : State := freshCommit b n (commitAbort b n s)

/-- With ABORT written 1 a write of COMMIT aborts, whatever COMMIT is written as (R35); on a page without RWS fields it has no
effect (R33). -/
theorem writeCommit_abort (hv : getBit v.toNat 1 = true) :
    writeCommit o b n off v s = if blkCommits b then abortEffect b n s else s := if_pos hv

/-- A commit request on a page without RWS fields is error 0x10 (R33). -/
theorem writeCommit_noStaged (hb : blkCommits b = false) (h1 : getBit v.toNat 1 = false) (h0 : getBit v.toNat 0 = true) :
    writeCommit o b n off v s = logAccess b n 0x10 o.code off 0 s := by
  simp [writeCommit, hb, h1, h0]

/-! ### What an error leaves of a header -/

@[simp] theorem sendMsix_hdrs {p vec : Nat} : (sendMsix p vec s).hdrs = s.hdrs := by
  simp only [sendMsix]
  split
  · rfl
  · split <;> rfl

@[simp] theorem notify_hdrs : (notify b n s).hdrs = s.hdrs := by
  have hsend : ∀ (u : State) (q : Bool) (p vec : Nat), (if q then sendMsix p vec u else u).hdrs = u.hdrs :=
    fun u _ _ _ => ite_ind (P := fun w : State => w.hdrs = u.hdrs) sendMsix_hdrs rfl
  exact ite_ind (P := fun u : State => u.hdrs = s.hdrs) ((hsend ..).trans (hsend ..)) ((hsend ..).trans (hsend ..))

/-- An event sets its RAW bit and nothing else of its header. -/
theorem raise_hdr {e : Nat} (hs : Tbl.sorted s.hdrs = true) (hn : n < blkCount b) :
    (raise b n e s).hdr b n = { s.hdr b n with raw := (s.hdr b n).raw ||| BitVec.ofNat 32 (2 ^ e) } := by
  have key := hdr_setHdr_same (h := { s.hdr b n with raw := (s.hdr b n).raw ||| BitVec.ofNat 32 (2 ^ e) }) hs hn
  simp only [raise]
  split
  · rw [State.hdr, notify_hdrs]; exact key
  · exact key

/-- The first error is kept with its access and raises event 29; a later one sets ERR_LOST (R30). -/
theorem logAccess_hdr {code org d : Nat} (hs : Tbl.sorted s.hdrs = true) (hn : n < blkCount b) :
    (logAccess b n code org off d s).hdr b n =
      if (s.hdr b n).errCode ≠ 0 then { s.hdr b n with errLost := true }
      else { s.hdr b n with
        errCode := code, errOrigin := org, errOff := off % 0x1000, errDetail := d, errPage := off / 0x1000 % 16,
        raw := (s.hdr b n).raw ||| BitVec.ofNat 32 (2 ^ 29) } := by
  simp only [logAccess]
  split
  · exact hdr_setHdr_same hs hn
  · rw [raise_hdr (sorted_setHdr hs) hn, hdr_setHdr_same hs hn]

/-- An error leaves SEQUENCE and OUTCOME alone. -/
theorem logAccess_commitStatus {code org d : Nat} (hs : Tbl.sorted s.hdrs = true) (hn : n < blkCount b) :
    ((logAccess b n code org off d s).hdr b n).seq = (s.hdr b n).seq ∧
      ((logAccess b n code org off d s).hdr b n).outcome = (s.hdr b n).outcome := by
  rw [logAccess_hdr hs hn]
  split <;> exact ⟨rfl, rfl⟩

/-- The layers of a head commit with it (R33). -/
theorem layer_mem_commitGroup {h k : Nat} (hk : k < 16) : (Block.layer, 16 * h + k) ∈ commitGroup .head h :=
  List.mem_cons_of_mem _ (List.mem_map.2 ⟨_, List.mem_map.2 ⟨k, List.mem_range.2 hk, rfl⟩, rfl⟩)

/-- Settles O15: on a page without RWS fields a granted COMMIT is a logged error 0x10, and ABORT leaves the part as the write
finds it. -/
theorem commitsNeedStagedFields : Obligations.CommitsNeedStagedFields := by
  refine ⟨fun o p t s hs hp hb ha => ⟨?_, ?_⟩, fun h k => layer_mem_commitGroup k.isLt⟩
  · obtain ⟨l, hl⟩ := onBus_hdr (o := o) (b := p.blk) (n := p.inst) (t := t) hs.hdrs.1 hp.1
    have hx := logAccess_commitStatus (code := 0x10) (org := o.code) (off := pageOff p 0x1C) (d := 0)
      (inv_onBus (o := o) (b := p.blk) (n := p.inst) (t := t) hs).hdrs.1 hp.1
    rw [hl] at hx
    refine ⟨?_, hx⟩
    rw [exec_commit, wrote_commit hs hp ha, writeCommit_noStaged hb (by decide) (by decide)]
  · rw [exec_abort, wrote_commit hs hp ha, writeCommit_abort (by decide), hb]
    rfl

end Sys2Proof.Machine
end

section
/-! PROOFS. ABORT (R35): the staged values of a commit group become the values in effect again, and a write of one whole register
through REGISTER_WRITE is that register's write. -/

namespace Sys2Proof.Machine

variable {s : State} {o : Origin} {b c : Block} {n m off t : Nat} {v : Word}

/-! ### One register's staged copy is discarded -/

@[simp] theorem forEach_discardAt_regs {l : List Nat} : (forEach l discardAt s).regs = s.regs :=
  forEach_ind (P := fun u : State => u.regs = s.regs) (fun _ _ h => h) rfl

@[simp] theorem forEach_discardAt_hdrs {l : List Nat} : (forEach l discardAt s).hdrs = s.hdrs :=
  forEach_ind (P := fun u : State => u.hdrs = s.hdrs) (fun _ _ h => h) rfl

/-- After a discard at some addresses the staged copy there is the copy in effect, and elsewhere what it was. -/
theorem forEach_discardAt_stag {l : List Nat} {a : Nat} (hs : Tbl.sorted s.stag = true) :
    Tbl.get (resetAt a) (forEach l discardAt s).stag a =
      if a ∈ l then Tbl.get (resetAt a) s.regs a else Tbl.get (resetAt a) s.stag a := by
  induction l generalizing s with
  | nil => rfl
  | cons k l ih =>
    refine (ih (s := discardAt k s) (tbl_sorted_put hs)).trans ?_
    by_cases hl : a ∈ l
    · rw [if_pos hl, if_pos (List.mem_cons_of_mem _ hl)]; rfl
    · rw [if_neg hl]
      by_cases hk : a = k
      · subst hk
        rw [if_pos (List.mem_cons_self ..)]
        exact tbl_get_put_same hs
      · rw [if_neg (by simp [hl, hk])]
        exact tbl_get_put_other hk

/-! ### One window's staged values are discarded -/

/-- A register that a window lists is one of that window, not of another. -/
theorem owner_of_mem_windowKeys (hm : m < blkCount c) (ho : off < blkPages c * 0x1000)
    (h : addrOf c m off ∈ s.windowKeys b n) : (c, m) = (b, n) := by
  obtain ⟨h1, h2⟩ := mem_windowKeys h
  by_cases hn : n < blkCount b
  · rw [if_pos hn] at h2
    have e : addrOf c m off = addrOf b n (addrOf c m off - winBase b n) := by rw [addrOf.eq_1 b]; omega
    obtain ⟨rfl, rfl, -⟩ := addrOf_inj hm ho hn (by omega) e
    rfl
  · rw [if_neg hn] at h2
    omega

/-- A register that its window does not list reads its reset value in both copies. -/
theorem get_of_notMem_windowKeys {d : Word} (hn : n < blkCount b) (ho : off < blkPages b * 0x1000)
    (h : addrOf b n off ∉ s.windowKeys b n) :
    Tbl.get d s.regs (addrOf b n off) = d ∧ Tbl.get d s.stag (addrOf b n off) = d := by
  have hw : winBase b n ≤ addrOf b n off ∧ addrOf b n off < winBase b n + blkPages b * 0x1000 := by
    simp only [addrOf]; omega
  have hk : ∀ e ∈ s.regs ++ s.stag, e.1 ≠ addrOf b n off := by
    intro e he ha
    refine h (List.mem_filter.2 ⟨List.mem_map.2 ⟨e, he, ha⟩, ?_⟩)
    simpa [hn] using hw
  exact ⟨tbl_get_mem.resolve_right fun e => hk _ (List.mem_append_left _ e) rfl,
    tbl_get_mem.resolve_right fun e => hk _ (List.mem_append_right _ e) rfl⟩

@[simp] theorem discardStaged_regs : (s.discardStaged b n).regs = s.regs := by simp [State.discardStaged]

@[simp] theorem discardStaged_word : (s.discardStaged b n).word c m off = s.word c m off := by simp [State.word]

/-- The staged copy of the window is the copy in effect, and that of every other window is as it was. -/
theorem discardStaged_wordS (hs : Inv s) (hm : m < blkCount c) (ho : off < blkPages c * 0x1000) :
    (s.discardStaged b n).wordS c m off = if (c, m) = (b, n) then s.word c m off else s.wordS c m off := by
  have key := forEach_discardAt_stag (l := s.windowKeys b n) (a := addrOf c m off) hs.stag.1
  rw [resetAt_addrOf hm ho] at key
  simp only [State.discardStaged, State.wordS, State.word, setHdr_stag, key]
  by_cases hk : addrOf c m off ∈ s.windowKeys b n
  · rw [if_pos hk, if_pos (owner_of_mem_windowKeys hm ho hk)]
  · rw [if_neg hk]
    split
    · rename_i e
      cases e
      obtain ⟨h1, h2⟩ := get_of_notMem_windowKeys (d := resetWord b n off) hm ho hk
      rw [h1, h2]
    · rfl

/-- ENABLE is staged and discarded with the window's registers (R536). -/
theorem discardStaged_hdr (hs : Inv s) (hm : m < blkCount c) :
    (s.discardStaged b n).hdr c m =
      if (c, m) = (b, n) then { s.hdr c m with enableStaged := (s.hdr c m).enable } else s.hdr c m := by
  have hf : ∀ d k, (forEach (s.windowKeys b n) discardAt s).hdr d k = s.hdr d k := fun d k => by
    rw [State.hdr, forEach_discardAt_hdrs]; rfl
  simp only [State.discardStaged]
  rw [hdr_setHdr (by rw [forEach_discardAt_hdrs]; exact hs.hdrs.1) hm, hf, hf]
  split
  · rename_i e
    cases e
    rfl
  · rfl

theorem inv_discardStaged (hs : Inv s) : Inv (s.discardStaged b n) :=
  inv_of_good (good_discardStaged (good_of_inv hs))

/-! ### A commit group's staged values are discarded -/

@[simp] theorem discardGroup_word : (discardGroup b n s).word c m off = s.word c m off :=
  forEach_ind (P := fun u : State => u.word c m off = s.word c m off) (fun _ _ h => discardStaged_word.trans h) rfl

/-- Over a list of windows: the staged copies of those listed are the copies in effect. -/
theorem forEach_discardStaged_wordS {l : List (Block × Nat)} (hs : Inv s) (hm : m < blkCount c)
    (ho : off < blkPages c * 0x1000) :
    (forEach l (fun x u => u.discardStaged x.1 x.2) s).wordS c m off =
      if (c, m) ∈ l then s.word c m off else s.wordS c m off := by
  induction l generalizing s with
  | nil => rfl
  | cons x l ih =>
    obtain ⟨d, k⟩ := x
    refine (ih (s := s.discardStaged d k) (inv_discardStaged hs)).trans ?_
    rw [discardStaged_word, discardStaged_wordS hs hm ho]
    by_cases hl : (c, m) ∈ l
    · simp only [hl, List.mem_cons, or_true, if_true]
    · simp only [hl, List.mem_cons, or_false, if_false]

theorem forEach_discardStaged_hdr {l : List (Block × Nat)} (hs : Inv s) (hm : m < blkCount c) :
    (forEach l (fun x u => u.discardStaged x.1 x.2) s).hdr c m =
      if (c, m) ∈ l then { s.hdr c m with enableStaged := (s.hdr c m).enable } else s.hdr c m := by
  induction l generalizing s with
  | nil => rfl
  | cons x l ih =>
    obtain ⟨d, k⟩ := x
    refine (ih (s := s.discardStaged d k) (inv_discardStaged hs)).trans ?_
    rw [discardStaged_hdr hs hm]
    by_cases hl : (c, m) ∈ l
    · simp only [hl, List.mem_cons, or_true, if_true]
      split <;> rfl
    · simp only [hl, List.mem_cons, or_false, if_false]

/-- The pages of a commit group exist. -/
theorem commitGroup_exists {g : Block × Nat} (hn : n < blkCount b) (hg : g ∈ commitGroup b n) : g.2 < blkCount g.1 := by
  cases b
  case head =>
    simp only [commitGroup, headLayers, List.mem_cons, List.mem_map, List.mem_range] at hg
    rcases hg with rfl | ⟨_, ⟨i, hi, rfl⟩, rfl⟩
    · exact hn
    · have : n < 4 := hn
      change 16 * n + i < 64
      omega
  all_goals
    rw [List.mem_singleton.1 hg]
    exact hn

theorem self_mem_commitGroup : (b, n) ∈ commitGroup b n := by
  cases b <;> exact List.mem_cons_self ..

/-! ### ABORT -/

/-- A header after its commit, if one is pending, has ended unapplied (R35). -/
def Header.endCommit (h : Header) : Header :=
  if h.pendingCommit then { h with outcome := 0, reason := 0, pendingCommit := false, checked := false, busy := false } else h

theorem Header.endCommit_pendingCommit {h : Header} : h.endCommit.pendingCommit = false := by
  unfold Header.endCommit
  split
  · rfl
  · exact Bool.eq_false_iff.2 ‹_›

theorem Header.endCommit_outcome {h : Header} : h.endCommit.outcome = if h.pendingCommit then 0 else h.outcome := by
  unfold Header.endCommit
  split <;> rfl

theorem Header.endCommit_seq {h : Header} : h.endCommit.seq = h.seq := by
  unfold Header.endCommit
  split <;> rfl

theorem Header.endCommit_enable {h : Header} : h.endCommit.enable = h.enable := by
  unfold Header.endCommit
  split <;> rfl

/-- The first half of an ABORT: the commit ends unapplied, and the staged values still stand. -/
def State.endCommit (s : State) (b : Block) (n : Nat) : State :=
  if (s.hdr b n).pendingCommit then s.setHdr b n (s.hdr b n).endCommit else s

theorem commitAbort_eq : commitAbort b n s = discardGroup b n (s.endCommit b n) := by
  simp only [commitAbort, State.endCommit, Header.endCommit]
  split <;> rfl

@[simp] theorem State.endCommit_regs : (s.endCommit b n).regs = s.regs := by
  unfold State.endCommit
  split <;> simp

theorem inv_endCommit (hs : Inv s) : Inv (s.endCommit b n) := by
  unfold State.endCommit
  split
  · refine inv_of_good (good_setHdr (fun k => ?_) (good_of_inv hs))
    rw [Header.endCommit, if_pos ‹_›]
    exact { k with outcome := fun e => nomatch e }
  · exact hs

theorem State.endCommit_hdr (hs : Inv s) (hm : m < blkCount c) :
    (s.endCommit b n).hdr c m = if (c, m) = (b, n) then (s.hdr c m).endCommit else s.hdr c m := by
  unfold State.endCommit
  by_cases hp : (s.hdr b n).pendingCommit = true
  · rw [if_pos hp, hdr_setHdr hs.hdrs.1 hm]
    split
    · rename_i e
      cases e
      rfl
    · rfl
  · rw [if_neg hp]
    split
    · rename_i e
      cases e
      rw [Header.endCommit, if_neg hp]
    · rfl

/-- ABORT changes no register in effect. -/
theorem commitAbort_word : (commitAbort b n s).word c m off = s.word c m off := by
  rw [commitAbort_eq, discardGroup_word, State.word, State.endCommit_regs]
  rfl

/-- After an ABORT the staged registers of the group are those in effect. -/
theorem commitAbort_wordS (hs : Inv s) (hm : m < blkCount c) (ho : off < blkPages c * 0x1000)
    (hg : (c, m) ∈ commitGroup b n) : (commitAbort b n s).wordS c m off = s.word c m off := by
  rw [commitAbort_eq, discardGroup, forEach_discardStaged_wordS (inv_endCommit hs) hm ho, if_pos hg, State.word,
    State.endCommit_regs]
  rfl

/-- After an ABORT the staged ENABLE of the group is the one in effect, and the page's own commit has ended. -/
theorem commitAbort_hdr (hs : Inv s) (hm : m < blkCount c) (hg : (c, m) ∈ commitGroup b n) :
    (commitAbort b n s).hdr c m =
      { (if (c, m) = (b, n) then (s.hdr c m).endCommit else s.hdr c m) with enableStaged := (s.hdr c m).enable } := by
  rw [commitAbort_eq, discardGroup, forEach_discardStaged_hdr (inv_endCommit hs) hm, if_pos hg, State.endCommit_hdr hs hm]
  split
  · rw [Header.endCommit_enable]
  · rfl

/-! ### What a head and an encoder keep of a commit's evaluation -/

theorem dropCommits_regs {e : Nat} : (dropCommits e s).regs = s.regs :=
  forEach_ind (P := fun u : State => u.regs = s.regs) (fun _ _ h => h) rfl

theorem dropCommits_stag {e : Nat} : (dropCommits e s).stag = s.stag :=
  forEach_ind (P := fun u : State => u.stag = s.stag) (fun _ _ h => h) rfl

theorem dropCommits_hdrs {e : Nat} : (dropCommits e s).hdrs = s.hdrs :=
  forEach_ind (P := fun u : State => u.hdrs = s.hdrs) (fun _ _ h => h) rfl

theorem freshCommit_stag : (freshCommit b n s).stag = s.stag := by
  cases b
  case head => simp [freshCommit, State.set]
  case enc => exact dropCommits_stag
  all_goals rfl

theorem freshCommit_hdrs : (freshCommit b n s).hdrs = s.hdrs := by
  cases b
  case head => simp [freshCommit, State.set]
  case enc => exact dropCommits_hdrs
  all_goals rfl

/-- A head's COMMIT_WAIT starts anew with a commit, and no other register changes. -/
theorem freshCommit_word (hm : m < blkCount c) (ho : off < blkPages c * 0x1000) (h : ¬(c = .head ∧ off = 0x68)) :
    (freshCommit b n s).word c m off = s.word c m off := by
  cases b
  case head =>
    have hne : (c, m, off) ≠ (Block.head, n, 0x68) := fun e => h (by cases e; exact ⟨rfl, rfl⟩)
    exact (word_set_other hm ho hne).trans (word_set_other hm ho hne)
  case enc => rw [freshCommit, State.word, dropCommits_regs]; rfl
  all_goals rfl

/-! ### The effect of ABORT -/

/-- ABORT changes no register in effect but a head's COMMIT_WAIT. -/
theorem abortEffect_word (hm : m < blkCount c) (ho : off < blkPages c * 0x1000) (h : ¬(c = .head ∧ off = 0x68)) :
    (abortEffect b n s).word c m off = s.word c m off :=
  (freshCommit_word hm ho h).trans commitAbort_word

/-- After ABORT the staged registers of the group are those that were in effect. -/
theorem abortEffect_wordS (hs : Inv s) (hm : m < blkCount c) (ho : off < blkPages c * 0x1000)
    (hg : (c, m) ∈ commitGroup b n) : (abortEffect b n s).wordS c m off = s.word c m off := by
  rw [abortEffect, State.wordS, freshCommit_stag]
  exact commitAbort_wordS hs hm ho hg

/-- After ABORT the page's own commit has ended. -/
theorem abortEffect_hdr_self (hs : Inv s) (hn : n < blkCount b) :
    (abortEffect b n s).hdr b n = { (s.hdr b n).endCommit with enableStaged := (s.hdr b n).enable } := by
  rw [abortEffect, State.hdr, freshCommit_hdrs]
  exact (commitAbort_hdr hs hn self_mem_commitGroup).trans (by rw [if_pos rfl])

/-- ABORT leaves every ENABLE of the group in effect as it is, and staged the same. -/
theorem abortEffect_enable (hs : Inv s) (hm : m < blkCount c) (hg : (c, m) ∈ commitGroup b n) :
    ((abortEffect b n s).hdr c m).enableStaged = (s.hdr c m).enable ∧
      ((abortEffect b n s).hdr c m).enable = (s.hdr c m).enable := by
  rw [abortEffect, State.hdr, freshCommit_hdrs, ← State.hdr, commitAbort_hdr hs hm hg]
  split
  · exact ⟨rfl, Header.endCommit_enable⟩
  · exact ⟨rfl, rfl⟩

/-! ### A write access of one whole register -/

theorem natLE_bytesLE (k x : Nat) : natLE (bytesLE k x) = x % 256 ^ k := by
  induction k generalizing x with
  | zero => simp [bytesLE, natLE, Nat.mod_one]
  | succ k ih =>
    rw [bytesLE, natLE, ih, BitVec.toNat_ofNat, show 256 ^ (k + 1) = 256 * 256 ^ k from Nat.pow_succ']
    exact Nat.mod_mul.symm

/-- The bytes of a word spell it. -/
theorem ofNat_natLE_bytesLE : BitVec.ofNat 32 (natLE (bytesLE 4 v.toNat)) = v := by
  rw [natLE_bytesLE]
  exact BitVec.eq_of_toNat_eq (by simp only [BitVec.toNat_ofNat]; omega)

theorem touched_word {a : Nat} (ha : a % 4 = 0) : touched a 4 = [a] := by
  have h1 : (a + 4 - 1) / 4 + 1 - a / 4 = 1 := by omega
  have h2 : 4 * (a / 4 + 0) = a := by omega
  simp only [touched, h1, List.range_one, List.map_cons, List.map_nil, h2]
  rfl

/-- An access that covers one register whole is that register's write (R23). -/
theorem writeAccess_word {a d : Nat} (ha : a % 4 = 0) :
    writeAccess o d a (bytesLE 4 v.toNat) [] s = writeReg o d a v s := by
  have ht : touchedRegs a [true, true, true, true] = [a] := by
    simp [touchedRegs, touched_word ha, List.range_succ]
  have hw : wholeRegs a [true, true, true, true] = true := by
    simp [wholeRegs, touched_word ha, ha, List.range_succ]
  have hf : wordsFrom a (bytesLE 4 v.toNat) = [(a, v)] :=
    congrArg (fun w => [(a, w)]) ofNat_natLE_bytesLE
  have hb : (List.range (bytesLE 4 v.toNat).length).map (fun i => [].getD i true) = [true, true, true, true] := rfl
  unfold writeAccess
  simp only [hb, ht, hw, hf, if_true]
  simp [forEach]

theorem addrOf_aligned (h : off % 4 = 0) : addrOf b n off % 4 = 0 := by
  have hb : blkBase b % 4 = 0 := by cases b <;> rfl
  have e : n * (blkPages b * 0x1000) = 4 * (n * blkPages b * 0x400) := by
    rw [← Nat.mul_assoc]; omega
  simp only [addrOf, winBase, e]
  omega

/-- REGISTER_WRITE of one whole header register through a page is the write of that register. -/
theorem exec_registerWrite_page {p : Page} (hp : PageOk p) (h : off % 4 = 0) :
    exec (.registerWrite o (addrOf p.blk p.inst (pageOff p off)) (bytesLE 4 v.toNat) [] 0 t) s =
      wrote o (pageAddr p off) v.toNat t s := by
  have ha : addrOf p.blk p.inst (pageOff p off) % 4 = 0 := addrOf_aligned (by simp only [pageOff]; omega)
  have e : pageAddr p off = addrOf p.blk p.inst (pageOff p off) := if_pos ⟨hp.1, hp.2⟩
  rw [wrote, e, BitVec.ofNat_toNat, BitVec.setWidth_eq]
  exact congrArg (fun x => Host.Outcome.next (after s x)) (writeAccess_word ha)

/-- A granted write of COMMIT with ABORT set is the ABORT, whatever its bit 0. -/
theorem wrote_abort {p : Page} {k : Nat} (hs : Inv s) (hp : PageOk p) (hb : blkCommits p.blk = true)
    (ha : accessCode s o p.blk p.inst (pageOff p 0x1C) 2 = 0) (hk : getBit (BitVec.ofNat 32 k).toNat 1 = true) :
    wrote o (pageAddr p 0x1C) k t s = .next (after s (abortEffect p.blk p.inst (onBus o p.blk p.inst t s))) := by
  rw [wrote_commit hs hp ha, writeCommit_abort hk, if_pos hb]

theorem onBus_word : (onBus o b n t s).word c m off = s.word c m off := by
  rw [State.word, onBus_regs]
  rfl

theorem onBus_enable (hs : Inv s) (hm : m < blkCount c) : ((onBus o b n t s).hdr c m).enable = (s.hdr c m).enable := by
  obtain ⟨l, hl⟩ := onBus_hdr (o := o) (b := b) (n := n) (t := t) hs.hdrs.1 hm
  rw [hl]

/-- Settles O17: every granted write of COMMIT with ABORT set has the effect of ABORT, which ends the page's commit and makes
the staged copies of its group those in effect. -/
theorem commitsAborted : Obligations.CommitsAborted := by
  intro o p t s hs hp hb ha
  have hx : Inv (onBus o p.blk p.inst t s) := inv_onBus hs
  have hown := abortEffect_hdr_self hx hp.1
  obtain ⟨l, hl⟩ := onBus_hdr (o := o) (b := p.blk) (n := p.inst) (t := t) hs.hdrs.1 hp.1
  rw [hl] at hown
  refine ⟨_, wrote_abort hs hp hb ha (k := 2) (by decide),
    (exec_registerWrite_page (v := 3) hp (by decide)).trans (wrote_abort hs hp hb ha (by decide)), ?_⟩
  rw [hown]
  refine ⟨Header.endCommit_pendingCommit, fun hpend => Header.endCommit_outcome.trans (if_pos hpend),
    fun hpend => Header.endCommit_outcome.trans (if_neg (Bool.eq_false_iff.1 hpend)), Header.endCommit_seq,
    Header.endCommit_enable, fun c m off hm ho hne => (abortEffect_word hm ho hne).trans onBus_word, fun g hg => ?_⟩
  have hm := commitGroup_exists hp.1 hg
  obtain ⟨hstaged, hen⟩ := abortEffect_enable hx hm hg
  exact ⟨hstaged.trans hen.symm, hen.trans (onBus_enable hs hm),
    fun off ho => (abortEffect_wordS hx hm ho hg).trans onBus_word⟩

end Sys2Proof.Machine
end
